-- ==== Sys2Proof/Word.lean ====
section
/-! DEFINITION. The word and index types of the Hatan: the 32-bit word of the host link (R4), bytes, and the bounded
numbers of channels, groups, mailbox channels, strings, timers and the like. -/

namespace Sys2Proof

/-- A 32-bit word of the host link, of a Deolo message or of a direct register (R4, R74). -/
abbrev Word := BitVec 32

/-- A byte of a service frame, a Share Bus payload or an image. -/
abbrev Byte := BitVec 8

/-- A power-path channel CH0 to CH23 (R15). -/
abbrev Ch := Fin 24

/-- A Marionette group G0 to G3, and equally a converter CNV0 to CNV3 (R15, R294). -/
abbrev Grp := Fin 4

/-- A mailbox channel 0 to 15 (R85). -/
abbrev Mb := Fin 16

/-- A battery string 0 to 3 (R418). -/
abbrev Str := Fin 4

/-- A general timer TMR0 to TMR15 (R372). -/
abbrev Tmr := Fin 16

/-- A field line FL0 to FL15 (R465). -/
abbrev Line := Fin 16

/-- A thermistor NTC0 to NTC7 (R302). -/
abbrev Ntc := Fin 8

end Sys2Proof
end

