-- ==== Sys2Proof/Syntax.lean ====
section
/-! DEFINITION. The commands the Hatan takes: one constructor of `Instr` for each row of spec/opcode_table.json, with
its operands, and the types of those operands. A command is a happening at the boundary of the block: a frame on a
port, a Deolo message the firmware consumes, an event of the plant or of one of the Hatan's own clocks. Where a
command carries measured quantities (the guard samples of a tick, the means of a cycle), they are operands. -/

namespace Sys2Proof

/-- The chip select of an SPI frame (R64). -/
inductive Cs
  | ns | s
  deriving DecidableEq, Repr

/-- One of the two Puppeteers. -/
inductive Pup
  | a | b
  deriving DecidableEq, Repr

/-- Who reads a direct register: the SPI, or the service bridge (R82, R517). -/
inductive Reader
  | spi | bridge
  deriving DecidableEq, Repr

/-- The ECC-protected memories of the main die (R30, Table 1.4). -/
inductive EccMem
  | localA | localB | shared
  deriving DecidableEq, Repr

/-- The rate-limited families of causes for which the Music Box declares the mains lost (R275). -/
inductive LossCause
  | amplitude (pins : Nat)   -- the pins for which the magnitude has stayed below DRM.ACS_MIN_MV without a break
  | crossings   -- 10 240 pins without a valid crossing
  | frequency   -- DRM.LOCK_CYC periods outside 40 Hz to 70 Hz
  deriving DecidableEq, Repr

/-- The wake sources of R60; nRESET is its own command. For the mains, what the detector of the slow domain has seen: two
crossings, and the time between them in ns (R291). -/
inductive WakeSrc
  | mains (periodNs : Nat) | svc | fieldLine | keepingTimer
  deriving DecidableEq, Repr

/-- What the scrubber finds in a word, the rows of Table 18.6 (R487). -/
inductive ScrubFinding
  | clean
  | single
  | slotNotInForce (rtype inst : Nat)
  | slotInForce (rtype inst : Nat)
  | journal (idx : Nat)
  | sheet (upper : Bool)
  | bankOrLog
  deriving DecidableEq, Repr

/-- Why the protective interface rejects a frame (R350). -/
inductive XifReject
  | badCrc | badCmd (cmd : Nat) | badLength
  deriving DecidableEq, Repr

/-- An identifier of the metrology port (Table 13.11). -/
inductive MetroId
  | energyImport (n : Ch) | energyExport (n : Ch)
  | sealCount | calGen | snapSeq | serial | version | progCrc
  | voltage (k : Fin 4)
  | chEnable (n : Ch) | chVoltage (n : Ch) | chNoLoad (n : Ch)
  | zeroI (n : Ch) | zeroV (k : Fin 4) | fullI (n : Ch) | fullV (k : Fin 4)
  | abandon
  | unknown (code : Nat)
  deriving DecidableEq, Repr

/-- A write frame on the SPI as it was clocked in (R65, R67): the header, the data words received, the data CRC, and
the number of bits from select fall to select rise. `mode12` says that the frame came in SPI mode 1 or 2 (R62). -/
structure SpiWrite where
  cs : Cs
  header : Word
  words : List Word
  dcrc : BitVec 16
  bits : Nat
  mode12 : Bool
  deriving DecidableEq, Repr

/-- A read frame on the SPI (R65, R68). -/
structure SpiRead where
  cs : Cs
  header : Word
  bits : Nat
  mode12 : Bool
  deriving DecidableEq, Repr

/-- The guard samples and driver reports of one channel at one tick (R296, R297): the current and the drop in
1/16 mA and 1/16 mV, the two side voltages in 1/16 mV (R300), the charge-pump reservoir and the two gate levels in mV above
source, as the channel array reports them to its Marionette (Table 1.2). -/
structure ChSense where
  i16 : Int
  drop16 : Int
  vs : Int
  csn : Int
  pump : Nat
  gateA : Nat
  gateB : Nat
  deriving DecidableEq, Repr

/-- What the four Marionettes see at one tick: the guard samples of the 24 channels and the bus sample of CNV0 in 1/16 mV
(R300), and whether a fine DROP sample stood at an end of its code range (R301). -/
structure TickIn where
  ch : Vector ChSense 24
  busMv16 : Int
  dropEnd : Vector Bool 24
  deriving DecidableEq, Repr

/-- A cycle mean's data: the sum over the guard samples of one cycle in 1/16 unit, and their number (R299). -/
structure Mean where
  sum16 : Int
  n : Nat
  deriving DecidableEq, Repr

/-- The guard samples of one channel in the cycle that no MARIONETTE_TICK has delivered: their sums and number, which join
those of the ticks, and whether the shunt amplifier was over range among them (R130, R131, R299). -/
structure ChMeans where
  i : Mean
  vs : Mean
  drop : Mean
  csn : Mean
  ovr : Bool
  deriving DecidableEq, Repr

/-- What the cycle boundary delivers from the analogue side: the means of the guard and special slots (Table 11.3), the
REF samples in µV (R303), the measured own power and HOLD level. `bus` are the special samples of CNV3, and `sense` those of
CNV0 that no MARIONETTE_TICK has delivered. -/
structure BoundaryIn where
  ch : Vector ChMeans 24
  bus : Vector Mean 4
  sense : Mean
  ntc : Vector Mean 8
  die16 : Mean
  vin : Mean
  refUv : Vector Nat 4
  selfMw : Nat
  holdMv : Nat
  deriving DecidableEq, Repr

/-- What the BOOT self-test finds (R42): failed channels and groups as bitmaps, and the items that are not a channel's
or a group's. -/
structure SelfTest where
  chFail : Nat
  grpFail : Nat
  memFail : Bool
  handshakeFail : Bool
  xamirAnswers : Bool
  deriving DecidableEq, Repr

/-- A frame received on a Share Bus port (R444, R446, R448): `good` says it is an ISO CAN FD data frame with a 29-bit
identifier and bit-rate switching. -/
structure ShbFrame where
  port : Fin 2
  good : Bool
  prio : Nat
  type : Nat
  dst : Nat
  src : Nat
  bytes : List Byte
  deriving DecidableEq, Repr

/-- One set of simultaneous Xamir samples (R339, R341): the raw sample of each of the 24 current inputs and the four
voltage inputs, in the code of its modulator chain, and whether it reached an end of its range. -/
structure XamirSamples where
  i : Vector Int 24
  v : Vector Int 4
  rangeEnd : Vector Bool 24
  deriving DecidableEq, Repr

/-- The outcome of a calibration capture of the main die (R318): the mean of 16 × c over the capture and the smallest and
largest of its per-cycle means. -/
structure CaptureIn where
  mean : Int
  smallest : Int
  largest : Int
  deriving DecidableEq, Repr

/-- What fails in a channel's drive (R197): the charge pump, or one of the two gates. -/
inductive DriveWhy
  | pump | gateA | gateB
  deriving DecidableEq, Repr

/-- A fault of a channel's drive. -/
structure DriveFail where
  ch : Ch
  why : DriveWhy
  deriving DecidableEq, Repr

/-- How long nRESET is held low, and the level of BOOTSEL, which a restart samples (R43, R54). -/
structure ResetPulse where
  lowNs : Nat
  bootsel : Bool
  deriving DecidableEq, Repr

/-- The word of a reset key, and the level of BOOTSEL that the restart samples (R43, R77, R516). -/
structure ResetKey where
  word : Word
  bootsel : Bool
  deriving DecidableEq, Repr

/-- Which interfaces read H_LOCK in one core cycle (R82, R83). -/
inductive LockReaders
  | spi | bridge | both
  deriving DecidableEq, Repr

/-- A positive-going crossing of the AC input: the time since the valid one before it, and the extremes of the input before and
after it in mV (R273). -/
structure Crossing where
  periodNs : Nat
  fromMv : Int
  toMv : Int
  deriving DecidableEq, Repr

/-- A rising edge of SYNC_IN: the time since the valid one before it, and how long the input was low before it and high after it
(R273). -/
structure SyncRise where
  periodNs : Nat
  lowNs : Nat
  highNs : Nat
  deriving DecidableEq, Repr

/-- What lies between two beats of a Puppeteer: the time, and its writes to the configuration window (R22, R247). -/
structure BeatGap where
  ns : Nat
  writes : Nat
  deriving DecidableEq, Repr

/-- The level of a field line, and the number of consecutive samples that it has held (R395). -/
structure HeldLevel where
  high : Bool
  held : Nat
  deriving DecidableEq, Repr

/-- A pulse on a field line, and the number of samples that saw it (R396). -/
structure LinePulse where
  line : Line
  seen : Nat
  deriving DecidableEq, Repr

/-- The commands of the Hatan: the rows of spec/opcode_table.json. -/
inductive Instr
  -- start-up, supply and restarts
  | powerOn (bootsel : Bool) (holdMv : Nat) (test : SelfTest)
  | bootWindowExpiry
  | tinSoldierHandshake
  | simplexStartTimeout
  | firmwareReady
  | resumption
  | nreset (pulse : ResetPulse)
  | supplyWarning
  | supplyFail (holdMv : Nat)
  | flushComplete (holdMv : List Nat)
  | vinReturn (holdMv : Nat)
  | railCollapse
  | dormantEnter
  | wake (src : WakeSrc) (test : SelfTest)
  -- the SPI host link
  | spiWriteFrame (f : SpiWrite)
  | spiReadFrame (f : SpiRead)
  | dualCs (header : Option Word)
  | hQdataWrite (cs : Cs) (n : Mb) (words : List Word)
  | hQdataRead (cs : Cs) (n : Mb) (count : Nat) (clean : Bool)
  | hQdataRepeat (cs : Cs) (n : Mb) (count : Nat)
  | hDoorbell (cs : Cs) (v : Word)
  | hDbOutClear (cs : Cs) (v setting : Word)
  | hCollideClear (cs : Cs) (v setting : Word)
  | hIrqStatusClear (v setting : Word)
  | hIrqMaskWrite (v : Word)
  | hLockAcquire (r : LockReaders)
  | hLockRelease (r : Reader) (v : Word)
  | hReset (cs : Cs) (key : ResetKey)
  | hLinkErrRead (r : Reader)
  | hOptimeLRead (r : Reader)
  | hOptimeHRead (r : Reader)
  | hRegWrite (cs : Cs) (addr : Fin 64) (v : Word)
  | nirqPulseEnd
  -- mailboxes
  | outboundPlace (n : Mb)
  | fragmentTimeout (n : Mb)
  | inboundCollision (n : Mb)
  | inboundMalformed (n : Mb)
  -- Deolo commands at the head of inbound queue n
  | sessionOpen (n : Mb)
  | sessionAuth (n : Mb)
  | sessionClose (n : Mb)
  | echo (n : Mb)
  | cancel (n : Mb)
  | ntfSubscribe (n : Mb)
  | paramRead (n : Mb)
  | paramWrite (n : Mb)
  | paramInfo (n : Mb)
  | paramList (n : Mb)
  | modeRequest (n : Mb)
  | isolate (n : Mb)
  | restore (n : Mb)
  | groupCtrlReload (n : Mb)
  | groupCtrlSelftest (n : Mb) (failed : Nat)
  | opStartInrush (n : Mb)
  | opStartFetTest (n : Mb)
  | opStartCapTest (n : Mb)
  | opStartDurTest (n : Mb)
  | evtRead (n : Mb)
  | evtClear (n : Mb)
  | snapReadAcc (n : Mb)
  | snapReadTrk (n : Mb)
  | snapReadXamir (n : Mb)
  | chCtrlOpen (n : Mb)
  | chCtrlClose (n : Mb)
  | chCtrlArm (n : Mb)
  | chCtrlDisarm (n : Mb)
  | chCtrlClear (n : Mb)
  | chCtrlPresence (n : Mb)
  | sfkWrite (n : Mb)
  | authLockoutEnd (n : Mb)
  -- writes and reads of parameters with an effect of their own, as one-item commands of the session on channel n
  | sfkCommit (n : Mb) (v : Int)
  | sfkDrill (n : Mb) (v : Int)
  | cnvStart (n : Mb) (v : Int)
  | cnvUrgent (n : Mb) (v : Int)
  | calZero (n : Mb)
  | calFull (n : Mb)
  | calCompute (n : Mb)
  | calNominal (n : Mb)
  | calAbandon (n : Mb)
  | calDirectWrite (n : Mb) (ofs gain : Int)
  | accClear (n : Mb) (v : Int)
  | trkFreeze (n : Mb) (v : Int)
  | trkRelease (n : Mb) (v : Int)
  | tmrCtrlStart (n : Mb) (k : Tmr)
  | tmrCtrlStop (n : Mb) (k : Tmr)
  | tmrCtrlReset (n : Mb) (k : Tmr)
  | tmrCfgWrite (n : Mb) (k : Tmr) (v : Int)
  | tmrPeriodWrite (n : Mb) (k : Tmr) (v : Int)
  | tmrCmpWrite (n : Mb) (k : Tmr) (v : Int)
  | tmrCntWrite (n : Mb) (k : Tmr) (v : Int)
  | tmrCapcfgWrite (n : Mb) (k : Tmr) (v : Int)
  | tmrCapRead (n : Mb) (k : Tmr)
  | tmrCntLowRead (n : Mb) (k : Tmr)
  | ktValueWrite (n : Mb) (k : Fin 4) (v : Int)
  | flStuckMsWrite (n : Mb) (l : Line) (v : Int)
  | updTakeover (n : Mb) (v : Int)
  | updConfirm (n : Mb) (v : Int)
  | updRollback (n : Mb) (v : Int)
  | metAuditSel (n : Mb) (v : Int)
  | logCursorWrite (n : Mb) (v : Int)
  | logStateRead (n : Mb)
  -- mode events
  | bridgeStrobeInterrupt
  | acCrossing (x : Crossing)
  | syncEdge (x : SyncRise)
  | mainsLost (cause : LossCause)
  | syncLost
  | autoOnline
  | cutoffDormantTimeout
  | floatCriteriaMet (k : Str)
  | endOfDischarge (k : Str)
  | cutoffBatteryOpen
  -- supervision
  | heartbeat (p : Pup) (seq : BitVec 4) (inStep : Bool) (gap : BeatGap)
  | heartbeatTimeout (p : Pup)
  | puppeteerRestartDone (p : Pup)
  | surrender
  | clkDisagree (present : Bool)
  | coreRail
  | marSilent (g : Grp)
  | keepUvOpen (c : Ch)
  | safeOkSilent
  | xinLost
  | xinReturned
  | eccSingle (m : EccMem)
  | eccDouble (m : EccMem) (offset : Nat) (rebuildable : Bool)
  | microcodeParity (g : Grp) (word : Nat)
  | drumParity (e : Fin 256)
  | groupReloadDone (g : Grp) (crcOk : Bool)
  -- the channels
  | marionetteTick (inp : TickIn)
  | ocReflex (c : Ch) (withRc : Bool)
  | rcReflex (c : Ch)
  | armedReflex (c : Ch)
  | presenceFilter (c : Ch) (vsMv : Int)
  | autoInrushFile (c : Ch)
  | inrushFollowDone (c : Ch)
  | inrushComplete (c : Ch)
  | inrushTimeout (c : Ch)
  | fetTestEnd (c : Ch)
  | lifeLeftDaily
  | uvFilterExpiry (c : Ch)
  | overloadExpiry (c : Ch)
  | driveFault (fail : DriveFail)
  | retryAttempt (c : Ch)
  | waitCleared (c : Ch)
  | retryCountReset (c : Ch)
  -- the cycle boundary, sharing, capping, shedding
  | cycleBoundary (inp : BoundaryIn)
  | ntcValid (k : Ntc)
  | dieCool
  | cappingEnd
  | peakSupportTimeout
  | rectLeftSet (c : Ch)
  | shedRestore
  | walkin (c : Ch)
  | walkinEnd (c : Ch)
  -- the batteries
  | restReference (k : Str)
  | rejoinTimeout (k : Str)
  | stringStateWrite
  | durTestTimeout
  -- the drum
  | drumConvert (e : Fin 256)
  | drumTrack (e : Fin 256)
  | drumProbe (e : Fin 256)
  | drumSetpoint (e : Fin 256)
  | drumShed (e : Fin 256)
  | drumSwitch (e : Fin 256)
  | drumNotify (e : Fin 256)
  -- conversion, accumulators, trackers
  | cnvTrigger (k : Grp) (second : Bool) (rising : Bool)
  | cnvTriggerDelayEnd (k : Grp) (second : Bool)
  | urgentSequenceEnd (k : Grp)
  | filterWindowEnd (k : Grp) (e : Fin 32)
  | lpEntry (k : Grp)
  | calCaptureEnd (cap : CaptureIn)
  | calStored (ok : Bool)
  | trackerFreeze (b : Fin 12)
  -- Xamir
  | xamirRead (addr : Nat) (count : Fin 64) (seq : Byte)
  | snapReq (map : Nat) (challenge : Word) (seq : Byte)
  | snapFetch (ofs : Nat) (count : Fin 64) (seq : Byte)
  | snapshotSigned
  | xamirRefresh
  | xamirStore (ok : Bool)
  | xamirPowerFail (finalWritten : Bool)
  | xamirPowerUp (sealLow : Bool)
  | xamirRefLost
  | xamirRefReturn
  | vmiss (k : Fin 4) (meanMv : Nat)
  | sealOpen
  | sealClose
  | metroSignOn (baudCode : Nat)
  | metroP1
  | metroR1Read (id : MetroId)
  | metroW1Write (id : MetroId) (v : Int)
  | metroCaptureEnd (mean : Int) (steady : Bool)
  | metroTimeout
  | metCopy
  | metPoll (answered : Bool)
  | metCrossCheck
  -- timers, keeping timers, field lines
  | tmrOvf (k : Tmr)
  | tmrTop (k : Tmr)
  | tmrMatch (k : Tmr)
  | tmrCapture (k : Tmr)
  | tmrReject (k : Tmr)
  | tmrStartEdge (k : Tmr)
  | ktAlarm (k : Fin 4)
  | flLevelChange (l : Line) (level : HeldLevel)
  | flStuck (l : Line)
  | flReject (pulse : LinePulse)
  | flOutputLimit (l : Line)
  | flOutputResume (l : Line)
  | admWaitTimeout (pos : Nat)
  -- the Share Bus
  | announce (f : ShbFrame)
  | status (f : ShbFrame)
  | reserve (f : ShbFrame)
  | clock (f : ShbFrame)
  | rectSet (f : ShbFrame)
  | rectStat (f : ShbFrame)
  | bmodStat (f : ShbFrame)
  | announceTimer
  | statusTimer
  | reserveTimer
  | clockTimer
  | peerTimeout (k : Fin 8)
  | rectRatingTimeout (c : Ch)
  | moduleAbsent (k : Str) (addr : Nat)
  | genBusRise
  | busOff (port : Fin 2)
  | busOffRecovery (port : Fin 2)
  -- the state store and the recorder
  | recordWrite (mismatches : Nat)
  | scrub (offset : Nat) (finding : ScrubFinding)
  | powerRecordTimer
  | wearRecordTimer
  | configRecordWrite (block : Nat)
  | migrate
  | logWrite
  | rateWindowEnd
  | dropSummary
  -- the service port, update and debug
  | svcEnRise
  | svcEnFall
  | svcFrameGap
  | ping (seq : Byte)
  | setBaud (seq : Byte) (code : Nat)
  | baudFallback
  | svcRestart (seq : Byte) (key : ResetKey)
  | regRead (seq : Byte) (first count : Nat)
  | regWrite (seq : Byte) (addr : Nat) (v : Word)
  | mbox (seq : Byte) (words : List Word)
  | imgBegin (seq : Byte) (bank : Byte) (total : Nat)
  | imgData (seq : Byte) (ofs : Nat) (data : List Byte)
  | imgEnd (seq : Byte)
  | takeover (seq : Byte) (key : Word)
  | shadowBootDone
  | mirrorReady
  | syncTimeout
  | takeoverBoundary
  | confirm (seq : Byte) (key : Word)
  | trialTimeout
  | rollback (seq : Byte) (key : Word)
  | dbgChallenge (seq : Byte)
  | dbgUnlock (seq : Byte) (level : Byte) (sig : List Byte)
  | dbgLock (seq : Byte)
  | dbgRead (seq : Byte) (addr count : Nat)
  | dbgHalt (seq : Byte)
  | dbgResume (seq : Byte)
  | dbgStep (seq : Byte)
  | dbgWrite (seq : Byte) (addr : Nat) (words : List Word)
  | wearReset (seq : Byte) (channel : Nat)
  -- the remaining rows of the table
  | supplyWarningEnd
  | coreRailInWindow
  | xamirSample (x : XamirSamples)
  | xamirFrameRejected (why : XifReject) (seq : Byte)
  | sequencerResult (k : Grp) (code : Int)
  | shbRxIgnored (f : ShbFrame)
  | svcFrameDiscarded
  | svcUndefinedType (seq : Byte) (type : Byte)
  | undefinedOpcode (n : Mb)
  | chCtrlReservedAction (n : Mb)
  | opStartUndefinedCode (n : Mb)
  deriving DecidableEq, Repr

end Sys2Proof
end

