-- ==== Sys2Proof/Decode.lean ====
section
/-! DEFINITION. The reading of a table word. The rows of the opcode table give their commands no bits: a command is a
happening at the boundary of the block, not an encoding. So no word spells a command. -/

namespace Sys2Proof

/-- The command that a word of `_nbits` bits spells by the table's bits: none, since no row of the table gives any. -/
def decodeTableWord (_nbits _w : Nat) : Option Instr := none

end Sys2Proof
end

