-- ==== Sys2Proof/Config.lean ====
section
/-! DEFINITION. What an implementation fixes and the spec leaves open: free values, as constants without a body. No
proof can see what they are, so what is proved holds whatever they are. -/

namespace Sys2Proof.Config

/-- A word the spec leaves open, by the number of free values drawn before it: nonces, XNONCE, the content of a memory
that no rule gives (R106, R356, R534). DESIGN CHOICE, log 11. -/
opaque freeWord : Nat → Word

/-- Which way a quantity that no rule rounds is rounded, by the site of the rounding and the exact value. DESIGN CHOICE, log 19. -/
opaque roundsUp : (site : Nat) → Rat → Bool

/-- Where in its enclosure exp(-x) of the pole update of R165 and of a wake lies (Numeric.lean). DESIGN CHOICE, log 18. -/
opaque expNeg : Rat → Rat

/-- Where in its enclosure q^(n/16) of the wear model lies, for n not a multiple of 16 (R187). DESIGN CHOICE, log 18. -/
opaque power16 : Rat → Nat → Rat

/-- What the byte of a histogram bin shows for a count above 255 (R499 gives the bin 8 bits). DESIGN CHOICE, log 26. -/
opaque wideBin : Nat → Nat

/-- The bytes of the body of a CONFIG record, by its instance (Table 18.3 gives only 'up to 4 096'). DESIGN CHOICE, log 26. -/
opaque configBytes : Nat → Nat

/-- The silicon stepping beyond 0x01 (H_ID.STEP, Table 3.6). DESIGN CHOICE, log 16. -/
opaque stepping : Nat

/-- An ECDSA P-256 signature verifies under one of the four ROM keys, whose values the spec does not give: the key, the
digest and the signature's bytes (R522, R523, R534). DESIGN CHOICE, log 17. -/
opaque verifies : (key : Nat) → (digest sig : List Nat) → Bool

/-- The 64 bytes of the signature of a Xamir snapshot, by its digest: the key is Xamir's own (R352). DESIGN CHOICE, log 17. -/
opaque xamirSign : List Nat → List Nat

/-- The serial number of the node (Table 17.4). DESIGN CHOICE, log 16. -/
opaque serial : Nat

/-- Xamir's serial number, program version and program CRC, which are fixed at manufacture (Table 13.6). DESIGN CHOICE, log 16. -/
opaque xamirSerial : Nat

/-- Xamir's X_VERSION beyond what its table fixes. DESIGN CHOICE, log 16. -/
opaque xamirVersion : Nat

/-- Xamir's X_PROG_CRC. DESIGN CHOICE, log 16. -/
opaque xamirProgCrc : Nat

/-- The nominal GAIN of an input of Xamir, 0 to 23 the currents, 24 to 27 the voltages: the spec gives no scale of its
codes. DESIGN CHOICE, log 23. -/
opaque xamirGain : Nat → Nat

/-- I_fs of a channel's current input of Xamir in mA, which depends on the shunt in use (R344). DESIGN CHOICE, log 23. -/
opaque xamirFull : Nat → Nat

/-- The 512 bytes of Xamir's certificate. DESIGN CHOICE, log 16. -/
opaque xamirCert : Nat → Nat

/-- The levels of the supply monitor within the limits of Table 21.2, by their row: the spec gives minimum and maximum. DESIGN CHOICE, log 22. -/
opaque supplyLevel : Nat → Nat

/-- The command, by the number of free values drawn before it, had not reached the mirror at a failover (R111). DESIGN CHOICE, log 21. -/
opaque notMirrored : Nat → Bool

/-- OFS of an input that the factory calibrates, of a DROP input in its fine or its coarse range (R304). DESIGN CHOICE, log 23. -/
opaque factoryOfs : (code : Nat) → (fine : Bool) → Int

/-- GAIN of such an input. DESIGN CHOICE, log 23. -/
opaque factoryGain : (code : Nat) → (fine : Bool) → Nat

/-- Where in its enclosure the natural logarithm of the thermistor formula lies (R302). DESIGN CHOICE, log 18. -/
opaque ln : Rat → Rat

/-- The version of Jack-in-the-box (Table 20.3). DESIGN CHOICE, log 16. -/
opaque jackVersion : Nat

/-- The address of the active Puppeteer's local memory as the debugger sees it: its place is open (R533). DESIGN CHOICE, log 33. -/
opaque localBase : Nat

/-- The address of the shared SRAM as the debugger sees it. DESIGN CHOICE, log 33. -/
opaque sramBase : Nat

/-- The bytes of the Jack-in-the-box boot ROM of 128 KiB, which nothing in the block reads or changes (Table 1.4). DESIGN CHOICE, log 33. -/
opaque bootRom : Fin 0x20000 → Nat

/-- The bytes of Xamir's program memory of 256 KiB, which nothing in the block reads or changes (Table 1.4). DESIGN CHOICE, log 33. -/
opaque xamirProgram : Fin 0x40000 → Nat

end Sys2Proof.Config
end

