-- ==== Sys2Proof/Machine/Params.lean ====
section
/-! DEFINITION. The parameter dictionary (R119): one row for each ID the parameter tables of spec/ define, with its type,
unit, range, default, access and effect moment (R10, R12, Table 4.7), and the names of the IDs. -/

namespace Sys2Proof.Machine

/-- Parameter types (Table 4.5). -/
inductive PTy
  | bool | enum | u8 | u16 | u32 | u40 | u64 | s16 | s32 | s64
  deriving DecidableEq, Repr

/-- The TYPE code of Table 4.5. -/
def PTy.code : PTy → Nat
  | .bool => 0 | .enum => 1 | .u8 => 2 | .u16 => 3 | .u32 => 4 | .u40 => 5 | .u64 => 6 | .s16 => 7 | .s32 => 8 | .s64 => 9

/-- How many value words a parameter of the type has (Table 4.5). -/
def PTy.nwords : PTy → Nat
  | .u40 => 2 | .u64 => 2 | .s64 => 2
  | .bool => 1 | .enum => 1 | .u8 => 1 | .u16 => 1 | .u32 => 1 | .s16 => 1 | .s32 => 1

/-- Access codes (Table 0.3). -/
inductive PAcc
  | ro | rw | w1c | rc | wo | rws
  deriving DecidableEq, Repr

/-- The ACCESS code of Table 4.7. -/
def PAcc.code : PAcc → Nat
  | .ro => 0 | .rw => 1 | .w1c => 2 | .rc => 3 | .wo => 4 | .rws => 5

/-- Effect moments (R12). -/
inductive PEff
  | imm | cyc | mode | boot
  deriving DecidableEq, Repr

/-- The EFFECT code of Table 4.7. -/
def PEff.code : PEff → Nat
  | .imm => 0 | .cyc => 1 | .mode => 2 | .boot => 3

/-- A row of the dictionary. `gap` is a part of lo to hi that the range column leaves out; `mask` holds the bits that are
not reserved (R11), where the parameter has a field map with reserved bits. -/
structure ParamRow where
  ty : PTy
  unit : Nat
  lo : Int
  hi : Int
  gap : Option (Int × Int)
  dflt : Int
  acc : PAcc
  eff : PEff
  sec : Bool
  comm : Bool
  mask : Option Nat
  deriving DecidableEq, Repr

/-- A plain row: no gap, no field map, open in every mode to every session. -/
def prow (ty : PTy) (unit : Nat) (lo hi dflt : Int) (acc : PAcc) (eff : PEff) : ParamRow :=
  { ty := ty, unit := unit, lo := lo, hi := hi, gap := none, dflt := dflt, acc := acc, eff := eff, sec := false,
    comm := false, mask := none }

/-- The row with a stretch of its range left out. -/
def ParamRow.withGap (r : ParamRow) (a b : Int) : ParamRow := { r with gap := some (a, b) }

/-- The row with a field map whose bits outside `m` are reserved. -/
def ParamRow.withMask (r : ParamRow) (m : Nat) : ParamRow := { r with mask := some m }

/-- The row marked commission-only, (C) in the tables. -/
def ParamRow.commOnly (r : ParamRow) : ParamRow := { r with comm := true }

/-- The row whose writes need secure access (R110). -/
def ParamRow.secure (r : ParamRow) : ParamRow := { r with sec := true }

/-- The value lies in the range column (R6). -/
def ParamRow.inRange (r : ParamRow) (v : Int) : Bool :=
  decide (r.lo ≤ v ∧ v ≤ r.hi) &&
    match r.gap with
    | none => true
    | some (a, b) => !decide (a ≤ v ∧ v ≤ b)

/-- The value as it is kept: reserved bits are ignored and read 0 (R11). -/
def ParamRow.keep (r : ParamRow) (v : Int) : Int :=
  match r.mask with
  | none => v
  | some m => Int.ofNat (v.toNat &&& m)

/-! ### The names of the IDs -/

abbrev Prm.SYS_PROFILE : Nat := 0x0010
abbrev Prm.SYS_PROFILE_ACTIVE : Nat := 0x0011
abbrev Prm.SYS_START_MODE : Nat := 0x0012
abbrev Prm.SYS_AUTO_ONLINE : Nat := 0x0013
abbrev Prm.SYS_BLACK_START : Nat := 0x0014
abbrev Prm.SYS_CUTOFF_DORMANT_S : Nat := 0x0015
abbrev Prm.SYS_WAKE_SOURCES : Nat := 0x0016
abbrev Prm.SYS_RESET_CAUSE : Nat := 0x0017
abbrev Prm.SYS_MODE : Nat := 0x0018
abbrev Prm.SYS_PREV_MODE : Nat := 0x0019
abbrev Prm.SYS_WARM_COUNT : Nat := 0x001A
abbrev Prm.SYS_FAILOVER_COUNT : Nat := 0x001B
abbrev Prm.HIF_DEO_MAX : Nat := 0x0100
abbrev Prm.HIF_DEO_MIN : Nat := 0x0101
abbrev Prm.HIF_FRAG_TIMEOUT_MS : Nat := 0x0102
abbrev Prm.HIF_SESSION_MAP : Nat := 0x0103
abbrev Prm.HIF_SECURE_MAP : Nat := 0x0104
abbrev Prm.HIF_INFLIGHT : Nat := 0x0105
abbrev Prm.HIF_INFLIGHT_PEAK : Nat := 0x0106
abbrev Prm.HIF_NTF_DROPPED : Nat := 0x0107
abbrev Prm.HIF_INBOUND_LOST : Nat := 0x0108
abbrev Prm.HIF_AUTH_FAILS : Nat := 0x0109
abbrev Prm.HIF_HOST_KEY_SET : Nat := 0x010A
abbrev Prm.HIF_HOST_KEY0 : Nat := 0x0110
abbrev Chp.ROLE : Nat := 0x00
abbrev Chp.CLASS : Nat := 0x01
abbrev Chp.CLASS_EFF : Nat := 0x02
abbrev Chp.STATE : Nat := 0x03
abbrev Chp.FLAGS : Nat := 0x04
abbrev Chp.GATE_I : Nat := 0x05
abbrev Chp.PD_MODE : Nat := 0x06
abbrev Chp.SHUNT_UOHM : Nat := 0x07
abbrev Chp.GAIN : Nat := 0x08
abbrev Chp.OC_MA : Nat := 0x09
abbrev Chp.RC_MA : Nat := 0x0A
abbrev Chp.OC_EFF_MA : Nat := 0x0B
abbrev Chp.RC_EFF_MA : Nat := 0x0C
abbrev Chp.UV_MV : Nat := 0x0D
abbrev Chp.UV_HYST_MV : Nat := 0x0E
abbrev Chp.SRC_MODE : Nat := 0x0F
abbrev Chp.FWD_MV : Nat := 0x10
abbrev Chp.CHG_MAX_MA : Nat := 0x11
abbrev Chp.PRES_MODE : Nat := 0x12
abbrev Chp.PRES_MV : Nat := 0x13
abbrev Chp.PRES_MS : Nat := 0x14
abbrev Chp.EQ_MV : Nat := 0x15
abbrev Chp.I_MA : Nat := 0x16
abbrev Chp.VFAR_MV : Nat := 0x17
abbrev Chp.DROP_MV : Nat := 0x18
abbrev Chp.CLOSURES : Nat := 0x19
abbrev Grpp.STATE : Nat := 0x00
abbrev Grpp.ISO_PD : Nat := 0x01
abbrev Grpp.MC_CRC : Nat := 0x02
abbrev Grpp.RELOADS : Nat := 0x03
abbrev Grpp.PARITY : Nat := 0x04
abbrev Grpp.CH_MAP : Nat := 0x05
abbrev Chp.ZTH1 : Nat := 0x1A
abbrev Chp.ZTH2 : Nat := 0x1B
abbrev Chp.ZTH3 : Nat := 0x1C
abbrev Chp.ZTH4 : Nat := 0x1D
abbrev Chp.TREF_SRC : Nat := 0x1E
abbrev Chp.TREF_FIX : Nat := 0x1F
abbrev Chp.TJ_MAX : Nat := 0x20
abbrev Chp.TJ_SERVO : Nat := 0x21
abbrev Chp.TJ : Nat := 0x22
abbrev Chp.INRUSH_AUTO : Nat := 0x23
abbrev Chp.INRUSH_ICAP_MA : Nat := 0x24
abbrev Chp.INRUSH_MAX_MS : Nat := 0x25
abbrev Chp.FAR_C_UF : Nat := 0x26
abbrev Chp.WEAR_MODEL : Nat := 0x27
abbrev Chp.WEAR_USED_PPM : Nat := 0x28
abbrev Chp.LIFE_LEFT_D : Nat := 0x29
abbrev Chp.TRIP_RULES : Nat := 0x2A
abbrev Chp.UV_FILT_US : Nat := 0x2B
abbrev Chp.OL_MA : Nat := 0x2C
abbrev Chp.OL_MS : Nat := 0x2D
abbrev Chp.RETRY_MAX : Nat := 0x2E
abbrev Chp.RETRY_DELAY_MS : Nat := 0x2F
abbrev Chp.RETRY_BACKOFF : Nat := 0x30
abbrev Chp.RETRY_DELAY_MAX_MS : Nat := 0x31
abbrev Chp.TJ_RETRY : Nat := 0x32
abbrev Chp.RETRY_RESET_S : Nat := 0x33
abbrev Chp.OVSPD_N : Nat := 0x34
abbrev Chp.TRIP_CAUSE : Nat := 0x35
abbrev Chp.TRIP_STAT : Nat := 0x36
abbrev Chp.TRIP_COUNT : Nat := 0x37
abbrev Prm.BUS_SENSE : Nat := 0x0F00
abbrev Prm.BUS_V_MV : Nat := 0x0F01
abbrev Prm.BUS_SAG_MV : Nat := 0x0F02
abbrev Prm.BUS_SAG_COUNT : Nat := 0x0F03
abbrev Prm.BUS_SAG_LAST_US : Nat := 0x0F04
abbrev Prm.BUS_SAG_MAX_US : Nat := 0x0F05
abbrev Prm.BUS_C_UF : Nat := 0x0F06
abbrev Prm.BUS_I_BRIDGE_MA : Nat := 0x0F07
abbrev Prm.BUS_COND : Nat := 0x0F08
abbrev Prm.BUS_OV_MV : Nat := 0x0F09
abbrev Prm.BUS_SHED_MAP1 : Nat := 0x0F10
abbrev Prm.BUS_STROBE_STAGE : Nat := 0x0F14
abbrev Prm.BUS_STROBE_STAGE_EFF : Nat := 0x0F15
abbrev Prm.BUS_SHED_STATE : Nat := 0x0F16
abbrev Prm.BUS_STEP_GAP_MS : Nat := 0x0F17
abbrev Prm.BUS_RESTORE_GAP_MS : Nat := 0x0F18
abbrev Prm.BUS_V_SET_MV : Nat := 0x0F20
abbrev Prm.BUS_SHARE_EN : Nat := 0x0F21
abbrev Prm.BUS_SHARE_KP : Nat := 0x0F22
abbrev Prm.BUS_SHARE_STEP_MV : Nat := 0x0F23
abbrev Prm.BUS_SHARE_TRIM_MV : Nat := 0x0F24
abbrev Prm.BUS_SHARE_DIV : Nat := 0x0F25
abbrev Prm.BUS_SHARE_ERR_MA : Nat := 0x0F26
abbrev Prm.BUS_WALKIN_MS : Nat := 0x0F27
abbrev Prm.BUS_CAP_MW : Nat := 0x0F30
abbrev Prm.BUS_CAP_HYST_MW : Nat := 0x0F31
abbrev Prm.BUS_PEAK_BAT_MAP : Nat := 0x0F32
abbrev Prm.BUS_PEAK_MAX_S : Nat := 0x0F33
abbrev Prm.BUS_SRC_MW : Nat := 0x0F34
abbrev Prm.BUS_CAP_STATE : Nat := 0x0F35
abbrev Prm.BUS_SHARE_W0 : Nat := 0x0F40
abbrev Prm.SFK_SHEET_GEN : Nat := 0x0300
abbrev Prm.SFK_SHEET_HALF : Nat := 0x0301
abbrev Prm.SFK_STAGED : Nat := 0x0302
abbrev Prm.SFK_COMMIT : Nat := 0x0303
abbrev Prm.SFK_KEEP_MAP : Nat := 0x0304
abbrev Prm.SFK_GAIN_DIFF : Nat := 0x0305
abbrev Prm.SFK_WATCH : Nat := 0x0306
abbrev Prm.SFK_CAUSE : Nat := 0x0307
abbrev Prm.SFK_ENTRY_COUNT : Nat := 0x0308
abbrev Prm.SFK_ENTRY_OPTIME : Nat := 0x0309
abbrev Prm.SFK_KEPT_AT_ENTRY : Nat := 0x030A
abbrev Prm.SFK_NFAULT_MASK : Nat := 0x030B
abbrev Prm.SFK_DRILL : Nat := 0x030C
abbrev Prm.DRM_SOURCE : Nat := 0x0400
abbrev Prm.DRM_NOMINAL : Nat := 0x0401
abbrev Prm.DRM_PHASE_OFS : Nat := 0x0402
abbrev Prm.DRM_ACS_MIN_MV : Nat := 0x0403
abbrev Prm.DRM_LOCK_CYC : Nat := 0x0404
abbrev Prm.DRM_SLEW_PINS : Nat := 0x0405
abbrev Prm.DRM_SYNC_FILT_US : Nat := 0x0406
abbrev Prm.DRM_STATE : Nat := 0x0407
abbrev Prm.DRM_REF : Nat := 0x0408
abbrev Prm.DRM_MAINS : Nat := 0x0409
abbrev Prm.DRM_FREQ : Nat := 0x040A
abbrev Prm.DRM_REF_FREQ : Nat := 0x040B
abbrev Prm.DRM_PHASE_ERR : Nat := 0x040C
abbrev Prm.DRM_CYCLE : Nat := 0x040D
abbrev Prm.DRM_LOSS_COUNT : Nat := 0x040E
abbrev Prm.DRM_PATTERN : Nat := 0x040F
abbrev Prm.DRM_NOTES : Nat := 0x0410
abbrev Prm.DRM_SWITCH_SYNC : Nat := 0x0411
abbrev Prm.DRM_PARITY_COUNT : Nat := 0x0412
abbrev Prm.DRM_PAIR0 : Nat := 0x0480
abbrev Prm.CNV_LP_MAP : Nat := 0x0500
abbrev Prm.CNV_START : Nat := 0x0501
abbrev Prm.CNV_URGENT : Nat := 0x0502
abbrev Prm.CNV_DIAG : Nat := 0x0503
abbrev Prm.CNV_STAT0 : Nat := 0x0508
abbrev Prm.CNV_TRIGA0 : Nat := 0x0510
abbrev Prm.CNV_URG0 : Nat := 0x0518
abbrev Prm.CNV_REF0_UV : Nat := 0x0520
abbrev Prm.CNV_DIE_T : Nat := 0x0524
abbrev Prm.CNV_VIN_MV : Nat := 0x0525
abbrev Prm.CNV_BUS0_MV : Nat := 0x0526
abbrev Prm.CNV_NTC_EN : Nat := 0x0530
abbrev Prm.CNV_NTC_B : Nat := 0x0531
abbrev Prm.CNV_NTC_R25 : Nat := 0x0532
abbrev Prm.CNV_NTC_VALID : Nat := 0x0533
abbrev Prm.CNV_NTC0_T : Nat := 0x0538
abbrev Prm.CNV_CAL_INPUT : Nat := 0x0550
abbrev Prm.CNV_CAL_CYCLES : Nat := 0x0551
abbrev Prm.CNV_CAL_Z : Nat := 0x0552
abbrev Prm.CNV_CAL_F : Nat := 0x0553
abbrev Prm.CNV_CAL_CMD : Nat := 0x0554
abbrev Prm.CNV_CAL_STATE : Nat := 0x0555
abbrev Prm.CNV_CAL_OFS : Nat := 0x0556
abbrev Prm.CNV_CAL_GAIN : Nat := 0x0557
abbrev Prm.CNV_CAL_MAP0 : Nat := 0x0558
abbrev Prm.CNV_CAL_MAP1 : Nat := 0x0559
abbrev Prm.CNV_CAL_MAP2 : Nat := 0x055A
abbrev Prm.CNV_CAL_MAP3 : Nat := 0x055B
abbrev Prm.CNV_SEQ0_0 : Nat := 0x0580
abbrev Prm.ACC_CLEAR : Nat := 0x0600
abbrev Prm.ACC_OVF0 : Nat := 0x0601
abbrev Prm.ACC_OVF_COUNT : Nat := 0x0607
abbrev Prm.ACC_TRKCFG0 : Nat := 0x0610
abbrev Prm.ACC_TRKFZ0 : Nat := 0x0620
abbrev Prm.ACC_TRK_FREEZE : Nat := 0x0630
abbrev Prm.ACC_TRK_REL : Nat := 0x0631
abbrev Prm.ACC_SLOTCFG0 : Nat := 0x0640
abbrev Prm.MET_STATE : Nat := 0x0700
abbrev Prm.MET_XID : Nat := 0x0701
abbrev Prm.MET_XVERSION : Nat := 0x0702
abbrev Prm.MET_STATUS : Nat := 0x0703
abbrev Prm.MET_SEAL : Nat := 0x0704
abbrev Prm.MET_CAL_GEN : Nat := 0x0705
abbrev Prm.MET_PROG_CRC : Nat := 0x0706
abbrev Prm.MET_SNAP_SEQ : Nat := 0x0707
abbrev Prm.MET_AUDIT_SEQ : Nat := 0x0708
abbrev Prm.MET_SERIAL : Nat := 0x0709
abbrev Prm.MET_XTIME : Nat := 0x070A
abbrev Prm.MET_CHMAP : Nat := 0x070B
abbrev Prm.MET_VMAP : Nat := 0x070C
abbrev Prm.MET_REJECTS : Nat := 0x070D
abbrev Prm.MET_XCHK : Nat := 0x070E
abbrev Prm.MET_AGE_MS : Nat := 0x070F
abbrev Prm.MET_AUDIT_SEL : Nat := 0x0710
abbrev Prm.MET_AUDIT_E0 : Nat := 0x0711
abbrev Prm.MET_V0_MV : Nat := 0x0718
abbrev Prm.MET_P0_MW : Nat := 0x0720
abbrev Prm.MET_IMP0 : Nat := 0x0740
abbrev Prm.MET_EXP0 : Nat := 0x0760
abbrev Tmrp.CFG : Nat := 0
abbrev Tmrp.PERIOD : Nat := 1
abbrev Tmrp.CMP : Nat := 2
abbrev Tmrp.CNT : Nat := 3
abbrev Tmrp.CAP : Nat := 4
abbrev Tmrp.CAPCFG : Nat := 5
abbrev Tmrp.CTRL : Nat := 6
abbrev Tmrp.STAT : Nat := 7
abbrev Ktp.CFG : Nat := 0
abbrev Ktp.ARG : Nat := 1
abbrev Ktp.VALUE : Nat := 2
abbrev Ktp.ALARM : Nat := 3
abbrev Prm.TMR_KT_STAT : Nat := 0x0890
abbrev Prm.TMR_DORMANT_SPAN : Nat := 0x0891
abbrev Prm.TMR_FL0_STUCK_MS : Nat := 0x08A0
abbrev Prm.TMR_FL0_STAT : Nat := 0x08B0
abbrev Prm.TMR_FL_OVSPD_N : Nat := 0x08C0
abbrev Prm.TMR_FL_STUCK_MAP : Nat := 0x08C1
abbrev Prm.ADM_SAFE_DUR_S : Nat := 0x0900
abbrev Prm.ADM_BUS_CAP_MC : Nat := 0x0901
abbrev Prm.ADM_BUS_MIN_MC : Nat := 0x0902
abbrev Prm.ADM_SRC_W_DEF : Nat := 0x0903
abbrev Prm.ADM_SRC_MARGIN_PCT : Nat := 0x0904
abbrev Prm.ADM_SELF_CAP_MW : Nat := 0x0905
abbrev Prm.ADM_SELF_BASE_MW : Nat := 0x0906
abbrev Prm.ADM_WAIT_MAX_MS : Nat := 0x0907
abbrev Prm.ADM_WALKIN_PAR : Nat := 0x0908
abbrev Prm.ADM_Q_AVAIL_MAH : Nat := 0x0910
abbrev Prm.ADM_Q_NEED_MAH : Nat := 0x0911
abbrev Prm.ADM_REQ_STAGE : Nat := 0x0912
abbrev Prm.ADM_FREE_BUS_MC : Nat := 0x0913
abbrev Prm.ADM_FREE_SRC_W : Nat := 0x0914
abbrev Prm.ADM_FREE_BAT_MAH : Nat := 0x0915
abbrev Prm.ADM_FREE_SELF_MW : Nat := 0x0916
abbrev Prm.ADM_THERM_MAP : Nat := 0x0917
abbrev Prm.ADM_STATE : Nat := 0x0918
abbrev Prm.ADM_LAST : Nat := 0x0919
abbrev Prm.ADM_REFUSALS : Nat := 0x091A
abbrev Prm.ADM_TIMEOUTS : Nat := 0x091B
abbrev Chp.BAT_STRING : Nat := 0x38
abbrev Chp.BAT_PHASE : Nat := 0x39
abbrev Chp.BAT_SOC : Nat := 0x3A
abbrev Chp.BAT_Q_MAH : Nat := 0x3B
abbrev Prm.BAT_STRINGS : Nat := 0x0A00
abbrev Prm.BAT_PROBE_MV : Nat := 0x0A01
abbrev Prm.BAT_PROBE_PATTERN : Nat := 0x0A02
abbrev Prm.BAT_PROBE_CYC : Nat := 0x0A03
abbrev Prm.BAT_PROBE_MIN_MA : Nat := 0x0A04
abbrev Prm.BAT_CONF_DECAY : Nat := 0x0A05
abbrev Prm.BAT_MARGIN_K : Nat := 0x0A06
abbrev Prm.BAT_CONF_LOAD : Nat := 0x0A07
abbrev Prm.BAT_CONF_COLD : Nat := 0x0A08
abbrev Prm.BAT_SOC_SLEW : Nat := 0x0A09
abbrev Prm.BAT_REST_S : Nat := 0x0A0A
abbrev Prm.BAT_FLOAT_OK_S : Nat := 0x0A0B
abbrev Prm.BAT_EOD_FILT_S : Nat := 0x0A0C
abbrev Prm.BAT_CUTOFF_DELAY_MS : Nat := 0x0A0D
abbrev Prm.BAT_REJOIN_MARGIN_MV : Nat := 0x0A0E
abbrev Prm.BAT_REJOIN_WAIT_S : Nat := 0x0A0F
abbrev Prm.BAT_TEST_MARGIN_PCT : Nat := 0x0A10
abbrev Prm.BAT_LEARN_MIN_PCT : Nat := 0x0A11
abbrev Prm.BAT_LEARN_CONF : Nat := 0x0A12
abbrev Prm.BAT_TEST : Nat := 0x0A13
abbrev Prm.BAT_LOST_UPDATES : Nat := 0x0A14
abbrev Strp.CHEM : Nat := 0x00
abbrev Strp.CELLS : Nat := 0x01
abbrev Strp.C_NOM_MAH : Nat := 0x02
abbrev Strp.V_FLOAT_CELL : Nat := 0x03
abbrev Strp.TC_UV_K : Nat := 0x04
abbrev Strp.NTC : Nat := 0x05
abbrev Strp.ICHG_MA : Nat := 0x06
abbrev Strp.IFLOAT_MA : Nat := 0x07
abbrev Strp.EOD0_CELL : Nat := 0x08
abbrev Strp.EODK : Nat := 0x09
abbrev Strp.FLOOR_CELL : Nat := 0x0A
abbrev Strp.HOLD_PCT : Nat := 0x0B
abbrev Strp.SELFDIS : Nat := 0x0C
abbrev Strp.ACC_I : Nat := 0x0D
abbrev Strp.ACC_V : Nat := 0x0E
abbrev Strp.PHASE : Nat := 0x10
abbrev Strp.SOC : Nat := 0x11
abbrev Strp.SOC_INT : Nat := 0x12
abbrev Strp.Q_INT_MAH : Nat := 0x13
abbrev Strp.C_LEARN_MAH : Nat := 0x14
abbrev Strp.SOH : Nat := 0x15
abbrev Strp.LEARN_COUNT : Nat := 0x16
abbrev Strp.Z_UOHM : Nat := 0x17
abbrev Strp.CONF : Nat := 0x18
abbrev Strp.REF_KIND : Nat := 0x19
abbrev Strp.REF_AGE_S : Nat := 0x1A
abbrev Strp.EOD_MV : Nat := 0x1B
abbrev Prm.SHB_NODE : Nat := 0x0B00
abbrev Prm.SHB_PORT_MODE : Nat := 0x0B01
abbrev Prm.SHB_NBR : Nat := 0x0B02
abbrev Prm.SHB_DBR : Nat := 0x0B03
abbrev Prm.SHB_GEN_MIN : Nat := 0x0B04
abbrev Prm.SHB_GEN_BUS : Nat := 0x0B05
abbrev Prm.SHB_PEERS : Nat := 0x0B06
abbrev Prm.SHB_PEER_LOW : Nat := 0x0B07
abbrev Prm.SHB_PORT_STAT0 : Nat := 0x0B08
abbrev Prm.SHB_RX_IGNORED : Nat := 0x0B0A
abbrev Prm.SHB_CLOCK_OFS : Nat := 0x0B0B
abbrev Prm.SHB_PEER0_INFO : Nat := 0x0B10
abbrev Prm.SHB_DEV0 : Nat := 0x0B20
abbrev Prm.SHB_MOD0 : Nat := 0x0B38
abbrev Prm.SHB_DEV_STAT0 : Nat := 0x0B40
abbrev Prm.SHB_MOD_SUM0 : Nat := 0x0B58
abbrev Prm.FLD_CFG0 : Nat := 0x0B80
abbrev Prm.FLD_STATE : Nat := 0x0B90
abbrev Prm.FLD_OUT_SET : Nat := 0x0B91
abbrev Prm.FLD_FUNC_TEST_S : Nat := 0x0B92
abbrev Prm.NVS_STATE : Nat := 0x0C00
abbrev Prm.NVS_HOLD_UF : Nat := 0x0C01
abbrev Prm.NVS_HOLD_T_US : Nat := 0x0C02
abbrev Prm.NVS_FLUSH_US : Nat := 0x0C03
abbrev Prm.NVS_POWER_CYCLES : Nat := 0x0C04
abbrev Prm.NVS_LAST_FLUSH : Nat := 0x0C05
abbrev Prm.NVS_CORRECTED : Nat := 0x0C06
abbrev Prm.NVS_UNCORRECTED : Nat := 0x0C07
abbrev Prm.NVS_SCRUB_PCT : Nat := 0x0C08
abbrev Prm.NVS_SCRUB_LAST : Nat := 0x0C09
abbrev Prm.NVS_HELD_WRITES : Nat := 0x0C0A
abbrev Prm.NVS_LOST_WRITES : Nat := 0x0C0B
abbrev Prm.NVS_MIGRATED : Nat := 0x0C0C
abbrev Prm.NVS_MIGRATE_FAIL : Nat := 0x0C0D
abbrev Prm.LOG_STATE : Nat := 0x0D00
abbrev Prm.LOG_NEXT_SEQ : Nat := 0x0D01
abbrev Prm.LOG_WATERMARK : Nat := 0x0D02
abbrev Prm.LOG_CURSOR : Nat := 0x0D03
abbrev Prm.LOG_FLUSH_MS : Nat := 0x0D04
abbrev Prm.LOG_FLUSH_FILL : Nat := 0x0D05
abbrev Prm.LOG_NTF_SEV : Nat := 0x0D06
abbrev Prm.LOG_TRACE_EN : Nat := 0x0D07
abbrev Prm.LOG_DROPPED : Nat := 0x0D08
abbrev Prm.LOG_SUPPRESSED : Nat := 0x0D09
abbrev Prm.LOG_BUF_USED : Nat := 0x0D0A
abbrev Prm.LOG_POOL_USE0 : Nat := 0x0D0B
abbrev Prm.LOG_RATE_OVR0 : Nat := 0x0D10
abbrev Prm.UPD_STATE : Nat := 0x0E00
abbrev Prm.UPD_BANK_STATE : Nat := 0x0E01
abbrev Prm.UPD_VER_A : Nat := 0x0E02
abbrev Prm.UPD_VER_B : Nat := 0x0E03
abbrev Prm.UPD_SVN_FLOOR : Nat := 0x0E04
abbrev Prm.UPD_KEY_REVOKED : Nat := 0x0E05
abbrev Prm.UPD_TAKEOVER : Nat := 0x0E06
abbrev Prm.UPD_CONFIRM : Nat := 0x0E07
abbrev Prm.UPD_ROLLBACK : Nat := 0x0E08
abbrev Prm.UPD_TRIAL_S : Nat := 0x0E09
abbrev Prm.UPD_SYNC_MAX_MS : Nat := 0x0E0A
abbrev Prm.UPD_LEAD_CYC : Nat := 0x0E0B
abbrev Prm.UPD_PEER_GUARD : Nat := 0x0E0C
abbrev Prm.UPD_LAST : Nat := 0x0E0D
abbrev Prm.UPD_SVC_BAUD : Nat := 0x0E0E
abbrev Prm.UPD_DEBUG : Nat := 0x0E0F
abbrev Prm.UPD_HANDOVERS : Nat := 0x0E10
abbrev Prm.UPD_ROLLBACKS : Nat := 0x0E11
abbrev Prm.PWR_WARN_MV : Nat := 0x0200
abbrev Prm.PWR_HOLD_MV : Nat := 0x0201
abbrev Prm.PWR_STATE : Nat := 0x0202
abbrev Prm.PWR_SELF_MW : Nat := 0x0203
abbrev Prm.PWR_WARN_COUNT : Nat := 0x0204
abbrev Prm.PWR_FAIL_COUNT : Nat := 0x0205

/-! ### The tables -/

/-- The parameters of a power-path channel at offset j: Tables 5.9, 6.6, 7.8 and 16.9 (R9). -/
def chRow (j : Nat) : Option ParamRow :=
  match j with
  | 0x00 => some ((prow .enum 0 0 4 0 .rw .mode).commOnly)  -- CHn.ROLE
  | 0x01 => some (prow .enum 0 0 2 0 .rw .mode)  -- CHn.CLASS
  | 0x02 => some (prow .enum 0 0 2 0 .ro .imm)  -- CHn.CLASS_EFF
  | 0x03 => some (prow .enum 0 0 10 0 .ro .imm)  -- CHn.STATE
  | 0x04 => some (prow .u16 0 0 0xffff 0 .ro .imm)  -- CHn.FLAGS
  | 0x05 => some (prow .u8 0 0 127 63 .rw .imm)  -- CHn.GATE_I
  | 0x06 => some (prow .enum 0 0 1 1 .rw .imm)  -- CHn.PD_MODE
  | 0x07 => some ((prow .u32 0xffff 50 100000 100 .rw .mode).commOnly)  -- CHn.SHUNT_UOHM
  | 0x08 => some ((prow .enum 0 0 1 0 .rw .mode).commOnly)  -- CHn.GAIN
  | 0x09 => some (prow .u32 2 0 0xffffffff 100000 .rw .imm)  -- CHn.OC_MA
  | 0x0A => some (prow .u32 2 0 0xffffffff 5000 .rw .imm)  -- CHn.RC_MA
  | 0x0B => some (prow .u32 2 0 0xffffffff 0 .ro .imm)  -- CHn.OC_EFF_MA
  | 0x0C => some (prow .u32 2 0 0xffffffff 0 .ro .imm)  -- CHn.RC_EFF_MA
  | 0x0D => some ((prow .u32 1 0 64000 0 .rw .imm).withGap 1 3999)  -- CHn.UV_MV
  | 0x0E => some (prow .u16 1 0 2000 250 .rw .imm)  -- CHn.UV_HYST_MV
  | 0x0F => some (prow .enum 0 0 1 1 .rw .mode)  -- CHn.SRC_MODE
  | 0x10 => some (prow .u16 1 5 100 20 .rw .cyc)  -- CHn.FWD_MV
  | 0x11 => some (prow .u32 2 0 500000 50000 .rw .imm)  -- CHn.CHG_MAX_MA
  | 0x12 => some (prow .enum 0 0 3 1 .rw .mode)  -- CHn.PRES_MODE
  | 0x13 => some (prow .u32 1 2000 64000 20000 .rw .imm)  -- CHn.PRES_MV
  | 0x14 => some (prow .u16 11 1 10000 200 .rw .imm)  -- CHn.PRES_MS
  | 0x15 => some (prow .u16 1 10 2000 200 .rw .imm)  -- CHn.EQ_MV
  | 0x16 => some (prow .s32 2 (-2147483648) 0x7fffffff 0 .ro .cyc)  -- CHn.I_MA
  | 0x17 => some (prow .u32 1 0 0xffff 0 .ro .cyc)  -- CHn.VFAR_MV
  | 0x18 => some (prow .s32 1 (-65535) 0xffff 0 .ro .cyc)  -- CHn.DROP_MV
  | 0x19 => some (prow .u32 0 0 0xffffffff 0 .ro .imm)  -- CHn.CLOSURES
  | 0x1A => some ((prow .u32 0xffff 0 0xffffffff 6553610 .rw .mode).commOnly)  -- CHn.ZTH1
  | 0x1B => some ((prow .u32 0xffff 0 0xffffffff 0x12c0064 .rw .mode).commOnly)  -- CHn.ZTH2
  | 0x1C => some ((prow .u32 0xffff 0 0xffffffff 0x32007d0 .rw .mode).commOnly)  -- CHn.ZTH3
  | 0x1D => some ((prow .u32 0xffff 0 0xffffffff 0x7d07727 .rw .mode).commOnly)  -- CHn.ZTH4
  | 0x1E => some (prow .enum 0 0 9 0 .rw .cyc)  -- CHn.TREF_SRC
  | 0x1F => some (prow .s16 6 (-2560) 8000 5440 .rw .cyc)  -- CHn.TREF_FIX
  | 0x20 => some ((prow .s16 6 3840 11200 9600 .rw .mode).commOnly)  -- CHn.TJ_MAX
  | 0x21 => some (prow .s16 6 2560 10880 8000 .rw .imm)  -- CHn.TJ_SERVO
  | 0x22 => some (prow .s16 6 (-32768) 0x7fff 0 .ro .imm)  -- CHn.TJ
  | 0x23 => some (prow .bool 0 0 1 0 .rw .imm)  -- CHn.INRUSH_AUTO
  | 0x24 => some ((prow .u32 2 0 500000 0 .rw .imm).withGap 1 99)  -- CHn.INRUSH_ICAP_MA
  | 0x25 => some (prow .u16 11 1 60000 100 .rw .imm)  -- CHn.INRUSH_MAX_MS
  | 0x26 => some (prow .u32 0xffff 0 1000000 0 .rw .imm)  -- CHn.FAR_C_UF
  | 0x27 => some ((prow .u32 0xffff 0 0xffffffff 0x505001f4 .rw .mode).commOnly)  -- CHn.WEAR_MODEL
  | 0x28 => some (prow .u32 0xffff 0 0xffffffff 0 .ro .imm)  -- CHn.WEAR_USED_PPM
  | 0x29 => some (prow .u32 0xffff 0 0xffffffff 0xffffffff .ro .imm)  -- CHn.LIFE_LEFT_D
  | 0x2A => some (prow .u32 0 0 0xffffffff 0xffffffff .rw .imm)  -- CHn.TRIP_RULES
  | 0x2B => some (prow .u16 8 1 0xffff 1000 .rw .imm)  -- CHn.UV_FILT_US
  | 0x2C => some ((prow .u32 2 0 500000 0 .rw .imm).withGap 1 99)  -- CHn.OL_MA
  | 0x2D => some (prow .u16 11 1 60000 1000 .rw .imm)  -- CHn.OL_MS
  | 0x2E => some (prow .u8 0 0 255 5 .rw .imm)  -- CHn.RETRY_MAX
  | 0x2F => some (prow .u32 11 1 600000 100 .rw .imm)  -- CHn.RETRY_DELAY_MS
  | 0x30 => some (prow .u8 0xffff 16 64 32 .rw .imm)  -- CHn.RETRY_BACKOFF
  | 0x31 => some (prow .u32 11 1 600000 60000 .rw .imm)  -- CHn.RETRY_DELAY_MAX_MS
  | 0x32 => some (prow .s16 6 (-2560) 10240 5440 .rw .imm)  -- CHn.TJ_RETRY
  | 0x33 => some (prow .u16 10 1 0xffff 60 .rw .imm)  -- CHn.RETRY_RESET_S
  | 0x34 => some (prow .u8 0 1 255 1 .rw .imm)  -- CHn.OVSPD_N
  | 0x35 => some (prow .u32 0 0 0xffffffff 0 .ro .imm)  -- CHn.TRIP_CAUSE
  | 0x36 => some (prow .u32 0 0 0xffffffff 0 .ro .imm)  -- CHn.TRIP_STAT
  | 0x37 => some (prow .u32 0 0 0xffffffff 0 .ro .imm)  -- CHn.TRIP_COUNT
  | 0x38 => some (((prow .enum 0 0 15 15 .rw .mode).withGap 4 14).commOnly)  -- CHn.BAT_STRING
  | 0x39 => some (prow .enum 0 0 8 0 .ro .cyc)  -- CHn.BAT_PHASE
  | 0x3A => some (prow .u16 0xffff 0 10000 0 .ro .cyc)  -- CHn.BAT_SOC
  | 0x3B => some (prow .u32 13 0 0xffffffff 0 .ro .cyc)  -- CHn.BAT_Q_MAH
  | _ => none

/-- The parameters of a Marionette group at offset j (R9, chapter 5). -/
def grpRow (j : Nat) : Option ParamRow :=
  match j with
  | 0x00 => some (prow .enum 0 0 3 0 .ro .imm)  -- GRPk.STATE
  | 0x01 => some (prow .enum 0 0 2 0 .rw .imm)  -- GRPk.ISO_PD
  | 0x02 => some (prow .u32 0 0 0xffffffff 0 .ro .imm)  -- GRPk.MC_CRC
  | 0x03 => some (prow .u32 0 0 0xffffffff 0 .ro .imm)  -- GRPk.RELOADS
  | 0x04 => some (prow .u32 0 0 0xffffffff 0 .ro .imm)  -- GRPk.PARITY
  | 0x05 => some (prow .u32 0 0 0xffffffff 0 .ro .imm)  -- GRPk.CH_MAP
  | _ => none

/-- The parameters of a general timer at offset j, Table 14.8 (R400). -/
def tmrRow (j : Nat) : Option ParamRow :=
  match j with
  | 0x00 => some ((prow .u32 0 0 0xffffffff 0 .rw .imm).withMask 0xFFFF0FFF)  -- TMR.CFGk
  | 0x01 => some (prow .u32 0xffff 0 0xffffffff 0xffffffff .rw .imm)  -- TMR.PERIODk
  | 0x02 => some (prow .u32 0xffff 0 0xffffffff 0 .rw .imm)  -- TMR.CMPk
  | 0x03 => some (prow .u32 0xffff 0 0xffffffff 0 .rw .imm)  -- TMR.CNTk
  | 0x04 => some (prow .u32 0xffff 0 0xffffffff 0 .ro .imm)  -- TMR.CAPk
  | 0x05 => some (prow .u32 0 0 0xffffffff 65536 .rw .imm)  -- TMR.CAPCFGk
  | 0x06 => some ((prow .u8 0 0 255 0 .wo .imm).withMask 0x7)  -- TMR.CTRLk
  | 0x07 => some ((prow .u16 0 0 0xffff 0 .w1c .imm).withMask 0xE000)  -- TMR.STATk
  | _ => none

/-- The parameters of a keeping timer at offset j, Table 14.8 (R400). -/
def ktRow (j : Nat) : Option ParamRow :=
  match j with
  | 0x00 => some ((prow .u8 0 0 255 0 .rw .imm).withMask 0x1F)  -- TMR.KTn_CFG
  | 0x01 => some (prow .u32 0 0 0xffffffff 0 .rw .imm)  -- TMR.KTn_ARG
  | 0x02 => some (prow .u40 9 0 0xffffffffff 0 .rw .imm)  -- TMR.KTn_VALUE
  | 0x03 => some (prow .u40 9 0 0xffffffffff 0 .rw .imm)  -- TMR.KTn_ALARM
  | _ => none

/-- The parameters of a string at offset j, Table 16.11 (R443). -/
def strRow (j : Nat) : Option ParamRow :=
  match j with
  | 0x00 => some ((prow .enum 0 1 2 2 .rw .mode).commOnly)  -- Sk.CHEM
  | 0x01 => some ((prow .u8 0xffff 1 32 16 .rw .mode).commOnly)  -- Sk.CELLS
  | 0x02 => some ((prow .u32 13 1000 10000000 100000 .rw .mode).commOnly)  -- Sk.C_NOM_MAH
  | 0x03 => some (prow .u16 1 1800 4200 3350 .rw .cyc)  -- Sk.V_FLOAT_CELL
  | 0x04 => some (prow .s16 0xffff (-10000) 0 0 .rw .cyc)  -- Sk.TC_UV_K
  | 0x05 => some (prow .enum 0 0 8 0 .rw .cyc)  -- Sk.NTC
  | 0x06 => some (prow .u32 2 0 500000 10000 .rw .cyc)  -- Sk.ICHG_MA
  | 0x07 => some (prow .u32 2 10 50000 1000 .rw .imm)  -- Sk.IFLOAT_MA
  | 0x08 => some (prow .u16 1 1000 4000 2900 .rw .cyc)  -- Sk.EOD0_CELL
  | 0x09 => some (prow .u16 0xffff 0 2000 300 .rw .cyc)  -- Sk.EODK
  | 0x0A => some (prow .u16 1 1000 4000 2500 .rw .cyc)  -- Sk.FLOOR_CELL
  | 0x0B => some (prow .u8 0xffff 0 50 5 .rw .cyc)  -- Sk.HOLD_PCT
  | 0x0C => some (prow .u16 0xffff 0 5000 300 .rw .imm)  -- Sk.SELFDIS
  | 0x0D => some ((prow .u8 0 0 255 255 .rw .cyc).withGap 192 254)  -- Sk.ACC_I
  | 0x0E => some ((prow .u8 0 0 255 255 .rw .cyc).withGap 192 254)  -- Sk.ACC_V
  | 0x10 => some (prow .enum 0 0 8 0 .ro .cyc)  -- Sk.PHASE
  | 0x11 => some (prow .u16 0xffff 0 10000 0 .ro .cyc)  -- Sk.SOC
  | 0x12 => some (prow .u16 0xffff 0 10000 0 .ro .cyc)  -- Sk.SOC_INT
  | 0x13 => some (prow .u32 13 0 0xffffffff 0 .ro .cyc)  -- Sk.Q_INT_MAH
  | 0x14 => some (prow .u32 13 0 0xffffffff 100000 .ro .imm)  -- Sk.C_LEARN_MAH
  | 0x15 => some (prow .u16 0xffff 3000 12000 10000 .ro .imm)  -- Sk.SOH
  | 0x16 => some (prow .u32 0 0 0xffffffff 0 .ro .imm)  -- Sk.LEARN_COUNT
  | 0x17 => some (prow .u32 0xffff 0 0xffffffff 0 .ro .imm)  -- Sk.Z_UOHM
  | 0x18 => some (prow .u16 0xffff 0 10000 0 .ro .cyc)  -- Sk.CONF
  | 0x19 => some (prow .enum 0 0 4 0 .ro .imm)  -- Sk.REF_KIND
  | 0x1A => some (prow .u32 10 0 0xffffffff 0 .ro .cyc)  -- Sk.REF_AGE_S
  | 0x1B => some (prow .u32 1 0 0xffffffff 0 .ro .cyc)  -- Sk.EOD_MV
  | _ => none

/-- The SYS block (Table 4.10). -/
def row00 (id : Nat) : Option ParamRow :=
  match id with
  | 0x10 => some (prow .enum 0 0 1 1 .rw .boot)  -- SYS.PROFILE
  | 0x11 => some (prow .enum 0 0 1 0 .ro .imm)  -- SYS.PROFILE_ACTIVE
  | 0x12 => some (prow .enum 0 0 1 0 .rw .boot)  -- SYS.START_MODE
  | 0x13 => some (prow .bool 0 0 1 0 .rw .mode)  -- SYS.AUTO_ONLINE
  | 0x14 => some (prow .bool 0 0 1 0 .rw .mode)  -- SYS.BLACK_START
  | 0x15 => some (prow .u32 10 0 604800 86400 .rw .imm)  -- SYS.CUTOFF_DORMANT_S
  | 0x16 => some ((prow .u16 0 0 0xffff 1 .rw .mode).withMask 0xF)  -- SYS.WAKE_SOURCES
  | 0x17 => some (prow .enum 0 0 9 0 .ro .imm)  -- SYS.RESET_CAUSE
  | 0x18 => some (prow .enum 0 0 11 0 .ro .imm)  -- SYS.MODE
  | 0x19 => some (prow .enum 0 0 11 0 .ro .imm)  -- SYS.PREV_MODE
  | 0x1A => some (prow .u32 0 0 0xffffffff 0 .ro .imm)  -- SYS.WARM_COUNT
  | 0x1B => some (prow .u32 0 0 0xffffffff 0 .ro .imm)  -- SYS.FAILOVER_COUNT
  | _ => none

/-- The HIF block (Table 4.10). -/
def row01 (id : Nat) : Option ParamRow :=
  match id with
  | 0x100 => some (prow .u16 0 0 0xffff 515 .ro .imm)  -- HIF.DEO_MAX
  | 0x101 => some (prow .u16 0 0 0xffff 256 .ro .imm)  -- HIF.DEO_MIN
  | 0x102 => some (prow .u16 11 10 10000 100 .rw .imm)  -- HIF.FRAG_TIMEOUT_MS
  | 0x103 => some (prow .u16 0 0 0xffff 0 .ro .imm)  -- HIF.SESSION_MAP
  | 0x104 => some (prow .u16 0 0 0xffff 0 .ro .imm)  -- HIF.SECURE_MAP
  | 0x105 => some (prow .u16 0 0 512 0 .ro .imm)  -- HIF.INFLIGHT
  | 0x106 => some (prow .u16 0 0 512 0 .ro .imm)  -- HIF.INFLIGHT_PEAK
  | 0x107 => some (prow .u32 0 0 0xffffffff 0 .ro .imm)  -- HIF.NTF_DROPPED
  | 0x108 => some (prow .u32 0 0 0xffffffff 0 .ro .imm)  -- HIF.INBOUND_LOST
  | 0x109 => some (prow .u32 0 0 0xffffffff 0 .ro .imm)  -- HIF.AUTH_FAILS
  | 0x10A => some (prow .bool 0 0 1 0 .ro .imm)  -- HIF.HOST_KEY_SET
  | _ =>
    if 0x0110 ≤ id ∧ id ≤ 0x0117 then some ((prow .u32 0 0 0xffffffff 0 .wo .imm).secure)  -- HIF.HOST_KEY0–HIF.HOST_KEY7
    else none

/-- The PWR block (Table 4.10). -/
def row02 (id : Nat) : Option ParamRow :=
  match id with
  | 0x200 => some (prow .u32 1 8500 60000 10000 .rw .imm)  -- PWR.WARN_MV
  | 0x201 => some (prow .u32 1 0 50000 0 .ro .imm)  -- PWR.HOLD_MV
  | 0x202 => some (prow .u16 0 0 0xffff 0 .ro .imm)  -- PWR.STATE
  | 0x203 => some (prow .u32 3 0 5000 0 .ro .cyc)  -- PWR.SELF_MW
  | 0x204 => some (prow .u32 0 0 0xffffffff 0 .ro .imm)  -- PWR.WARN_COUNT
  | 0x205 => some (prow .u32 0 0 0xffffffff 0 .ro .imm)  -- PWR.FAIL_COUNT
  | _ => none

/-- The SFK block (Table 4.10). -/
def row03 (id : Nat) : Option ParamRow :=
  match id with
  | 0x300 => some ((prow .u32 0 0 0xfffffffe 0 .ro .imm).secure)  -- SFK.SHEET_GEN
  | 0x301 => some ((prow .enum 0 0 2 0 .ro .imm).secure)  -- SFK.SHEET_HALF
  | 0x302 => some ((prow .u8 0 0 255 0 .ro .imm).secure)  -- SFK.STAGED
  | 0x303 => some (((prow .u32 0 0 0xffffffff 0 .wo .imm).commOnly).secure)  -- SFK.COMMIT
  | 0x304 => some ((prow .u32 0 0 0xffffffff 0 .ro .imm).secure)  -- SFK.KEEP_MAP
  | 0x305 => some ((prow .u32 0 0 0xffffffff 0 .ro .imm).secure)  -- SFK.GAIN_DIFF
  | 0x306 => some ((prow .u8 0 0 255 0 .ro .imm).secure)  -- SFK.WATCH
  | 0x307 => some ((prow .enum 0 0 5 0 .ro .imm).secure)  -- SFK.CAUSE
  | 0x308 => some ((prow .u32 0 0 0xffffffff 0 .ro .imm).secure)  -- SFK.ENTRY_COUNT
  | 0x309 => some ((prow .u40 9 0 0xffffffffff 0 .ro .imm).secure)  -- SFK.ENTRY_OPTIME
  | 0x30A => some ((prow .u32 0 0 0xffffffff 0 .ro .imm).secure)  -- SFK.KEPT_AT_ENTRY
  | 0x30B => some (((prow .u16 0 0 0xffff 63 .rw .imm).withMask 0x3F).secure)  -- SFK.NFAULT_MASK
  | 0x30C => some ((prow .u32 0 0x5afe 0x5afe 0 .wo .imm).secure)  -- SFK.DRILL
  | _ => none

/-- The DRM block (Table 4.10). -/
def row04 (id : Nat) : Option ParamRow :=
  match id with
  | 0x400 => some (prow .enum 0 0 3 0 .rw .mode)  -- DRM.SOURCE
  | 0x401 => some (prow .enum 0 0 1 0 .rw .cyc)  -- DRM.NOMINAL
  | 0x402 => some (prow .u16 7 0 0xfff 0 .rw .cyc)  -- DRM.PHASE_OFS
  | 0x403 => some (prow .u16 1 50 5000 500 .rw .imm)  -- DRM.ACS_MIN_MV
  | 0x404 => some (prow .u8 0xffff 2 32 3 .rw .imm)  -- DRM.LOCK_CYC
  | 0x405 => some (prow .u16 7 16 1024 512 .rw .cyc)  -- DRM.SLEW_PINS
  | 0x406 => some (prow .u16 8 1 1000 10 .rw .imm)  -- DRM.SYNC_FILT_US
  | 0x407 => some (prow .enum 0 0 3 0 .ro .imm)  -- DRM.STATE
  | 0x408 => some (prow .enum 0 0 2 0 .ro .imm)  -- DRM.REF
  | 0x409 => some (prow .bool 0 0 1 0 .ro .imm)  -- DRM.MAINS
  | 0x40A => some (prow .u32 15 40000 70000 0 .ro .cyc)  -- DRM.FREQ
  | 0x40B => some ((prow .u32 15 0 70000 0 .ro .cyc).withGap 1 39999)  -- DRM.REF_FREQ
  | 0x40C => some (prow .s16 7 (-2048) 0x7ff 0 .ro .cyc)  -- DRM.PHASE_ERR
  | 0x40D => some (prow .u32 0 0 0xffffffff 0 .ro .imm)  -- DRM.CYCLE
  | 0x40E => some (prow .u32 0 0 0xffffffff 0 .ro .imm)  -- DRM.LOSS_COUNT
  | 0x40F => some (prow .u8 0 0 255 0 .ro .imm)  -- DRM.PATTERN
  | 0x410 => some (prow .u16 0 0 0xffff 0 .w1c .imm)  -- DRM.NOTES
  | 0x411 => some ((prow .u32 0 0 0xffffffff 0 .rw .imm).withMask 0xFFFFFF)  -- DRM.SWITCH_SYNC
  | 0x412 => some (prow .u32 0 0 0xffffffff 0 .ro .imm)  -- DRM.PARITY_COUNT
  | _ =>
    if 0x0480 ≤ id ∧ id ≤ 0x04FF then some (prow .u64 0 0 0xffffffffffffffff 0 .rw .cyc)  -- DRM.PAIR0–DRM.PAIR127
    else none

/-- The CNV block (Table 4.10). -/
def row05 (id : Nat) : Option ParamRow :=
  match id with
  | 0x500 => some ((prow .u8 0 0 255 0 .rw .imm).withMask 0xE)  -- CNV.LP_MAP
  | 0x501 => some ((prow .u16 0 0 0xffff 0 .wo .imm).withMask 0x31F)  -- CNV.START
  | 0x502 => some ((prow .u8 0 0 255 0 .wo .imm).withMask 0xF)  -- CNV.URGENT
  | 0x503 => some (prow .u16 0 0 0xffff 0 .ro .imm)  -- CNV.DIAG
  | 0x524 => some (prow .s16 6 (-2560) 9600 0 .ro .cyc)  -- CNV.DIE_T
  | 0x525 => some (prow .u32 1 0 0xffff 0 .ro .cyc)  -- CNV.VIN_MV
  | 0x530 => some (prow .u8 0 0 255 0 .rw .imm)  -- CNV.NTC_EN
  | 0x531 => some (prow .u16 14 1000 10000 3435 .rw .cyc)  -- CNV.NTC_B
  | 0x532 => some (prow .u32 0xffff 1000 100000 10000 .rw .cyc)  -- CNV.NTC_R25
  | 0x533 => some (prow .u8 0 0 255 0 .ro .cyc)  -- CNV.NTC_VALID
  | 0x550 => some (prow .u8 0 0 146 0 .rw .imm)  -- CNV.CAL_INPUT
  | 0x551 => some (prow .u16 0xffff 1 256 50 .rw .imm)  -- CNV.CAL_CYCLES
  | 0x552 => some (prow .s32 0xffff (-2147483648) 0x7fffffff 0 .rw .imm)  -- CNV.CAL_Z
  | 0x553 => some (prow .s32 0xffff (-2147483648) 0x7fffffff 0 .rw .imm)  -- CNV.CAL_F
  | 0x554 => some (prow .enum 0 1 5 0 .wo .imm)  -- CNV.CAL_CMD
  | 0x555 => some (prow .u16 0 0 0xffff 0 .ro .imm)  -- CNV.CAL_STATE
  | 0x556 => some ((prow .s32 0xffff (-131072) 0x1ffff 0 .rw .cyc).commOnly)  -- CNV.CAL_OFS
  | 0x557 => some ((prow .u32 0 0 0xffffffff 0 .rw .cyc).commOnly)  -- CNV.CAL_GAIN
  | 0x558 => some (prow .u32 0 0 0xffffffff 0 .ro .imm)  -- CNV.CAL_MAP0
  | 0x559 => some (prow .u32 0 0 0xffffffff 0 .ro .imm)  -- CNV.CAL_MAP1
  | 0x55A => some (prow .u32 0 0 0xffffffff 0 .ro .imm)  -- CNV.CAL_MAP2
  | 0x55B => some (prow .u32 0 0 0xffffffff 0 .ro .imm)  -- CNV.CAL_MAP3
  | _ =>
    if 0x0508 ≤ id ∧ id ≤ 0x050B then some (prow .u32 0 0 0xffffffff 0 .ro .imm)  -- CNV.STAT0–CNV.STAT3
    else if 0x0510 ≤ id ∧ id ≤ 0x0517 then some ((prow .u32 0 0 0xffffffff 0 .rw .imm).withMask 0xFF1FFFFF)  -- CNV.TRIGA0, CNV.TRIGB0, … CNV.TRIGA3, CNV.TRIGB3
    else if 0x0518 ≤ id ∧ id ≤ 0x051B then some ((prow .u32 0 0 0xffffffff 0 .rw .imm).withMask 0x1F1F)  -- CNV.URG0–CNV.URG3
    else if 0x0520 ≤ id ∧ id ≤ 0x0523 then some (prow .u32 0xffff 0 2048000 0 .ro .cyc)  -- CNV.REF0_UV–CNV.REF3_UV
    else if 0x0526 ≤ id ∧ id ≤ 0x0529 then some (prow .u32 1 0 0xffff 0 .ro .cyc)  -- CNV.BUS0_MV–CNV.BUS3_MV
    else if 0x0538 ≤ id ∧ id ≤ 0x053F then some (prow .s16 6 (-3520) 9920 0 .ro .cyc)  -- CNV.NTC0_T–CNV.NTC7_T
    else if 0x0580 ≤ id ∧ id ≤ 0x05FF then some ((prow .u64 0 0 0xffffffffffffffff 0 .rw .cyc).withMask 0xFFC0FFE7FFFFF000)  -- CNV.SEQ0_0–CNV.SEQ3_31
    else none

/-- The ACC block (Table 4.10). -/
def row06 (id : Nat) : Option ParamRow :=
  match id with
  | 0x600 => some ((prow .u32 0 0 0xffffffff 0 .wo .imm).withMask 0xFFFFFF01)  -- ACC.CLEAR
  | 0x607 => some (prow .u32 0 0 0xffffffff 0 .ro .imm)  -- ACC.OVF_COUNT
  | 0x630 => some ((prow .u16 0 0 0xffff 0 .wo .imm).withMask 0xFFF)  -- ACC.TRK_FREEZE
  | 0x631 => some ((prow .u16 0 0 0xffff 0 .wo .imm).withMask 0xFFF)  -- ACC.TRK_REL
  | _ =>
    if 0x0601 ≤ id ∧ id ≤ 0x0606 then some (prow .u32 0 0 0xffffffff 0 .ro .imm)  -- ACC.OVF0–ACC.OVF5
    else if 0x0610 ≤ id ∧ id ≤ 0x061B then some ((prow .u32 0 0 0xffffffff 0 .rw .imm).withMask 0xFFFF01FC)  -- ACC.TRKCFG0–ACC.TRKCFG11
    else if 0x0620 ≤ id ∧ id ≤ 0x062B then some (prow .u64 0 0 0xffffffffffffffff 0 .ro .imm)  -- ACC.TRKFZ0–ACC.TRKFZ11
    else if 0x0640 ≤ id ∧ id ≤ 0x066F then some ((prow .u32 0 0 0xffffffff 0 .rw .cyc).withMask 0xE0E0E0E0)  -- ACC.SLOTCFG0–ACC.SLOTCFG47
    else none

/-- The MET block (Table 4.10). -/
def row07 (id : Nat) : Option ParamRow :=
  match id with
  | 0x700 => some (prow .enum 0 0 3 0 .ro .imm)  -- MET.STATE
  | 0x701 => some (prow .u32 0 0 0xffffffff 0 .ro .imm)  -- MET.XID
  | 0x702 => some (prow .u32 0 0 0xffffffff 0 .ro .imm)  -- MET.XVERSION
  | 0x703 => some (prow .u32 0 0 0xffffffff 0 .ro .imm)  -- MET.STATUS
  | 0x704 => some (prow .u32 0 0 0xffffffff 0 .ro .imm)  -- MET.SEAL
  | 0x705 => some (prow .u32 0 0 0xffffffff 0 .ro .imm)  -- MET.CAL_GEN
  | 0x706 => some (prow .u32 0 0 0xffffffff 0 .ro .imm)  -- MET.PROG_CRC
  | 0x707 => some (prow .u32 0 0 0xffffffff 0 .ro .imm)  -- MET.SNAP_SEQ
  | 0x708 => some (prow .u32 0 0 0xffffffff 0 .ro .imm)  -- MET.AUDIT_SEQ
  | 0x709 => some (prow .u64 0 0 0xffffffffffffffff 0 .ro .imm)  -- MET.SERIAL
  | 0x70A => some (prow .u64 0xffff 0 0xffffffffffffffff 0 .ro .imm)  -- MET.XTIME
  | 0x70B => some (prow .u32 0 0 0xffffffff 0 .ro .imm)  -- MET.CHMAP
  | 0x70C => some (prow .u64 0 0 0xffffffffffffffff 0 .ro .imm)  -- MET.VMAP
  | 0x70D => some (prow .u32 0 0 0xffffffff 0 .ro .imm)  -- MET.REJECTS
  | 0x70E => some (prow .u32 0 0 0xffffffff 0 .ro .imm)  -- MET.XCHK
  | 0x70F => some (prow .u32 11 0 0xffffffff 0 .ro .imm)  -- MET.AGE_MS
  | 0x710 => some (prow .u32 0 0 0xffffffff 0 .rw .imm)  -- MET.AUDIT_SEL
  | _ =>
    if 0x0711 ≤ id ∧ id ≤ 0x0712 then some (prow .u64 0 0 0xffffffffffffffff 0 .ro .imm)  -- MET.AUDIT_E0, MET.AUDIT_E1
    else if 0x0718 ≤ id ∧ id ≤ 0x071B then some (prow .u32 1 0 66000 0 .ro .imm)  -- MET.V0_MV–MET.V3_MV
    else if 0x0720 ≤ id ∧ id ≤ 0x0737 then some (prow .s32 3 (-2147483648) 0x7fffffff 0 .ro .imm)  -- MET.P0_MW–MET.P23_MW
    else if 0x0740 ≤ id ∧ id ≤ 0x0757 then some (prow .u64 5 0 0xffffffffffffffff 0 .ro .imm)  -- MET.IMP0–MET.IMP23
    else if 0x0760 ≤ id ∧ id ≤ 0x0777 then some (prow .u64 5 0 0xffffffffffffffff 0 .ro .imm)  -- MET.EXP0–MET.EXP23
    else none

/-- The TMR block (Table 4.10). -/
def row08 (id : Nat) : Option ParamRow :=
  match id with
  | 0x890 => some ((prow .u8 0 0 255 0 .w1c .imm).withMask 0xF)  -- TMR.KT_STAT
  | 0x891 => some (prow .u40 9 0 0xffffffffff 0 .ro .imm)  -- TMR.DORMANT_SPAN
  | 0x8C0 => some (prow .u8 0 1 255 10 .rw .imm)  -- TMR.FL_OVSPD_N
  | 0x8C1 => some (prow .u16 0 0 0xffff 0 .ro .imm)  -- TMR.FL_STUCK_MAP
  | _ =>
    if 0x08A0 ≤ id ∧ id ≤ 0x08AF then some ((prow .u32 11 0 0x5265c00 0 .rw .imm).withGap 1 99)  -- TMR.FL0_STUCK_MS–TMR.FL15_STUCK_MS
    else if 0x08B0 ≤ id ∧ id ≤ 0x08BF then some (prow .u32 0 0 0xffffffff 0 .ro .imm)  -- TMR.FL0_STAT–TMR.FL15_STAT
    else none

/-- The ADM block (Table 4.10). -/
def row09 (id : Nat) : Option ParamRow :=
  match id with
  | 0x900 => some (prow .u32 10 600 86400 10800 .rw .cyc)  -- ADM.SAFE_DUR_S
  | 0x901 => some (prow .u32 12 10 100000 200 .rw .imm)  -- ADM.BUS_CAP_MC
  | 0x902 => some (prow .u32 12 1 1000 10 .rw .imm)  -- ADM.BUS_MIN_MC
  | 0x903 => some (prow .u32 0xffff 0 100000 1000 .rw .cyc)  -- ADM.SRC_W_DEF
  | 0x904 => some (prow .u8 0xffff 0 50 10 .rw .cyc)  -- ADM.SRC_MARGIN_PCT
  | 0x905 => some (prow .u32 3 500 5000 2400 .rw .imm)  -- ADM.SELF_CAP_MW
  | 0x906 => some (prow .u32 3 0 5000 0 .ro .cyc)  -- ADM.SELF_BASE_MW
  | 0x907 => some (prow .u32 11 100 3600000 60000 .rw .imm)  -- ADM.WAIT_MAX_MS
  | 0x908 => some (prow .u8 0 1 6 1 .rw .imm)  -- ADM.WALKIN_PAR
  | 0x910 => some (prow .u32 13 0 0xffffffff 0 .ro .cyc)  -- ADM.Q_AVAIL_MAH
  | 0x911 => some (prow .u32 13 0 0xffffffff 0 .ro .cyc)  -- ADM.Q_NEED_MAH
  | 0x912 => some (prow .u8 0 0 4 0 .ro .cyc)  -- ADM.REQ_STAGE
  | 0x913 => some (prow .s32 12 (-2147483648) 0x7fffffff 0 .ro .imm)  -- ADM.FREE_BUS_MC
  | 0x914 => some (prow .s32 0xffff (-2147483648) 0x7fffffff 0 .ro .cyc)  -- ADM.FREE_SRC_W
  | 0x915 => some (prow .s32 13 (-2147483648) 0x7fffffff 0 .ro .cyc)  -- ADM.FREE_BAT_MAH
  | 0x916 => some (prow .s32 3 (-2147483648) 0x7fffffff 0 .ro .imm)  -- ADM.FREE_SELF_MW
  | 0x917 => some (prow .u32 0 0 0xffffffff 0 .ro .imm)  -- ADM.THERM_MAP
  | 0x918 => some (prow .u32 0 0 0xffffffff 0 .ro .imm)  -- ADM.STATE
  | 0x919 => some (prow .u32 0 0 0xffffffff 0 .ro .imm)  -- ADM.LAST
  | 0x91A => some (prow .u32 0 0 0xffffffff 0 .ro .imm)  -- ADM.REFUSALS
  | 0x91B => some (prow .u32 0 0 0xffffffff 0 .ro .imm)  -- ADM.TIMEOUTS
  | _ => none

/-- The BAT block (Table 4.10). -/
def row0A (id : Nat) : Option ParamRow :=
  match id with
  | 0xA00 => some (prow .u8 0 0 255 0 .ro .imm)  -- BAT.STRINGS
  | 0xA01 => some (prow .u16 1 0 500 50 .rw .cyc)  -- BAT.PROBE_MV
  | 0xA02 => some (prow .enum 0 0 3 0 .rw .cyc)  -- BAT.PROBE_PATTERN
  | 0xA03 => some (prow .u8 0xffff 2 128 8 .rw .cyc)  -- BAT.PROBE_CYC
  | 0xA04 => some (prow .u32 2 100 100000 1000 .rw .imm)  -- BAT.PROBE_MIN_MA
  | 0xA05 => some (prow .u16 0xffff 0 10000 50 .rw .imm)  -- BAT.CONF_DECAY
  | 0xA06 => some (prow .u16 0xffff 0 5000 3000 .rw .cyc)  -- BAT.MARGIN_K
  | 0xA07 => some (prow .u16 0xffff 5000 10000 9000 .rw .imm)  -- BAT.CONF_LOAD
  | 0xA08 => some (prow .u16 0xffff 0 10000 2000 .rw .imm)  -- BAT.CONF_COLD
  | 0xA09 => some (prow .u16 0xffff 1 10000 100 .rw .imm)  -- BAT.SOC_SLEW
  | 0xA0A => some (prow .u32 10 60 86400 1800 .rw .imm)  -- BAT.REST_S
  | 0xA0B => some (prow .u32 10 10 86400 600 .rw .imm)  -- BAT.FLOAT_OK_S
  | 0xA0C => some (prow .u16 10 1 600 10 .rw .imm)  -- BAT.EOD_FILT_S
  | 0xA0D => some (prow .u32 11 0 60000 1000 .rw .imm)  -- BAT.CUTOFF_DELAY_MS
  | 0xA0E => some (prow .u32 1 0 10000 2000 .rw .imm)  -- BAT.REJOIN_MARGIN_MV
  | 0xA0F => some (prow .u32 10 60 86400 3600 .rw .imm)  -- BAT.REJOIN_WAIT_S
  | 0xA10 => some (prow .u8 0xffff 0 100 20 .rw .imm)  -- BAT.TEST_MARGIN_PCT
  | 0xA11 => some (prow .u8 0xffff 10 90 30 .rw .imm)  -- BAT.LEARN_MIN_PCT
  | 0xA12 => some (prow .u16 0xffff 5000 10000 9000 .rw .imm)  -- BAT.LEARN_CONF
  | 0xA13 => some (prow .u32 0 0 0xffffffff 0 .ro .imm)  -- BAT.TEST
  | 0xA14 => some (prow .u32 0 0 0xffffffff 0 .ro .imm)  -- BAT.LOST_UPDATES
  | _ => none

/-- The SHB and FLD block (Table 4.10). -/
def row0B (id : Nat) : Option ParamRow :=
  match id with
  | 0xB00 => some (prow .u8 0 0 7 0 .rw .boot)  -- SHB.NODE
  | 0xB01 => some (prow .enum 0 0 3 0 .rw .boot)  -- SHB.PORT_MODE
  | 0xB02 => some (prow .enum 0 0 2 1 .rw .boot)  -- SHB.NBR
  | 0xB03 => some (prow .enum 0 0 3 1 .rw .boot)  -- SHB.DBR
  | 0xB04 => some (prow .u8 0 1 3 1 .rw .imm)  -- SHB.GEN_MIN
  | 0xB05 => some (prow .u8 0 1 3 1 .ro .imm)  -- SHB.GEN_BUS
  | 0xB06 => some (prow .u8 0 0 255 0 .ro .imm)  -- SHB.PEERS
  | 0xB07 => some (prow .u8 0 0 255 0 .ro .imm)  -- SHB.PEER_LOW
  | 0xB0A => some (prow .u32 0 0 0xffffffff 0 .ro .imm)  -- SHB.RX_IGNORED
  | 0xB0B => some (prow .s64 9 (-9223372036854775808) 0x7fffffffffffffff 0 .ro .imm)  -- SHB.CLOCK_OFS
  | 0xB90 => some (prow .u16 0 0 0xffff 0 .ro .imm)  -- FLD.STATE
  | 0xB91 => some (prow .u16 0 0 0xffff 0 .rw .imm)  -- FLD.OUT_SET
  | 0xB92 => some (prow .u32 10 10 3600 60 .rw .imm)  -- FLD.FUNC_TEST_S
  | _ =>
    if 0x0B08 ≤ id ∧ id ≤ 0x0B09 then some (prow .u32 0 0 0xffffffff 0 .ro .imm)  -- SHB.PORT_STAT0–SHB.PORT_STAT1
    else if 0x0B10 ≤ id ∧ id ≤ 0x0B17 then some (prow .u32 0 0 0xffffffff 0 .ro .imm)  -- SHB.PEER0_INFO–SHB.PEER7_INFO
    else if 0x0B20 ≤ id ∧ id ≤ 0x0B37 then some ((prow .u8 0 0 127 0 .rw .mode).withGap 1 15)  -- SHB.DEV0–SHB.DEV23
    else if 0x0B38 ≤ id ∧ id ≤ 0x0B3B then some (prow .u16 0 0 0xffff 0 .rw .mode)  -- SHB.MOD0–SHB.MOD3
    else if 0x0B40 ≤ id ∧ id ≤ 0x0B57 then some (prow .u32 0 0 0xffffffff 0 .ro .imm)  -- SHB.DEV_STAT0–SHB.DEV_STAT23
    else if 0x0B58 ≤ id ∧ id ≤ 0x0B5B then some (prow .u64 0 0 0xffffffffffffffff 0 .ro .imm)  -- SHB.MOD_SUM0–SHB.MOD_SUM3
    else if 0x0B80 ≤ id ∧ id ≤ 0x0B8F then some ((prow .u32 0 0 0xffffffff 100 .rw .imm).withMask 0xFFF0FFFF)  -- FLD.CFG0–FLD.CFG15
    else none

/-- The NVS block (Table 4.10). -/
def row0C (id : Nat) : Option ParamRow :=
  match id with
  | 0xC00 => some (prow .u16 0 0 0xffff 0 .ro .imm)  -- NVS.STATE
  | 0xC01 => some (prow .u32 0xffff 10 10000 22 .rw .imm)  -- NVS.HOLD_UF
  | 0xC02 => some (prow .u32 8 0 0xffffffff 0 .ro .cyc)  -- NVS.HOLD_T_US
  | 0xC03 => some (prow .u32 8 0 0xffffffff 0 .ro .cyc)  -- NVS.FLUSH_US
  | 0xC04 => some (prow .u32 0 0 0xffffffff 0 .ro .imm)  -- NVS.POWER_CYCLES
  | 0xC05 => some (prow .u40 9 0 0xffffffffff 0 .ro .imm)  -- NVS.LAST_FLUSH
  | 0xC06 => some (prow .u32 0 0 0xffffffff 0 .ro .imm)  -- NVS.CORRECTED
  | 0xC07 => some (prow .u32 0 0 0xffffffff 0 .ro .imm)  -- NVS.UNCORRECTED
  | 0xC08 => some (prow .u8 0xffff 0 100 0 .ro .imm)  -- NVS.SCRUB_PCT
  | 0xC09 => some (prow .u40 9 0 0xffffffffff 0 .ro .imm)  -- NVS.SCRUB_LAST
  | 0xC0A => some (prow .u32 0 0 0xffffffff 0 .ro .imm)  -- NVS.HELD_WRITES
  | 0xC0B => some (prow .u32 0 0 0xffffffff 0 .ro .imm)  -- NVS.LOST_WRITES
  | 0xC0C => some (prow .u16 0 0 0xffff 0 .ro .imm)  -- NVS.MIGRATED
  | 0xC0D => some (prow .u16 0 0 0xffff 0 .ro .imm)  -- NVS.MIGRATE_FAIL
  | _ => none

/-- The LOG block (Table 4.10). -/
def row0D (id : Nat) : Option ParamRow :=
  match id with
  | 0xD00 => some (prow .u16 0 0 0xffff 0 .ro .imm)  -- LOG.STATE
  | 0xD01 => some (prow .u32 0 0 0xffffff 0 .ro .imm)  -- LOG.NEXT_SEQ
  | 0xD02 => some (prow .u32 0 0 0xffffff 0 .ro .imm)  -- LOG.WATERMARK
  | 0xD03 => some (prow .u32 0 0 0xffffff 0 .rw .imm)  -- LOG.CURSOR
  | 0xD04 => some (prow .u32 11 10 60000 1000 .rw .imm)  -- LOG.FLUSH_MS
  | 0xD05 => some (prow .u32 0xffff 1024 65536 16384 .rw .imm)  -- LOG.FLUSH_FILL
  | 0xD06 => some (prow .u8 0 0 3 2 .rw .imm)  -- LOG.NTF_SEV
  | 0xD07 => some (prow .bool 0 0 1 0 .rw .imm)  -- LOG.TRACE_EN
  | 0xD08 => some (prow .u32 0 0 0xffffffff 0 .ro .imm)  -- LOG.DROPPED
  | 0xD09 => some (prow .u32 0 0 0xffffffff 0 .ro .imm)  -- LOG.SUPPRESSED
  | 0xD0A => some (prow .u32 0xffff 0 65536 0 .ro .imm)  -- LOG.BUF_USED
  | _ =>
    if 0x0D0B ≤ id ∧ id ≤ 0x0D0E then some (prow .u16 0xffff 0 0xffff 0 .ro .imm)  -- LOG.POOL_USE0–LOG.POOL_USE3
    else if 0x0D10 ≤ id ∧ id ≤ 0x0D13 then some (prow .u32 0 0 0xffffffff 0 .rw .imm)  -- LOG.RATE_OVR0–LOG.RATE_OVR3
    else none

/-- The UPD block (Table 4.10). -/
def row0E (id : Nat) : Option ParamRow :=
  match id with
  | 0xE00 => some ((prow .u32 0 0 0xffffffff 0 .ro .imm).secure)  -- UPD.STATE
  | 0xE01 => some ((prow .u16 0 0 0xffff 0 .ro .imm).secure)  -- UPD.BANK_STATE
  | 0xE02 => some ((prow .u32 0 0 0xffffffff 0 .ro .imm).secure)  -- UPD.VER_A
  | 0xE03 => some ((prow .u32 0 0 0xffffffff 0 .ro .imm).secure)  -- UPD.VER_B
  | 0xE04 => some ((prow .u8 0 0 255 0 .ro .imm).secure)  -- UPD.SVN_FLOOR
  | 0xE05 => some ((prow .u8 0 0 255 0 .ro .imm).secure)  -- UPD.KEY_REVOKED
  | 0xE06 => some ((prow .u32 0 0x5a0b 0x5a0b 0 .wo .imm).secure)  -- UPD.TAKEOVER
  | 0xE07 => some ((prow .u32 0 0x5a0b 0x5a0b 0 .wo .imm).secure)  -- UPD.CONFIRM
  | 0xE08 => some ((prow .u32 0 0x5a0b 0x5a0b 0 .wo .imm).secure)  -- UPD.ROLLBACK
  | 0xE09 => some (((prow .u32 10 0 86400 600 .rw .imm).withGap 1 59).secure)  -- UPD.TRIAL_S
  | 0xE0A => some ((prow .u16 11 100 10000 2000 .rw .imm).secure)  -- UPD.SYNC_MAX_MS
  | 0xE0B => some ((prow .u8 0xffff 1 50 2 .rw .imm).secure)  -- UPD.LEAD_CYC
  | 0xE0C => some ((prow .bool 0 0 1 1 .rw .imm).secure)  -- UPD.PEER_GUARD
  | 0xE0D => some ((prow .u32 0 0 0xffffffff 0 .ro .imm).secure)  -- UPD.LAST
  | 0xE0E => some ((prow .enum 0 0 6 0 .ro .imm).secure)  -- UPD.SVC_BAUD
  | 0xE0F => some ((prow .u8 0 0 2 0 .ro .imm).secure)  -- UPD.DEBUG
  | 0xE10 => some ((prow .u32 0 0 0xffffffff 0 .ro .imm).secure)  -- UPD.HANDOVERS
  | 0xE11 => some ((prow .u32 0 0 0xffffffff 0 .ro .imm).secure)  -- UPD.ROLLBACKS
  | _ => none

/-- The BUS block (Table 4.10). -/
def row0F (id : Nat) : Option ParamRow :=
  match id with
  | 0xF00 => some (prow .enum 0 0 3 0 .rw .mode)  -- BUS.SENSE
  | 0xF01 => some (prow .u32 1 0 0xffff 0 .ro .cyc)  -- BUS.V_MV
  | 0xF02 => some (prow .u32 1 4000 64000 40000 .rw .imm)  -- BUS.SAG_MV
  | 0xF03 => some (prow .u32 0 0 0xffffffff 0 .ro .imm)  -- BUS.SAG_COUNT
  | 0xF04 => some (prow .u32 8 0 0xffffffff 0 .ro .imm)  -- BUS.SAG_LAST_US
  | 0xF05 => some (prow .u32 8 0 0xffffffff 0 .ro .imm)  -- BUS.SAG_MAX_US
  | 0xF06 => some (prow .u32 0xffff 0 10000000 0 .rw .cyc)  -- BUS.C_UF
  | 0xF07 => some (prow .u32 2 0 2000000 0 .rw .cyc)  -- BUS.I_BRIDGE_MA
  | 0xF08 => some (prow .u16 0 0 0xffff 0 .ro .cyc)  -- BUS.COND
  | 0xF09 => some (prow .u32 1 8000 66000 58000 .rw .imm)  -- BUS.OV_MV
  | 0xF14 => some (prow .u8 0 0 4 0 .rw .cyc)  -- BUS.STROBE_STAGE
  | 0xF15 => some (prow .u8 0 0 4 0 .ro .cyc)  -- BUS.STROBE_STAGE_EFF
  | 0xF16 => some (prow .u32 0 0 0xffffffff 0 .ro .imm)  -- BUS.SHED_STATE
  | 0xF17 => some (prow .u16 11 10 60000 1000 .rw .imm)  -- BUS.STEP_GAP_MS
  | 0xF18 => some (prow .u16 11 100 60000 2000 .rw .imm)  -- BUS.RESTORE_GAP_MS
  | 0xF20 => some (prow .u32 1 8000 64000 54000 .rw .cyc)  -- BUS.V_SET_MV
  | 0xF21 => some (prow .bool 0 0 1 1 .rw .cyc)  -- BUS.SHARE_EN
  | 0xF22 => some (prow .u16 0xffff 0 0xffff 2000 .rw .cyc)  -- BUS.SHARE_KP
  | 0xF23 => some (prow .u16 1 1 500 20 .rw .cyc)  -- BUS.SHARE_STEP_MV
  | 0xF24 => some (prow .u16 1 0 2000 300 .rw .cyc)  -- BUS.SHARE_TRIM_MV
  | 0xF25 => some (prow .u8 0xffff 1 255 1 .rw .cyc)  -- BUS.SHARE_DIV
  | 0xF26 => some (prow .u32 2 0 0xffffffff 0 .ro .cyc)  -- BUS.SHARE_ERR_MA
  | 0xF27 => some (prow .u32 11 0 600000 5000 .rw .imm)  -- BUS.WALKIN_MS
  | 0xF30 => some ((prow .u32 3 0 0x77359400 0 .rw .cyc).withGap 1 999)  -- BUS.CAP_MW
  | 0xF31 => some (prow .u32 3 0 0x5f5e100 200000 .rw .cyc)  -- BUS.CAP_HYST_MW
  | 0xF32 => some ((prow .u32 0 0 0xffffffff 0 .rw .cyc).withMask 0xFFFFFF)  -- BUS.PEAK_BAT_MAP
  | 0xF33 => some (prow .u32 10 0 86400 600 .rw .imm)  -- BUS.PEAK_MAX_S
  | 0xF34 => some (prow .s32 3 (-2147483648) 0x7fffffff 0 .ro .cyc)  -- BUS.SRC_MW
  | 0xF35 => some (prow .enum 0 0 2 0 .ro .cyc)  -- BUS.CAP_STATE
  | _ =>
    if 0x0F10 ≤ id ∧ id ≤ 0x0F13 then some ((prow .u32 0 0 0xffffffff 0 .rw .cyc).withMask 0xFFFFFF)  -- BUS.SHED_MAP1–BUS.SHED_MAP4
    else if 0x0F40 ≤ id ∧ id ≤ 0x0F57 then some (prow .u8 0 0 255 16 .rw .cyc)  -- BUS.SHARE_W0–BUS.SHARE_W23
    else none

/-- The dictionary: the row of an ID, none where no parameter has it (R9, R119, R400, R443). -/
def paramRow (id : Nat) : Option ParamRow :=
  match id / 0x100 with
  | 0x00 => row00 id
  | 0x01 => row01 id
  | 0x02 => row02 id
  | 0x03 => row03 id
  | 0x04 => row04 id
  | 0x05 => row05 id
  | 0x06 => row06 id
  | 0x07 => row07 id
  | 0x08 =>
    if id < 0x0880 then tmrRow (id % 8)
    else if id < 0x0890 then
      if id = 0x0880 then (ktRow 0).map fun r => { r with dflt := 9 }
      else if id = 0x0882 then (ktRow 2).map fun r => { r with acc := .ro }
      else ktRow (id % 4)
    else row08 id
  | 0x09 => row09 id
  | 0x0A => if 0x0A40 ≤ id ∧ id < 0x0AC0 then strRow (id % 0x20) else row0A id
  | 0x0B => row0B id
  | 0x0C => row0C id
  | 0x0D => row0D id
  | 0x0E => row0E id
  | 0x0F => row0F id
  | _ =>
    if 0x1000 ≤ id ∧ id < 0x1600 then chRow (id % 0x40)
    else if 0x1600 ≤ id ∧ id < 0x1700 then
      (grpRow (id % 0x40)).map fun r => if id % 0x40 = 5 then { r with dflt := 0x3F * 2 ^ (6 * ((id - 0x1600) / 0x40)) } else r
    else none

/-- The default of an ID, 0 where no parameter has it. -/
def paramDflt (id : Nat) : Int := ((paramRow id).map ParamRow.dflt).getD 0

/-- The ID of a channel parameter (R9). -/
def chId (c : Ch) (off : Nat) : Nat := 0x1000 + c.val * 0x40 + off

/-- The ID of a group parameter (R9). -/
def grpId (g : Grp) (off : Nat) : Nat := 0x1600 + g.val * 0x40 + off

/-- The ID of a general timer's parameter (R400). -/
def tmrId (k : Tmr) (off : Nat) : Nat := 0x0800 + 8 * k.val + off

/-- The ID of a keeping timer's parameter (R400). -/
def ktId (n : Fin 4) (off : Nat) : Nat := 0x0880 + 4 * n.val + off

/-- The ID of a string's parameter (R443). -/
def strId (k : Str) (off : Nat) : Nat := 0x0A40 + 0x20 * k.val + off

end Sys2Proof.Machine
end

