-- ==== Sys2Proof/Machine/State.lean ====
section
/-! DEFINITION. The state of the Hatan: one structure for each subsystem, all plain data, with the reset value of every
field. The line above a field reads: what it is | its width | the file and rule of spec/ that name it | its reset value.
'unpowered' after a value says that the value stands until the first POWER_ON writes it. -/

namespace Sys2Proof.Machine

/-! ### Faults and refusals -/

/-- The machine never stops on a fault: every hardware fault of the spec is an effect on the state. The one constructor
exists for an access to a numbered object the block does not have; no meaning raises it (safe). -/
inductive Fault
  | noSuchObject
  deriving DecidableEq, Repr

/-- Refusals. `notModelled` is answered by an arm of the dispatch whose command has no meaning yet (safe). -/
inductive Refusal
  | notModelled (mnemonic : String)
  deriving DecidableEq, Repr

/-! ### Modes and start-up (chapters 1 and 2) -/

/-- The twelve modes (Table 2.1). -/
inductive Mode
  | recovery | boot | commission | standby | online | bridge | recharge | maintain | handover | safeKeep | cutoff | dormant
  deriving DecidableEq, Repr

/-- The mode code of Table 2.1 (R33). -/
def Mode.code : Mode → Nat
  | .recovery => 0 | .boot => 1 | .commission => 2 | .standby => 3 | .online => 4 | .bridge => 5 | .recharge => 6
  | .maintain => 7 | .handover => 8 | .safeKeep => 9 | .cutoff => 10 | .dormant => 11

/-- How far a start has come (Table 2.5). `off` is before power, `boot` after the Puppeteers leave reset, `abandoned` a
cold start given up under R45, `run` after the end of BOOT. -/
inductive Phase
  | off | boot | abandoned | run
  deriving DecidableEq, Repr

/-- The state of one Puppeteer (R22, R51, R52, R251). -/
structure Pupp where
  /-- the Puppeteer runs its image | 1 bit | 02 R51, 09 R247 | false, unpowered -/
  up : Bool
  /-- it restarts alone from the running bank | 1 bit | 02 R51 | false -/
  restarting : Bool
  /-- it is not restarted until the next start | 1 bit | 02 R52 | false -/
  barred : Bool
  /-- clock times of its failures within 10 min | list | 02 R52 | empty -/
  failTimes : List Nat
  /-- its discarded-write counter | 32 bits | 01 R22 | 0 -/
  discarded : Nat
  /-- SEQ of its last beat | 4 bits | 09 R247 | 0 (DESIGN CHOICE, log 12) -/
  seq : Nat
  /-- its heartbeat is alive: a first good beat was seen and none failed since | 1 bit | 09 R247 | false -/
  alive : Bool
  /-- its heartbeat is supervised: it beat good since the boot handshake and was not reset | 1 bit | 09 R247 | false -/
  watched : Bool
  /-- IN_STEP of its last beat | 1 bit | 09 R247 | false -/
  inStep : Bool
  deriving DecidableEq, Repr

/-- Mode and start-up state. -/
structure Sys where
  /-- how far the start has come | enum | 02 R40, R45 | off -/
  phase : Phase
  /-- the present mode, H_MODE.MODE and SYS.MODE | 4 bits | 02 R33 | BOOT (Table 3.4) -/
  mode : Mode
  /-- the previous mode, H_MODE.PREV and SYS.PREV_MODE | 4 bits | 02 R37 | RECOVERY, code 0 (Table 3.4) -/
  prevMode : Mode
  /-- H_STATUS.FW_READY | 1 bit | 03 R76 | 0 -/
  fwReady : Bool
  /-- SYS.RESET_CAUSE | 4 bits | 02 R54 | 0 (VIN applied) -/
  resetCause : Nat
  /-- the start under way is a warm restart | 1 bit | 02 R46 | false -/
  warm : Bool
  /-- the mode in force when the restart began, after R49's replacement | enum | 02 R49 | BOOT -/
  keptMode : Mode
  /-- the mode HANDOVER came from | enum | 02 R34 | STANDBY (DESIGN CHOICE, log 12) -/
  handoverFrom : Mode
  /-- SYS.WARM_COUNT | 32 bits | 02 R59 | 0 -/
  warmCount : Nat
  /-- SYS.FAILOVER_COUNT | 32 bits | 02 R59 | 0 -/
  failoverCount : Nat
  /-- SYS.PROFILE_ACTIVE: SERVICE is in force | 1 bit | 02 R57 | 1 (the default of SYS.PROFILE) -/
  service : Bool
  /-- the configuration is present and valid | 1 bit | 18 R582 | false -/
  configValid : Bool
  /-- the boot self-test of the handshake or the memories failed, so the boot does not end | 1 bit | 02 R42 | false -/
  bootStuck : Bool
  /-- the images or the boot ROM could start nothing at a warm restart | 1 bit | 02 R50 | false -/
  noImage : Bool
  /-- Puppeteer A | record | 02 R51 | as its fields -/
  pupA : Pupp
  /-- Puppeteer B | record | 02 R51 | as its fields -/
  pupB : Pupp
  /-- the active token: who commands, H_STATUS.ACTIVE_B | 1 bit | 01 R22 | A -/
  active : Pup
  /-- H_STATUS.SIMPLEX | 1 bit | 02 R51 | 0 -/
  simplex : Bool
  /-- the main domain runs from the backup oscillator, H_STATUS.CLK_FAULT | 1 bit | 01 R27 | 0 -/
  clkFault : Bool
  /-- XIN shows correct edges again and the return waits for the next cycle boundary | 1 bit | 01 R27 | false -/
  xinBack : Bool
  /-- corrected-error counter of Puppeteer A's local memory | 32 bits | 01 R30 | 0 -/
  eccA : Nat
  /-- corrected-error counter of Puppeteer B's local memory | 32 bits | 01 R30 | 0 -/
  eccB : Nat
  /-- corrected-error counter of the shared SRAM | 32 bits | 01 R30 | 0 -/
  eccShared : Nat
  /-- an entry into DORMANT waits for its writes | 1 bit | 02 R61 | false -/
  dormDue : Bool
  /-- the MODE_REQUEST that asked for it | tag id, or none | 02 R61, 04 R115 | none -/
  dormReq : Option Nat
  /-- a black start is under way | 1 bit | 02 R585 | false -/
  blackStart : Bool
  /-- channels the black start has tried | 24 bits | 02 R585 | none -/
  blackTried : List Ch
  /-- channels isolated as themselves | 24 bits | 02 R35, R586 | none -/
  isoCh : List Ch
  /-- groups isolated | 4 bits | 02 R35, R586 | none -/
  isoGrp : List Grp
  /-- a BATTERY channel has closed in the black start under way | 1 bit | 02 R585 | false -/
  blackClosed : Bool
  /-- the BOOT self-test of the start under way has run | 1 bit | 02 R40, R42 | false -/
  tested : Bool
  /-- the first cycle means after the configuration step have been taken | 1 bit | 02 R49 | false -/
  bootMeans : Bool
  /-- level of the BOOTSEL pin as last seen | 1 bit | 02 R43, 22 pins | low (DESIGN CHOICE, log 91) -/
  bootsel : Bool
  /-- the MODE_REQUEST STANDBY that waits for a group's reload to end | tag id, or none | 02 R584, 04 R115 | none -/
  standbyDue : Option Nat
  deriving DecidableEq, Repr

/-! ### The host link (chapter 3) -/

/-- The direct registers and the frame engine of the SPI port. -/
structure Link where
  /-- H_IRQ_STATUS | 13 bits | 03 R76 | 0 -/
  irqStatus : Nat
  /-- H_IRQ_MASK | 13 bits | 03 R76 | 0x43 -/
  irqMask : Nat
  /-- H_IRQ_CFG.PULSE | 1 bit | 03 R77 | 0 -/
  pulse : Bool
  /-- a 1 us pulse stands on nIRQ | 1 bit | 03 R80 | false -/
  pulseOut : Bool
  /-- H_LOCK: the holder | 2 bits | 03 R82 | free -/
  lock : Option Reader
  /-- H_DB_OUT | 16 bits | 03 R77 | 0 -/
  dbOut : Nat
  /-- H_COLLIDE | 32 bits | 03 R77 | 0 -/
  collide : Nat
  /-- H_LINK_ERR.HDR | 8 bits | 03 R77 | 0 -/
  errHdr : Nat
  /-- H_LINK_ERR.DATA | 8 bits | 03 R77 | 0 -/
  errData : Nat
  /-- H_LINK_ERR.LEN | 8 bits | 03 R77 | 0 -/
  errLen : Nat
  /-- H_LINK_ERR.DEN | 8 bits | 03 R77 | 0 -/
  errDen : Nat
  /-- H_LAST_ERR.RESULT | 4 bits | 03 R77 | 0 -/
  lastErrResult : Nat
  /-- H_LAST_ERR.ADDR | 6 bits | 03 R77 | 0 -/
  lastErrAddr : Nat
  /-- the OPTIME high latch | 8 bits, or none | 03 R78 | none -/
  optLatch : Option Nat
  /-- H_SCRATCH | 32 bits | 03 R77 | 0 -/
  scratch : Word
  /-- RESULT of the previous frame | 4 bits | 03 R69 | 0 (DESIGN CHOICE, log 12) -/
  result : Nat
  /-- what MISO drove in the last frame: the status word, then the words after the turnaround | words | 03 R68, R69 | none -/
  miso : List Word
  /-- the CRC-16 that MISO drove after the words, none when the frame ended before it | 16 bits, or none | 03 R68, R73 | none -/
  misoCrc : Option Nat
  /-- the bits clocked in that frame: a word or CRC begun within them is listed, and those beyond the CRC read as 1 | bits | 03 R68 | 0 -/
  misoBits : Nat
  /-- the last word a register read over the bridge returned | 32 bits | 03 R83, 20 R517 | 0 -/
  bridgeWord : Word
  deriving DecidableEq, Repr

/-- An inbound queue (R85 to R93). -/
structure InQ where
  /-- the words the queue holds, oldest first, IN_LVL of them | 64 x 32 bits | 04 R87 | empty -/
  words : List Word
  /-- how many of them, from the oldest, are offered to the firmware | 7 bits | 04 R91 | 0 -/
  offered : Nat
  /-- IN_CONS | 6 bits | 04 R87 | 0 -/
  cons : Nat
  /-- a word was replaced since the firmware last dealt with the collision bit | 1 bit | 04 R93 | false -/
  damaged : Bool
  /-- the words that the collision has not reached: those in front of the slot it damaged | 7 bits | 04 R93 | 0 -/
  sound : Nat
  /-- clock time at which the first word of the message that the offered words end inside was offered | clock, or none | 04 R92 | none -/
  fragAt : Option Nat
  deriving DecidableEq, Repr

/-- An outbound queue (R85, R71, R94). -/
structure OutQ where
  /-- the words the queue holds, oldest first, OUT_LVL of them | 64 x 32 bits | 04 R87 | empty -/
  words : List Word
  /-- OUT_CONS | 6 bits | 04 R87 | 0 -/
  cons : Nat
  /-- the last consumed burst | up to 64 words, or none | 03 R71 | none -/
  burst : Option (List Word)
  deriving DecidableEq, Repr

/-! ### Sessions and the tag table (chapter 4) -/

/-- A Deolo session (R103 to R113, R505). -/
structure Session where
  /-- the agreed version, major and minor bytes | 16 bits | 04 R104 | no session -/
  ver : Nat
  /-- the session is secure | 1 bit | 04 R106, R107 | no session -/
  secure : Bool
  /-- the nonce a SESSION_AUTH answers | 4 x 32 bits, or none | 04 R106 | no session -/
  nonce : Option (List Word)
  /-- it is open: on channels 10 to 13 only after SESSION_AUTH | 1 bit | 04 R106 | no session -/
  isOpen : Bool
  /-- the subscription mask | 16 bits | 04 R112 | no session -/
  mask : Nat
  /-- the notification count carried in TAG | 9 bits | 04 R112 | no session -/
  ntf : Nat
  /-- notifications dropped since the last NTF_LOST | 16 bits | 04 R113 | no session -/
  lost : Nat
  /-- which opcodes were dropped | 16 bits | 04 R113 | no session -/
  lostMap : Nat
  /-- the latest NTF_MODE that waits for room | message, or none | 04 R113 | no session -/
  heldMode : Option (List Word)
  /-- the latest NTF_CH that waits for room | message, or none | 04 R113 | no session -/
  heldCh : Option (List Word)
  /-- the event cursor | 24 bits | 19 R505 | no session -/
  cursor : Nat
  /-- the tag-table number of the SESSION_OPEN that opened it | model's own | 04 R99 | no session -/
  since : Nat
  /-- the 32 bytes of HIF.HOST_KEY0 to HIF.HOST_KEY7 in force when it was opened, none while no key was set | 256 bits, or none | 04 R106, R107, R122 | no session -/
  key : Option (List Nat)
  deriving DecidableEq, Repr

/-- A command in flight (R98, R99, R100). -/
structure TagEnt where
  /-- a number of its own, given in the order of consumption | model's own | 04 R100 | no entry -/
  id : Nat
  /-- its mailbox channel | 4 bits | 04 R99 | no entry -/
  chan : Mb
  /-- its tag | 9 bits | 04 R95 | no entry -/
  tag : Nat
  /-- its opcode | 8 bits | 04 R95 | no entry -/
  op : Nat
  /-- it uses an entry held back for its channel | 1 bit | 04 R100 | no entry -/
  heldBack : Bool
  /-- its effect has begun | 1 bit | 04 R103 | no entry -/
  begun : Bool
  /-- its final completion has been made | 1 bit | 04 R98 | no entry -/
  done : Bool
  /-- messages that wait for room, oldest first | list | 04 R97 | no entry -/
  out : List (List Word)
  /-- once its final completion stands in the outbound queue: the words the host has still to consume | 7 bits | 04 R97 | no entry -/
  left : Option Nat
  deriving DecidableEq, Repr

/-- A SESSION_OPEN or SESSION_CLOSE that waits until the begun commands of the session it ends have completed (R103,
Table 4.6). -/
structure SesDue where
  /-- its tag-table number | model's own | 04 R103 | none waits -/
  id : Nat
  /-- the session that a SESSION_OPEN opens; none for a SESSION_CLOSE | record, or none | 04 R103 | none waits -/
  new : Option Session
  /-- the body of its completion | words | 04 R103, R104 | none waits -/
  body : List Word
  deriving DecidableEq, Repr

/-- The firmware's Deolo state. -/
structure Deolo where
  /-- the sessions of channels 0 to 14 (15 holds none) | 16 records | 04 R103 | none -/
  ses : Vector (Option Session) 16
  /-- the tag table, in the order of consumption | up to 512 | 04 R100 | empty -/
  tags : List TagEnt
  /-- the next tag-table number | model's own | 04 R100 | 0 -/
  nextId : Nat
  /-- HIF.INFLIGHT_PEAK | 16 bits | 04 R122 | 0 -/
  peak : Nat
  /-- HIF.NTF_DROPPED | 32 bits | 04 R122 | 0 -/
  ntfDropped : Nat
  /-- HIF.INBOUND_LOST | 32 bits | 04 R122 | 0 -/
  inboundLost : Nat
  /-- HIF.AUTH_FAILS | 32 bits | 04 R122 | 0 -/
  authFails : Nat
  /-- HIF.HOST_KEY_SET | 1 bit | 04 R107 | 0 -/
  keySet : Bool
  /-- clock times of recent failed SESSION_AUTHs, by channel | lists | 04 R109 | empty -/
  authTimes : Vector (List Nat) 16
  /-- channels locked out by R109 | 16 bits | 04 R109 | none -/
  lockout : Vector Bool 16
  /-- the count carried in TAG by the diagnostic notifications of channel 15 | 9 bits | 04 R86, R112 | 0 -/
  ntf15 : Nat
  /-- status of the last one-item parameter command of the table's parameter rows | 8 bits | model's own | 0 (DESIGN CHOICE, log 12) -/
  lastStatus : Nat
  /-- value read by the last one-item parameter read | words | model's own | 0 (DESIGN CHOICE, log 12) -/
  lastRead : Int
  /-- a SESSION_OPEN or SESSION_CLOSE that waits for the session's begun commands | 16 x record, or none | 04 R103, Table 4.6 | none -/
  sesDue : Vector (Option SesDue) 16
  deriving DecidableEq, Repr

/-! ### The power-path channels, their inrush, junction model, wear and trips (chapters 5 to 7) -/

/-- Channel states (Table 5.6). -/
inductive ChSt
  | disabled | oos | opened | wait | inrush | on | diode | armed | tripped | latched | isolated
  deriving DecidableEq, Repr

/-- The code of CHn.STATE (Table 5.6). -/
def ChSt.code : ChSt → Nat
  | .disabled => 0 | .oos => 1 | .opened => 2 | .wait => 3 | .inrush => 4 | .on => 5 | .diode => 6 | .armed => 7
  | .tripped => 8 | .latched => 9 | .isolated => 10

/-- Conducting states: INRUSH, ON, DIODE, ARMED (R153, R154). -/
def ChSt.conducts : ChSt → Bool
  | .inrush => true | .on => true | .diode => true | .armed => true
  | .disabled => false | .oos => false | .opened => false | .wait => false | .tripped => false | .latched => false
  | .isolated => false

/-- How a gate is driven (Table 5.4): pulled down with FULL or SOFT and then held low; sourced toward full at a current in
µA; full, 12 V above source; the armed boost; the servo's current in units of 10 µA, negative sinking; regulated to a forward
drop in mV (R143); regulated to a string's charge, its current in mA and its voltage in mV, none without a target (R144), a
regulated gate rising with a current in µA (R127); held at its level. -/
inductive Gate
  | lowFull | lowSoft
  | rise (ua : Nat)
  | full
  | boost
  | servo (u : Int)
  | forward (mv ua : Nat)
  | charge (ma : Nat) (mv : Option Int) (ua : Nat)
  | hold
  deriving DecidableEq, Repr

/-- The gate is low: pulled down and then held. -/
def Gate.isLow : Gate → Bool
  | .lowFull => true | .lowSoft => true
  | .rise _ => false | .full => false | .boost => false | .servo _ => false
  | .forward _ _ => false | .charge _ _ _ => false | .hold => false

/-- Roles (CHn.ROLE). -/
inductive Role
  | disabled | source | battery | load | tie
  deriving DecidableEq, Repr

/-- The role of a code of CHn.ROLE (Table 5.10). -/
def Role.ofCode (v : Int) : Role :=
  if v = 1 then .source else if v = 2 then .battery else if v = 3 then .load else if v = 4 then .tie else .disabled

/-- Who filed an inrush, and so how its end is reported (R172, R202, R585, R588). -/
inductive Filer
  | host (tag : Nat)   -- an OP_START, by its tag-table number
  | auto               -- R171
  | retry              -- R202
  | restore            -- R588
  | rejoin             -- R424
  | rescue             -- R468
  | black              -- R585
  deriving DecidableEq, Repr

/-- A FET_TEST pulse (R407). -/
structure Fet where
  /-- the pulse current I_p | mA | 15 R407 | no test -/
  ip : Nat
  /-- the pulse length t_p | µs | 15 R407 | no test -/
  tp : Nat
  /-- the peak of |I| so far | mA | 15 R407 | no test -/
  peakI : Nat
  /-- CHn.DROP_MV at the peak current | mV | 15 R407 | no test -/
  dropAt : Int
  deriving DecidableEq, Repr

/-- An inrush under way (R172 to R178). -/
structure Inr where
  /-- 1 follow, 2 servo | 2 bits | 06 R174 | no inrush -/
  phase : Nat
  /-- the far side is lower: gate A is servoed | 1 bit | 06 R173 | no inrush -/
  outward : Bool
  /-- ticks since entry into INRUSH | µs | 06 R172, R176 | no inrush -/
  ticks : Nat
  /-- the sum of |i| over phase 2, in 1/16 mA µs | number | 06 R177 | no inrush -/
  sum16 : Nat
  /-- |V(CSN) - V(VS)| at the start of phase 2 | 1/16 mV | 06 R177 | no inrush -/
  dv0 : Nat
  /-- the sum of |i| over the whole inrush, in 1/16 mA µs | number | 06 Table 6.2 word 4 | no inrush -/
  charge16 : Nat
  /-- peak CHn.TJ | S16, 1/64 °C | 06 Table 6.2 word 2 | no inrush -/
  peak : Int
  /-- BUS_CHARGE granted | mC per 10 ms | 06 R178, R181 | no inrush -/
  granted : Nat
  /-- who filed it | enum | 06 R172 | no inrush -/
  filer : Filer
  /-- the phase-1 end was reported by the follower's driver | 1 bit | 06 R174 | no inrush -/
  followed : Bool
  /-- the servo runs a FET_TEST | record, or none | 15 R407 | no inrush -/
  fet : Option Fet
  deriving DecidableEq, Repr

/-- Where the yo-yo stands for a TRIPPED channel (R201 to R206). -/
inductive Yoyo
  | idle                    -- nothing scheduled
  | delay (left : Nat)      -- a delay runs, µs left
  | ready                   -- the delay has elapsed; the other conditions of R202 are awaited
  | waiting                 -- a WAIT action: until the cause clears (R205)
  deriving DecidableEq, Repr

/-- What waits for a channel until its group's Marionette runs again (R46, R156): to open in a state with a pull-down, to go
through a change of role, to leave WAIT, to go to WAIT, to go between ON and ARMED, or to return in a
restoration. -/
inductive ChAct
  | shut (st : ChSt) (g : Gate)
  | role
  | unwait
  | wait
  | disarm
  | arm
  | back (id : Nat)
  deriving DecidableEq, Repr

/-- One power-path channel. -/
structure Chan where
  /-- CHn.STATE | 4 bits | 05 R152 | DISABLED (the default role) -/
  st : ChSt
  /-- gate A | enum | 05 R142 | low, with FULL -/
  gateA : Gate
  /-- gate B | enum | 05 R142 | low, with FULL -/
  gateB : Gate
  /-- role last latched into the reflexes | enum | 05 R137 | DISABLED -/
  lRole : Role
  /-- state last latched into the reflexes | enum | 05 R137 | DISABLED -/
  lSt : ChSt
  /-- OC threshold last latched | mA | 05 R137 | 0 -/
  lOc : Nat
  /-- RC threshold last latched, 0 off | mA | 05 R137 | 0 -/
  lRc : Nat
  /-- CHn.TRIP_RULES last latched, under which a reflex's causes act | 32 bits | 01 R21, 05 R137 | 0xFFFFFFFF -/
  lRules : Nat
  /-- CHn.FLAGS.OC | 1 bit | 05 R163 | 0 -/
  fOc : Bool
  /-- CHn.FLAGS.RC | 1 bit | 05 R163 | 0 -/
  fRc : Bool
  /-- CHn.FLAGS.UV, the undervoltage comparator | 1 bit | 05 R135, R163 | 0 -/
  fUv : Bool
  /-- CHn.FLAGS.OVR | 1 bit | 05 R130 | 0 -/
  ovr : Bool
  /-- CHn.FLAGS.PRESENT | 1 bit | 05 R148 | 0 -/
  present : Bool
  /-- CHn.FLAGS.EQUAL | 1 bit | 05 R163 | 0 -/
  equal : Bool
  /-- CHn.FLAGS.SHED | 1 bit | 08 R231 | 0 -/
  shed : Bool
  /-- CHn.FLAGS.KEEP | 1 bit | 05 R156 | 0 -/
  keep : Bool
  /-- CHn.FLAGS.OOS: its BOOT self-test failed | 1 bit | 02 R42 | 0 -/
  oos : Bool
  /-- CHn.FLAGS.SHEET_DIFF | 1 bit | 05 R147 | 0 -/
  sheetDiff : Bool
  /-- the probe current is applied | 1 bit | 05 R149 | 0 -/
  probe : Bool
  /-- it was closed by a test command in COMMISSION | 1 bit | 05 R155 | false -/
  testClosed : Bool
  /-- the presence filter runs afresh | 1 bit | 05 R157 | false -/
  presRestart : Bool
  /-- consecutive ticks at which VOLT or PROBE reads other than PRESENT | number | 05 R148 | 0 -/
  presRun : Nat
  /-- CHn.I_MA | S32 mA | 05 R131 | 0 (DESIGN CHOICE, log 12) -/
  iMa : Int
  /-- CHn.VFAR_MV | U32 mV | 05 R131 | 0 (DESIGN CHOICE, log 12) -/
  vfar : Int
  /-- CHn.DROP_MV | S32 mV | 05 R131 | 0 (DESIGN CHOICE, log 12) -/
  drop : Int
  /-- cycle mean of V(CHnn_CSN) | mV | 08 R223, 11 R299 | 0 (DESIGN CHOICE, log 12) -/
  csn : Int
  /-- current of the latest tick | 1/16 mA | 11 R296 | 0 (DESIGN CHOICE, log 12) -/
  i16 : Int
  /-- drop of the latest tick | 1/16 mV | 11 R296 | 0 (DESIGN CHOICE, log 12) -/
  drop16 : Int
  /-- V(CHnn_VS) of the latest tick | 1/16 mV | 05 R148 | 0 (DESIGN CHOICE, log 12) -/
  vs : Int
  /-- V(CHnn_CSN) of the latest tick | 1/16 mV | 05 R148 | 0 (DESIGN CHOICE, log 12) -/
  vcsn : Int
  /-- charge pump above source at the latest tick | mV | 07 R197, R214 | 0 (DESIGN CHOICE, log 12) -/
  pump : Nat
  /-- ticks since gate A was commanded towards full without 10 V above source | µs | 07 R197 | 0 -/
  riseA : Nat
  /-- ticks since gate B was commanded towards full without 10 V above source | µs | 07 R197 | 0 -/
  riseB : Nat
  /-- guard samples that ticks have delivered in the cycle in progress | number | 11 R299 | 0 -/
  guardN : Nat
  /-- their sum of I | 1/16 mA | 05 R131, 11 R299 | 0 -/
  sumI : Int
  /-- their sum of VS | 1/16 mV | 05 R131, 11 R299 | 0 -/
  sumVs : Int
  /-- their sum of DROP | 1/16 mV | 05 R131, 11 R299 | 0 -/
  sumDrop : Int
  /-- their sum of CSN | 1/16 mV | 08 R223, 11 R299 | 0 -/
  sumCsn : Int
  /-- the shunt amplifier was over range among them | 1 bit | 05 R130 | false -/
  ovrCyc : Bool
  /-- clock time since which it has stood in its closed state without a break | clock, or none | 07 R204 | none -/
  closedAt : Option Nat
  /-- CHn.CLOSURES | U32 | 05 R162 | 0 -/
  closures : Nat
  /-- CHn.TJ | S16, 1/64 °C | 06 R166 | 5440 (CHn.TREF_FIX, every rise 0) -/
  tj : Int
  /-- the four pole rises | rationals, K | 06 R165 | 0 -/
  theta : Vector Rat 4
  /-- Tref | 1/64 °C | 06 R167 | 5440 (default of CHn.TREF_FIX) -/
  tref : Int
  /-- Tref stands in the fallback of R167 by a declaration | 1 bit | 06 R167 | false -/
  fallback : Bool
  /-- the inrush under way | record, or none | 06 R174 | none -/
  inr : Option Inr
  /-- the grant register: VALID, OP and BUS_MC | operation code and mC, or none | 15 R408 | none -/
  grant : Option (Nat × Nat)
  /-- trip causes latched while its group reloads | 9 bits [9:1] | 02 R46 | 0 -/
  heldCauses : Nat
  /-- what waits for its group's first tick after a reload | list | 02 R46, 05 R156 | empty -/
  todo : List ChAct
  /-- its presence was lost while its group reloads, or a strobe or a reflex waits for the group's first tick | 1 bit | 02 R46 | false -/
  reflexed : Bool
  /-- a shedding step reached it while its group reloads, and waits for the group's first tick | 1 bit | 10 R291 | false -/
  shedDue : Bool
  /-- the stage under which it was shed, 0 none | 3 bits | 08 R234 | 0 -/
  shedStage : Nat
  /-- the capacitance measured at the last completed inrush | µF | 06 R181 | 0 -/
  farC : Nat
  /-- turning points on the rainflow stack, newest first | up to 32, 1/64 °C | 06 R185 | empty -/
  stack : List Int
  /-- the extreme that may become the next turning point | 1/64 °C | 06 R185 | 5440 -/
  extreme : Int
  /-- the temperature rises towards that extreme | 1 bit | 06 R185 | true (DESIGN CHOICE, log 12) -/
  rising : Bool
  /-- the histogram, half cycles by bin | 16 x U32 | 06 R186 | 0 -/
  bins : Vector Nat 16
  /-- accumulated damage | rational, ppm of life | 06 R187 | 0 -/
  damage : Rat
  /-- damage standing at the end of each of the last days, newest first | up to 30 | 06 R188 | empty -/
  days : List Rat
  /-- CHn.LIFE_LEFT_D | U32 days | 06 R188 | 0xFFFFFFFF -/
  lifeLeft : Nat
  /-- life records already written: below 365, below 30, 0 | 3 bits | 06 R188 | none -/
  lifeTold : Nat
  /-- the wear record was reset, which frees the life records at the next cold start | 1 bit | 06 R188, 20 | false -/
  wearReset : Bool
  /-- CHn.TRIP_CAUSE.CAUSES | 9 bits [9:1] | 07 R218 | 0 -/
  causes : Nat
  /-- CHn.TRIP_CAUSE.FIRST | 4 bits | 07 R218 | 0 -/
  first : Nat
  /-- CHn.TRIP_CAUSE.ACTION | 4 bits | 07 R218 | 0 -/
  action : Nat
  /-- CHn.TRIP_CAUSE.ATTEMPTS | 8 bits | 07 R218 | 0 -/
  attempts : Nat
  /-- CHn.TRIP_COUNT | U32 | 07 R215 | 0 -/
  tripCount : Nat
  /-- where the retry engine stands | enum | 07 R201 | idle -/
  yoyo : Yoyo
  /-- the length of the latest scheduled delay | µs | 07 R201, R206 | 0 -/
  delayLen : Nat
  /-- it has tripped at the present instant: the causes met with the tick join the trip, and the delay runs from there | 1 bit | 07 R200, R201 | false -/
  fresh : Bool
  /-- the present WAIT is a retry attempt's | 1 bit | 07 R202 | false -/
  retryWait : Bool
  /-- that attempt follows a WAIT action and raises no count | 1 bit | 07 R205 | false -/
  freeTry : Bool
  /-- consecutive ticks with UV active | 16 bits | 07 R195 | 0 -/
  uvRun : Nat
  /-- consecutive ticks at which the WAIT cause reads cleared | 16 bits | 07 R205 | 0 -/
  clearRun : Nat
  /-- CHn.TRIP_STAT.REJ | 16 bits | 07 R219 | 0 -/
  rej : Nat
  /-- rejected pulses of the cycle in progress | number | 07 R195 | 0 -/
  rejCyc : Nat
  /-- CHn.TRIP_STAT.OVSPD | 1 bit | 07 R219 | 0 -/
  ovspd : Bool
  /-- CHn.TRIP_STAT.EXT_STUCK | 1 bit | 07 R219 | 0 -/
  extStuck : Bool
  /-- the overload integrator | number of ticks | 07 R196 | 0 -/
  ol : Nat
  /-- consecutive ticks with the charge pump below 9.0 V | number | 07 R197 | 0 -/
  pumpRun : Nat
  /-- a retry was refused before any budget was judged, and that cause stands | 1 bit | 07 R207 | false -/
  barred : Bool
  /-- power into the bus in the last cycle in which it conducted, the negative of P_last | mW | 15 R589 | 0 -/
  pLast : Int
  /-- current into the bus in that cycle, the negative of I_last | mA | 15 R589 | 0 -/
  iLast : Int
  /-- it has conducted in the cycle in progress | 1 bit | 15 R589 | false -/
  conducted : Bool
  deriving DecidableEq, Repr

/-- A Marionette and its group (R31, R164). -/
structure Group where
  /-- its microcode reloads and its channels are held | 1 bit | 01 R31, 02 R46 | false -/
  reloading : Bool
  /-- it failed its self-test | 1 bit | 02 R42 | false -/
  oos : Bool
  /-- GRPk.RELOADS | U32 | 05 R164 | 0 -/
  reloads : Nat
  /-- GRPk.PARITY | U32 | 05 R164 | 0 -/
  parity : Nat
  /-- the bridge strobe reached it while it reloaded or since its last tick | 1 bit | 02 R46, 05 R140 | false -/
  strobe : Bool
  /-- a GROUP_CTRL waits for its reload | tag id, or none | 04 Table 4.6 | none -/
  ctrl : Option Nat
  /-- the converter's REF check refuses inrush in the group | 1 bit | 11 R303 | false -/
  refFail : Bool
  /-- the microcode in force: its bytes that differ from 0, by offset | 16 KiB | 01 R31, 05 R164 | empty, unpowered -/
  mc : List Host.Cell
  deriving DecidableEq, Repr

/-! ### Bus continuity, shedding, sharing and capping (chapter 8) -/

/-- A rectifier's place in the sharing set (R235 to R238). -/
inductive Walk
  | out                  -- its channel does not conduct, or it left S
  | queued               -- its walk-in is filed; weight 0, trim -SHARE_TRIM_MV
  | ramp (start : Nat)   -- walking in since that clock time
  | full                 -- a member of S at its weight
  deriving DecidableEq, Repr

/-- The bus and its stages. -/
structure Bus where
  /-- BUS.V_MV, cycle mean of the sensed bus | U32 mV | 08 R245 | 0 (DESIGN CHOICE, log 12) -/
  vMv : Int
  /-- ticks of the interruption in progress | µs | 08 R220 | 0 -/
  sagRun : Nat
  /-- BUS.SAG_COUNT | U32 | 08 R220 | 0 -/
  sagCount : Nat
  /-- BUS.SAG_LAST_US | U32 µs | 08 R220 | 0 -/
  sagLast : Nat
  /-- BUS.SAG_MAX_US | U32 µs | 08 R220 | 0 -/
  sagMax : Nat
  /-- BUS.COND | 2 bits | 08 R246 | 0 (DESIGN CHOICE, log 12) -/
  cond : Nat
  /-- the bridge strobe is latched and the firmware has not taken it | 1 bit | 01 Table 1.2, 02 R49 | 0 -/
  strobe : Bool
  /-- BUS.STROBE_STAGE_EFF | 3 bits | 08 R230 | 0 -/
  stageEff : Nat
  /-- the strobe set latched into the Marionettes | 24 bits | 08 R230 | 0 -/
  strobeSet : Nat
  /-- BUS.SHED_STATE.STAGE | 3 bits | 08 R246 | 0 -/
  stage : Nat
  /-- a shedding step is filed and waits for its drum entry or boundary | 1 bit | 08 R231 | false -/
  stepPending : Bool
  /-- a step waits for the Marionettes' next tick | 1 bit | 08 R231, R232, 09 R252 | false -/
  stepNow : Option Nat
  /-- the granted restoration that waits for its drum entry or boundary | operation number, or none | 08 R233 | none -/
  restore : Option Nat
  /-- that restoration's moment has come, and the Marionettes' next tick carries it out | 1 bit | 08 R233, 10 R283 | false -/
  restoreNow : Bool
  /-- clock time of the last step | clock, or none | 08 R231 | none -/
  stepAt : Option Nat
  /-- clock time of the last restoration | clock, or none | 08 R233 | none -/
  restoreAt : Option Nat
  /-- clock time at which the Hatan left BRIDGE or CUTOFF | clock, or none | 08 R233 | none -/
  leftAt : Option Nat
  /-- the trims | 24 x mV | 08 R235 | 0 -/
  trim : Vector Int 24
  /-- each rectifier's place in S | 24 x enum | 08 R238 | out -/
  walk : Vector Walk 24
  /-- boundaries since the last sharing correction | number of cycles | 08 R235 | 0 -/
  shareCnt : Nat
  /-- a correction is due and waits for its drum entry | 1 bit | 08 R235 | false -/
  shareDue : Bool
  /-- BUS.SHARE_ERR_MA | U32 mA | 08 R235 | 0 -/
  shareErr : Nat
  /-- BUS.SRC_MW | S32 mW | 08 R239 | 0 (DESIGN CHOICE, log 12) -/
  srcMw : Int
  /-- BUS.CAP_STATE | 2 bits | 08 R240 | 0 -/
  capState : Nat
  /-- consecutive boundaries below the end level of R242 | number | 08 R242 | 0 -/
  capLow : Nat
  /-- clock time at which peak support began | clock, or none | 08 R241 | none -/
  peakAt : Option Nat
  /-- the peak-support grant | operation number, or none | 08 R240 | none -/
  peakOp : Option Nat
  /-- current limit of each rectifier set by capping or charging | 24 x mA, or none | 08 R240, 16 R422 | none -/
  limit : Vector (Option Nat) 24
  /-- rectifiers switched off over the Share Bus | 24 bits | 08 R244 | none -/
  rectOff : Vector Bool 24
  /-- mAh of the reserve that the peak support was granted | number | 15 R402, 08 R240 | 0 -/
  peakPlan : Nat
  /-- mAh that the peak support has drawn | rational | 15 R402 | 0 -/
  peakDrawn : Rat
  /-- clock time of the last filing of a restoration | clock, or none | 08 R233 | none -/
  restoreTry : Option Nat
  /-- a SOURCE channel has completed its inrush since the loss of mains | 1 bit | 02 Table 2.2, 08 R225 | false -/
  srcDone : Bool
  deriving DecidableEq, Repr

/-! ### The Tin Soldier (chapter 9) -/

/-- A channel entry of the safety sheet (Table 9.8). -/
structure Keep where
  /-- KEEP | 1 bit | 09 R260 | 0, no sheet -/
  keep : Bool
  /-- PD: SOFT | 1 bit | 09 R260 | 0, no sheet -/
  soft : Bool
  /-- GAIN | 1 bit | 09 R260 | 0, no sheet -/
  gain4 : Bool
  /-- OC_STEPS | 12 bits | 09 R260 | 0, no sheet -/
  oc : Nat
  /-- RC_STEPS | 12 bits | 09 R260 | 0, no sheet -/
  rc : Nat
  /-- UV_MV | 16 bits | 09 R260 | 0, no sheet -/
  uv : Nat
  /-- UV_FILT_MS | 16 bits | 09 R260 | 0, no sheet -/
  filt : Nat
  deriving DecidableEq, Repr

/-- What a valid half of the safety sheet holds: its generation and the 30 data words of each of units 0 to 2 (R258, R261). -/
structure Half where
  /-- generation | 32 bits | 09 R258 | no half written -/
  gen : Nat
  /-- data of units 0, 1, 2 | 90 words | 09 R258 | no half written -/
  data : List Word
  deriving DecidableEq, Repr

/-- The bytes of one half of the safety sheet, 128 units of 256 bytes (R258). -/
structure SheetMem where
  /-- the bytes that differ from 0, by offset | 32 KiB | 09 R258 | empty (PRESUMED blank, log 13) -/
  cells : List Host.Cell
  /-- a uncorrectable error stands in units 0 to 2 | 1 bit | 18 Table 18.6 | false -/
  bad : Bool
  deriving DecidableEq, Repr

/-- The Tin Soldier. -/
structure Tin where
  /-- SFK.WATCH, the fault flags | 6 bits | 09 R249 | 0 -/
  watch : Nat
  /-- its own check at the self-test step has passed, so SAFE_OK runs | 1 bit | 09 R256 | false -/
  checked : Bool
  /-- the tap of SAFE_OK shows no edge | 1 bit | 09 R256 | false -/
  silent : Bool
  /-- H_SAFE.ARMED | 1 bit | 03 R77, 09 R264 | 0 -/
  armed : Bool
  /-- it has armed at least once since reset, which releases nFAULT | 1 bit | 09 R257 | false -/
  everArmed : Bool
  /-- the boot window runs | 1 bit | 02 R44 | false -/
  window : Bool
  /-- the overrides are driven | 1 bit | 09 R252 | false -/
  override : Bool
  /-- the active token is held by a Puppeteer | 1 bit | 09 R251 | false -/
  token : Bool
  /-- the latched keep entries | 24 records | 09 R264 | KEEP 0 -/
  keep : Vector Keep 24
  /-- SFK.CAUSE | 3 bits | 09 R250 | 0 -/
  cause : Nat
  /-- SFK.ENTRY_COUNT | U32 | 09 R268 | 0 -/
  entryCount : Nat
  /-- SFK.ENTRY_OPTIME | U40 | 09 R268 | 0 -/
  entryOptime : Nat
  /-- SFK.KEPT_AT_ENTRY | 24 bits | 09 R268 | 0 -/
  keptAtEntry : Nat
  /-- clock times of the entries of the last 60 min | list | 09 R267 | empty -/
  entryTimes : List Nat
  /-- the reset key is ignored until the next cold start | 1 bit | 09 R267 | false -/
  keyIgnored : Bool
  /-- SFK.GAIN_DIFF | 24 bits | 09 R265 | 0 -/
  gainDiff : Nat
  /-- the lower half of the sheet | 32 KiB | 09 R258 | blank (PRESUMED, log 13) -/
  lower : SheetMem
  /-- the upper half of the sheet | 32 KiB | 09 R258 | blank (PRESUMED, log 13) -/
  upper : SheetMem
  /-- the staged units | 3 x 30 words, or none | 09 R262 | none -/
  staged : Vector (Option (List Word)) 3
  /-- the half being written was found faulty in the last commit (never, unless a write fails) | 1 bit | 09 R263 | false -/
  commitFailed : Bool
  /-- the latest entry into SAFE-KEEP found no Puppeteer to record it, and awaits its record | 1 bit | 19 R494 | false -/
  entryDue : Bool
  deriving DecidableEq, Repr

/-! ### The Music Box (chapter 10) -/

/-- Lock states (Table 10.3). -/
inductive Lock
  | free | holdover | slew | locked
  deriving DecidableEq, Repr

/-- The code of DRM.STATE (Table 10.3). -/
def Lock.code : Lock → Nat
  | .free => 0 | .holdover => 1 | .slew => 2 | .locked => 3

/-- A source's qualification (R274). -/
structure Qual where
  /-- consecutive good periods | number | 10 R274 | 0 -/
  good : Nat
  /-- the last eight qualified periods, newest first | ns | 10 R274 | empty -/
  periods : List Nat
  /-- the source is qualified | 1 bit | 10 R274 | false -/
  ok : Bool
  /-- the latest period between valid crossings or edges, 0 none | ns | 10 R274 | 0 -/
  last : Nat
  /-- consecutive periods outside 40 Hz to 70 Hz | number | 10 R275 | 0 -/
  bad : Nat
  /-- clock time of the latest valid crossing or edge | clock, or none | 10 R273, R277 | none -/
  edgeAt : Option Nat
  deriving DecidableEq, Repr

/-- A CH_CTRL action held for an angle (R290), or until the Marionette of its group runs again (R31). -/
structure HeldSw where
  /-- its channel | 5 bits | 10 R290 | none held -/
  ch : Ch
  /-- the action of Table 5.8 | 8 bits | 05 R157, 10 R290 | none held -/
  act : Nat
  /-- its SWITCH entry has come, or it waits for none: it acts as soon as the Marionette runs | 1 bit | 10 R290, R291 | none held -/
  due : Bool
  /-- the command's tag-table number | model's own | 10 R290 | none held -/
  tag : Nat
  deriving DecidableEq, Repr

/-- A CH_CTRL some of whose actions are held (R158, R290). -/
structure SwRun where
  /-- its tag-table number | model's own | 10 R290 | none held -/
  tag : Nat
  /-- the channels that have completed the action | 24 bits | 05 R157 | none held -/
  done : Nat
  /-- the lowest-numbered channel that did not, and its status | 2 numbers, or none | 05 R158 | none held -/
  bad : Option (Nat × Nat)
  /-- the channels that a CLOSE has begun to close and whose gates are not yet at full | list | 05 R158 | none held -/
  rising : List Ch
  deriving DecidableEq, Repr

/-- The Music Box. -/
structure MusicBox where
  /-- clock time of the last cycle boundary | clock | model's own | 0 (DESIGN CHOICE, log 12) -/
  boundaryAt : Nat
  /-- DRM.STATE | 2 bits | 10 R276 | FREE -/
  lock : Lock
  /-- DRM.REF: 0 none, 1 AC, 2 SYNC | 2 bits | 10 R272 | 0 -/
  ref : Nat
  /-- DRM.MAINS | 1 bit | 10 R275 | 0 -/
  mains : Bool
  /-- DRM.FREQ | Hz/1000 | 10 R293 | 50000 (DESIGN CHOICE: nominal, log 12) -/
  freq : Nat
  /-- DRM.REF_FREQ | Hz/1000 | 10 R274 | 0 -/
  refFreq : Nat
  /-- frequency of the cycle in progress | Hz/1000 | 10 R270 | 50000 (DRM.NOMINAL) -/
  cur : Nat
  /-- DRM.PHASE_ERR | S16 pins | 10 R278 | 0 -/
  phaseErr : Int
  /-- DRM.CYCLE | 32 bits | 10 R271 | 0 -/
  cycle : Nat
  /-- DRM.LOSS_COUNT | U32 | 10 R275 | 0 -/
  lossCount : Nat
  /-- the four reference patterns | 4 x -1, 0, +1 | 10 R284 | 0 -/
  pat : Vector Int 4
  /-- DRM.NOTES | 16 bits | 10 R292 | 0 -/
  notes : Nat
  /-- drum entries skipped for a parity error | list of 0 to 255 | 10 R289 | empty -/
  skip : List (Fin 256)
  /-- DRM.PARITY_COUNT | U32 | 10 R289 | 0 -/
  parityCount : Nat
  /-- the held actions, in the order of arrival | list | 10 R290 | empty -/
  held : List HeldSw
  /-- qualification of the AC input | record | 10 R274 | as its fields -/
  ac : Qual
  /-- qualification of SYNC_IN | record | 10 R274 | as its fields -/
  sync : Qual
  /-- boundaries passed since HOLDOVER was entered | number | 10 R279 | 0 -/
  holdCnt : Nat
  /-- the last measured reference frequency, for HOLDOVER | Hz/1000 | 10 R279 | 0 -/
  lastRef : Nat
  /-- drum pairs written since the last boundary, which end a skip at the next | list of 0 to 127 | 10 R289 | empty -/
  pairNew : List Nat
  /-- a new DRM.SOURCE awaits the next boundary | 1 bit | 10 R272 | false -/
  srcNew : Bool
  /-- clock time at which DRM.MAINS last became 0 | clock | 02 R59, 10 R275 | 0 -/
  lostAt : Nat
  /-- CH_CTRL commands with held actions, and what their channels have come to so far | list | 10 R290, 05 R158 | empty -/
  runs : List SwRun
  /-- the place, pin x 256 + number, from which on the entries of the cycle in progress are still to be dispatched | 20 bits | 10 R287 | 0 -/
  nextKey : Nat
  deriving DecidableEq, Repr

/-! ### Conversion (chapter 11) -/

/-- An execution of a sequencer entry (R307, R312). -/
structure SeqRun where
  /-- the entry | 0 to 31 | 11 R307 | none runs -/
  entry : Fin 32
  /-- the entry that started the sequence | 0 to 31 | 11 R307 | none runs -/
  first : Fin 32
  /-- the word it runs under | 64 bits | 11 R312 | none runs -/
  word : Nat
  /-- samples it still owes | 1 to 256 | 11 R307, R311 | none runs -/
  owed : Nat
  deriving DecidableEq, Repr

/-- The decimation filter of an entry (R314, R315). -/
structure Filt where
  /-- a[1] to a[4] | 4 x 128 bits | 11 R314 | 0 -/
  a : Vector Int 4
  /-- n[1] to n[4] | 4 x 128 bits | 11 R314 | 0 -/
  n : Vector Int 4
  /-- ya[1] to ya[4] | 4 x 128 bits | 11 R314 | 0 -/
  ya : Vector Int 4
  /-- na[1] to na[4] | 4 x 128 bits | 11 R314 | 0 -/
  na : Vector Int 4
  /-- complete windows ended since the filter restarted, at most 5 | number | 11 R315 | 0 -/
  ended : Nat
  /-- samples of the window in progress | number | 11 R315 | 0 -/
  cur : Nat
  /-- windows ended since the last window that held no sample, at most 4 | number | 11 R315 | 4 -/
  sinceGap : Nat
  /-- the restart fell inside the window in progress | 1 bit | 11 R315 | true -/
  part : Bool
  /-- the clock from which on windows end: that of the restart or of the last window end | clock | 11 R314 | 0 -/
  at_ : Nat
  deriving DecidableEq, Repr

/-- A converter's sequencer (R306 to R311, R316). -/
structure Seqr where
  /-- what runs | record, or none | 11 R308 | none -/
  run : Option SeqRun
  /-- what runs is an urgent sequence | 1 bit | 11 R310 | false -/
  urgent : Bool
  /-- the interrupted sequence that waits to resume, CNV.STATk.PRE | record, or none | 11 R311 | none -/
  pre : Option SeqRun
  /-- a further urgent request is held | 1 bit | 11 R311 | false -/
  urgHeld : Bool
  /-- the pending start request, CNV.STATk.PEND | 0 to 31, or none | 11 R308 | none -/
  pend : Option (Fin 32)
  /-- the entry of trigger A whose delay counts, and the clock at which it ends | 0 to 31 and clock, or none | 11 R309 | none -/
  delayA : Option (Fin 32 × Nat)
  /-- the entry of trigger B whose delay counts, and the clock at which it ends | 0 to 31 and clock, or none | 11 R309 | none -/
  delayB : Option (Fin 32 × Nat)
  /-- CNV.STATk.LP | 1 bit | 11 R316 | 0 -/
  lp : Bool
  /-- every channel of the group has had both gates low since the cycle began | 1 bit | 11 R317 | false -/
  lowCyc : Bool
  /-- every channel of the group had both gates low for the whole of the last cycle | 1 bit | 11 R317 | false -/
  lowWhole : Bool
  /-- CNV.STATk.OVERRUN | 8 bits | 11 R308 | 0 -/
  overrun : Nat
  /-- CNV.STATk.URG_LOST | 8 bits | 11 R311 | 0 -/
  urgLost : Nat
  /-- CNV.STATk.GAPS | 8 bits | 11 R315 | 0 -/
  gaps : Nat
  /-- the table of 32 entries in force | 32 x 64 bits | 11 R312 | 0 (defaults) -/
  table : Vector Nat 32
  /-- the filters of the entries | 32 records | 11 R314 | as their fields -/
  filt : Vector Filt 32
  deriving DecidableEq, Repr

/-- A thermistor's declaration (R302). -/
inductive NtcSt
  | settling | valid | invalid
  deriving DecidableEq, Repr

/-- A thermistor. -/
structure NtcS where
  /-- its declaration | enum | 11 R302 | invalid (disabled, R302) -/
  st : NtcSt
  /-- consecutive good cycles, at most 3 | number | 11 R302 | 0 -/
  good : Nat
  /-- CNV.NTCn_T | S16, 1/64 °C | 11 R302 | 0 (DESIGN CHOICE, log 12) -/
  t : Int
  /-- its latest valid mean | 1/64 °C, or none | 16 R419 | none -/
  last : Option Int
  deriving DecidableEq, Repr

/-- The calibration procedure (R318 to R320, Table 11.10). -/
structure Cal where
  /-- CNV.CAL_STATE.STEP | 4 bits | 11 R322 | 0 -/
  step : Nat
  /-- CNV.CAL_STATE.FAIL | 4 bits | 11 R322 | 0 -/
  fail : Nat
  /-- CNV.CAL_STATE.INPUT | 8 bits | 11 R322 | 0 -/
  input : Nat
  /-- a completed ZERO: its input, Z and M_z | 3 numbers, or none | 11 R318 | none -/
  zero : Option (Nat × Int × Int)
  /-- a completed FULL: its input, F and M_f | 3 numbers, or none | 11 R318 | none -/
  full : Option (Nat × Int × Int)
  /-- the value applied for the capture under way | S32 | 11 R318 | 0 -/
  applied : Int
  /-- boundaries until the capture under way has its cycles | number | 11 R318 | 0 -/
  left : Nat
  /-- coefficients being stored: input, and OFS and GAIN, none for nominal | record, or none | 11 R320 | none -/
  storing : Option (Nat × Option (Int × Nat))
  deriving DecidableEq, Repr

/-- The conversion subsystem. -/
structure Cnv where
  /-- the sequencers of CNV0 to CNV3 | 4 records | 11 R306 | as their fields -/
  seq : Vector Seqr 4
  /-- the guard scan and the sequencers run | 1 bit | 11 R299, R313 | false -/
  on : Bool
  /-- CNV.DIAG.REF_FAIL of CNV0 to CNV3 | 4 bits | 11 R303 | 0 -/
  refFail : Vector Bool 4
  /-- consecutive boundaries outside the window of R303 | 4 numbers | 11 R303 | 0 -/
  refBad : Vector Nat 4
  /-- consecutive boundaries within it | 4 numbers | 11 R303 | 0 -/
  refGood : Vector Nat 4
  /-- CNV.REF0_UV to CNV.REF3_UV | 4 x U32 | 11 R303 | 0 (DESIGN CHOICE, log 12) -/
  refUv : Vector Nat 4
  /-- the thermistors | 8 records | 11 R302 | as their fields -/
  ntc : Vector NtcS 8
  /-- CNV.DIE_T | S16, 1/64 °C | 11 R321 | 0 (DESIGN CHOICE, log 12) -/
  dieT : Int
  /-- CNV.VIN_MV | U32 mV | 11 R321 | 0 (DESIGN CHOICE, log 12) -/
  vinMv : Int
  /-- special samples of CNV0 that ticks have delivered in the cycle in progress | number | 11 R297, R299 | 0 -/
  senseN : Nat
  /-- their sum | 1/16 mV | 11 R297, R299 | 0 -/
  senseSum : Int
  /-- CNV.BUS0_MV to CNV.BUS3_MV | 4 x U32 mV | 11 R321 | 0 (DESIGN CHOICE, log 12) -/
  busMv : Vector Int 4
  /-- the DROP range of each channel in the present frame is fine | 24 bits | 11 R301 | coarse (DESIGN CHOICE, log 12) -/
  fine : Vector Bool 24
  /-- coefficients of the calibrated inputs: code, OFS and GAIN, by rising code | list | 11 R304 | empty (nominal) -/
  coefs : List (Nat × Int × Nat)
  /-- coefficients that take effect at the next boundary, none for nominal | list | 11 R320 | empty -/
  coefNext : List (Nat × Option (Int × Nat))
  /-- the calibration procedure | record | 11 R318 | as its fields -/
  cal : Cal
  deriving DecidableEq, Repr

/-! ### Accumulators and trackers (chapter 12) -/

/-- An accumulator slot (Table 12.1). -/
structure AccSlot where
  /-- SUM | S64 | 12 R323 | 0 -/
  sum : Int
  /-- SQ | U64 | 12 R323 | 0 -/
  sq : Nat
  /-- COUNT | U32 | 12 R323 | 0 -/
  count : Nat
  /-- AUX | S32 | 12 R323 | 0 -/
  aux : Int
  /-- its bit of ACC.OVF0 to ACC.OVF5 | 1 bit | 12 R326 | 0 -/
  ovf : Bool
  /-- its configuration byte in force | 8 bits | 12 R327 | 0 -/
  cfg : Nat
  deriving DecidableEq, Repr

/-- A tracker window (Table 12.3). -/
structure TrkWin where
  /-- MIN | S32 | 12 R329 | 0x7FFFFFFF -/
  lo : Int
  /-- MAX | S32 | 12 R329 | 0x80000000, as S32 -/
  hi : Int
  /-- PIN_MIN | U16 | 12 R329 | 0 -/
  pinMin : Nat
  /-- PIN_MAX | U16 | 12 R329 | 0 -/
  pinMax : Nat
  /-- COUNT | U32 | 12 R329 | 0 -/
  count : Nat
  deriving DecidableEq, Repr

/-- A tracker: its live and its closed window. -/
structure Trk where
  /-- the live window | record | 12 R329 | empty window -/
  live : TrkWin
  /-- the closed window | record | 12 R329 | empty window -/
  closed : TrkWin
  deriving DecidableEq, Repr

/-- A tracker bank (R331, R332, Table 12.9). -/
structure TBank where
  /-- FROZEN | 1 bit | 12 R337 | 0 -/
  frozen : Bool
  /-- POST: the run-on counts | 1 bit | 12 R337 | 0 -/
  post : Bool
  /-- CYCLE of the event | 32 bits | 12 R337 | 0 -/
  cycle : Nat
  /-- PIN of the event | 12 bits | 12 R337 | 0 -/
  pin : Nat
  /-- CAUSE | 4 bits | 12 R337 | 0 -/
  cause : Nat
  /-- FZ_IGNORED | 8 bits | 12 R337 | 0 -/
  ignored : Nat
  /-- the clock at which the run-on of POST_US ends | clock | 12 R331 | 0 -/
  until_ : Nat
  deriving DecidableEq, Repr

/-- A SNAP_READ that latches at the next cycle boundary (R334). -/
structure SnapWait where
  /-- its command | tag-table number | 12 R334 | none waits -/
  tag : Nat
  /-- 1 accumulator slots, 2 trackers | 8 bits | 12 R333 | none waits -/
  source : Nat
  /-- first index | 8 bits | 12 R333 | none waits -/
  first : Nat
  /-- COUNT | 8 bits | 12 R333 | none waits -/
  count : Nat
  /-- CLR | 1 bit | 12 R333 | none waits -/
  clr : Bool
  deriving DecidableEq, Repr

/-- The accumulators and trackers. -/
structure Acc where
  /-- the slots | 192 records | 12 R323 | as their fields -/
  slot : Vector AccSlot 192
  /-- the trackers | 96 records | 12 R329 | as their fields -/
  trk : Vector Trk 96
  /-- the banks | 12 records | 12 R331 | as their fields -/
  bank : Vector TBank 12
  /-- ACC.OVF_COUNT | U32 | 12 R326 | 0 -/
  ovfCount : Nat
  /-- clears of ACC.CLEAR that wait for the next boundary, as first and count of slots or trackers | list | 12 R336 | empty -/
  clears : List (Bool × Nat × Nat)
  /-- SNAP_READs that latch at the next boundary | list | 12 R334 | empty -/
  snaps : List SnapWait
  deriving DecidableEq, Repr

/-! ### Xamir, its metrology port and the MET mirror (chapter 13) -/

/-- An audit entry (Table 13.10). -/
structure Audit where
  /-- SEQ | 32 bits | 13 R370 | no entry -/
  seq : Nat
  /-- X_TIME at the event, whole seconds | 32 bits | 13 R370 | no entry -/
  time : Nat
  /-- CODE | 8 bits | 13 R370 | no entry -/
  code : Nat
  /-- channel, voltage input or 0xFF | 8 bits | 13 R370 | no entry -/
  obj : Nat
  /-- seal counter at the event | 16 bits | 13 R370 | no entry -/
  sealCnt : Nat
  /-- data | 32 bits | 13 R370 | no entry -/
  data : Nat
  deriving DecidableEq, Repr

/-- What the seal protects and a commit replaces: the coefficients, the enable map, the voltage assignment and the
no-load thresholds (Table 13.1, R369). -/
structure XCal where
  /-- coefficients of the inputs, 0 to 23 the currents, 24 to 27 the voltages; none is nominal | 28 x (S32, U32) | 13 R338 | nominal (PRESUMED uncalibrated, log 13) -/
  coef : Vector (Option (Int × Nat)) 28
  /-- X_CHMAP | 24 bits | 13 R354 | none enabled (DESIGN CHOICE, log 12) -/
  enabled : Vector Bool 24
  /-- X_VMAP | 24 x 2 bits | 13 R354 | 0 (DESIGN CHOICE, log 12) -/
  vmap : Vector (Fin 4) 24
  /-- no-load thresholds; none is the default 0.001 I_fs | 24 x mA | 13 R367 | default -/
  noLoad : Vector (Option Nat) 24
  deriving DecidableEq, Repr

/-- What a record of Xamir's nonvolatile memory holds (R346). -/
structure XRec where
  /-- its sequence number | 32 bits | 13 R346 | no record -/
  seq : Nat
  /-- import registers | 24 x U64 mWh | 13 R346 | no record -/
  imp : Vector Nat 24
  /-- export registers | 24 x U64 mWh | 13 R346 | no record -/
  exp : Vector Nat 24
  /-- import residues | 24 x 32 bits | 13 R346 | no record -/
  impRes : Vector Nat 24
  /-- export residues | 24 x 32 bits | 13 R346 | no record -/
  expRes : Vector Nat 24
  /-- seal counter | 16 bits | 13 R346 | no record -/
  sealCnt : Nat
  /-- calibration generation | 32 bits | 13 R346 | no record -/
  calGen : Nat
  /-- snapshot sequence | 32 bits | 13 R346 | no record -/
  snapSeq : Nat
  /-- the calibration committed | record | 13 R369 | no record -/
  cal : XCal
  deriving DecidableEq, Repr

/-- A staged item (R367, R369). -/
inductive Staged
  | enable (n : Ch) (on : Bool)
  | voltage (n : Ch) (k : Fin 4)
  | noLoad (n : Ch) (ma : Nat)
  | coef (input : Fin 28) (ofs : Int) (gain : Nat)
  deriving DecidableEq, Repr

/-- What MET_TX answers (R366, R367). -/
inductive MReply
  | ident (version : Nat)
  | data (items : List (MetroId × Int))
  | ack
  | err (n : Nat)
  deriving DecidableEq, Repr

/-- The metrology port. -/
structure Metro where
  /-- a session is under way | 1 bit | 13 R366 | false -/
  on : Bool
  /-- it is in programming mode | 1 bit | 13 R366 | false -/
  prog : Bool
  /-- its rate | Bd | 13 R366 | 300 -/
  baud : Nat
  /-- staged items, oldest first | list | 13 R369 | empty -/
  staged : List Staged
  /-- the capture under way: input, full rather than zero, applied value | record, or none | 13 R367 | none -/
  capture : Option (Fin 28 × Bool × Int)
  /-- completed zero captures: input, Z, M_z | list | 13 R368 | empty -/
  zeros : List (Fin 28 × Int × Int)
  /-- the replies sent, latest last | list | 13 R366 | empty -/
  tx : List MReply
  /-- clock time of the last command | clock | 13 R366 | 0 -/
  lastAt : Nat
  /-- clock time at which the capture under way began | clock | 13 R368 | 0 -/
  capAt : Nat
  deriving DecidableEq, Repr

/-- The shadow register file, as refreshed (R351, Table 13.6). -/
structure XShadow where
  /-- X_STATUS | 32 bits | 13 R354 | 0 -/
  status : Nat
  /-- X_SEAL | 32 bits | 13 R354 | 0 (DESIGN CHOICE, log 12) -/
  sealCnt : Nat
  /-- X_CAL_GEN | 32 bits | 13 R354 | 0 -/
  calGen : Nat
  /-- X_AUDIT_SEQ | 32 bits | 13 R354 | 0 (DESIGN CHOICE, log 12) -/
  auditSeq : Nat
  /-- X_SNAP_SEQ | 32 bits | 13 R354 | 0 (DESIGN CHOICE, log 12) -/
  snapSeq : Nat
  /-- X_TIME | U64 ms | 13 R354 | 0 (DESIGN CHOICE, log 12) -/
  time : Nat
  /-- X_CHMAP | 24 bits | 13 R354 | 0 (DESIGN CHOICE, log 12) -/
  chmap : Nat
  /-- X_VMAP | 48 bits | 13 R354 | 0 (DESIGN CHOICE, log 12) -/
  vmap : Nat
  /-- X_REJECTS | 32 bits | 13 R354 | 0 (DESIGN CHOICE, log 12) -/
  rejects : Nat
  /-- X_V0 to X_V3 | 4 x mV | 13 R354 | 0 (DESIGN CHOICE, log 12) -/
  v : Vector Int 4
  /-- X_P0 to X_P23 | 24 x S32 mW | 13 R354 | 0 (DESIGN CHOICE, log 12) -/
  p : Vector Int 24
  /-- X_E, the imports | 24 x U64 mWh | 13 R354 | 0 (DESIGN CHOICE, log 12) -/
  imp : Vector Nat 24
  /-- X_E, the exports | 24 x U64 mWh | 13 R354 | 0 (DESIGN CHOICE, log 12) -/
  exp : Vector Nat 24
  /-- X_AUDIT, oldest first | 512 x 16 bytes | 13 R354 | empty -/
  audit : List Audit
  deriving DecidableEq, Repr

/-- A snapshot latched (R352, R356). -/
structure XSnap where
  /-- the map | 24 bits | 13 R356 | none latched -/
  map : Nat
  /-- the bytes before the signature | 64 + 16 k bytes | 13 R356 | none latched -/
  body : List Nat
  deriving DecidableEq, Repr

/-- The Xamir die. -/
structure Xam where
  /-- the part is a ZH2460-M | 1 bit | 03 R76, 13 R363 | true (DESIGN CHOICE: the part this chapter describes, log 15) -/
  fitted : Bool
  /-- VDD_XM stands: Xamir counts | 1 bit | 13 R347 | true (DESIGN CHOICE, log 15) -/
  powered : Bool
  /-- X_TIME in core clocks | U64 ms of 400 000 | 13 R354 | 0 (DESIGN CHOICE, log 12) -/
  timeClk : Nat
  /-- import registers | 24 x U64 mWh | 13 R341 | 0 (DESIGN CHOICE, log 12) -/
  imp : Vector Nat 24
  /-- export registers | 24 x U64 mWh | 13 R341 | 0 (DESIGN CHOICE, log 12) -/
  exp : Vector Nat 24
  /-- import residues, 2^-32 mWh | 24 x 32 bits | 13 R341 | 0 (DESIGN CHOICE, log 12) -/
  impRes : Vector Nat 24
  /-- export residues, 2^-32 mWh | 24 x 32 bits | 13 R341 | 0 (DESIGN CHOICE, log 12) -/
  expRes : Vector Nat 24
  /-- calibration in force | record | 13 R338 | as its fields -/
  cal : XCal
  /-- seal counter | 16 bits | 13 R364 | 0 (DESIGN CHOICE, log 12) -/
  sealCount : Nat
  /-- the seal is open | 1 bit | 13 R364 | false -/
  sealOpen : Bool
  /-- calibration generation | 32 bits | 13 R354 | 0, before the first commit -/
  calGen : Nat
  /-- snapshot sequence | 32 bits | 13 R352 | 0 (DESIGN CHOICE, log 12) -/
  snapSeq : Nat
  /-- X_AUDIT_SEQ | 32 bits | 13 R370 | 0 (DESIGN CHOICE, log 12) -/
  auditSeq : Nat
  /-- the audit ring, oldest first | up to 512 | 13 R370 | empty (DESIGN CHOICE, log 12) -/
  audit : List Audit
  /-- X_REJECTS | 32 bits | 13 R350 | 0 (DESIGN CHOICE, log 12) -/
  rejects : Nat
  /-- the hour of X_TIME whose first rejection is in the trail | number, or none | 13 R350 | none -/
  rejectHour : Option Nat
  /-- X_STATUS.OSC | 1 bit | 13 R345 | 0 -/
  osc : Bool
  /-- VMISS by voltage input | 4 bits | 13 R342 | 0 -/
  vmiss : Vector Bool 4
  /-- X_TIME clocks until which X_STATUS.OVR stands | clock | 13 R342 | 0 -/
  ovrUntil : Nat
  /-- X_TIME clocks of the last audit entry 0x09 of each channel | 24 x clock, or none | 13 R342 | none -/
  ovrAudit : Vector (Option Nat) 24
  /-- X_STATUS.STORE | 1 bit | 13 R346 | 0 -/
  storeFail : Bool
  /-- OVR, VMISS, OSC arose in the interval | 3 bits | 13 R356 | 0 -/
  intOvr : Bool
  /-- VMISS arose in the interval | 1 bit | 13 R356 | 0 -/
  intVmiss : Bool
  /-- OSC stood in the interval | 1 bit | 13 R356 | 0 -/
  intOsc : Bool
  /-- the newest record of its nonvolatile memory | record, or none | 13 R346 | none (DESIGN CHOICE, log 12) -/
  recNew : Option XRec
  /-- the older record | record, or none | 13 R346 | none (DESIGN CHOICE, log 12) -/
  recOld : Option XRec
  /-- the newer slot did not verify | 1 bit | 13 R346 | false -/
  recBad : Bool
  /-- a request accepted that waits for the next sample instant: map and challenge | record, or none | 13 R352 | none -/
  snapWait : Option (Nat × Nat)
  /-- the snapshot being signed | record, or none | 13 R352 | none -/
  signing : Option XSnap
  /-- the completed snapshot, signature included | bytes, or none | 13 R352 | none -/
  snap : Option (List Nat)
  /-- a map of 0 selected the certificate | 1 bit | 13 R352 | false -/
  certSel : Bool
  /-- the shadow register file | record | 13 R351 | as its fields -/
  shadow : XShadow
  /-- sums of the voltages since the last refresh | 4 x 1/16 mV | 13 R354 | 0 -/
  vSum : Vector Int 4
  /-- sums of the powers since the last refresh | 24 x 1/256 µW | 13 R354 | 0 -/
  pSum : Vector Int 24
  /-- samples since the last refresh | number | 13 R354 | 0 -/
  nSum : Nat
  /-- the last response frame on the protective interface | words | 13 R349 | none -/
  resp : List Word
  /-- clock time of the last set of samples | clock | 13 R341 | 0 -/
  sampleAt : Nat
  /-- clock time of the last refresh | clock | 13 R351 | 0 -/
  refreshAt : Nat
  /-- clock time of the last record of each second | clock | 13 R346 | 0 -/
  storeAt : Nat
  /-- clock time at which the reference was lost | clock | 13 R345 | 0 -/
  oscAt : Nat
  /-- clock time since which each assigned voltage input has read below 4 000 mV | 4 x clock, or none | 13 R342 | none -/
  vLow : Vector (Option Nat) 4
  /-- the highest value of each import register that has been read or signed | 24 x U64 mWh | 13 R348 | 0 -/
  shownImp : Vector Nat 24
  /-- the highest value of each export register that has been read or signed | 24 x U64 mWh | 13 R348 | 0 -/
  shownExp : Vector Nat 24
  /-- the metrology port | record | 13 R366 | as its fields -/
  metro : Metro
  deriving DecidableEq, Repr

/-- The MET block of the main die (R360 to R362). -/
structure Met where
  /-- MET.STATE | enum 0 to 3 | 13 R360 | 1 SILENT on a ZH2460-M (DESIGN CHOICE, log 12) -/
  st : Nat
  /-- MET.XID | U32 | 13 R360 | 0 -/
  xid : Nat
  /-- MET.XVERSION | U32 | 13 R360 | 0 -/
  xversion : Nat
  /-- MET.PROG_CRC | U32 | 13 R360 | 0 -/
  progCrc : Nat
  /-- MET.SERIAL | U64 | 13 R360 | 0 -/
  serial : Nat
  /-- the rest of the mirror: MET.STATUS to MET.REJECTS, MET.V0 to MET.EXP23 | record | 13 Table 13.9 | 0 -/
  mirror : XShadow
  /-- MET.XCHK | 25 bits | 13 R361, R362 | 0 -/
  xchk : Nat
  /-- clock time of the copy | clock | 13 Table 13.9 | 0 (DESIGN CHOICE, log 12) -/
  copiedAt : Nat
  /-- MET.AUDIT_E0 | U64 | 13 Table 13.9 | 0 -/
  auditE0 : Nat
  /-- MET.AUDIT_E1 | U64 | 13 Table 13.9 | 0 -/
  auditE1 : Nat
  /-- failed polls in a row | number | 13 R360 | 0 -/
  fails : Nat
  /-- minutes in a row of difference | 24 x number | 13 R362 | 0 -/
  differ : Vector Nat 24
  /-- minutes in a row of agreement | 24 x number | 13 R362 | 0 -/
  agree : Vector Nat 24
  /-- sums over the minute of I_MA x the bus-side voltage | 24 x µW | 13 R362 | 0 -/
  pMin : Vector Int 24
  /-- cycles of the minute | number | 13 R362 | 0 -/
  nMin : Nat
  /-- clock time of the last poll | clock | 13 R360 | 0 -/
  pollAt : Nat
  /-- clock time of the last cross-check | clock | 13 R362 | 0 -/
  crossAt : Nat
  /-- the SNAP_READ source 3 passed to Xamir: tag number, map, challenge | record, or none | 13 R359 | none -/
  running : Option (Nat × Nat × Nat)
  /-- SNAP_READ source 3 commands that wait | up to 8 | 13 R359 | empty -/
  waiting : List (Nat × Nat × Nat)
  deriving DecidableEq, Repr

/-! ### Timers and counters (chapter 14) -/

/-- A general timer (R372 to R389). Its count at the clock time `base` is `cnt`; it counts on from there while it runs. -/
structure GTmr where
  /-- the count at `base` | 32 bits | 14 R373 | 0 -/
  cnt : Nat
  /-- clock time from which it counts on | clock | model's own | 0 -/
  base : Nat
  /-- the phase of its prescaler: its counting clocks fall where the clock, less this, is a multiple of their period | number | 14 R372 | 0 (DESIGN CHOICE, log 12) -/
  pre : Nat
  /-- TMR.STATk.RUN | 1 bit | 14 Table 14.5 | 0 -/
  run : Bool
  /-- TMR.STATk.DOWN | 1 bit | 14 Table 14.5 | 0 -/
  down : Bool
  /-- TMR.STATk.OUT | 1 bit | 14 R377 | 0 -/
  out : Bool
  /-- TMR.CFGk in force | 32 bits | 14 R376 | 0 -/
  cfg : Nat
  /-- PERIOD in force | 32 bits | 14 R375 | 0xFFFFFFFF -/
  period : Nat
  /-- PERIOD that waits for OVF | 32 bits, or none | 14 R375 | none -/
  periodNext : Option Nat
  /-- CMP in force | 32 bits | 14 R378 | 0 -/
  cmp : Nat
  /-- CMP that waits for OVF or TOP | 32 bits, or none | 14 R378 | none -/
  cmpNext : Option Nat
  /-- CMP counts as passed in this lap | 1 bit | 14 R378 | false -/
  passed : Bool
  /-- TMR.CAPk | 32 bits | 14 R383 | 0 -/
  cap : Nat
  /-- TMR.STATk.NEW | 1 bit | 14 R383 | 0 -/
  new : Bool
  /-- TMR.STATk.OVR | 1 bit | 14 R383 | 0 -/
  ovr : Bool
  /-- TMR.STATk.REJ | 8 bits | 14 R385 | 0 -/
  rej : Nat
  /-- TMR.STATk.OVSPD | 1 bit | 14 R385 | 0 -/
  ovspd : Bool
  /-- TMR.STATk.HI_LIVE | 1 bit | 14 R388 | 0 -/
  hiLive : Bool
  /-- it stands frozen by the debugger | 1 bit | 14 R389 | 0 -/
  frozen : Bool
  /-- what takes effect at the counting clock `base`: 1 RESET, 2 START, 3 STOP, and 10 more for a write of TMR.CTRLk | list | 14 R380, R381 | empty -/
  acts : List Nat
  deriving DecidableEq, Repr

/-- A high half latched for one reader by a read of its low half (R388). -/
structure HiLatch where
  /-- the reader's mailbox channel | 4 bits | 14 R388 | none -/
  chan : Mb
  /-- the low timer of the pair | 4 bits | 14 R388 | none -/
  tmr : Tmr
  /-- a capture rather than a count | 1 bit | 14 R388 | none -/
  isCap : Bool
  /-- the latched high half | 32 bits | 14 R388 | none -/
  value : Nat
  deriving DecidableEq, Repr

/-- Timers. -/
structure Timers where
  /-- TMR0 to TMR15 | 16 records | 14 R372 | as their fields -/
  t : Vector GTmr 16
  /-- latched high halves | list | 14 R388 | empty -/
  hi : List HiLatch
  /-- KT0 (OPTIME) to KT3 | 4 x U40 | 14 R391 | 0 -/
  kt : Vector Nat 4
  /-- TMR.KT_STAT | 4 bits | 14 R393 | 0 -/
  ktStat : Nat
  /-- TMR.DORMANT_SPAN, running in DORMANT | U40 | 14 R392 | 0 -/
  span : Nat
  /-- alarms that have been due since their value last lay below the alarm | 4 bits | 14 R393 | none -/
  ktDue : Vector Bool 4
  /-- days of OPTIME whose end LIFE_LEFT has been computed for | number | 06 R188 | 0 -/
  lifeDays : Nat
  deriving DecidableEq, Repr

/-! ### Admission (chapter 15) -/

/-- A heavy operation: its request, and its grant once it holds one (Tables 15.1 and 15.2). -/
structure Op where
  /-- its number, in filing order | model's own | 15 R411 | no operation -/
  id : Nat
  /-- operation code | 8 bits | 15 R406 | no operation -/
  code : Nat
  /-- the channel it drives | 5 bits, or none | 15 R417 | no operation -/
  ch : Option Ch
  /-- the channels it names | 24 bits | 15 R406 | no operation -/
  map : Nat
  /-- priority | 0 to 3 | 15 R411 | no operation -/
  prio : Nat
  /-- BUS_CHARGE asked, or held once granted | mC | 15 R401 | no operation -/
  bus : Nat
  /-- SOURCE_HEADROOM | W | 15 R401 | no operation -/
  src : Nat
  /-- BATTERY_RESERVE | mAh | 15 R401 | no operation -/
  bat : Nat
  /-- SELF_POWER | mW | 15 R401 | no operation -/
  self : Nat
  /-- THERMAL, on its channel | K | 15 R401 | no operation -/
  therm : Nat
  /-- the OP_START it answers, by tag-table number | number, or none | 15 R413 | no operation -/
  tag : Option Nat
  /-- who filed an inrush | enum | 06 R172 | no operation -/
  filer : Filer
  /-- clock time of its filing | clock | 15 R411 | no operation -/
  since : Nat
  /-- the budget it waits on | 0 to 5 | 15 R409 | no operation -/
  waitOn : Nat
  /-- its arguments: the words after word 0 of an OP_START, or the stage of a RESTORE | list | 15 R407, 16 R437 | no operation -/
  args : List Nat
  /-- inrushes a RESTORE filed and that have not ended | 24 bits | 08 R588 | no operation -/
  open_ : List Ch
  deriving DecidableEq, Repr

/-- The admission arbiter. -/
structure Adm where
  /-- the operations that hold a grant | list | 15 R402 | empty -/
  grants : List Op
  /-- the queue, in the order of R411 | up to 32 | 15 R411 | empty -/
  queue : List Op
  /-- the next operation number | model's own | 15 R411 | 0 -/
  next : Nat
  /-- ADM.STATE.SHORT | 1 bit | 15 R404 | 0 -/
  short : Bool
  /-- ADM.LAST: OP | 8 bits | 15 R417 | 0 -/
  lastOp : Nat
  /-- ADM.LAST: BUDGET | 8 bits | 15 R417 | 0 -/
  lastBudget : Nat
  /-- ADM.LAST: DECISION | 8 bits | 15 R417 | 0 -/
  lastDecision : Nat
  /-- ADM.LAST: CH | 5 bits | 15 R417 | 0 -/
  lastCh : Nat
  /-- ADM.REFUSALS | U32 | 15 R416 | 0 -/
  refusals : Nat
  /-- ADM.TIMEOUTS | U32 | 15 R416 | 0 -/
  timeouts : Nat
  /-- ADM.REQ_STAGE | 3 bits | 15 R404 | 0 -/
  reqStage : Nat
  /-- ADM.Q_NEED_MAH, Q_need(s_eff) | U32 mAh | 15 R416 | 0 -/
  qNeed : Nat
  /-- ADM.Q_AVAIL_MAH | U32 mAh | 15 R403 | 0 -/
  qAvail : Nat
  /-- capacity of SOURCE_HEADROOM | W | 15 R401 | 0 (DESIGN CHOICE, log 12) -/
  srcCap : Int
  /-- ADM.SELF_BASE_MW | U32 mW | 15 R401 | 0 (DESIGN CHOICE, log 12) -/
  selfBase : Nat
  /-- clock time at which BRIDGE was entered | clock | 15 R403 | 0 -/
  bridgeAt : Nat
  deriving DecidableEq, Repr

/-! ### Battery management (chapter 16) -/

/-- What the firmware latched of an accumulator slot for R426. -/
structure SlotLatch where
  /-- SUM | S64 | 12, 16 R426 | 0 -/
  sum : Int
  /-- COUNT | U32 | 12, 16 R426 | 0 -/
  count : Nat
  /-- AUX | S32 | 12, 16 R426 | 0 -/
  aux : Int
  deriving DecidableEq, Repr

/-- A string (R418 to R435). Charges are rational mAh, states of charge rational fractions of 1. -/
structure Strg where
  /-- Sk.PHASE | 4 bits | 16 R420 | 0 NONE -/
  phase : Nat
  /-- Q_int | mAh | 16 R427 | 0 -/
  qInt : Rat
  /-- Q_rep | mAh | 16 R430 | 0 -/
  qRep : Rat
  /-- C_learn, 0 while it equals Sk.C_NOM_MAH | U32 mAh | 16 R431, R443 | 0 -/
  cLearn : Nat
  /-- Sk.LEARN_COUNT | U32 | 16 R432 | 0 -/
  learnCount : Nat
  /-- Sk.Z_UOHM | U32 | 16 R426 | 0 -/
  z : Nat
  /-- confidence at the latest reference | 0.01 % | 16 R429 | 0 -/
  conf : Rat
  /-- Sk.REF_KIND | 3 bits | 16 R428 | 0 -/
  refKind : Nat
  /-- OPTIME of the latest reference | U40 | 16 R428 | 0 -/
  refAt : Nat
  /-- OPTIME from which the float criteria have held | U40, or none | 16 R423 | none -/
  floatFrom : Option Nat
  /-- the criteria have held for BAT.FLOAT_OK_S | 1 bit | 16 R423 | false -/
  floatOk : Bool
  /-- OPTIME from which |I| has been at rest | U40, or none | 16 R428 | none -/
  restFrom : Option Nat
  /-- OPTIME from which VFAR has stood below Sk.EOD_MV | U40, or none | 16 R434 | none -/
  eodFrom : Option Nat
  /-- ENDED | 1 bit | 16 R420 | false -/
  ended : Bool
  /-- LOW | 1 bit | 16 R424 | false -/
  low : Bool
  /-- it has reached its own end of discharge in this BRIDGE | 1 bit | 16 R434 | false -/
  atEnd : Bool
  /-- OPTIME from which its rejoin has been tried | U40, or none | 16 R424 | none -/
  rejoinFrom : Option Nat
  /-- a rejoin is in progress | 1 bit | 16 R420 | false -/
  rejoin : Bool
  /-- that rejoin is the one from below of R424, case 3 | 1 bit | 16 R424 | false -/
  rejoinLow : Bool
  /-- Sk.EOD_MV | U32 mV | 16 R434 | 0 (DESIGN CHOICE, log 12) -/
  eodMv : Nat
  /-- current target in ARMED | mA | 16 R421 | 0 (DESIGN CHOICE, log 12) -/
  iLim : Int
  /-- voltage target in ARMED | mV | 16 R421 | 0 (DESIGN CHOICE, log 12) -/
  vTgt : Int
  /-- charge delivered since the latest FULL reference | mAh | 16 R431 | 0 -/
  drawn : Rat
  /-- the discharge in hand began at a FULL reference with enough confidence | 1 bit | 16 R431 | false -/
  fromFull : Bool
  /-- the previous latch of slot ACC_I | record | 16 R426 | 0 -/
  accI : SlotLatch
  /-- the previous latch of slot ACC_V | record | 16 R426 | 0 -/
  accV : SlotLatch
  /-- sum of CHn.I_MA over the cycles of the interval | mA | 16 R426 | 0 -/
  sumI : Int
  /-- sum of CHn.VFAR_MV over the cycles of the interval | mV | 16 R426 | 0 -/
  sumV : Int
  /-- cycles of the interval | number | 16 R426 | 0 -/
  cycN : Nat
  /-- a write of Sk.CHEM awaits its effect | 1 bit | 16 R419 | false -/
  chemDue : Bool
  /-- the fields of Table 16.1 written with it or since, bit 0 the float voltage, in the order of the table | 6 bits | 16 R419 | 0 -/
  chemKept : Nat
  deriving DecidableEq, Repr

/-- A running battery test (R437 to R439). -/
structure TestRun where
  /-- its operation number | model's own | 15 R406 | no test -/
  op : Nat
  /-- 3 CAP_TEST, 4 DUR_TEST | 8 bits | 16 R437 | no test -/
  code : Nat
  /-- the OP_START it answers; none for a test of the field line | tag number, or none | 17 Table 17.7 | no test -/
  tag : Option Nat
  /-- channels named | 24 bits | 16 R437 | no test -/
  named : Nat
  /-- strings that take part | list | 16 R437 | no test -/
  part : List Str
  /-- planned discharge | mAh | 16 Table 16.6 | no test -/
  planned : Nat
  /-- I_test | mA | 16 Table 16.6 | no test -/
  iTest : Int
  /-- end voltage per cell, 0 for Sk.EOD_MV | mV | 16 Table 16.6 | no test -/
  endCell : Nat
  /-- duration of a DUR_TEST | s | 16 Table 16.6 | no test -/
  dur : Nat
  /-- OPTIME at its grant | U40 | 16 R439 | no test -/
  at_ : Nat
  /-- charge drawn by each string | 4 x mAh | 16 R439 | no test -/
  drawn : Vector Rat 4
  /-- state of charge of each string at the start | 4 x fraction | 16 R431 | no test -/
  soc0 : Vector Rat 4
  /-- confidence of each string at the start | 4 x 0.01 % | 16 R431 | no test -/
  conf0 : Vector Rat 4
  /-- lowest VFAR per cell among the named strings | mV | 16 R439 | no test -/
  lowCell : Nat
  /-- OPTIME from which each named string has stood below the end voltage | 4 x U40, or none | 16 R439 | no test -/
  below : Vector (Option Nat) 4
  deriving DecidableEq, Repr

/-- The battery management. -/
structure Bat where
  /-- the strings | 4 records | 16 R418 | as their fields -/
  s : Vector Strg 4
  /-- the running test | record, or none | 16 R437 | none -/
  test : Option TestRun
  /-- I_b, while a string is in BULK or rejoins from below | mA, a rational, or none | 16 R422 | none -/
  iB : Option Rat
  /-- BAT.LOST_UPDATES | U32 | 16 R432 | 0 -/
  lost : Nat
  /-- the probe offset in the setpoints | mV | 16 R425, 08 R236 | 0 -/
  probe : Int
  /-- CUTOFF opens the BATTERY channels when its delay ends | 1 bit | 16 R435 | false -/
  cutoffDue : Bool
  /-- clock time at which CUTOFF was entered | clock | 16 R435, 02 R59 | 0 -/
  cutoffAt : Nat
  /-- clock time of the latest timed write of the strings' records | clock | 16 R433 | 0 -/
  stateAt : Nat
  deriving DecidableEq, Repr

/-! ### Share Bus and field lines (chapter 17) -/

/-- What this Hatan knows of a peer (R456, R457, Table 17.10). -/
structure Peer where
  /-- its bit of SHB.PEERS | 1 bit | 17 R456 | 0 -/
  present : Bool
  /-- it was heard at least once | 1 bit | 17 Table 17.10 | false -/
  heard : Bool
  /-- range of byte 3 of its ANNOUNCE: lowest | 4 bits | 17 R457 | 0 -/
  lo : Nat
  /-- range of byte 3 of its ANNOUNCE: highest | 4 bits | 17 R457 | 0 -/
  hi : Nat
  /-- range of byte 4: lowest | 4 bits | 17 R457 | 0 -/
  lo2 : Nat
  /-- range of byte 4: highest | 4 bits | 17 R457 | 0 -/
  hi2 : Nat
  /-- MODE of its last STATUS | 4 bits | 17 Table 17.10 | 0 -/
  mode : Nat
  /-- STAGE of its last STATUS | 4 bits | 17 Table 17.10 | 0 -/
  stage : Nat
  /-- byte 4 of its last STATUS | 8 bits | 17 Table 17.10 | 0 -/
  flags : Nat
  /-- clock time of its last frame | clock | 17 Table 17.10 | 0 -/
  at_ : Nat
  /-- ADM.Q_AVAIL_MAH, load and stage of its last RESERVE | 3 numbers | 17 R460 | 0 -/
  reserve : Nat × Nat × Nat
  deriving DecidableEq, Repr

/-- A rectifier bound to a SOURCE channel (R450 to R453, Table 17.11). -/
structure Dev where
  /-- it has announced itself with kind 1 | 1 bit | 17 R450 | false -/
  announced : Bool
  /-- lowest generation it accepts | 4 bits | 17 R457 | 0 -/
  genLo : Nat
  /-- highest generation it accepts | 4 bits | 17 R457 | 0 -/
  genHi : Nat
  /-- rated power, 0 none advertised | W | 17 R450 | 0 -/
  rating : Nat
  /-- byte 1 of the last RECT_SET sent to it | 8 bits, or none | 17 R453 | none -/
  lastSeq : Option Nat
  /-- it answered that RECT_SET | 1 bit | 17 R453 | false -/
  answered : Bool
  /-- boundaries since an unanswered RECT_SET | number | 17 R453 | 0 -/
  miss : Nat
  /-- it left the sharing set by its silence, and the record of it is written | 1 bit | 08 R237, 17 R453 | false -/
  left : Bool
  /-- clock time of its last ANNOUNCE | clock | 17 R450 | 0 -/
  at_ : Nat
  /-- CONFLICT | 1 bit | 17 R453 | 0 -/
  conflict : Bool
  /-- it is held listen-only, and the record of it is written | 1 bit | 17 R457 | false -/
  low : Bool
  /-- byte 3 of its last RECT_STAT | 8 bits | 17 Table 17.4 | 0 -/
  flags : Nat
  /-- its output voltage | mV | 17 Table 17.4 | 0 -/
  outMv : Nat
  /-- its output current | mA | 17 Table 17.4 | 0 -/
  outMa : Nat
  /-- its temperature | S16, 1/64 °C | 17 Table 17.4 | 0 -/
  temp : Int
  /-- its own fault code | 16 bits | 17 Table 17.4 | 0 -/
  fault : Nat
  deriving DecidableEq, Repr

/-- The last status of a battery module (R454). -/
structure Bmod where
  /-- its BMOD_STAT arrives | 1 bit | 17 R454 | false -/
  present : Bool
  /-- its absence has been recorded | 1 bit | 17 R454 | false -/
  absent : Bool
  /-- module voltage | mV | 17 Table 17.4 | 0 -/
  mv : Nat
  /-- highest cell voltage | mV | 17 Table 17.4 | 0 -/
  hi : Nat
  /-- lowest cell voltage | mV | 17 Table 17.4 | 0 -/
  lo : Nat
  /-- highest temperature | S16, 1/64 °C | 17 Table 17.4 | 0 -/
  temp : Int
  /-- byte 12 | 8 bits | 17 Table 17.4 | 0 -/
  flags : Nat
  /-- the module's own state of charge | % | 17 Table 17.4 | 0 -/
  soc : Nat
  /-- clock time of its last BMOD_STAT | clock | 17 R454 | 0 -/
  at_ : Nat
  deriving DecidableEq, Repr

/-- A Share Bus port (Table 17.9). -/
structure Port where
  /-- it is in bus-off | 1 bit | 17 R461 | false -/
  off : Bool
  /-- TEC | 8 bits | 17 R461 | 0 -/
  tec : Nat
  /-- REC | 8 bits | 17 R461 | 0 -/
  rec_ : Nat
  /-- BOFF | 8 bits | 17 R461 | 0 -/
  boff : Nat
  deriving DecidableEq, Repr

/-- A frame this Hatan sent. -/
structure ShbOut where
  /-- PRIO | 3 bits | 17 R446 | none sent -/
  prio : Nat
  /-- TYPE | 8 bits | 17 R446 | none sent -/
  type : Nat
  /-- DST | 8 bits | 17 R446 | none sent -/
  dst : Nat
  /-- the payload | bytes | 17 R448 | none sent -/
  bytes : List Nat
  /-- SRC | 8 bits | 17 R446 | none sent -/
  src : Nat
  /-- the ports it went out on | list | 17 R445 | none sent -/
  ports : List (Fin 2)
  deriving DecidableEq, Repr

/-- The Share Bus. -/
structure Shb where
  /-- the peers, this Hatan's own entry among them | 8 records | 17 R456 | as their fields -/
  peer : Vector Peer 8
  /-- SHB.PEER_LOW | 8 bits | 17 R457 | 0 -/
  low : Nat
  /-- this Hatan is held listen-only | 1 bit | 17 R457 | false -/
  listen : Bool
  /-- SHB.GEN_BUS | 2 bits | 17 R458 | 1 -/
  gen : Nat
  /-- the higher generation that waits its 10 s | 2 bits, or none | 17 R458 | none -/
  rise : Option Nat
  /-- clock time from which that generation has held | clock | 17 R458 | 0 -/
  riseAt : Nat
  /-- a STATUS waits for a port that can transmit | 1 bit | 17 R464 | false -/
  statusDue : Bool
  /-- SHB.CLOCK_OFS | S64 | 17 R459 | 0 -/
  clockOfs : Int
  /-- the sequence count of the next frame sent | 8 bits | 17 R448 | 0 (DESIGN CHOICE, log 12) -/
  seq : Nat
  /-- SRC, TYPE, SEQ and clock time of frames received, for the duplicates | list | 17 R445 | empty -/
  seen : List (Nat × Nat × Nat × Nat)
  /-- the two ports | 2 records | 17 R461 | as their fields -/
  port : Vector Port 2
  /-- SHB.RX_IGNORED | U32 | 17 R470 | 0 -/
  ignored : Nat
  /-- the rectifiers by channel | 24 records | 17 R450 | as their fields -/
  dev : Vector Dev 24
  /-- the modules of each string by their place in its run | 4 x 16 records | 17 R454 | as their fields -/
  mod : Vector (Vector Bmod 16) 4
  /-- the port is released: the self-test of the start has ended and no SAFE-KEEP has silenced it | 1 bit | 17 R462, R463 | false -/
  live : Bool
  /-- frames sent, latest last | list | 17 R449 | empty -/
  sent : List ShbOut
  /-- clock time of the latest timed ANNOUNCE | clock | 17 R449 | 0 -/
  annAt : Nat
  /-- clock time of the latest timed STATUS | clock | 17 R449 | 0 -/
  statAt : Nat
  /-- clock time of the latest timed RESERVE | clock | 17 R449 | 0 -/
  resAt : Nat
  /-- the whole second of OPTIME of the latest CLOCK | number | 17 R449 | 0 -/
  clockSec : Nat
  /-- SHB.MOD_SUMk | 4 x U64 | 17 R454 | 0 -/
  modSum : Vector Nat 4
  /-- clock time at which the modules were last summed | clock | 17 R454 | 0 -/
  modAt : Nat
  deriving DecidableEq, Repr

/-- A field line (R465 to R469, R395, R396, Table 14.6). -/
structure FLine where
  /-- the filtered level | 1 bit | 17 R466 | 0 (DESIGN CHOICE, log 12) -/
  level : Bool
  /-- the line is declared stuck | 1 bit | 14 R395 | false -/
  stuck : Bool
  /-- TMR.FLn_STAT.OVSPD | 1 bit | 14 R396 | 0 -/
  ovspd : Bool
  /-- TMR.FLn_STAT.REJ | 16 bits | 14 R396 | 0 -/
  rej : Nat
  /-- rejected pulses of the second in progress | number | 14 R396 | 0 -/
  rejSec : Nat
  /-- the second, in whole seconds of OPTIME, in which they were counted | number | 14 R396 | 0 -/
  sec : Nat
  /-- clock time since which the function has been active | clock, or none | 14 R395 | none -/
  since : Option Nat
  /-- the function of an output asks it to conduct | 1 bit | 17 R469 | false -/
  out : Bool
  /-- an output in current limit has turned off for 100 ms | 1 bit | 21 R555 | false -/
  limited : Bool
  /-- clock time at which it turned off | clock | 21 R555 | 0 -/
  limitAt : Nat
  deriving DecidableEq, Repr

/-! ### The nonvolatile state store (chapter 18) -/

/-- The body of a record, by type (Table 18.3). -/
inductive Body
  | power (cycles : Nat) (kt : List Nat) (span scrub cause : Nat)
  | flush (optime items : Nat)
  | config (vals : List (Nat × Int))
  | isolation (ch : List Ch) (grp : List Grp)
  | thermal (theta : List (List Rat)) (optime : Nat)
  | wear (bins : List Nat) (damage : Rat) (closures trips told : Nat) (days : List Rat) (day : Nat)
  | latch (chs : List Ch)
  | capacity (c count : Nat)
  | stringState (qInt qRep conf : Rat) (z : Nat)
  | history (optime : Nat)
  | cal (ofs gain : Int)
  | microcode (bytes : List Host.Cell)
  deriving DecidableEq, Repr

/-- A record slot (Table 18.2); a slot that is not valid under R475 is none. -/
structure Slot where
  /-- SEQ | 32 bits | 18 R474 | none written -/
  seq : Nat
  /-- FORMAT | 16 bits | 18 R474 | none written -/
  fmt : Nat
  /-- BODY | by type | 18 R474 | none written -/
  body : Body
  deriving DecidableEq, Repr

/-- A record: its two slots (R474, R475). -/
structure Record where
  /-- RTYPE | 16 bits | 18 R478 | none written -/
  rtype : Nat
  /-- INST | 16 bits | 18 R478 | none written -/
  inst : Nat
  /-- the lower slot | valid slot, or none | 18 R474 | none written -/
  lo : Option Slot
  /-- the upper slot | valid slot, or none | 18 R474 | none written -/
  hi : Option Slot
  deriving DecidableEq, Repr

/-- A write that waits in the controller's queue, or held in RAM (R477, R481). -/
structure Pending where
  /-- RTYPE | 16 bits | 18 R477 | none queued -/
  rtype : Nat
  /-- INST | 16 bits | 18 R477 | none queued -/
  inst : Nat
  /-- the body to write | by type | 18 R477 | none queued -/
  body : Body
  /-- it is the journal intent of the record, not yet the record itself | 1 bit | 18 R484 | none queued -/
  intent : Bool
  /-- it is the clear entry of the intent of this SEQ, after the record | 32 bits, or none | 18 R484 | none queued -/
  clears : Option Nat
  deriving DecidableEq, Repr

/-- An intent of the journal (R484). -/
structure Intent where
  /-- RTYPE the record will carry | 16 bits | 18 R484 | none -/
  rtype : Nat
  /-- INST the record will carry | 16 bits | 18 R484 | none -/
  inst : Nat
  /-- SEQ the record will carry | 32 bits | 18 R484 | none -/
  seq : Nat
  /-- the new values | by type | 18 R484 | none -/
  body : Body
  deriving DecidableEq, Repr

/-- An entry of the journal: an intent of RTYPE 0x00F0, or a clear of RTYPE 0x00F1 (R484). -/
structure JEntry where
  /-- SEQ of the entry | 32 bits | 18 R484 | none -/
  seq : Nat
  /-- the intent, or the SEQ of the intent that the entry clears | record, or 32 bits | 18 R484 | none -/
  what : Intent ⊕ Nat
  deriving DecidableEq, Repr

/-- A copy in the migration space (R488). -/
structure Copy where
  /-- RTYPE | 16 bits | 18 R488 | none -/
  rtype : Nat
  /-- INST | 16 bits | 18 R488 | none -/
  inst : Nat
  /-- the slot copied | slot | 18 R488 | none -/
  slot : Slot
  /-- the image version that wrote it | 32 bits | 18 R488 | none -/
  ver : Nat
  deriving DecidableEq, Repr

/-- The state store and its controller. -/
structure Store where
  /-- NVS.STATE.READY | 1 bit | 18 R490 | 0 -/
  ready : Bool
  /-- NVS.STATE.ROLLBACK_COPY | 1 bit | 18 R489 | 0 -/
  rollbackCopy : Bool
  /-- NVS.STATE.LAST_FLUSH_OK | 1 bit | 18 R490 | 0 -/
  lastFlushOk : Bool
  /-- NVS.STATE.FLUSHING | 1 bit | 18 Table 18.9 | 0 -/
  flushing : Bool
  /-- NVS.STATE.HOLD_SHORT | 1 bit | 18 R481 | 0 -/
  holdShort : Bool
  /-- NVS.STATE.WRITE_FAIL | 1 bit | 18 R476 | 0 -/
  writeFail : Bool
  /-- the record area | 960 KiB | 18 R472, R478 | empty (PRESUMED blank, log 13) -/
  recs : List Record
  /-- the controller's queue | list | 18 R477 | empty -/
  queue : List Pending
  /-- writes held in RAM | list | 18 R481 | empty -/
  held : List Pending
  /-- the entries of the journal's ring, oldest first | up to 512 | 18 R484 | empty -/
  journal : List JEntry
  /-- the migration space | 960 KiB | 18 R488 | empty -/
  copies : List Copy
  /-- CONFIG blocks that are dirty, by INST | list | 18 R479 | empty -/
  dirty : List Nat
  /-- NVS.HOLD_T_US | U32 µs | 18 R480 | 0 (DESIGN CHOICE, log 12) -/
  holdT : Nat
  /-- NVS.FLUSH_US | U32 µs | 18 R480 | 0 (DESIGN CHOICE, log 12) -/
  flushUs : Nat
  /-- NVS.POWER_CYCLES and H_PWRCYC | U32 | 18 R483 | 0 -/
  powerCycles : Nat
  /-- NVS.LAST_FLUSH | U40 | 18 R491 | 0 -/
  lastFlush : Nat
  /-- NVS.CORRECTED | U32 | 18 R487 | 0 -/
  corrected : Nat
  /-- NVS.UNCORRECTED | U32 | 18 R487 | 0 -/
  uncorrected : Nat
  /-- the scrubber's position | byte offset | 18 R487 | 0 -/
  scrubPos : Nat
  /-- NVS.SCRUB_LAST | U40 | 18 R487 | 0 -/
  scrubLast : Nat
  /-- NVS.HELD_WRITES | U32 | 18 R481 | 0 -/
  heldCount : Nat
  /-- NVS.LOST_WRITES | U32 | 18 R484 | 0 -/
  lostWrites : Nat
  /-- NVS.MIGRATED | U16 | 18 R488 | 0 -/
  migrated : Nat
  /-- NVS.MIGRATE_FAIL | U16 | 18 R488 | 0 -/
  migrateFail : Nat
  /-- scrub findings whose event records wait for a Puppeteer: offset, row, severity | list | 18 R487 | empty -/
  findings : List (Nat × Nat × Nat)
  /-- FLUSH was written after the POWER of the latest start | 1 bit | 18 R490 | false -/
  flushNewer : Bool
  /-- items of a flush that has begun and not yet written FLUSH | number, or none | 18 R485 | none -/
  flushBegun : Option Nat
  /-- the 600 s of OPTIME of the latest timed write of POWER | number | 18 R482 | 0 -/
  powerSlot : Nat
  /-- the 3 600 s of OPTIME of the latest timed write of WEAR | number | 18 R486 | 0 -/
  wearSlot : Nat
  deriving DecidableEq, Repr

/-! ### The event recorder (chapter 19) -/

/-- An event record in its frame (Tables 19.1 and R493): SEQ, and the record's code, severity, object, time and data. -/
structure Frame where
  /-- SEQ | 24 bits | 19 R493 | no frame -/
  seq : Nat
  /-- CODE | 16 bits | 19 R492 | no frame -/
  code : Nat
  /-- SEV | 2 bits | 19 R492 | no frame -/
  sev : Nat
  /-- OBJ | 8 bits | 19 R492 | no frame -/
  obj : Nat
  /-- OPTIME when the event arose | 40 bits | 19 R492, R493 | no frame -/
  time : Nat
  /-- the data words | 0 to 62 words | 19 R492 | no frame -/
  data : List Nat
  deriving DecidableEq, Repr

/-- A summary accumulator (R499). -/
structure Summ where
  /-- the code summed up | 16 bits | 19 R499 | none in use -/
  code : Nat
  /-- the object summed up | 8 bits | 19 R499 | none in use -/
  obj : Nat
  /-- the severity of the code | 2 bits | 19 R499 | none in use -/
  sev : Nat
  /-- 1 rate limit, 2 dropped, 3 catch-all | 8 bits | 19 R499 | none in use -/
  reason : Nat
  /-- records collected | 32 bits | 19 R499 | none in use -/
  count : Nat
  /-- first TIME | 40 bits | 19 R499 | none in use -/
  first : Nat
  /-- last TIME | 40 bits | 19 R499 | none in use -/
  last : Nat
  /-- minimum of data word 0 as S32 | 32 bits | 19 R499 | none in use -/
  lo : Int
  /-- maximum of data word 0 as S32 | 32 bits | 19 R499 | none in use -/
  hi : Int
  /-- the histogram, bin 0 first | 8 x 8 bits | 19 R499 | none in use -/
  hist : List Nat
  deriving DecidableEq, Repr

/-- A written page of the event log (Table 19.3). -/
structure Page where
  /-- PSEQ | 32 bits | 19 R500 | no page -/
  pseq : Nat
  /-- the frames of the page | up to 1000 bytes | 19 R500 | no page -/
  frames : List Frame
  deriving DecidableEq, Repr

/-- The recorder and its log in the store. -/
structure Rec where
  /-- LOG.STATE.READY: the log has been read at this start | 1 bit | 19 R510 | false -/
  ready : Bool
  /-- LOG.STATE.FULL | 1 bit | 19 R510 | false -/
  full : Bool
  /-- LOG.STATE.HELD | 1 bit | 19 R510 | false -/
  held : Bool
  /-- LOG.STATE.CRIT_SPILL | 1 bit | 19 R510 | false -/
  spill : Bool
  /-- the RAM buffer, oldest first | 64 KiB | 19 R495 | empty -/
  buf : List Frame
  /-- LOG.NEXT_SEQ | 24 bits | 19 R493 | 0 (R494, no valid page) -/
  nextSeq : Nat
  /-- LOG.WATERMARK | 24 bits | 19 R504 | 0xFFFFFF (R502, no valid page) -/
  watermark : Nat
  /-- LOG.DROPPED | 32 bits | 19 R509 | 0 -/
  dropped : Nat
  /-- LOG.SUPPRESSED | 32 bits | 19 R509 | 0 -/
  suppressed : Nat
  /-- the number of the 10 s window in force | 27 bits | 19 R498 | 0 -/
  window : Nat
  /-- records of the window by code and object | list | 19 R498 | empty -/
  counts : List (Nat × Nat × Nat)
  /-- the summary accumulators in use | up to 64 | 19 R499 | empty -/
  summs : List Summ
  /-- the catch-all accumulator | record, or none | 19 R499 | none -/
  catchAll : Option Summ
  /-- the pages of the trace, notice, fault and critical pools, oldest first | 1024 x 1 KiB | 19 R501 | empty (PRESUMED blank, log 13) -/
  pools : Vector (List Page) 4
  /-- the newest PSEQ | 32 bits | 19 R500 | 0 (DESIGN CHOICE, log 12) -/
  pseq : Nat
  deriving DecidableEq, Repr

/-! ### Service, update and debug (chapter 20) -/

/-- A frame sent on the service port (Table 20.2). -/
structure SvcFrame where
  /-- TYPE, bit 7 set in a response | 8 bits | 20 R513 | none sent -/
  type : Nat
  /-- SEQ | 8 bits | 20 R513 | none sent -/
  seq : Nat
  /-- STATUS | 8 bits | 20 R513 | none sent -/
  status : Nat
  /-- PAYLOAD | bytes, as words or bytes by type | 20 R513 | none sent -/
  payload : List Nat
  deriving DecidableEq, Repr

/-- An image bank and its control block (R519). -/
structure Bank where
  /-- STATE, Table 20.5 | 8 bits | 20 R519 | 0 EMPTY (PRESUMED blank, log 13) -/
  st : Nat
  /-- TRIALS | 8 bits | 20 R519 | 0 -/
  trials : Nat
  /-- IMG_VER | 32 bits | 20 R519 | 0 -/
  ver : Nat
  /-- SVN | 32 bits | 20 R519 | 0 -/
  svn : Nat
  /-- STAGED_AT | 40 bits | 20 R519 | 0 -/
  stagedAt : Nat
  /-- CONFIRMED_AT | 40 bits | 20 R519 | 0 -/
  confirmedAt : Nat
  /-- the image bytes that differ from 0, by offset | 1.5 MiB | 20 R519 | empty (DESIGN CHOICE, log 14) -/
  bytes : List Host.Cell
  /-- the total length that IMG_BEGIN gave | bytes | 20 R524 | 0 -/
  total : Nat
  /-- an uncorrectable word lies in the image | 1 bit | 18 Table 18.6, 20 R523 | false -/
  bad : Bool
  /-- bytes received so far: offsets and lengths | list | 20 R523 | empty -/
  got : List (Nat × Nat)
  deriving DecidableEq, Repr

/-- Who asked for the takeover under way (R528). -/
inductive Asker
  | service (seq : Nat)
  | param
  deriving DecidableEq, Repr

/-- The service port, the update manager and debug access. -/
structure Svc where
  /-- SVC_EN | 1 bit | 20 R512 | 0 -/
  en : Bool
  /-- UPD.SVC_BAUD | 3 bits | 20 R515 | 0 -/
  baud : Nat
  /-- a new rate has seen no good frame yet | 1 bit | 20 R515 | false -/
  baudNew : Bool
  /-- clock time from which the new rate applies | clock | 20 R515 | 0 -/
  baudAt : Nat
  /-- frames sent on SVC_TX, latest last | list | 20 R514, R518 | empty -/
  tx : List SvcFrame
  /-- bank A | record | 20 R519 | as its fields -/
  bankA : Bank
  /-- bank B | record | 20 R519 | as its fields -/
  bankB : Bank
  /-- H_STATUS.BANK: bank B runs | 1 bit | 03 R76 | 0 -/
  runB : Bool
  /-- the bank being loaded: B | 1 bit, or none | 20 R524 | none -/
  loading : Option Bool
  /-- UPD.STATE.PHASE | 4 bits | 20 R537 | 0 -/
  phase : Nat
  /-- OPTIME at which the trial began | 40 bits | 20 R531 | 0 -/
  trialAt : Nat
  /-- boundaries still to pass before the takeover boundary | number | 20 R529 | 0 -/
  lead : Nat
  /-- clock time from which the shadow's mirror is awaited | clock | 20 R529 | 0 -/
  syncAt : Nat
  /-- the HANDOVER grant | operation number, or none | 20 R528 | none -/
  op : Option Nat
  /-- who asked for the takeover | enum, or none | 20 R528 | none -/
  asker : Option Asker
  /-- the Puppeteer on which the new image runs as shadow | 1 bit, or none | 20 R529 | none -/
  newOn : Option Pup
  /-- failovers during the trial | number | 20 R532 | 0 -/
  trialFailovers : Nat
  /-- a restart out of SAFE-KEEP was made during the trial | 1 bit | 20 R532 | false -/
  trialRestart : Bool
  /-- groups still to be reloaded in step 7 | list | 20 R529 | empty -/
  reloads : List Grp
  /-- UPD.LAST: TYPE | 8 bits | 20 R537 | 0 -/
  lastType : Nat
  /-- UPD.LAST: RESULT | 8 bits | 20 R537 | 0 -/
  lastResult : Nat
  /-- UPD.LAST: BUDGET | 8 bits | 20 R537 | 0 -/
  lastBudget : Nat
  /-- UPD.HANDOVERS | U32 | 20 R537 | 0 -/
  handovers : Nat
  /-- UPD.ROLLBACKS | U32 | 20 R537 | 0 -/
  rollbacks : Nat
  /-- UPD.SVN_FLOOR | 8 bits | 20 R522 | 0 (DESIGN CHOICE: no fuse blown, log 13) -/
  svnFloor : Nat
  /-- UPD.KEY_REVOKED | 4 bits | 20 R522 | 0 (DESIGN CHOICE: no fuse blown, log 13) -/
  revoked : Nat
  /-- UPD.DEBUG | 2 bits | 20 R535 | 0 -/
  debug : Nat
  /-- the debug nonce and the clock time it was given | 4 x 32 bits, or none | 20 R534 | none -/
  nonce : Option (List Word × Nat)
  /-- the debugger holds the active Puppeteer halted | 1 bit | 20 R535 | false -/
  halted : Bool
  /-- a WEAR_RESET whose record is not yet in force: its SEQ and channel | 8 + 5 bits, or none | 20 R536 | none -/
  wear : Option (Nat × Ch)
  /-- Puppeteer A's local memory: the words a debugger has written since it was halted, by offset; the others are free | 256 KiB | 01 R29, 20 R533 | empty -/
  localA : List (Nat × Nat)
  /-- Puppeteer B's local memory, likewise | 256 KiB | 01 R29, 20 R533 | empty -/
  localB : List (Nat × Nat)
  /-- the shared SRAM, likewise | 2 MiB | 01 R29, 20 R533 | empty -/
  sram : List (Nat × Nat)
  deriving DecidableEq, Repr

/-! ### Own supply (chapter 21) -/

/-- The supply monitor. -/
structure Pwr where
  /-- VIN stands above the fail level: the main domain is powered from VIN | 1 bit | 21 R539 | false -/
  vin : Bool
  /-- PWR.STATE.WARN | 1 bit | 21 R540 | 0 -/
  warn : Bool
  /-- PWR.STATE.FAIL | 1 bit | 21 R540 | 0 -/
  fail : Bool
  /-- PWR.STATE.CORE_WIN | 1 bit | 21 R546 | 0 -/
  coreWin : Bool
  /-- PWR.STATE.DIE_HOT | 1 bit | 21 R559 | 0 -/
  dieHot : Bool
  /-- consecutive cycles below 120 °C | number | 21 R559 | 0 -/
  coolCnt : Nat
  /-- PWR.WARN_COUNT | U32 | 21 R546 | 0 -/
  warnCount : Nat
  /-- PWR.FAIL_COUNT | U32 | 21 R546 | 0 -/
  failCount : Nat
  /-- PWR.HOLD_MV | U32 mV | 21 R546 | 0 (DESIGN CHOICE, log 12) -/
  holdMv : Nat
  /-- PWR.SELF_MW | U32 mW | 21 R544 | 0 (DESIGN CHOICE, log 12) -/
  selfMw : Nat
  deriving DecidableEq, Repr

/-! ### The whole state -/

/-- The state of the Hatan: the queue of waiting commands, the clock, the parameter stores and the subsystems. -/
structure State where
  /-- the commands that wait, first in first out | list | model's own | empty -/
  pending : List Instr
  /-- core clocks of 2.5 ns passed since reset | model's own | 01 R27 | 0 -/
  clock : Nat
  /-- how many free values have been drawn | model's own | model's own | 0 (DESIGN CHOICE, log 11) -/
  freeCtr : Nat
  /-- parameter values as written, by rising ID, the defaults left out | by row | 00 R12, 04 R119 | every default -/
  pw : List (Nat × Int)
  /-- parameter values in force, by rising ID, the defaults left out | by row | 00 R12, 04 R119 | every default -/
  pf : List (Nat × Int)
  /-- modes and start-up | record | 02 R33 | as its fields -/
  sys : Sys
  /-- the direct registers and the SPI port | record | 03 R74 | as its fields -/
  link : Link
  /-- the inbound queues 0 to 15 | 16 records | 04 R85 | as their fields -/
  inq : Vector InQ 16
  /-- the outbound queues 0 to 15 | 16 records | 04 R85 | as their fields -/
  outq : Vector OutQ 16
  /-- sessions and commands in flight | record | 04 R103 | as its fields -/
  deolo : Deolo
  /-- the power-path channels | 24 records | 05 R124 | as their fields -/
  ch : Vector Chan 24
  /-- the Marionettes and their groups | 4 records | 01 R31 | as their fields -/
  grp : Vector Group 4
  /-- the bus and its stages | record | 08 R220 | as its fields -/
  bus : Bus
  /-- the Tin Soldier | record | 09 R247 | as its fields -/
  tin : Tin
  /-- the Music Box | record | 10 R269 | as its fields -/
  mb : MusicBox
  /-- conversion | record | 11 R294 | as its fields -/
  cnv : Cnv
  /-- accumulators and trackers | record | 12 R323 | as its fields -/
  acc : Acc
  /-- the Xamir die | record | 13 R338 | as its fields -/
  xam : Xam
  /-- the MET mirror | record | 13 R360 | as its fields -/
  met : Met
  /-- timers and counters | record | 14 R372 | as its fields -/
  tmr : Timers
  /-- the admission arbiter | record | 15 R401 | as its fields -/
  adm : Adm
  /-- the batteries | record | 16 R418 | as its fields -/
  bat : Bat
  /-- the Share Bus | record | 17 R444 | as its fields -/
  shb : Shb
  /-- the field lines FL0 to FL15 | 16 records | 17 R465 | as their fields -/
  fl : Vector FLine 16
  /-- the state store | record | 18 R471 | as its fields -/
  nvs : Store
  /-- the event recorder | record | 19 R492 | as its fields -/
  log : Rec
  /-- service, update and debug | record | 20 R512 | as its fields -/
  svc : Svc
  /-- the supply monitor | record | 21 R539 | as its fields -/
  pwr : Pwr
  deriving DecidableEq, Repr

/-! ### Reset values -/

/-- A Puppeteer before power. -/
def Pupp.reset : Pupp :=
  { up := false, restarting := false, barred := false, failTimes := [], discarded := 0, seq := 0, alive := false,
    watched := false, inStep := false }

/-- Mode and start-up before power. -/
def Sys.reset : Sys :=
  { phase := .off, mode := .boot, prevMode := .recovery, fwReady := false, resetCause := 0, warm := false,
    keptMode := .boot, handoverFrom := .standby, warmCount := 0, failoverCount := 0, service := true,
    configValid := false, bootStuck := false, noImage := false, pupA := Pupp.reset, pupB := Pupp.reset, active := .a,
    simplex := false, clkFault := false, xinBack := false, eccA := 0, eccB := 0, eccShared := 0, dormDue := false, dormReq := none,
    blackStart := false, blackTried := [], isoCh := [], isoGrp := [], blackClosed := false, tested := false, bootMeans := false, bootsel := false,
    standbyDue := none }

/-- The direct registers at their reset values (Table 3.4). -/
def Link.reset : Link :=
  { irqStatus := 0, irqMask := 0x43, pulse := false, pulseOut := false, lock := none, dbOut := 0, collide := 0,
    errHdr := 0, errData := 0, errLen := 0, errDen := 0, lastErrResult := 0, lastErrAddr := 0, optLatch := none,
    scratch := 0, result := 0, miso := [], misoCrc := none, misoBits := 0, bridgeWord := 0 }

/-- An empty inbound queue. -/
def InQ.reset : InQ := { words := [], offered := 0, cons := 0, damaged := false, sound := 0, fragAt := none }

/-- An empty outbound queue. -/
def OutQ.reset : OutQ := { words := [], cons := 0, burst := none }

/-- No session, no command in flight. -/
def Deolo.reset : Deolo :=
  { ses := Vector.replicate 16 none, tags := [], nextId := 0, peak := 0, ntfDropped := 0, inboundLost := 0,
    authFails := 0, keySet := false, authTimes := Vector.replicate 16 [], lockout := Vector.replicate 16 false,
    ntf15 := 0, lastStatus := 0, lastRead := 0, sesDue := Vector.replicate 16 none }

/-- A channel of role DISABLED whose junction stands at CHn.TREF_FIX (Tables 5.10, 6.5). -/
def Chan.reset : Chan :=
  { st := .disabled, gateA := .lowFull, gateB := .lowFull, lRole := .disabled, lSt := .disabled, lOc := 0, lRc := 0,
    lRules := 0xFFFFFFFF, fOc := false, fRc := false, fUv := false, ovr := false, present := false, equal := false,
    shed := false, keep := false, oos := false, sheetDiff := false, probe := false, testClosed := false,
    presRestart := false, presRun := 0, iMa := 0, vfar := 0, drop := 0, csn := 0, i16 := 0, drop16 := 0, vs := 0,
    vcsn := 0, pump := 0, riseA := 0, riseB := 0, guardN := 0, sumI := 0, sumVs := 0, sumDrop := 0, sumCsn := 0,
    ovrCyc := false, closedAt := none, closures := 0, tj := 5440, theta := Vector.replicate 4 0, tref := 5440,
    fallback := false, inr := none, grant := none, heldCauses := 0, todo := [], reflexed := false, shedDue := false,
    shedStage := 0, farC := 0, stack := [], extreme := 5440, rising := true, bins := Vector.replicate 16 0,
    damage := 0, days := [], lifeLeft := 0xFFFFFFFF, lifeTold := 0, wearReset := false, causes := 0, first := 0,
    action := 0, attempts := 0, tripCount := 0, yoyo := .idle, delayLen := 0, fresh := false, retryWait := false,
    freeTry := false, uvRun := 0, clearRun := 0, rej := 0, rejCyc := 0, ovspd := false, extStuck := false, ol := 0,
    pumpRun := 0, barred := false, pLast := 0, iLast := 0, conducted := false }

/-- A group. -/
def Group.reset : Group :=
  { reloading := false, oos := false, reloads := 0, parity := 0, strobe := false, ctrl := none, refFail := false, mc := [] }

/-- The bus. -/
def Bus.reset : Bus :=
  { vMv := 0, sagRun := 0, sagCount := 0, sagLast := 0, sagMax := 0, cond := 0, strobe := false, stageEff := 0,
    strobeSet := 0, stage := 0, stepPending := false, stepNow := none, restore := none, restoreNow := false, stepAt := none,
    restoreAt := none, leftAt := none, trim := Vector.replicate 24 0, walk := Vector.replicate 24 .out, shareCnt := 0,
    shareDue := false, shareErr := 0, srcMw := 0, capState := 0, capLow := 0, peakAt := none,
    peakOp := none, limit := Vector.replicate 24 none, rectOff := Vector.replicate 24 false, peakPlan := 0,
    peakDrawn := 0, restoreTry := none, srcDone := false }

/-- A keep entry of no sheet: KEEP 0. -/
def Keep.none : Keep := { keep := false, soft := false, gain4 := false, oc := 0, rc := 0, uv := 0, filt := 0 }

/-- A blank half. -/
def SheetMem.blank : SheetMem := { cells := [], bad := false }

/-- The Tin Soldier with no sheet written. -/
def Tin.reset : Tin :=
  { watch := 0, checked := false, silent := false, armed := false, everArmed := false, window := false,
    override := false, token := false, keep := Vector.replicate 24 Keep.none, cause := 0, entryCount := 0,
    entryOptime := 0, keptAtEntry := 0, entryTimes := [], keyIgnored := false, gainDiff := 0, lower := SheetMem.blank,
    upper := SheetMem.blank, staged := Vector.replicate 3 .none, commitFailed := false, entryDue := false }

/-- A source not qualified. -/
def Qual.reset : Qual := { good := 0, periods := [], ok := false, last := 0, bad := 0, edgeAt := none }

/-- The Music Box in FREE. -/
def MusicBox.reset : MusicBox :=
  { boundaryAt := 0, lock := .free, ref := 0, mains := false, freq := 50000, refFreq := 0, cur := 50000, phaseErr := 0, cycle := 0,
    lossCount := 0, pat := Vector.replicate 4 0, notes := 0, skip := [], parityCount := 0, held := [],
    ac := Qual.reset, sync := Qual.reset, holdCnt := 0, lastRef := 0, pairNew := [], srcNew := false,
    lostAt := 0, runs := [], nextKey := 0 }

/-- A filter just restarted, with its state cleared (R312). -/
def Filt.reset : Filt :=
  { a := Vector.replicate 4 0, n := Vector.replicate 4 0, ya := Vector.replicate 4 0, na := Vector.replicate 4 0,
    ended := 0, cur := 0, sinceGap := 4, part := true, at_ := 0 }

/-- A sequencer with the default table. -/
def Seqr.reset : Seqr :=
  { run := none, urgent := false, pre := none, urgHeld := false, pend := none, delayA := none, delayB := none,
    lp := false, lowCyc := false, lowWhole := false, overrun := 0, urgLost := 0, gaps := 0, table := Vector.replicate 32 0,
    filt := Vector.replicate 32 Filt.reset }

/-- Conversion, not yet started. -/
def Cnv.reset : Cnv :=
  { seq := Vector.replicate 4 Seqr.reset, on := false, refFail := Vector.replicate 4 false,
    refBad := Vector.replicate 4 0, refGood := Vector.replicate 4 0, refUv := Vector.replicate 4 0,
    ntc := Vector.replicate 8 { st := .invalid, good := 0, t := 0, last := none }, dieT := 0, vinMv := 0, senseN := 0, senseSum := 0,
    busMv := Vector.replicate 4 0, fine := Vector.replicate 24 false, coefs := [], coefNext := [],
    cal := { step := 0, fail := 0, input := 0, zero := none, full := none, applied := 0, left := 0, storing := none } }

/-- A cleared slot under the default configuration byte (R328). -/
def AccSlot.reset : AccSlot := { sum := 0, sq := 0, count := 0, aux := 0, ovf := false, cfg := 0 }

/-- An empty window (Table 12.3). -/
def TrkWin.empty : TrkWin := { lo := 0x7FFFFFFF, hi := -0x80000000, pinMin := 0, pinMax := 0, count := 0 }

/-- A released bank. -/
def TBank.reset : TBank := { frozen := false, post := false, cycle := 0, pin := 0, cause := 0, ignored := 0, until_ := 0 }

/-- Accumulators and trackers, cleared. -/
def Acc.reset : Acc :=
  { slot := Vector.replicate 192 AccSlot.reset,
    trk := Vector.replicate 96 { live := TrkWin.empty, closed := TrkWin.empty },
    bank := Vector.replicate 12 TBank.reset, ovfCount := 0, clears := [], snaps := [] }

/-- The calibration of a Xamir never calibrated. -/
def XCal.reset : XCal :=
  { coef := Vector.replicate 28 none, enabled := Vector.replicate 24 false, vmap := Vector.replicate 24 0,
    noLoad := Vector.replicate 24 none }

/-- A shadow file of zeros. -/
def XShadow.zero : XShadow :=
  { status := 0, sealCnt := 0, calGen := 0, auditSeq := 0, snapSeq := 0, time := 0, chmap := 0, vmap := 0, rejects := 0,
    v := Vector.replicate 4 0, p := Vector.replicate 24 0, imp := Vector.replicate 24 0, exp := Vector.replicate 24 0,
    audit := [] }

/-- A metrology port with no session. -/
def Metro.reset : Metro :=
  { on := false, prog := false, baud := 300, staged := [], capture := none, zeros := [], tx := [], lastAt := 0, capAt := 0 }

/-- A Xamir that has counted nothing. -/
def Xam.reset : Xam :=
  { fitted := true, powered := true, timeClk := 0, imp := Vector.replicate 24 0, exp := Vector.replicate 24 0,
    impRes := Vector.replicate 24 0, expRes := Vector.replicate 24 0, cal := XCal.reset, sealCount := 0,
    sealOpen := false, calGen := 0, snapSeq := 0, auditSeq := 0, audit := [], rejects := 0, rejectHour := none,
    osc := false, vmiss := Vector.replicate 4 false, ovrUntil := 0, ovrAudit := Vector.replicate 24 none,
    storeFail := false, intOvr := false, intVmiss := false, intOsc := false, recNew := none, recOld := none,
    recBad := false, snapWait := none, signing := none, snap := none, certSel := false, shadow := XShadow.zero,
    vSum := Vector.replicate 4 0, pSum := Vector.replicate 24 0, nSum := 0, resp := [], sampleAt := 0, refreshAt := 0,
    storeAt := 0, oscAt := 0, vLow := Vector.replicate 4 none, shownImp := Vector.replicate 24 0,
    shownExp := Vector.replicate 24 0, metro := Metro.reset }

/-- The mirror before its first copy. -/
def Met.reset : Met :=
  { st := 1, xid := 0, xversion := 0, progCrc := 0, serial := 0, mirror := XShadow.zero, xchk := 0, copiedAt := 0,
    auditE0 := 0, auditE1 := 0, fails := 0, differ := Vector.replicate 24 0, agree := Vector.replicate 24 0,
    pMin := Vector.replicate 24 0, nMin := 0, pollAt := 0, crossAt := 0, running := none, waiting := [] }

/-- A general timer. -/
def GTmr.reset : GTmr :=
  { cnt := 0, base := 0, pre := 0, run := false, down := false, out := false, cfg := 0, period := 0xFFFFFFFF,
    periodNext := none, cmp := 0, cmpNext := none, passed := false, cap := 0, new := false, ovr := false, rej := 0,
    ovspd := false, hiLive := false, frozen := false, acts := [] }

/-- Timers. -/
def Timers.reset : Timers :=
  { t := Vector.replicate 16 GTmr.reset, hi := [], kt := Vector.replicate 4 0, ktStat := 0, span := 0,
    ktDue := Vector.replicate 4 false, lifeDays := 0 }

/-- An empty arbiter. -/
def Adm.reset : Adm :=
  { grants := [], queue := [], next := 0, short := false, lastOp := 0, lastBudget := 0, lastDecision := 0, lastCh := 0,
    refusals := 0, timeouts := 0, reqStage := 0, qNeed := 0, qAvail := 0, srcCap := 0, selfBase := 0, bridgeAt := 0 }

/-- A string not yet estimated. -/
def Strg.reset : Strg :=
  { phase := 0, qInt := 0, qRep := 0, cLearn := 0, learnCount := 0, z := 0, conf := 0, refKind := 0, refAt := 0,
    floatFrom := none, floatOk := false, restFrom := none, eodFrom := none, ended := false, low := false, atEnd := false,
    rejoinFrom := none, rejoin := false, rejoinLow := false, eodMv := 0, iLim := 0, vTgt := 0, drawn := 0, fromFull := false,
    accI := { sum := 0, count := 0, aux := 0 }, accV := { sum := 0, count := 0, aux := 0 }, sumI := 0, sumV := 0,
    cycN := 0, chemDue := false, chemKept := 0 }

/-- The batteries. -/
def Bat.reset : Bat :=
  { s := Vector.replicate 4 Strg.reset, test := none, iB := none, lost := 0, probe := 0, cutoffDue := false,
    cutoffAt := 0, stateAt := 0 }

/-- A peer never heard. -/
def Peer.reset : Peer :=
  { present := false, heard := false, lo := 0, hi := 0, lo2 := 0, hi2 := 0, mode := 0, stage := 0, flags := 0,
    at_ := 0, reserve := (0, 0, 0) }

/-- A rectifier never heard. -/
def Dev.reset : Dev :=
  { announced := false, genLo := 0, genHi := 0, rating := 0, lastSeq := none, answered := false, miss := 0,
    left := false, at_ := 0,
    conflict := false, low := false, flags := 0, outMv := 0, outMa := 0, temp := 0, fault := 0 }

/-- A battery module never heard. -/
def Bmod.reset : Bmod :=
  { present := false, absent := false, mv := 0, hi := 0, lo := 0, temp := 0, flags := 0, soc := 0, at_ := 0 }

/-- The Share Bus, silent. -/
def Shb.reset : Shb :=
  { peer := Vector.replicate 8 Peer.reset, low := 0, listen := false, gen := 1, rise := none, riseAt := 0, statusDue := false,
    clockOfs := 0, seq := 0,
    seen := [], port := Vector.replicate 2 { off := false, tec := 0, rec_ := 0, boff := 0 }, ignored := 0,
    dev := Vector.replicate 24 Dev.reset, mod := Vector.replicate 4 (Vector.replicate 16 Bmod.reset), live := false,
    sent := [], annAt := 0, statAt := 0, resAt := 0, clockSec := 0, modSum := Vector.replicate 4 0, modAt := 0 }

/-- A field line at level 0. -/
def FLine.reset : FLine :=
  { level := false, stuck := false, ovspd := false, rej := 0, rejSec := 0, sec := 0, since := none, out := false,
    limited := false, limitAt := 0 }

/-- A blank state store. -/
def Store.reset : Store :=
  { ready := false, rollbackCopy := false, lastFlushOk := false, flushing := false, holdShort := false,
    writeFail := false, recs := [], queue := [], held := [], journal := [], copies := [], dirty := [], holdT := 0,
    flushUs := 0, powerCycles := 0, lastFlush := 0, corrected := 0, uncorrected := 0, scrubPos := 0, scrubLast := 0,
    heldCount := 0, lostWrites := 0, migrated := 0, migrateFail := 0, findings := [],
    flushNewer := false, flushBegun := none, powerSlot := 0, wearSlot := 0 }

/-- A blank event log. -/
def Rec.reset : Rec :=
  { ready := false, full := false, held := false, spill := false, buf := [], nextSeq := 0, watermark := 0xFFFFFF,
    dropped := 0, suppressed := 0, window := 0, counts := [], summs := [], catchAll := none,
    pools := Vector.replicate 4 [], pseq := 0 }

/-- A blank image bank. -/
def Bank.reset : Bank :=
  { st := 0, trials := 0, ver := 0, svn := 0, stagedAt := 0, confirmedAt := 0, bytes := [], total := 0, bad := false, got := [] }

/-- Service, update and debug. -/
def Svc.reset : Svc :=
  { en := false, baud := 0, baudNew := false, baudAt := 0, tx := [], bankA := Bank.reset, bankB := Bank.reset, runB := false,
    loading := none, phase := 0, trialAt := 0, lead := 0, syncAt := 0, op := none, asker := none, newOn := none, trialFailovers := 0,
    trialRestart := false, reloads := [], lastType := 0, lastResult := 0, lastBudget := 0, handovers := 0,
    rollbacks := 0, svnFloor := 0, revoked := 0, debug := 0, nonce := none, halted := false, wear := none, localA := [],
    localB := [], sram := [] }

/-- The supply monitor before power. -/
def Pwr.reset : Pwr :=
  { vin := false, warn := false, fail := false, coreWin := false, dieHot := false, coolCnt := 0, warnCount := 0,
    failCount := 0, holdMv := 0, selfMw := 0 }

/-- The machine right after reset: unpowered, every register at the reset value of its table (R11, Table 3.4), the
nonvolatile stores blank and no command waiting. POWER_ON starts it (R40). -/
def State.reset : State :=
  { pending := [], clock := 0, freeCtr := 0, pw := [], pf := [], sys := Sys.reset, link := Link.reset,
    inq := Vector.replicate 16 InQ.reset, outq := Vector.replicate 16 OutQ.reset, deolo := Deolo.reset,
    ch := Vector.replicate 24 Chan.reset, grp := Vector.replicate 4 Group.reset, bus := Bus.reset, tin := Tin.reset,
    mb := MusicBox.reset, cnv := Cnv.reset, acc := Acc.reset, xam := Xam.reset, met := Met.reset, tmr := Timers.reset,
    adm := Adm.reset, bat := Bat.reset, shb := Shb.reset, fl := Vector.replicate 16 FLine.reset, nvs := Store.reset,
    log := Rec.reset, svc := Svc.reset, pwr := Pwr.reset }

end Sys2Proof.Machine
end

