-- ==== Sys2Proof/Machine/Ops.lean ====
section
/-! DEFINITION. The shared operations: bitmaps, rounding, the parameter stores, the interrupt status, the passage of time
and free values. -/

namespace Sys2Proof

/-! ### Fields of words and numbers -/

/-- The group of a channel: group Gk holds channels 6k to 6k + 5 (R15). -/
def groupOf (c : Ch) : Grp := ⟨c.val / 6, by omega⟩

/-- Bit `n` of a word as a Bool. -/
def Word.bit (w : Word) (n : Nat) : Bool := w.getLsbD n

/-- The field of `len` bits of `w` from bit `lo` upward, as a number. -/
def Word.field (w : Word) (lo len : Nat) : Nat := (w.toNat >>> lo) % 2 ^ len

/-- A field of a number: `len` bits from bit `lo` upward. -/
def fieldOf (n lo len : Nat) : Nat := (n >>> lo) % 2 ^ len

end Sys2Proof

namespace Sys2Proof.Machine

/-! ### Bitmaps and words -/

/-- All channels, in rising order. -/
def allCh : List Ch := List.finRange 24

/-- All groups, in rising order. -/
def allGrp : List Grp := List.finRange 4

/-- All strings, in rising order. -/
def allStr : List Str := List.finRange 4

/-- The channels of a group (R15). -/
def chOf (g : Grp) : List Ch := allCh.filter fun c => groupOf c == g

/-- The bitmap of the numbers of a list that satisfy `p`. -/
def bitsOf {n : Nat} (l : List (Fin n)) (p : Fin n → Bool) : Nat :=
  l.foldl (fun acc i => if p i then acc + 2 ^ i.val else acc) 0

/-- The channel bitmap of a predicate, bit n for channel n. -/
def chMap (p : Ch → Bool) : Nat := bitsOf allCh p

/-- The channels named by a bitmap, in rising order. -/
def chNamed (m : Nat) : List Ch := allCh.filter fun c => m.testBit c.val

/-- The groups named by a bitmap, in rising order. -/
def grpNamed (m : Nat) : List Grp := allGrp.filter fun g => m.testBit g.val

/-- 1 for true. -/
def b2n (b : Bool) : Nat := if b then 1 else 0

/-- A bit at a place. -/
def bitAt (b : Bool) (k : Nat) : Nat := if b then 2 ^ k else 0

/-- A counter of 32 bits that saturates. -/
def sat32 (n : Nat) : Nat := min n 0xFFFFFFFF

/-- A count of 8 bits that saturates. -/
def sat8 (n : Nat) : Nat := min n 255

/-- An integer as an unsigned number of `w` bits, two's complement. -/
def asBits (w : Nat) (v : Int) : Nat := (v % (2 ^ w : Int)).toNat

/-- A number of `w` bits read as two's complement. -/
def signedOf (w : Nat) (n : Nat) : Int := if n % 2 ^ w < 2 ^ (w - 1) then ((n % 2 ^ w : Nat) : Int) else ((n % 2 ^ w : Nat) : Int) - 2 ^ w

/-- A word from a number. -/
def wd (n : Nat) : Word := BitVec.ofNat 32 n

/-- The value held to the range `lo` to `hi`. -/
def clampI (lo hi v : Int) : Int := if v < lo then lo else if hi < v then hi else v

/-- Puts a number into a rising list. -/
def insNat (a : Nat) : List Nat → List Nat
  | [] => [a]
  | b :: t => if a ≤ b then a :: b :: t else b :: insNat a t

/-- The list in rising order. -/
def sortNat : List Nat → List Nat
  | [] => []
  | a :: t => insNat a (sortNat t)

/-! ### Rounding -/

/-- The quotient rounded to the nearest integer, ties away from zero (R299, R304, R323). -/
def divNear (a : Int) (b : Nat) : Int :=
  if 0 ≤ a then (2 * a + b) / (2 * b) else -((-(2 * a) + b) / (2 * b))

/-- The rational rounded to the nearest integer, ties away from zero. -/
def ratNear (q : Rat) : Int := divNear q.num q.den

/-- The rational truncated toward minus infinity. -/
def ratFloor (q : Rat) : Int := q.num / q.den

/-- The rational rounded up. -/
def ratCeil (q : Rat) : Int := -((-q.num) / q.den)

/-- The rational rounded one way or the other, where no rule says which; an integer stays as it is. -/
def ratFree (site : Nat) (q : Rat) : Int :=
  if q.den = 1 then q.num else if Config.roundsUp site q then ratCeil q else ratFloor q

/-! ### Vectors -/

/-- The vector with the component at `i` replaced by its image. -/
def vmod {α : Type} {n : Nat} (v : Vector α n) (i : Fin n) (f : α → α) : Vector α n := v.set i.val (f (v.get i)) i.isLt

/-- The vector with the component at `i` replaced. -/
def vput {α : Type} {n : Nat} (v : Vector α n) (i : Fin n) (x : α) : Vector α n := v.set i.val x i.isLt

/-! ### The parameter stores (R12, R14, R119) -/

/-- The value a sparse store lists for an ID. -/
def sget : List (Nat × Int) → Nat → Option Int
  | [], _ => none
  | (a, x) :: t, id => if a = id then some x else sget t id

/-- The store with a value for an ID, in its canonical form: rising IDs and no entry equal to the default `d`. -/
def sput : List (Nat × Int) → Nat → Int → Int → List (Nat × Int)
  | [], id, v, d => if v = d then [] else [(id, v)]
  | (a, x) :: t, id, v, d =>
    if a < id then (a, x) :: sput t id v d
    else if a = id then (if v = d then t else (id, v) :: t)
    else if v = d then (a, x) :: t
    else (id, v) :: (a, x) :: t

/-- The canonical form of a parameter store. -/
def storeWf : List (Nat × Int) → Bool
  | [] => true
  | [(a, x)] => decide (x ≠ paramDflt a)
  | (a, x) :: (b, y) :: t => decide (x ≠ paramDflt a) && decide (a < b) && storeWf ((b, y) :: t)

/-- The value of a parameter in force. -/
def pget (s : State) (id : Nat) : Int := (sget s.pf id).getD (paramDflt id)

/-- The value of a parameter as last written (R14). -/
def pgetW (s : State) (id : Nat) : Int := (sget s.pw id).getD (paramDflt id)

/-- The value of a parameter in force, as a number. -/
def pn (s : State) (id : Nat) : Nat := (pget s id).toNat

/-- A flag parameter in force. -/
def pb (s : State) (id : Nat) : Bool := pget s id != 0

/-- A parameter of a channel in force. -/
def chp (s : State) (c : Ch) (off : Nat) : Int := pget s (chId c off)

/-- A parameter of a channel in force, as a number. -/
def chn (s : State) (c : Ch) (off : Nat) : Nat := (chp s c off).toNat

/-- A parameter of a string in force. -/
def strp (s : State) (k : Str) (off : Nat) : Int := pget s (strId k off)

/-- A parameter of a string in force, as a number. -/
def strn (s : State) (k : Str) (off : Nat) : Nat := (strp s k off).toNat

/-- Writes a parameter's value as written. -/
def putW (id : Nat) (v : Int) (s : State) : State := { s with pw := sput s.pw id v (paramDflt id) }

/-- Puts a parameter's value in force. -/
def putF (id : Nat) (v : Int) (s : State) : State := { s with pf := sput s.pf id v (paramDflt id) }

/-! ### Updates of one component -/

/-- Changes one channel. -/
def modCh (c : Ch) (f : Chan → Chan) (s : State) : State := { s with ch := vmod s.ch c f }

/-- Changes one group. -/
def modGrp (g : Grp) (f : Group → Group) (s : State) : State := { s with grp := vmod s.grp g f }

/-- A channel. -/
def State.chan (s : State) (c : Ch) : Chan := s.ch.get c

/-- A group. -/
def State.group (s : State) (g : Grp) : Group := s.grp.get g

/-- The frequency of DRM.NOMINAL in Hz/1000 (Table 10.6). -/
def nominal (s : State) : Nat := if pn s Prm.DRM_NOMINAL = 1 then 60000 else 50000

/-- Applies a state change for each member of a list, in order. -/
def forEach {α : Type} : List α → (α → State → State) → State → State
  | [], _, s => s
  | a :: t, f, s => forEach t f (f a s)

/-- Draws a free word: the constant of Config at the present count, and the count raised. -/
def drawWord (s : State) : Word × State := (Config.freeWord s.freeCtr, { s with freeCtr := s.freeCtr + 1 })

/-- Draws `n` free words. -/
def drawWords : Nat → State → List Word × State
  | 0, s => ([], s)
  | n + 1, s =>
    let (w, s) := drawWord s
    let (l, s) := drawWords n s
    (w :: l, s)

/-! ### Interrupts (R76, R80, R81) -/

/-- The bits of H_IRQ_STATUS. -/
abbrev Irq.FW_READY : Nat := 0
abbrev Irq.MODE_CHG : Nat := 1
abbrev Irq.OUT_MSG : Nat := 2
abbrev Irq.COLLIDE : Nat := 3
abbrev Irq.FAULT : Nat := 4
abbrev Irq.EVENT : Nat := 5
abbrev Irq.SAFE_KEEP : Nat := 6
abbrev Irq.LINK_ERR : Nat := 7
abbrev Irq.CLK_FAULT : Nat := 8
abbrev Irq.FAILOVER : Nat := 9
abbrev Irq.METER : Nat := 10
abbrev Irq.SHB : Nat := 11
abbrev Irq.ADMIT : Nat := 12

/-- Sets a bit of H_IRQ_STATUS; in pulse mode an enabled bit that goes from 0 to 1 starts the 1 µs pulse (R80). -/
def setIrq (k : Nat) (s : State) : State :=
  { s with link := { s.link with
      irqStatus := s.link.irqStatus ||| 2 ^ k
      pulseOut := s.link.pulseOut || (s.link.pulse && !s.link.irqStatus.testBit k && s.link.irqMask.testBit k) } }

/-- nIRQ is asserted (R80). -/
def irqAsserted (s : State) : Bool :=
  if s.link.pulse then s.link.pulseOut else (s.link.irqStatus &&& s.link.irqMask) != 0

/-! ### Time (R25, R391, R392) -/

/-- Core clocks in a tick of 1 µs. -/
abbrev clkUs : Nat := 400

/-- Core clocks in 1 ms. -/
abbrev clkMs : Nat := 400000

/-- Core clocks in 1 s. -/
abbrev clkS : Nat := 400000000

/-- Core clocks between two outputs of the spinning-top divider, 1/1024 s. -/
abbrev clkKt : Nat := 390625

/-- OPTIME, which is KT0 (R391). -/
def optime (s : State) : Nat := s.tmr.kt.get 0

/-- Channel n conducts (R153, H_CH_ON). -/
def conducts (s : State) (c : Ch) : Bool := (s.chan c).st.conducts

/-- The gate condition of a keeping timer holds (Table 14.7). -/
def ktGate (s : State) (n : Fin 4) : Bool :=
  let arg := pn s (ktId n Ktp.ARG)
  match pn s (ktId n Ktp.CFG) % 8 with
  | 1 => true
  | 2 => (chNamed arg).any (conducts s)
  | 3 => s.sys.mode == .bridge
  | 4 =>
    let k : Fin 8 := ⟨fieldOf arg 24 4 % 8, by omega⟩
    let t := s.cnv.ntc.get k
    t.st == .valid && decide (signedOf 16 arg < t.t)
  | _ => false

/-- A keeping timer after `k` outputs of the divider, saturating. -/
def ktCount (s : State) (k : Nat) (n : Fin 4) : Nat :=
  if ktGate s n then min (s.tmr.kt.get n + k) (2 ^ 40 - 1) else s.tmr.kt.get n

/-- `k` outputs of the divider: the keeping timers count, or in DORMANT the span does (R391, R392). Before power and in
an abandoned start the main domain does not run, and nothing counts. -/
def ktOutputs (k : Nat) (s : State) : State :=
  if s.sys.phase == .off || s.sys.phase == .abandoned then s
  else if s.sys.mode == .dormant then
    { s with tmr := { s.tmr with span := min (s.tmr.span + k) (2 ^ 40 - 1) } }
  else
    { s with tmr := { s.tmr with
        kt := vput (vput (vput (vput s.tmr.kt 0 (ktCount s k 0)) 1 (ktCount s k 1)) 2 (ktCount s k 2)) 3 (ktCount s k 3) } }

/-- `dt` core clocks pass: the keeping timers count the divider's outputs, and Xamir's time runs while VDD_XM stands. -/
def elapse (dt : Nat) (s : State) : State :=
  let k := (s.clock + dt) / clkKt - s.clock / clkKt
  let s := ktOutputs k s
  { s with
    clock := s.clock + dt
    xam := if s.xam.powered then { s.xam with timeClk := s.xam.timeClk + dt } else s.xam }

/-- Time passes up to a clock; a clock already past changes nothing. -/
def elapseTo (t : Nat) (s : State) : State := elapse (t - s.clock) s

/-- A step with nothing commanded: one output of the spinning-top divider passes. -/
def idle (s : State) : State := elapse clkKt s

/-! ### Isolation (R35, R101, R586) -/

/-- The channel is isolated, or lies in an isolated group. -/
def isolated (s : State) (c : Ch) : Bool := s.sys.isoCh.contains c || s.sys.isoGrp.contains (groupOf c)

/-- Any isolation is in force. -/
def anyIso (s : State) : Bool := !s.sys.isoCh.isEmpty || !s.sys.isoGrp.isEmpty

/-- A Puppeteer runs. -/
def anyPup (s : State) : Bool := s.sys.pupA.up || s.sys.pupB.up

/-- One of the Puppeteers. -/
def Sys.pup (y : Sys) : Pup → Pupp
  | .a => y.pupA
  | .b => y.pupB

/-- The other Puppeteer. -/
def otherPup : Pup → Pup
  | .a => .b
  | .b => .a

/-- Changes one of the Puppeteers. -/
def modPup (p : Pup) (f : Pupp → Pupp) (s : State) : State :=
  match p with
  | .a => { s with sys := { s.sys with pupA := f s.sys.pupA } }
  | .b => { s with sys := { s.sys with pupB := f s.sys.pupB } }

/-- H_STATUS.SAFE_KEEP and the mode SAFE-KEEP: the Tin Soldier has control (R253). -/
def inSafeKeep (s : State) : Bool := s.sys.mode == .safeKeep

/-- The Xamir die is fitted and answers: H_STATUS[7]. It reads 0 in SAFE-KEEP while no witness runs (Table 3.5, R255). -/
def meterPresent (s : State) : Bool := s.xam.fitted && s.met.st == 2 && (!inSafeKeep s || anyPup s)

/-- The body of NTF_METER (Table 4.8). -/
def meterBody (s : State) : List Word := [wd (bitAt (s.met.mirror.sealCnt.testBit 16) 1 + b2n (meterPresent s))]

end Sys2Proof.Machine
end

