-- ==== Sys2Proof/Machine/Numeric.lean ====
section
/-! DEFINITION. The exponential, the sixteenth root and the logarithm of chapters 6 and 11, which no rational equals: each is a
free value inside an enclosure computed here, far narrower than the accuracies the spec gives (R166, R187, R302). -/

namespace Sys2Proof.Machine

/-! ### A free value inside an enclosure -/

/-- The value held between two bounds. -/
def within (lo hi x : Rat) : Rat := if x < lo then lo else if hi < x then hi else x

/-! ### exp(-x) -/

/-- The first `n + 1` terms of the series of exp(-y), by Horner's rule from term `k` on. -/
def expTerms (y : Rat) : (n k : Nat) → Rat
  | 0, _ => 1
  | n + 1, k => 1 - y / (k : Rat) * expTerms y n (k + 1)

/-- Halvings of `x` until it is at most 1. -/
def halvings (x : Rat) : Nat := Nat.log2 (ratCeil x).toNat + 1

/-- An enclosure of exp(-x) for x from 0: the series alternates and falls for y from 0 to 1, so two sums that follow one another
enclose it; x is halved to y and the bounds are squared back. Above 64 the value lies below 2^-92. -/
def expBounds (x : Rat) : Rat × Rat :=
  if 64 < x then (0, 1 / 2 ^ 92)
  else
    let k := halvings x
    let y := x / 2 ^ k
    (expTerms y 21 1 ^ 2 ^ k, expTerms y 20 1 ^ 2 ^ k)

/-- exp(-x) for x from 0 (R165). -/
def expNeg (x : Rat) : Rat := within (expBounds x).1 (expBounds x).2 (Config.expNeg x)

/-! ### q^(n/16) -/

/-- The sixteenth root of q, rounded down to a multiple of 2^-64, as a number of them. -/
def root16 (q : Rat) : Nat :=
  Nat.sqrt (Nat.sqrt (Nat.sqrt (Nat.sqrt (q.num.toNat * 2 ^ 1024 / q.den))))

/-- q^(n/16) for q from 0 (R187). -/
def power16 (q : Rat) (n16 : Nat) : Rat :=
  let r := root16 q
  let at_ := fun (m : Nat) => ((m : Rat) / 2 ^ 64) ^ n16
  within (at_ r) (at_ (r + 1)) (Config.power16 q n16)

/-! ### ln -/

/-- z + z^3/3 + z^5/5 + … of `n` terms from the exponent `k` on, without its first power of z. -/
def atanhTerms (z2 : Rat) : (n k : Nat) → Rat
  | 0, _ => 0
  | n + 1, k => 1 / (k : Rat) + z2 * atanhTerms z2 n (k + 2)

/-- An enclosure of ln(m) for m from 1 to 2, twice the inverse hyperbolic tangent of (m - 1)/(m + 1), at most 1/3: what 40
terms leave lies below 9^-40. -/
def lnBounds (m : Rat) : Rat × Rat :=
  let z := (m - 1) / (m + 1)
  let v := 2 * z * atanhTerms (z * z) 40 1
  (v, v + 1 / 9 ^ 40)

/-- The whole number e with 2^e ≤ r < 2^(e + 1), for r above 0. -/
def exponent (r : Rat) : Int :=
  let e : Int := (Nat.log2 r.num.toNat : Int) - Nat.log2 r.den
  if r < (2 : Rat) ^ e then e - 1 else if (2 : Rat) ^ (e + 1) ≤ r then e + 1 else e

/-- ln(r) for r above 0 (R302); what the formula gives for other values is left open. -/
def ln (r : Rat) : Rat :=
  if r ≤ 0 then Config.ln r
  else
    let e := exponent r
    let m := lnBounds (r / (2 : Rat) ^ e)
    let two := lnBounds 2
    let lo := if 0 ≤ e then (e : Rat) * two.1 + m.1 else (e : Rat) * two.2 + m.1
    let hi := if 0 ≤ e then (e : Rat) * two.2 + m.2 else (e : Rat) * two.1 + m.2
    within lo hi (Config.ln r)

end Sys2Proof.Machine
end

