-- ==== Sys2Proof/Machine/Crc.lean ====
section
/-! DEFINITION. The check values of the Hatan: the CRC-16 of the host link, of the service port and of the protective
interface (R66, R349, R513), and the CRC-32 of the stores and of the safety sheet (R259). -/

namespace Sys2Proof.Machine

/-- The four bytes of a word, most significant first. -/
def wordBytes (w : Nat) : List Nat := [w / 2 ^ 24 % 256, w / 2 ^ 16 % 256, w / 2 ^ 8 % 256, w % 256]

/-- The bytes of a list of words. -/
def wordsBytes : List Nat → List Nat
  | [] => []
  | w :: t => wordBytes w ++ wordsBytes t

/-- The big-endian number of a list of bytes. -/
def beNat (l : List Nat) : Nat := l.foldl (fun n b => n * 256 + b % 256) 0

/-- A number as `k` bytes, most significant first. -/
def beBytes : Nat → Nat → List Nat
  | 0, _ => []
  | k + 1, n => n / 256 ^ k % 256 :: beBytes k n

/-- Bytes read as words, most significant byte first; a rest shorter than a word is left out. -/
def bytesWords : List Nat → List Nat
  | a :: b :: c :: d :: t => (a % 256 * 2 ^ 24 + b % 256 * 2 ^ 16 + c % 256 * 2 ^ 8 + d % 256) :: bytesWords t
  | _ => []

/-- `n` shifts of the CRC-16 register. -/
def crc16Shift : Nat → Nat → Nat
  | 0, r => r
  | n + 1, r =>
    let d := 2 * r % 65536
    crc16Shift n (if 32768 ≤ r then Nat.xor d 0x1021 else d)

/-- The CRC-16 register after a byte. -/
def crc16Byte (r b : Nat) : Nat := crc16Shift 8 (Nat.xor r (b % 256 * 256))

/-- CRC-16 of R66: polynomial 0x1021, start 0xFFFF, no reflection, no final XOR. -/
def crc16 (l : List Nat) : Nat := l.foldl crc16Byte 0xFFFF

/-- `n` shifts of the reflected CRC-32 register. -/
def crc32Shift : Nat → Nat → Nat
  | 0, r => r
  | n + 1, r => crc32Shift n (if r % 2 = 1 then Nat.xor (r / 2) 0xEDB88320 else r / 2)

/-- The CRC-32 register after a byte. -/
def crc32Byte (r b : Nat) : Nat := crc32Shift 8 (Nat.xor r (b % 256))

/-- CRC-32 of R259: polynomial 0x04C11DB7, reflected, start and final XOR 0xFFFFFFFF. -/
def crc32 (l : List Nat) : Nat := Nat.xor (l.foldl crc32Byte 0xFFFFFFFF) 0xFFFFFFFF

end Sys2Proof.Machine
end

