-- ==== Sys2Proof/Machine/Sha.lean ====
section
/-! DEFINITION. SHA-256 and HMAC-SHA-256, which R106, R352, R523 and R534 name by their standards (FIPS 180-4,
RFC 2104). The constants are computed from the primes, as the standard defines them, and the eight working words are
kept as what they are: the four newest values of each of two sequences. -/

namespace Sys2Proof.Machine

/-- The greatest r with `r ^ e ≤ n` that adds to `r` some of the lowest `bits` powers of two. -/
def rootFrom (e n : Nat) : Nat → Nat → Nat
  | 0, r => r
  | bits + 1, r => rootFrom e n bits (if (r + 2 ^ bits) ^ e ≤ n then r + 2 ^ bits else r)

/-- The first 32 bits of the fraction of the `e`-th root of `p` (for `p` below 2^9 and `e` above 1). -/
def rootFraction (e p : Nat) : Nat := rootFrom e (p * 2 ^ (32 * e)) 37 0 % 2 ^ 32

/-- The primes below 312, which are the first 64. -/
def shaPrimes : List Nat :=
  (List.range 312).filter fun n => 2 ≤ n && ((List.range 18).drop 2).all fun d => n < d * d || n % d != 0

/-- The constant of each round: from the cube roots of the first 64 primes. -/
def shaK : List Nat := shaPrimes.map (rootFraction 3)

/-- A 32-bit number turned right by each of `turns` and shifted right by `s` (0: not shifted in), the results added
bit by bit without carry. -/
def sigma (turns : List Nat) (s x : Nat) : Nat :=
  turns.foldl (fun acc n => Nat.xor acc ((x / 2 ^ n + x * 2 ^ (32 - n)) % 2 ^ 32)) (if s = 0 then 0 else x / 2 ^ s)

/-- A run of the compression function: the values of the two sequences and of the message schedule so far, each with
the newest first. -/
structure ShaRun where
  as : List Nat
  es : List Nat
  ws : List Nat
  deriving DecidableEq, Repr

/-- The next word of the message schedule, from the sixteen before it. -/
def ShaRun.nextWord (x : ShaRun) : Nat :=
  (sigma [17, 19] 10 (x.ws.getD 1 0) + x.ws.getD 6 0 + sigma [7, 18] 3 (x.ws.getD 14 0) + x.ws.getD 15 0) % 2 ^ 32

/-- One round with the constant `k` and the schedule's word `w`: one more value of each sequence, the oldest
dropped. -/
def ShaRun.round (k w : Nat) (x : ShaRun) : ShaRun :=
  let e := x.es.getD 0 0
  let a := x.as.getD 0 0
  let pick := Nat.lor (Nat.land e (x.es.getD 1 0)) (Nat.land (2 ^ 32 - 1 - e) (x.es.getD 2 0))
  let most := Nat.lor (Nat.land a (Nat.lor (x.as.getD 1 0) (x.as.getD 2 0))) (Nat.land (x.as.getD 1 0) (x.as.getD 2 0))
  let add := sigma [6, 11, 25] 0 e + pick + x.es.getD 3 0 + k + w
  { x with
    es := (x.as.getD 3 0 + add) % 2 ^ 32 :: x.es.take 3
    as := (sigma [2, 13, 22] 0 a + most + add) % 2 ^ 32 :: x.as.take 3 }

/-- The rounds of a list of constants: the first take the block's words, the rest the schedule's next ones. -/
def ShaRun.rounds : List Nat → List Nat → ShaRun → ShaRun
  | [], _, x => x
  | k :: ks, block, x =>
    let w := block.headD x.nextWord
    rounds ks block.tail { x.round k w with ws := w :: x.ws.take 15 }

/-- The eight words of a run in the standard's order. -/
def ShaRun.words (x : ShaRun) : List Nat := x.as ++ x.es

/-- The chaining words after one block of 64 bytes. -/
def shaBlock (h : List Nat) (block : List Nat) : List Nat :=
  let x := ShaRun.rounds shaK (bytesWords block) { as := h.take 4, es := h.drop 4, ws := [] }
  List.zipWith (fun p q => (p + q) % 2 ^ 32) h x.words

/-- The chaining words after `n` blocks of a padded message. -/
def shaBlocks : Nat → List Nat → List Nat → List Nat
  | 0, _, h => h
  | n + 1, m, h => shaBlocks n (m.drop 64) (shaBlock h (m.take 64))

/-- A message with its padding: a one bit, zeros up to 56 bytes into a block, and its length in bits. -/
def shaPadded (m : List Nat) : List Nat :=
  m ++ [128] ++ List.replicate ((119 - m.length % 64) % 64) 0 ++ beBytes 8 (8 * m.length)

/-- SHA-256 of a list of bytes: 32 bytes. The chaining words begin with the square roots of the first 8 primes. -/
def sha256 (m : List Nat) : List Nat :=
  let padded := shaPadded m
  wordsBytes (shaBlocks (padded.length / 64) padded ((shaPrimes.take 8).map (rootFraction 2)))

/-- A key of at most 64 bytes filled up with zeros, every byte turned over where `pad` has ones. -/
def padKey (key : List Nat) (pad : Nat) : List Nat :=
  (key ++ List.replicate (64 - key.length) 0).map fun b => Nat.xor (b % 2 ^ 8) pad

/-- HMAC-SHA-256 of a message under a key of at most 64 bytes. -/
def hmacSha256 (key msg : List Nat) : List Nat :=
  sha256 (padKey key 0x5C ++ sha256 (padKey key 0x36 ++ msg))

end Sys2Proof.Machine
end

