-- ==== Sys2Proof/Machine/Image.lean ====
section
/-! DEFINITION. The image banks: their control blocks, the Umlos header and the acceptance of an image (R519 to R523). -/

namespace Sys2Proof.Machine

/-! ### Bank states (Table 20.5) -/

abbrev Bst.EMPTY : Nat := 0
abbrev Bst.LOADING : Nat := 1
abbrev Bst.STAGED : Nat := 2
abbrev Bst.TRIAL : Nat := 3
abbrev Bst.CONFIRMED : Nat := 4
abbrev Bst.PREVIOUS : Nat := 5
abbrev Bst.REJECTED : Nat := 6

/-- A bank; `true` names bank B. -/
def bankOf (s : State) (b : Bool) : Bank := if b then s.svc.bankB else s.svc.bankA

/-- The bank that runs. -/
def runBank (s : State) : Bank := bankOf s s.svc.runB

/-- The other bank. -/
def idleBank (s : State) : Bank := bankOf s (!s.svc.runB)

/-- Changes a bank. -/
def modBank (b : Bool) (f : Bank → Bank) (s : State) : State :=
  if b then { s with svc := { s.svc with bankB := f s.svc.bankB } }
  else { s with svc := { s.svc with bankA := f s.svc.bankA } }

/-- The version of the running image. -/
def runVer (s : State) : Nat := (runBank s).ver

/-! ### Bytes of an image -/

/-- What a byte that nothing has written reads as (log 14). -/
abbrev blankByte : Byte := 0

/-- The canonical form of a byte memory: addresses strictly rising, and no byte listed that equals a blank one. -/
def Memory.wf : List Host.Cell → Bool
  | [] => true
  | [c] => c.2 != blankByte
  | c :: d :: t => c.2 != blankByte && decide (c.1 < d.1) && Memory.wf (d :: t)

/-- The byte at an address: blank unless listed. -/
def byteAt : List Host.Cell → Nat → Byte
  | [], _ => blankByte
  | c :: t, a => if c.1 = a then c.2 else byteAt t a

/-- The memory with a byte written. -/
def putByte : List Host.Cell → Nat → Byte → List Host.Cell
  | [], a, v => if v = blankByte then [] else [(a, v)]
  | c :: t, a, v =>
    if c.1 < a then c :: putByte t a v
    else
      let rest := if c.1 = a then t else c :: t
      if v = blankByte then rest else (a, v) :: rest

/-- The memory with bytes written from an address on. -/
def putBytes : List Host.Cell → Nat → List Byte → List Host.Cell
  | m, _, [] => m
  | m, a, v :: t => putBytes (putByte m a v) (a + 1) t

/-- `n` bytes of an image from an offset on. -/
def imgBytes (k : Bank) (ofs n : Nat) : List Nat := (List.range n).map fun i => (byteAt k.bytes (ofs + i)).toNat

/-- A big-endian field of `n` bytes of an image. -/
def imgField (k : Bank) (ofs n : Nat) : Nat := beNat (imgBytes k ofs n)

/-! ### The Umlos header (Table 20.6) -/

/-- IMG_LEN. -/
def imgLen (k : Bank) : Nat := imgField k 12 4

/-- SVN. -/
def imgSvn (k : Bank) : Nat := imgField k 16 4

/-- The lowest Share Bus generation of an image. -/
def imgGenLo (k : Bank) : Nat := imgField k 28 1 / 16

/-- The highest Share Bus generation of an image. -/
def imgGenHi (k : Bank) : Nat := imgField k 28 1 % 16

/-- FLAGS.RAISE_SVN. -/
def imgRaise (k : Bank) : Bool := (imgField k 23 1).testBit 0

/-- The bytes of a group's microcode section that differ from 0, by their offset in the section. -/
def sectionBytes (k : Bank) (g : Nat) : List Host.Cell :=
  let base := 512 + imgField k 36 4 + 16384 * g
  (k.bytes.filter fun p => base ≤ p.1 && p.1 < base + 16384).map fun p => (p.1 - base, p.2)

/-- The entry of RECFMT for a record type, among the first NREC entries. -/
def recFmt (k : Bank) (rtype : Nat) : Option Nat :=
  ((List.range (min 32 (imgField k 44 2))).map fun i => imgField k (48 + 4 * i) 4).find? fun w => w / 2 ^ 16 == rtype

/-- The current format of a record type in an image; 0 for a type that RECFMT does not list. -/
def imgFormat (k : Bank) (rtype : Nat) : Nat :=
  match recFmt k rtype with
  | some w => fieldOf w 8 8
  | none => 0

/-- The lowest format of a record type that an image reads; none where it cannot read the type. -/
def imgLowest (k : Bank) (rtype : Nat) : Option Nat := (recFmt k rtype).map fun w => w % 256

/-! ### Acceptance (R523) -/

/-- H_ID.STEP. -/
def stepping : Nat := 1 + Config.stepping % 255

/-- The image bytes received: the length of the union of the chunks, for chunks that overlap only when they are equal. -/
def received (k : Bank) : Nat := ((List.range k.total).filter fun i => k.got.any fun p => p.1 ≤ i && i < p.1 + p.2).length

/-- The header check, 1 of R523. -/
def imgHeaderOk (k : Bank) : Bool :=
  imgField k 0 4 == 0x554D4C53 && imgField k 4 1 == 1 && imgField k 6 2 == 512
    && decide (imgLen k % 4 = 0 ∧ 4 ≤ imgLen k ∧ imgLen k ≤ 1568256)

/-- The first of the checks 1 to 7 that an image fails, by its UPD.LAST result (R523). A word that no longer decodes under
ECC fails the hash. -/
def imgCheck (s : State) (k : Bank) : Option Nat :=
  let key := imgField k 208 1
  if !imgHeaderOk k then some 1
  else if !(imgField k 20 2 == 0x2460 && decide (imgField k 22 1 ≤ stepping)) then some 2
  else if received k ≠ 512 + imgLen k then some 3
  else if k.bad then some 4
  else if sha256 (imgBytes k 512 (imgLen k)) ≠ imgBytes k 176 32 then some 4
  else if 2 < key ∨ s.svc.revoked.testBit key then some 6
  else if !Config.verifies key (sha256 (imgBytes k 0 448)) (imgBytes k 448 64) then some 5
  else if imgSvn k < s.svc.svnFloor then some 7
  else none

/-- The bank passes the boot check (R520). -/
def bankPasses (s : State) (b : Bool) : Bool := (imgCheck s (bankOf s b)).isNone

/-! ### The bank that boots (R520) -/

/-- The preferred bank: the one in TRIAL, otherwise the one in CONFIRMED. -/
def preferred (s : State) : Option Bool :=
  if s.svc.bankA.st = Bst.TRIAL then some false
  else if s.svc.bankB.st = Bst.TRIAL then some true
  else if s.svc.bankA.st = Bst.CONFIRMED then some false
  else if s.svc.bankB.st = Bst.CONFIRMED then some true
  else none

/-- A bank that may be booted in place of the preferred one. -/
def fallbackOk (s : State) (b : Bool) : Bool :=
  ((bankOf s b).st == Bst.PREVIOUS || (bankOf s b).st == Bst.CONFIRMED) && bankPasses s b

/-- A cold start that boots a bank in TRIAL adds 1 to its TRIALS, and rejects it when that would exceed 3 (R520). -/
def countTrial (s : State) : State :=
  match preferred s with
  | none => s
  | some b =>
    if (bankOf s b).st ≠ Bst.TRIAL ∨ !bankPasses s b then s
    else if 3 ≤ (bankOf s b).trials then modBank b (fun k => { k with st := Bst.REJECTED }) s
    else modBank b (fun k => { k with trials := k.trials + 1 }) s

/-- The bank that a cold start boots. -/
def coldBank (s : State) : Option Bool :=
  match preferred s with
  | some b => if bankPasses s b then some b else if fallbackOk s (!b) then some (!b) else none
  | none => if fallbackOk s false then some false else if fallbackOk s true then some true else none

/-- Every image bank as the run of a warm restart finds it: the bank that ran, when it passes its check; otherwise the
other one under the same terms. -/
def warmBank (s : State) : Option Bool :=
  if bankPasses s s.svc.runB then some s.svc.runB
  else if fallbackOk s (!s.svc.runB) then some (!s.svc.runB) else none

/-- A rollback in the bank states (R532): the bank in TRIAL, or else the one in service, becomes REJECTED, and the PREVIOUS one
CONFIRMED. -/
def rollBanks (s : State) : State :=
  let trial := s.svc.bankA.st == Bst.TRIAL || s.svc.bankB.st == Bst.TRIAL
  let swap := fun (k : Bank) =>
    if k.st = Bst.TRIAL ∨ (!trial ∧ k.st = Bst.CONFIRMED) then { k with st := Bst.REJECTED }
    else if k.st = Bst.PREVIOUS then { k with st := Bst.CONFIRMED }
    else k
  { s with svc := { s.svc with
      bankA := swap s.svc.bankA, bankB := swap s.svc.bankB, rollbacks := sat32 (s.svc.rollbacks + 1), trialRestart := false } }

end Sys2Proof.Machine
end

