-- ==== Sys2Proof/Machine/Mailbox.lean ====
section
/-! DEFINITION. The outbound side of the mailboxes: messages, their placement, completions of commands in flight and
notifications (chapter 4). -/

namespace Sys2Proof.Machine

/-! ### Status codes (Table 4.9) and opcodes (Tables 4.6, 4.8) -/

abbrev St.OK : Nat := 0x00
abbrev St.PENDING : Nat := 0x01
abbrev St.BUSY : Nat := 0x02
abbrev St.REFUSED : Nat := 0x03
abbrev St.ADMIT_WAIT : Nat := 0x04
abbrev St.DOMAIN_DOWN : Nat := 0x05
abbrev St.VERSION : Nat := 0x06
abbrev St.BAD_ID : Nat := 0x07
abbrev St.RANGE : Nat := 0x08
abbrev St.AUTH : Nat := 0x09
abbrev St.MODE : Nat := 0x0A
abbrev St.ABORTED : Nat := 0x0B
abbrev St.LOST : Nat := 0x0C

abbrev Opc.NTF_MODE : Nat := 0x80
abbrev Opc.NTF_CH : Nat := 0x81
abbrev Opc.NTF_EVENT : Nat := 0x82
abbrev Opc.NTF_ADMIT : Nat := 0x83
abbrev Opc.NTF_LOST : Nat := 0x84
abbrev Opc.NTF_INBOUND_LOST : Nat := 0x85
abbrev Opc.NTF_SESSION_END : Nat := 0x86
abbrev Opc.NTF_PEER : Nat := 0x87
abbrev Opc.NTF_METER : Nat := 0x88

/-- A Deolo header (Table 4.2). -/
def header (op tag len cls st : Nat) : Word :=
  wd (op * 2 ^ 24 + (tag % 512) * 2 ^ 15 + len * 2 ^ 10 + cls * 2 ^ 8 + st)

/-- A message: its header and its body words. -/
def message (op tag cls st : Nat) (body : List Word) : List Word := header op tag body.length cls st :: body

/-- The mailbox channels that may hold a session, 0 to 14 (R103). -/
def sesCh : List Mb := (List.finRange 16).filter fun n => decide (n.val < 15)

/-! ### Power domains (Table 4.1) -/

/-- The supervision domain is down: the Tin Soldier has removed both Puppeteers from service in SAFE-KEEP. -/
def supervisionDown (s : State) : Bool := s.sys.mode == .safeKeep && !anyPup s

/-- The power domain of a mailbox channel is down. -/
def domainDown (s : State) (n : Mb) : Bool :=
  if n.val = 14 then !s.svc.en
  else if n.val = 15 then s.sys.simplex || supervisionDown s
  else supervisionDown s

/-! ### Placement (R94, R97) -/

/-- Sets bit n of H_DB_OUT, and H_IRQ_STATUS[2] when it was 0 (R94, Table 3.5). -/
def setDbOut (n : Mb) (s : State) : State :=
  if s.link.dbOut.testBit n.val then s
  else setIrq Irq.OUT_MSG { s with link := { s.link with dbOut := s.link.dbOut ||| 2 ^ n.val } }

/-- Sets a bit of H_COLLIDE, and H_IRQ_STATUS[3] when it was 0. -/
def setCollide (k : Nat) (s : State) : State :=
  if s.link.collide.testBit k then s
  else setIrq Irq.COLLIDE { s with link := { s.link with collide := s.link.collide ||| 2 ^ k } }

/-- Free words of outbound queue n. -/
def roomOut (s : State) (n : Mb) : Nat := 64 - (s.outq.get n).words.length

/-- Places a whole message in outbound queue n. On channel 14 the message goes out as one MBOX_OUT frame, which consumes
it (R518). -/
def putMsg (n : Mb) (msg : List Word) (s : State) : State :=
  if n.val = 14 then
    setDbOut n { s with
      outq := vmod s.outq n fun q => { q with cons := (q.cons + msg.length) % 64 }
      svc := { s.svc with tx := s.svc.tx ++ [{ type := 0xA0, seq := 0, status := 0, payload := msg.map BitVec.toNat }] } }
  else
    setDbOut n { s with outq := vmod s.outq n fun q => { q with words := q.words ++ msg } }

/-- Places messages while there is room for all of each, and answers those that wait. -/
def placeAll (n : Mb) : List (List Word) → State → List (List Word) × State
  | [], s => ([], s)
  | m :: t, s => if m.length ≤ roomOut s n then placeAll n t (putMsg n m s) else (m :: t, s)

/-- The session of channel n places its completions in the order of consumption: a 1.x session (R105). -/
def ordered (s : State) (n : Mb) : Bool :=
  match s.deolo.ses.get n with
  | some x => decide (x.ver < 0x0200)
  | none => false

/-- Places what the entries of channel n have waiting, in the order of the tag table. -/
def flushTags (n : Mb) (ord : Bool) : List TagEnt → State → List TagEnt × State
  | [], s => ([], s)
  | e :: t, s =>
    if e.chan ≠ n ∨ e.left.isSome then
      let r := flushTags n ord t s
      (e :: r.1, r.2)
    else
      let p := placeAll n e.out s
      if p.1 ≠ [] then ({ e with out := p.1 } :: t, p.2)
      else if e.done then
        let r := flushTags n ord t p.2
        if n.val = 14 then r
        else ({ e with out := [], left := some (p.2.outq.get n).words.length } :: r.1, r.2)
      else if ord then ({ e with out := [] } :: t, p.2)
      else
        let r := flushTags n ord t p.2
        ({ e with out := [] } :: r.1, r.2)

/-- Places the completions and stream segments that wait on channel n (R97). -/
def flushOut (n : Mb) (s : State) : State :=
  let r := flushTags n (ordered s n) s.deolo.tags s
  { r.2 with deolo := { r.2.deolo with tags := r.1 } }

/-! ### Notifications (R112, R113) -/

/-- The version that defines a notification (Table 4.8). -/
def ntfSince (op : Nat) : Nat :=
  if op = 0x81 then 0x0102 else if op = 0x83 then 0x0200 else if op = 0x84 then 0x0202
  else if op = 0x85 then 0x0203 else if op = 0x87 ∨ op = 0x88 then 0x0201 else 0x0100

/-- A notification sent whatever the mask holds. -/
def ntfAlways (op : Nat) : Bool := op == 0x84 || op == 0x85 || op == 0x86

/-- The session of a channel. -/
def session? (s : State) (n : Mb) : Option Session := s.deolo.ses.get n

/-- Puts a session, or none, on a channel. -/
def putSes (n : Mb) (x : Option Session) (s : State) : State := { s with deolo := { s.deolo with ses := vput s.deolo.ses n x } }

/-- Places NTF_LOST when notifications were dropped and there is room for it (R113). -/
def placeLost (n : Mb) (s : State) : State :=
  match session? s n with
  | none => s
  | some x =>
    if x.ver < 0x0202 ∨ x.lost = 0 ∨ roomOut s n < 2 then s
    else
      putMsg n (message Opc.NTF_LOST x.ntf 2 0 [wd (x.lost * 2 ^ 16 + x.lostMap)])
        (putSes n (some { x with ntf := (x.ntf + 1) % 512, lost := 0, lostMap := 0 }) s)

/-- Places the state notification of modes that is held, when there is room for it. -/
def placeHeldMode (n : Mb) (s : State) : State :=
  match session? s n with
  | none => s
  | some x =>
    match x.heldMode with
    | none => s
    | some m => if x.lost ≠ 0 ∨ roomOut s n < m.length then s else putMsg n m (putSes n (some { x with heldMode := none }) s)

/-- Places the state notification of channels that is held, when there is room for it. -/
def placeHeldCh (n : Mb) (s : State) : State :=
  match session? s n with
  | none => s
  | some x =>
    match x.heldCh with
    | none => s
    | some m => if x.lost ≠ 0 ∨ roomOut s n < m.length then s else putMsg n m (putSes n (some { x with heldCh := none }) s)

/-- Places what notifications wait on channel n: NTF_LOST first (R113). -/
def ntfFlush (n : Mb) (s : State) : State := placeHeldCh n (placeHeldMode n (placeLost n s))

/-- A notification that finds no room: a state notification is held from version 2.2 on, any other is dropped (R113). -/
def ntfMiss (n : Mb) (op : Nat) (msg : List Word) (x : Session) (s : State) : State :=
  let s := setCollide (16 + n.val) s
  if 0x0202 ≤ x.ver ∧ op = Opc.NTF_MODE then putSes n (some { x with heldMode := some msg }) s
  else if 0x0202 ≤ x.ver ∧ op = Opc.NTF_CH then putSes n (some { x with heldCh := some msg }) s
  else
    let s := { s with deolo := { s.deolo with ntfDropped := sat32 (s.deolo.ntfDropped + 1) } }
    if 0x0202 ≤ x.ver then
      putSes n (some { x with lost := min (x.lost + 1) 0xFFFF, lostMap := x.lostMap ||| 2 ^ (op - 0x80) }) s
    else putSes n (some x) s

/-- Sends a notification to the session of channel n, when it is open and its version defines the notification. What waits
goes first, NTF_LOST before all (R113). DESIGN CHOICE (unsafe, log 83): a session that still waits for SESSION_AUTH is not
open, and gets no NTF_SESSION_END either. -/
def notifyTo (op : Nat) (body : List Word) (n : Mb) (s : State) : State :=
  if domainDown s n then s
  else
  let s := ntfFlush n s
  match session? s n with
  | none => s
  | some x =>
    if !x.isOpen || decide (x.ver < ntfSince op) || !(ntfAlways op || x.mask.testBit (op - 0x80)) then s
    else
      let msg := message op x.ntf 2 0 body
      let y := { x with ntf := (x.ntf + 1) % 512 }
      if msg.length ≤ roomOut s n ∧ x.lost = 0 then
        putMsg n msg (putSes n (some y) s)
      else ntfMiss n op msg y s

/-- Sends a notification to every open session that subscribes to it (R112). -/
def notifyAll (op : Nat) (body : List Word) (s : State) : State := forEach sesCh (notifyTo op body) s

/-- A diagnostic notification of the shadow on channel 15 (R86, R506). It never waits (R113). -/
def diag15 (code sev : Nat) (s : State) : State :=
  if domainDown s 15 then s
  else
    let msg := message Opc.NTF_EVENT s.deolo.ntf15 2 0 [wd (code * 2 ^ 16 + sev)]
    let s := { s with deolo := { s.deolo with ntf15 := (s.deolo.ntf15 + 1) % 512 } }
    if msg.length ≤ roomOut s 15 then putMsg 15 msg s
    else setCollide 31 { s with deolo := { s.deolo with ntfDropped := sat32 (s.deolo.ntfDropped + 1) } }

/-- NTF_INBOUND_LOST to the session of channel n, and the count of HIF.INBOUND_LOST. -/
def inboundLost (n : Mb) (reason : Nat) (hdr : Word) (s : State) : State :=
  notifyTo Opc.NTF_INBOUND_LOST [wd (reason * 2 ^ 24 + n.val * 2 ^ 16), hdr] n
    { s with deolo := { s.deolo with inboundLost := sat32 (s.deolo.inboundLost + 1) } }

/-! ### Commands in flight -/

/-- The tag-table entry of a number. -/
def entry? (s : State) (id : Nat) : Option TagEnt := s.deolo.tags.find? fun e => e.id == id

/-- Changes the entry of a number. -/
def modTag (id : Nat) (f : TagEnt → TagEnt) (s : State) : State :=
  { s with deolo := { s.deolo with tags := s.deolo.tags.map fun e => if e.id = id then f e else e } }

/-- The final completion of an entry of the tag table is made. -/
def finish (e : TagEnt) (st : Nat) (body : List Word) (s : State) : State :=
  flushOut e.chan (modTag e.id (fun e => { e with done := true, out := e.out ++ [message e.op e.tag 1 st body] }) s)

/-- A command of channel n before the entry numbered `id` has begun and has not completed (R103). -/
def begunBefore (s : State) (n : Mb) (id : Nat) : Bool :=
  s.deolo.tags.any fun e => e.chan == n && e.begun && !e.done && decide (e.id < id)

/-- A SESSION_OPEN or SESSION_CLOSE that waits on channel n ends once the begun commands of the old session have
completed: the new session opens, or none stands (R103, Table 4.6). -/
def settleSession (n : Mb) (s : State) : State :=
  match s.deolo.sesDue.get n with
  | none => s
  | some d =>
    if begunBefore s n d.id then s
    else
      let t := putSes n d.new { s with deolo := { s.deolo with sesDue := vput s.deolo.sesDue n none } }
      let t := match entry? t d.id with
        | some e => finish e St.OK d.body t
        | none => t
      match d.new with
      | some x => if 0x0201 ≤ x.ver then notifyTo Opc.NTF_METER (meterBody t) n t else t
      | none => t

/-- The final completion of a command in flight (R98). A command completes once. -/
def complete (id st : Nat) (body : List Word) (s : State) : State :=
  match entry? s id with
  | none => s
  | some e => if e.done || domainDown s e.chan then s else settleSession e.chan (finish e st body s)

/-- An interim completion (R98). -/
def interim (id st : Nat) (body : List Word) (s : State) : State :=
  match entry? s id with
  | none => s
  | some e =>
    if e.done || domainDown s e.chan then s
    else flushOut e.chan (modTag id (fun e => { e with out := e.out ++ [message e.op e.tag 1 st body] }) s)

/-- Stream segments of up to 31 words, numbered from `k` (R116). -/
def segments (op tag : Nat) : Nat → List (List Word) → List (List Word)
  | _, [] => []
  | k, b :: t => message op tag 3 (k % 256) b :: segments op tag (k + 1) t

/-- Streams segments and completes with the body given (R116). The commands that stream never begin an effect, so that no
session waits for them. -/
def streamOut (id : Nat) (segs : List (List Word)) (st : Nat) (body : List Word) (s : State) : State :=
  match entry? s id with
  | none => s
  | some e =>
    if e.done || domainDown s e.chan then s
    else flushOut e.chan (modTag id (fun e => { e with
      done := true, out := e.out ++ segments e.op e.tag 0 segs ++ [message e.op e.tag 1 st body] }) s)

/-- The effect of a command has begun (R103, Table 4.6 CANCEL). -/
def begin_ (id : Nat) (s : State) : State := modTag id (fun e => { e with begun := true }) s

/-- `k` words of outbound queue n are consumed: the commands whose final completion they carry leave the tag table. -/
def consumeTags (n : Mb) (k : Nat) : List TagEnt → List TagEnt
  | [] => []
  | e :: t =>
    if e.chan ≠ n then e :: consumeTags n k t
    else
      match e.left with
      | none => e :: consumeTags n k t
      | some m => if m ≤ k then consumeTags n k t else { e with left := some (m - k) } :: consumeTags n k t

/-- The host consumes the first `k` words of outbound queue n (R71, R87). -/
def consumeOut (n : Mb) (k : Nat) (s : State) : State :=
  { s with
    outq := vmod s.outq n fun q => { words := q.words.drop k, cons := (q.cons + k) % 64, burst := some (q.words.take k) }
    deolo := { s.deolo with tags := consumeTags n k s.deolo.tags } }

/-! ### The channel bitmaps (Table 3.6) -/

/-- H_CH_ON. -/
def chOn (s : State) : Nat := chMap (conducts s)

/-- H_CH_FAULT: the channels with a latched trip. -/
def chFault (s : State) : Nat := chMap fun c => (s.chan c).st == .latched

/-- H_CH_ISO: the channels in state ISOLATED (R154). -/
def chIso (s : State) : Nat := chMap fun c => (s.chan c).st == .isolated

/-- What a change of channel states since `old` reports: H_IRQ_STATUS[4] when a bit of H_CH_FAULT went to 1, and NTF_CH
when H_CH_ON or H_CH_FAULT changed (R154, Tables 3.5 and 4.8). -/
def reportCh (old s : State) : State :=
  let s := if allCh.any fun c => (s.chan c).st == .latched && !((old.chan c).st == .latched) then setIrq Irq.FAULT s else s
  if chOn old = chOn s ∧ chFault old = chFault s then s
  else notifyAll Opc.NTF_CH [wd (chOn s), wd (chFault s)] s

end Sys2Proof.Machine
end

