-- ==== Sys2Proof/Machine/Recorder.lean ====
section
/-! DEFINITION. Event records: rate limits, summaries, the RAM buffer and what is displaced in it (R492 to R499, R506). -/

namespace Sys2Proof.Machine

/-! ### Codes and objects (Tables 19.2, 19.5) -/

abbrev Evt.LOG_START : Nat := 0x0001
abbrev Evt.SUMMARY : Nat := 0x0002
abbrev Evt.LOG_CLEARED : Nat := 0x0003
abbrev Evt.MODE_CHANGE : Nat := 0x0101
abbrev Evt.SELFTEST_FAIL : Nat := 0x0102
abbrev Evt.PUP_REPEAT_FAIL : Nat := 0x0103
abbrev Evt.FLUSH_RESUMED : Nat := 0x0104
abbrev Evt.SHADOW_MIRROR_OK : Nat := 0x0110
abbrev Evt.SHADOW_MIRROR_LAG : Nat := 0x0111
abbrev Evt.SHADOW_RESYNC : Nat := 0x0112
abbrev Evt.AUTH_LOCKOUT : Nat := 0x0120
abbrev Evt.XIN_LOST : Nat := 0x0201
abbrev Evt.XIN_RETURNED : Nat := 0x0202
abbrev Evt.SRAM_DOUBLE : Nat := 0x0203
abbrev Evt.PARITY : Nat := 0x0204
abbrev Evt.SAFE_KEEP : Nat := 0x0301
abbrev Evt.SAFE_OK_SILENT : Nat := 0x0302
abbrev Evt.NO_SHEET : Nat := 0x0303
abbrev Evt.MAINS : Nat := 0x0401
abbrev Evt.NTC : Nat := 0x0501
abbrev Evt.REF_FAIL : Nat := 0x0502
abbrev Evt.METER_STATE : Nat := 0x0701
abbrev Evt.METER_BACKWARDS : Nat := 0x0702
abbrev Evt.METER_XCHK : Nat := 0x0703
abbrev Evt.KT_ALARM : Nat := 0x0801
abbrev Evt.FL_STUCK : Nat := 0x0802
abbrev Evt.FL_OVSPD : Nat := 0x0803
abbrev Evt.ADM_FAIL : Nat := 0x0901
abbrev Evt.ADM_SHORT : Nat := 0x0902
abbrev Evt.STRING_END : Nat := 0x0A01
abbrev Evt.STRING_LOW : Nat := 0x0A02
abbrev Evt.CAPACITY_LOST : Nat := 0x0A03
abbrev Evt.TEST_END : Nat := 0x0A04
abbrev Evt.LIMITS_LIFTED : Nat := 0x0A05
abbrev Evt.MODULE_FLAG : Nat := 0x0A06
abbrev Evt.SHB_DUP_NODE : Nat := 0x0B01
abbrev Evt.SHB_CONFLICT : Nat := 0x0B02
abbrev Evt.SHB_PEERS : Nat := 0x0B03
abbrev Evt.SHB_PEER_LOW : Nat := 0x0B04
abbrev Evt.SHB_BUSOFF : Nat := 0x0B05
abbrev Evt.FLD_MAINS_RELAY : Nat := 0x0B06
abbrev Evt.FLD_RESCUE_REFUSED : Nat := 0x0B07
abbrev Evt.NVS_WRITE_FAIL : Nat := 0x0C01
abbrev Evt.NVS_HOLD_SHORT : Nat := 0x0C02
abbrev Evt.NVS_LOST_UPDATE : Nat := 0x0C03
abbrev Evt.NVS_FLUSH_INCOMPLETE : Nat := 0x0C04
abbrev Evt.NVS_SCRUB : Nat := 0x0C05
abbrev Evt.NVS_MIGRATE : Nat := 0x0C06
abbrev Evt.BUS_SAG : Nat := 0x0F01
abbrev Evt.BUS_COND : Nat := 0x0F02
abbrev Evt.RECT_LEFT_SET : Nat := 0x0F03
abbrev Evt.BUS_OV_OFF : Nat := 0x0F04
abbrev Evt.TRIP : Nat := 0x1001
abbrev Evt.LATCH : Nat := 0x1002
abbrev Evt.TRIP_RECORDED : Nat := 0x1003
abbrev Evt.PRESENCE_OPEN : Nat := 0x1004
abbrev Evt.INRUSH_DONE : Nat := 0x1005
abbrev Evt.RETRY_REFUSED : Nat := 0x1006
abbrev Evt.UV_OVSPD : Nat := 0x1007
abbrev Evt.EXT_STUCK : Nat := 0x1008
abbrev Evt.TREF_FALLBACK : Nat := 0x1009
abbrev Evt.LIFE : Nat := 0x100A
abbrev Evt.SHEET_DIFF : Nat := 0x100B

/-- The object of a string. -/
def objStr (k : Str) : Nat := 0x20 + k.val

/-- The object of a group. -/
def objGrp (g : Grp) : Nat := 0x30 + g.val

/-- The object of a field line. -/
def objLine (l : Line) : Nat := 0x40 + l.val

/-- The object of nothing in particular. -/
abbrev objNone : Nat := 0xFF

/-! ### Sequence numbers (R493) -/

/-- SEQ `a` is newer than SEQ `b`. -/
def newer (a b : Nat) : Bool :=
  let d := (a + 2 ^ 24 - b % 2 ^ 24) % 2 ^ 24
  decide (1 ≤ d ∧ d ≤ 2 ^ 23 - 1)

/-- The last SEQ assigned. -/
def lastSeq (s : State) : Nat := (s.log.nextSeq + 2 ^ 24 - 1) % 2 ^ 24

/-! ### The buffer (R495, R496) -/

/-- The bytes of a frame: tag, head, TIME and data. -/
def Frame.bytes (f : Frame) : Nat := 12 + 4 * f.data.length

/-- LOG.BUF_USED. -/
def bufUsed (s : State) : Nat := s.log.buf.foldl (fun n f => n + f.bytes) 0

/-- A buffered frame that a record of severity `sev` may displace. -/
def displaceable (sev : Nat) (f : Frame) : Bool := decide (f.sev < sev) && f.code != Evt.LOG_CLEARED

/-- The lowest severity among the frames that may be displaced, `sev` itself when there is none. -/
def lowestSev (sev : Nat) (l : List Frame) : Nat := l.foldl (fun m f => if displaceable sev f then min m f.sev else m) sev

/-- The list, newest first, without its first frame that satisfies `p`, and that frame. -/
def takeFirst (p : Frame → Bool) : List Frame → Option Frame × List Frame
  | [] => (none, [])
  | f :: t => if p f then (some f, t) else ((takeFirst p t).1, f :: (takeFirst p t).2)

/-! ### Summaries (R499) -/

/-- The bin of a magnitude: 0 for 0 to 15, then one bin for each power of 16. -/
def histBin (m : Nat) : Nat := if m = 0 then 0 else min 7 (Nat.log2 m / 4)

/-- Adds 1 to one count of a list. -/
def bump : List Nat → Nat → List Nat
  | [], _ => []
  | n :: t, 0 => (n + 1) :: t
  | n :: t, k + 1 => n :: bump t k

/-- Data word 0 as S32, 0 when the record has none. -/
def word0 (data : List Nat) : Int := signedOf 32 (data.headD 0)

/-- An accumulator with one more record collected. -/
def Summ.add (x : Summ) (sev time : Nat) (data : List Nat) : Summ :=
  let v := word0 data
  { x with
    sev := max x.sev sev, count := sat32 (x.count + 1), last := time, lo := min x.lo v, hi := max x.hi v
    hist := bump x.hist (histBin v.natAbs) }

/-- A fresh accumulator with its first record. -/
def Summ.first_ (code obj sev reason time : Nat) (data : List Nat) : Summ :=
  let v := word0 data
  { code := code, obj := obj, sev := sev, reason := reason, count := 1, first := time, last := time, lo := v, hi := v,
    hist := bump [0, 0, 0, 0, 0, 0, 0, 0] (histBin v.natAbs) }

/-- Collects a suppressed or dropped record: into the accumulator of its pair and reason, a free one, or the catch-all. -/
def collect (code obj sev reason : Nat) (data : List Nat) (s : State) : State :=
  let t := optime s
  if s.log.summs.any fun x => x.code == code && x.obj == obj && x.reason == reason then
    let l := s.log.summs.map fun x => if x.code = code ∧ x.obj = obj ∧ x.reason = reason then x.add sev t data else x
    { s with log := { s.log with summs := l } }
  else if s.log.summs.length < 64 then
    { s with log := { s.log with summs := s.log.summs ++ [Summ.first_ code obj sev reason t data] } }
  else
    let x := match s.log.catchAll with
      | some x => x.add sev t data
      | none => Summ.first_ 0xFFFF 0xFF sev 3 t data
    { s with log := { s.log with catchAll := some x } }

/-- A bin count as its byte of the SUMMARY record; what a count above 255 shows is left open. -/
def histByte (n : Nat) : Nat := if n ≤ 255 then n else Config.wideBin n % 256

/-- The data words of SUMMARY (Table 19.5). -/
def Summ.words (x : Summ) : List Nat :=
  let h := fun k => histByte (x.hist.getD k 0)
  [x.code * 2 ^ 16 + x.reason * 2 ^ 8, x.count, x.first % 2 ^ 32, x.last % 2 ^ 32, asBits 32 x.lo, asBits 32 x.hi,
    h 0 * 2 ^ 24 + h 1 * 2 ^ 16 + h 2 * 2 ^ 8 + h 3, h 4 * 2 ^ 24 + h 5 * 2 ^ 16 + h 6 * 2 ^ 8 + h 7]

/-! ### Entering (R493 to R496, R506) -/

/-- A record dropped: LOG.DROPPED, LOG.STATE.FULL, and its drop summary. -/
def dropRecord (code obj sev : Nat) (data : List Nat) (s : State) : State :=
  collect code obj sev 2 data
    { s with log := { s.log with dropped := sat32 (s.log.dropped + 1), full := true } }

/-- Displaces one frame: the newest of the lowest severity below `sev`. -/
def displaceOne (sev : Nat) (s : State) : State :=
  let low := lowestSev sev s.log.buf
  let r := takeFirst (fun f => displaceable sev f && f.sev == low) s.log.buf.reverse
  match r.1 with
  | none => s
  | some f => dropRecord f.code f.obj f.sev f.data { s with log := { s.log with buf := r.2.reverse } }

/-- Displaces frames one at a time until `need` bytes are free; `fuel` bounds their number. -/
def makeRoom (sev need : Nat) : Nat → State → State
  | 0, s => s
  | fuel + 1, s => if bufUsed s + need ≤ 65536 then s else makeRoom sev need fuel (displaceOne sev s)

/-- The record stands in the buffer with the next SEQ; H_IRQ_STATUS[5] and NTF_EVENT follow (R495, R506). -/
def appendFrame (code sev obj : Nat) (data : List Nat) (s : State) : State :=
  let f : Frame := { seq := s.log.nextSeq, code := code, sev := sev, obj := obj, time := optime s, data := data }
  let s := { s with log := { s.log with buf := s.log.buf ++ [f], nextSeq := (s.log.nextSeq + 1) % 2 ^ 24 } }
  let s := if 2 ≤ sev then setIrq Irq.EVENT s else s
  if pn s Prm.LOG_NTF_SEV ≤ sev then notifyAll Opc.NTF_EVENT [wd (code * 2 ^ 16 + sev)] s else s

/-- A record enters the buffer, displaces what it may, or is dropped (R496). -/
def enterRecord (code sev obj : Nat) (data : List Nat) (s : State) : State :=
  let need := 12 + 4 * data.length
  if bufUsed s + need ≤ 65536 then appendFrame code sev obj data s
  else
    let gain := (s.log.buf.filter (displaceable sev)).foldl (fun n f => n + f.bytes) 0
    if bufUsed s + need ≤ 65536 + gain then
      appendFrame code sev obj data (makeRoom sev need s.log.buf.length s)
    else dropRecord code obj sev data s

/-! ### Rate limits (R498) -/

/-- The rate limit of a severity. -/
def sevLimit (sev : Nat) : Nat := if sev = 0 then 4 else if sev = 1 then 8 else 16

/-- The limit of a code: LOG.RATE_OVR0 to LOG.RATE_OVR3 replace that of its severity. -/
def rateLimit (s : State) (code sev : Nat) : Nat :=
  match (List.range 4).find? fun k => decide (code ≠ 0) && fieldOf (pn s (Prm.LOG_RATE_OVR0 + k)) 16 16 == code with
  | some k => pn s (Prm.LOG_RATE_OVR0 + k) % 2 ^ 16
  | none => sevLimit sev

/-- The records of a pair counted in the window in force. -/
def pairCount (s : State) (code obj : Nat) : Nat :=
  match s.log.counts.find? fun x => x.1 == code && x.2.1 == obj with
  | some x => x.2.2
  | none => 0

/-- Counts a record of a pair. -/
def countPair (code obj : Nat) (s : State) : State :=
  let l := s.log.counts.filter fun x => !(x.1 == code && x.2.1 == obj)
  { s with log := { s.log with counts := (code, obj, pairCount s code obj + 1) :: l } }

/-- A summary enters the buffer with the severity of its code; one of severity trace only while LOG.TRACE_EN is 1 (R499,
R501). -/
def enterSummary (x : Summ) (s : State) : State :=
  if x.sev = 0 ∧ !pb s Prm.LOG_TRACE_EN then s else enterRecord Evt.SUMMARY x.sev x.obj x.words s

/-- The summaries that a list of accumulators and the catch-all give, the catch-all last. -/
def withCatchAll (l : List Summ) (s : State) : List Summ :=
  match s.log.catchAll with
  | some x => l ++ [x]
  | none => l

/-- A window of 10 s ends: the rate-limit summaries and the catch-all enter, and counting starts afresh (R499). -/
def endWindow (s : State) : State :=
  let out := withCatchAll (s.log.summs.filter fun x => x.reason == 1) s
  let s := { s with log := { s.log with
    summs := s.log.summs.filter (fun x => x.reason != 1), catchAll := none, counts := [], window := optime s / 10240 } }
  forEach out enterSummary s

/-- The window in force is the one OPTIME stands in; an old one ends first (Table 19.4). -/
def syncWindow (s : State) : State := if s.log.window = optime s / 10240 then s else endWindow s

/-- A happening offers its record to the recorder. Before the log has been read at this start the record is lost, and so is one of a happening while no Puppeteer runs (R494). -/
def logEvent (code sev obj : Nat) (data : List Nat) (s : State) : State :=
  if !s.log.ready || !anyPup s then s
  else if sev = 0 ∧ code ≠ Evt.LOG_CLEARED ∧ !pb s Prm.LOG_TRACE_EN then s
  else
    let s := syncWindow s
    if sev = 3 ∨ code = Evt.LOG_CLEARED then enterRecord code sev obj data s
    else if rateLimit s code sev ≤ pairCount s code obj then
      collect code obj sev 1 data { s with log := { s.log with suppressed := sat32 (s.log.suppressed + 1) } }
    else enterRecord code sev obj data (countPair code obj s)

/-! ### What reads count (R505) -/

/-- The frames of the log and the buffer. -/
def allFrames (s : State) : List Frame :=
  ((List.finRange 4).flatMap fun p => (s.log.pools.get p).flatMap Page.frames) ++ s.log.buf

/-- H_EVT_PEND. -/
def evtPend (s : State) : Nat :=
  min 65535 ((allFrames s).filter fun f => newer f.seq s.log.watermark).length

end Sys2Proof.Machine
end

