-- ==== Sys2Proof/Machine/Store.lean ====
section
/-! DEFINITION. The nonvolatile state store: records in two slots, the controller's queue, the hold-up check and the
bodies of the records (chapter 18). -/

namespace Sys2Proof.Machine

/-! ### Record types (Table 18.3) -/

abbrev RT.POWER : Nat := 0x0001
abbrev RT.FLUSH : Nat := 0x0002
abbrev RT.CONFIG : Nat := 0x0010
abbrev RT.ISOLATION : Nat := 0x0011
abbrev RT.THERMAL : Nat := 0x0020
abbrev RT.WEAR : Nat := 0x0021
abbrev RT.LATCH : Nat := 0x0022
abbrev RT.CAPACITY : Nat := 0x0030
abbrev RT.STRING_STATE : Nat := 0x0031
abbrev RT.BAT_HISTORY : Nat := 0x0032
abbrev RT.CAL : Nat := 0x0040
abbrev RT.MICROCODE : Nat := 0x0050

/-- The bytes of a body (Table 18.3). -/
def bodyBytes (rtype inst : Nat) : Nat :=
  if rtype = RT.POWER then 64 else if rtype = RT.FLUSH then 16
  else if rtype = RT.CONFIG then min (Config.configBytes inst) 4096
  else if rtype = RT.ISOLATION then 16 else if rtype = RT.THERMAL then 384 else if rtype = RT.WEAR then 256
  else if rtype = RT.LATCH then 16 else if rtype = RT.CAPACITY ∨ rtype = RT.STRING_STATE then 32
  else if rtype = RT.BAT_HISTORY then 512 else if rtype = RT.CAL then 8 else 16384

/-- The record is journalled: ISOLATION, LATCH, CAPACITY (Table 18.3). -/
def journalled (rtype : Nat) : Bool := rtype == RT.ISOLATION || rtype == RT.LATCH || rtype == RT.CAPACITY

/-- t_w of a record write with a body of `len` bytes, in 1/50 µs (R476). -/
def tw50 (len : Nat) : Nat := 250 + (24 + len)

/-- The CONFIG block of a parameter ID (Table 18.3). -/
def blockOf (id : Nat) : Nat :=
  if id < 0x1000 then id / 0x100
  else if id < 0x1600 then 0x10 + (id - 0x1000) / 0x40
  else 0x28 + (id - 0x1600) / 0x40

/-- Every CONFIG block (Table 18.3). -/
def allBlocks : List Nat := List.range 0x2C

/-! ### Slots (R475) -/

/-- Slot SEQ `a` is newer than `b`. -/
def seqNewer (a b : Nat) : Bool :=
  let d := (a + 2 ^ 32 - b % 2 ^ 32) % 2 ^ 32
  decide (1 ≤ d ∧ d ≤ 2 ^ 31 - 1)

/-- The slot in force: the newer valid one, the lower one when both carry one SEQ. -/
def Record.inForce (r : Record) : Option Slot :=
  match r.lo, r.hi with
  | none, h => h
  | some l, none => some l
  | some l, some h => if seqNewer h.seq l.seq then some h else some l

/-- The upper slot is in force. -/
def Record.hiForce (r : Record) : Bool :=
  match r.lo, r.hi with
  | none, some _ => true
  | some l, some h => seqNewer h.seq l.seq
  | _, none => false

/-- The record of a type and instance. -/
def findRec (s : State) (rtype inst : Nat) : Option Record :=
  s.nvs.recs.find? fun r => r.rtype == rtype && r.inst == inst

/-- The slot in force of a record. -/
def inForce (s : State) (rtype inst : Nat) : Option Slot := (findRec s rtype inst).bind Record.inForce

/-- The SEQ that the next write of a record will carry: one above the SEQ in force, or 1 (R476). -/
def nextSlotSeq (s : State) (rtype inst : Nat) : Nat :=
  match inForce s rtype inst with
  | some x => (x.seq + 1) % 2 ^ 32
  | none => 1

/-- The record with a slot written over the one not in force, or over an invalid one (R476 step 1). -/
def Record.write (r : Record) (x : Slot) : Record :=
  if r.lo = none then { r with lo := some x }
  else if r.hi = none then { r with hi := some x }
  else if r.hiForce then { r with lo := some x } else { r with hi := some x }

/-- The record list with a record's write; a record never written before is added. -/
def putRec (rtype inst : Nat) (x : Slot) : List Record → List Record
  | [] => [{ rtype := rtype, inst := inst, lo := some x, hi := none }]
  | r :: t => if r.rtype = rtype ∧ r.inst = inst then r.write x :: t else r :: putRec rtype inst x t

/-- The record after a write that has failed, or was cut before step 6: its target slot is invalid (R476, Table 18.4). -/
def Record.spoil (r : Record) : Record :=
  if r.lo = none ∨ r.hi = none then r else if r.hiForce then { r with lo := none } else { r with hi := none }

/-- The target slot of a record's write is left invalid. -/
def spoilRec (rtype inst : Nat) (s : State) : State :=
  { s with nvs := { s.nvs with recs := s.nvs.recs.map fun r => if r.rtype = rtype ∧ r.inst = inst then r.spoil else r } }

/-- The record comes into force with a new body (R476 step 6). -/
def commitRec (rtype inst : Nat) (b : Body) (s : State) : State :=
  let x : Slot := { seq := nextSlotSeq s rtype inst, fmt := imgFormat (runBank s) rtype, body := b }
  { s with nvs := { s.nvs with
      recs := putRec rtype inst x s.nvs.recs
      dirty := if rtype = RT.CONFIG then s.nvs.dirty.filter (· != inst) else s.nvs.dirty } }

/-! ### Hold-up (R480, R481) -/

/-- The hold-up check of a write of `t` fiftieths of a µs passes (R481). -/
def holdOk (s : State) (t : Nat) : Bool :=
  !s.pwr.warn || decide (50 * s.nvs.flushUs + t ≤ 50 * s.nvs.holdT)

/-- The string is bound: some channel of role BATTERY names it (R418). -/
def boundCh (s : State) (k : Str) : Option Ch :=
  allCh.find? fun c => chn s c Chp.ROLE == 2 && chn s c Chp.BAT_STRING == k.val

/-- The strings that are bound. -/
def boundStr (s : State) : List Str := allStr.filter fun k => (boundCh s k).isSome

/-- The channels whose role is not DISABLED. -/
def roleCh (s : State) : List Ch := allCh.filter fun c => chn s c Chp.ROLE != 0

/-- The items of the flush set other than the event log and FLUSH, in the order of R482. -/
def flushItems (s : State) : List (Nat × Nat) :=
  [(RT.POWER, 0)] ++ (sortNat s.nvs.dirty).map (fun b => (RT.CONFIG, b))
    ++ (boundStr s).map (fun k => (RT.STRING_STATE, k.val)) ++ [(RT.THERMAL, 0)]
    ++ (roleCh s).map (fun c => (RT.WEAR, c.val))

/-- NVS.FLUSH_US: t_w + 1 µs over the flush set with the log buffer full, plus 50 µs, in whole µs rounded up (R480). -/
def flushTime (s : State) : Nat :=
  let items := flushItems s
  let sum := items.foldl (fun n i => n + tw50 (bodyBytes i.1 i.2) + 50) 0
  let log := 250 + 65536 + 50
  (sum + log + tw50 16 + 50 + 2500 + 49) / 50

/-- t_h for a HOLD level in mV, in whole µs rounded down (R480). -/
def holdTime (s : State) (mv : Nat) : Nat :=
  if s.adm.selfBase = 0 then 0
  else pn s Prm.NVS_HOLD_UF * (mv ^ 2 - 12000 ^ 2) / (2000 * s.adm.selfBase)

/-! ### Bodies -/

/-- The confidence of a string at present: it falls by BAT.CONF_DECAY per hour since the latest reference, not below 0
(R429). OPTIME counts 1024 in a second. -/
def confNow (s : State) (k : Str) : Rat :=
  let x := s.bat.s[k]
  max 0 (x.conf - (pn s Prm.BAT_CONF_DECAY : Rat) * ((optime s - x.refAt : Nat) : Rat) / (3600 * 1024))

/-- The body of a record as the state stands. -/
def capture (s : State) (rtype inst : Nat) : Body :=
  if rtype = RT.POWER then
    .power s.nvs.powerCycles s.tmr.kt.toList s.tmr.span s.nvs.scrubPos s.sys.resetCause
  else if rtype = RT.FLUSH then .flush (optime s) 0
  else if rtype = RT.CONFIG then
    .config ((s.pw.filter fun p => blockOf p.1 == inst) ++ (if inst = 1 ∧ s.deolo.keySet then [(Prm.HIF_HOST_KEY_SET, 1)] else []))
  else if rtype = RT.ISOLATION then .isolation s.sys.isoCh s.sys.isoGrp
  else if rtype = RT.THERMAL then .thermal (s.ch.toList.map fun c => c.theta.toList) (optime s)
  else if rtype = RT.WEAR then
    let c := s.ch.getD inst Chan.reset
    .wear c.bins.toList c.damage c.closures c.tripCount (if c.wearReset then 0 else c.lifeTold) c.days (optime s / (1024 * 86400))
  else if rtype = RT.LATCH then .latch (allCh.filter fun c => (s.chan c).st == .latched)
  else if rtype = RT.CAPACITY then
    let k := s.bat.s.getD inst Strg.reset
    .capacity k.cLearn k.learnCount
  else if rtype = RT.STRING_STATE then
    let k := s.bat.s.getD inst Strg.reset
    .stringState k.qInt k.qRep (confNow s ⟨inst % 4, by omega⟩) k.z
  else if rtype = RT.BAT_HISTORY then .history (optime s)
  else if rtype = RT.CAL then
    match s.cnv.cal.storing with
    | some (_, some (o, g)) => .cal o g
    | _ => .cal 0 0
  else .microcode (sectionBytes (runBank s) inst)

/-! ### The queue (R477, R481) -/

/-- Two queued writes are of the same record, or of the same journal entry. -/
def Pending.same (p q : Pending) : Bool :=
  p.rtype == q.rtype && p.inst == q.inst && p.intent == q.intent && p.clears == q.clears

/-- The write goes to the journal: an intent, or a clear entry (R484). -/
def Pending.toJournal (p : Pending) : Bool := p.intent || p.clears.isSome

/-- The queue with a write; one of the same record that has not begun is replaced where it stands (R477). -/
def enqueue (p : Pending) (l : List Pending) : List Pending :=
  if l.any p.same then l.map fun q => if p.same q then p else q else l ++ [p]

/-- t_w of a write in 1/50 µs; the bodies of journal entries have 64 bytes, which an intent and the record after it pass
together (R476, R484). -/
def pendingTw (p : Pending) : Nat :=
  if p.clears.isSome || journalled p.rtype then tw50 64 else tw50 (bodyBytes p.rtype p.inst)

/-- A write is offered to the store: queued, with its intent first when the record is journalled, or held in RAM when the
hold-up check fails (R481, R484). -/
def offer (p : Pending) (s : State) : State :=
  let held := s.nvs.held.filter fun q => !p.same q
  if holdOk s (pendingTw p) then
    let q := if journalled p.rtype && !p.toJournal then enqueue { p with intent := true } s.nvs.queue else s.nvs.queue
    { s with nvs := { s.nvs with queue := enqueue p q, held := held } }
  else
    { s with nvs := { s.nvs with held := held ++ [p], heldCount := sat32 (s.nvs.heldCount + 1) } }

/-- A write of a record is offered. -/
def offerWrite (rtype inst : Nat) (b : Body) (s : State) : State :=
  offer { rtype := rtype, inst := inst, body := b, intent := false, clears := none } s

/-- A write of a record as the state stands. -/
def queueWrite (rtype inst : Nat) (s : State) : State := offerWrite rtype inst (capture s rtype inst) s

/-- The writes held in RAM are offered again (R481). -/
def offerHeld (s : State) : State :=
  forEach s.nvs.held offer { s with nvs := { s.nvs with held := [] } }

/-- The write the controller takes next: a journal write first, then the oldest (R477). -/
def nextWrite (s : State) : Option Pending :=
  match s.nvs.queue.find? Pending.toJournal with
  | some p => some p
  | none => s.nvs.queue.head?

/-- The queue without the write that begins. -/
def dropWrite (p : Pending) (s : State) : State :=
  { s with nvs := { s.nvs with queue := s.nvs.queue.filter fun q => !p.same q } }

/-- The SEQ of the next journal entry. -/
def nextJournalSeq (s : State) : Nat :=
  match s.nvs.journal.getLast? with
  | some e => (e.seq + 1) % 2 ^ 32
  | none => 1

/-- An entry stands in the journal, a ring of 512 (R484). -/
def writeEntry (what : Intent ⊕ Nat) (s : State) : State :=
  let l := s.nvs.journal ++ [{ seq := nextJournalSeq s, what := what }]
  { s with nvs := { s.nvs with journal := l.drop (l.length - 512) } }

/-- The intent of a write stands in the journal. -/
def writeIntent (p : Pending) (s : State) : State :=
  writeEntry (.inl { rtype := p.rtype, inst := p.inst, seq := nextSlotSeq s p.rtype p.inst, body := p.body }) s

/-- The intents of the journal that no later entry clears, each with the SEQ of its entry (R484). -/
def openIntents (s : State) : List (Nat × Intent) :=
  s.nvs.journal.filterMap fun e =>
    match e.what with
    | .inl i => if s.nvs.journal.any (fun d => d.what == .inr e.seq) then none else some (e.seq, i)
    | .inr _ => none

/-- The clear entries of a record's intents are offered (R484). -/
def offerClears (p : Pending) (s : State) : State :=
  forEach ((openIntents s).filter fun i => i.2.rtype == p.rtype && i.2.inst == p.inst)
    (fun i s => offer { p with clears := some i.1 } s) s

/-- RTYPE and INST in one word, as the event records give them. -/
def recWord (rtype inst : Nat) : Nat := rtype * 2 ^ 16 + inst

/-- A write runs its steps; `mismatches` read-backs differ, and a second one fails it and leaves its target slot invalid (R476).
A journalled record that is written is cleared from the journal (R484). -/
def runWrite (p : Pending) (mismatches : Nat) (s : State) : State :=
  let s := dropWrite p s
  match p.clears with
  | some n => writeEntry (.inr n) s
  | none =>
    if p.intent then writeIntent p s
    else if 2 ≤ mismatches then
      let s := spoilRec p.rtype p.inst { s with nvs := { s.nvs with writeFail := true } }
      logEvent Evt.NVS_WRITE_FAIL 2 objNone [recWord p.rtype p.inst] s
    else
      let s := commitRec p.rtype p.inst p.body s
      if journalled p.rtype then offerClears p s else s

/-- The rails collapse while a write may be in progress: it has not begun, was cut in steps 2 to 5, or its last word was still
written; which of these is a free value (R473, Table 18.4). -/
def cutWrite (s : State) : State :=
  match nextWrite s with
  | none => s
  | some p =>
    let r := drawWord s
    match r.1.toNat % 3 with
    | 0 => r.2
    | 1 => if p.toJournal then r.2 else spoilRec p.rtype p.inst r.2
    | _ => runWrite p 0 r.2

/-- Every queued write runs to its end. -/
def drainQueue : Nat → State → State
  | 0, s => s
  | n + 1, s =>
    match nextWrite s with
    | none => s
    | some p => drainQueue n (runWrite p 0 s)

/-- Marks the CONFIG block of an ID dirty (R479). -/
def markDirty (id : Nat) (s : State) : State :=
  let b := blockOf id
  if s.nvs.dirty.contains b then s else { s with nvs := { s.nvs with dirty := s.nvs.dirty ++ [b] } }

end Sys2Proof.Machine
end

