-- ==== Sys2Proof/Machine/Channels.lean ====
section
/-! DEFINITION. What a power-path channel is at any moment: its role and class, its thresholds, its comparators, its
gates, its junction model and its wear (chapters 5 and 6). -/

namespace Sys2Proof.Machine

/-! ### Role and class (R136, R146) -/

/-- The role in force. -/
def roleOf (s : State) (c : Ch) : Role := Role.ofCode (chp s c Chp.ROLE)

/-- CHn.CLASS_EFF: SAFETY for SOURCE and BATTERY, CHn.CLASS otherwise (R146). -/
def classEff (s : State) (c : Ch) : Nat :=
  match roleOf s c with
  | .source => 0
  | .battery => 0
  | .load => chn s c Chp.CLASS
  | .tie => chn s c Chp.CLASS
  | .disabled => chn s c Chp.CLASS

/-- The channel carries load: LOAD or TIE. -/
def isLoad (s : State) (c : Ch) : Bool := roleOf s c == .load || roleOf s c == .tie

/-- The state that the role takes once conduction is established (Tables 5.4, 5.7). -/
def closedState (s : State) (c : Ch) : ChSt :=
  match roleOf s c with
  | .source => if chn s c Chp.SRC_MODE = 1 then .diode else .on
  | .battery => if s.sys.blackStart then .on else .armed
  | .load => .on
  | .tie => .on
  | .disabled => .on

/-! ### Thresholds (R132 to R135) -/

/-- The threshold in steps: the floor of R132, held to the window of R133 as R134 says. The window is 32 to 3968 steps at
either gain. -/
def thrSteps (gain4 : Bool) (shunt ma : Nat) : Nat :=
  let n := if gain4 then ma * shunt * 32 / 125000 else ma * shunt * 8 / 125000
  max 32 (min 3968 n)

/-- The effective threshold of a number of steps, in whole mA rounded down (R132). -/
def thrMa (gain4 : Bool) (shunt steps : Nat) : Nat :=
  if gain4 then steps * 125000 / (32 * shunt) else steps * 125000 / (8 * shunt)

/-- The value gives a shunt voltage inside the window of R133. -/
def thrInWindow (gain4 : Bool) (shunt ma : Nat) : Bool :=
  if gain4 then decide (125 * 1000 ≤ ma * shunt ∧ ma * shunt ≤ 15500 * 1000)
  else decide (500 * 1000 ≤ ma * shunt ∧ ma * shunt ≤ 62000 * 1000)

/-- CHn.OC_EFF_MA. -/
def ocEff (s : State) (c : Ch) : Nat :=
  let g := chn s c Chp.GAIN == 1
  let r := chn s c Chp.SHUNT_UOHM
  thrMa g r (thrSteps g r (chn s c Chp.OC_MA))

/-- CHn.RC_EFF_MA, 0 when the comparator is off (Table 5.10). -/
def rcEff (s : State) (c : Ch) : Nat :=
  if chn s c Chp.RC_MA = 0 then 0
  else
    let g := chn s c Chp.GAIN == 1
    let r := chn s c Chp.SHUNT_UOHM
    thrMa g r (thrSteps g r (chn s c Chp.RC_MA))

/-- The shunt amplifier's full scale in mA (R130). -/
def fullScale (s : State) (c : Ch) : Nat :=
  if chn s c Chp.GAIN = 1 then 16000000 / chn s c Chp.SHUNT_UOHM else 64000000 / chn s c Chp.SHUNT_UOHM

/-! ### Comparators (Table 5.3, R135) -/

/-- The OC comparator of a latched role, for a current in 1/16 mA. -/
def ocFires (role : Role) (thr : Nat) (i16 : Int) : Bool :=
  let t : Int := 16 * thr
  match role with
  | .source => decide (t ≤ i16)
  | .battery => decide (t ≤ i16.natAbs)
  | .load => decide (i16 ≤ -t)
  | .tie => decide (t ≤ i16.natAbs)
  | .disabled => false

/-- The RC comparator of a latched role, for a current in 1/16 mA. -/
def rcFires (role : Role) (thr : Nat) (i16 : Int) : Bool :=
  let t : Int := 16 * thr
  if thr = 0 then false
  else
    match role with
    | .source => decide (i16 ≤ -t)
    | .battery => decide (t ≤ i16)
    | .load => decide (t ≤ i16)
    | .tie => false
    | .disabled => false

/-- The UV comparator with its hysteresis, for a side voltage in 1/16 mV; both levels rounded down to 50 mV (R135). For a channel
that the Tin Soldier keeps, the level of its sheet entry with 250 mV of hysteresis (R253). -/
def uvFires (s : State) (c : Ch) (vs16 : Int) : Bool :=
  let kept := s.tin.override && (s.chan c).keep
  let uv := (s.tin.keep.get c).uv
  let lvl := if kept then uv else chn s c Chp.UV_MV / 50 * 50
  let rel := if kept then uv + 250 else (chn s c Chp.UV_MV + chn s c Chp.UV_HYST_MV) / 50 * 50
  if lvl = 0 then false
  else if vs16 < 16 * lvl then true
  else if (16 * rel : Int) ≤ vs16 then false
  else (s.chan c).fUv

/-! ### Gates (R127, R128, Table 5.4) -/

/-- The pull-down of an opening that no reflex and no trip rule makes: CHn.PD_MODE. -/
def openGate (s : State) (c : Ch) : Gate := if chn s c Chp.PD_MODE = 0 then .lowFull else .lowSoft

/-- The pull-down with which a whole group's isolation opens the channel: GRPk.ISO_PD (R164). -/
def isoGate (s : State) (c : Ch) : Gate :=
  match pn s (grpId (groupOf c) Grpp.ISO_PD) with
  | 1 => .lowFull
  | 2 => .lowSoft
  | _ => openGate s c

/-- The current of a gate that is enhanced outside inrush, in µA: (CHn.GATE_I + 1) x 10 (R127). -/
def gateUa (s : State) (c : Ch) : Nat := (chn s c Chp.GATE_I + 1) * 10

/-- A gate on its way to full, outside inrush (R127). -/
def riseGate (s : State) (c : Ch) (old : Gate) : Gate := if old = .full then .full else .rise (gateUa s c)

/-- Gate A in DIODE while it regulates: the drop is held at CHn.FWD_MV (R143). -/
def diodeReg (s : State) (c : Ch) : Gate := .forward (chn s c Chp.FWD_MV) (gateUa s c)

/-- Gate A in ARMED: the charge current and the string voltage that the battery management sets, the current never above
CHn.CHG_MAX_MA; a channel of no string has that bound alone (R144). -/
def chargeReg (s : State) (c : Ch) : Gate :=
  let top := chn s c Chp.CHG_MAX_MA
  match allStr.find? fun k => boundCh s k == some c with
  | some k =>
    let b := s.bat.s.get k
    .charge (min b.iLim.toNat top) (some b.vTgt) (gateUa s c)
  | none => .charge top none (gateUa s c)

/-- Both gates are low. -/
def Chan.low (x : Chan) : Bool := x.gateA.isLow && x.gateB.isLow

/-- The channel's gates as its closed state wants them (Table 5.4, R174 phase 3). -/
def closedGates (s : State) (c : Ch) (st : ChSt) (x : Chan) : Chan :=
  { x with
    gateA := if st = .diode then diodeReg s c else if st = .armed then chargeReg s c else riseGate s c x.gateA
    gateB := riseGate s c x.gateB }

/-- One entry into a conducting state from both gates low (R162, CHn.CLOSURES). -/
def Chan.countClosure (x : Chan) : Chan := { x with closures := sat32 (x.closures + 1), conducted := true }

/-- The channel stands in a state that does not conduct, with its gates pulled down. The probe of a PROBE load starts when
its gates are low (R149). -/
def Chan.toLow (x : Chan) (st : ChSt) (g : Gate) : Chan :=
  { x with st := st, gateA := g, gateB := g, testClosed := false, keep := false }

/-- The probe current flows only while both gates of a PROBE load are low (R149). -/
def setProbe (c : Ch) (s : State) : State :=
  modCh c (fun x => { x with probe := chn s c Chp.PRES_MODE == 3 && roleOf s c == .load && x.low && x.st != .disabled }) s

/-- Every channel of the group has both gates low (R316). -/
def groupLow (s : State) (k : Grp) : Bool :=
  (chOf k).all fun c => !conducts s c && (s.chan c).low

/-- A converter in low-power mode returns to 40 MS/s (R317). -/
def lpExit (g : Grp) (s : State) : State :=
  { s with cnv := { s.cnv with seq := vmod s.cnv.seq g fun q => { q with lp := false } } }

/-- The channel closes directly into its closed state, its sides equal; `st` is that state. The converter of its group leaves
low power (R317). -/
def closeCh (c : Ch) (st : ChSt) (s : State) : State :=
  lpExit (groupOf c) <|
  modCh c (fun x => closedGates s c st ({ x with
    st := st, probe := false, testClosed := s.sys.mode == Mode.commission }).countClosure) s

/-! ### Trip rules (Table 7.2, R199, R217) -/

/-- The default action of a role for a cause, none where the role does not use it; 0 RECORD, 1 RETRY, 2 WAIT, 3 LATCH. -/
def roleAction (role : Role) (cause : Nat) : Option Nat :=
  match role, cause with
  | .disabled, _ => none
  | _, 1 => some 1
  | .load, 2 => some 3
  | _, 2 => none
  | .source, 3 => some 2
  | _, 3 => none
  | .source, 4 => none
  | .battery, 4 => some 3
  | _, 4 => some 0
  | .load, 5 => some 1
  | _, 5 => some 0
  | _, 6 => some 1
  | _, 7 => some 1
  | _, 8 => some 2
  | _, 9 => some 3
  | _, _ => none

/-- The action of a role for a cause under a word of CHn.TRIP_RULES: its nibble, or the role's default. DRIVE always
latches. -/
def actionIn (role : Role) (rules cause : Nat) : Option Nat :=
  match roleAction role cause with
  | none => none
  | some d =>
    if cause = 9 then some 3
    else
      let n := fieldOf rules (4 * (cause - 1)) 4
      if n ≤ 3 then some n else some d

/-- The action in force for a cause. -/
def actionOf (s : State) (c : Ch) (cause : Nat) : Option Nat := actionIn (roleOf s c) (chn s c Chp.TRIP_RULES) cause

/-- The actions that Table 7.2 allows for a cause and role, whether or not the role uses the cause. -/
def ruleAllowed (role : Role) (cause nib : Nat) : Bool :=
  if nib = 15 then true
  else if 3 < nib then false
  else
    match cause with
    | 1 => nib == 1 || nib == 3
    | 2 => nib == 1 || nib == 3
    | 3 => nib == 2 || nib == 3
    | 4 => nib == 0 || nib == 1 || nib == 3 || (nib == 2 && (role == .battery || role == .tie))
    | 5 => nib == 0 || nib == 1 || nib == 3
    | 6 => nib == 1 || nib == 3
    | 7 => nib == 1 || nib == 3
    | 8 => nib == 0 || nib == 2 || nib == 3
    | _ => true

/-! ### Field lines that name a channel (Tables 17.7, 14.6) -/

/-- FLD.CFGn of a line (Table 17.12). -/
def flCfg (s : State) (l : Line) : Nat := pn s (Prm.FLD_CFG0 + l.val)

/-- The function of a line: FUNC of FLD.CFGn. -/
def flFunc (s : State) (l : Line) : Nat := fieldOf (flCfg s l) 20 4

/-- The line is an output: DIR of FLD.CFGn. -/
def flIsOut (s : State) (l : Line) : Bool := (flCfg s l).testBit 31

/-- The argument of a line's function: ARG of FLD.CFGn. -/
def flArg (s : State) (l : Line) : Nat := fieldOf (flCfg s l) 24 5

/-- The input reads active: its filtered level under POL, inactive while the line is declared stuck (R466). -/
def flActive (s : State) (l : Line) : Bool :=
  let f := s.fl.get l
  !flIsOut s l && !f.stuck && (f.level != (flCfg s l).testBit 30)

/-- The lines that carry a function for an argument. -/
def linesOf (s : State) (func arg : Nat) : List Line :=
  (List.finRange 16).filter fun l => flFunc s l == func && flArg s l == arg

/-- A RESCUE or FIRE line is active, which blocks tests and peak support (R468). -/
def emergency (s : State) : Bool :=
  (List.finRange 16).any fun l => (flFunc s l == 6 || flFunc s l == 7) && flActive s l

/-- A FIRE line is active (R468). -/
def fireOn (s : State) : Bool := (List.finRange 16).any fun l => flFunc s l == 7 && flActive s l

/-- The EXT condition of a channel: a line assigned its trip input reads active. -/
def extMet (s : State) (c : Ch) : Bool := (linesOf s 2 c.val).any (flActive s)

/-- FIELD presence of a channel (Table 5.5): absent when no line carries it. -/
def fieldPresent (s : State) (c : Ch) : Bool := (linesOf s 1 c.val).any (flActive s)

/-! ### The junction model (R165 to R168) -/

/-- The k-th pole's word. -/
def poleWord (s : State) (c : Ch) (k : Nat) : Nat := chn s c (Chp.ZTH1 + k)

/-- Rth of a pole in K/W. -/
def poleRth (w : Nat) : Rat := ((w / 2 ^ 16 : Nat) : Rat) / 1000

/-- τ of a pole in µs: M x 4^E. -/
def poleTau (w : Nat) : Nat := (w % 2 ^ 12) * 4 ^ (fieldOf w 12 4)

/-- One pole after a tick of power `p` (R165). A pole whose resistance is 0 is not used. -/
def polePost (w : Nat) (p th : Rat) : Rat :=
  if w / 2 ^ 16 = 0 then 0
  else
    let r := p * poleRth w
    if r = th then th else th + (r - th) * (1 - expNeg (1 / (poleTau w : Rat)))

/-- CHn.TJ of a junction rise over a reference: saturating, and rounded one way or the other (R166). -/
def tjOf (tref : Int) (rise : Rat) : Int := clampI (-32768) 32767 (tref + ratFree 1 (rise * 64))

/-- The sum of the rises. -/
def riseOf (th : Vector Rat 4) : Rat := th.get 0 + th.get 1 + th.get 2 + th.get 3

/-- The model of a channel at a tick (R165). -/
def soaUpdate (s : State) (c : Ch) (x : Chan) : Chan :=
  let p : Rat := ((x.i16.natAbs * x.drop16.natAbs : Nat) : Rat) / 256000000
  let t := fun (k : Fin 4) => polePost (poleWord s c k.val) p (x.theta.get k)
  let th := vput (vput (vput (vput x.theta 0 (t 0)) 1 (t 1)) 2 (t 2)) 3 (t 3)
  { x with theta := th, tj := tjOf x.tref (riseOf th) }

/-- A new pole set keeps the junction rise and shares it in proportion to the resistances (R168). -/
def sharePoles (s : State) (c : Ch) (x : Chan) : Chan :=
  let r := fun (k : Nat) => poleRth (poleWord s c k)
  let sum := r 0 + r 1 + r 2 + r 3
  let rise := riseOf x.theta
  if sum = 0 then x
  else
    let th := vput (vput (vput (vput x.theta 0 (rise * r 0 / sum)) 1 (rise * r 1 / sum)) 2 (rise * r 2 / sum)) 3
      (rise * r 3 / sum)
    { x with theta := th }

/-! ### Rainflow and wear (R185 to R188) -/

/-- The bin of a range in 1/64 K (Table 6.5). -/
def wearBin (r : Nat) : Fin 16 := ⟨min 15 (r / 320), by omega⟩

/-- (ΔT / ΔT_REF)^n for n in sixteenths: exact for a whole n (R187). -/
def wearPower (q : Rat) (n16 : Nat) : Rat := if n16 % 16 = 0 then q ^ (n16 / 16) else power16 q n16

/-- The damage of one full cycle of a range in 1/64 K, in ppm of life (R187). -/
def cycleDamage (model r : Nat) : Rat :=
  let q : Rat := (r : Rat) / (64 * ((fieldOf model 16 8 : Nat) : Rat))
  1000000 * wearPower q (fieldOf model 24 8) / (((model % 2 ^ 16) * 1000 : Nat) : Rat)

/-- A counted range: `halves` is 2 for a full cycle, 1 for a half cycle (R186, R187). -/
def Chan.countRange (model r halves : Nat) (x : Chan) : Chan :=
  if r < 128 then x
  else { x with
    bins := vmod x.bins (wearBin r) fun n => sat32 (n + halves)
    damage := x.damage + cycleDamage model r * halves / 2 }

/-- The four-point test on the stack, newest first, while it closes ranges; `fuel` bounds the closings (R185). -/
def rainflow (model : Nat) : Nat → Chan → Chan
  | 0, x => x
  | fuel + 1, x =>
    match x.stack with
    | d :: c :: b :: a :: t =>
      let r := (b - c).natAbs
      if r ≤ (a - b).natAbs ∧ r ≤ (c - d).natAbs then
        rainflow model fuel (({ x with stack := d :: a :: t }).countRange model r 2)
      else x
    | _ => x

/-- The oldest point of a full stack leaves it, its range counted as a half cycle. -/
def dropOldest (model : Nat) (x : Chan) : Chan :=
  match x.stack.reverse with
  | p :: q :: t => ({ x with stack := (q :: t).reverse }).countRange model (p - q).natAbs 1
  | _ => x

/-- A turning point enters the stack of 32. -/
def pushPoint (model : Nat) (v : Int) (x : Chan) : Chan :=
  let x := if x.stack.length < 32 then x else dropOldest model x
  rainflow model 16 { x with stack := v :: x.stack }

/-- The turning points of CHn.TJ with a hysteresis of 2 K. -/
def turnUpdate (model : Nat) (x : Chan) : Chan :=
  let t := x.tj
  if x.rising then
    if x.extreme ≤ t then { x with extreme := t }
    else if x.extreme - t < 128 then x
    else pushPoint model x.extreme { x with extreme := t, rising := false }
  else
    if t ≤ x.extreme then { x with extreme := t }
    else if t - x.extreme < 128 then x
    else pushPoint model x.extreme { x with extreme := t, rising := true }

/-- Every range left on a stack counts as a half cycle. -/
def countLeft (model : Nat) : List Int → Chan → Chan
  | a :: b :: t, x => countLeft model (b :: t) (x.countRange model (a - b).natAbs 1)
  | _, x => x

/-- The stack is emptied, each range on it a half cycle (R185). -/
def emptyStack (s : State) (c : Ch) (x : Chan) : Chan :=
  { countLeft (chn s c Chp.WEAR_MODEL) x.stack x with stack := [] }

/-- CHn.WEAR_USED_PPM (R187). -/
def wearUsed (x : Chan) : Nat := sat32 (ratFloor x.damage).toNat

/-- CHn.LIFE_LEFT_D at the end of a day, from the wear of the last d days; d is 30, or as many days as there have been since
the first BOOT (R188). -/
def lifeLeftOf (x : Chan) : Nat :=
  let used := wearUsed x
  let d := min 30 (x.days.length + 1)
  let old := if x.days.length < 30 then 0 else x.days.getLast?.getD 0
  let dmg := x.damage - old
  if 1000000 ≤ used then 0
  else if dmg ≤ 0 then 0xFFFFFFFF
  else min 4294967294 (ratFloor (((1000000 - used : Nat) : Rat) * (d : Rat) / dmg)).toNat

/-! ### Sheet and class (R147) -/

/-- One field line at a new second of OPTIME: OVSPD stands for the second that follows one in which its rejected pulses reached
TMR.FL_OVSPD_N, and its rise is recorded (R396). -/
def settleLine (l : Line) (s : State) : State :=
  let f := s.fl.get l
  let now := optime s / 1024
  if now ≤ f.sec then s
  else
    let reached : Bool := decide (pn s Prm.TMR_FL_OVSPD_N ≤ f.rejSec)
    let flag : Bool := reached && now == f.sec + 1
    let s1 := { s with fl := vput s.fl l { f with ovspd := flag, sec := now, rejSec := 0 } }
    if reached && !f.ovspd then logEvent Evt.FL_OVSPD 1 (objLine l) [f.rej] s1 else s1

/-- Every field line follows the seconds of OPTIME. -/
def settleLines (s : State) : State := forEach (List.finRange 16) settleLine s

/-- At each BOOT, and when a class or the sheet changes: the channels where the two differ are marked and recorded. -/
def sheetDiff (s : State) : State :=
  forEach allCh (fun c s =>
    let d := (s.tin.keep.get c).keep != (classEff s c == 0)
    let s := modCh c (fun x => { x with sheetDiff := d }) s
    if d then logEvent Evt.SHEET_DIFF 2 c.val [classEff s c + 4 * b2n (s.tin.keep.get c).keep] s else s) s

end Sys2Proof.Machine
end

