-- ==== Sys2Proof/Machine/SvcOut.lean ====
section
/-! DEFINITION. The frames the service port sends, and the answer to whoever asked for a takeover (R513, R514, R528). -/

namespace Sys2Proof.Machine

/-! ### The service port's frames (R513, R514) -/

/-- A response frame: bit 7 of TYPE set, SEQ echoed. -/
def svcReply (type seq st : Nat) (payload : List Nat) (s : State) : State :=
  { s with svc := { s.svc with
      tx := s.svc.tx ++ [{ type := type + 0x80, seq := seq, status := st, payload := payload }] } }

/-- UPD.LAST (Table 20.12). -/
def updLast (s : State) : Nat := s.svc.lastType * 2 ^ 24 + s.svc.lastResult * 2 ^ 16 + s.svc.lastBudget * 2 ^ 8

/-- UPD.LAST is written. -/
def putLast (type result budget : Nat) (s : State) : State :=
  { s with svc := { s.svc with lastType := type, lastResult := result, lastBudget := budget } }

/-- The frame type that UPD.LAST names for whoever asked. -/
def Asker.type : Asker → Nat
  | .service _ => 0x33
  | .param => 0x0E

/-- The takeover under way ends: a TAKEOVER frame is answered, when a Puppeteer runs to answer it. -/
def answerTakeover (st result budget : Nat) (s : State) : State :=
  match s.svc.asker with
  | none => s
  | some a =>
    let s := putLast a.type result budget { s with svc := { s.svc with asker := none } }
    match a with
    | .service q => if s.svc.en && anyPup s then svcReply 0x33 q st [updLast s] s else s
    | .param => s

end Sys2Proof.Machine
end

