-- ==== Sys2Proof/Machine/Admission.lean ====
section
/-! DEFINITION. The admission arbiter: budgets, the judgement of a request, the queue, what a grant and a refusal do, and
the request of an inrush (chapter 15, R181). -/

namespace Sys2Proof.Machine

/-! ### Operation codes (Table 15.2) -/

abbrev Opn.INRUSH : Nat := 0x01
abbrev Opn.FET_TEST : Nat := 0x02
abbrev Opn.CAP_TEST : Nat := 0x03
abbrev Opn.DUR_TEST : Nat := 0x04
abbrev Opn.WALKIN : Nat := 0x10
abbrev Opn.RESTORE : Nat := 0x11
abbrev Opn.PEAK : Nat := 0x12
abbrev Opn.HANDOVER : Nat := 0x13
abbrev Opn.MIGRATE : Nat := 0x14

/-- A request that asks for nothing yet. -/
def Op.blank (code : Nat) : Op :=
  { id := 0, code := code, ch := none, map := 0, prio := 0, bus := 0, src := 0, bat := 0, self := 0, therm := 0,
    tag := none, filer := .auto, since := 0, waitOn := 0, args := [], open_ := [] }

/-- The word 0 of an OP_START completion (Table 4.6). -/
def opWord (code budget pos : Nat) : Word := wd (code * 2 ^ 24 + budget * 2 ^ 16 + pos)

/-! ### The budgets (R401, R402) -/

/-- ADM.FREE_BUS_MC. -/
def busFree (s : State) : Int := pget s Prm.ADM_BUS_CAP_MC - s.adm.grants.foldl (fun n o => n + (o.bus : Int)) 0

/-- The capacity of SOURCE_HEADROOM, held at 0 in BRIDGE and CUTOFF. -/
def srcCapNow (s : State) : Int := if s.sys.mode == .bridge || s.sys.mode == .cutoff then 0 else s.adm.srcCap

/-- ADM.FREE_SRC_W. -/
def srcFree (s : State) : Int := srcCapNow s - s.adm.grants.foldl (fun n o => n + (o.src : Int)) 0

/-- The BATTERY_RESERVE amounts held, Q_held. -/
def qHeld (s : State) : Nat := s.adm.grants.foldl (fun n o => n + o.bat) 0

/-- ADM.FREE_BAT_MAH. -/
def batFree (s : State) : Int := (s.adm.qAvail : Int) - s.adm.qNeed - qHeld s

/-- The capacity of SELF_POWER. -/
def selfCap (s : State) : Int := if s.pwr.dieHot then 0 else pget s Prm.ADM_SELF_CAP_MW - s.adm.selfBase

/-- ADM.FREE_SELF_MW. -/
def selfFree (s : State) : Int := selfCap s - s.adm.grants.foldl (fun n o => n + (o.self : Int)) 0

/-- The capacity of THERMAL of a channel. -/
def thermCap (s : State) (c : Ch) : Int := max 0 (-((-(chp s c Chp.TJ_MAX - 320 - (s.chan c).tj)) / 64))

/-- THERMAL held on a channel. -/
def thermHeld (s : State) (c : Ch) : Nat :=
  s.adm.grants.foldl (fun n o => if o.ch = some c then n + o.therm else n) 0

/-- The walk-ins granted at present. -/
def walkins (s : State) : Nat := (s.adm.grants.filter fun o => o.code == Opn.WALKIN).length

/-! ### Judgement (R409, R410) -/

/-- A judgement: granted with an amount of BUS_CHARGE, or queued or refused over a budget. -/
inductive Verdict
  | grant (mc : Nat)
  | wait (budget : Nat)
  | refuse (budget : Nat)
  deriving DecidableEq, Repr

/-- The request needs a budget; code 0 stands for the walk-in limit. -/
def Op.needs (o : Op) (b : Nat) : Bool :=
  match b with
  | 0 => o.code == Opn.WALKIN
  | 1 => o.bus != 0
  | 2 => o.src != 0
  | 3 => o.bat != 0
  | 4 => o.self != 0
  | 5 => o.therm != 0
  | _ => false

/-- THERMAL of a request exceeds the capacity of its channel. -/
def thermOver (s : State) (o : Op) : Bool :=
  match o.ch with
  | some c => decide (thermCap s c < o.therm)
  | none => false

/-- THERMAL of a request exceeds the free amount of its channel. -/
def thermShort (s : State) (o : Op) : Bool :=
  match o.ch with
  | some c => decide (thermCap s c < (o.therm + thermHeld s c : Nat))
  | none => false

/-- The judgement of a request; `blocked` are the budgets on which earlier entries wait (R409, R411). -/
def judge (s : State) (blocked : List Nat) (o : Op) : Verdict :=
  let short1 := o.bus != 0 && (blocked.contains 1 || decide (busFree s < min o.bus (pn s Prm.ADM_BUS_MIN_MC)))
  let short2 := o.src != 0 && (blocked.contains 2 || decide (srcFree s < o.src))
  let short4 := o.self != 0 && (blocked.contains 4 || decide (selfFree s < o.self))
  let short5 := o.therm != 0 && (blocked.contains 5 || thermShort s o)
  let walk := o.code == Opn.WALKIN && (blocked.contains 0 || decide (pn s Prm.ADM_WALKIN_PAR ≤ walkins s))
  let test := o.code == Opn.CAP_TEST || o.code == Opn.DUR_TEST
  if o.bat ≠ 0 ∧ (s.adm.short ∨ batFree s < o.bat) then .refuse 3
  else if test ∧ s.bat.test.isSome then .refuse 0
  else if (test ∨ o.code = Opn.FET_TEST) ∧ emergency s then .refuse 0
  else if o.src ≠ 0 ∧ srcCapNow s < o.src then .refuse 2
  else if o.self ≠ 0 ∧ selfCap s < o.self then .refuse 4
  else if o.therm ≠ 0 ∧ thermOver s o then .refuse 5
  else if walk then .wait 0
  else if short1 then .wait 1
  else if short2 then .wait 2
  else if o.bat ≠ 0 ∧ blocked.contains 3 then .wait 3
  else if short4 then .wait 4
  else if short5 then .wait 5
  else .grant (min (o.bus : Int) (busFree s)).toNat

/-! ### Order of the queue (R411) -/

/-- The channel number a request is ordered by. -/
def Op.chNo (o : Op) : Nat :=
  match o.ch with
  | some c => c.val
  | none => 31

/-- `a` stands before `b` in the queue. -/
def Op.before (a b : Op) : Bool :=
  decide (a.prio < b.prio) ||
    (a.prio == b.prio && (decide (a.since < b.since) || (a.since == b.since && decide (a.chNo ≤ b.chNo))))

/-- Puts a request into the queue in its order. -/
def insOp (o : Op) : List Op → List Op
  | [] => [o]
  | p :: t => if p.before o then p :: insOp o t else o :: p :: t

/-- The place of an operation in the queue, from 1; 0 when it is not queued. -/
def queuePos (s : State) (id : Nat) : Nat :=
  match s.adm.queue.findIdx? fun o => o.id == id with
  | some k => k + 1
  | none => 0

/-! ### Decisions (R413, Table 15.7) -/

/-- ADM.LAST's CH field. -/
def chField (o : Op) : Nat := o.chNo

/-- The word of ADM.LAST. -/
def admLast (s : State) : Nat :=
  s.adm.lastOp * 2 ^ 24 + s.adm.lastBudget * 2 ^ 16 + s.adm.lastDecision * 2 ^ 8 + s.adm.lastCh

/-- ADM.LAST records a decision; a decision on an OP_START, and any refusal, sets H_IRQ_STATUS[12]. -/
def decide_ (o : Op) (budget dec : Nat) (s : State) : State :=
  let s := { s with adm := { s.adm with lastOp := o.code, lastBudget := budget, lastDecision := dec, lastCh := chField o } }
  if o.tag.isSome || dec == 3 then setIrq Irq.ADMIT s else s

/-- NTF_ADMIT to the session that issued an OP_START. -/
def ntfAdmit (o : Op) (budget : Nat) (s : State) : State :=
  match o.tag.bind (entry? s) with
  | some e => notifyTo Opc.NTF_ADMIT [wd (o.code * 2 ^ 24 + budget * 2 ^ 16 + e.tag)] e.chan s
  | none => s

/-- Completes the OP_START of an operation, if a host started it; a takeover's request answers whoever asked for it, with
result 12 (R528). -/
def opComplete (o : Op) (st budget : Nat) (more : List Word) (s : State) : State :=
  let s := if o.code = Opn.HANDOVER then answerTakeover st 12 budget s else s
  match o.tag with
  | some id => complete id st (opWord o.code budget 0 :: more) s
  | none => s

/-! ### Grants (R408, R401) -/

/-- Writes a channel's grant register, and clears it. -/
def putGrant (c : Ch) (g : Option (Nat × Nat)) (s : State) : State := modCh c (fun x => { x with grant := g }) s

/-- The capacity in use of a string: C_learn, or Sk.C_NOM_MAH before the first learning (R443). -/
def strCap (s : State) (k : Str) : Nat :=
  let x := s.bat.s.get k
  if x.cLearn = 0 then strn s k Strp.C_NOM_MAH else x.cLearn

/-- The temperature of a string in °C: the latest valid mean of the thermistor named by Sk.NTC, 25 °C where there is none
(R419). -/
def strTemp (s : State) (k : Str) : Rat :=
  match strn s k Strp.NTC with
  | 0 => 25
  | n + 1 => match (s.cnv.ntc.get ⟨n % 8, by omega⟩).last with
    | some t => (t : Rat) / 64
    | none => 25

/-- The capacity factor f_T of Table 16.1. -/
def strFactor (s : State) (k : Str) : Rat :=
  if strn s k Strp.CHEM = 1 then min 1 (1 + 8 / 1000 * (strTemp s k - 25)) else 1

/-- C_eff, the capacity that the temperature leaves, in mAh (R427). -/
def strEff (s : State) (k : Str) : Rat := strFactor s k * (strCap s k : Rat)

/-- The internal state of charge of a string, as a fraction (R427). -/
def strSoc (s : State) (k : Str) : Rat := (s.bat.s.get k).qInt / strEff s k

/-- The strings that conduct: every one of them takes part in a test. -/
def conductingStr (s : State) : List Str :=
  (boundStr s).filter fun k =>
    match boundCh s k with
    | some c => conducts s c
    | none => false

/-- What a channel has to do waits for its group's first tick after the reload (R46, R156). -/
def putOff (a : ChAct) (c : Ch) (s : State) : State := modCh c (fun x => { x with todo := x.todo ++ [a] }) s

/-- The group of a channel reloads: its Marionette moves none of its channels (R156). -/
def reloads (s : State) (c : Ch) : Bool := (s.group (groupOf c)).reloading

/-- ARMED goes to ON, gate A rising to full. -/
def disarmNow (c : Ch) (s : State) : State :=
  if (s.chan c).st = .armed then modCh c (fun x => { x with st := .on, gateA := riseGate s c x.gateA }) s else s

/-- DISARM of a channel (Table 5.8). -/
def disarmCh (c : Ch) (s : State) : State := if reloads s c then putOff .disarm c s else disarmNow c s

/-- ON goes to ARMED, gate A regulating (R144). -/
def armNow (c : Ch) (s : State) : State :=
  if (s.chan c).st = .on then modCh c (fun x => { x with st := .armed, gateA := chargeReg s c }) s else s

/-- ARM of a channel (Table 5.8). -/
def armCh (c : Ch) (s : State) : State := if reloads s c then putOff .arm c s else armNow c s

/-- A WAIT channel stands open again. -/
def unwaitNow (c : Ch) (s : State) : State :=
  if (s.chan c).st = .wait then
    modCh c (fun x => { x with st := .opened, retryWait := false, freeTry := false, yoyo := .idle }) s
  else s

/-- A WAIT channel leaves WAIT for OPEN (Table 5.7). -/
def unwait (c : Ch) (s : State) : State := if reloads s c then putOff .unwait c s else unwaitNow c s

/-- A test begins: the run's record, and DISARM to every bound channel that is ARMED (R438). -/
def beginTest (o : Op) (s : State) : State :=
  let w1 := o.args.headD 0
  let w2 := o.args.getD 1 0
  let cap := o.code == Opn.CAP_TEST
  let part := conductingStr s
  let soc := fun (k : Str) => strSoc s k
  let cf := confNow s
  let four : (Str → Rat) → Vector Rat 4 := fun f => vput (vput (vput (vput (Vector.replicate 4 0) 0 (f 0)) 1 (f 1)) 2 (f 2)) 3 (f 3)
  let run : TestRun :=
    { op := o.id, code := o.code, tag := o.tag, named := o.map, part := part, planned := o.bat,
      iTest := if cap then ((fieldOf w1 16 16 * 100 : Nat) : Int) else 0,
      endCell := if cap then w1 % 2 ^ 16 else w2 % 2 ^ 16,
      dur := if cap then 0 else w1, at_ := optime s, drawn := Vector.replicate 4 0, soc0 := four soc, conf0 := four cf,
      lowCell := 0xFFFF, below := Vector.replicate 4 none }
  let s := { s with bat := { s.bat with test := some run } }
  let s := forEach part (fun k s => { s with bat := { s.bat with s := vmod s.bat.s k fun x => { x with phase := 4 } } }) s
  forEach (boundStr s) (fun k s =>
    match boundCh s k with
    | some c =>
      disarmCh c s
    | none => s) s

/-- What a grant starts (R408, R438, R238, R588, R240, R528). -/
def startOp (o : Op) (mc : Nat) (s : State) : State :=
  match o.code with
  | 0x01 => match o.ch with
    | some c => putGrant c (some (o.code, mc)) s
    | none => s
  | 0x02 => match o.ch with
    | some c => putGrant c (some (o.code, mc)) s
    | none => s
  | 0x03 => beginTest o s
  | 0x04 => beginTest o s
  | 0x10 => match o.ch with
    | some c => { s with bus := { s.bus with walk := vput s.bus.walk c (.ramp s.clock) } }
    | none => s
  | 0x11 => { s with bus := { s.bus with restore := some o.id } }
  | 0x12 => { s with bus := { s.bus with 
      peakOp := some o.id, peakAt := some s.clock, capState := 1, peakPlan := o.bat, peakDrawn := 0 } }
  | 0x13 => { s with svc := { s.svc with op := some o.id } }
  | _ => s

/-- A request is granted: its amounts are held, its token written and its OP_START told (R410, R413). -/
def grantOp (o : Op) (mc : Nat) (queued : Bool) (s : State) : State :=
  let o := { o with bus := mc }
  let s := { s with adm := { s.adm with grants := s.adm.grants ++ [o], queue := s.adm.queue.filter fun p => p.id != o.id } }
  let s := decide_ o 0 1 s
  let s := match o.tag with
    | some id => interim id St.PENDING [opWord o.code 0 0] (begin_ id s)
    | none => s
  let s := if queued then ntfAdmit o 0 s else s
  startOp o mc s

/-- What the end of a request without a grant does to what it was filed for: a WAIT channel opens (Table 5.7), a
restoration that filed it stops waiting for it, an update is told. -/
def dropOp (o : Op) (s : State) : State :=
  match o.code with
  | 0x01 => match o.ch with
    | some c =>
      let s := unwait c s
      let f := fun (p : Op) => if p.code = Opn.RESTORE then { p with open_ := p.open_.filter (· != c) } else p
      { s with adm := { s.adm with grants := s.adm.grants.map f } }
    | none => s
  | 0x10 => match o.ch with
    | some c => { s with bus := { s.bus with walk := vput s.bus.walk c .out } }
    | none => s
  | 0x13 => { s with svc := { s.svc with op := none } }
  | _ => s

/-- The event record of a refusal or time-out of the firmware's own operation: RETRY_REFUSED for a retry, critical for a
RESCUE line, ADM_FAIL otherwise (R207, R413, R468). -/
def failEvent (o : Op) (budget : Nat) (s : State) : State :=
  if o.tag.isSome then s
  else if o.code = Opn.INRUSH ∧ o.filer = .retry then logEvent Evt.RETRY_REFUSED 2 (min 31 o.chNo) [budget] s
  else if o.code = Opn.INRUSH ∧ o.filer = .rescue then
    logEvent Evt.FLD_RESCUE_REFUSED 3 (min 31 o.chNo) [budget] s
  else
    let obj := match o.ch with
      | some c => c.val
      | none => objNone
    logEvent Evt.ADM_FAIL 2 obj [admLast s] s

/-- A request is refused over a budget (R409, R413). -/
def refuseOp (o : Op) (budget : Nat) (s : State) : State :=
  let s := decide_ o budget 3 { s with adm := { s.adm with refusals := sat32 (s.adm.refusals + 1) } }
  let s := dropOp o s
  let s := failEvent o budget s
  opComplete o St.REFUSED budget [] s

/-- A request is queued: its OP_START receives ST_ADMIT_WAIT with the queue position (R413). -/
def queueOp (o : Op) (budget : Nat) (s : State) : State :=
  let o := { o with waitOn := budget }
  let s := { s with adm := { s.adm with queue := insOp o s.adm.queue } }
  let s := decide_ o budget 2 s
  match o.tag with
  | some id => interim id St.ADMIT_WAIT [opWord o.code budget (queuePos s o.id)] s
  | none => s

/-- The modes of Table 15.2 that admit an operation. -/
def opModes (code : Nat) (m : Mode) : Bool :=
  match code with
  | 0x02 => m == .commission || m == .standby || m == .online || m == .maintain
  | 0x03 => m == .standby || m == .online || m == .maintain
  | 0x04 => m == .standby || m == .online || m == .maintain
  | 0x10 => m == .online || m == .recharge || m == .maintain
  | 0x11 => m == .online || m == .recharge || m == .maintain || m == .bridge
  | 0x12 => m == .online || m == .recharge || m == .maintain
  | 0x13 => m == .standby || m == .online || m == .maintain
  | 0x14 => m == .boot || m == .standby || m == .online || m == .maintain
  | _ => false

/-- The modes that admit an inrush of a channel (R171, R208, Table 15.2). -/
def inrushModes (s : State) (c : Ch) (f : Filer) : Bool :=
  let r := roleOf s c
  match s.sys.mode with
  | .online => true
  | .recharge => true
  | .maintain => true
  | .bridge => match r with
    | .source => true
    | .battery => f == .black
    | .load => f != .auto
    | .tie => f != .auto
    | .disabled => false
  | .cutoff => r == .source
  | .commission => match f with
    | .host _ => true
    | _ => false
  | _ => false

/-- The mode admits a queued or filed operation. -/
def opAdmitted (s : State) (o : Op) : Bool :=
  if o.code = Opn.INRUSH then
    match o.ch with
    | some c => inrushModes s c o.filer
    | none => false
  else opModes o.code s.sys.mode && !(o.code == Opn.HANDOVER && !s.sys.isoGrp.isEmpty)

/-- The budgets on which the entries before a request wait. -/
def blockedBy (s : State) (o : Op) : List Nat := (s.adm.queue.filter fun p => p.before o).map Op.waitOn

/-- A request is filed and judged at once (R411, R412). -/
def fileOp (o : Op) (s : State) : State :=
  let o := { o with id := s.adm.next, since := s.clock }
  let s := { s with adm := { s.adm with next := s.adm.next + 1 } }
  match judge s (blockedBy s o) o with
  | .refuse b => refuseOp o b s
  | .grant mc => grantOp o mc false s
  | .wait b => if s.adm.queue.length < 32 then queueOp o b s else refuseOp o 0 s

/-- The queue judged again, in order: each entry that the mode admits and that passes R409 is granted; any other goes on
waiting and blocks the budget it waits on (R411). -/
def rejudgeList : List Op → List Nat → State → State
  | [], _, s => s
  | o :: t, blocked, s =>
    if opAdmitted s o then
      match judge s blocked o with
      | .grant mc => rejudgeList t blocked (grantOp o mc true s)
      | .wait b =>
        let q := s.adm.queue.map fun p => if p.id = o.id then { p with waitOn := b } else p
        rejudgeList t (b :: blocked) { s with adm := { s.adm with queue := q } }
      | .refuse b =>
        let q := s.adm.queue.map fun p => if p.id = o.id then { p with waitOn := b } else p
        rejudgeList t (b :: blocked) { s with adm := { s.adm with queue := q } }
    else rejudgeList t (o.waitOn :: blocked) s

/-- The arbiter judges the queue again. -/
def rejudge (s : State) : State := rejudgeList s.adm.queue [] s

/-- An operation returns its grant, and the queue is judged again (R402, R411). -/
def returnOp (id : Nat) (s : State) : State :=
  rejudge { s with adm := { s.adm with grants := s.adm.grants.filter fun o => o.id != id } }

/-- The operation that holds a channel's token: an INRUSH or a FET_TEST. -/
def chGrant (s : State) (c : Ch) : Option Op :=
  s.adm.grants.find? fun o => o.ch == some c && (o.code == Opn.INRUSH || o.code == Opn.FET_TEST)

/-- The queued request of a channel's inrush or test. -/
def chQueued (s : State) (c : Ch) : Option Op :=
  s.adm.queue.find? fun o => o.ch == some c && (o.code == Opn.INRUSH || o.code == Opn.FET_TEST)

/-- A queued request or a token not yet used is withdrawn: decision 5, or 6 for an abort; its OP_START ends with
ST_ABORTED (R413, R415). -/
def withdrawOp (o : Op) (dec : Nat) (s : State) : State :=
  let s := { s with adm := { s.adm with
    queue := s.adm.queue.filter (fun p => p.id != o.id), grants := s.adm.grants.filter (fun p => p.id != o.id) } }
  let s := decide_ o o.waitOn dec s
  let s := if dec = 5 then ntfAdmit o o.waitOn s else s
  let s := match o.ch with
    | some c => putGrant c none s
    | none => s
  opComplete o St.ABORTED 0 [] (dropOp o s)

/-- Withdraws whatever a channel has filed and not begun. -/
def withdrawCh (c : Ch) (dec : Nat) (s : State) : State :=
  let s := match chQueued s c with
    | some o => withdrawOp o dec s
    | none => s
  match (s.chan c).inr, chGrant s c with
  | none, some o => rejudge (withdrawOp o dec s)
  | _, _ => s

/-! ### The request of an inrush (R181) -/

/-- T_rem (R403). -/
def tRem (s : State) : Nat :=
  let d := pn s Prm.ADM_SAFE_DUR_S
  if s.sys.mode == .bridge then d - (s.clock - s.adm.bridgeAt) / clkS else d

/-- BATTERY_RESERVE of a load of `ma` mA over T_rem. -/
def reserveFor (s : State) (ma : Int) : Nat := ((-((-(ma * tRem s)) / 3600)) : Int).toNat

/-- |V(CSN) - V(VS)| of the latest tick, in 1/16 mV. -/
def sideDiff (x : Chan) : Nat := (x.vcsn - x.vs).natAbs

/-- BUS_CHARGE of an inrush in mC. -/
def inrushBus (s : State) (c : Ch) : Nat :=
  let x := s.chan c
  let cuf := max (chn s c Chp.FAR_C_UF) x.farC
  let icap := chn s c Chp.INRUSH_ICAP_MA
  let oc10 := 9 * ocEff s c
  let cap := if icap = 0 then (oc10 + 999) / 1000 else min ((oc10 + 999) / 1000) ((icap + 99) / 100)
  if cuf = 0 then cap else min ((cuf * sideDiff x + 15999999) / 16000000) cap

/-- THERMAL of an inrush in K. -/
def inrushTherm (s : State) (c : Ch) : Nat := (-((-(chp s c Chp.TJ_SERVO - (s.chan c).tj)) / 64)).toNat

/-- The priority of an inrush (Table 15.2). -/
def inrushPrio (s : State) (c : Ch) (f : Filer) : Nat :=
  if roleOf s c == .source || f == .black || f == .rescue then 0
  else if classEff s c = 2 then 2 else 1

/-- The request of an inrush. -/
def inrushOp (s : State) (c : Ch) (f : Filer) (tag : Option Nat) : Op :=
  let bridgeLoad := s.sys.mode == .bridge && isLoad s c && f != .restore
  { Op.blank Opn.INRUSH with
    ch := some c, map := 2 ^ c.val, prio := inrushPrio s c f, bus := inrushBus s c, therm := inrushTherm s c,
    bat := if bridgeLoad then reserveFor s (-(s.chan c).iLast) else 0, tag := tag, filer := f }

/-- The firmware refuses before any budget is judged: the channel is out of service, or its group under R303 (R207). -/
def firmRefuses (s : State) (c : Ch) : Bool := (s.chan c).oos || (s.group (groupOf c)).oos || (s.group (groupOf c)).refFail

/-- A channel whose request or token stands goes to WAIT. -/
def waitNow (c : Ch) (s : State) : State := modCh c (fun x => { x with st := .wait }) s

/-- An inrush is filed for a channel: OPEN or a retry's TRIPPED goes to WAIT with the request (Table 5.7). -/
def fileInrush (c : Ch) (f : Filer) (tag : Option Nat) (s : State) : State :=
  let o := inrushOp s c f tag
  let s := if reloads s c then putOff .wait c s else waitNow c s
  if firmRefuses s c then
    refuseOp o 0 (modCh c (fun x => { x with barred := true }) s)
  else fileOp o (modCh c (fun x => { x with barred := false }) s)

/-- The conditions of R171 for an automatic request. -/
def autoReady (s : State) (c : Ch) : Bool :=
  let x := s.chan c
  let m := s.sys.mode
  chn s c Chp.INRUSH_AUTO == 1 && x.present && !x.shed && x.st == .opened && !x.equal && x.grant.isNone && (chQueued s c).isNone
    && (m == .online || m == .recharge || m == .maintain
      || ((m == .bridge || m == .cutoff) && roleOf s c == .source))
    && !(x.barred && firmRefuses s c)

/-- Files the automatic request of a channel when R171 asks for it. -/
def autoFile (c : Ch) (s : State) : State := if autoReady s c then fileInrush c .auto none s else s

/-- A change of mode lets the arbiter judge the queue again and lets R171 look at every channel. -/
def autoFileAll (s : State) : State := forEach allCh autoFile s

end Sys2Proof.Machine
end

