-- ==== Sys2Proof/Machine/Capture.lean ====
section
/-! DEFINITION. What events start in the conversion subsystem by themselves: the freeze of tracker banks and urgent
sequences (R310, R311, R331, R332). -/

namespace Sys2Proof.Machine

/-- An event that freezes banks and starts urgent sequences. -/
inductive CapEvt
  | host (map : Nat)
  | safeKeep
  | strobe
  | reflex (c : Ch)
  deriving DecidableEq, Repr

/-- The pin of the present instant (R270): the 4096 pins divide the cycle in progress. -/
def pinNow (s : State) : Nat := min 4095 ((s.clock - s.mb.boundaryAt) * 4096 * s.mb.cur / 400000000000)

/-- The cause code with which an event freezes bank `b` under its ACC.TRKCFGb, the lowest enabled (Table 12.4, R332). -/
def freezeCause (s : State) (e : CapEvt) (b : Fin 12) : Option Nat :=
  let w := pn s (Prm.ACC_TRKCFG0 + b.val)
  match e with
  | .host map => if w.testBit 2 && map.testBit b.val then some 1 else none
  | .safeKeep => if w.testBit 3 then some 2 else none
  | .strobe => if w.testBit 4 then some 3 else none
  | .reflex c =>
    if w.testBit 5 then some 4
    else if w.testBit 6 && fieldOf w 7 2 == (groupOf c).val then some 5 else none

/-- One bank meets an enabled event (R331, R332). -/
def freezeBank (s : State) (b : Fin 12) (cause : Nat) (x : TBank) : TBank :=
  if x.frozen || x.post then { x with ignored := sat8 (x.ignored + 1) }
  else
    let run := fieldOf (pn s (Prm.ACC_TRKCFG0 + b.val)) 16 16
    { x with frozen := run == 0, post := run != 0, cycle := s.mb.cycle, pin := pinNow s, cause := cause
             until_ := s.clock + run * clkUs }

/-- Every bank that the event freezes. -/
def freezeAll (e : CapEvt) (s : State) : State :=
  forEach (List.finRange 12) (fun b s =>
    match freezeCause s e b with
    | some k => { s with acc := { s.acc with bank := vmod s.acc.bank b (freezeBank s b k) } }
    | none => s) s

/-- The event is enabled in CNV.URGk (Table 11.7). -/
def urgentOn (s : State) (e : CapEvt) (k : Grp) : Bool :=
  let w := pn s (Prm.CNV_URG0 + k.val)
  match e with
  | .host map => w.testBit 12 && map.testBit k.val
  | .safeKeep => w.testBit 11
  | .strobe => w.testBit 8
  | .reflex c => w.testBit 10 || (w.testBit 9 && groupOf c == k)

/-- An execution of an entry that has its samples before it (R307). -/
def startRun (q : Seqr) (first entry : Fin 32) : SeqRun :=
  let w := q.table.get entry
  { entry := entry, first := first, word := w, owed := fieldOf w 40 8 + 1 }

/-- An urgent request reaches a sequencer: it pre-empts, is held, or is lost (R310, R311). -/
def urgentReq (entry : Fin 32) (q : Seqr) : Seqr :=
  if !q.urgent then { q with pre := q.run, run := some (startRun q entry entry), urgent := true, lp := false }
  else if !q.urgHeld then { q with urgHeld := true }
  else { q with urgLost := sat8 (q.urgLost + 1) }

/-- The first entry of the urgent sequence of converter k. -/
def urgentEntry (s : State) (k : Grp) : Fin 32 := ⟨pn s (Prm.CNV_URG0 + k.val) % 32, by omega⟩

/-- Every converter whose urgent source fires. -/
def urgentAll (e : CapEvt) (s : State) : State :=
  if !s.cnv.on then s
  else
    forEach allGrp (fun k s =>
      if urgentOn s e k then
        { s with cnv := { s.cnv with seq := vmod s.cnv.seq k (urgentReq (urgentEntry s k)) } }
      else s) s

/-- An event reaches the trackers and the converters. -/
def captureEvent (e : CapEvt) (s : State) : State := urgentAll e (freezeAll e s)

end Sys2Proof.Machine
end

