-- ==== Sys2Proof/Machine/RectSet.lean ====
section
/-! DEFINITION. The ports of the Share Bus, and the setpoints and limits of the rectifiers (R445, R448, R451, R457, R462). -/

namespace Sys2Proof.Machine

/-! ### Message types (Table 17.3) -/

abbrev Shm.ANNOUNCE : Nat := 0x01
abbrev Shm.STATUS : Nat := 0x10
abbrev Shm.RESERVE : Nat := 0x11
abbrev Shm.CLOCK : Nat := 0x13
abbrev Shm.RECT_SET : Nat := 0x20
abbrev Shm.RECT_STAT : Nat := 0x21
abbrev Shm.BMOD_STAT : Nat := 0x30

/-- The ports that SHB.PORT_MODE uses for rectifiers and peers (R445). -/
def sendPorts (s : State) : List (Fin 2) :=
  match pn s Prm.SHB_PORT_MODE with
  | 0 => [0]
  | 1 => [0, 1]
  | 2 => [0]
  | _ => []

/-- The ports that SHB.PORT_MODE uses at all (R445). -/
def usedPorts (s : State) : List (Fin 2) :=
  match pn s Prm.SHB_PORT_MODE with
  | 0 => [0]
  | 1 => [0, 1]
  | 2 => [0, 1]
  | _ => []

/-- The ports on which a frame goes out: those of its node kind, and for ANNOUNCE and the STATUS of SAFE-KEEP every port in use,
but none in bus-off (R445, R461 to R463). -/
def framePorts (s : State) (type : Nat) : List (Fin 2) :=
  let l := if type = Shm.ANNOUNCE ∨ type = Shm.STATUS ∧ s.sys.mode = .safeKeep then usedPorts s else sendPorts s
  l.filter fun p => !(s.shb.port.get p).off

/-- The ports transmit frames of a type: the start has released them, XIN is present, and one of them is not in bus-off (R461,
R462). -/
def canSend (s : State) (type : Nat) : Bool :=
  s.shb.live && !s.sys.clkFault && s.sys.mode != .recovery && s.sys.mode != .dormant && !(framePorts s type).isEmpty

/-- A frame goes out with the next sequence count (R446, R448). -/
def sendFrame (prio type dst gen : Nat) (rest : List Nat) (s : State) : State :=
  if !canSend s type then s
  else
    let f : ShbOut := {
      prio := prio, type := type, dst := dst, bytes := gen * 64 :: s.shb.seq :: rest
      src := pn s Prm.SHB_NODE % 8, ports := framePorts s type }
    { s with shb := { s.shb with seq := (s.shb.seq + 1) % 256, sent := s.shb.sent ++ [f] } }

/-- The lowest generation this Hatan accepts: the larger of 1 and SHB.GEN_MIN. -/
def ownGenLo (s : State) : Nat := max 1 (pn s Prm.SHB_GEN_MIN)

/-- The highest generation of the running image. -/
def ownGenHi (s : State) : Nat := imgGenHi (runBank s)

/-- The mode is one in which this Hatan sends everything: STANDBY to CUTOFF and HANDOVER (Table 17.6). -/
def fullShb (m : Mode) : Bool :=
  match m with
  | .standby => true | .online => true | .bridge => true | .recharge => true | .maintain => true | .handover => true
  | .cutoff => true
  | .recovery => false | .boot => false | .commission => false | .safeKeep => false | .dormant => false

/-- SHB.DEVn. -/
def devAddr (s : State) (c : Ch) : Nat := pn s (Prm.SHB_DEV0 + c.val)

/-- The generation in use with a device: the higher generations of both ends (R458). -/
def devGen (s : State) (c : Ch) : Nat := min (ownGenHi s) (s.shb.dev.get c).genHi

/-- A device whose highest generation lies below SHB.GEN_MIN (R457). -/
def devLow (s : State) (c : Ch) : Bool := (s.shb.dev.get c).announced && decide ((s.shb.dev.get c).genHi < ownGenLo s)

/-- A rectifier newly held listen-only is recorded with its range; one no longer held may be recorded again (R457,
Table 19.5). -/
def noteLowDev (c : Ch) (s : State) : State :=
  let d := s.shb.dev.get c
  let low := devAddr s c != 0 && devLow s c
  let s := if low && !d.low then logEvent Evt.SHB_PEER_LOW 2 (0x70 + c.val) [d.genLo * 16 + d.genHi] s else s
  { s with shb := { s.shb with dev := vmod s.shb.dev c fun x => { x with low := low } } }

/-- A bound rectifier that announces itself, within range of generations (R450, R457). -/
def devBound (s : State) (c : Ch) : Bool := devAddr s c != 0 && (s.shb.dev.get c).announced && !devLow s c

/-- A bound rectifier that answers RECT_SET: not silent for 3 cycles (R451, R453). -/
def devAnswers (s : State) (c : Ch) : Bool := devBound s c && decide ((s.shb.dev.get c).miss < 3)

/-- RECT_SET goes to a rectifier that answers, and once after each ANNOUNCE to one that has fallen silent (R451, log 41). -/
def devAsked (s : State) (c : Ch) : Bool := devAnswers s c || (devBound s c && (s.shb.dev.get c).lastSeq.isNone)

/-- RECT_SET to the rectifier of a channel: setpoint, limit, and command 0 run, 1 off, 2 start (R451). A limit above what
32 bits hold below the code for none is sent as none. -/
def sendRectSet (c : Ch) (mv : Int) (limit : Option Nat) (cmd : Nat) (s : State) : State :=
  if s.shb.listen || !fullShb s.sys.mode || !devAsked s c || !canSend s Shm.RECT_SET then s
  else
    let seq := s.shb.seq
    let lim := match limit with
      | some n => min n 0xFFFFFFFF
      | none => 0xFFFFFFFF
    let s := sendFrame 1 Shm.RECT_SET (devAddr s c) (devGen s c)
      (beBytes 4 (asBits 32 mv) ++ beBytes 4 lim ++ [cmd, 0]) s
    { s with shb := { s.shb with dev := vmod s.shb.dev c fun d => { d with lastSeq := some seq, answered := false } } }

/-- The setpoint of a channel's rectifier: BUS.V_SET_MV, its trim and the probe offset (R236). -/
def setpoint (s : State) (c : Ch) : Int := pget s Prm.BUS_V_SET_MV + s.bus.trim.get c + s.bat.probe

/-- The rectifier of a channel in WAIT under R205 needs to be started: the Hatan switched it off, or its last RECT_STAT
shows its output off (R451). -/
def needsStart (s : State) (c : Ch) : Bool :=
  (s.chan c).yoyo == .waiting && (s.bus.rectOff.get c || !(s.shb.dev.get c).flags.testBit 0)
    && decide (s.bus.vMv ≤ pget s Prm.BUS_OV_MV)

/-- RECT_SET with the setpoint and the limit in force: with command 2 for a rectifier that needs to be started, with
command 1 for one switched off under R244, which goes on being told so (R451). -/
def sendSet (c : Ch) (s : State) : State :=
  let cmd := if needsStart s c then 2 else if s.bus.rectOff.get c then 1 else 0
  let s := sendRectSet c (setpoint s c) (s.bus.limit.get c) cmd s
  if cmd = 2 then { s with bus := { s.bus with rectOff := vput s.bus.rectOff c false } } else s

/-- The limit of a rectifier takes a new value, which a RECT_SET tells it (R451). -/
def putLimit (c : Ch) (l : Option Nat) (s : State) : State :=
  if s.bus.limit.get c = l then s
  else sendSet c { s with bus := { s.bus with limit := vput s.bus.limit c l } }

/-- Every rectifier limit is lifted (R243, R438, R440). -/
def liftAll (s : State) : State :=
  forEach allCh (fun c s => putLimit c none s) { s with bat := { s.bat with iB := none } }

end Sys2Proof.Machine
end

