-- ==== Sys2Proof/Machine/Trips.lean ====
section
/-! DEFINITION. How channels open: the end of an inrush and of a test, shedding, trips and the yo-yo (chapters 6, 7, 8). -/

namespace Sys2Proof.Machine

/-! ### The end of a battery test (R439) -/

/-- The strings whose channels a test names. -/
def namedStr (s : State) (t : TestRun) : List Str :=
  (boundStr s).filter fun k =>
    match boundCh s k with
    | some c => t.named.testBit c.val
    | none => false

/-- The four result words of a test. -/
def testWords (s : State) (t : TestRun) (outcome learned : Nat) : List Nat :=
  let drawn : Rat := (namedStr s t).foldl (fun n k => n + t.drawn.get k) 0
  [(optime s - t.at_) / 1024, (ratFree 2 drawn).toNat, t.lowCell % 2 ^ 16 * 2 ^ 16 + outcome * 2 ^ 8, learned]

/-- A test ends with an outcome of Table 16.7: its completion, its event record, and the strings left ON in BULK. The limits
are lifted at the next cycle boundary, after outcome 4 at once (R438, R439). -/
def endTest (outcome learned : Nat) (s : State) : State :=
  match s.bat.test with
  | none => s
  | some t =>
    let w := testWords s t outcome learned
    let st := if outcome = 4 then St.ABORTED else St.OK
    let sev := if outcome = 4 ∨ (outcome = 1 ∧ t.code = Opn.DUR_TEST) then 2 else 1
    let obj := match (namedStr s t).head? with
      | some k => objStr k
      | none => objNone
    let s := { s with bat := { s.bat with test := none } }
    let s := if outcome = 4 then liftAll s else s
    let s := forEach t.part (fun k s =>
      { s with bat := { s.bat with s := vmod s.bat.s k fun x => { x with phase := 2 } } }) s
    let s := match t.tag with
      | some id => complete id st (opWord t.code 0 0 :: w.map wd) s
      | none => s
    let s := logEvent Evt.TEST_END sev obj w s
    let s := if s.tin.override then s else forEach t.part (fun k s => queueWrite RT.BAT_HISTORY k.val s) s
    returnOp t.op s

/-- A running test in which the channel's string takes part ends with outcome 4 (R438). -/
def endTestOf (c : Ch) (s : State) : State :=
  match s.bat.test with
  | none => s
  | some t => if t.part.any fun k => boundCh s k == some c then endTest 4 0 s else s

/-! ### Leaving the sharing set (R238) -/

/-- The channel no longer conducts: its rectifier leaves S, and a walk-in in hand is aborted. -/
def leaveSet (c : Ch) (s : State) : State :=
  if s.bus.walk.get c = .out then s
  else
    let ops := (s.adm.queue ++ s.adm.grants).filter fun o => o.code == Opn.WALKIN && o.ch == some c
    let s := { s with bus := { s.bus with walk := vput s.bus.walk c .out } }
    match ops.head? with
    | some o => rejudge (withdrawOp o 6 s)
    | none => s

/-! ### The end of an inrush (R172, R177, R182) -/

/-- The capacitance of a completed phase 2 in µF, 0 when not measured (R177). -/
def measuredC (r : Inr) (x : Chan) : Nat :=
  let dv : Int := (r.dv0 : Int) - sideDiff x
  if r.phase = 2 ∧ 0 < dv then (ratNear ((r.sum16 : Rat) / (dv : Rat))).toNat else 0

/-- The result words of Table 6.2, or of a FET_TEST (R407). -/
def inrushWords (r : Inr) (x : Chan) (ok : Bool) : List Nat :=
  match r.fet with
  | some f => [f.peakI, asBits 16 r.peak * 2 ^ 16, asBits 32 f.dropAt]
  | none => [r.ticks, asBits 16 r.peak * 2 ^ 16, if ok then measuredC r x else 0, (r.charge16 + 15999999) / 16000000]

/-- A restoration whose last inrush has ended returns its grant (R588). -/
def endRestores (s : State) : State :=
  match s.adm.grants.find? fun o => o.code == Opn.RESTORE && o.open_.isEmpty && s.bus.restore != some o.id with
  | some o => returnOp o.id s
  | none => s

/-- The inrush of a channel ends: the grant returns at the same tick, and its end is reported. -/
def endInrush (c : Ch) (ok : Bool) (s : State) : State :=
  match (s.chan c).inr with
  | none => s
  | some r =>
    let x := s.chan c
    let w := inrushWords r x ok
    let far := measuredC r x
    let op := chGrant s c
    let s := modCh c (fun x => { x with
      inr := none, grant := none, farC := if ok && far != 0 then far else x.farC, retryWait := false, freeTry := false }) s
    let drop := fun (p : Op) => if p.code = Opn.RESTORE then { p with open_ := p.open_.filter (· != c) } else p
    let id := op.map Op.id
    let s := { s with adm := { s.adm with grants := (s.adm.grants.filter fun o => some o.id != id).map drop } }
    let st := if ok then St.OK else St.ABORTED
    let s := match r.filer with
      | .host id => complete id st (opWord (if r.fet.isSome then Opn.FET_TEST else Opn.INRUSH) 0 0 :: w.map wd) s
      | _ => logEvent Evt.INRUSH_DONE 1 c.val (w ++ [st]) s
    endRestores (rejudge s)

/-! ### Openings that are not trips (R128) -/

/-- A channel opens, or stands open, in a state that does not conduct. -/
def openTo (c : Ch) (st : ChSt) (g : Gate) (s : State) : State :=
  let s := endInrush c false s
  let s := modCh c (fun x => x.toLow st g) s
  setProbe c (leaveSet c s)

/-- An opening under R128 that no reflex and no trip makes: at once, or at the first tick after the group's reload (R156). -/
def shutCh (c : Ch) (st : ChSt) (g : Gate) (s : State) : State :=
  if reloads s c then putOff (.shut st g) c s else openTo c st g s

/-- A WAIT channel opens, its request withdrawn (Table 5.7). -/
def cancelWait (c : Ch) (dec : Nat) (s : State) : State := setProbe c (unwait c (withdrawCh c dec s))

/-- A shedding step names a channel (R210, R231). -/
def shedCh (c : Ch) (s : State) : State :=
  let s := modCh c (fun x => { x with shed := true }) s
  match (s.chan c).st with
  | .inrush => openTo c .opened (openGate s c) s
  | .on => openTo c .opened (openGate s c) s
  | .diode => openTo c .opened (openGate s c) s
  | .wait => cancelWait c 5 s
  | _ => s

/-- The channels of BUS.SHED_MAPk, k from 1. -/
def shedMap (s : State) (k : Nat) : Nat := pn s (Prm.BUS_SHED_MAP1 + (k - 1)) % 2 ^ 24

/-- The union of the maps 1 to k. -/
def shedUnion (s : State) (k : Nat) : Nat :=
  (List.range 4).foldl (fun m j => if j < k then m ||| shedMap s (j + 1) else m) 0

/-- A step of stage `j` names a channel; a channel whose CHn.CLASS_EFF is SAFETY is never shed (R16, R229). While its group
reloads, the step is latched for the group's first tick (R291). -/
def shedBy (j : Nat) (c : Ch) (s : State) : State :=
  if classEff s c = 0 then s
  else
    let s := modCh c (fun x => { x with shedStage := j }) s
    if reloads s c then modCh c (fun x => { x with shedDue := true }) s else shedCh c s

/-- The stage whose map holds a channel, the lowest one; `d` where none does. -/
def shedStageOf (s : State) (d : Nat) (c : Ch) : Nat :=
  match (List.range 4).find? fun j => (shedMap s (j + 1)).testBit c.val with
  | some j => j + 1
  | none => d

/-- The stages from the present one up to `k` are shed at once (R231, R232). -/
def shedTo (k : Nat) (s : State) : State :=
  let old := s.bus.stage
  if k ≤ old then s
  else
    forEach ((List.range 4).filter fun j => old ≤ j ∧ j < k)
      (fun j s => forEach (chNamed (shedMap s (j + 1))) (shedBy (j + 1)) s)
      { s with bus := { s.bus with stage := k, stepAt := some s.clock } }

/-! ### Trips (R192, R198 to R206, R215) -/

/-- A list of cause codes as CHn.TRIP_CAUSE.CAUSES. -/
def causeBits (met : List Nat) : Nat := met.foldl (fun n k => n ||| 2 ^ k) 0

/-- CHn.TRIP_CAUSE (Table 7.5). -/
def tripCause (x : Chan) : Nat := x.attempts * 2 ^ 24 + x.action * 2 ^ 20 + x.first * 2 ^ 16 + x.causes

/-- The causes with their actions under a word of CHn.TRIP_RULES; a cause the role does not use is none. -/
def actionsIn (rules : Nat) (s : State) (c : Ch) (met : List Nat) : List (Nat × Nat) :=
  met.filterMap fun k => (actionIn (roleOf s c) rules k).map fun a => (k, a)

/-- CHn.TRIP_RULES in force. -/
def rulesNow (s : State) (c : Ch) : Nat := chn s c Chp.TRIP_RULES

/-- The causes with the actions in force for them. -/
def actions (s : State) (c : Ch) (met : List Nat) : List (Nat × Nat) := actionsIn (rulesNow s c) s c met

/-- The strongest action: LATCH, WAIT, RETRY, RECORD (R200). -/
def strongest (acts : List (Nat × Nat)) : Nat := acts.foldl (fun m p => max m p.2) 0

/-- The lowest cause that carries an action. -/
def firstWith (acts : List (Nat × Nat)) (a : Nat) : Nat :=
  (acts.filter fun p => p.2 == a).foldl (fun m p => min m p.1) 15

/-- The delay before the next attempt in ms (R201). -/
def retryDelay (s : State) (c : Ch) (attempts : Nat) : Nat :=
  min (chn s c Chp.RETRY_DELAY_MS * chn s c Chp.RETRY_BACKOFF ^ attempts / 16 ^ attempts) (chn s c Chp.RETRY_DELAY_MAX_MS)

/-- A latch: its event record and its record in the state store (R213, R215). -/
def latchRecords (c : Ch) (s : State) : State :=
  let sev := if classEff s c = 0 then 3 else 2
  queueWrite RT.LATCH 0 (logEvent Evt.LATCH sev c.val [tripCause (s.chan c)] s)

/-- A channel meets causes while it conducts: a trip, or for those of `told` whose action is RECORD the records of R199. The
trip's tick is still to come for a reflex: until then the causes of that tick join it (R200), and its delay starts there (R201). -/
def tripIn (rules : Nat) (told : List Nat) (c : Ch) (met : List Nat) (s : State) : State :=
  let acts := actionsIn rules s c met
  let top := strongest acts
  if acts = [] then s
  else if top = 0 then
    forEach (acts.filter fun p => told.contains p.1) (fun p s => logEvent Evt.TRIP_RECORDED 1 c.val [p.1] s) s
  else
    let n := (s.chan c).attempts
    let latch := top == 3 || (top == 1 && decide (chn s c Chp.RETRY_MAX ≤ n))
    let act := if latch then 3 else top
    let len := retryDelay s c n * 1000
    let yo := if latch then Yoyo.idle else if top = 2 then .waiting else .delay len
    let st := if latch then ChSt.latched else .tripped
    let s := openTo c st .lowFull s
    let s := modCh c (fun x => { x with
      causes := causeBits (acts.map Prod.fst), first := firstWith acts top, action := act, ol := 0, yoyo := yo,
      tripCount := sat32 (x.tripCount + 1), clearRun := 0, fresh := true, closedAt := none
      delayLen := if top = 1 ∧ !latch then len else x.delayLen }) s
    let s := logEvent Evt.TRIP 2 c.val [tripCause (s.chan c)] s
    let s := if latch then latchRecords c s else s
    endTestOf c s

/-- A trip under the rules in force. -/
def tripCh (c : Ch) (met : List Nat) (s : State) : State := tripIn (rulesNow s c) met c met s

/-- Causes met at the tick of a trip that a reflex has begun: they join it, and the strongest action of all acts (R200). -/
def joinTrip (c : Ch) (met : List Nat) (s : State) : State :=
  let acts := actions s c met
  let top := strongest acts
  let x := s.chan c
  let s := modCh c (fun x => { x with causes := x.causes ||| causeBits (acts.map Prod.fst) }) s
  if acts = [] ∨ top < x.action then s
  else if top = x.action then modCh c (fun x => { x with first := min x.first (firstWith acts top) }) s
  else
    let s := modCh c (fun x => { x with
      first := firstWith acts top, action := top, yoyo := if top = 2 then .waiting else .idle
      st := if top = 3 then .latched else x.st }) s
    if top = 3 then latchRecords c s else s

/-- A channel meets causes while it does not conduct: they are recorded (R198). -/
def recordCh (c : Ch) (met : List Nat) (s : State) : State :=
  let acts := actions s c met
  if acts = [] then s else modCh c (fun x => { x with causes := x.causes ||| causeBits (acts.map Prod.fst) }) s

/-- Causes whose action is WAIT, LATCH or RETRY are met in a retry WAIT (R206). -/
def retryCauses (c : Ch) (met : List Nat) (s : State) : State :=
  let top := strongest (actions s c met)
  let x := s.chan c
  if x.st ≠ .wait ∨ !x.retryWait ∨ top = 0 then s
  else
    let s := withdrawCh c 5 (modCh c (fun x => { x with st := .tripped }) s)
    let yo := if top = 3 then Yoyo.idle else if top = 2 then .waiting else .delay x.delayLen
    let s := modCh c (fun x => { x with
      st := if top = 3 then ChSt.latched else .tripped, retryWait := false, freeTry := false, yoyo := yo, clearRun := 0,
      fresh := true }) s
    if top = 3 then latchRecords c s else s

/-- The state is one of those whose causes are recorded only (R198). -/
def ChSt.records : ChSt → Bool
  | .opened => true | .tripped => true | .wait => true | .latched => true
  | .disabled => false | .oos => false | .inrush => false | .on => false | .diode => false | .armed => false
  | .isolated => false

/-- Causes reach a channel. While its group reloads they are held for the first tick after it (R46). In SAFE-KEEP the rules do
not act, and causes are recorded only (R211). -/
def meetIn (rules : Nat) (told : List Nat) (c : Ch) (met : List Nat) (s : State) : State :=
  if met = [] then s
  else if reloads s c then modCh c (fun x => { x with heldCauses := x.heldCauses ||| causeBits met }) s
  else if conducts s c then
    if s.tin.override then modCh c (fun x => { x with causes := x.causes ||| causeBits met }) s
    else tripIn rules told c met s
  else if (s.chan c).fresh && !s.tin.override then joinTrip c met s
  else if (s.chan c).st.records then recordCh c met s
  else s

/-- Causes met at an instant reach a channel; in a retry WAIT they act. -/
def meetCauses (c : Ch) (met : List Nat) (s : State) : State :=
  let s := meetIn (rulesNow s c) met c met s
  if reloads s c || s.tin.override then s else retryCauses c met s

/-- The cause under which a role records the UV comparator (R194). -/
def uvCause (s : State) (c : Ch) : Nat := if roleOf s c == .source then 3 else 4

/-- The UV cause is met: the comparator has read active for CHn.UV_FILT_US ticks. -/
def uvMet (s : State) (c : Ch) : Bool :=
  let x := s.chan c
  x.fUv && decide (chn s c Chp.UV_FILT_US ≤ x.uvRun)

/-- The causes whose condition holds at the latest tick (Table 7.1), in rising order. -/
def metCauses (s : State) (c : Ch) : List Nat :=
  let x := s.chan c
  let ol := chn s c Chp.OL_MS * 1000
  let inr := match x.inr with
    | some r => r.fet.isNone && decide (chn s c Chp.INRUSH_MAX_MS * 1000 ≤ r.ticks)
    | none => false
  [(uvCause s c, uvMet s c), (5, chn s c Chp.OL_MA != 0 && decide (ol ≤ x.ol)), (6, decide (chp s c Chp.TJ_MAX ≤ x.tj)),
    (7, inr), (8, extMet s c),
    (9, decide (10 ≤ x.pumpRun ∨ 2000 ≤ x.riseA ∨ 2000 ≤ x.riseB))].filterMap fun p => if p.2 then some p.1 else none

/-- A cause with the action RECORD is taken up at its onset only: the tick at which its count is reached. EXT is taken up
at the change of its line. -/
def atOnset (s : State) (c : Ch) (k : Nat) : Bool :=
  let x := s.chan c
  if k = 5 then x.ol == chn s c Chp.OL_MS * 1000
  else if k = 3 ∨ k = 4 then x.uvRun == chn s c Chp.UV_FILT_US
  else k != 8

/-- The causes of a tick reach a channel: those whose action is RECORD are told at their onset. -/
def meetTick (c : Ch) (s : State) : State :=
  let met := metCauses s c
  meetIn (rulesNow s c) (met.filter (atOnset s c)) c met s

/-- The causes of a tick that act in a retry WAIT: one whose action is RETRY only when it is newly met, so that attempts go on
while its condition stands (R206, R209). -/
def retryTick (c : Ch) (s : State) : State :=
  if (s.chan c).st = .wait then
    retryCauses c ((metCauses s c).filter fun k => actionOf s c k != some 1 || atOnset s c k) s
  else s

/-! ### Attempts (R202, R205, R208) -/

/-- A cause whose action is WAIT is met. -/
def waitMet (s : State) (c : Ch) : Bool := (metCauses s c).any fun k => actionOf s c k == some 2

/-- The causes of a WAIT have cleared (R205). -/
def waitClear (s : State) (c : Ch) : Bool :=
  let x := s.chan c
  let has := fun k => x.causes.testBit k && actionOf s c k == some 2
  let run := decide (chn s c Chp.UV_FILT_US ≤ x.clearRun)
  (!(has 3 || has 4) || run) && (!has 8 || !extMet s c)

/-- The conditions of R202 other than the delay. -/
def attemptReady (s : State) (c : Ch) : Bool :=
  let x := s.chan c
  x.st == .tripped && decide (x.tj ≤ chp s c Chp.TJ_RETRY) && !waitMet s c && !x.shed && inrushModes s c .retry

/-- Attempt k begins: TRIPPED goes to WAIT, and the firmware files the inrush (R202). -/
def beginAttempt (free : Bool) (c : Ch) (s : State) : State :=
  let s := modCh c (fun x => { x with retryWait := true, freeTry := free, yoyo := .idle }) s
  fileInrush c .retry none s

/-- The yo-yo of a TRIPPED channel at a tick; the tick of the trip itself is the first of no delay. -/
def yoyoTick (c : Ch) (s : State) : State :=
  let x := s.chan c
  if x.fresh then modCh c (fun x => { x with fresh := false }) s
  else if x.st ≠ .tripped then s
  else
    match x.yoyo with
    | .idle => s
    | .delay n =>
      if 1 < n then modCh c (fun x => { x with yoyo := .delay (n - 1) }) s
      else
        let s := modCh c (fun x => { x with yoyo := .ready }) s
        if attemptReady s c then beginAttempt false c s else s
    | .ready => if attemptReady s c then beginAttempt false c s else s
    | .waiting => if waitClear s c && attemptReady s c then beginAttempt true c s else s

/-- Each TRIPPED channel schedules its next attempt afresh, its count kept (R211). -/
def rescheduleAll (s : State) : State :=
  forEach allCh (fun c s =>
    let x := s.chan c
    if x.st = .tripped ∧ x.yoyo ≠ .waiting then
      let len := retryDelay s c x.attempts * 1000
      modCh c (fun x => { x with yoyo := .delay len, delayLen := len }) s
    else s) s

end Sys2Proof.Machine
end

