-- ==== Sys2Proof/Machine/Sheet.lean ====
section
/-! DEFINITION. The safety sheet, what the Tin Soldier latches from it, and its two outputs SAFE_OK and nFAULT
(R256 to R265). -/

namespace Sys2Proof.Machine

/-! ### The data of a half (Tables 9.7 and 9.8) -/

/-- Data word `k` of units 0 to 2: unit 0 holds words 0 to 29, units 1 and 2 the words from 30 on. -/
def sheetWord (d : List Word) (k : Nat) : Word := d.getD k 0

/-- The keep entry of two words. -/
def keepOf (w0 w1 : Word) : Keep :=
  { keep := w0.bit 31, soft := w0.bit 30, gain4 := w0.bit 29, oc := w0.field 12 12, rc := w0.field 0 12,
    uv := w1.field 16 16, filt := w1.field 0 16 }

/-- The keep entry of a channel. -/
def sheetEntry (d : List Word) (c : Ch) : Keep := keepOf (sheetWord d (30 + 2 * c.val)) (sheetWord d (31 + 2 * c.val))

/-- The rules of Table 9.8 for one entry. -/
def Keep.valid (k : Keep) : Bool :=
  if k.keep then
    decide (32 ≤ k.oc ∧ k.oc ≤ 3968) && (k.rc == 0 || decide (32 ≤ k.rc ∧ k.rc ≤ 3968))
      && (k.uv == 0 || decide (4000 ≤ k.uv ∧ k.uv ≤ 64000 ∧ k.uv % 50 = 0))
      && (if k.uv = 0 then k.filt == 0 else decide (1 ≤ k.filt ∧ k.filt ≤ 60000))
  else !k.gain4 && k.oc == 0 && k.rc == 0 && k.uv == 0 && k.filt == 0

/-- The data meet R261 for header and entries. -/
def sheetValid (d : List Word) : Bool :=
  sheetWord d 0 == 0x5A48534B && sheetWord d 1 == 0x00010003 && allCh.all fun c => (sheetEntry d c).valid

/-! ### Units and halves (R258, R261, Table 9.6) -/

/-- The 256 bytes of a unit of a half. -/
def unitBytes (m : SheetMem) (u : Nat) : List Nat := (List.range 256).map fun i => (byteAt m.cells (256 * u + i)).toNat

/-- The unit of an index is valid: complement, index and CRC-32. -/
def unitOk (u : Nat) (b : List Nat) : Bool :=
  ((List.range 120).all fun i => b.getD (120 + i) 0 == 255 - b.getD i 0) && beNat ((b.drop 240).take 2) == u
    && beNat (b.drop 252) == crc32 (b.take 252)

/-- The generation of a unit. -/
def unitGen (b : List Nat) : Nat := beNat ((b.drop 244).take 4)

/-- The data of a unit as its 30 words. -/
def unitData (b : List Nat) : List Word := (bytesWords (b.take 120)).map wd

/-- What a half holds when it is valid: units 0 to 2 valid with one generation, and their data in order (R261). -/
def halfOf (m : SheetMem) : Option Half :=
  let b0 := unitBytes m 0
  let b1 := unitBytes m 1
  let b2 := unitBytes m 2
  let d := unitData b0 ++ unitData b1 ++ unitData b2
  if !m.bad && unitOk 0 b0 && unitOk 1 b1 && unitOk 2 b2 && unitGen b0 == unitGen b1 && unitGen b1 == unitGen b2
      && sheetValid d then
    some { gen := unitGen b0, data := d }
  else none

/-- The bytes of a unit with a generation and its data. -/
def unitImage (gen u : Nat) (d : List Word) : List Nat :=
  let a := wordsBytes (d.map fun w => w.toNat)
  let body := a ++ a.map (fun x => 255 - x) ++ beBytes 2 u ++ [0, 0] ++ beBytes 4 gen ++ [0, 0, 0, 0]
  body ++ beBytes 4 (crc32 body)

/-- A half with units 0 to 2 written anew; units 3 to 127 stay as they are. -/
def writeHalf (gen : Nat) (d : List Word) (m : SheetMem) : SheetMem :=
  let put := fun (u : Nat) (l : List Host.Cell) =>
    putBytes l (256 * u) ((unitImage gen u ((d.drop (30 * u)).take 30)).map fun x => BitVec.ofNat 8 x)
  { cells := put 2 (put 1 (put 0 m.cells)), bad := false }

/-! ### The sheet in force (R261) -/

/-- The half in force: the valid half with the higher generation, and whether it is the upper one. -/
def sheetForce (s : State) : Option (Bool × Half) :=
  match halfOf s.tin.lower, halfOf s.tin.upper with
  | none, none => none
  | some l, none => some (false, l)
  | none, some u => some (true, u)
  | some l, some u => if l.gen < u.gen then some (true, u) else some (false, l)

/-- SFK.SHEET_GEN. -/
def sheetGen (s : State) : Nat :=
  match sheetForce s with
  | some (_, h) => h.gen
  | none => 0

/-- SFK.KEEP_MAP. -/
def keepMap (s : State) : Nat := chMap fun c => (s.tin.keep.get c).keep

/-! ### Latching (R264, R265) -/

/-- SFK.GAIN_DIFF is computed again. -/
def gainDiff (s : State) : State :=
  let m := chMap fun c =>
    let k := s.tin.keep.get c
    k.keep && k.gain4 != (chn s c Chp.GAIN == 1)
  { s with tin := { s.tin with gainDiff := m } }

/-- The keep entries of the sheet in force, an empty keep set where there is none. -/
def sheetKeeps (s : State) : Vector Keep 24 :=
  match sheetForce s with
  | some (_, h) => allCh.foldl (fun v c => vput v c (sheetEntry h.data c)) (Vector.replicate 24 Keep.none)
  | none => Vector.replicate 24 Keep.none

/-- The Tin Soldier latches the keep set and the thresholds; never in SAFE-KEEP. The firmware's comparisons follow. -/
def latchSheet (s : State) : State :=
  if inSafeKeep s then s
  else sheetDiff (gainDiff { s with tin := { s.tin with keep := sheetKeeps s } })

/-! ### SAFE_OK and nFAULT (R256, R257) -/

/-- The patterns of SAFE_OK (Table 9.4). -/
inductive SafeOk
  | low | khz1 | hz4
  deriving DecidableEq, Repr

/-- SAFE_OK as Table 9.4 drives it. The Tin Soldier's own check, once passed, stands until it loses its supply. -/
def safeOk (s : State) : SafeOk :=
  if !s.tin.checked then .low
  else if inSafeKeep s then .hz4
  else if s.tin.armed || s.tin.window then .khz1
  else .low

/-- H_SAFE.OK_BEAT: a square wave runs. -/
def okBeat (s : State) : Bool := safeOk s != .low && !s.tin.silent

/-- H_STATUS.SIMPLEX: while no witness runs in SAFE-KEEP it reads 1 (R51, R255). -/
def simplexBit (s : State) : Bool := s.sys.simplex || (inSafeKeep s && !anyPup s)

/-- The maskable sources of nFAULT present, in the order of Table 9.5. -/
def faultSources (s : State) : Nat :=
  bitAt s.tin.silent 0 + bitAt (simplexBit s) 1
    + bitAt (allCh.any fun c => (s.chan c).st == .latched && classEff s c == 0) 2
    + bitAt (s.bus.cond % 4 != 3) 3 + bitAt (sheetForce s).isNone 4
    + bitAt (s.tin.gainDiff != 0 || allCh.any fun c => (s.chan c).sheetDiff) 5

/-- nFAULT is low (R257, R535). -/
def nFaultLow (s : State) : Bool :=
  !s.tin.everArmed || inSafeKeep s || s.svc.debug != 0 || (faultSources s &&& pn s Prm.SFK_NFAULT_MASK) != 0

end Sys2Proof.Machine
end

