-- ==== Sys2Proof/Machine/Effects.lean ====
section
/-! DEFINITION. Parameters that come into force, and what their coming into force does (R12, R14, R155, R168, R212, R305,
R312, R327). -/

namespace Sys2Proof.Machine

/-- The effect moment of an ID. -/
def effOf (id : Nat) : Option PEff := (paramRow id).map ParamRow.eff

/-- The channel and offset of an ID of a channel block. -/
def chanOf (id : Nat) : Option (Ch × Nat) :=
  if h : 0x1000 ≤ id ∧ id < 0x1600 then some (⟨(id - 0x1000) / 0x40, by omega⟩, (id - 0x1000) % 0x40) else none

/-! ### Roles (R129, R155, R169, R212) -/

/-- A role takes effect on a channel: it opens first, and its trip state ends. -/
def roleNow (c : Ch) (s : State) : State :=
  let s := if (s.chan c).st = .wait then cancelWait c 5 s else s
  let s := if conducts s c then openTo c .opened (openGate s c) s else s
  if roleOf s c = .disabled then
    modCh c (fun x => { x with
      st := .disabled, gateA := .lowFull, gateB := .lowFull, theta := Vector.replicate 4 0, tj := x.tref, attempts := 0,
      yoyo := .idle, fOc := false, fRc := false, fUv := false, equal := false, probe := false,
      shed := false, ovr := false, closedAt := none }) (leaveSet c s)
  else
    let st := (s.chan c).st
    let dest := if st = .disabled ∨ st = .tripped ∨ st = .latched then
        (if (s.chan c).oos then ChSt.oos else .opened) else st
    setProbe c (modCh c (fun x => { x with st := dest, attempts := 0, yoyo := .idle }) s)

/-- A role takes effect; while the group reloads, its channels keep their states and gates, and the change waits (R156). -/
def roleHook (c : Ch) (s : State) : State := if reloads s c then putOff .role c s else roleNow c s

/-! ### Entries and slots that take effect at a boundary (R312, R327) -/

/-- A filter that restarts now, at a boundary. -/
def freshFilt (s : State) : Filt := { Filt.reset with part := false, at_ := s.clock }

/-- An entry's new word: its filter restarts with its state cleared. -/
def seqHook (k : Grp) (e : Fin 32) (w : Nat) (s : State) : State :=
  { s with cnv := { s.cnv with seq := vmod s.cnv.seq k fun q => { q with
    table := vput q.table e w, filt := vput q.filt e (freshFilt s) } } }

/-- A slot's new configuration byte clears it. -/
def slotHook (i : Fin 192) (b : Nat) (s : State) : State :=
  { s with acc := { s.acc with slot := vmod s.acc.slot i fun x =>
    if x.cfg = b then x else { AccSlot.reset with cfg := b } } }

/-- The four slots of ACC.SLOTCFGg. -/
def slotsHook (g : Fin 48) (w : Nat) (s : State) : State :=
  forEach (List.finRange 4) (fun j s => slotHook ⟨4 * g.val + j.val, by omega⟩ (fieldOf w (8 * j.val) 8 &&& 0xE0) s) s

/-! ### Thermistor references (R167) -/

/-- The thermistor that a TREF_SRC names. -/
def trefNtc (src : Nat) : Option Ntc := if h : 1 ≤ src ∧ src ≤ 8 then some ⟨src - 1, by omega⟩ else none

/-- A new CHn.TREF_SRC names a thermistor declared invalid: the fallback begins. -/
def trefHook (c : Ch) (s : State) : State :=
  match trefNtc (chn s c Chp.TREF_SRC) with
  | none => modCh c (fun x => { x with fallback := false }) s
  | some k =>
    if (s.cnv.ntc.get k).st = .invalid then
      logEvent Evt.TREF_FALLBACK 2 c.val [k.val] (modCh c (fun x => { x with fallback := true }) s)
    else modCh c (fun x => { x with fallback := false }) s

/-! ### A value comes into force -/

/-- A channel's current coefficients return to nominal (R305), and the store's record of them follows, so that no later
start brings them back. -/
def dropCoef (c : Ch) (s : State) : State :=
  if s.cnv.coefs.any fun p => p.1 == c.val then
    offerWrite RT.CAL c.val (.cal 0 0) { s with cnv := { s.cnv with coefs := s.cnv.coefs.filter fun p => p.1 != c.val } }
  else s

/-- What the coming into force of a channel parameter does. -/
def chHook (c : Ch) (off : Nat) (s : State) : State :=
  if off = Chp.ROLE then roleHook c s
  else if off = Chp.SHUNT_UOHM then dropCoef c s
  else if off = Chp.GAIN then sheetDiff (gainDiff (dropCoef c s))
  else if Chp.ZTH1 ≤ off ∧ off ≤ Chp.ZTH4 then modCh c (sharePoles s c) s
  else if off = Chp.TREF_SRC then trefHook c s
  else if off = Chp.PRES_MODE then setProbe c (modCh c (fun x => { x with presRestart := true }) s)
  else s

/-- A channel's rectifier is bound anew: what was known belongs to another device (R450). -/
def bindHook (c : Ch) (s : State) : State := { s with shb := { s.shb with dev := vput s.shb.dev c Dev.reset } }

/-- A string's run of modules is bound anew (R454). -/
def modHook (k : Str) (s : State) : State :=
  { s with shb := { s.shb with mod := vput s.shb.mod k (Vector.replicate 16 Bmod.reset) } }

/-- What the coming into force of any parameter does. -/
def forceHook (id : Nat) (s : State) : State :=
  match chanOf id with
  | some (c, off) => chHook c off s
  | none =>
    if h : 0x580 ≤ id ∧ id < 0x600 then
      seqHook ⟨(id - 0x580) / 32, by omega⟩ ⟨(id - 0x580) % 32, by omega⟩ (pn s id) s
    else if h : 0x640 ≤ id ∧ id < 0x670 then slotsHook ⟨id - 0x640, by omega⟩ (pn s id) s
    else if h : 0x0B20 ≤ id ∧ id < 0x0B38 then bindHook ⟨id - 0x0B20, by omega⟩ s
    else if h : 0x0B38 ≤ id ∧ id < 0x0B3C then modHook ⟨id - 0x0B38, by omega⟩ s
    else if id = Prm.SHB_GEN_MIN then forEach allCh noteLowDev s
    else if id = Prm.DRM_SOURCE then { s with mb := { s.mb with srcNew := true } }
    else s

/-- Thermistors whose bit of CNV.NTC_EN goes from 0 to 1 settle afresh (R302). -/
def ntcEnable (old new : Nat) (s : State) : State :=
  let v := (List.finRange 8).foldl (fun (v : Vector NtcS 8) k =>
    if new.testBit k.val && !old.testBit k.val then vmod v k (fun x => { x with st := .settling, good := 0 }) else v) s.cnv.ntc
  { s with cnv := { s.cnv with ntc := v } }

/-- A parameter's latest written value comes into force. -/
def takeForce (id : Nat) (s : State) : State :=
  if pget s id = pgetW s id then s
  else
    let old := pn s id
    let s := forceHook id (putF id (pgetW s id) s)
    if id = Prm.CNV_NTC_EN then ntcEnable old (pn s id) s else s

/-- The parameters of an effect moment whose latest written value is not yet in force, by rising ID. -/
def dueIds (e : PEff) (s : State) : List Nat :=
  (sortNat ((s.pw.map Prod.fst) ++ (s.pf.map Prod.fst))).eraseDups.filter fun id =>
    effOf id == some e && pget s id != pgetW s id

/-- The group whose parameter an ID is. -/
def grpOf (id : Nat) : Option Grp := allGrp.find? fun g => id == grpId g Grpp.ISO_PD

/-- The ID belongs to a channel or a group that is isolated: its value acts on the restoration (Table 4.3, R162). -/
def waitsForRestore (s : State) (id : Nat) : Bool :=
  match chanOf id with
  | some (c, _) => isolated s c
  | none => (match grpOf id with
    | some g => s.sys.isoGrp.contains g
    | none => false)

/-- The classes in use, for the comparison of R147. -/
def classes (s : State) : List Nat := allCh.map (classEff s)

/-- The writable fields of Table 16.1 as offsets of a string's parameters, in the order of the table. -/
def chemFields : List Nat :=
  [Strp.V_FLOAT_CELL, Strp.TC_UV_K, Strp.EOD0_CELL, Strp.EODK, Strp.FLOOR_CELL, Strp.SELFDIS]

/-- The default of field `i` of Table 16.1 under a chemistry, 1 VRLA, 2 LiFePO4. -/
def chemDefault (chem : Int) (i : Nat) : Int :=
  if chem = 1 then [2270, -3000, 1850, 250, 1650, 300].getD i 0 else [3350, 0, 2900, 300, 2500, 300].getD i 0

/-- A write of Sk.CHEM takes effect: every field of Table 16.1 that was not written with it or since takes the default of
the chemistry (R419). -/
def chemHook (k : Str) (s : State) : State :=
  let x := s.bat.s.get k
  if !x.chemDue then s
  else
    let chem := pget s (strId k Strp.CHEM)
    let s := forEach ((List.range 6).filter fun i => !x.chemKept.testBit i) (fun i s =>
      let id := strId k (chemFields.getD i 0)
      markDirty id (putF id (chemDefault chem i) (putW id (chemDefault chem i) s))) s
    { s with bat := { s.bat with s := vmod s.bat.s k fun y => { y with chemDue := false, chemKept := 0 } } }

/-- Every parameter of an effect moment comes into force; a change of class in use compares sheet and class again. -/
def forceAll (e : PEff) (s : State) : State :=
  let old := classes s
  let s := forEach ((dueIds e s).filter fun id => !waitsForRestore s id) takeForce s
  let s := if e = .mode then forEach allStr chemHook s else s
  if old = classes s then s else sheetDiff s

/-- The values that waited for a restoration come into force (Table 4.3, R162): those of effect IMM and MODE at once, those of
effect CYC at the next boundary. `cs` are the restored channels. -/
def forceRestored (cs : List Ch) (s : State) : State :=
  let old := classes s
  let ids := (dueIds .mode s ++ dueIds .imm s).filter fun id =>
    match chanOf id with
    | some (c, _) => cs.contains c
    | none => (match grpOf id with
      | some g => !s.sys.isoGrp.contains g
      | none => false)
  let s := forEach ids takeForce s
  if old = classes s then s else sheetDiff s

end Sys2Proof.Machine
end

