-- ==== Sys2Proof/Machine/ShbOut.lean ====
section
/-! DEFINITION. What the Hatan sends on the Share Bus: the frames of Tables 17.3 and 17.4 and when its ports may send
(R444 to R451, R457, R458, R462). -/

namespace Sys2Proof.Machine



/-- This Hatan's node, SHB.NODE (BOOT effect). -/
def ownNode (s : State) : Fin 8 := ⟨pn s Prm.SHB_NODE % 8, by omega⟩

/-- Byte 4 of ANNOUNCE: in HANDOVER the range of the staged image. -/
def handoverRange (s : State) : Nat :=
  if s.sys.mode = .handover then
    let k := idleBank s
    max (max 1 (pn s Prm.SHB_GEN_MIN)) (imgGenLo k) % 16 * 16 + imgGenHi k
  else 0

/-! ### Peers and generations (R456 to R459) -/

/-- The effective range of a peer: byte 3 of its ANNOUNCE, narrowed by byte 4 while that is not 0 (R457). -/
def peerRange (x : Peer) : Nat × Nat :=
  if x.lo2 = 0 ∧ x.hi2 = 0 then (x.lo, x.hi) else (max x.lo x.lo2, min x.hi x.hi2)

/-- SHB.PEERS. -/
def peersMap (s : State) : Nat := bitsOf (List.finRange 8) (fun k => s.shb.peer[k].present)

/-- The floor: the highest lowest generation among the effective ranges of the present Hatans (R457). -/
def genFloor (s : State) : Nat :=
  (List.finRange 8).foldl (fun (n : Nat) k =>
    if s.shb.peer[k].present then max n (peerRange s.shb.peer[k]).1 else n) 0

/-- A present Hatan whose highest effective generation lies below the floor (R457). -/
def belowFloor (s : State) (k : Fin 8) : Bool :=
  s.shb.peer[k].present && decide ((peerRange s.shb.peer[k]).2 < genFloor s)

/-- The lowest highest effective generation among the present Hatans that are not listen-only, none where there is none
(R458). -/
def genLowest (s : State) : Option Nat :=
  (List.finRange 8).foldl (fun (m : Option Nat) k =>
    if s.shb.peer[k].present && !belowFloor s k then
      let h := max 1 (min 3 (peerRange s.shb.peer[k]).2)
      match m with
      | none => some h
      | some n => some (min n h)
    else m) none

/-- Which Hatans are listen-only: this one finds itself, the others stand in SHB.PEER_LOW, each new one recorded (R457). -/
def refreshLow (s : State) : State :=
  let own := ownNode s
  let isLow := fun k => belowFloor s k
  let fresh := (List.finRange 8).filter fun k => k != own && isLow k && !s.shb.low.testBit k.val
  let low := bitsOf (List.finRange 8) fun k => k != own && isLow k
  let listen := isLow own
  let range := fun k => (peerRange s.shb.peer[k]).1 * 16 + (peerRange s.shb.peer[k]).2
  let t := { s with shb := { s.shb with low := low, listen := listen } }
  forEach fresh (fun k s => logEvent Evt.SHB_PEER_LOW 2 (0x60 + k.val) [range k] s) t

/-- The bus generation: a fall at once, a rise once it has held for 10 s (R458). -/
def refreshGen (s : State) : State :=
  match genLowest s with
  | none => s
  | some g =>
    if g < s.shb.gen then { s with shb := { s.shb with gen := g, rise := none } }
    else if g = s.shb.gen then { s with shb := { s.shb with rise := none } }
    else if s.shb.rise = some g then s
    else { s with shb := { s.shb with rise := some g, riseAt := s.clock } }

/-- The clock master: the present Hatan with the lowest node that is not listen-only (R459). -/
def clockMaster (s : State) : Option (Fin 8) :=
  (List.finRange 8).find? fun k => s.shb.peer[k].present && !belowFloor s k

/-- SHB.CLOCK_OFS is 0 while no other Hatan is the clock master (R459, R470). -/
def refreshClock (s : State) : State :=
  if clockMaster s = none ∨ clockMaster s = some (ownNode s) then { s with shb := { s.shb with clockOfs := 0 } } else s

/-- Generations and the clock master are judged anew. -/
def refreshPeers (s : State) : State := refreshClock (refreshGen (refreshLow s))

/-- An entry of a Hatan changes; a change of SHB.PEERS is told to host and log (R456). -/
def putPeer (k : Fin 8) (f : Peer → Peer) (s : State) : State :=
  let t := { s with shb := { s.shb with peer := vmod s.shb.peer k f } }
  let t :=
    if peersMap t = peersMap s then t
    else logEvent Evt.SHB_PEERS 1 objNone [peersMap t] (notifyAll Opc.NTF_PEER [wd (peersMap t)] (setIrq Irq.SHB t))
  refreshPeers t

/-- ANNOUNCE. With it this Hatan is present on its bus, with the range that it announces (R456, R457). -/
def sendAnnounce (s : State) : State :=
  if !canSend s Shm.ANNOUNCE then s
  else
    let lo := ownGenLo s
    let hi := ownGenHi s
    let h := handoverRange s
    let s := sendFrame 3 Shm.ANNOUNCE 0xFF 1
      ([0, lo * 16 + hi, h, s.shb.gen, 0, 0, 0, 0] ++ beBytes 6 (Config.serial % 2 ^ 48)) s
    putPeer (ownNode s) (fun x => { x with
      present := true, heard := true, lo := lo, hi := hi, lo2 := h / 16, hi2 := h % 16, at_ := s.clock }) s

/-- Byte 4 of STATUS. -/
def statusFlags (s : State) : Nat := bitAt s.shb.listen 2 + bitAt (simplexBit s) 1 + bitAt s.mb.mains 0

/-- PRIO of STATUS: 0 in BRIDGE, SAFE-KEEP and CUTOFF. -/
def statusPrio (m : Mode) : Nat := if m = .bridge ∨ m = .safeKeep ∨ m = .cutoff then 0 else 2

/-- STATUS (Table 17.4). That of BRIDGE waits for a port while every port in use is in bus-off (R464). The Hatan's own entry
shows the status it sent. -/
def sendStatus (s : State) : State :=
  if canSend s Shm.STATUS then
    let flags := statusFlags s
    let t := sendFrame (statusPrio s.sys.mode) Shm.STATUS 0xFF 1
      [s.sys.prevMode.code * 16 + s.sys.mode.code, s.bus.stage, flags, 0, 0, 0] s
    let peer := vmod t.shb.peer (ownNode t) fun x => { x with
      heard := true, mode := s.sys.mode.code, stage := s.bus.stage, flags := flags, at_ := s.clock }
    { t with shb := { t.shb with statusDue := false, peer := peer } }
  else if s.shb.live && !s.sys.clkFault && s.sys.mode == .bridge then { s with shb := { s.shb with statusDue := true } }
  else s

/-- Mean current out of the bus through LOAD and TIE channels, in mA. -/
def loadMa (s : State) : Int := -((allCh.filter (isLoad s)).foldl (fun n c => n + (s.chan c).iMa) 0)

/-- RESERVE, while SHB.GEN_BUS is 2 or more (R458). -/
def sendReserve (s : State) : State :=
  if s.shb.listen || decide (s.shb.gen < 2) || !fullShb s.sys.mode then s
  else
    sendFrame 4 Shm.RESERVE 0xFF 2
      (beBytes 4 s.adm.qAvail ++ beBytes 4 (asBits 32 (loadMa s)) ++ [s.adm.reqStage, 0, 0, 0, 0, 0]) s

/-- CLOCK, from the clock master while SHB.GEN_BUS is 3. -/
def sendClock (s : State) : State :=
  if s.shb.listen || s.shb.gen != 3 || !fullShb s.sys.mode || clockMaster s != some (ownNode s) then s
  else sendFrame 5 Shm.CLOCK 0xFF 3 (beBytes 5 (optime s) ++ beBytes 4 s.mb.cycle ++ [0, 0, 0, 0, 0, 0]) s

end Sys2Proof.Machine
end

