-- ==== Sys2Proof/Machine/Modes.lean ====
section
/-! DEFINITION. Changes of mode and what each of them does (R33 to R38, R155, R232, R435, R583 to R585). -/

namespace Sys2Proof.Machine

/-- The causes of Table 2.9. -/
abbrev Cause.tinSoldier : Nat := 1
abbrev Cause.cold : Nat := 2
abbrev Cause.endOfDischarge : Nat := 3
abbrev Cause.lossOfMains : Nat := 4
abbrev Cause.returnOfMains : Nat := 5
abbrev Cause.handoverEnd : Nat := 6
abbrev Cause.host : Nat := 7
abbrev Cause.floatMet : Nat := 8
abbrev Cause.isolation : Nat := 9
abbrev Cause.firmware : Nat := 10
abbrev Cause.warm : Nat := 11

/-- The lines that carry OUT_ALARM or OUT_HOST conduct as their conditions stand (Table 17.7). -/
def outCondition (s : State) (l : Line) : Bool :=
  match flFunc s l with
  | 8 => match flArg s l with
    | 0 => s.sys.mode == .safeKeep
    | 1 => s.sys.mode == .bridge || s.sys.mode == .cutoff
    | 2 => s.sys.mode == .cutoff
    | 3 => nFaultLow s
    | 4 => allCh.any fun c => (s.chan c).st == .latched && classEff s c == 0
    | 5 => !s.mb.mains
    | _ => false
  | 9 => (pn s Prm.FLD_OUT_SET).testBit l.val
  | _ => false

/-- The outputs follow their conditions while the firmware drives them. In SAFE-KEEP only an OUT_ALARM line of condition 0
moves, which the Tin Soldier's state line drives (R469). -/
def driveOutputs (s : State) : State :=
  forEach (List.finRange 16) (fun l s =>
    if !flIsOut s l then s
    else if s.sys.mode == .safeKeep && !(flFunc s l == 8 && flArg s l == 0) then s
    else
      let on := outCondition s l != (flCfg s l).testBit 30
      { s with fl := vmod s.fl l fun f => { f with out := on } }) s

/-- Every rectifier limit is lifted (R243, R440). -/
def liftLimits (s : State) : State :=
  liftAll { s with bus := { s.bus with capState := 0, capLow := 0 } }

/-- Peak support ends: its grant returns; `dec` is the decision that ADM.LAST records, 5 for a withdrawal, none when it
ends by itself. -/
def endPeak (withdrawn : Bool) (s : State) : State :=
  match s.bus.peakOp with
  | none => s
  | some id =>
    let op := s.adm.grants.find? fun o => o.id == id
    let s := { s with bus := { s.bus with peakOp := none, peakAt := none } }
    match op with
    | none => s
    | some o =>
      let s := if withdrawn then decide_ o 3 5 s else s
      returnOp id s

/-- Peak support is withdrawn: the firmware sheds for the cap instead (R241). -/
def withdrawPeak (s : State) : State :=
  if s.bus.peakOp.isSome then
    let s := endPeak true s
    { s with bus := { s.bus with capState := 2 } }
  else s

/-- Every channel that conducts opens at one tick, with the pull-down of R128 (R584). -/
def openAll (s : State) : State :=
  forEach allCh (fun c s =>
    if conducts s c then shutCh c .opened (openGate s c) s
    else if (s.chan c).st = .wait then cancelWait c 6 s else s) s

/-- The channels closed by test commands open when COMMISSION is left for STANDBY (R155). -/
def openTests (s : State) : State := openAll s

/-- A rectifier that conducts and is not in S files its walk-in where the mode admits it (R238). -/
def fileWalkin (c : Ch) (s : State) : State :=
  if s.bus.walk.get c = .queued && opModes Opn.WALKIN s.sys.mode
      && !(s.adm.queue ++ s.adm.grants).any (fun o => o.code == Opn.WALKIN && o.ch == some c) then
    fileOp { Op.blank Opn.WALKIN with ch := some c, map := 2 ^ c.val, prio := 1 } s
  else s

/-- Walk-ins that wait for a mode are filed. -/
def fileWalkins (s : State) : State := forEach allCh fileWalkin s

/-- Changes the calibration procedure. -/
def modCal (f : Cal → Cal) (s : State) : State := { s with cnv := { s.cnv with cal := f s.cnv.cal } }

/-- The failure of a capture or a computation, with its reason (Table 11.10). -/
def calFail (why : Nat) (s : State) : State := modCal (fun k => { k with step := 7, fail := why }) s

/-- The mode changes or CNV.CAL_INPUT is written: a capture under way fails with reason 4 (R318). -/
def calCaptureLost (s : State) : State :=
  if s.cnv.cal.step = 1 ∨ s.cnv.cal.step = 3 then calFail 4 s else s

/-- Another mode is entered while an entry into DORMANT waits for its writes: the entry does not come, and the request that
asked for it ends without it (R61). -/
def dropDormant (m : Mode) (s : State) : State :=
  if !s.sys.dormDue || m == .dormant then s
  else
    let tag := s.sys.dormReq
    let s := { s with sys := { s.sys with dormDue := false, dormReq := none } }
    match tag with
    | some id => complete id St.MODE [wd (m.code * 16 + m.code)] s
    | none => s

/-- Another mode is entered while a request for STANDBY waits for the reload of a group: it ends without its transition. -/
def dropStandby (m : Mode) (s : State) : State :=
  match s.sys.standbyDue with
  | none => s
  | some id =>
    if m = .standby then s
    else complete id St.MODE [wd (m.code * 16 + m.code)] { s with sys := { s.sys with standbyDue := none } }

/-- A mode change as such: the mode codes, MODE-effect parameters, its event record, interrupt and notification
(R12, R37, R583), and STATUS on the Share Bus. -/
def changeMode (m : Mode) (cause : Nat) (s : State) : State :=
  if s.sys.mode = m then s
  else
    let old := s.sys.mode
    let s := dropStandby m <| dropDormant m (calCaptureLost { s with sys := { s.sys with mode := m, prevMode := old } })
    let s := setIrq Irq.MODE_CHG s
    let s := if m = .safeKeep ∧ !anyPup s then s
      else
        let s := logEvent Evt.MODE_CHANGE 1 objNone [cause * 2 ^ 8 + old.code * 2 ^ 4 + m.code] s
        notifyAll Opc.NTF_MODE [wd (cause * 2 ^ 8 + old.code * 2 ^ 4 + m.code)] s
    let s := if m = .safeKeep ∨ m = .boot then s else forceAll .mode s
    sendStatus (driveOutputs s)

/-- What ends before a mode is entered: a test with outcome 4 (R439), limits and peak support at BRIDGE and CUTOFF (R243), and
the test commands of COMMISSION at STANDBY (R155). -/
def beforeMode (m : Mode) (s : State) : State :=
  let t := if m = .boot then s else endTest 4 0 s
  let t := if m = .bridge ∨ m = .cutoff then liftLimits (endPeak true t) else t
  if s.sys.mode = .commission ∧ m = .standby then openTests t else t

/-- What a mode leaves behind: leaving BRIDGE or CUTOFF starts the gap of R233 and ends a black start, and BRIDGE writes the
history of its strings. -/
def leaveMode (old m : Mode) (s : State) : State :=
  let s := if (old = .bridge ∨ old = .cutoff) ∧ m ≠ .bridge ∧ m ≠ .cutoff then
      { s with bus := { s.bus with leftAt := some s.clock } } else s
  let s := if m = .bridge then
      { s with adm := { s.adm with bridgeAt := s.clock, srcCap := 0 }, bus := { s.bus with srcDone := false } } else s
  let s := if old = .bridge then { s with sys := { s.sys with blackStart := false, blackTried := [], blackClosed := false } } else s
  let s := if old = .bridge ∧ m ≠ .safeKeep ∧ m ≠ .boot then
      forEach (boundStr s) (fun k s => queueWrite RT.BAT_HISTORY k.val s) s else s
  if old = .cutoff then { s with bat := { s.bat with cutoffDue := false } } else s

/-- What entering a mode starts and stops: besides the change itself, the queue is judged again (R411), and R171 looks at every
channel. -/
def enterMode (m : Mode) (cause : Nat) (s : State) : State :=
  if s.sys.mode = m then s
  else
    let t := leaveMode s.sys.mode m (changeMode m cause (beforeMode m s))
    if m = .safeKeep ∨ m = .dormant ∨ m = .boot then t
    else fileWalkins (autoFileAll (rejudge t))

/-- A channel that would have to open for STANDBY lies in a group that reloads. -/
def standbyWaits (s : State) : Bool := allCh.any fun c => reloads s c && ((s.chan c).st.conducts || (s.chan c).st == .wait)

/-- Entry into STANDBY from ONLINE or MAINTAIN: every channel opens and the mode changes at that tick (R584); while the group of
such a channel reloads, the transition waits for the tick after it (R156). -/
def enterStandby (tag : Option Nat) (s : State) : State :=
  if tag.isSome && standbyWaits s then { s with sys := { s.sys with standbyDue := tag } }
  else
    let old := s.sys.mode
    let s := enterMode .standby Cause.host (openAll s)
    match tag with
    | some id => complete id St.OK [wd (old.code * 16 + s.sys.mode.code)] s
    | none => s

/-- A STANDBY that waited for a reload is entered. -/
def standbyTick (s : State) : State :=
  if s.sys.standbyDue.isNone || standbyWaits s then s
  else enterStandby s.sys.standbyDue { s with sys := { s.sys with standbyDue := none } }

/-- The shedding stage is raised at once, carried out at the Marionettes' next tick (R232, Table 16.5). -/
def stepTo (k : Nat) (s : State) : State :=
  if k ≤ s.bus.stage then s else { s with bus := { s.bus with stepNow := some k } }

/-- Loss of mains: ONLINE, MAINTAIN, RECHARGE and HANDOVER go to BRIDGE. Without the strobe the stage rises to
BUS.STROBE_STAGE_EFF at entry (R232). -/
def enterBridge (s : State) : State :=
  let m := s.sys.mode
  if m = .online ∨ m = .maintain ∨ m = .recharge ∨ m = .handover then
    let strobe := s.bus.strobe
    let s := enterMode .bridge Cause.lossOfMains s
    if strobe then s else stepTo s.bus.stageEff s
  else s

/-- End of discharge: CUTOFF, with every stage shed in one step (R435, Table 16.5). -/
def enterCutoff (s : State) : State :=
  if s.sys.mode = .bridge then
    let s := enterMode .cutoff Cause.endOfDischarge s
    stepTo 4 { s with bat := { s.bat with cutoffDue := true, cutoffAt := s.clock } }
  else s

/-- The Music Box is locked to mains: DRM.MAINS = 1 with DRM.STATE LOCKED (R275). -/
def mainsLocked (s : State) : Bool := s.mb.mains && s.mb.lock == .locked

/-- The return of mains: BRIDGE or CUTOFF goes to RECHARGE when the reference is locked and a SOURCE channel has completed
its inrush since the loss (Table 2.2, R225). -/
def tryRecharge (s : State) : State :=
  let src := allCh.any fun c => roleOf s c == .source && ((s.chan c).st == .on || (s.chan c).st == .diode)
  if (s.sys.mode = .bridge ∨ s.sys.mode = .cutoff) ∧ mainsLocked s ∧ s.bus.srcDone ∧ src then
    enterMode .recharge Cause.returnOfMains s
  else s

/-- An isolation in force in ONLINE makes it MAINTAIN, and none in MAINTAIN makes it ONLINE (Table 2.2, R586). -/
def isoMode (s : State) : State :=
  if s.sys.mode = .online ∧ anyIso s then enterMode .maintain Cause.isolation s
  else if s.sys.mode = .maintain ∧ !anyIso s then enterMode .online Cause.isolation s
  else s

/-- A granted takeover enters HANDOVER: the shadow is reset and its supervision stops (R529 step 1). -/
def handoverEntry (s : State) : State :=
  let m := s.sys.mode
  if s.svc.op.isSome ∧ s.svc.newOn.isNone ∧ (m = .standby ∨ m = .online ∨ m = .maintain) then
    let sh := otherPup s.sys.active
    let s := modPup sh (fun x => { Pupp.reset with failTimes := x.failTimes, discarded := x.discarded, barred := x.barred }) s
    let s := { s with sys := { s.sys with handoverFrom := m, simplex := true }
                      svc := { s.svc with newOn := some sh, phase := 3, lead := 0 } }
    sendAnnounce (enterMode .handover Cause.firmware s)
  else s

/-! ### Black start (R585) -/

/-- The BATTERY channels a black start has still to try. -/
def blackLeft (s : State) : List Ch :=
  allCh.filter fun c =>
    roleOf s c == .battery && (s.chan c).st == .opened && (s.chan c).present && !s.sys.blackTried.contains c

/-- Of those, the one with the highest CHn.VFAR_MV, the lower number at equal voltage. -/
def blackPick (s : State) : Option Ch :=
  (blackLeft s).foldl (fun b c =>
    match b with
    | none => some c
    | some d => if (s.chan d).vfar < (s.chan c).vfar then some c else some d) none

/-- A BATTERY channel of the black start under way closes: from here on, one has closed. -/
def markBlack (c : Ch) (s : State) : State :=
  if s.sys.blackStart ∧ roleOf s c = .battery then { s with sys := { s.sys with blackClosed := true } } else s

/-- A BATTERY channel's inrush of the black start is under way or waits. -/
def blackBusy (s : State) : Bool :=
  allCh.any fun c => roleOf s c == .battery && ((s.chan c).st == .wait || (s.chan c).st == .inrush)

/-- The black start goes on until one channel has closed: the next one is tried; with none left and none closed it has failed.
`fuel` bounds the channels tried at one moment. -/
def blackNext : Nat → State → State
  | 0, s => s
  | fuel + 1, s =>
    if !s.sys.blackStart || s.sys.mode != .bridge || s.sys.blackClosed || blackBusy s then s
    else
      match blackPick s with
      | none => enterCutoff s
      | some c =>
        let s := { s with sys := { s.sys with blackTried := s.sys.blackTried ++ [c] } }
        if (s.chan c).equal then markBlack c (closeCh c .on s)
        else blackNext fuel (fileInrush c .black none s)

/-- Once one string has closed, each further one closes at the first boundary at which its sides are equal. -/
def blackFollow (s : State) : State :=
  if s.sys.blackStart ∧ s.sys.mode = .bridge ∧ s.sys.blackClosed then
    forEach allCh (fun c s =>
      let x := s.chan c
      if roleOf s c = .battery ∧ x.st = .opened ∧ x.present ∧ x.equal then closeCh c .on s else s) s
  else s

end Sys2Proof.Machine
end

