-- ==== Sys2Proof/Machine/Inrush.lean ====
section
/-! DEFINITION. The inrush of a channel: entry, phases, the servo law and the close (R171 to R184, R407). -/

namespace Sys2Proof.Machine

/-! ### The servo law (R178 to R180) -/

/-- CHn.TJ_SERVO in use: at most CHn.TJ_MAX - 5 °C of the limit in force (R180). -/
def tjServo (s : State) (c : Ch) : Int := min (chp s c Chp.TJ_SERVO) (chp s c Chp.TJ_MAX - 320)

/-- d[k], the decay of a pole over 1 ms. -/
def poleDecay (w : Nat) : Rat := if w / 2 ^ 16 = 0 then 0 else expNeg (1000 / (poleTau w : Rat))

/-- The current target of the servo in mA. -/
def servoTarget (s : State) (c : Ch) (x : Chan) (r : Inr) : Rat :=
  let d := fun (k : Fin 4) => poleDecay (poleWord s c k.val)
  let rth := fun (k : Fin 4) => poleRth (poleWord s c k.val)
  let look := x.theta.get 0 * d 0 + x.theta.get 1 * d 1 + x.theta.get 2 * d 2 + x.theta.get 3 * d 3
  let zh := rth 0 * (1 - d 0) + rth 1 * (1 - d 1) + rth 2 * (1 - d 2) + rth 3 * (1 - d 3)
  let head : Rat := if tjServo s c ≤ x.tj then 0 else ((tjServo s c - x.tref : Int) : Rat) / 64 - look
  let vds : Rat := max ((x.drop16.natAbs : Rat) / 16) 100
  let ith := (max head 0 / zh) * 1000000 / vds
  let cap := ((100 * r.granted : Nat) : Rat)
  let oc := ((9 * ocEff s c : Nat) : Rat) / 10
  let t := min (min ith cap) oc
  let t := if r.outward && roleOf s c == .battery then min t (chn s c Chp.CHG_MAX_MA : Rat) else t
  let t := if chn s c Chp.INRUSH_ICAP_MA = 0 then t else min t (chn s c Chp.INRUSH_ICAP_MA : Rat)
  match r.fet with
  | some f => min t (f.ip : Rat)
  | none => t

/-- The gate current u in units of 10 µA. -/
def servoU (target : Rat) (i16 : Int) : Int :=
  clampI (-128) 128 (ratNear (128 * (target - (i16.natAbs : Rat) / 16) / max target 1))

/-- The servoed and the follower gate of an inrush. -/
def Inr.drive (r : Inr) (servo follow : Gate) (x : Chan) : Chan :=
  if r.outward then { x with gateA := servo, gateB := follow } else { x with gateA := follow, gateB := servo }

/-! ### Entry and end -/

/-- What follows when a channel has entered its closed state: a rectifier asks for its walk-in (R238), and the mains may be
back (Table 2.2). -/
def afterClose (c : Ch) (s : State) : State :=
  if roleOf s c = .source then
    let s := if s.bus.walk.get c = .out then
        { s with bus := { s.bus with
          walk := vput s.bus.walk c .queued, trim := vput s.bus.trim c (-(pget s Prm.BUS_SHARE_TRIM_MV)) } }
      else s
    let s := if s.sys.mode = .bridge ∨ s.sys.mode = .cutoff then { s with bus := { s.bus with srcDone := true } } else s
    fileWalkin c (tryRecharge s)
  else s

/-- An inrush ends with the sides equal: the channel enters its closed state (R174 phase 3). -/
def closeInrush (c : Ch) (s : State) : State :=
  let st := closedState s c
  let s := endInrush c true s
  let s := modCh c (fun x => closedGates s c st { x with st := st, testClosed := s.sys.mode == Mode.commission }) s
  afterClose c (markBlack c s)

/-- A FET_TEST ends: the channel opens with FULL, and the test completes with ST_OK (R407). -/
def endFet (c : Ch) (s : State) : State :=
  let s := endInrush c true s
  setProbe c (modCh c (fun x => x.toLow .opened .lowFull) s)

/-- A token is used: WAIT goes to INRUSH, or an OPEN channel begins its FET_TEST (R151, R174, R203). -/
def enterInrush (c : Ch) (s : State) : State :=
  let x := s.chan c
  match x.grant with
  | none => s
  | some (op, mc) =>
    let fet := op == Opn.FET_TEST
    if !(x.st == .wait && !fet || x.st == .opened && fet) then s
    else if chn s c Chp.PRES_MODE = 2 ∧ !fieldPresent s c then cancelWait c 5 s
    else
      let o := chGrant s c
      let filer := match o with
        | some o => match o.tag with
          | some id => Filer.host id
          | none => o.filer
        | none => Filer.auto
      let w := (o.map Op.args).getD []
      let arg := w.headD 0
      let f : Option Fet := if fet then
          some { ip := fieldOf arg 16 16 * 100, tp := arg % 2 ^ 16, peakI := 0, dropAt := 0 } else none
      let r : Inr :=
        { phase := 1, outward := decide (x.vs < x.vcsn), ticks := 0, sum16 := 0, dv0 := 0, charge16 := 0, peak := x.tj,
          granted := mc, filer := filer, followed := false, fet := f }
      let up := x.retryWait && !x.freeTry
      let s := modCh c (fun x => r.drive .lowFull (riseGate s c .lowFull) ({ x with
        st := .inrush, probe := false, inr := some r, retryWait := false, freeTry := false,
        attempts := if up then sat8 (x.attempts + 1) else x.attempts }).countClosure) s
      if x.equal && !fet then closeInrush c s else s

/-- The servo sets its gate, and the follower stands at full (R178). -/
def driveServo (c : Ch) (s : State) : State :=
  modCh c (fun x =>
    match x.inr with
    | some r => r.drive (.servo (servoU (servoTarget s c x r) x.i16)) .full x
    | none => x) s

/-- Phase 1 ends: the follower stands at full, and phase 2 begins with the servo's law at that tick (R174, R178). -/
def beginServo (c : Ch) (s : State) : State :=
  match (s.chan c).inr with
  | some r =>
    if r.phase = 1 then
      driveServo c (modCh c (fun x => { x with
        inr := some { r with phase := 2, followed := true, dv0 := sideDiff x, sum16 := 0 } }) s)
    else s
  | none => s

/-- The sums of an inrush at a tick. -/
def Inr.tick (r : Inr) (x : Chan) : Inr :=
  let n := x.i16.natAbs
  let r := { r with
    ticks := r.ticks + 1, charge16 := r.charge16 + n, peak := max r.peak x.tj,
    sum16 := if r.phase = 2 then r.sum16 + n else r.sum16 }
  match r.fet with
  | some f =>
    if f.peakI ≤ n / 16 then { r with fet := some { f with peakI := n / 16, dropAt := divNear x.drop16 16 } } else r
  | none => r

/-- The sums of a channel's inrush at a tick, whatever the Marionette does (R172, R176, R177). -/
def inrushSums (x : Chan) : Chan := { x with inr := x.inr.map fun r => r.tick x }

/-- One tick of an inrush that no cause ends: phase 1 waits for the follower, phase 2 runs the servo, and EQUAL closes. -/
def inrushTick (c : Ch) (followMv : Nat) (s : State) : State :=
  match (s.chan c).inr with
  | none => s
  | some r =>
    let x := s.chan c
    let timeUp := match r.fet with
      | some f => decide (f.tp ≤ r.ticks)
      | none => false
    if timeUp then endFet c s
    else if r.phase = 1 then (if 10000 ≤ followMv then beginServo c s else s)
    else if x.equal && r.fet.isNone then closeInrush c s
    else driveServo c s

end Sys2Proof.Machine
end

