-- ==== Sys2Proof/Machine/Switch.lean ====
section
/-! DEFINITION. What a CH_CTRL does to one channel, the run of a command over its channels, the actions held for an angle or a
reload, and the restoration of a shed stage (Table 5.8, R157, R158, R160, R214, R233, R290, R588). -/

namespace Sys2Proof.Machine

/-! ### One action on one channel (Table 5.8) -/

abbrev Act.OPEN : Nat := 1
abbrev Act.CLOSE : Nat := 2
abbrev Act.ARM : Nat := 3
abbrev Act.DISARM : Nat := 4
abbrev Act.CLEAR : Nat := 5
abbrev Act.PRESENCE : Nat := 6

/-- The modes of an action. -/
def ctrlModes (act : Nat) (m : Mode) : Bool :=
  let on := [Mode.commission, .online, .recharge, .maintain]
  if act = Act.CLOSE ∨ act = Act.ARM then on.contains m
  else if act = Act.DISARM then (Mode.bridge :: on).contains m
  else (Mode.standby :: Mode.bridge :: Mode.cutoff :: on).contains m

/-- The role stands in the action's row. -/
def ctrlRole (act : Nat) (r : Role) : Bool := !(act == Act.ARM || act == Act.DISARM) || r == .battery

/-- The channel stands in a closed state of Table 5.4. -/
def closedNow (st : ChSt) : Bool := st == .on || st == .diode || st == .armed

/-- A CLEAR is accepted: the conditions of R214. -/
def clearAccepted (s : State) (c : Ch) : Bool :=
  let x := s.chan c
  decide (x.tj ≤ chp s c Chp.TJ_RETRY) && !(x.causes.testBit 4 && roleOf s c != .load && uvMet s c)
    && !(x.causes.testBit 8 && extMet s c) && !(x.causes.testBit 3 && decide (x.clearRun < chn s c Chp.UV_FILT_US))
    && !(x.causes.testBit 9 && decide (x.pump < 10500))

/-- The channel is in the action's outcome already (R157). -/
def ctrlDone (act : Nat) (x : Chan) : Bool :=
  if act = Act.OPEN then x.st == .opened
  else if act = Act.CLOSE then closedNow x.st
  else if act = Act.ARM then x.st == .armed
  else if act = Act.DISARM then x.st == .on
  else if act = Act.CLEAR then x.st == .opened
  else false

/-- A shedding step or the strobe set that the next tick carries out names the channel (R160). -/
def shedWaits (s : State) (c : Ch) : Bool :=
  let step := match s.bus.stepNow with
    | some k => (List.range 4).any fun j => decide (s.bus.stage ≤ j ∧ j < k) && (shedMap s (j + 1)).testBit c.val
    | none => false
  classEff s c != 0 && ((s.chan c).shedDue || step || ((s.group (groupOf c)).strobe && s.bus.strobeSet.testBit c.val))

/-- The state that the action starts from (Table 5.8), and for CLOSE what R160 and the table ask besides. -/
def ctrlFrom (s : State) (act : Nat) (c : Ch) : Bool :=
  let x := s.chan c
  if act = Act.OPEN then x.st.conducts || x.st == .wait
  else if act = Act.CLOSE then x.st == .opened && x.present && x.equal && !x.shed && !shedWaits s c
  else if act = Act.ARM then x.st == .on
  else if act = Act.DISARM then x.st == .armed
  else if act = Act.CLEAR then x.st == .latched && clearAccepted s c
  else true

/-- The judgement of one channel (R158): the status that refuses it, none when it may complete. -/
def ctrlJudge (s : State) (act : Nat) (c : Ch) : Option Nat :=
  if !ctrlRole act (roleOf s c) then some St.RANGE
  else if ctrlDone act (s.chan c) || ctrlFrom s act c then none
  else some St.REFUSED

/-- The action is carried out on a channel that may take it. -/
def ctrlAct (act : Nat) (c : Ch) (s : State) : State :=
  let x := s.chan c
  if ctrlDone act x then s
  else if act = Act.OPEN then
    if x.st = .wait then cancelWait c 5 s else openTo c .opened (openGate s c) (endTestOf c s)
  else if act = Act.CLOSE then afterClose c (closeCh c (closedState s c) s)
  else if act = Act.ARM then armNow c s
  else if act = Act.DISARM then disarmNow c s
  else if act = Act.CLEAR then
    let s := modCh c (fun x => { x with st := .opened, attempts := 0, yoyo := .idle, delayLen := 0 }) s
    queueWrite RT.LATCH 0 (setProbe c s)
  else setProbe c (modCh c (fun x => { x with presRestart := true }) s)

/-! ### The run of a command (R157, R158) -/

/-- The status of a CH_CTRL whose channels have all come to an end: that of the lowest channel that did not complete. -/
def runStatus (r : SwRun) : Nat :=
  match r.bad with
  | some b => b.2
  | none => St.OK

/-- The lower of two failures by channel number. -/
def lowerBad (old : Option (Nat × Nat)) (c : Ch) (st : Nat) : Option (Nat × Nat) :=
  match old with
  | some b => if b.1 < c.val then some b else some (c.val, st)
  | none => some (c.val, st)

/-- One channel is judged, and its action carried out when it may be; the run notes which. A CLOSE goes on until the gates
are enhanced (R158). -/
def ctrlOne (act : Nat) (c : Ch) (p : SwRun × State) : SwRun × State :=
  match ctrlJudge p.2 act c with
  | some st => ({ p.1 with bad := lowerBad p.1.bad c st }, p.2)
  | none =>
    if act = Act.CLOSE ∧ !ctrlDone act (p.2.chan c) then ({ p.1 with rising := p.1.rising ++ [c] }, ctrlAct act c p.2)
    else ({ p.1 with done := p.1.done ||| 2 ^ c.val }, ctrlAct act c p.2)

/-- The run of a command ends once none of its actions is held and none of its channels is still closing: its completion names the channels that completed. -/
def settleRun (r : SwRun) (s : State) : State :=
  let others := s.mb.runs.filter fun q => q.tag != r.tag
  if (s.mb.held.any fun h => h.tag == r.tag) || !r.rising.isEmpty then
    let s := { s with mb := { s.mb with runs := others ++ [r] } }
    if r.done = 0 ∧ r.rising.isEmpty then s else begin_ r.tag s
  else complete r.tag (runStatus r) [wd r.done] { s with mb := { s.mb with runs := others } }

/-! ### Held actions (R290, R291) -/

/-- A held action is carried out, its state checks made again. -/
def carryHeld (h : HeldSw) (s : State) : State :=
  let rest := s.mb.held.filter fun q => !(q == h)
  let run := (s.mb.runs.find? fun r => r.tag == h.tag).getD { tag := h.tag, done := 0, bad := none, rising := [] }
  let r := ctrlOne h.act h.ch (run, { s with mb := { s.mb with held := rest } })
  settleRun r.1 r.2

/-- The held actions whose moment has come are carried out at the first tick of their Marionette. -/
def switchTick (s : State) : State :=
  forEach (s.mb.held.filter fun h => h.due && !reloads s h.ch) carryHeld s

/-- The gates of a channel that closes are enhanced: neither is on its way up any more. -/
def Chan.enhanced (x : Chan) : Bool :=
  match x.gateA, x.gateB with
  | .rise _, _ => false
  | _, .full => true
  | _, _ => false

/-- A command that closes channels: those whose gates are enhanced have completed; one that has left its closed state before has
not (DESIGN CHOICE, log 80: ST_ABORTED). -/
def settleRising (r : SwRun) (s : State) : State :=
  let up := r.rising.filter fun c => closedNow (s.chan c).st && (s.chan c).enhanced
  let lost := r.rising.filter fun c => !closedNow (s.chan c).st
  if up.isEmpty && lost.isEmpty then s
  else
    settleRun { r with
      done := up.foldl (fun m c => m ||| 2 ^ c.val) r.done, bad := lost.foldl (fun b c => lowerBad b c St.ABORTED) r.bad
      rising := r.rising.filter fun c => !up.contains c && !lost.contains c } s

/-- The commands that close channels, at a tick. -/
def riseTick (s : State) : State := forEach (s.mb.runs.filter fun r => !r.rising.isEmpty) settleRising s

/-! ### Restorations (R233, R234, R588) -/

/-- The channels that the restoration of stage `k` returns: those of its map, and those shed under it before the map
changed, that are still shed (R234). -/
def stageChs (s : State) (k : Nat) : List Ch :=
  allCh.filter fun c => (s.chan c).shed && ((shedMap s k).testBit c.val || (s.chan c).shedStage == k)

/-- The channels whose end a granted restoration awaits. -/
def setOpen (id : Nat) (f : List Ch → List Ch) (s : State) : State :=
  { s with adm := { s.adm with grants := s.adm.grants.map fun o => if o.id = id then { o with open_ := f o.open_ } else o } }

/-- One channel of a restored stage (R588). -/
def returnCh (id : Nat) (c : Ch) (s : State) : State :=
  let x := s.chan c
  let clear := fun (s : State) => modCh c (fun x => { x with shed := false, shedDue := false, shedStage := 0 }) s
  if x.st = .opened ∧ x.present then
    if x.equal then afterClose c (closeCh c (closedState s c) (clear s))
    else
      fileInrush c .restore none (clear (setOpen id (· ++ [c]) s))
  else clear s

/-- A channel of a restored stage, whose group's reload holds it back to the first tick after it (R291). -/
def giveBack (id : Nat) (c : Ch) (s : State) : State :=
  if reloads s c then putOff (.back id) c (setOpen id (· ++ [c]) s) else returnCh id c s

/-- A channel that a reload held back returns. -/
def backNow (id : Nat) (c : Ch) (s : State) : State := endRestores (returnCh id c (setOpen id (·.filter (· != c)) s))

/-- A granted restoration is carried out: the stage falls by one and each channel is treated by its state (R588); under the
overrides it waits (R291). -/
def carryRestore (s : State) : State :=
  match s.bus.restore with
  | none => s
  | some id =>
    let k := s.bus.stage
    let l := stageChs s k
    if s.tin.override then s
    else
      let s := { s with bus := { s.bus with restore := none, restoreNow := false, restoreAt := some s.clock, stage := k - 1 } }
      endRestores (forEach l (giveBack id) s)

/-- A granted restoration whose moment has come is carried out by the Marionettes (R283). -/
def restoreTick (s : State) : State := if s.bus.restoreNow then carryRestore s else s

end Sys2Proof.Machine
end

