-- ==== Sys2Proof/Machine/Tick.lean ====
section
/-! DEFINITION. The Marionettes' tick and the events of the channels: reflexes, presence, filters, attempts and wear
(chapters 5, 6, 7; the bridge strobe of R139, R140, R230 and the interruption of R220). -/

namespace Sys2Proof.Machine

/-! ### What a tick reads -/

/-- The DROP sample that the consumers receive: V(CHnn_VS) - V(CHnn_CSN) in place of a fine sample at an end of its range
(R301). -/
def dropOf (fine atEnd : Bool) (x : ChSense) : Int := if fine && atEnd then x.vs - x.csn else x.drop16

/-- The guard samples and driver reports of a tick reach a channel and the sums of its cycle means. In low-power mode the
current is taken as 0 (R316). -/
def senseCh (s : State) (c : Ch) (x : ChSense) (drop : Int) (k : Chan) : Chan :=
  let i := if (s.cnv.seq.get (groupOf c)).lp then 0 else x.i16
  { k with
    i16 := i, drop16 := drop, vs := x.vs, vcsn := x.csn, pump := x.pump, guardN := k.guardN + 1, sumI := k.sumI + i,
    sumVs := k.sumVs + x.vs, sumDrop := k.sumDrop + drop, sumCsn := k.sumCsn + x.csn,
    ovrCyc := k.ovrCyc || decide (16 * fullScale s c < i.natAbs) }

/-- A gate on its way to full that has reached 10 V above source stands at full. -/
def settleGate (g : Gate) (mv : Nat) : Gate :=
  match g with
  | .rise ua => if 10000 ≤ mv then .full else .rise ua
  | .boost => if 10000 ≤ mv then .full else .boost
  | .lowFull => .lowFull
  | .lowSoft => .lowSoft
  | .full => .full
  | .servo u => .servo u
  | .forward m u => .forward m u
  | .charge a m u => .charge a m u
  | .hold => .hold

/-- The ticks for which a gate commanded to full has stood below 10 V above source (R197). -/
def riseRun (g : Gate) (mv run : Nat) : Nat :=
  match g with
  | .rise _ => if 10000 ≤ mv then 0 else run + 1
  | .boost => if 10000 ≤ mv then 0 else run + 1
  | _ => 0

/-- Comparators, EQUAL, integrators and filters of a channel at a tick (R135, R163, R195 to R197, R205). -/
def countCh (s : State) (c : Ch) (x : ChSense) (k : Chan) : Chan :=
  let uv := uvFires s c x.vs
  let filt := chn s c Chp.UV_FILT_US
  let rejected := !uv && k.fUv && decide (0 < k.uvRun ∧ k.uvRun < filt)
  let clear := !uv && (roleOf s c != .source || decide (x.csn - 16 * chp s c Chp.EQ_MV ≤ x.vs))
  let above := decide (16 * chn s c Chp.OL_MA ≤ k.i16.natAbs)
  { k with
    fOc := ocFires k.lRole k.lOc k.i16, fRc := rcFires k.lRole k.lRc k.i16, fUv := uv,
    uvRun := if uv then min 65535 (k.uvRun + 1) else 0, clearRun := if clear then min 65535 (k.clearRun + 1) else 0,
    rej := if rejected then min 65535 (k.rej + 1) else k.rej, rejCyc := if rejected then k.rejCyc + 1 else k.rejCyc,
    equal := decide ((x.vs - x.csn).natAbs ≤ 16 * chn s c Chp.EQ_MV),
    ol := if chn s c Chp.OL_MA = 0 then 0 else if above then k.ol + 1 else k.ol - 1,
    pumpRun := if x.pump < 9000 then k.pumpRun + 1 else 0,
    riseA := riseRun k.gateA x.gateA k.riseA, riseB := riseRun k.gateB x.gateB k.riseB,
    gateA := settleGate k.gateA x.gateA, gateB := settleGate k.gateB x.gateB }

/-- What the Marionette latches into the channel for its reflexes (R137), and the rules their causes act under (R21). -/
def latchCh (s : State) (c : Ch) (k : Chan) : Chan :=
  { k with lRole := roleOf s c, lSt := k.st, lOc := ocEff s c, lRc := rcEff s c, lRules := rulesNow s c }

/-- What VOLT or PROBE makes of V(CHnn_VS) in 1/16 mV, given the present result (Table 5.5); none between the levels of VOLT. -/
def presLevel (s : State) (c : Ch) (vs16 : Int) : Option Bool :=
  if chn s c Chp.PRES_MODE = 1 then
    let mv : Int := chn s c Chp.PRES_MV
    if 16 * mv ≤ vs16 then some true else if vs16 < 16 * (mv - 1000) then some false else none
  else some (decide (vs16 < 16 * 2500))

/-- The length of the presence filter in ticks. -/
def presTicks (s : State) (c : Ch) : Nat := chn s c Chp.PRES_MS * 1000

/-- VOLT or PROBE at a tick: a level other than the present result that has stood for CHn.PRES_MS changes it (Table 5.5, R149). -/
def presFilter (s : State) (c : Ch) (vs16 : Int) (k : Chan) : Chan :=
  let run := if k.presRestart then 0 else k.presRun
  let probing := chn s c Chp.PRES_MODE != 3 || k.probe
  match presLevel s c vs16 with
  | some b =>
    if !k.low || !probing || b == k.present then { k with presRun := 0, presRestart := false }
    else if presTicks s c ≤ run + 1 then { k with present := b, presRun := 0, presRestart := false }
    else { k with presRun := run + 1, presRestart := false }
  | none => { k with presRun := 0, presRestart := false }

/-- Presence at a tick (Table 5.5): in every state for ALWAYS and FIELD, and while both gates are low for VOLT and PROBE. -/
def presenceOf (s : State) (c : Ch) (vs16 : Int) (k : Chan) : Chan :=
  match chn s c Chp.PRES_MODE with
  | 0 => { k with present := true }
  | 2 => { k with present := fieldPresent s c }
  | _ => presFilter s c vs16 k

/-- A WAIT channel whose presence is lost opens (Table 5.7). -/
def presenceTick (c : Ch) (vs16 : Int) (s : State) : State :=
  let was := (s.chan c).present
  let s := setProbe c s
  let s := modCh c (presenceOf s c vs16) s
  if was && !(s.chan c).present && (s.chan c).st == .wait && chn s c Chp.PRES_MODE != 2 then cancelWait c 5 s else s

/-- Gate A in DIODE: low at no or reverse current, full while the drop exceeds the forward drop there, regulated otherwise
(R143). The section does not say which pull-down takes it low: CHn.PD_MODE, as in R128 (DESIGN CHOICE, log 89). -/
def diodeGate (s : State) (c : Ch) (gateA : Nat) (k : Chan) : Chan :=
  if k.st ≠ .diode then k
  else if k.i16 ≤ 0 then { k with gateA := openGate s c }
  else if 12000 ≤ gateA ∧ (16 * chp s c Chp.FWD_MV) < k.drop16 then { k with gateA := .full }
  else { k with gateA := diodeReg s c }

/-- Gate A in ARMED follows the charge targets (R144). -/
def chargeGate (s : State) (c : Ch) (k : Chan) : Chan :=
  if k.st = .armed ∧ k.gateA ≠ .boost ∧ k.gateA ≠ .full then { k with gateA := chargeReg s c } else k

/-- The span in the closed state without a break, and the end of the attempt count with it (R204). -/
def closedTick (s : State) (c : Ch) (k : Chan) : Chan :=
  if k.st == .on || k.st == .diode || k.st == .armed then
    let t := k.closedAt.getD s.clock
    let over_ := decide (t + chn s c Chp.RETRY_RESET_S * clkS ≤ s.clock)
    { k with closedAt := some t, attempts := if over_ then 0 else k.attempts }
  else { k with closedAt := none }

/-! ### The parts of a tick -/

/-- The sample of CNV0 reaches the bus monitor, and the interruption is measured (R220, R297). -/
def busTick (mv16 : Int) (s : State) : State :=
  let s := { s with cnv := { s.cnv with senseN := s.cnv.senseN + 1, senseSum := s.cnv.senseSum + mv16 } }
  if mv16 < 16 * pget s Prm.BUS_SAG_MV then { s with bus := { s.bus with sagRun := s.bus.sagRun + 1 } }
  else if s.bus.sagRun = 0 then s
  else
    let n := sat32 s.bus.sagRun
    logEvent Evt.BUS_SAG 2 objNone [n] { s with bus := { s.bus with
      sagRun := 0, sagCount := sat32 (s.bus.sagCount + 1), sagLast := n, sagMax := max s.bus.sagMax n } }

/-- A restoration under way when the strobe falls into it ends with the stage counted as shed (R234). -/
def abortRestore (s : State) : State :=
  match (s.adm.queue ++ s.adm.grants).find? fun o => o.code == Opn.RESTORE with
  | none => s
  | some o => rejudge (withdrawOp o 6 { s with bus := { s.bus with restore := none, restoreNow := false } })

/-- A Marionette meets the bridge strobe at its first tick after it: ARMED channels go to ON with the boost, and the strobe
set is shed (R140, R230). Under the overrides of SAFE-KEEP it stays latched (R252). -/
def strobeGroup (g : Grp) (s : State) : State :=
  if !(s.group g).strobe || (s.group g).reloading || s.tin.override then s
  else
    let s := modGrp g (fun x => { x with strobe := false }) s
    let s := forEach (chOf g) (fun c s =>
      if (s.chan c).st = .armed then modCh c (fun x => { x with st := .on, gateA := .boost }) s
      else if s.bus.strobeSet.testBit c.val then shedBy (shedStageOf s s.bus.stageEff c) c s else s) s
    let s := abortRestore s
    { s with bus := { s.bus with stage := max s.bus.stage s.bus.stageEff } }

/-- A step that waits for the Marionettes' next tick (R232, R283, Table 16.5); under the overrides it goes on waiting (R252). -/
def stepTick (s : State) : State :=
  match s.bus.stepNow with
  | none => s
  | some k => if s.tin.override then s else shedTo k { s with bus := { s.bus with stepNow := none } }

/-- A conducting channel whose FIELD presence is gone opens (R150). -/
def fieldOpen (c : Ch) (s : State) : State :=
  if chn s c Chp.PRES_MODE = 2 ∧ !(s.chan c).present ∧ conducts s c then
    logEvent Evt.PRESENCE_OPEN 1 c.val [] (openTo c .opened (openGate s c) s)
  else if chn s c Chp.PRES_MODE = 2 ∧ !(s.chan c).present ∧ (s.chan c).st = .wait then cancelWait c 5 s
  else s

/-- A token is used at a tick; a converter in low-power mode returns first, and the gate command waits for the following tick
(R317). -/
def tokenTick (c : Ch) (s : State) : State :=
  if (s.chan c).grant.isNone || (s.chan c).inr.isSome then s
  else if (s.cnv.seq.get (groupOf c)).lp then lpExit (groupOf c) s
  else enterInrush c s

/-- An armed reflex or a DISARM in the boost: the Marionette records the channel as ON at its first tick after (R139). -/
def boostTick (c : Ch) (s : State) : State :=
  if (s.chan c).st = .armed ∧ (s.chan c).gateA = .boost then modCh c (fun x => { x with st := .on }) s else s

/-- What a reload kept waiting is done at the group's first tick after it (R46, R156). -/
def doAct (c : Ch) (a : ChAct) (s : State) : State :=
  match a with
  | .shut st g => openTo c st g s
  | .role => roleNow c s
  | .unwait => unwaitNow c s
  | .wait =>
    let x := s.chan c
    if (x.st == .opened || x.st == .tripped) && ((chQueued s c).isSome || (chGrant s c).isSome) then waitNow c s else s
  | .disarm => disarmNow c s
  | .arm => armNow c s
  | .back id => backNow id c s

/-- Causes that a reload held back reach their channel; a reflex among them has opened it already, and the trip is made. -/
def heldMeet (c : Ch) (s : State) : State :=
  let x := s.chan c
  if x.heldCauses = 0 ∧ !x.reflexed then s
  else
    let met := (List.range 10).filter fun k => x.heldCauses.testBit k
    meetIn x.lRules met c met (modCh c (fun x => { x with heldCauses := 0, reflexed := false }) s)

/-- Events that a reload held back act at the first tick after it (R46): the causes first, then a shedding step, which waits on
under the overrides of SAFE-KEEP (R252), then what else waited. -/
def heldTick (c : Ch) (s : State) : State :=
  if reloads s c then s
  else
    let s := heldMeet c s
    if s.tin.override then s
    else
      let s := if (s.chan c).shedDue then shedCh c (modCh c (fun x => { x with shedDue := false }) s) else s
      let todo := (s.chan c).todo
      if todo.isEmpty then s else forEach todo (doAct c) (modCh c (fun x => { x with todo := [] }) s)

/-- The model and the samples of one channel, its inrush's sums, and the range of its next DROP sample (R301). The SOA engine
runs whatever the Marionette does. -/
def modelTick (inp : TickIn) (c : Ch) (s : State) : State :=
  let x := inp.ch.get c
  let clip := s.cnv.fine.get c && inp.dropEnd.get c
  let drop := dropOf (s.cnv.fine.get c) (inp.dropEnd.get c) x
  let s := modCh c (senseCh s c x drop) s
  let s := { s with cnv := { s.cnv with fine := vput s.cnv.fine c (!clip && decide (drop.natAbs ≤ 480 * 16)) } }
  if roleOf s c = .disabled then s
  else modCh c (fun k => inrushSums (turnUpdate (chn s c Chp.WEAR_MODEL) (soaUpdate s c k))) s

/-- Counters and presence of one channel whose Marionette runs. Presence is judged in every state. -/
def countTick (x : ChSense) (c : Ch) (s : State) : State :=
  if reloads s c then s
  else
    let s := if roleOf s c = .disabled then s else modCh c (countCh s c x) s
    presenceTick c x.vs s

/-- The causes of one channel whose Marionette runs; while it reloads, only a TJ_MAX crossing is latched. -/
def causeTick (c : Ch) (s : State) : State :=
  if roleOf s c = .disabled then s
  else if reloads s c then
    if conducts s c && decide (chp s c Chp.TJ_MAX ≤ (s.chan c).tj) then meetCauses c [6] s else s
  else meetTick c s

/-- A servoed or a regulated gate holds its level while the Marionette reloads (R183, R156). -/
def holdGate : Gate → Gate
  | .servo _ => .hold
  | .forward _ _ => .hold
  | .charge _ _ _ => .hold
  | .lowFull => .lowFull
  | .lowSoft => .lowSoft
  | .rise u => .rise u
  | .full => .full
  | .boost => .boost
  | .hold => .hold

/-- A gate that a reload held regulates again. -/
def unholdCh (s : State) (c : Ch) (k : Chan) : Chan :=
  if k.gateA ≠ .hold then k
  else { k with gateA := if k.st = .diode then diodeReg s c else if k.st = .armed then chargeReg s c else k.gateA }

/-- Transitions and servos of one channel whose Marionette runs, in the order of Table 5.7. Under its overrides the Tin Soldier
drives the gates. -/
def moveTick (x : ChSense) (c : Ch) (s : State) : State :=
  if roleOf s c = .disabled then modCh c (latchCh s c) s
  else if reloads s c then modCh c (fun x => closedTick s c { x with gateA := holdGate x.gateA, gateB := holdGate x.gateB }) s
  else if s.tin.override then modCh c (fun x => closedTick s c { x with lSt := x.st, fresh := false }) s
  else
    let s := boostTick c (fieldOpen c (modCh c (unholdCh s c) s))
    let was := (s.chan c).inr.isSome
    let s := retryTick c (tokenTick c s)
    let follow := match (s.chan c).inr with
      | some r => if r.outward then x.gateB else x.gateA
      | none => 0
    let s := if was then inrushTick c follow s else s
    let s := modCh c (fun k => closedTick s c (chargeGate s c (diodeGate s c x.gateA k))) s
    let s := yoyoTick c s
    modCh c (latchCh s c) s

/-- R171 looks at the channels whose presence or state changed, and a black start goes on. -/
def afterEvents (old s : State) : State :=
  let s := blackNext 24 s
  let moved := allCh.filter fun c => (old.chan c).st != (s.chan c).st || (old.chan c).present != (s.chan c).present
  let s := handoverEntry (forEach moved autoFile s)
  reportCh old (driveOutputs s)

/-- A group whose gates are not all low at a tick has not had them low for the whole cycle (R317). -/
def lowTick (s : State) : State :=
  forEach allGrp (fun k s =>
    if groupLow s k then s
    else { s with cnv := { s.cnv with seq := vmod s.cnv.seq k fun q => { q with lowCyc := false } } }) s

/-- One tick of the four Marionettes. -/
def tick (inp : TickIn) (s : State) : State :=
  let s := settleLines (elapse clkUs s)
  if !s.cnv.on then s
  else
    let old := s
    let s := { s with tin := { s.tin with watch := s.tin.watch % 32 } }
    let s := busTick inp.busMv16 s
    let s := forEach allCh (modelTick inp) s
    let s := forEach allCh (fun c => countTick (inp.ch.get c) c) s
    let s := forEach allCh causeTick (forEach allCh heldTick s)
    let s := switchTick (restoreTick (stepTick (forEach allGrp strobeGroup s)))
    let s := forEach allCh (fun c => moveTick (inp.ch.get c) c) s
    afterEvents old (lowTick (standbyTick (riseTick s)))

/-- MARIONETTE_TICK: 1 µs passes, and each Marionette evaluates its channels (R20, R24, R165, R174). -/
def execMarionetteTick (inp : TickIn) (s : State) : Host.Outcome State Fault Refusal := .next (tick inp s)

/-! ### Reflexes (R20, R136 to R139) -/

/-- The cause code of the OC and RC turn-off reflexes of a role. -/
def rcCause (role : Role) : Option Nat :=
  match role with
  | .source => some 3
  | .load => some 2
  | .battery => none
  | .tie => none
  | .disabled => none

/-- A turn-off reflex in SAFE-KEEP: the channel goes to TRIPPED and is kept no longer; its next attempt is scheduled after the
restart, a WAIT waits, and nothing latches there (R211, R254). -/
def keepTrip (c : Ch) (met : List Nat) (s : State) : State :=
  let acts := actionsIn (s.chan c).lRules s c met
  let top := strongest acts
  let s := modCh c (fun x => { x.toLow .tripped .lowFull with
    causes := causeBits (acts.map Prod.fst), first := firstWith acts top, action := if top = 2 then 2 else 1, ol := 0
    tripCount := sat32 (x.tripCount + 1), yoyo := if top = 2 then .waiting else .idle, closedAt := none, inr := none
    grant := none, heldCauses := 0, reflexed := false }) s
  setProbe c (logEvent Evt.TRIP 2 c.val [tripCause (s.chan c)] s)

/-- A turn-off reflex pulls both gates down with FULL at once, whatever the mode; the Marionette decides at its tick what
follows. It is judged on what was last latched into the channel: an opening commanded since then loses against it (R20, R21).
While its group reloads the decision waits (R46); under the overrides of SAFE-KEEP the Tin Soldier's channel trips (R211). -/
def reflexOff (c : Ch) (met : List Nat) (s : State) : State :=
  let s := captureEvent (.reflex c) s
  let x := s.chan c
  if s.tin.override ∧ conducts s c then keepTrip c met s
  else if reloads s c then
    setProbe c (modCh c (fun x => { x with
      gateA := .lowFull, gateB := .lowFull, heldCauses := x.heldCauses ||| causeBits met, reflexed := true }) s)
  else if x.st = .opened ∧ x.lSt.conducts ∧ !s.tin.override then tripIn x.lRules met c met s
  else
    let s := if x.lSt.conducts && !x.st.conducts then modCh c (fun x => { x with gateA := .lowFull, gateB := .lowFull }) s else s
    meetIn x.lRules met c met s

/-- The comparators of the channel run, and its latched role and state let a reflex act. -/
def reflexLive (s : State) (c : Ch) : Bool := s.cnv.on && (s.chan c).lRole != .disabled && (s.chan c).st != .disabled

/-- OC_REFLEX: the OC comparator fires (R136, R138, R192); `withRc` says that RC fired with it. -/
def execOcReflex (c : Ch) (withRc : Bool) (s : State) : Host.Outcome State Fault Refusal :=
  if reflexLive s c then
    let rc := if withRc then (rcCause (s.chan c).lRole).toList else []
    .next (afterEvents s (reflexOff c (1 :: rc) s))
  else .next s

/-- RC_REFLEX: the RC comparator of a SOURCE or a LOAD fires (R136, R194); on a LOAD only when RC is enabled. -/
def execRcReflex (c : Ch) (s : State) : Host.Outcome State Fault Refusal :=
  match rcCause (s.chan c).lRole with
  | some k =>
    if reflexLive s c && (s.chan c).lRc != 0 then .next (afterEvents s (reflexOff c [k] s)) else .next s
  | none => .next s

/-- The bridge strobe rises (R139, R230): it is latched for the firmware and reaches every Marionette. -/
def raiseStrobe (s : State) : State :=
  let s := if s.bus.strobe then s else captureEvent .strobe s
  let s := { s with bus := { s.bus with strobe := true } }
  forEach allGrp (fun g => modGrp g fun x => { x with strobe := true }) s

/-- ARMED_REFLEX: a BATTERY channel latched as ARMED, its RC comparator on, boosts gate A to full and raises the bridge strobe (R136, R139);
while the Tin Soldier holds it, it becomes ON at once and stays kept (R254). -/
def execArmedReflex (c : Ch) (s : State) : Host.Outcome State Fault Refusal :=
  let x := s.chan c
  if reflexLive s c && x.lRole == .battery && x.lSt == .armed && x.lRc != 0 && !x.reflexed then
    if x.st = .armed ∨ x.st = .on then
      .next (raiseStrobe (modCh c (fun x => { x with
        gateA := .boost, st := if s.tin.override then ChSt.on else x.st }) s))
    else if x.st = .opened then .next (raiseStrobe s)
    else .next s
  else .next s

/-! ### Presence (R148, R149, R171) -/

/-- PRESENCE_FILTER: V(CHnn_VS) has stood at a level for the rest of the filter's CHn.PRES_MS, and the VOLT or PROBE result
follows it (Table 5.5). -/
def execPresenceFilter (c : Ch) (vsMv : Int) (s : State) : Host.Outcome State Fault Refusal :=
  let x := s.chan c
  let m := chn s c Chp.PRES_MODE
  let probing := m == 1 || (m == 3 && x.probe)
  let run := if x.presRestart then 0 else x.presRun
  if s.cnv.on && !reloads s c && x.low && probing && presLevel s c (16 * vsMv) == some (!x.present) then
    let t := elapse ((presTicks s c - run) * clkUs) s
    let t := modCh c (fun x => { x with present := !x.present, presRun := 0, presRestart := false, vs := 16 * vsMv }) t
    let t := if x.present && x.st == .wait then cancelWait c 5 t else t
    .next (afterEvents s t)
  else .next s

/-- AUTO_INRUSH_FILE: the firmware files the automatic inrush of a channel when R171 asks for it. -/
def execAutoInrushFile (c : Ch) (s : State) : Host.Outcome State Fault Refusal := .next (reportCh s (autoFile c s))

/-! ### Inrush events (R174, R176, R407) -/

/-- The Marionette of a channel runs. -/
def runs (s : State) (c : Ch) : Bool := s.cnv.on && !(s.group (groupOf c)).reloading && !s.tin.override

/-- INRUSH_FOLLOW_DONE: the driver reports the follower at 10 V above source; phase 2 begins (R174). -/
def execInrushFollowDone (c : Ch) (s : State) : Host.Outcome State Fault Refusal :=
  if runs s c then .next (beginServo c s) else .next s

/-- INRUSH_COMPLETE: EQUAL = 1 at a tick of phase 2; the channel enters its closed state (R174, R177, R182). -/
def execInrushComplete (c : Ch) (s : State) : Host.Outcome State Fault Refusal :=
  match (s.chan c).inr with
  | some r =>
    if runs s c && r.phase == 2 && r.fet.isNone && (s.chan c).st == .inrush then
      .next (afterEvents s (closeInrush c (modCh c (fun x => { x with equal := true }) s)))
    else .next s
  | none => .next s

/-- INRUSH_TIMEOUT: the inrush has lasted CHn.INRUSH_MAX_MS, cause 7 (R176). -/
def execInrushTimeout (c : Ch) (s : State) : Host.Outcome State Fault Refusal :=
  match (s.chan c).inr with
  | some r =>
    if s.cnv.on && r.fet.isNone && (s.chan c).st == .inrush && !s.tin.override then
      let due := chn s c Chp.INRUSH_MAX_MS * 1000
      let t := elapse ((due - r.ticks) * clkUs) s
      let t := modCh c (fun x => { x with inr := some { r with ticks := max r.ticks due } }) t
      .next (afterEvents s (meetCauses c [7] t))
    else .next s
  | none => .next s

/-- FET_TEST_END: the pulse has run its length; the channel opens and the test completes (R407). -/
def execFetTestEnd (c : Ch) (s : State) : Host.Outcome State Fault Refusal :=
  match (s.chan c).inr with
  | some r => match r.fet with
    | some f =>
      if runs s c then
        let t := elapse ((f.tp - r.ticks) * clkUs) s
        let t := modCh c (fun x => { x with inr := some { r with ticks := max r.ticks f.tp } }) t
        .next (afterEvents s (endFet c t))
      else .next s
    | none => .next s
  | none => .next s

/-- A day of OPTIME ends for one channel: CHn.LIFE_LEFT_D and its records (R188). -/
def lifeDay (c : Ch) (s : State) : State :=
  let left := lifeLeftOf (s.chan c)
  let s := modCh c (fun x => { x with lifeLeft := left, days := (x.damage :: x.days).take 30 }) s
  let told := (s.chan c).lifeTold
  let tell := fun (bit days sev : Nat) (hit : Bool) (s : State) =>
    if hit && !told.testBit bit then
      logEvent Evt.LIFE sev c.val [wearUsed (s.chan c), days]
        (modCh c (fun x => { x with lifeTold := x.lifeTold ||| 2 ^ bit }) s)
    else s
  tell 2 0 3 (left == 0) (tell 1 30 2 (decide (left < 30)) (tell 0 365 1 (decide (left < 365)) s))

/-- A day of OPTIME in units of 1/1024 s. -/
def dayKt : Nat := 86400 * 1024

/-- LIFE_LEFT_DAILY: the next day of OPTIME ends (R188). -/
def execLifeLeftDaily (s : State) : Host.Outcome State Fault Refusal :=
  if s.sys.phase == .run && anyPup s then
    let day := max (s.tmr.lifeDays + 1) (optime s / dayKt)
    let t := elapse ((day * dayKt - optime s) * clkKt) s
    .next (forEach allCh lifeDay { t with tmr := { t.tmr with lifeDays := day } })
  else .next s

/-! ### Trip and retry events (R195 to R197, R202 to R205) -/

/-- UV_FILTER_EXPIRY: the UV comparator has read active for CHn.UV_FILT_US ticks (R195). -/
def execUvFilterExpiry (c : Ch) (s : State) : Host.Outcome State Fault Refusal :=
  if s.cnv.on && roleOf s c != .disabled && chn s c Chp.UV_MV / 50 != 0 then
    let filt := chn s c Chp.UV_FILT_US
    let t := elapse ((filt - (s.chan c).uvRun) * clkUs) s
    let t := modCh c (fun x => { x with fUv := true, uvRun := max x.uvRun filt, clearRun := 0 }) t
    .next (afterEvents s (meetCauses c [uvCause s c] t))
  else .next s

/-- OVERLOAD_EXPIRY: the overload integrator reaches CHn.OL_MS x 1000 (R196). -/
def execOverloadExpiry (c : Ch) (s : State) : Host.Outcome State Fault Refusal :=
  if s.cnv.on && roleOf s c != .disabled && chn s c Chp.OL_MA != 0 then
    let due := chn s c Chp.OL_MS * 1000
    let t := elapse ((due - (s.chan c).ol) * clkUs) s
    .next (afterEvents s (meetCauses c [5] (modCh c (fun x => { x with ol := max x.ol due }) t)))
  else .next s

/-- A gate is on its way to full. -/
def Gate.rising : Gate → Bool
  | .rise _ => true
  | .boost => true
  | .lowFull => false | .lowSoft => false | .full => false | .servo _ => false | .forward _ _ => false
  | .charge _ _ _ => false | .hold => false

/-- The ticks that what a drive fault reports still has to stand, none where it cannot (R197). -/
def driveLeft (x : Chan) : DriveWhy → Option Nat
  | .pump => some (10 - x.pumpRun)
  | .gateA => if x.gateA.rising then some (2000 - x.riseA) else none
  | .gateB => if x.gateB.rising then some (2000 - x.riseB) else none

/-- The count that a drive fault completes. -/
def driveDone (why : DriveWhy) (x : Chan) : Chan :=
  match why with
  | .pump => { x with pumpRun := max x.pumpRun 10 }
  | .gateA => { x with riseA := max x.riseA 2000 }
  | .gateB => { x with riseB := max x.riseB 2000 }

/-- DRIVE_FAULT: the charge pump has stood below 9.0 V for 10 ticks, or a gate commanded to full has not reached 10 V in 2 ms,
cause 9; the action is always LATCH (R197). -/
def execDriveFault (fail : DriveFail) (s : State) : Host.Outcome State Fault Refusal :=
  let c := fail.ch
  if s.cnv.on && roleOf s c != .disabled then
    match driveLeft (s.chan c) fail.why with
    | some n => .next (afterEvents s (meetCauses c [9] (modCh c (driveDone fail.why) (elapse (n * clkUs) s))))
    | none => .next s
  else .next s

/-- RETRY_ATTEMPT: the delay of a TRIPPED channel has elapsed; the attempt begins when the other conditions of R202 hold. -/
def execRetryAttempt (c : Ch) (s : State) : Host.Outcome State Fault Refusal :=
  let x := s.chan c
  let go := fun (left : Nat) =>
    let t := elapse (left * clkUs) s
    let t := modCh c (fun x => { x with yoyo := .ready }) t
    Host.Outcome.next (afterEvents s (if attemptReady t c then beginAttempt false c t else t))
  if x.st == .tripped && runs s c then
    match x.yoyo with
    | .delay n => go n
    | .ready => go 0
    | .idle => .next s
    | .waiting => .next s
  else .next s

/-- WAIT_CLEARED: the cause of a WAIT is no longer met for its filter; the attempt begins with delay 0 and raises no count
(R205). -/
def execWaitCleared (c : Ch) (s : State) : Host.Outcome State Fault Refusal :=
  let x := s.chan c
  if x.st == .tripped && x.yoyo == .waiting && runs s c then
    let filt := chn s c Chp.UV_FILT_US
    let t := elapse ((filt - x.clearRun) * clkUs) s
    let t := modCh c (fun x => { x with fUv := false, uvRun := 0, clearRun := max x.clearRun filt }) t
    .next (afterEvents s (if waitClear t c && attemptReady t c then beginAttempt true c t else t))
  else .next s

/-- RETRY_COUNT_RESET: the channel has stayed in its closed state for CHn.RETRY_RESET_S; ATTEMPTS returns to 0 (R204). -/
def execRetryCountReset (c : Ch) (s : State) : Host.Outcome State Fault Refusal :=
  let x := s.chan c
  if x.st == .on || x.st == .diode || x.st == .armed then
    let t := elapseTo (x.closedAt.getD s.clock + chn s c Chp.RETRY_RESET_S * clkS) s
    .next (modCh c (fun x => { x with attempts := 0 }) t)
  else .next s

end Sys2Proof.Machine
end

