-- ==== Sys2Proof/Machine/Sessions.lean ====
section
/-! DEFINITION. The ends of sessions and of commands whose effect has not begun (R47, R103, R111), and the end
of a takeover. -/

namespace Sys2Proof.Machine

/-! ### Commands that have not begun -/

/-- A command in flight whose effect has not begun ends with ST_ABORTED, and what it had filed is withdrawn (R103, R415;
CANCEL of Table 4.6). -/
def abortTag (id : Nat) (s : State) : State :=
  let s := match s.adm.queue.find? fun o => o.tag == some id with
    | some o => rejudge (withdrawOp o 5 s)
    | none => s
  let s := { s with
    acc := { s.acc with snaps := s.acc.snaps.filter fun w => w.tag != id }
    met := { s.met with waiting := s.met.waiting.filter fun w => w.1 != id }
    mb := { s.mb with held := s.mb.held.filter (fun h => h.tag != id), runs := s.mb.runs.filter fun r => r.tag != id } }
  complete id St.ABORTED [] s

/-- The commands in flight of a channel whose effect has not begun. -/
def notBegun (s : State) (n : Mb) : List Nat :=
  (s.deolo.tags.filter fun e => e.chan == n && !e.begun && !e.done).map TagEnt.id

/-- The session of a channel ends; its commands in flight end as R103 lays down. -/
def closeSession (n : Mb) (s : State) : State :=
  putSes n none (forEach (notBegun s n) abortTag s)

/-- A session ends with NTF_SESSION_END, its reason named. -/
def endSession (n : Mb) (reason : Nat) (s : State) : State :=
  match session? s n with
  | none => s
  | some _ => closeSession n (notifyTo Opc.NTF_SESSION_END [wd reason] n s)

/-- Every session ends without notice, and every command in flight is lost (R47). -/
def dropSessions (s : State) : State :=
  { s with
    deolo := { s.deolo with ses := Vector.replicate 16 none, tags := [], sesDue := Vector.replicate 16 none }
    inq := Vector.replicate 16 InQ.reset, outq := Vector.replicate 16 OutQ.reset }

/-- The takeover's state goes back to what it was before: the phase shows the staged bank, and the grant is forgotten. -/
def clearTakeover (s : State) : State :=
  let staged := (idleBank s).st == Bst.STAGED
  { s with
    svc := { s.svc with op := none, newOn := none, lead := 0, phase := if staged then 2 else 0 }
    adm := { s.adm with
      grants := s.adm.grants.filter (fun o => o.code != Opn.HANDOVER)
      queue := s.adm.queue.filter (fun o => o.code != Opn.HANDOVER) } }

end Sys2Proof.Machine
end

