-- ==== Sys2Proof/Machine/SafeKeep.lean ====
section
/-! DEFINITION. Entry into SAFE-KEEP and the release of the overrides (R249 to R255, R264 to R267). -/

namespace Sys2Proof.Machine

/-! ### The fault flags (Table 9.1) -/

abbrev Watch.PUP_A : Nat := 0
abbrev Watch.PUP_B : Nat := 1
abbrev Watch.XIN_LOST : Nat := 2
abbrev Watch.CLK_DISAGREE : Nat := 3
abbrev Watch.CORE_RAIL : Nat := 4
abbrev Watch.MAR_SILENT : Nat := 5

/-- The causes of Table 9.2. -/
abbrev SfkCause.SUPERVISION_LOST : Nat := 1
abbrev SfkCause.BOOT_WINDOW : Nat := 2
abbrev SfkCause.SECOND_FAULT : Nat := 3
abbrev SfkCause.SURRENDER : Nat := 4
abbrev SfkCause.DRILL : Nat := 5

/-- The flag of a Puppeteer. -/
def pupFlag : Pup → Nat
  | .a => Watch.PUP_A
  | .b => Watch.PUP_B

/-- Sets a flag of SFK.WATCH. -/
def setWatch (k : Nat) (s : State) : State := { s with tin := { s.tin with watch := s.tin.watch ||| 2 ^ k } }

/-- Clears a flag of SFK.WATCH. -/
def clearWatch (k : Nat) (s : State) : State :=
  if s.tin.watch.testBit k then { s with tin := { s.tin with watch := s.tin.watch - 2 ^ k } } else s

/-- Two flags are raised at the same time (cause 3). -/
def twoFlags (s : State) : Bool := decide (2 ≤ ((List.range 6).filter fun k => s.tin.watch.testBit k).length)

/-! ### The channels at entry (Table 9.3) -/

/-- The pull-down of the sheet. -/
def sheetGate (s : State) (c : Ch) : Gate := if (s.tin.keep.get c).soft then .lowSoft else .lowFull

/-- The keep thresholds of R253: each step is the step of the gain in force; RC is off when RC_STEPS is 0. -/
def keepThresholds (s : State) (c : Ch) (x : Chan) : Chan :=
  let k := s.tin.keep.get c
  let g := chn s c Chp.GAIN == 1
  let r := chn s c Chp.SHUNT_UOHM
  { x with lOc := thrMa g r k.oc, lRc := if k.rc = 0 then 0 else thrMa g r k.rc }

/-- A channel that the Tin Soldier keeps, by its state: ON both gates full, DIODE gate A raised to full at 1.28 mA, ARMED held
with gate A frozen; an armed boost completes, and its channel is ON. -/
def keepCh (s : State) (c : Ch) (x : Chan) : Chan :=
  let x := keepThresholds s c { x with keep := true }
  match x.st with
  | .diode => { x with gateA := if x.gateA = .full then .full else .rise 1280 }
  | .armed => if x.gateA = .boost then { x with st := .on } else x
  | _ => x

/-- One channel at entry. On one that a turn-off reflex has opened during its group's reload the reflex wins (R254). -/
def safeKeepCh (c : Ch) (s : State) : State :=
  let x := s.chan c
  if x.reflexed ∧ x.st.conducts then keepTrip c ((List.range 10).filter fun k => x.heldCauses.testBit k) s
  else match (s.chan c).st with
  | .inrush => openTo c .opened .lowFull s
  | .wait => cancelWait c 6 s
  | .on => if (s.tin.keep.get c).keep then modCh c (keepCh s c) s else openTo c .opened (sheetGate s c) s
  | .diode => if (s.tin.keep.get c).keep then modCh c (keepCh s c) s else openTo c .opened (sheetGate s c) s
  | .armed => if (s.tin.keep.get c).keep then modCh c (keepCh s c) s else openTo c .opened (sheetGate s c) s
  | _ => s

/-! ### The Puppeteers at entry (R251, R255) -/

/-- A Puppeteer whose flag is raised, or whose heartbeat is not good, is reset; one whose heartbeat is good stays running as
the witness. -/
def witnessPup (s : State) (p : Pup) (x : Pupp) : Pupp :=
  if x.up && x.alive && !s.tin.watch.testBit (pupFlag p) then x
  else { x with up := false, restarting := false, alive := false, watched := false, inStep := false }

/-- A witness can serve the sessions: it was active, or it is a shadow whose mirror is in step. -/
def witnessServes (s : State) : Bool :=
  let act := s.sys.pup s.sys.active
  let sh := s.sys.pup (otherPup s.sys.active)
  act.up || (sh.up && sh.inStep)

/-- Held switching actions are discarded (R290). -/
def discardHeld (s : State) : State :=
  forEach (s.mb.held.map HeldSw.tag ++ s.mb.runs.map SwRun.tag) (fun id s => complete id St.ABORTED [] s) { s with mb := { s.mb with held := [], runs := [] } }

/-- Every queued entry completes with ST_ABORTED (Table 15.4). -/
def abortQueue (s : State) : State := forEach s.adm.queue (fun o s => withdrawOp o 6 s) s

/-! ### Entry -/

/-- The mode from which the Tin Soldier acts: any but RECOVERY, DORMANT and SAFE-KEEP, once power is present (Table 2.2). -/
def tinActs (s : State) : Bool :=
  (s.sys.phase == .boot || s.sys.phase == .run) && s.sys.mode != .recovery && s.sys.mode != .dormant && !inSafeKeep s

/-- The record of the entry that the Tin Soldier keeps (R250, R267, R268). -/
def countEntry (code : Nat) (s : State) : State :=
  let hour := (s.clock :: s.tin.entryTimes).filter fun t => decide (s.clock < t + 3600 * clkS)
  { s with tin := { s.tin with
      cause := code, entryDue := !anyPup s, entryCount := sat32 (s.tin.entryCount + 1), entryOptime := optime s, entryTimes := hour,
      keyIgnored := s.tin.keyIgnored || decide (3 ≤ hour.length), keptAtEntry := chMap fun c => (s.chan c).keep } }

/-- A takeover under way ends unfinished (R251); a restart out of SAFE-KEEP during a trial that enters it again rolls the
trial back (R532). -/
def safeKeepTakeover (s : State) : State :=
  let s := if s.svc.trialRestart then rollBanks s else s
  if s.svc.asker.isSome ∨ s.svc.newOn.isSome then clearTakeover (answerTakeover St.ABORTED 12 0 s) else s

/-- What the Tin Soldier seizes: the overrides and the token; a Puppeteer that does not beat good is reset, and the other stays
as the witness (R251, R255). -/
def seize (s : State) : State :=
  let t := { s with
    sys := { s.sys with pupA := witnessPup s .a s.sys.pupA, pupB := witnessPup s .b s.sys.pupB }
    tin := { s.tin with token := false, override := true, window := false } }
  { t with sys := { t.sys with
    simplex := t.sys.simplex || !(t.sys.pupA.up && t.sys.pupB.up), fwReady := t.sys.fwReady && anyPup t } }

/-- What is under way ceases, and every channel that is not kept opens (R251, R252). -/
def ceaseAll (s : State) : State := forEach allCh safeKeepCh (abortQueue (discardHeld (safeKeepTakeover s)))

/-- The capture of the entry, and the limits lifted by a witness. -/
def entryTaken (s : State) : State :=
  let t := captureEvent .safeKeep s
  if anyPup t then liftLimits t else t

/-- What tells of an entry; sessions that no witness can serve end with reason 4 (R255, R462). -/
def tellEntry (old s : State) : State :=
  let t := setIrq Irq.SAFE_KEEP s
  let t := { t with shb := { t.shb with live := false } }
  let t := logEvent Evt.SAFE_KEEP 3 objNone [t.tin.cause, t.tin.keptAtEntry] t
  reportCh old (if witnessServes s then t else forEach sesCh (endSession · 4) t)

/-- The Tin Soldier takes the Hatan to SAFE-KEEP. -/
def enterSafeKeep (code : Nat) (s : State) : State :=
  if !tinActs s then s
  else tellEntry s (enterMode .safeKeep Cause.tinSoldier (entryTaken (countEntry code (ceaseAll (seize s)))))

/-- A flag of Table 9.1 is raised; a second one raised at the same time is cause 3. -/
def raiseFlag (k : Nat) (s : State) : State :=
  let s := setWatch k s
  if twoFlags s then enterSafeKeep SfkCause.SECOND_FAULT s else s

/-! ### Release (R266) -/

/-- The overrides are released at the handshake of the restart: every channel holds the state it had, and the Marionettes take
over from it; each TRIPPED one schedules its next attempt afresh (R211). -/
def releaseOverrides (s : State) : State :=
  if !s.tin.override then s
  else
    let s := { s with tin := { s.tin with override := false } }
    rescheduleAll (forEach allCh (fun c s => modCh c (fun x => { x with keep := false }) s) s)

end Sys2Proof.Machine
end

