-- ==== Sys2Proof/Machine/ParamCheck.lean ====
section
/-! DEFINITION. The range checks of a PARAM_WRITE beyond the range column (R120): the field rules of single values, and
the cross-rules between parameters, judged against the latest written values after the whole write. -/

namespace Sys2Proof.Machine

/-! ### Field rules of one value -/

/-- A system-calibrated input code (Table 11.4). -/
def calCode (k : Nat) : Bool :=
  decide (k < 0x18) || decide (0x20 ≤ k ∧ k < 0x38) || decide (0x40 ≤ k ∧ k < 0x58) || decide (0x80 ≤ k ∧ k ≤ 0x84)
    || decide (0x88 ≤ k ∧ k ≤ 0x8F) || k == 0x91

/-- An input code of Table 11.4. -/
def inputCode (k : Nat) : Bool := calCode k || decide (0x60 ≤ k ∧ k < 0x78) || k == 0x90 || k == 0x92

/-- CHn.ZTHk: an exponent of 11 to 15 is out of range (Table 6.7). -/
def zthOk (v : Nat) : Bool := decide (fieldOf v 12 4 ≤ 10)

/-- CHn.WEAR_MODEL (Table 6.8). -/
def wearModelOk (v : Nat) : Bool :=
  decide (16 ≤ fieldOf v 24 8 ∧ fieldOf v 24 8 ≤ 160) && decide (20 ≤ fieldOf v 16 8 ∧ fieldOf v 16 8 ≤ 200)
    && decide (1 ≤ fieldOf v 0 16)

/-- CHn.TRIP_RULES: the codes 4 to 14 are out of range (R217). -/
def tripRulesOk (v : Nat) : Bool :=
  (List.range 8).all fun k => decide (fieldOf v (4 * k) 4 ≤ 3) || fieldOf v (4 * k) 4 == 15

/-- CNV.SEQk_e (Table 11.5). -/
def seqWordOk (v : Nat) : Bool :=
  inputCode (fieldOf v 56 8) && decide (fieldOf v 54 2 ≤ 2) && decide (fieldOf v 37 3 ≤ 4)
    && (fieldOf v 37 3 == 0 || fieldOf v 27 8 != 0)
    && (decide (fieldOf v 19 8 ≤ 191) || fieldOf v 19 8 == 255)
    && (decide (fieldOf v 12 7 ≤ 95) || fieldOf v 12 7 == 127)

/-- A drum entry (R282, R283). -/
def drumEntryOk (w : Nat) : Bool :=
  decide (fieldOf w 7 7 < 2 ^ fieldOf w 14 3) &&
    match fieldOf w 17 3 with
    | 2 => decide (fieldOf w 0 4 ≤ 11) || fieldOf w 0 4 == 15
    | 6 => decide (fieldOf w 0 5 ≤ 23)
    | _ => true

/-- The bits of a drum entry that its action uses; the others of ARG are reserved (Table 10.4). -/
def drumArgMask (action : Nat) : Nat :=
  match action with
  | 1 => 0x7F | 2 => 0x0F | 3 => 0x1F | 4 => 0x01 | 5 => 0x03 | 6 => 0x1F | 7 => 0x0F | _ => 0

/-- A drum entry as it is kept. -/
def drumKeep (w : Nat) : Nat := w / 128 * 128 + (fieldOf w 0 7 &&& drumArgMask (fieldOf w 17 3))

/-- TMR.CFGk (Table 14.3, R387). -/
def tmrCfgOk (k v : Nat) : Bool :=
  decide (fieldOf v 28 2 ≤ 1) && decide (fieldOf v 16 2 ≤ 1) && (!v.testBit 31 || (k % 2 == 0 && fieldOf v 28 2 == 0))

/-- TMR.CAPCFGk (Table 14.4, R386). -/
def tmrCapOk (k v : Nat) : Bool :=
  decide (fieldOf v 26 6 ≤ 49) && decide (fieldOf v 2 6 ≤ 49) && fieldOf v 16 8 != 0
    && fieldOf v 26 6 != 34 + k && fieldOf v 2 6 != 34 + k

/-- TMR.KTn_CFG (R399). -/
def ktCfgOk (n v : Nat) : Bool := decide (v % 8 ≤ 4) && (n != 0 || (v % 8 == 1 && v.testBit 3))

/-- FLD.CFGn (Table 17.12, R467). -/
def fldCfgOk (v : Nat) : Bool :=
  let func := fieldOf v 20 4
  let arg := fieldOf v 24 5
  let out := v.testBit 31
  fieldOf v 0 16 != 0 &&
    match func with
    | 0 => true
    | 1 => !out && decide (arg ≤ 23)
    | 2 => !out && decide (arg ≤ 23)
    | 3 => !out
    | 4 => !out
    | 5 => !out && decide (arg ≤ 1)
    | 6 => !out && decide (arg ≤ 23)
    | 7 => !out
    | 8 => out && decide (arg ≤ 5)
    | 9 => out
    | _ => false

/-- SHB.MODk (R454): a run of module addresses, or 0 for none. -/
def shbModOk (v : Nat) : Bool :=
  v == 0 || (decide (0x80 ≤ fieldOf v 8 8 ∧ fieldOf v 8 8 ≤ 0xBF) && decide (fieldOf v 0 8 ≤ 16))

/-- ACC.CLEAR (Table 12.8). -/
def accClearOk (v : Nat) : Bool :=
  let last := fieldOf v 16 8 + fieldOf v 8 8 + 1
  (fieldOf v 24 8 == 1 && decide (last ≤ 192)) || (fieldOf v 24 8 == 2 && decide (last ≤ 96))

/-- The field rules of a value; every parameter without one passes. -/
def fieldsOk (id : Nat) (v : Int) : Bool :=
  let n := v.toNat
  match id / 0x100 with
  | 0x04 => if 0x0480 ≤ id then drumEntryOk (n / 2 ^ 32) && drumEntryOk (n % 2 ^ 32) else true
  | 0x05 => if 0x0580 ≤ id then seqWordOk n else if id = Prm.CNV_CAL_INPUT then calCode n else true
  | 0x06 => if id = Prm.ACC_CLEAR then accClearOk n else true
  | 0x08 =>
    if id < 0x0880 then
      let k := (id - 0x0800) / 8
      match id % 8 with
      | 0 => tmrCfgOk k n
      | 5 => tmrCapOk k n
      | 6 => !(n.testBit 0 && n.testBit 1)
      | _ => true
    else if id < 0x0890 then (if id % 4 = 0 then ktCfgOk ((id - 0x0880) / 4) n else true)
    else true
  | 0x0B => if 0x0B80 ≤ id ∧ id < 0x0B90 then fldCfgOk n else if 0x0B38 ≤ id ∧ id < 0x0B3C then shbModOk n else true
  | _ =>
    if 0x1000 ≤ id ∧ id < 0x1600 then
      let off := id % 0x40
      if Chp.ZTH1 ≤ off ∧ off ≤ Chp.ZTH4 then zthOk n
      else if off = Chp.WEAR_MODEL then wearModelOk n
      else if off = Chp.TRIP_RULES then tripRulesOk n
      else true
    else true

/-- The value as it is kept: reserved bits read 0, those of a drum entry's ARG by its action (R11, Table 10.4). -/
def keepValue (id : Nat) (v : Int) : Int :=
  if 0x0480 ≤ id ∧ id < 0x0500 then
    Int.ofNat (drumKeep (v.toNat / 2 ^ 32) * 2 ^ 32 + drumKeep (v.toNat % 2 ^ 32))
  else ((paramRow id).map fun r => r.keep v).getD v

/-! ### Cross-rules between parameters -/

/-- The latest written values after a write. -/
abbrev Latest : Type := Nat → Int

/-- A role by the latest written values. -/
def roleIn (g : Latest) (c : Ch) : Role := Role.ofCode (g (chId c Chp.ROLE))

/-- R133: a threshold gives a shunt voltage in its window. -/
def windowIn (g : Latest) (c : Ch) (off : Nat) : Bool :=
  thrInWindow (g (chId c Chp.GAIN) == 1) (g (chId c Chp.SHUNT_UOHM)).toNat (g (chId c off)).toNat

/-- RC_MA of 0 switches the comparator off and stands for LOAD and TIE only (Table 5.10). -/
def rcOffIn (g : Latest) (c : Ch) : Bool :=
  g (chId c Chp.RC_MA) != 0 || roleIn g c == .load || roleIn g c == .tie

/-- R168: some pole has a resistance, and each such pole a mantissa. -/
def polesIn (g : Latest) (c : Ch) : Bool :=
  let w := (List.range 4).map fun k => (g (chId c (Chp.ZTH1 + k))).toNat
  w.any (fun x => fieldOf x 16 16 != 0) && w.all fun x => fieldOf x 16 16 == 0 || fieldOf x 0 12 != 0

/-- R199: every nibble is one that Table 7.2 allows for the cause and the latest role. -/
def rulesIn (g : Latest) (c : Ch) : Bool :=
  let v := (g (chId c Chp.TRIP_RULES)).toNat
  (List.range 8).all fun k => ruleAllowed (roleIn g c) (k + 1) (fieldOf v (4 * k) 4)

/-- The class of a channel that carries load, by the latest values: 1 ESSENTIAL, 2 ORDINARY. -/
def classIn (g : Latest) (c : Ch) : Nat := (g (chId c Chp.CLASS)).toNat

/-- The channels of shedding map k + 1. -/
def shedIn (g : Latest) (k : Nat) : List Ch := chNamed (g (Prm.BUS_SHED_MAP1 + k)).toNat

/-- R228, for one channel that stands in map k + 1: it carries load, its class may be shed, it stands in no other map, and
the classes are ordered along the maps. -/
def shedChIn (g : Latest) (k : Nat) (c : Ch) : Bool :=
  (roleIn g c == .load || roleIn g c == .tie) && (classIn g c == 1 || classIn g c == 2) &&
  (List.range 4).all fun j =>
    (j == k || !(shedIn g j).contains c) &&
    (shedIn g j).all fun d =>
      if classIn g c = classIn g d then true
      else if classIn g c = 1 then decide (j < k) else decide (k < j)

/-- R228 for one map. -/
def shedMapIn (g : Latest) (k : Nat) : Bool := (shedIn g k).all (shedChIn g k)

/-- R418: a bound channel is a BATTERY, and no other channel is bound to its string. -/
def stringIn (g : Latest) (c : Ch) : Bool :=
  let k := g (chId c Chp.BAT_STRING)
  k == 15 || (roleIn g c == .battery && allCh.all fun d => d == c || g (chId d Chp.BAT_STRING) != k)

/-- R450: a bound rectifier belongs to a SOURCE channel, and no address is bound twice. -/
def deviceIn (g : Latest) (c : Ch) : Bool :=
  let a := g (Prm.SHB_DEV0 + c.val)
  a == 0 || (roleIn g c == .source && allCh.all fun d => d == c || g (Prm.SHB_DEV0 + d.val) != a)

/-- R467: no second line carries PRESENCE, TRIP or RESCUE for the same channel. -/
def lineIn (g : Latest) (l : Line) : Bool :=
  let v := (g (Prm.FLD_CFG0 + l.val)).toNat
  let f := fieldOf v 20 4
  !(f == 1 || f == 2 || f == 6) ||
    (List.finRange 16).all fun m =>
      m == l ||
        let w := (g (Prm.FLD_CFG0 + m.val)).toNat
        fieldOf w 20 4 != f || fieldOf w 24 5 != fieldOf v 24 5

/-- R374: PERIOD is 1 or more in UP-DOWN mode. -/
def periodIn (g : Latest) (k : Tmr) : Bool :=
  fieldOf (g (tmrId k Tmrp.CFG)).toNat 28 2 != 1 || g (tmrId k Tmrp.PERIOD) != 0

/-- Table 14.7: the thermistor of GATE 4 is NTC0 to NTC7. -/
def ktArgIn (g : Latest) (n : Fin 4) : Bool :=
  (g (ktId n Ktp.CFG)).toNat % 8 != 4 || decide (fieldOf (g (ktId n Ktp.ARG)).toNat 24 4 ≤ 7)

/-- BUS.PEAK_BAT_MAP names BATTERY channels. -/
def peakMapIn (g : Latest) : Bool := (chNamed (g Prm.BUS_PEAK_BAT_MAP).toNat).all fun c => roleIn g c == .battery

/-- The cross-rules in which a channel's parameter at an offset takes part hold. -/
def chRuleOk (g : Latest) (c : Ch) (off : Nat) : Bool :=
  let oc := windowIn g c Chp.OC_MA
  let rc := g (chId c Chp.RC_MA) == 0 || windowIn g c Chp.RC_MA
  if off = Chp.OC_MA then oc
  else if off = Chp.RC_MA then rc && rcOffIn g c
  else if off = Chp.GAIN ∨ off = Chp.SHUNT_UOHM then oc && rc
  else if off = Chp.ROLE then
    rcOffIn g c && rulesIn g c && stringIn g c && deviceIn g c
      && (g (chId c Chp.PRES_MODE) != 3 || roleIn g c == .load)
      && ((List.range 4).all fun k => !(shedIn g k).contains c || shedChIn g k c)
      && (!(g Prm.BUS_PEAK_BAT_MAP).toNat.testBit c.val || roleIn g c == .battery)
  else if off = Chp.CLASS then (List.range 4).all fun k => !(shedIn g k).contains c || shedChIn g k c
  else if off = Chp.PRES_MODE then g (chId c Chp.PRES_MODE) != 3 || roleIn g c == .load
  else if Chp.ZTH1 ≤ off ∧ off ≤ Chp.ZTH4 then polesIn g c
  else if off = Chp.TJ_MAX then decide (g (chId c Chp.TJ_SERVO) ≤ g (chId c Chp.TJ_MAX) - 320)
  else if off = Chp.TJ_SERVO then
    decide (g (chId c Chp.TJ_SERVO) ≤ g (chId c Chp.TJ_MAX) - 320)
      && decide (g (chId c Chp.TJ_RETRY) ≤ g (chId c Chp.TJ_SERVO) - 640)
  else if off = Chp.TJ_RETRY then decide (g (chId c Chp.TJ_RETRY) ≤ g (chId c Chp.TJ_SERVO) - 640)
  else if off = Chp.RETRY_DELAY_MS ∨ off = Chp.RETRY_DELAY_MAX_MS then
    decide (g (chId c Chp.RETRY_DELAY_MS) ≤ g (chId c Chp.RETRY_DELAY_MAX_MS))
  else if off = Chp.TRIP_RULES then rulesIn g c
  else if off = Chp.BAT_STRING then stringIn g c
  else true

/-- The cross-rules in which a parameter takes part hold for the latest written values. -/
def crossOk (g : Latest) (id : Nat) : Bool :=
  if 0x1000 ≤ id ∧ id < 0x1600 then
    let c : Ch := ⟨(id - 0x1000) / 0x40 % 24, by omega⟩
    chRuleOk g c (id % 0x40)
  else if 0x0800 ≤ id ∧ id < 0x0880 then
    if id % 8 = Tmrp.CFG ∨ id % 8 = Tmrp.PERIOD then
      let k : Tmr := ⟨(id - 0x0800) / 8 % 16, by omega⟩
      periodIn g k
    else true
  else if 0x0880 ≤ id ∧ id < 0x0890 then
    if id % 4 ≤ 1 then
      let n : Fin 4 := ⟨(id - 0x0880) / 4 % 4, by omega⟩
      ktArgIn g n
    else true
  else if Prm.BUS_SHED_MAP1 ≤ id ∧ id < Prm.BUS_SHED_MAP1 + 4 then shedMapIn g (id - Prm.BUS_SHED_MAP1)
  else if id = Prm.BUS_PEAK_BAT_MAP then peakMapIn g
  else if Prm.SHB_DEV0 ≤ id ∧ id < Prm.SHB_DEV0 + 24 then
    let c : Ch := ⟨(id - Prm.SHB_DEV0) % 24, by omega⟩
    deviceIn g c
  else if Prm.FLD_CFG0 ≤ id ∧ id < Prm.FLD_CFG0 + 16 then
    let l : Line := ⟨(id - Prm.FLD_CFG0) % 16, by omega⟩
    lineIn g l
  else true

/-- A value passes the range checks of its own parameter. -/
def valueOk (id : Nat) (v : Int) : Bool := ((paramRow id).map fun r => r.inRange v).getD false && fieldsOk id v

/-- A stored configuration passes the range checks and the cross-rules (R582). -/
def configPasses (vals : List (Nat × Int)) : Bool :=
  let g : Latest := fun id => (sget vals id).getD (paramDflt id)
  vals.all fun e => valueOk e.1 e.2 && crossOk g e.1

/-! ### Calibration coefficients (Table 11.4, R319) -/

/-- The channel of a code, from the first code of its block. -/
def codeCh (base code : Nat) : Ch := ⟨(code - base) % 24, by omega⟩

/-- The nominal GAIN of a system-calibrated input (Table 11.4). -/
def nominalGain (s : State) (code : Nat) : Nat :=
  if code < 0x18 then
    let c := codeCh 0 code
    let fs := if chn s c Chp.GAIN = 1 then 16000 else 64000
    (divNear (fs * 1000 * 2 ^ 24) (8192 * chn s c Chp.SHUNT_UOHM)).toNat
  else if code = 0x84 then 16777216
  else if 0x88 ≤ code ∧ code ≤ 0x8F then 8388608
  else 134217728

/-- GAIN lies within 0.75 to 4/3 of the nominal GAIN in force. -/
def gainInWindow (s : State) (code gain : Nat) : Bool :=
  let n := nominalGain s code
  decide (3 * n ≤ 4 * gain ∧ 3 * gain ≤ 4 * n)

end Sys2Proof.Machine
end

