-- ==== Sys2Proof/Machine/Boot.lean ====
section
/-! DEFINITION. Starts: what a power loss and a warm restart leave, and the steps of Table 2.5 from the image check to the
self-test (R40 to R50, R483, R484, R488 to R490, R494, R502, R586). -/

namespace Sys2Proof.Machine

/-! ### Levels of the supply monitor (Table 21.2) -/

/-- A level in mV, within its limits. -/
def supplyLevel (row lo hi : Nat) : Nat := max lo (min hi (Config.supplyLevel row))

/-- HOLD retention minimum. -/
def holdRetention : Nat := supplyLevel 0 9500 10500

/-- HOLD brown-out sense level at power-on. -/
def holdSense : Nat := supplyLevel 1 1800 2200

/-- HOLD store-write limit (R473). -/
def holdWrite : Nat := supplyLevel 2 11600 12400

/-- HOLD charged level. -/
def holdCharged : Nat := supplyLevel 3 44500 45500

/-! ### Reading a record (R475, R488, R489) -/

/-- How the running image finds a record. -/
inductive Found
  | absent
  | current (b : Body)     -- of its own format
  | older (x : Slot)       -- of an older format that it reads; to be migrated
  | copy (x : Slot)        -- newer than it reads, with a readable copy in the migration space
  | unreadable (fmt : Nat) -- the owner's defaults apply
  deriving DecidableEq, Repr

/-- The newest copy of a record that the running image reads. -/
def readableCopy (s : State) (rtype inst : Nat) : Option Slot :=
  let cur := imgFormat (runBank s) rtype
  let ok := (s.nvs.copies.filter fun k =>
    k.rtype == rtype && k.inst == inst && decide (k.slot.fmt ≤ cur)
      && match imgLowest (runBank s) rtype with
        | some lo => decide (lo ≤ k.slot.fmt)
        | none => k.slot.fmt == cur).map Copy.slot
  ok.foldl (fun b x =>
    match b with
    | none => some x
    | some y => if seqNewer x.seq y.seq then some x else some y) none

/-- How the running image finds the record of a type and instance. -/
def lookRec (s : State) (rtype inst : Nat) : Found :=
  match inForce s rtype inst with
  | none => .absent
  | some x =>
    let cur := imgFormat (runBank s) rtype
    if x.fmt = cur then .current x.body
    else if x.fmt < cur then
      match imgLowest (runBank s) rtype with
      | some lo => if lo ≤ x.fmt then .older x else .unreadable x.fmt
      | none => .unreadable x.fmt
    else
      match readableCopy s rtype inst with
      | some k => .copy k
      | none => .unreadable x.fmt

/-- The body that a record gives its owner; none where the defaults apply. A body of an older format is read through the
conversion, which keeps its values. -/
def bodyRec (s : State) (rtype inst : Nat) : Option Body :=
  match lookRec s rtype inst with
  | .absent => none
  | .current b => some b
  | .older x => some x.body
  | .copy x => some x.body
  | .unreadable _ => none

/-! ### What a loss of the rails leaves (R45, R541) -/

/-- The state with the rails collapsed: the nonvolatile memory, the fuses, the Xamir die and the levels of the pins remain.
BAT.LOST_UPDATES, UPD.HANDOVERS and UPD.ROLLBACKS are never cleared. -/
def wiped (s : State) : State :=
  { State.reset with
    pending := s.pending
    clock := s.clock
    freeCtr := s.freeCtr
    sys := { Sys.reset with bootsel := s.sys.bootsel }
    xam := s.xam
    tin := { Tin.reset with lower := s.tin.lower, upper := s.tin.upper }
    bat := { Bat.reset with lost := s.bat.lost }
    nvs := { Store.reset with
      recs := s.nvs.recs, journal := s.nvs.journal, copies := s.nvs.copies, flushNewer := s.nvs.flushNewer
      flushBegun := s.nvs.flushBegun }
    log := { Rec.reset with pools := s.log.pools, pseq := s.log.pseq }
    svc := { Svc.reset with
      en := s.svc.en, bankA := s.svc.bankA, bankB := s.svc.bankB, handovers := s.svc.handovers
      rollbacks := s.svc.rollbacks, svnFloor := s.svc.svnFloor, revoked := s.svc.revoked, trialAt := s.svc.trialAt
      tx := s.svc.tx } }

/-! ### Reading the event log (R494, R502) -/

/-- The frames of the written pages. -/
def pageFrames (s : State) : List Frame := (List.finRange 4).flatMap fun p => (s.log.pools.get p).flatMap Page.frames

/-- The newest of a list of SEQs, in the order of R493. -/
def newestSeq (l : List Nat) : Option Nat :=
  l.foldl (fun b x =>
    match b with
    | none => some x
    | some y => if newer x y then some x else some y) none

/-- The oldest of a list of SEQs. -/
def oldestSeq (l : List Nat) : Option Nat :=
  l.foldl (fun b x =>
    match b with
    | none => some x
    | some y => if newer y x then some x else some y) none

/-- The log is read: the next SEQ, the watermark and LOG_START. `from_` is the mode that this start left for BOOT, when it left
one: its MODE_CHANGE follows LOG_START, with cause 2 at a cold start and cause 11 at a warm one (R37, R583). DEDUCED (unsafe,
log 88): the Puppeteers leave reset as BOOT is entered, so that R494 does not lose this record. -/
def readLog (from_ : Option Mode) (s : State) : State :=
  let fs := pageFrames s
  let seqs := fs.map Frame.seq
  let newest := newestSeq seqs
  let marks := (fs.filter fun f => f.code == Evt.LOG_CLEARED).map fun f => f.data.headD 0
  let mark := match newestSeq marks with
    | some m => m
    | none => match oldestSeq seqs with
      | some o => (o + 2 ^ 24 - 1) % 2 ^ 24
      | none => 0xFFFFFF
  let s := { s with log := { s.log with
    ready := true, watermark := mark, window := optime s / 10240
    nextSeq := match newest with
      | some n => (n + 1) % 2 ^ 24
      | none => 0 } }
  let s := logEvent Evt.LOG_START 1 objNone [s.sys.resetCause, newest.getD 0xFFFFFFFF] s
  match from_ with
  | some m =>
    let cause := if s.sys.warm then Cause.warm else Cause.cold
    logEvent Evt.MODE_CHANGE 1 objNone [cause * 2 ^ 8 + m.code * 2 ^ 4 + Mode.boot.code] s
  | none => s

/-! ### The journal (R484, R432) -/

/-- An intent whose record in force carries a lower SEQ, or that has no record, is a lost update. -/
def intentLost (s : State) (i : Intent) : Bool :=
  match inForce s i.rtype i.inst with
  | none => true
  | some x => seqNewer i.seq x.seq

/-- The new values of a lost update, as words. -/
def lostWords : Body → List Nat
  | .isolation ch grp => [bitsOf allCh (ch.contains ·), bitsOf allGrp (grp.contains ·)]
  | .latch chs => [bitsOf allCh (chs.contains ·)]
  | .capacity c n => [c, n]
  | _ => []

/-- The journal is resolved: each lost update is counted and recorded, and its clear entry written (R484). -/
def resolveJournal (s : State) : State :=
  let lost := (openIntents s).filter fun e => intentLost s e.2
  forEach lost (fun e s =>
    let i := e.2
    let s := writeEntry (.inr e.1) s
    let s := { s with nvs := { s.nvs with lostWrites := sat32 (s.nvs.lostWrites + 1) } }
    let s := logEvent Evt.NVS_LOST_UPDATE 1 objNone (recWord i.rtype i.inst :: lostWords i.body) s
    if i.rtype = RT.CAPACITY then
      let s := { s with bat := { s.bat with lost := sat32 (s.bat.lost + 1) } }
      logEvent Evt.CAPACITY_LOST 1 (0x20 + i.inst) [(lostWords i.body).headD 0] s
    else s) s

/-! ### Migration and unreadable records (R41, R488, R489) -/

/-- A record is copied, converted and written anew. -/
def migrateRec (rtype inst : Nat) (x : Slot) (s : State) : State :=
  let have_ := s.nvs.copies.any fun k => k.rtype == rtype && k.inst == inst && k.slot.seq == x.seq
  let k : Copy := { rtype := rtype, inst := inst, slot := x, ver := (idleBank s).ver }
  let copies := if have_ then s.nvs.copies else s.nvs.copies ++ [k]
  let s := { s with nvs := { s.nvs with copies := copies, migrated := min 65535 (s.nvs.migrated + 1) } }
  commitRec rtype inst x.body s

/-- What a start does about one record of another format. -/
def settleRec (rtype inst : Nat) (s : State) : State :=
  match lookRec s rtype inst with
  | .older x => migrateRec rtype inst x s
  | .copy x =>
    logEvent Evt.NVS_MIGRATE 1 objNone [recWord rtype inst, x.fmt] { s with nvs := { s.nvs with rollbackCopy := true } }
  | .unreadable fmt =>
    logEvent Evt.NVS_MIGRATE 2 objNone [recWord rtype inst, fmt]
      { s with nvs := { s.nvs with migrateFail := min 65535 (s.nvs.migrateFail + 1) } }
  | _ => s

/-- Every record of another format is dealt with. -/
def settleRecords (s : State) : State :=
  forEach (s.nvs.recs.map fun r => (r.rtype, r.inst)) (fun k s => settleRec k.1 k.2 s)
    { s with nvs := { s.nvs with migrated := 0, rollbackCopy := false } }

/-! ### The configuration (R479, R582) -/

/-- The values that the CONFIG records hold. -/
def storedVals (s : State) : List (Nat × Int) :=
  allBlocks.flatMap fun b =>
    match bodyRec s RT.CONFIG b with
    | some (.config l) => l
    | _ => []

/-- The configuration is present and valid (R582). -/
def storedValid (s : State) : Bool :=
  (allBlocks.all fun b => (bodyRec s RT.CONFIG b).isSome)
    && configPasses ((storedVals s).filter fun e => e.1 != Prm.HIF_HOST_KEY_SET)

/-- The stored values become the latest written ones. -/
def loadVals (s : State) : State :=
  let vals := storedVals s
  let s := { s with
    pw := []
    sys := { s.sys with configValid := storedValid s }
    deolo := { s.deolo with keySet := vals.any fun e => e.1 == Prm.HIF_HOST_KEY_SET && e.2 == 1 } }
  forEach (vals.filter fun e => e.1 != Prm.HIF_HOST_KEY_SET && (paramRow e.1).isSome) (fun e s => putW e.1 e.2 s) s

/-! ### Owners' records -/

/-- The isolations in force come from their record (R586). -/
def loadIsolation (s : State) : State :=
  match bodyRec s RT.ISOLATION 0 with
  | some (.isolation ch grp) => { s with sys := { s.sys with isoCh := ch, isoGrp := grp } }
  | _ => { s with sys := { s.sys with isoCh := [], isoGrp := [] } }

/-- The channels of the LATCH record. -/
def latchedChs (s : State) : List Ch :=
  match bodyRec s RT.LATCH 0 with
  | some (.latch l) => l
  | _ => []

/-- The rises of a channel in the THERMAL record (R169). -/
def storedTheta (s : State) (c : Ch) : Vector Rat 4 :=
  match bodyRec s RT.THERMAL 0 with
  | some (.thermal l _) =>
    let t := l.getD c.val []
    #v[t.getD 0 0, t.getD 1 0, t.getD 2 0, t.getD 3 0]
  | _ => Vector.replicate 4 0

/-- A channel's wear comes from its record; an absent one gives empty bins (R486, R490). -/
def loadWear (s : State) (c : Ch) (x : Chan) : Chan :=
  match bodyRec s RT.WEAR c.val with
  | some (.wear bins dmg closures trips told days _) =>
    let b := (List.finRange 16).foldl (fun (v : Vector Nat 16) i => vput v i (bins.getD i.val 0)) (Vector.replicate 16 0)
    { x with bins := b, damage := dmg, closures := closures, tripCount := trips, lifeTold := told, days := days }
  | _ => x

/-- The state in which a channel starts from a loss of the rails (R213, R586). -/
def startState (s : State) (c : Ch) : ChSt :=
  if roleOf s c = .disabled then .disabled
  else if isolated s c then .isolated
  else if (latchedChs s).contains c then .latched
  else .opened

/-- A channel at the configuration step of a cold start. -/
def coldCh (c : Ch) (s : State) : State :=
  let th := storedTheta s c
  let tref := chp s c Chp.TREF_FIX
  let tj := tjOf tref (riseOf th)
  let x := { Chan.reset with st := startState s c, theta := th, tref := tref, tj := tj, extreme := tj }
  setProbe c (modCh c (fun _ => loadWear s c x) s)

/-- A string's estimate from its record, its confidence lowered by `lower` hundredths of a percent (R433) and decaying
from here on, and its capacity (R443). -/
def loadString (lower : Nat) (k : Str) (s : State) : State :=
  let x := Strg.reset
  let x := match bodyRec s RT.CAPACITY k.val with
    | some (.capacity c n) => { x with cLearn := c, learnCount := n }
    | _ => x
  let x := match bodyRec s RT.STRING_STATE k.val with
    | some (.stringState qi qr conf z) => { x with qInt := qi, qRep := qr, conf := max 0 (conf - lower), z := z }
    | _ => x
  { s with bat := { s.bat with s := vput s.bat.s k { x with refAt := optime s } } }

/-- The calibrated coefficients from their records; a record of nominal coefficients gives none. -/
def loadCoefs (s : State) : State :=
  let l := (List.range 0x93).filterMap fun code =>
    match bodyRec s RT.CAL code with
    | some (.cal o g) => if g = 0 then none else some (code, o, g.toNat)
    | _ => none
  { s with cnv := { s.cnv with coefs := l, coefNext := [] } }

/-- Thermistors at a start: an enabled one settles, a disabled one is invalid (R302). -/
def settleNtc (s : State) : State :=
  { s with cnv := { s.cnv with ntc := (List.finRange 8).foldl (fun (v : Vector NtcS 8) k =>
      let on := (pn s Prm.CNV_NTC_EN).testBit k.val
      vmod v k fun x => { x with st := if on then .settling else .invalid, good := 0, last := none }) s.cnv.ntc } }

/-- The sequencers' tables and the slots take their stored words at a cold start (R313, R327). -/
def loadTables (s : State) : State :=
  let s := forEach (List.finRange 4) (fun k s => forEach (List.finRange 32) (fun e s =>
    seqHook k e (pn s (Prm.CNV_SEQ0_0 + 32 * k.val + e.val)) s) s) s
  forEach (List.finRange 48) (fun g s => slotsHook g (pn s (Prm.ACC_SLOTCFG0 + g.val)) s) s

/-- The general timers at a cold start or a wake: stopped, at 0, with their stored configuration (R390). -/
def loadTimers (s : State) : State :=
  let t := (List.finRange 16).foldl (fun (v : Vector GTmr 16) k =>
    vput v k { GTmr.reset with
      cfg := pn s (tmrId k Tmrp.CFG), period := pn s (tmrId k Tmrp.PERIOD), cmp := pn s (tmrId k Tmrp.CMP)
      base := s.clock }) (Vector.replicate 16 GTmr.reset)
  { s with tmr := { s.tmr with t := t, hi := [] } }

/-- Alarms whose value already stands at or above them are not due again (R393). -/
def ktReached (s : State) : Vector Bool 4 :=
  let at_ := fun n : Fin 4 => decide (pn s (ktId n Ktp.ALARM) ≤ s.tmr.kt.get n)
  #v[at_ 0, at_ 1, at_ 2, at_ 3]

/-- Field lines at a start: REJ, OVSPD and STUCK return to 0, and the stuck time counts afresh (R396). -/
def restartLines (s : State) : State :=
  let f := (List.finRange 16).foldl (fun (v : Vector FLine 16) l =>
    vmod v l fun x => { x with
      stuck := false, ovspd := false, rej := 0, rejSec := 0, sec := optime s / 1024
      since := if x.level == (flCfg s l).testBit 30 then none else some s.clock }) s.fl
  { s with fl := f }

/-! ### Microcode (R529) -/

/-- At every BOOT a MICROCODE record that does not match the running image's section is replaced, and the group loads it. -/
def loadMicrocode (g : Grp) (s : State) : State :=
  let m := sectionBytes (runBank s) g.val
  let s := if bodyRec s RT.MICROCODE g.val = some (.microcode m) then s else commitRec RT.MICROCODE g.val (.microcode m) s
  modGrp g (fun x => { x with mc := m }) s

/-! ### Firmware steps common to every start -/

/-- The Puppeteers start the image: A commands, B is its shadow (Table 2.5). A holds the active token, but for a restart out of
SAFE-KEEP, whose overrides withhold it until the handshake (R251, R266). -/
def startPups (b : Bool) (s : State) : State :=
  let p := { Pupp.reset with up := true }
  { s with
    sys := { s.sys with
      pupA := { p with discarded := s.sys.pupA.discarded }, pupB := { p with discarded := s.sys.pupB.discarded }
      active := .a, simplex := false, noImage := false }
    svc := { s.svc with runB := b }
    tin := { s.tin with token := !s.tin.override } }

/-- A flush that never reached FLUSH is recorded, as are the scrub findings made while no Puppeteer ran (R485, R487). -/
def storeEvents (s : State) : State :=
  let s := match s.nvs.flushBegun with
    | some n => logEvent Evt.NVS_FLUSH_INCOMPLETE 2 objNone [n] s
    | none => s
  let s := forEach s.nvs.findings (fun f s => logEvent Evt.NVS_SCRUB f.2.2 objNone [f.1, f.2.1] s) s
  { s with nvs := { s.nvs with flushBegun := none, findings := [] } }

/-- POWER is written at every start (R482, R483), and what FLUSH said of the last flush is read before it (R490). -/
def startPower (s : State) : State :=
  let last := match bodyRec s RT.FLUSH 0 with
    | some (.flush t _) => t
    | _ => 0
  let s := { s with
    nvs := { s.nvs with
      lastFlushOk := s.nvs.flushNewer, lastFlush := last, flushNewer := false
      powerSlot := optime s / 614400, wearSlot := optime s / 3686400 }
    bat := { s.bat with stateAt := s.clock } }
  commitRec RT.POWER 0 (capture s RT.POWER 0) s

/-- Store, log and microcode at a start, once the image runs; `from_` is the mode that the start left for BOOT. -/
def startStore (from_ : Option Mode) (s : State) : State :=
  let s := readLog from_ s
  let s := startPower s
  let s := storeEvents (resolveJournal s)
  let s := if s.tin.entryDue then
      logEvent Evt.SAFE_KEEP 3 objNone [s.tin.cause, s.tin.keptAtEntry] { s with tin := { s.tin with entryDue := false } }
    else s
  let s := forEach allGrp loadMicrocode s
  let s := settleRecords s
  { s with nvs := { s.nvs with ready := true } }

/-- The update manager's phase at a start: trial, staged, or idle (Table 20.11). -/
def restPhase (s : State) : Nat :=
  if s.svc.bankA.st = Bst.TRIAL ∨ s.svc.bankB.st = Bst.TRIAL then 6
  else if s.svc.bankA.st = Bst.STAGED ∨ s.svc.bankB.st = Bst.STAGED then 2
  else 0

/-- The failed items of the self-test: their records, the channels and groups taken out of service, and those that pass again
returned to it (R42). Position 4 of Table 2.5 is the check of the memories, position 10 the self-test. Without a sheet NO_SHEET
is written, once in each BOOT (R264). -/
def selfTest (t : SelfTest) (s : State) : State :=
  let s := if t.memFail then logEvent Evt.SELFTEST_FAIL 2 objNone [4] s else s
  let s := forEach (grpNamed t.grpFail) (fun g s => logEvent Evt.SELFTEST_FAIL 2 (objGrp g) [10] s) s
  let s := forEach allGrp (fun g s => modGrp g (fun x => { x with oos := t.grpFail.testBit g.val }) s) s
  let s := forEach (chNamed t.chFail) (fun c s => logEvent Evt.SELFTEST_FAIL 2 c.val [10] s) s
  let s := forEach allCh (fun c s =>
    let bad := t.chFail.testBit c.val || t.grpFail.testBit (groupOf c).val
    modCh c (fun x => { x with
      oos := bad
      st := if bad && x.st == .opened then .oos else if !bad && x.st == .oos then .opened else x.st }) s) s
  let s := if s.xam.fitted && !t.xamirAnswers then logEvent Evt.SELFTEST_FAIL 2 objNone [10] s else s
  let s := if t.handshakeFail then logEvent Evt.SELFTEST_FAIL 2 objNone [10] s else s
  let s := if (sheetForce s).isNone then logEvent Evt.NO_SHEET 3 objNone [] s else s
  { s with
    sys := { s.sys with tested := true, bootStuck := t.memFail || t.handshakeFail }
    tin := { s.tin with checked := s.tin.checked || !t.handshakeFail } }

/-- The self-test step of a BOOT that has not run it yet, with its findings (R40, R42, R48). -/
def runTest (t : SelfTest) (s : State) : State := if s.sys.tested then s else selfTest t s

/-- What a self-test finds whose findings no command brings: free values. -/
def drawTest (s : State) : SelfTest × State :=
  let (ws, s) := drawWords 3 s
  let w := fun k => ws.getD k 0
  ({ chFail := (w 0).field 0 24, grpFail := (w 1).field 0 4, memFail := (w 2).bit 0, handshakeFail := (w 2).bit 1
     xamirAnswers := (w 2).bit 2 }, s)

/-- The self-test step of a BOOT that no command with its findings has run. DESIGN CHOICE (safe, log 99): its findings are free
values. -/
def openTest (s : State) : State :=
  if s.sys.tested then s
  else
    let r := drawTest s
    selfTest r.1 r.2

/-- Every parameter comes into force as stored. -/
def forceStored (s : State) : State := { s with pf := s.pw }

/-! ### A cold start -/

/-- The count of power cycles, the keeping timers and the scrubber resume from POWER (R394, R483, R487). -/
def resumePower (s : State) : State :=
  let s := match bodyRec s RT.POWER 0 with
    | some (.power n kt span scrub _) =>
      { s with
        nvs := { s.nvs with powerCycles := n, scrubPos := scrub }
        tmr := { s.tmr with kt := #v[kt.getD 0 0, kt.getD 1 0, kt.getD 2 0, kt.getD 3 0], span := span } }
    | _ => s
  { s with nvs := { s.nvs with powerCycles := sat32 (s.nvs.powerCycles + 1) } }

/-- The configuration step of a cold start. -/
def coldConfig (s : State) : State :=
  let s := forceStored (loadVals s)
  let s := { s with
    sys := { s.sys with service := pget s Prm.SYS_PROFILE == 1 }
    cnv := { s.cnv with
      on := true
      seq := (List.finRange 4).foldl (fun (v : Vector Seqr 4) k =>
        vmod v k fun q => { q with filt := Vector.replicate 32 (freshFilt s) }) s.cnv.seq }
    mb := { s.mb with cur := nominal s, freq := nominal s, boundaryAt := s.clock }
    tmr := { s.tmr with ktDue := ktReached s } }
  let s := loadTimers (loadTables (loadIsolation s))
  let s := forEach allCh coldCh s
  let s := if chFault s = 0 then s else setIrq Irq.FAULT s
  let s := forEach allStr (loadString (pn s Prm.BAT_CONF_COLD)) s
  let s := restartLines (settleNtc (loadCoefs s))
  driveOutputs { s with svc := { s.svc with phase := restPhase s, trialAt := min s.svc.trialAt (optime s) } }

/-- Jack-in-the-box finds no bank, or BOOTSEL is high: RECOVERY (R43, R526). DEDUCED (unsafe, log 88): no record tells of it,
because no firmware runs to read the log and RECOVERY admits no write of it (R494, Table 2.3). -/
def enterRecovery (s : State) : State :=
  let s := { s with sys := { s.sys with mode := .recovery, prevMode := .boot, phase := .run } }
  setIrq Irq.MODE_CHG { s with tin := { s.tin with window := false } }

/-- A cold start with a cause of Table 2.6, as far as the self-test (Table 2.5); the self-test runs with the start, or
later with the handshake. BOOTSEL is sampled (R43). -/
def coldStart (cause : Nat) (test : Option SelfTest) (s : State) : State :=
  let s := countTrial (wiped s)
  let s := setIrq Irq.MODE_CHG { s with
    sys := { s.sys with phase := .boot, mode := .boot, resetCause := cause }
    tin := { s.tin with window := true }
    pwr := { s.pwr with vin := true } }
  if s.sys.bootsel then enterRecovery s
  else
    match coldBank s with
    | none => enterRecovery s
    | some b =>
      let from_ := s.sys.prevMode
      let s := startPups b (resumePower { s with svc := { s.svc with runB := b } })
      let s := coldConfig (startStore (some from_) (loadVals s))
      match test with
      | some t => selfTest t s
      | none => s

/-! ### A warm restart -/

/-- What a restart clears in a channel's conversion, timers and trips (R219, R322). -/
def restartCounts (s : State) : State :=
  let s := forEach allCh (fun c s => modCh c (fun x => { x with rej := 0, rejCyc := 0, ovspd := false, extStuck := false }) s) s
  { s with cnv := { s.cnv with seq := (List.finRange 4).foldl (fun (v : Vector Seqr 4) k =>
      vmod v k fun q => { q with overrun := 0, urgLost := 0, gaps := 0 }) s.cnv.seq } }

/-- The held amounts are rebuilt from the grant registers (Table 15.4). -/
def rebuildGrants (s : State) : State :=
  forEach allCh (fun c s =>
    match (s.chan c).grant with
    | none => s
    | some (code, mc) =>
      let o := { Op.blank code with id := s.adm.next, ch := some c, map := 2 ^ c.val, bus := mc }
      { s with adm := { s.adm with grants := s.adm.grants ++ [o], next := s.adm.next + 1 } })
    { s with adm := { s.adm with grants := [], queue := [], short := false, reqStage := 0 } }

/-- What a warm restart clears: the Puppeteers' memories and the shared SRAM, the sessions, and every register that is
neither sticky nor a counter kept by its table (R47, R81). The channels hold their gates (R46), and the Marionettes what they
have latched, a shedding step and a restoration among it (R252, R291). A rectifier that conducts stays in the sharing set with
its trim at 0. DESIGN CHOICE (unsafe, log 82): the lockouts of R109 and the failure times counted for them lie in the cleared
memories. -/
def dropRam (s : State) : State :=
  let s := rebuildGrants (restartCounts (dropSessions s))
  { s with
    link := { Link.reset with 
      scratch := s.link.scratch, result := s.link.result, miso := s.link.miso, misoCrc := s.link.misoCrc
      misoBits := s.link.misoBits, bridgeWord := s.link.bridgeWord }
    deolo := { s.deolo with
      peak := 0, ntfDropped := 0, inboundLost := 0, authTimes := Vector.replicate 16 []
      lockout := Vector.replicate 16 false, ntf15 := 0 }
    bus := { s.bus with
      stepPending := false, restore := none, trim := Vector.replicate 24 0, shareCnt := 0, shareDue := false
      walk := allCh.foldl (fun (v : Vector Walk 24) c =>
        vput v c (if roleOf s c == .source && conducts s c then .full else .out)) s.bus.walk
      capState := 0, capLow := 0, peakAt := none, peakOp := none, limit := Vector.replicate 24 none
      peakPlan := 0, peakDrawn := 0, restoreTry := none, srcDone := false }
    mb := { s.mb with held := [], runs := [] }
    cnv := { s.cnv with cal := Cnv.reset.cal, coefNext := [] }
    acc := { s.acc with snaps := [] }
    met := Met.reset
    tmr := { s.tmr with hi := [] }
    bat := { Bat.reset with lost := s.bat.lost }
    shb := Shb.reset
    nvs := { s.nvs with
      ready := false, flushing := false, writeFail := false, queue := [], held := [], dirty := [] }
    log := { s.log with
      ready := false, full := false, held := false, spill := false, buf := [], counts := [], summs := [], catchAll := none }
    tin := { s.tin with armed := false, token := false, staged := Vector.replicate 3 none }
    svc := { s.svc with
      baud := 0, baudNew := false, loading := none, lead := 0, op := none, asker := none, newOn := none, reloads := []
      nonce := none, debug := 0, halted := false, wear := none, localA := [], localB := [], sram := [] } }

/-- The mode that counts for the resumption (R49). -/
def countedMode (s : State) : Mode :=
  match s.sys.mode with
  | .safeKeep => match s.sys.prevMode with
    | .handover => s.sys.handoverFrom
    | .boot => s.sys.keptMode
    | m => m
  | .handover => s.sys.handoverFrom
  | .boot => s.sys.keptMode
  | m => m

/-- The mode BOOT is entered; the overrides of a restart out of SAFE-KEEP stand until its handshake (R266). -/
def enterBoot (s : State) : State :=
  changeMode .boot Cause.warm s

/-- The groups reload one at a time, G0 first (R46). -/
def beginReloads (gs : List Grp) (s : State) : State :=
  match gs with
  | [] => { s with svc := { s.svc with reloads := [] } }
  | g :: t =>
    modGrp g (fun x => { x with reloading := true }) { s with svc := { s.svc with reloads := t } }

/-- One channel becomes ISOLATED: a request in hand ends, a conducting channel opens, and a trip state ends (R212,
Table 5.7). -/
def isolateCh (gate : State → Ch → Gate) (c : Ch) (s : State) : State :=
  let st := (s.chan c).st
  if st = .disabled ∨ st = .isolated then s
  else
    let s := endTestOf c (if st = .wait then cancelWait c 5 s else withdrawCh c 5 s)
    let s := shutCh c .isolated (gate s c) s
    let s := modCh c (fun x => { x with attempts := 0, yoyo := .idle, delayLen := 0, barred := false, fresh := false }) s
    if st = .latched then queueWrite RT.LATCH 0 s else s

/-- Each channel that the ISOLATION record names, itself or by its group, is ISOLATED (R586); while the Tin Soldier overrides
the gates it keeps its state until the release (R266). -/
def isolateRecorded (s : State) : State :=
  if s.tin.override then s
  else forEach allCh (fun c s =>
    if !isolated s c then s
    else isolateCh (if s.sys.isoGrp.contains (groupOf c) then isoGate else openGate) c s) s

/-- The configuration step of a warm restart: what differs from what is in force takes effect, CYC at the next boundary. The
recorded isolations come into force (R586), and the whole drum is written anew, which ends every skip (R289, R291). -/
def warmConfig (s : State) : State :=
  let s := isolateRecorded (loadIsolation (loadVals s))
  let s := forceAll .boot (forceAll .mode (forceAll .imm s))
  let s := { s with sys := { s.sys with service := pget s Prm.SYS_PROFILE == 1 }, cnv := { s.cnv with on := true } }
  let s := forEach allStr (loadString (pn s Prm.BAT_CONF_COLD)) s
  let s := restartLines (settleNtc (loadCoefs s))
  { s with
    svc := { s.svc with phase := restPhase s }
    mb := { s.mb with pairNew := List.range 128 } }

/-- Sequencers with nothing running, whose filters start again from the present clock with their state cleared. -/
def freshSeqs (s : State) : Vector Seqr 4 :=
  (List.finRange 4).foldl (fun (v : Vector Seqr 4) k => vmod v k fun q =>
    { Seqr.reset with
      table := q.table, filt := Vector.replicate 32 { Filt.reset with at_ := s.clock }
      overrun := q.overrun, urgLost := q.urgLost, gaps := q.gaps }) s.cnv.seq

/-- The main domain leaves what it did: both Puppeteers in reset, the boot window open, BOOT entered (R46, R47).
Sequencers that SAFE-KEEP without a witness has stopped start again idle, their filters anew (R313). -/
def stopMain (cause : Nat) (s : State) : State :=
  let t := dropRam s
  enterBoot { t with
    cnv := { t.cnv with seq := if inSafeKeep s && !anyPup s then freshSeqs t else t.cnv.seq }
    sys := { t.sys with
      phase := .boot, resetCause := cause, warm := true, keptMode := countedMode s, warmCount := sat32 (t.sys.warmCount + 1)
      fwReady := false, dormDue := false, dormReq := none, bootStuck := false, tested := false, bootMeans := false
      standbyDue := none
      pupA := { Pupp.reset with discarded := t.sys.pupA.discarded }
      pupB := { Pupp.reset with discarded := t.sys.pupB.discarded } }
    tin := { t.tin with window := true } }

/-- The image of a bank starts: its store, its configuration, and the reload of the groups; `limits` says that a battery test's
limits had stood, `from_` which mode was left for BOOT. -/
def startImage (b limits : Bool) (from_ : Option Mode) (s : State) : State :=
  let s := startPups b { s with svc := { s.svc with runB := b } }
  let s := beginReloads allGrp (warmConfig (startStore from_ s))
  if limits then logEvent Evt.LIMITS_LIFTED 2 objNone [] s else s

/-- A restart of the main domain while its supply holds, from a given bank (R46 to R50). With no bank to boot the Puppeteers
stay in reset until the boot window ends. -/
def warmFrom (bank : Option Bool) (cause : Nat) (s : State) : State :=
  let t := stopMain cause s
  match bank with
  | none => { t with sys := { t.sys with noImage := true } }
  | some b => startImage b s.bat.test.isSome (if s.sys.mode = .boot then none else some s.sys.mode) t

/-- A warm restart with a cause of Table 2.6, from the bank that ran (R48). -/
def warmStart (cause : Nat) (s : State) : State := warmFrom (warmBank s) cause s

end Sys2Proof.Machine
end

