-- ==== Sys2Proof/Machine/Update0.lean ====
section
/-! DEFINITION. The ends of a takeover, confirmation and rollback (R529 to R532). -/

namespace Sys2Proof.Machine

/-! ### Confirmation and rollback (R531, R532) -/

/-- The bank in TRIAL is confirmed: the copies of the migration space are freed, and RAISE_SVN raises the floor (R489, R531). -/
def confirmTrial (s : State) : State :=
  let b : Bool := s.svc.bankB.st == Bst.TRIAL
  let k := bankOf s b
  if k.st ≠ Bst.TRIAL then s
  else
    let s := modBank b (fun x => { x with st := Bst.CONFIRMED, confirmedAt := optime s }) s
    let s := { s with nvs := { s.nvs with copies := [], rollbackCopy := false }
                      svc := { s.svc with phase := if s.svc.phase = 6 then 0 else s.svc.phase, trialRestart := false } }
    if imgRaise k then
      let floor := max s.svc.svnFloor (imgSvn k)
      let s := { s with svc := { s.svc with svnFloor := floor } }
      modBank (!b) (fun x => if x.st = Bst.PREVIOUS ∧ x.svn < floor then { x with st := Bst.REJECTED } else x) s
    else s

/-- A rollback is possible: a bank is in TRIAL, or a PREVIOUS one exists (R532). -/
def canRollback (s : State) : Bool :=
  let a := s.svc.bankA.st
  let b := s.svc.bankB.st
  a == Bst.TRIAL || b == Bst.TRIAL || a == Bst.PREVIOUS || b == Bst.PREVIOUS

/-- A rollback: the banks change their states, and a warm restart with cause 0x09, or 0x06 out of SAFE-KEEP, boots the former
PREVIOUS bank, when it passes its check (R532, R48). -/
def rollback (s : State) : State :=
  let cause := if inSafeKeep s then 6 else 9
  let a := s.svc.bankA.st == Bst.PREVIOUS
  let b := s.svc.bankB.st == Bst.PREVIOUS
  let s := rollBanks s
  let bank : Option Bool :=
    if a && bankPasses s false then some false else if b && bankPasses s true then some true else none
  warmFrom bank cause s

/-! ### The ends of a takeover (R529, R530) -/

/-- A Puppeteer is reset and restarts from the running bank (R51). -/
def restartPup (p : Pup) (s : State) : State :=
  modPup p (fun x => { Pupp.reset with
    failTimes := x.failTimes, discarded := x.discarded, barred := x.barred, restarting := !x.barred }) s

/-- The sessions whose version the running image does not implement end at the takeover (R111). -/
def endOldSessions (s : State) : State :=
  let d := imgField (runBank s) 24 4
  let lo := fieldOf d 16 16
  let hi := fieldOf d 0 16
  forEach sesCh (fun n s => match session? s n with
    | some x => if x.ver < lo ∨ hi < x.ver then endSession n 3 s else s
    | none => s) s

/-- The microcode of the running image differs from the microcode in force (R529 step 7). -/
def microcodeDiffers (s : State) : Bool := allGrp.any fun g => (s.group g).mc != sectionBytes (runBank s) g.val

/-- The return from HANDOVER to the mode it came from, its grant given back. -/
def leaveHandover (s : State) : State :=
  let op := s.svc.op
  let s := { s with svc := { s.svc with op := none, newOn := none, lead := 0 } }
  let s := if s.sys.mode = .handover then enterMode s.sys.handoverFrom Cause.handoverEnd s else s
  match op with
  | some id => returnOp id s
  | none => s

/-- The takeover boundary: the token passes to the new image, the staged bank becomes TRIAL and the old one PREVIOUS, the old
Puppeteer restarts from the new bank, and whoever asked is answered (R529 steps 5 and 6). The active token has moved, which
H_IRQ_STATUS[9] tells (Table 3.5). -/
def completeTakeover (s : State) : State :=
  match s.svc.newOn with
  | none => s
  | some p =>
    let old := s.sys.active
    let b := !s.svc.runB
    let s := modBank s.svc.runB (fun x => { x with st := Bst.PREVIOUS }) s
    let s := modBank b (fun x => { x with st := Bst.TRIAL, trials := 0 }) s
    let s := { s with
      sys := { s.sys with active := p, simplex := true }
      svc := { s.svc with
        runB := b, handovers := sat32 (s.svc.handovers + 1), trialAt := optime s, trialFailovers := 0
        trialRestart := false, phase := 6 } }
    let s := restartPup old (setIrq Irq.FAILOVER s)
    let s := if microcodeDiffers s then { s with svc := { s.svc with phase := 7, reloads := allGrp } } else s
    let s := endOldSessions (answerTakeover St.OK 0 0 s)
    sendAnnounce (leaveHandover s)

/-- A takeover is aborted: the asker is told, and the shadow restarts on the running bank (R530). -/
def abortTakeover (result : Nat) (s : State) : State :=
  match s.svc.newOn with
  | none => s
  | some p =>
    let staged := (idleBank s).st == Bst.STAGED
    let s := answerTakeover St.ABORTED result 0 s
    let s := restartPup p { s with svc := { s.svc with phase := if staged then 2 else 0 } }
    sendAnnounce (leaveHandover s)

/-- The mains are lost (Table 2.2): BRIDGE is entered, and a takeover under way that has not reached its boundary is aborted
(R53). -/
def loseMains (s : State) : State :=
  let s := enterBridge s
  if s.sys.mode = .bridge then abortTakeover 12 s else s

/-- The firmware takes a latched bridge strobe: the mode changes, and SOURCE_HEADROOM is 0 (R139, R140, Table 15.1). -/
def takeStrobe (s : State) : State :=
  if !s.bus.strobe then s
  else
    let t := loseMains s
    { t with bus := { t.bus with strobe := false }, adm := { t.adm with srcCap := 0 } }

end Sys2Proof.Machine
end

