-- ==== Sys2Proof/Machine/Supervision.lean ====
section
/-! DEFINITION. The supervision of the Puppeteers, the faults the Tin Soldier watches, and errors of the memories (R22, R23,
R27, R30, R31, R44, R51, R52, R247 to R256). -/

namespace Sys2Proof.Machine

/-! ### Failures and failover (R51, R52, R248) -/

/-- The main domain or the Tin Soldier runs: a start has begun and the Hatan is not in DORMANT. -/
def tinRuns (s : State) : Bool := (s.sys.phase == .boot || s.sys.phase == .run) && s.sys.mode != .dormant

/-- Both Puppeteers run in step: the simplex bit follows. -/
def settleSimplex (s : State) : State :=
  { s with sys := { s.sys with simplex := !(s.sys.pupA.up && s.sys.pupB.up) } }

/-- A Puppeteer fails: it is reset and restarts alone from the running bank; the third failure within 10 min bars it (R51,
R52). -/
def failPup (p : Pup) (s : State) : State :=
  let x := s.sys.pup p
  let times := (s.clock :: x.failTimes).filter fun t => decide (s.clock < t + 600 * clkS)
  let bar := decide (3 ≤ times.length)
  let s := modPup p (fun x => { Pupp.reset with
    failTimes := times, discarded := x.discarded, barred := x.barred || bar, restarting := !(x.barred || bar) }) s
  let s := settleSimplex s
  if bar && !x.barred then
    logEvent Evt.PUP_REPEAT_FAIL 3 objNone [match p with | .a => 0 | .b => 1] s
  else s

/-- A command in flight whose outcome the mirror does not record completes with ST_LOST, and what it had filed and not begun is
forgotten (R111, Table 15.4). -/
def loseTag (e : TagEnt) (s : State) : State :=
  let lost := !e.done && Config.notMirrored s.freeCtr
  let s := { s with freeCtr := s.freeCtr + 1 }
  if !lost then s
  else
    let s := forEach (s.adm.queue.filter fun o => o.tag == some e.id) (fun o s =>
      dropOp o { s with adm := { s.adm with queue := s.adm.queue.filter fun q => q.id != o.id } }) s
    let s := { s with
      acc := { s.acc with snaps := s.acc.snaps.filter fun w => w.tag != e.id }
      mb := { s.mb with held := s.mb.held.filter (fun h => h.tag != e.id), runs := s.mb.runs.filter fun r => r.tag != e.id } }
    complete e.id St.LOST [] s

/-- A failover during a trial is counted; the second one rolls the trial back (R532). -/
def countTrialFailover (s : State) : State :=
  if (runBank s).st ≠ Bst.TRIAL then s
  else
    let s := { s with svc := { s.svc with trialFailovers := s.svc.trialFailovers + 1 } }
    if 2 ≤ s.svc.trialFailovers then rollback s else s

/-- The active token moves to the shadow, and the failed Puppeteer restarts alone (R23, R51, R248). -/
def failover (p : Pup) (s : State) : State :=
  let s := { s with sys := { s.sys with
    active := otherPup p, failoverCount := sat32 (s.sys.failoverCount + 1) } }
  let s := setIrq Irq.FAILOVER (failPup p s)
  forEach s.deolo.tags loseTag s

/-- The other Puppeteer beats, and its latest good beat carries IN_STEP = 1. -/
def shadowReady (s : State) (p : Pup) : Bool :=
  let y := s.sys.pup (otherPup p)
  y.up && y.alive && y.inStep && !s.tin.watch.testBit (pupFlag (otherPup p))

/-- The active Puppeteer is lost: the token goes to a shadow in step, which after ready completes a takeover; without one the
Tin Soldier takes SAFE-KEEP with cause 1 (R248, R250, R530). -/
def loseActive (p : Pup) (s : State) : State :=
  if !shadowReady s p then enterSafeKeep SfkCause.SUPERVISION_LOST s
  else if s.sys.mode = .handover then
    if s.svc.phase = 5 then
      let s := { s with sys := { s.sys with failoverCount := sat32 (s.sys.failoverCount + 1) } }
      let tags := s.deolo.tags
      let s := completeTakeover s
      forEach tags loseTag s
    else enterSafeKeep SfkCause.SUPERVISION_LOST s
  else
    let s := failover p s
    if twoFlags s then enterSafeKeep SfkCause.SECOND_FAULT s else countTrialFailover s

/-- The shadow is lost: it is reset and restarts alone, counted as R51 lays down; a shadow that took a new image aborts the
takeover (R248). -/
def loseShadow (p : Pup) (s : State) : State :=
  let s := if s.sys.mode = .handover then abortTakeover 12 s else s
  let s := failPup p { s with sys := { s.sys with failoverCount := sat32 (s.sys.failoverCount + 1) } }
  if twoFlags s then enterSafeKeep SfkCause.SECOND_FAULT s else s

/-- The heartbeat of a Puppeteer fails (R247), of one that restarts too once its supervision has started. A witness that fails in SAFE-KEEP is reset and leaves the Tin Soldier alone. -/
def pupFails (p : Pup) (s : State) : State :=
  let x := s.sys.pup p
  if !(x.up || x.restarting) || !x.watched || (s.svc.halted && p == s.sys.active) then s
  else
    let s := setWatch (pupFlag p) s
    if inSafeKeep s then
      let s := settleSimplex (modPup p (fun x => { Pupp.reset with failTimes := x.failTimes, discarded := x.discarded }) s)
      { s with sys := { s.sys with fwReady := s.sys.fwReady && anyPup s } }
    else if p = s.sys.active then loseActive p s
    else loseShadow p s

/-- A restarted Puppeteer is the shadow again (R51, R529 step 6). Its flag and its supervision follow its beats (R247,
R249). -/
def restartDone (p : Pup) (s : State) : State :=
  diag15 Evt.SHADOW_MIRROR_OK 1 (settleSimplex (modPup p (fun x => { x with up := true, restarting := false }) s))

/-- A beat is good: the next SEQ, between 25 µs and 150 µs after the beat before it. -/
def goodBeat (x : Pupp) (seq : BitVec 4) (dtNs : Nat) : Bool :=
  decide (seq.toNat = (x.seq + 1) % 16 ∧ 25000 ≤ dtNs ∧ dtNs ≤ 150000)

/-- What a good beat does: supervision starts at the first one after the handshake, and one in step clears the flag (R247,
R249). The shadow tells on channel 15 when its mirror falls behind and when it is in step again. -/
def takeBeat (p : Pup) (inStep : Bool) (s : State) : State :=
  let x := s.sys.pup p
  let s := modPup p (fun x => { x with alive := true, inStep := inStep, watched := x.watched || s.tin.armed }) s
  let s := if inStep then clearWatch (pupFlag p) s else s
  if p = s.sys.active || !s.tin.armed then s
  else if x.inStep && !inStep then diag15 Evt.SHADOW_MIRROR_LAG 2 s
  else if !x.inStep && inStep && x.alive then diag15 Evt.SHADOW_RESYNC 1 s
  else s

/-- The Puppeteer holds the active token (R22). -/
def holdsToken (s : State) (p : Pup) : Bool := s.tin.token && p == s.sys.active

/-- Writes of a Puppeteer to the configuration window since its last beat: without the token they are discarded and counted
(R22). -/
def windowWrites (p : Pup) (writes : Nat) (s : State) : State :=
  if holdsToken s p then s else modPup p (fun x => { x with discarded := sat32 (x.discarded + writes) }) s

/-- HEARTBEAT: a Puppeteer writes a beat to its port (R247, R248), after `gap.writes` writes to the configuration window, whose
effect is that of the firmware's own commands where it holds the token (R22). A restarting one whose mirror is in step is the
shadow again. -/
def execHeartbeat (p : Pup) (seq : BitVec 4) (inStep : Bool) (gap : BeatGap) (s : State) : Host.Outcome State Fault Refusal :=
  let x := s.sys.pup p
  if !(x.up || x.restarting) || !tinRuns s then .next s
  else
    let good := goodBeat x seq gap.ns
    let s := modPup p (fun x => { x with seq := seq.toNat }) (windowWrites p gap.writes s)
    if good then
      let t := takeBeat p inStep s
      .next (if x.restarting && inStep then restartDone p t else t)
    else .next (pupFails p s)

/-- HEARTBEAT_TIMEOUT: 150 µs pass without a beat (R247). -/
def execHeartbeatTimeout (p : Pup) (s : State) : Host.Outcome State Fault Refusal :=
  if tinRuns s then .next (pupFails p s) else .next s

/-- PUPPETEER_RESTART_DONE: the restarted Puppeteer's mirror is in step (R51). -/
def execPuppeteerRestartDone (p : Pup) (s : State) : Host.Outcome State Fault Refusal :=
  if (s.sys.pup p).restarting && tinRuns s then
    .next (restartDone p (modPup p (fun x => { x with inStep := true }) s))
  else .next s

/-- SURRENDER: the active Puppeteer asserts its surrender line (Table 9.2). -/
def execSurrender (s : State) : Host.Outcome State Fault Refusal :=
  if (s.sys.pup s.sys.active).up then .next (enterSafeKeep SfkCause.SURRENDER s) else .next s

/-- BOOT_WINDOW_EXPIRY: the boot window ends without a handshake (R44, R50). The window of a restart out of SAFE-KEEP goes back to
it without a release, with cause 2 (R266). -/
def execBootWindowExpiry (s : State) : Host.Outcome State Fault Refusal :=
  if !s.tin.window || !tinRuns s then .next s
  else if s.tin.override then
    let t := settleSimplex { s with
      sys := { s.sys with
        fwReady := false, pupA := witnessPup s .a s.sys.pupA, pupB := witnessPup s .b s.sys.pupB }
      tin := { s.tin with window := false, token := false, cause := SfkCause.BOOT_WINDOW } }
    let t := if t.svc.trialRestart then rollBanks t else t
    .next (changeMode .safeKeep Cause.tinSoldier t)
  else .next (enterSafeKeep SfkCause.BOOT_WINDOW s)

/-! ### The flags of Table 9.1 -/

/-- CLK_DISAGREE: the main tick differs from the Tin Soldier's count, or agrees with it again (Table 9.1). -/
def execClkDisagree (present : Bool) (s : State) : Host.Outcome State Fault Refusal :=
  if !tinRuns s then .next s
  else if present then .next (raiseFlag Watch.CLK_DISAGREE s)
  else .next (clearWatch Watch.CLK_DISAGREE s)

/-- CORE_RAIL: the core rail has stood outside its window for 10 µs (Table 9.1). -/
def execCoreRail (s : State) : Host.Outcome State Fault Refusal :=
  if tinRuns s then .next (raiseFlag Watch.CORE_RAIL { s with pwr := { s.pwr with coreWin := true } }) else .next s

/-- CORE_RAIL_IN_WINDOW: the core rail stands inside its window again, and the flag clears (R249). -/
def execCoreRailInWindow (s : State) : Host.Outcome State Fault Refusal :=
  .next (clearWatch Watch.CORE_RAIL { s with pwr := { s.pwr with coreWin := false } })

/-- MAR_SILENT: a Marionette has given no tick for 2 ms; one that reloads is not silent (Table 9.1). -/
def execMarSilent (g : Grp) (s : State) : Host.Outcome State Fault Refusal :=
  if tinRuns s && s.cnv.on && !(s.group g).reloading then .next (raiseFlag Watch.MAR_SILENT s) else .next s

/-- KEEP_UV_OPEN: UV of a kept channel has read active for UV_FILT_MS without a break; the Tin Soldier opens the channel with
the sheet's pull-down and clears KEEP (R253). -/
def execKeepUvOpen (c : Ch) (s : State) : Host.Outcome State Fault Refusal :=
  let x := s.chan c
  if s.tin.override && x.keep && x.st.conducts && (s.tin.keep.get c).uv != 0 then
    let t := modCh c (fun x => { x with fUv := true }) s
    let t := modCh c (fun x => { x with keep := false }) (openTo c .opened (sheetGate s c) t)
    .next (reportCh s t)
  else .next s

/-- SAFE_OK_SILENT: the tap of SAFE_OK shows no edge for 2 ms to the active Puppeteer (R256). -/
def execSafeOkSilent (s : State) : Host.Outcome State Fault Refusal :=
  if s.tin.checked && s.tin.token && (s.sys.pup s.sys.active).up && !s.tin.silent then
    .next (driveOutputs (logEvent Evt.SAFE_OK_SILENT 3 objNone [] { s with tin := { s.tin with silent := true } }))
  else .next s

/-- XIN_LOST: XIN shows fewer than 4 edges within 1 µs; the main domain runs from its backup oscillator (R27).
DESIGN CHOICE (unsafe, log 78): one that comes while the return of R27 already waits for the cycle boundary is not seen, and the
return is made. -/
def execXinLost (s : State) : Host.Outcome State Fault Refusal :=
  if !tinRuns s || s.sys.clkFault then .next s
  else
    let t := { s with sys := { s.sys with clkFault := true, xinBack := false } }
    let t := logEvent Evt.XIN_LOST 2 objNone [] (setIrq Irq.CLK_FAULT t)
    .next (raiseFlag Watch.XIN_LOST t)

/-- XIN_RETURNED: XIN has shown correct edges for 10 ms; the return is made at the next cycle boundary (R27). -/
def execXinReturned (s : State) : Host.Outcome State Fault Refusal :=
  if s.sys.clkFault then .next { s with sys := { s.sys with xinBack := true } } else .next s

/-! ### Errors of the memories (R30, R31) -/

/-- ECC_SINGLE: a single-bit error is corrected and counted (R30). -/
def execEccSingle (m : EccMem) (s : State) : Host.Outcome State Fault Refusal :=
  if s.sys.phase == .off || s.sys.phase == .abandoned then .next s
  else match m with
    | .localA => .next { s with sys := { s.sys with eccA := sat32 (s.sys.eccA + 1) } }
    | .localB => .next { s with sys := { s.sys with eccB := sat32 (s.sys.eccB + 1) } }
    | .shared => .next { s with sys := { s.sys with eccShared := sat32 (s.sys.eccShared + 1) } }

/-- A double-bit error in a Puppeteer's local memory: the active one hands over, the shadow restarts and mirrors again (R30). -/
def eccLocal (p : Pup) (s : State) : State :=
  if !(s.sys.pup p).up then s
  else if p = s.sys.active then loseActive p (setWatch (pupFlag p) s)
  else
    let s := if s.sys.mode = .handover then abortTakeover 12 s else s
    settleSimplex (restartPup p s)

/-- ECC_DOUBLE: a double-bit error (R30); a region of the shared SRAM that cannot be rebuilt makes the firmware surrender. -/
def execEccDouble (m : EccMem) (offset : Nat) (rebuildable : Bool) (s : State) : Host.Outcome State Fault Refusal :=
  if !tinRuns s then .next s
  else match m with
    | .localA => .next (eccLocal .a s)
    | .localB => .next (eccLocal .b s)
    | .shared =>
      let t := logEvent Evt.SRAM_DOUBLE 3 objNone [offset] s
      if rebuildable || !(s.sys.pup s.sys.active).up then .next t else .next (enterSafeKeep SfkCause.SURRENDER t)

/-- MICROCODE_PARITY: the Marionette holds its channels while its group alone is reloaded (R31). -/
def execMicrocodeParity (g : Grp) (word : Nat) (s : State) : Host.Outcome State Fault Refusal :=
  if !tinRuns s || !s.cnv.on then .next s
  else
    let t := modGrp g (fun x => { x with parity := sat32 (x.parity + 1), reloading := true }) s
    .next (logEvent Evt.PARITY 2 (objGrp g) [word] t)

/-- DRUM_PARITY: the Music Box skips the entry until a write of its pair takes effect (R31, R289). -/
def execDrumParity (e : Fin 256) (s : State) : Host.Outcome State Fault Refusal :=
  if !tinRuns s || !s.cnv.on then .next s
  else
    let skip := if s.mb.skip.contains e then s.mb.skip else s.mb.skip ++ [e]
    .next (logEvent Evt.PARITY 2 objNone [e.val] { s with mb := { s.mb with skip := skip, parityCount := sat32 (s.mb.parityCount + 1) } })

end Sys2Proof.Machine
end

