-- ==== Sys2Proof/Machine/TimerOps.lean ====
section
/-! DEFINITION. The general timers as counters: the counting clock, the count at any moment, actions, and the writes and reads
that act on them (R372 to R388). -/

namespace Sys2Proof.Machine

/-! ### Configuration fields (Tables 14.3, 14.4) -/

/-- LINK of a low timer. -/
def tLink (x : GTmr) : Bool := x.cfg.testBit 31

/-- UP-DOWN mode; a pair counts up only. -/
def tUpDown (x : GTmr) : Bool := fieldOf x.cfg 28 2 == 1 && !tLink x

/-- CLK. -/
def tClk (x : GTmr) : Nat := fieldOf x.cfg 26 2

/-- The period of a counting clock in core clocks. -/
def tPeriod (x : GTmr) : Nat :=
  (match tClk x with
    | 0 => 400
    | 1 => 10
    | _ => 1) * (fieldOf x.cfg 18 8 + 1)

/-- A timer. -/
def State.tmr1 (s : State) (k : Tmr) : GTmr := s.tmr.t.get k

/-- Changes a timer. -/
def modTmr (k : Tmr) (f : GTmr → GTmr) (s : State) : State := { s with tmr := { s.tmr with t := vmod s.tmr.t k f } }

/-- The other timer of a pair. -/
def tMate (k : Tmr) : Tmr := if h : k.val % 2 = 0 then ⟨k.val + 1, by omega⟩ else ⟨k.val - 1, by omega⟩

/-- The timer that governs: the low one of a linked pair, else the timer itself (R387). -/
def tLow (s : State) (k : Tmr) : Tmr := if k.val % 2 = 1 ∧ tLink (s.tmr1 (tMate k)) then tMate k else k

/-- The timer governs a linked pair. -/
def tPaired (s : State) (k : Tmr) : Bool := k.val % 2 == 0 && tLink (s.tmr1 k)

/-- A value of a timer, or the 64-bit value of the pair it governs. -/
def tWide (s : State) (k : Tmr) (f : GTmr → Nat) : Nat :=
  if tPaired s k then f (s.tmr1 (tMate k)) * 2 ^ 32 + f (s.tmr1 k) else f (s.tmr1 k)

/-- The number of counts after which the count wraps. -/
def tModulus (s : State) (k : Tmr) : Nat := if tPaired s k then 2 ^ 64 else 2 ^ 32

/-- Writes the count of a timer or pair. -/
def putCount (k : Tmr) (v : Nat) (s : State) : State :=
  if tPaired s k then
    modTmr (tMate k) (fun x => { x with cnt := v / 2 ^ 32 % 2 ^ 32 }) (modTmr k (fun x => { x with cnt := v % 2 ^ 32 }) s)
  else modTmr k (fun x => { x with cnt := v % 2 ^ 32 }) s

/-! ### The count at a moment (R373, R374) -/

/-- The number of the counting clock at or before a clock. -/
def tIndex (x : GTmr) (t : Nat) : Nat := (t + tPeriod x - x.pre) / tPeriod x

/-- The clock of a counting clock. -/
def tClock (x : GTmr) (i : Nat) : Nat := i * tPeriod x + x.pre - tPeriod x

/-- The counts a timer has made since its base. -/
def tPassed (s : State) (k : Tmr) : Nat :=
  let x := s.tmr1 k
  if x.run && !x.frozen && tClk x != 3 then tIndex x s.clock - tIndex x x.base else 0

/-- The count after `n` more counts in UP mode. -/
def upCount (v n period modulus : Nat) : Nat :=
  if v ≤ period then (v + n) % (period + 1)
  else if n < modulus - v then v + n
  else (n - (modulus - v)) % (period + 1)

/-- The place in the lap after `n` more counts in UP-DOWN mode: 0 to period going up, then on going down. -/
def lapPlace (v n period : Nat) (down : Bool) : Nat :=
  let p := if down then 2 * period - v else v
  (p + n) % (2 * period)

/-- The count of a timer or pair at the present clock. -/
def tCount (s : State) (k : Tmr) : Nat :=
  let x := s.tmr1 k
  let v := tWide s k GTmr.cnt
  let n := tPassed s k
  if tUpDown x then
    let p := lapPlace (min v x.period) n x.period (x.down || decide (x.period < v))
    if p ≤ x.period then p else 2 * x.period - p
  else upCount v n (tWide s k GTmr.period) (tModulus s k)

/-- The timer counts down at the present clock. -/
def tDown (s : State) (k : Tmr) : Bool :=
  let x := s.tmr1 k
  tUpDown x &&
    (let v := min x.cnt x.period
     let p := lapPlace v (tPassed s k) x.period (x.down || decide (x.period < x.cnt))
     decide (x.period ≤ p))

/-- OUT: as its events left it; in UP-DOWN mode, once the timer has counted on, 1 while the count is below CMP. A write never
changes it directly (R377). -/
def tOut (s : State) (k : Tmr) : Bool :=
  let x := s.tmr1 k
  if tUpDown x && tPassed s k != 0 then decide (tCount s k < x.cmp) else x.out

/-- The count is brought up to the present clock. -/
def tSync (k : Tmr) (s : State) : State :=
  let v := tCount s k
  let d := tDown s k
  let o := tOut s k
  modTmr k (fun x => { x with base := max x.base s.clock, down := d, out := o, acts := if x.base ≤ s.clock then [] else x.acts }) (putCount k v s)

/-! ### Operations (R380, R381) -/

/-- The next counting clock of a timer. -/
def tNext (s : State) (k : Tmr) : Nat :=
  let x := s.tmr1 k
  if tClk x = 3 then s.clock else tClock x (tIndex x s.clock + 1)

/-- An operation reaches a timer and takes effect at its next counting clock: 1 RESET, 2 START, 3 STOP; `written` for a write
of TMR.CTRLk, which stands against the actions of that clock. -/
def tOperate (written : Bool) (op : Nat) (k0 : Tmr) (s : State) : State :=
  let k := tLow s k0
  let x := s.tmr1 k
  if x.frozen || op = 0 then s
  else
    let at_ := tNext s k
    let same := if x.base = at_ then x.acts else []
    let s := tSync k s
    let mark := if written then op + 10 else op
    let s := modTmr k (fun x => { x with acts := same ++ [mark] }) s
    let bar := !written && (same.contains 12 || same.contains 13)
    match op with
    | 1 =>
      modTmr k (fun x => { x with base := at_, down := false, passed := false, out := tWide s k GTmr.cmp != 0 }) (putCount k 0 s)
    | 2 =>
      if bar || (!written && same.contains 3) || (s.tmr1 k).run then s
      else modTmr k (fun x => { x with run := true, base := at_ }) s
    | _ => if bar then s else modTmr k (fun x => { x with run := false, base := max x.base at_ }) s

/-- The MATCH action of a timer. -/
def matchAct (k : Tmr) (s : State) : State :=
  let c := (s.tmr1 k).cfg
  tOperate false (fieldOf c 10 2) ⟨fieldOf c 6 4 % 16, by omega⟩ s

/-- The OVF action of a timer. -/
def ovfAct (k : Tmr) (s : State) : State :=
  let c := (s.tmr1 k).cfg
  tOperate false (fieldOf c 4 2) ⟨fieldOf c 0 4 % 16, by omega⟩ s

/-- OVF and MATCH actions in one clock: the OVF action first, under the rows of R381. -/
def bothActs (k : Tmr) (s : State) : State :=
  let c := (s.tmr1 k).cfg
  if fieldOf c 4 2 = 3 ∧ fieldOf c 10 2 = 2 ∧ fieldOf c 0 4 = fieldOf c 6 4 then ovfAct k s
  else matchAct k (ovfAct k s)

/-! ### The events (R373 to R378) -/

/-- Held values that take effect at OVF or TOP. -/
def takeNext (ovf : Bool) (x : GTmr) : GTmr :=
  let now := ovf || fieldOf x.cfg 16 2 != 1
  { x with
    period := if ovf then x.periodNext.getD x.period else x.period
    periodNext := if ovf then none else x.periodNext
    cmp := if now then x.cmpNext.getD x.cmp else x.cmp
    cmpNext := if now then none else x.cmpNext }

/-- Held values of a timer or pair take effect. -/
def takeNexts (ovf : Bool) (k : Tmr) (s : State) : State :=
  let s := if tPaired s k then modTmr (tMate k) (takeNext ovf) s else s
  modTmr k (takeNext ovf) s

/-- OVF: the count is 0, held values take effect, OUT goes high, or stays low with CMP = 0, where MATCH falls with it. -/
def doOvf (k : Tmr) (at_ : Nat) (s : State) : State :=
  let s := modTmr k (fun x => { x with base := at_, down := false, passed := false, acts := [] }) (putCount k 0 s)
  let s := takeNexts true k s
  let zero := tWide s k GTmr.cmp == 0
  let s := modTmr k (fun x => { x with out := !zero }) s
  if zero && !tUpDown (s.tmr1 k) then bothActs k s else ovfAct k s

/-- MATCH: the count is CMP and OUT goes low. -/
def doMatch (k : Tmr) (at_ : Nat) (s : State) : State :=
  let s := putCount k (tWide s k GTmr.cmp) s
  matchAct k (modTmr k (fun x => { x with base := at_, out := false, acts := [] }) s)

/-- The counts from the base to the next OVF. -/
def toOvf (s : State) (k : Tmr) : Nat :=
  let x := s.tmr1 k
  let v := tWide s k GTmr.cnt
  let p := tWide s k GTmr.period
  if tUpDown x then
    let v := min v p
    if x.down || decide (p < x.cnt) then v else 2 * p - v
  else if v ≤ p then p + 1 - v
  else tModulus s k - v

/-- The counts from the base to the next MATCH of this lap, if one is due. -/
def toMatch (s : State) (k : Tmr) : Option Nat :=
  let x := s.tmr1 k
  let v := tWide s k GTmr.cnt
  let p := tWide s k GTmr.period
  let c := tWide s k GTmr.cmp
  if !x.passed && decide (v < c ∧ c ≤ p) && !(tUpDown x && x.down) then some (c - v) else none

/-- A timer that governs itself and counts a clock: its events fall at known moments. -/
def tRuns (s : State) (k : Tmr) : Bool :=
  let x := s.tmr1 k
  tLow s k == k && x.run && !x.frozen && tClk x != 3 && s.cnv.on && s.sys.mode != .dormant

/-- The clock of the count that comes `n` after the base. -/
def tDue (s : State) (k : Tmr) (n : Nat) : Nat :=
  let x := s.tmr1 k
  tClock x (tIndex x x.base + n)

/-- A counted edge (CLK = 3) with the events it makes. -/
def edgeCount (k : Tmr) (s : State) : State :=
  let x := s.tmr1 k
  if !x.run || x.frozen then s
  else if toOvf s k ≤ 1 then doOvf k s.clock s
  else
    let s' := putCount k (if tUpDown x && x.down then x.cnt - 1 else tWide s k GTmr.cnt + 1) s
    let s' := if tUpDown x && !x.down && decide (x.cnt + 1 = x.period) then
        takeNexts false k (modTmr k (fun y => { y with down := true }) s') else s'
    let s' := if tUpDown x then modTmr k (fun y => { y with out := decide (y.cnt < y.cmp) }) s' else s'
    if toMatch s k = some 1 then doMatch k s.clock s' else s'

/-! ### Sources of captures and starts (R382, R386, Table 14.4) -/

/-- TMR.CAPCFGk of the timer that governs. -/
def capCfg (s : State) (k : Tmr) : Nat := pn s (tmrId k Tmrp.CAPCFG)

/-- The capture path of a timer is in use: it governs itself, is not frozen, and the main domain runs. -/
def capLive (s : State) (k : Tmr) : Bool :=
  tLow s k == k && !(s.tmr1 k).frozen && s.cnv.on && s.sys.mode != .dormant

/-- The level of a source of Table 14.4 that the machine itself holds: a note, the bridge strobe, or the compare output of a
timer. -/
def srcLevel (s : State) (src : Nat) : Option Bool :=
  if 16 ≤ src ∧ src < 32 then some (s.mb.notes.testBit (src - 16))
  else if src = 33 then some s.bus.strobe
  else if h : 34 ≤ src ∧ src < 50 then some (tOut s (tLow s ⟨src - 34, by omega⟩))
  else none

/-- A source that lies outside may have made any edge; one that the machine holds has made only the edge that led to its present
level (R292, R377). -/
def noteEdge (s : State) (src edges : Nat) : Bool :=
  match srcLevel s src with
  | some on => edges == 3 || (edges == 1 && on) || (edges == 2 && !on)
  | none => true

/-- An edge of a source starts every timer that takes it as its start source and keeps it (R386). -/
def startBy (src : Nat) (rising : Bool) (s : State) : State :=
  forEach (List.finRange 16) (fun k s =>
    let c := capCfg s k
    let keeps := fieldOf c 0 2 == 3 || fieldOf c 0 2 == (if rising then 1 else 2)
    if capLive s k && fieldOf c 2 6 == src && keeps then tOperate false 2 k s else s) s

/-- A note is set: one that was clear is an edge of its source; one already set stays as it is (R292). -/
def setNote (k : Nat) (s : State) : State :=
  if s.mb.notes.testBit k then s
  else startBy (16 + k) true { s with mb := { s.mb with notes := s.mb.notes ||| 2 ^ k } }

/-- A W1C write of DRM.NOTES: each note that it clears is a falling edge of its source (R292). -/
def clearNotes (v : Nat) (s : State) : State :=
  let gone := (List.range 16).filter fun k => s.mb.notes.testBit k && v.testBit k
  forEach gone (fun k s => startBy (16 + k) false s)
    { s with mb := { s.mb with notes := s.mb.notes - (s.mb.notes &&& v) } }

/-! ### Writes and reads of the timer registers -/

/-- A write of TMR.CFGk (R376): a change of LINK, MODE or CLK stops the timer, or its pair, at 0. -/
def writeCfg (k : Tmr) (v : Nat) (s : State) : State :=
  let old := (s.tmr1 k).cfg
  if k.val % 2 = 1 ∧ tLink (s.tmr1 (tMate k)) then modTmr k (fun x => { x with cfg := v }) s
  else
    let changed := old.testBit 31 != v.testBit 31 || fieldOf old 26 4 != fieldOf v 26 4
    let clear := fun (x : GTmr) => { x with
      run := false, cnt := 0, cap := 0, down := false, base := s.clock, acts := [], passed := false }
    let s := if changed then
        let s := if k.val % 2 = 0 ∧ (old.testBit 31 ∨ v.testBit 31) then modTmr (tMate k) clear s else s
        modTmr k clear s
      else tSync k s
    modTmr k (fun x => let y := { x with cfg := v }
      { y with pre := x.pre % tPeriod y }) s

/-- A write of TMR.PERIODk (R375). -/
def writePeriod (k : Tmr) (v : Nat) (s : State) : State :=
  if (s.tmr1 (tLow s k)).run then modTmr k (fun x => { x with periodNext := some v }) s
  else modTmr k (fun x => { x with period := v, periodNext := none }) s

/-- A write of TMR.CMPk (R378): held for OVF with CMP_UPD = 1, and in UP-DOWN mode for TOP or OVF; else in effect at the
counting clock after the write under the whole-lap rule. -/
def writeCmp (k : Tmr) (v : Nat) (s : State) : State :=
  let g := tLow s k
  let x := s.tmr1 g
  if fieldOf x.cfg 16 2 = 1 ∨ (tUpDown x ∧ x.run) then modTmr k (fun y => { y with cmpNext := some v }) s
  else
    let c := tCount s g
    let after := if !x.run then c else upCount c 1 (tWide s g GTmr.period) (tModulus s g)
    let s := modTmr k (fun y => { y with cmp := v, cmpNext := none }) (tSync g s)
    modTmr g (fun y => { y with passed := decide (tWide s g GTmr.cmp ≤ after) }) s

/-- A write of TMR.CNTk; in UP-DOWN mode a count above PERIOD becomes PERIOD and counts down (R373, R374). -/
def writeCnt (k : Tmr) (v : Nat) (s : State) : State :=
  let g := tLow s k
  let s := tSync g s
  let x := s.tmr1 g
  if tUpDown x then
    if x.period ≤ v then modTmr k (fun y => { y with cnt := x.period, down := true }) s
    else modTmr k (fun y => { y with cnt := v, down := y.down && v != 0 }) s
  else modTmr k (fun y => { y with cnt := v % 2 ^ 32 }) s

/-- A write of TMR.CTRLk: RESET, and START or STOP (R381). -/
def writeCtrl (k : Tmr) (v : Nat) (s : State) : State :=
  let s := if v.testBit 2 then tOperate true 1 k s else s
  let s := if v.testBit 0 then tOperate true 2 k s else s
  if v.testBit 1 then tOperate true 3 k s else s

/-- A W1C write of TMR.STATk: HI_LIVE, OVSPD with REJ, OVR. -/
def writeStat (k : Tmr) (v : Nat) (s : State) : State :=
  modTmr k (fun x => { x with
    hiLive := x.hiLive && !v.testBit 15, ovspd := x.ovspd && !v.testBit 14, rej := if v.testBit 14 then 0 else x.rej
    ovr := x.ovr && !v.testBit 13 }) s

/-- A read of the count or the capture of a timer by a reader: the low half of a pair latches the high half, and the high half
is the latched one, or the live one, which HI_LIVE tells (R388). -/
def readHalf (n : Mb) (k : Tmr) (isCap : Bool) (s : State) : Nat × State :=
  let g := tLow s k
  let wide := if isCap then tWide s g GTmr.cap else tCount s g
  let mine := fun (h : HiLatch) => h.chan == n && h.tmr == g && h.isCap == isCap
  if !tPaired s g then (wide % 2 ^ 32, s)
  else if g = k then
    let l : HiLatch := { chan := n, tmr := g, isCap := isCap, value := wide / 2 ^ 32 }
    (wide % 2 ^ 32, { s with tmr := { s.tmr with hi := s.tmr.hi.filter (fun h => !mine h) ++ [l] } })
  else
    match s.tmr.hi.find? mine with
    | some h => (h.value, { s with tmr := { s.tmr with hi := s.tmr.hi.filter fun h => !mine h } })
    | none => (wide / 2 ^ 32, modTmr g (fun x => { x with hiLive := true }) s)

/-- A read of TMR.CNTk. -/
def readCnt (n : Mb) (k : Tmr) (s : State) : Nat × State := readHalf n k false s

/-- A read of TMR.CAPk clears NEW; of a pair, the read of its low half does (R384, R387). -/
def readCap (n : Mb) (k : Tmr) (s : State) : Nat × State :=
  let (v, s) := readHalf n k true s
  (v, if tLow s k = k then modTmr k (fun x => { x with new := false }) s else s)

/-- TMR.STATk (Table 14.5). -/
def tmrStat (s : State) (k : Tmr) : Nat :=
  let x := s.tmr1 k
  bitAt x.hiLive 15 + bitAt x.ovspd 14 + bitAt x.ovr 13 + bitAt x.new 12 + bitAt (s.tmr1 (tLow s k)).run 11
    + bitAt (tDown s (tLow s k)) 10 + bitAt (tOut s (tLow s k)) 9 + bitAt (s.tmr1 (tLow s k)).frozen 8 + x.rej

/-- The timers whose FREEZE is 1 freeze, or run on, when the debugger halts the active Puppeteer or lets it go (R389). -/
def freezeTimers (halt : Bool) (s : State) : State :=
  forEach (List.finRange 16) (fun k s =>
    let x := s.tmr1 k
    if tLow s k != k || !x.cfg.testBit 30 || x.frozen == halt then s
    else if halt then
      let s := tSync k s
      modTmr k (fun x => { x with frozen := true, base := s.clock, acts := [] }) s
    else
      let p := tPeriod x
      let held := (x.base + p - x.pre) % p
      modTmr k (fun x => { x with frozen := false, base := s.clock, pre := (s.clock + p - held) % p }) s) s

end Sys2Proof.Machine
end

