-- ==== Sys2Proof/Machine/Flags.lean ====
section
/-! DEFINITION. The status words: each as its field map gives it, computed from the state. -/

namespace Sys2Proof.Machine

/-- CHn.FLAGS (Table 5.11). -/
def chFlags (s : State) (c : Ch) : Nat :=
  let x := s.chan c
  bitAt x.sheetDiff 12 + bitAt x.oos 11 + bitAt (s.group (groupOf c)).reloading 10 + bitAt x.keep 9
    + bitAt (isolated s c) 8 + bitAt x.shed 7 + bitAt (x.st == .latched) 6 + bitAt x.equal 5 + bitAt x.present 4
    + bitAt x.ovr 3 + bitAt x.fUv 2 + bitAt x.fRc 1 + b2n x.fOc

/-- The time left to a delay of the yo-yo, in 100 ms, rounded up (CHn.TRIP_STAT.NEXT, Table 7.6). -/
def nextAttempt (x : Chan) : Nat :=
  match x.yoyo with
  | .delay left => min 16383 ((left + 99999) / 100000)
  | .idle => 0
  | .ready => 0
  | .waiting => 0

/-- CHn.TRIP_STAT (Table 7.6). -/
def tripStat (x : Chan) : Nat :=
  bitAt x.ovspd 31 + bitAt x.extStuck 30 + nextAttempt x * 2 ^ 16 + x.rej

/-- GRPk.STATE: the highest code that applies (R164). -/
def grpState (s : State) (g : Grp) : Nat :=
  if (s.group g).oos then 3
  else if s.sys.isoGrp.contains g then 2
  else if (s.group g).reloading then 1
  else 0

/-- GRPk.MC_CRC: the CRC-32 of the 16 384 bytes of the microcode in force. -/
def mcCrc (s : State) (g : Grp) : Nat :=
  let m := (s.group g).mc
  crc32 ((List.range 16384).map fun i => (byteAt m i).toNat)

/-- CNV.STATk (Table 11.9). -/
def cnvStat (s : State) (k : Grp) : Nat :=
  let q := s.cnv.seq[k]
  q.overrun * 2 ^ 24 + q.urgLost * 2 ^ 16 + q.gaps * 2 ^ 8 + bitAt q.lp 4 + bitAt q.pend.isSome 3
    + bitAt (q.urgent || q.urgHeld) 2 + bitAt q.run.isSome 1 + b2n q.pre.isSome

/-- CNV.CAL_STATE (Table 11.10). -/
def calState (s : State) : Nat := s.cnv.cal.step * 2 ^ 12 + s.cnv.cal.fail * 2 ^ 8 + s.cnv.cal.input

/-- The input codes of CNV.CAL_MAP0 to CNV.CAL_MAP3, from bit 0 (R322). -/
def calMapCodes (k : Nat) : List Nat :=
  if k = 0 then (List.range 24)
  else if k = 1 then (List.range 24).map (fun j => 0x20 + j)
  else if k = 2 then (List.range 24).map (fun j => 0x40 + j)
  else [0x80, 0x81, 0x82, 0x83, 0x84, 0x88, 0x89, 0x8A, 0x8B, 0x8C, 0x8D, 0x8E, 0x8F, 0x91]

/-- A bitmap of the places of a list whose members satisfy `p`. -/
def placeBits {α : Type} (p : α → Bool) : List α → Nat
  | [] => 0
  | a :: l => b2n (p a) + 2 * placeBits p l

/-- CNV.CAL_MAP0 to CNV.CAL_MAP3: the inputs that have calibrated coefficients (R322). -/
def calMap (s : State) (k : Nat) : Nat :=
  placeBits (fun code => s.cnv.coefs.any (fun x => x.1 == code)) (calMapCodes k)

/-- ACC.OVFg: bit j for slot 32 g + j (R326). -/
def accOvf (s : State) (g : Nat) : Nat :=
  placeBits (fun j => (s.acc.slot[j]?.map AccSlot.ovf).getD false) ((List.range 32).map (fun j => 32 * g + j))

/-- ACC.TRKFZb (Table 12.9). -/
def trkFz (x : TBank) : Nat :=
  x.cycle * 2 ^ 32 + x.pin * 2 ^ 20 + x.cause * 2 ^ 16 + x.ignored * 2 ^ 8 + bitAt x.post 1 + b2n x.frozen

/-- DRM.PATTERN: two bits for each reference pattern (R284). -/
def drmPattern (s : State) : Nat :=
  let two (v : Int) : Nat := if v = 0 then 0 else if v < 0 then 3 else 1
  two s.mb.pat[0] + two s.mb.pat[1] * 4 + two s.mb.pat[2] * 16 + two s.mb.pat[3] * 64

/-- All field lines. -/
def allLines : List Line := List.finRange 16

/-- TMR.FLn_STAT (Table 14.6). -/
def flStat (s : State) (l : Line) : Nat :=
  let x := s.fl.get l
  bitAt x.stuck 31 + bitAt x.ovspd 30 + bitAt (x.level != (flCfg s l).testBit 30) 29 + x.rej

/-- TMR.FL_STUCK_MAP (R395). -/
def flStuckMap (s : State) : Nat := bitsOf allLines (fun l => s.fl[l].stuck)

/-- FLD.STATE: bit n while the function input of line n is active (R466). -/
def fldState (s : State) : Nat := bitsOf allLines (fun l => !flIsOut s l && flActive s l)

/-- BUS.SHED_STATE (Table 8.7): the channels opened by shedding, the stage, and a step that waits. -/
def shedState (s : State) : Nat :=
  bitAt (s.bus.stepPending || s.bus.stepNow.isSome || s.bus.restore.isSome || s.adm.queue.any fun o => o.code == Opn.RESTORE) 27 + s.bus.stage * 2 ^ 24 + chMap (fun c => (s.chan c).shed)

/-- ADM.STATE (Table 15.6). -/
def admState (s : State) : Nat :=
  min 255 s.adm.grants.length * 2 ^ 24 + s.adm.queue.length * 2 ^ 16 + b2n s.adm.short

/-- ADM.THERM_MAP: the channels that hold THERMAL (R416). -/
def thermMap (s : State) : Nat := chMap (fun c => 0 < thermHeld s c)

/-- BAT.STRINGS: bit k while string k is bound (R443). -/
def batStrings (s : State) : Nat := bitsOf allStr (fun k => (boundCh s k).isSome)

/-- BAT.TEST: the code of the running test and the channels it names (R443). -/
def batTest (s : State) : Nat :=
  match s.bat.test with
  | some t => t.code * 2 ^ 24 + t.named % 2 ^ 24
  | none => 0

/-- A fraction in hundredths of a percent, 0 to 10 000. Nothing says which way it is rounded. -/
def pct100 (site : Nat) (q : Rat) : Nat := (clampI 0 10000 (ratFree site (q * 10000))).toNat

/-- Sk.SOC, the reported state of charge: Q_rep of C_eff (R430). -/
def socRep (s : State) (k : Str) : Nat :=
  if strEff s k = 0 then 0 else pct100 3 (s.bat.s[k].qRep / strEff s k)

/-- Sk.SOC_INT: Q_int of C_eff (R427). -/
def socInt (s : State) (k : Str) : Nat :=
  if strEff s k = 0 then 0 else pct100 4 (s.bat.s[k].qInt / strEff s k)

/-- Sk.SOH: the capacity in use of Sk.C_NOM_MAH (R431). -/
def strSoh (s : State) (k : Str) : Nat :=
  if strn s k 0x02 = 0 then 0 else (ratFree 6 ((strCap s k : Rat) * 10000 / (strn s k 0x02 : Rat))).toNat

/-- Sk.CONF. -/
def strConf (s : State) (k : Str) : Nat := (clampI 0 10000 (ratFree 7 (confNow s k))).toNat

/-- Sk.REF_AGE_S: whole seconds since the latest reference, 0 before any (R428). -/
def refAge (s : State) (k : Str) : Nat :=
  if s.bat.s[k].refKind = 0 then 0 else min 0xFFFFFFFF ((optime s - s.bat.s[k].refAt) / 1024)

/-- A charge in whole mAh, as a parameter of 32 bits shows it. -/
def mahOf (site : Nat) (q : Rat) : Nat := (clampI 0 0xFFFFFFFF (ratFree site q)).toNat

/-- SHB.PORT_STATn.STATE: bus-off, silent while the port does not transmit, error-passive above 127, else error-active
(Table 17.9). -/
def portStat (s : State) (p : Fin 2) : Nat :=
  let x := s.shb.port[p]
  let st := if x.off then 2
    else if !s.shb.live || s.sys.clkFault || !((usedPorts s).contains p) then 3
    else if 127 < x.tec ∨ 127 < x.rec_ then 1 else 0
  st * 2 ^ 30 + x.tec * 2 ^ 16 + x.rec_ * 2 ^ 8 + x.boff

/-- SHB.PEERk_INFO (Table 17.10). -/
def peerInfo (s : State) (k : Fin 8) : Nat :=
  let x := s.shb.peer[k]
  if !x.heard then 0
  else (peerRange x).1 * 2 ^ 28 + (peerRange x).2 * 2 ^ 24 + x.mode * 2 ^ 20 + x.stage * 2 ^ 16 + x.flags * 2 ^ 8
    + min 255 ((s.clock - x.at_) / (100 * clkMs))

/-- SHB.DEV_STATn (Table 17.11). -/
def devStat (s : State) (c : Ch) : Nat :=
  let x := s.shb.dev[c]
  if devAddr s c = 0 ∨ !x.announced then 0
  else
    let st := if devLow s c then 3 else if x.answered then 2 else 1
    st * 2 ^ 30 + bitAt x.conflict 29 + bitAt (3 ≤ x.miss) 28 + devGen s c * 2 ^ 24
      + min 0xFFFF (x.rating / 10) * 2 ^ 8 + x.flags

/-- The modules of a string that are bound and present (R454). -/
def modsPresent (s : State) (k : Str) : List Bmod :=
  let n := pn s (Prm.SHB_MOD0 + k.val) % 2 ^ 8
  ((List.finRange 16).filter (fun j => j.val < n)).filterMap
    (fun j => if s.shb.mod[k][j].present then some s.shb.mod[k][j] else none)

/-- What SHB.MOD_SUMk is reduced to each second: highest and lowest cell, highest temperature, modules present and their flags
(R454). -/
def modSum (s : State) (k : Str) : Nat :=
  match modsPresent s k with
  | [] => 0
  | a :: l =>
    let hi := l.foldl (fun m x => max m x.hi) a.hi
    let lo := l.foldl (fun m x => min m x.lo) a.lo
    let t := l.foldl (fun m x => max m x.temp) a.temp
    let f := l.foldl (fun m x => m ||| x.flags) a.flags
    hi * 2 ^ 48 + lo * 2 ^ 32 + asBits 16 t * 2 ^ 16 + (l.length + 1) * 2 ^ 8 + f

/-- An output sinks current: its function asks it to, and its current limit has not turned it off (R555). -/
def flSinks (s : State) (l : Line) : Bool := (s.fl.get l).out && !(s.fl.get l).limited

/-- The bytes of the state store (Table 18.1). -/
def storeBytes : Nat := 0x600000

/-- NVS.STATE (Table 18.9). A sweep is in hand once its first word has been read. -/
def nvsState (s : State) : Nat :=
  bitAt s.nvs.writeFail 8 + bitAt s.nvs.holdShort 7 + bitAt s.pwr.warn 6 + bitAt s.nvs.flushing 5
    + bitAt s.nvs.lastFlushOk 4 + bitAt (s.nvs.scrubPos != 0) 3
    + bitAt (s.adm.grants.any (fun o => o.code == Opn.MIGRATE)) 2 + bitAt s.nvs.rollbackCopy 1 + b2n s.nvs.ready

/-- LOG.STATE (Table 19.7). A log write is one command here, so WRITING reads 0 between commands. -/
def logState (s : State) : Nat :=
  bitAt s.log.catchAll.isSome 5 + bitAt s.log.spill 4 + bitAt s.log.held 3 + bitAt s.log.full 1 + b2n s.log.ready

/-- PWR.STATE (Table 21.5). -/
def pwrState (s : State) : Nat :=
  bitAt s.pwr.dieHot 4 + bitAt s.pwr.coreWin 3 + bitAt (holdCharged ≤ s.pwr.holdMv + 1000) 2 + bitAt s.pwr.fail 1
    + b2n s.pwr.warn

/-- Whole seconds left of a trial, rounded up; 0 outside a trial and for a trial ended by hand (Table 20.11). -/
def trialLeft (s : State) : Nat :=
  if s.svc.phase = 6 then
    (pn s Prm.UPD_TRIAL_S * 1024 - (optime s - s.svc.trialAt) + 1023) / 1024
  else 0

/-- UPD.STATE (Table 20.11). -/
def updState (s : State) : Nat := s.svc.phase * 2 ^ 28 + trialLeft s % 2 ^ 24

/-- UPD.VER_A and UPD.VER_B: 0 for an empty bank. -/
def bankVer (k : Bank) : Nat := if k.st = Bst.EMPTY then 0 else k.ver

/-- HIF.SESSION_MAP (Table 4.9). -/
def sessionMap (s : State) : Nat :=
  bitsOf sesCh (fun n => ((session? s n).map Session.isOpen).getD false)

/-- HIF.SECURE_MAP. -/
def secureMap (s : State) : Nat :=
  bitsOf sesCh (fun n => ((session? s n).map (fun x => x.isOpen && x.secure)).getD false)

/-- HIF.INFLIGHT: the entries of the tag table (R100). -/
def inflight (s : State) : Nat := s.deolo.tags.length

/-- CNV.DIAG. -/
def cnvDiag (s : State) : Nat := bitsOf allGrp (fun k => s.cnv.refFail[k])

/-- CNV.NTC_VALID (R302). -/
def ntcValidMap (s : State) : Nat := bitsOf (List.finRange 8) (fun k => s.cnv.ntc[k].st == .valid)

/-- SFK.STAGED: the units staged for the safety sheet (R262). -/
def sfkStaged (s : State) : Nat := bitsOf (List.finRange 3) (fun k => s.tin.staged[k].isSome)

/-- SFK.SHEET_HALF: 0 no sheet, 1 the lower half in force, 2 the upper. -/
def sheetHalf (s : State) : Nat :=
  match sheetForce s with
  | some (up, _) => if up then 2 else 1
  | none => 0

/-- H_STATUS (Table 3.5). -/
def hStatus (s : State) : Nat :=
  b2n s.sys.fwReady + bitAt (simplexBit s) 1 + bitAt s.sys.clkFault 2 + bitAt (anyIso s) 3 + bitAt (inSafeKeep s) 4
    + bitAt (s.sys.active == .b) 5 + bitAt (s.mb.lock == .locked) 6 + bitAt (meterPresent s) 7 + bitAt s.svc.runB 8
    + bitAt (secureMap s != 0) 9 + bitAt s.link.lock.isSome 10

end Sys2Proof.Machine
end

