-- ==== Sys2Proof/Machine/ConvOps.lean ====
section
/-! DEFINITION. What the converters do with a sample: calibrated values, the sequencers' starts and ends, the decimation
filters, the accumulator slots and the tracker windows (chapters 11 and 12). -/

namespace Sys2Proof.Machine

/-! ### Accumulators and trackers -/

/-- p of a slot: the value of its pattern, or +1 in plain mode (Table 12.1, R324). -/
def slotSign (s : State) (x : AccSlot) : Int :=
  if x.cfg.testBit 7 then s.mb.pat.toList.getD (fieldOf x.cfg 5 2) 0 else 1

/-- A slot with a result added under its sign, or refused for its overflow (R323, R326). `none` says that it is refused
for the first time. -/
def AccSlot.add (x : AccSlot) (p v16 : Int) : Option AccSlot :=
  let sum := x.sum + p * v16
  let sq := x.sq + (divNear (v16 * v16) 256).toNat
  let count := x.count + 1
  let aux := if x.cfg.testBit 7 then x.aux + p else 0
  if sum < -(2 ^ 63) ∨ 2 ^ 63 ≤ sum ∨ 2 ^ 64 ≤ sq ∨ 2 ^ 32 ≤ count ∨ aux < -(2 ^ 31) ∨ 2 ^ 31 ≤ aux then none
  else some { x with sum := sum, sq := sq, count := count, aux := aux }

/-- A result reaches a slot: nothing under p = 0 or after a refusal; a first refusal is counted (R324, R326). -/
def slotResult (i : Fin 192) (v16 : Int) (s : State) : State :=
  let x := s.acc.slot[i]
  let p := slotSign s x
  if x.ovf || p == 0 then s
  else
    match x.add p v16 with
    | some y => { s with acc := { s.acc with slot := vput s.acc.slot i y } }
    | none =>
      let n := sat32 (s.acc.ovfCount + 1)
      { s with acc := { s.acc with ovfCount := n, slot := vput s.acc.slot i { x with ovf := true } } }

/-- The cleared slot keeps its configuration (R328). -/
def AccSlot.clear (x : AccSlot) : AccSlot := { AccSlot.reset with cfg := x.cfg }

/-- A tracker with both windows empty. -/
def Trk.empty : Trk := { live := TrkWin.empty, closed := TrkWin.empty }

/-- Slots or trackers cleared: a tracker's windows are emptied (R328, R330). -/
def clearItems (trackers : Bool) (first count : Nat) (s : State) : State :=
  if trackers then
    let trk := (List.finRange 96).foldl (fun v i =>
      if first ≤ i.val ∧ i.val < first + count then vput v i Trk.empty else v) s.acc.trk
    { s with acc := { s.acc with trk := trk } }
  else
    let slot := (List.finRange 192).foldl (fun v i =>
      if first ≤ i.val ∧ i.val < first + count then vmod v i AccSlot.clear else v) s.acc.slot
    { s with acc := { s.acc with slot := slot } }

/-- The bank of a tracker (R329). -/
def bankOfTrk (i : Fin 96) : Fin 12 := ⟨i.val / 8, by omega⟩

/-- A window with a result at a pin (R329): a later equal extreme leaves the pin of the first. -/
def TrkWin.add (w : TrkWin) (v16 : Int) (pin : Nat) : TrkWin :=
  { lo := if v16 < w.lo then v16 else w.lo, pinMin := if v16 < w.lo then pin else w.pinMin,
    hi := if w.hi < v16 then v16 else w.hi, pinMax := if w.hi < v16 then pin else w.pinMax, count := sat32 (w.count + 1) }

/-- A result reaches a tracker; a frozen one takes none (R331). -/
def trkResult (i : Fin 96) (v16 : Int) (s : State) : State :=
  if s.acc.bank[bankOfTrk i].frozen then s
  else { s with acc := { s.acc with trk := vmod s.acc.trk i fun t => { t with live := t.live.add v16 (pinNow s) } } }

/-- The windows of a bank close: the live one becomes the closed one, unless the bank is frozen or runs on (R330,
R331). -/
def closeBank (b : Fin 12) (s : State) : State :=
  if s.acc.bank[b].frozen || s.acc.bank[b].post then s
  else
    let trk := (List.finRange 96).foldl (fun v i =>
      if bankOfTrk i = b then vmod v i (fun t => { live := TrkWin.empty, closed := t.live }) else v) s.acc.trk
    { s with acc := { s.acc with trk := trk } }

/-- A bank is released: its windows are emptied, and a freeze under way is cancelled (R332). -/
def releaseBank (b : Fin 12) (s : State) : State :=
  let s := { s with acc := { s.acc with bank := vmod s.acc.bank b (fun x => { x with frozen := false, post := false, cause := 0 }) } }
  let trk := (List.finRange 96).foldl (fun v i => if bankOfTrk i = b then vput v i Trk.empty else v) s.acc.trk
  { s with acc := { s.acc with trk := trk } }

/-! ### Calibrated values -/

/-- OFS and GAIN of an input: its calibrated pair, the nominal one, or the factory's of an input that has no other
(R304, Table 11.4). `fine` says that a DROP sample uses the fine range. -/
def coefOf (s : State) (code : Nat) (fine : Bool) : Int × Nat :=
  match s.cnv.coefs.find? (fun x => x.1 == code) with
  | some x => x.2
  | none =>
    if calCode code then (0, nominalGain s code)
    else (Config.factoryOfs code fine, Config.factoryGain code fine)

/-- v16 of a code under a pair of coefficients (R304). -/
def v16Of (k : Int × Nat) (code : Int) : Int := divNear ((16 * code - k.1) * (k.2 : Int)) (2 ^ 24)

/-- The channel of a DROP input, none for any other input. -/
def dropCh (input : Nat) : Option Ch :=
  if h : 0x60 ≤ input ∧ input < 0x78 then some ⟨input - 0x60, by omega⟩ else none

/-- The calibrated value of a sample of an input. A fine DROP sample at an end of its code range gives way to
VS - CSN of the same frame (R301). -/
def sampleValue (s : State) (input : Nat) (code : Int) : Int :=
  match dropCh input with
  | some c =>
    let fine := s.cnv.fine[c]
    if fine ∧ (code ≤ -8192 ∨ 8191 ≤ code) then (s.chan c).vs - (s.chan c).vcsn
    else v16Of (coefOf s input fine) code
  | none => v16Of (coefOf s input false) code

/-! ### Sequencer entries -/

/-- The fields of an entry's word (Table 11.5). -/
def seqInput (w : Nat) : Nat := fieldOf w 56 8
/-- END. -/
def seqEnd (w : Nat) : Nat := fieldOf w 54 2
/-- ORDER. -/
def seqOrder (w : Nat) : Nat := fieldOf w 37 3
/-- ACC. -/
def seqAcc (w : Nat) : Nat := fieldOf w 19 8
/-- TRK. -/
def seqTrk (w : Nat) : Nat := fieldOf w 12 7

/-- A result reaches the slot and the tracker that an entry's word names. -/
def deliver (w : Nat) (v16 : Int) (s : State) : State :=
  let s := if h : seqAcc w < 192 then slotResult ⟨seqAcc w, h⟩ v16 s else s
  if h : seqTrk w < 96 then trkResult ⟨seqTrk w, h⟩ v16 s else s

/-- Changes a sequencer. -/
def modSeq (k : Grp) (f : Seqr → Seqr) (s : State) : State :=
  { s with cnv := { s.cnv with seq := vmod s.cnv.seq k f } }

/-- A start request reaches a sequencer: an idle one starts, a running one keeps it pending (R308, R311). -/
def startReq (e : Fin 32) (q : Seqr) : Seqr :=
  if q.run.isNone && !q.urgent then { q with run := some (startRun q e e) }
  else
    let n := if q.pend.isSome then sat8 (q.overrun + 1) else q.overrun
    { q with overrun := n, pend := some e }

/-- The sequencers have stopped: SAFE-KEEP without a witness (R313). -/
def seqHalted (s : State) : Bool := inSafeKeep s && !anyPup s

/-- A start request to a converter that runs. -/
def requestStart (k : Grp) (e : Fin 32) (s : State) : State :=
  if s.cnv.on && !seqHalted s then modSeq k (startReq e) s else s

/-- The sequence stops: a pending request is taken in its place (R308). -/
def stopSeq (q : Seqr) : Seqr :=
  match q.pend with
  | some e => { q with run := some (startRun q e e), pend := none }
  | none => { q with run := none }

/-- An urgent sequence ends: a held urgent request runs at once, else the interrupted entry resumes (R311). -/
def endUrgent (entry : Fin 32) (q : Seqr) : Seqr :=
  if q.urgHeld then { q with run := some (startRun q entry entry), urgHeld := false }
  else
    match q.pre with
    | some r => { q with run := some r, pre := none, urgent := false }
    | none => stopSeq { q with urgent := false }

/-- An execution has taken its samples, and the sequence proceeds by END (R307, R310). An urgent sequence that has run to its
end waits for URGENT_SEQUENCE_END. -/
def nextEntry (r : SeqRun) (q : Seqr) : Seqr :=
  let stop := seqEnd r.word = 1 ∨ (seqEnd r.word = 0 ∧ r.entry = 31)
  if q.urgent then
    if stop ∨ seqEnd r.word = 2 then { q with run := none }
    else { q with run := some (startRun q r.first (r.entry + 1)) }
  else if stop then stopSeq q
  else if seqEnd r.word = 2 then
    if q.pend.isSome then stopSeq q else { q with run := some (startRun q r.first r.first) }
  else { q with run := some (startRun q r.first (r.entry + 1)) }

/-! ### Decimation filters -/

/-- The sums after one more input: each stage adds the one before it (R314). -/
def cascade (x : Int) : Nat → List Int → List Int
  | 0, l => l
  | _, [] => []
  | n + 1, a :: l => (a + x) :: cascade (a + x) n l

/-- The differences at a window end: the result of the last stage and the new memory of each stage (R314). -/
def comb (y : Int) : Nat → List Int → Int × List Int
  | 0, l => (y, l)
  | _, [] => (y, [])
  | n + 1, m :: l =>
    let r := comb (y - m) n l
    (r.1, y :: r.2)

/-- Four components of a list as a vector. -/
def vec4 (l : List Int) : Vector Int 4 := #v[l.getD 0 0, l.getD 1 0, l.getD 2 0, l.getD 3 0]

/-- A sample of an entry reaches its filter (R314). -/
def Filt.sample (f : Filt) (order : Nat) (v16 : Int) : Filt :=
  { f with a := vec4 (cascade v16 order f.a.toList), n := vec4 (cascade 1 order f.n.toList), cur := f.cur + 1 }

/-- A window of an entry's filter ends: the new filter, the quotient's two parts, and whether a result is due, withheld
for an empty window, or not yet settled (R314, R315). -/
def Filt.window (f : Filt) (order : Nat) : Filt × Int × Int :=
  let y := comb (f.a.toList.getD (order - 1) 0) order f.ya.toList
  let c := comb (f.n.toList.getD (order - 1) 0) order f.na.toList
  let m := if f.part then f.ended else min 5 (f.ended + 1)
  let g := if f.cur = 0 then 0 else min 4 (f.sinceGap + 1)
  ({ f with ya := vec4 y.2, na := vec4 c.2, cur := 0, part := false, ended := m, sinceGap := g }, y.1, c.1)

/-- The clock of the next window end of an entry: the first of the instants that divide the cycle in progress into DIV_M equal
parts, on the 2.5 ns grid, after the last window end or the restart (R314). -/
def windowDue (s : State) (k : Grp) (e : Fin 32) : Nat :=
  let q := s.cnv.seq.get k
  let m := max 1 (fieldOf (q.table.get e) 27 8)
  let at_ := fun (j : Nat) => s.mb.boundaryAt + j * 400000000000 / (m * max 1 s.mb.cur)
  match (List.range (m + 1)).find? fun j => decide ((q.filt.get e).at_ < at_ j) with
  | some j => at_ j
  | none => s.clock

/-- A window of entry `e` of converter `k` ends (R314, R315). -/
def windowEnd (k : Grp) (e : Fin 32) (s : State) : State :=
  let q := s.cnv.seq[k]
  let w := q.table[e]
  let order := seqOrder w
  if order = 0 ∨ 4 < order then s
  else
    let r := q.filt[e].window order
    let s := modSeq k (fun q => { q with filt := vput q.filt e { r.1 with at_ := s.clock } }) s
    if r.1.ended < order then s
    else if r.1.sinceGap < order ∨ r.2.2 ≤ 0 then modSeq k (fun q => { q with gaps := sat8 (q.gaps + 1) }) s
    else deliver w (divNear r.2.1 r.2.2.toNat) s

/-- A sample of the running entry of converter `k`: it goes to its slot and tracker, or into its filter, and the last one
owed ends the execution (R307, R315). -/
def takeSample (k : Grp) (code : Int) (s : State) : State :=
  let q := s.cnv.seq[k]
  match q.run with
  | none => s
  | some r =>
    let v16 := sampleValue s (seqInput r.word) code
    let order := seqOrder r.word
    let s := if order = 0 ∨ 4 < order then deliver r.word v16 s
      else modSeq k (fun q => { q with filt := vmod q.filt r.entry (fun f => f.sample order v16) }) s
    if 1 < r.owed then modSeq k (fun q => { q with run := some { r with owed := r.owed - 1 } }) s
    else if seqHalted s then modSeq k (fun q => { q with run := none, pre := none, urgent := false, urgHeld := false, pend := none }) s
    else modSeq k (nextEntry r) s

end Sys2Proof.Machine
end

