-- ==== Sys2Proof/Machine/LineOps.lean ====
section
/-! DEFINITION. What the functions of the field lines do at their edges, and the requests for battery tests
(R395, R437, R467, R468). -/

namespace Sys2Proof.Machine

/-! ### Requests for battery tests (R437) -/

/-- The planned discharge of a test in mAh: Q_max, or for a duration ceil(D t (100 + margin) / 360 000) (Table 16.6). -/
def plannedDischarge (s : State) (code : Nat) (w1 w2 : Nat) : Nat :=
  if code = Opn.CAP_TEST then w2
  else ((loadMa s).toNat * w1 * (100 + pn s Prm.BAT_TEST_MARGIN_PCT) + 359999) / 360000

/-- The arguments of a test are in range (Table 16.6). -/
def testArgsOk (code w1 w2 : Nat) : Bool :=
  let cell := if code = Opn.CAP_TEST then w1 % 2 ^ 16 else w2 % 2 ^ 16
  let cellOk := decide (cell = 0 ∨ (1000 ≤ cell ∧ cell ≤ 4000))
  if code = Opn.CAP_TEST then cellOk && decide (1 ≤ fieldOf w1 16 16 ∧ fieldOf w1 16 16 ≤ 5000 ∧ 1 ≤ w2)
  else cellOk && decide (1 ≤ w1 ∧ w1 ≤ 86400)

/-- A channel that a test may name: bound, and ARMED or ON (R437). -/
def testable (s : State) (c : Ch) : Bool :=
  (allStr.any fun k => boundCh s k == some c) && ((s.chan c).st == .armed || (s.chan c).st == .on)

/-- The bitmap of a test names one or more testable channels and no other (R437). -/
def testMapOk (s : State) (m : Nat) : Bool :=
  decide (m % 2 ^ 24 ≠ 0) && (chNamed m).all (testable s)

/-- The request of a battery test. -/
def testOp (s : State) (code m w1 w2 : Nat) (tag : Option Nat) : Op :=
  { Op.blank code with map := m, prio := 3, bat := plannedDischarge s code w1 w2, tag := tag, args := [w1, w2] }

/-! ### Edges of the input functions -/

/-- The channel of a line's argument. -/
def lineCh (s : State) (l : Line) : Option Ch := if h : flArg s l < 24 then some ⟨flArg s l, h⟩ else none

/-- The active edge of a TEST_SWITCH line: the firmware files a DUR_TEST of all bound strings, for FLD.FUNC_TEST_S or
ADM.SAFE_DUR_S; a mode or a set of strings that admits none is a refusal (Table 17.7). -/
def testSwitch (l : Line) (s : State) : State :=
  let dur := if flArg s l = 0 then pn s Prm.FLD_FUNC_TEST_S else pn s Prm.ADM_SAFE_DUR_S
  let m := bitsOf (allCh.filter fun c => allStr.any fun k => boundCh s k == some c) (fun _ => true)
  let o := testOp s Opn.DUR_TEST m dur 0 none
  if opAdmitted s o && testMapOk s m then fileOp o s else refuseOp o 0 s

/-- The active edge of a RESCUE line: its channel's inrush is filed at priority 0 when the channel is OPEN; a mode that
does not admit it refuses it (R468). -/
def rescueEdge (l : Line) (s : State) : State :=
  match lineCh s l with
  | none => s
  | some c =>
    if (s.chan c).st = .opened then
      if inrushModes s c .rescue then fileInrush c .rescue none s
      else logEvent Evt.FLD_RESCUE_REFUSED 3 c.val [0] s
    else s

/-- A RESCUE or FIRE line has become active: a running test ends with outcome 4, and peak support is withdrawn (R468). -/
def emergencyStart (s : State) : State := withdrawPeak (endTest 4 0 s)

/-- What a change of a line's function input from `was` does (Table 17.7). A trip input whose action is RECORD is recorded
at its onset; every other use of presence and trip inputs is the Marionette's at its tick. -/
def lineEdge (l : Line) (was : Bool) (s : State) : State :=
  let now := flActive s l
  let s := if now && !was then { s with fl := vmod s.fl l fun f => { f with since := some s.clock } }
    else if was && !now && !(s.fl.get l).stuck then { s with fl := vmod s.fl l fun f => { f with since := none } } else s
  if now == was || !anyPup s then s
  else
    match flFunc s l with
    | 2 => match lineCh s l with
      | some c => if now && actionOf s c 8 == some 0 && conducts s c then meetCauses c [8] s else s
      | none => s
    | 4 => logEvent Evt.FLD_MAINS_RELAY 1 (objLine l) [b2n now] s
    | 5 => if now then testSwitch l s else s
    | 6 => if now then rescueEdge l (emergencyStart s) else s
    | 7 => if now then emergencyStart s else s
    | _ => s

/-! ### Stuck lines (R209, R395) -/

/-- The level of an input, as POL counts it, reads active whatever the declaration. -/
def flRaw (s : State) (l : Line) : Bool := !flIsOut s l && ((s.fl.get l).level != (flCfg s l).testBit 30)

/-- The trip input of a channel that is declared stuck, if there is one (R209). -/
def stuckExt (s : State) (c : Ch) : Option Line :=
  (List.finRange 16).find? fun l => flFunc s l == 2 && lineCh s l == some c && (s.fl.get l).stuck

/-- TRIP_STAT.EXT_STUCK follows the trip inputs as they are assigned and declared stuck, each onset with its record (R209,
Table 7.6). -/
def settleExt (s : State) : State :=
  forEach allCh (fun c s =>
    let old := (s.chan c).extStuck
    let now := stuckExt s c
    let s := modCh c (fun x => { x with extStuck := now.isSome }) s
    match now with
    | some l => if old then s else logEvent Evt.EXT_STUCK 2 c.val [l.val] s
    | none => s) s

/-- A line is declared stuck: its functions count as inactive. -/
def declareStuck (l : Line) (s : State) : State :=
  let was := flActive s l
  let s := { s with fl := vmod s.fl l fun f => { f with stuck := true } }
  let s := lineEdge l was s
  settleExt (logEvent Evt.FL_STUCK 2 (objLine l) [1] s)

/-- A declaration ends: the functions follow the line again. -/
def endStuck (l : Line) (s : State) : State :=
  let since := (s.fl.get l).since
  let s := { s with fl := vmod s.fl l fun f => { f with stuck := false } }
  let s := settleExt (logEvent Evt.FL_STUCK 1 (objLine l) [0] s)
  let s := lineEdge l false s
  let kept := if flActive s l then since else none
  { s with fl := vmod s.fl l fun f => { f with since := kept } }

/-- TMR.FLn_STUCK_MS of a line in core clocks, 0 for never. -/
def stuckClocks (s : State) (l : Line) : Nat := pn s (Prm.TMR_FL0_STUCK_MS + l.val) * clkMs

/-- The unbroken active time of a line has reached its stuck time. -/
def stuckReached (s : State) (l : Line) : Bool :=
  match (s.fl.get l).since with
  | some t => stuckClocks s l != 0 && decide (t + stuckClocks s l ≤ s.clock)
  | none => false

/-- A new stuck time is judged at once against the present active time (R395). -/
def stuckRule (l : Line) (s : State) : State :=
  if (s.fl.get l).stuck then (if stuckReached s l then s else endStuck l s)
  else if stuckReached s l then declareStuck l s else s

/-- A new assignment of a line takes effect at once: a line that no longer reads active loses its declaration, and the
function it now carries meets the line's level (R467). `was` and `wasRaw` are the input before the write. -/
def lineAssigned (l : Line) (was wasRaw : Bool) (s : State) : State :=
  let s := if (s.fl.get l).stuck && !flRaw s l then
      logEvent Evt.FL_STUCK 1 (objLine l) [0] { s with fl := vmod s.fl l fun f => { f with stuck := false, since := none } }
    else s
  let s := lineEdge l was (settleExt s)
  if flRaw s l && !wasRaw then { s with fl := vmod s.fl l fun f => { f with since := some s.clock } }
  else if !flRaw s l then { s with fl := vmod s.fl l fun f => { f with since := none } } else s

end Sys2Proof.Machine
end

