-- ==== Sys2Proof/Machine/Operands.lean ====
section
/-! DEFINITION. The operand forms of the Deolo commands: parameter values in words, item descriptors, and the bodies that
carry them (Tables 4.2, 4.5 and 4.6). -/

namespace Sys2Proof.Machine

/-! ### Values of parameters (R114) -/

/-- The type of a TYPE code (Table 4.5). -/
def PTy.ofCode (n : Nat) : Option PTy :=
  [PTy.bool, PTy.enum, PTy.u8, PTy.u16, PTy.u32, PTy.u40, PTy.u64, PTy.s16, PTy.s32, PTy.s64][n]?

/-- The value of a parameter as its words: one word right-aligned and sign-extended, or two, the high word first. -/
def valueWords (ty : PTy) (v : Int) : List Word :=
  if ty.nwords = 2 then [BitVec.ofInt 32 (v / 2 ^ 32), BitVec.ofInt 32 v] else [BitVec.ofInt 32 v]

/-- A value from its words. Of a U40's high word only bits [7:0] count; the others are reserved (R11). -/
def valueOf (ty : PTy) (ws : List Word) : Int :=
  let lo := (ws.getD 1 0).toNat
  let hi := (ws.getD 0 0).toNat
  match ty with
  | .u40 => ((hi % 2 ^ 8 * 2 ^ 32 + lo : Nat) : Int)
  | .u64 => ((hi * 2 ^ 32 + lo : Nat) : Int)
  | .s64 => signedOf 64 (hi * 2 ^ 32 + lo)
  | .s16 => (ws.getD 0 0).toInt
  | .s32 => (ws.getD 0 0).toInt
  | .bool => (hi : Int)
  | .enum => (hi : Int)
  | .u8 => (hi : Int)
  | .u16 => (hi : Int)
  | .u32 => (hi : Int)

/-- An item descriptor (Table 4.5). -/
def descriptor (id st ty nw : Nat) : Word := wd (id * 2 ^ 16 + st * 2 ^ 8 + ty * 2 ^ 4 + nw)

/-! ### Items of a PARAM_WRITE -/

/-- An item: the ID, the TYPE and NW of its descriptor, and its value words. -/
structure Item where
  id : Nat
  ty : Nat
  nw : Nat
  words : List Word
  deriving DecidableEq, Repr

/-- The items of a body, none when the last one is cut short; `fuel` bounds their number. -/
def parseItems : Nat → List Word → Option (List Item)
  | _, [] => some []
  | 0, _ :: _ => none
  | fuel + 1, d :: rest =>
    let nw := d.field 0 4
    if rest.length < nw then none
    else
      let x : Item := { id := d.field 16 16, ty := d.field 4 4, nw := nw, words := rest.take nw }
      (parseItems fuel (rest.drop nw)).map (fun l => x :: l)

/-- The items of a PARAM_WRITE body: 1 to 15 of them (Table 4.6). -/
def writeItemsOf (body : List Word) : Option (List Item) :=
  match parseItems 31 body with
  | some l => if 1 ≤ l.length ∧ l.length ≤ 15 then some l else none
  | none => none

/-- An item of a parameter with a value, as a command would carry it. -/
def itemOf (id : Nat) (v : Int) : Item :=
  match paramRow id with
  | some r => { id := id, ty := r.ty.code, nw := r.ty.nwords, words := valueWords r.ty v }
  | none => { id := id, ty := 4, nw := 1, words := [BitVec.ofInt 32 v] }

/-! ### Bitmaps of commands -/

/-- The channels of a bitmap word. -/
def chWord (w : Word) : Nat := w.field 0 24

/-- The channels that an ISOLATE, RESTORE or GROUP_CTRL bitmap stands for. -/
def grpChs (gs : List Grp) : List Ch := allCh.filter fun c => gs.contains (groupOf c)

end Sys2Proof.Machine
end

