-- ==== Sys2Proof/Machine/ParamRead.lean ====
section
/-! DEFINITION. The value a read of a parameter returns (R14, R121): the live value of a status or a count, otherwise the
value most recently written. -/

namespace Sys2Proof.Machine

/-- Live channel parameters (Tables 5.10, 6.5, 7.7, 16.9). -/
def liveCh (s : State) (c : Ch) (off : Nat) : Option Int :=
  let x := s.chan c
  let str := allStr.find? fun k => boundCh s k == some c
  match off with
  | 0x02 => some (classEff s c)
  | 0x03 => some x.st.code
  | 0x04 => some (chFlags s c)
  | 0x0B => some (ocEff s c)
  | 0x0C => some (rcEff s c)
  | 0x16 => some x.iMa
  | 0x17 => some x.vfar
  | 0x18 => some x.drop
  | 0x19 => some x.closures
  | 0x22 => some x.tj
  | 0x28 => some (wearUsed x)
  | 0x29 => some x.lifeLeft
  | 0x35 => some (tripCause x)
  | 0x36 => some (tripStat x)
  | 0x37 => some x.tripCount
  | 0x39 => some (match str with
    | some k => (s.bat.s[k].phase : Int)
    | none => 0)
  | 0x3A => some (match str with
    | some k => (socRep s k : Int)
    | none => 0)
  | 0x3B => some (match str with
    | some k => (mahOf 8 s.bat.s[k].qRep : Int)
    | none => 0)
  | _ => none

/-- Live group parameters (Table 5.13). -/
def liveGrp (s : State) (g : Grp) (off : Nat) : Option Int :=
  match off with
  | 0 => some (grpState s g)
  | 2 => some (mcCrc s g)
  | 3 => some (s.group g).reloads
  | 4 => some (s.group g).parity
  | 5 => some ((0x3F * 2 ^ (6 * g.val) : Nat) : Int)
  | _ => none

/-- Live string parameters (Table 16.11). -/
def liveStr (s : State) (k : Str) (off : Nat) : Option Int :=
  let x := s.bat.s[k]
  match off with
  | 0x10 => some x.phase
  | 0x11 => some (socRep s k)
  | 0x12 => some (socInt s k)
  | 0x13 => some (mahOf 9 x.qInt)
  | 0x14 => some (strCap s k)
  | 0x15 => some (strSoh s k)
  | 0x16 => some x.learnCount
  | 0x17 => some x.z
  | 0x18 => some (strConf s k)
  | 0x19 => some x.refKind
  | 0x1A => some (refAge s k)
  | 0x1B => some x.eodMv
  | _ => none

/-- Live parameters of the SYS, HIF, PWR, SFK and DRM blocks. -/
def liveLow (s : State) (id : Nat) : Option Int :=
  match id with
  | 0x0011 => some (b2n s.sys.service)
  | 0x0017 => some s.sys.resetCause
  | 0x0018 => some s.sys.mode.code
  | 0x0019 => some s.sys.prevMode.code
  | 0x001A => some s.sys.warmCount
  | 0x001B => some s.sys.failoverCount
  | 0x0103 => some (sessionMap s)
  | 0x0104 => some (secureMap s)
  | 0x0105 => some (inflight s)
  | 0x0106 => some s.deolo.peak
  | 0x0107 => some s.deolo.ntfDropped
  | 0x0108 => some s.deolo.inboundLost
  | 0x0109 => some s.deolo.authFails
  | 0x010A => some (b2n s.deolo.keySet)
  | 0x0201 => some s.pwr.holdMv
  | 0x0202 => some (pwrState s)
  | 0x0203 => some s.pwr.selfMw
  | 0x0204 => some s.pwr.warnCount
  | 0x0205 => some s.pwr.failCount
  | 0x0300 => some (sheetGen s)
  | 0x0301 => some (sheetHalf s)
  | 0x0302 => some (sfkStaged s)
  | 0x0304 => some (keepMap s)
  | 0x0305 => some s.tin.gainDiff
  | 0x0306 => some s.tin.watch
  | 0x0307 => some s.tin.cause
  | 0x0308 => some s.tin.entryCount
  | 0x0309 => some s.tin.entryOptime
  | 0x030A => some s.tin.keptAtEntry
  | 0x0407 => some s.mb.lock.code
  | 0x0408 => some s.mb.ref
  | 0x0409 => some (b2n s.mb.mains)
  | 0x040A => some s.mb.freq
  | 0x040B => some s.mb.refFreq
  | 0x040C => some s.mb.phaseErr
  | 0x040D => some s.mb.cycle
  | 0x040E => some s.mb.lossCount
  | 0x040F => some (drmPattern s)
  | 0x0410 => some s.mb.notes
  | 0x0412 => some s.mb.parityCount
  | _ => none

/-- The coefficients that CNV.CAL_OFS and CNV.CAL_GAIN show: those of CNV.CAL_INPUT as last written (R320, R14). -/
def calShown (s : State) : Int × Nat :=
  let code := pn s Prm.CNV_CAL_INPUT
  match s.cnv.coefNext.find? (fun x => x.1 == code) with
  | some (_, some k) => k
  | some (_, none) => (0, nominalGain s code)
  | none => coefOf s code false

/-- Live parameters of the CNV and ACC blocks. -/
def liveCnv (s : State) (id : Nat) : Option Int :=
  if id = 0x0503 then some (cnvDiag s)
  else if h : 0x0508 ≤ id ∧ id < 0x050C then some (cnvStat s ⟨id - 0x508, by omega⟩)
  else if h : 0x0520 ≤ id ∧ id < 0x0524 then some (s.cnv.refUv.get ⟨id - 0x520, by omega⟩)
  else if id = 0x0524 then some s.cnv.dieT
  else if id = 0x0525 then some s.cnv.vinMv
  else if h : 0x0526 ≤ id ∧ id < 0x052A then some (s.cnv.busMv.get ⟨id - 0x526, by omega⟩)
  else if id = 0x0533 then some (ntcValidMap s)
  else if h : 0x0538 ≤ id ∧ id < 0x0540 then some (s.cnv.ntc.get ⟨id - 0x538, by omega⟩).t
  else if id = 0x0555 then some (calState s)
  else if id = 0x0556 then some (calShown s).1
  else if id = 0x0557 then some (calShown s).2
  else if 0x0558 ≤ id ∧ id < 0x055C then some (calMap s (id - 0x558))
  else if 0x0601 ≤ id ∧ id < 0x0607 then some (accOvf s (id - 0x601))
  else if id = 0x0607 then some s.acc.ovfCount
  else if h : 0x0620 ≤ id ∧ id < 0x062C then some (trkFz (s.acc.bank.get ⟨id - 0x620, by omega⟩))
  else none

/-- Live parameters of the MET block: the mirror (Table 13.9). -/
def liveMet (s : State) (id : Nat) : Option Int :=
  let m := s.met.mirror
  if h : 0x0718 ≤ id ∧ id < 0x071C then some (m.v.get ⟨id - 0x718, by omega⟩)
  else if h : 0x0720 ≤ id ∧ id < 0x0738 then some (m.p.get ⟨id - 0x720, by omega⟩)
  else if h : 0x0740 ≤ id ∧ id < 0x0758 then some (m.imp.get ⟨id - 0x740, by omega⟩)
  else if h : 0x0760 ≤ id ∧ id < 0x0778 then some (m.exp.get ⟨id - 0x760, by omega⟩)
  else
    match id with
    | 0x0700 => some (if s.xam.fitted then (s.met.st : Int) else 0)
    | 0x0701 => some s.met.xid
    | 0x0702 => some s.met.xversion
    | 0x0703 => some m.status
    | 0x0704 => some m.sealCnt
    | 0x0705 => some m.calGen
    | 0x0706 => some s.met.progCrc
    | 0x0707 => some m.snapSeq
    | 0x0708 => some m.auditSeq
    | 0x0709 => some s.met.serial
    | 0x070A => some m.time
    | 0x070B => some m.chmap
    | 0x070C => some m.vmap
    | 0x070D => some m.rejects
    | 0x070E => some s.met.xchk
    | 0x070F => some (if s.xam.fitted then ((min 0xFFFFFFFF ((s.clock - s.met.copiedAt) / clkMs) : Nat) : Int) else 0)
    | 0x0711 => some s.met.auditE0
    | 0x0712 => some s.met.auditE1
    | _ => none

/-- Live parameters of the keeping timers and the field lines (Table 14.8). -/
def liveKt (s : State) (id : Nat) : Option Int :=
  if h : 0x0880 ≤ id ∧ id < 0x0890 ∧ id % 4 = 2 then some (s.tmr.kt.get ⟨(id - 0x880) / 4, by omega⟩)
  else if id = 0x0890 then some s.tmr.ktStat
  else if id = 0x0891 then some s.tmr.span
  else if h : 0x08B0 ≤ id ∧ id < 0x08C0 then some (flStat s ⟨id - 0x8B0, by omega⟩)
  else if id = 0x08C1 then some (flStuckMap s)
  else none

/-- Live parameters of the ADM, BAT, SHB and FLD blocks. -/
def liveMid (s : State) (id : Nat) : Option Int :=
  if h : 0x0B10 ≤ id ∧ id < 0x0B18 then some (peerInfo s ⟨id - 0xB10, by omega⟩)
  else if h : 0x0B40 ≤ id ∧ id < 0x0B58 then some (devStat s ⟨id - 0xB40, by omega⟩)
  else if h : 0x0B58 ≤ id ∧ id < 0x0B5C then some (s.shb.modSum[id - 0xB58]'(by omega))
  else
    match id with
    | 0x0906 => some s.adm.selfBase
    | 0x0910 => some s.adm.qAvail
    | 0x0911 => some s.adm.qNeed
    | 0x0912 => some s.adm.reqStage
    | 0x0913 => some (clampI (-0x80000000) 0x7FFFFFFF (busFree s))
    | 0x0914 => some (clampI (-0x80000000) 0x7FFFFFFF (srcFree s))
    | 0x0915 => some (clampI (-0x80000000) 0x7FFFFFFF (batFree s))
    | 0x0916 => some (clampI (-0x80000000) 0x7FFFFFFF (selfFree s))
    | 0x0917 => some (thermMap s)
    | 0x0918 => some (admState s)
    | 0x0919 => some (admLast s)
    | 0x091A => some s.adm.refusals
    | 0x091B => some s.adm.timeouts
    | 0x0A00 => some (batStrings s)
    | 0x0A13 => some (batTest s)
    | 0x0A14 => some s.bat.lost
    | 0x0B05 => some s.shb.gen
    | 0x0B06 => some (peersMap s)
    | 0x0B07 => some s.shb.low
    | 0x0B08 => some (portStat s 0)
    | 0x0B09 => some (portStat s 1)
    | 0x0B0A => some s.shb.ignored
    | 0x0B0B => some s.shb.clockOfs
    | 0x0B90 => some (fldState s)
    | _ => none

/-- NVS.SCRUB_PCT: the progress of the sweep in hand in percent. -/
def scrubPct (s : State) : Nat := s.nvs.scrubPos * 100 / storeBytes

/-- Live parameters of the NVS, LOG, UPD and BUS blocks. -/
def liveHigh (s : State) (id : Nat) : Option Int :=
  if h : 0x0D0B ≤ id ∧ id < 0x0D0F then some (s.log.pools.get ⟨id - 0xD0B, by omega⟩).length
  else
    match id with
    | 0x0C00 => some (nvsState s)
    | 0x0C02 => some s.nvs.holdT
    | 0x0C03 => some s.nvs.flushUs
    | 0x0C04 => some s.nvs.powerCycles
    | 0x0C05 => some s.nvs.lastFlush
    | 0x0C06 => some s.nvs.corrected
    | 0x0C07 => some s.nvs.uncorrected
    | 0x0C08 => some (scrubPct s)
    | 0x0C09 => some s.nvs.scrubLast
    | 0x0C0A => some s.nvs.heldCount
    | 0x0C0B => some s.nvs.lostWrites
    | 0x0C0C => some s.nvs.migrated
    | 0x0C0D => some s.nvs.migrateFail
    | 0x0D01 => some s.log.nextSeq
    | 0x0D02 => some s.log.watermark
    | 0x0D08 => some s.log.dropped
    | 0x0D09 => some s.log.suppressed
    | 0x0D0A => some (bufUsed s)
    | 0x0E00 => some (updState s)
    | 0x0E01 => some ((s.svc.bankB.st * 2 ^ 8 + s.svc.bankA.st : Nat) : Int)
    | 0x0E02 => some (bankVer s.svc.bankA)
    | 0x0E03 => some (bankVer s.svc.bankB)
    | 0x0E04 => some s.svc.svnFloor
    | 0x0E05 => some s.svc.revoked
    | 0x0E0D => some (updLast s)
    | 0x0E0E => some s.svc.baud
    | 0x0E0F => some s.svc.debug
    | 0x0E10 => some s.svc.handovers
    | 0x0E11 => some s.svc.rollbacks
    | 0x0F01 => some s.bus.vMv
    | 0x0F03 => some s.bus.sagCount
    | 0x0F04 => some s.bus.sagLast
    | 0x0F05 => some s.bus.sagMax
    | 0x0F08 => some s.bus.cond
    | 0x0F15 => some s.bus.stageEff
    | 0x0F16 => some (shedState s)
    | 0x0F26 => some s.bus.shareErr
    | 0x0F34 => some s.bus.srcMw
    | 0x0F35 => some s.bus.capState
    | _ => none

/-- The live value of a parameter whose read has no effect, none where its value is the one last written. -/
def liveValue (s : State) (id : Nat) : Option Int :=
  match id / 0x100 with
  | 0x05 => liveCnv s id
  | 0x06 => liveCnv s id
  | 0x07 => liveMet s id
  | 0x08 => liveKt s id
  | 0x09 => liveMid s id
  | 0x0A => if h : 0x0A40 ≤ id ∧ id < 0x0AC0 then liveStr s ⟨(id - 0xA40) / 0x20, by omega⟩ ((id - 0xA40) % 0x20) else liveMid s id
  | 0x0B => liveMid s id
  | 0x0C => liveHigh s id
  | 0x0D => liveHigh s id
  | 0x0E => liveHigh s id
  | 0x0F => liveHigh s id
  | _ =>
    if h : 0x1000 ≤ id ∧ id < 0x1600 then liveCh s ⟨(id - 0x1000) / 0x40, by omega⟩ ((id - 0x1000) % 0x40)
    else if h : 0x1600 ≤ id ∧ id < 0x1700 then liveGrp s ⟨(id - 0x1600) / 0x40, by omega⟩ ((id - 0x1600) % 0x40)
    else liveLow s id

/-- The cursor of the session of a channel (R505). -/
def cursorOf (s : State) (n : Mb) : Nat :=
  match session? s n with
  | some x => x.cursor
  | none => s.log.watermark

/-- A read of a parameter by the session of channel `n`: its value, and the state after the read. A WO parameter reads 0
(R10); a read of LOG.STATE clears FULL; the reads of timers are those of R384 and R388. -/
def readParam (n : Mb) (id : Nat) (s : State) : Int × State :=
  if ((paramRow id).map ParamRow.acc) = some .wo then (0, s)
  else if id = Prm.LOG_CURSOR then (cursorOf s n, s)
  else if 0x08B0 ≤ id ∧ id < 0x08C0 then ((liveValue (settleLines s) id).getD 0, settleLines s)
  else if id = Prm.LOG_STATE then (logState s, { s with log := { s.log with full := false } })
  else if h : 0x0800 ≤ id ∧ id < 0x0880 then
    let k : Tmr := ⟨(id - 0x800) / 8, by omega⟩
    match id % 8 with
    | 3 => let r := readCnt n k s
           (r.1, r.2)
    | 4 => let r := readCap n k s
           (r.1, r.2)
    | 7 => (tmrStat s k, s)
    | _ => (pgetW s id, s)
  else
    match liveValue s id with
    | some v => (v, s)
    | none => (pgetW s id, s)

/-- One descriptor of a PARAM_READ: its completion words, its status, and the state after it (R121). DESIGN CHOICE (unsafe,
log 84): the descriptor of an item whose ID is not in the dictionary echoes the command's TYPE. -/
def readItem (n : Mb) (d : Word) (s : State) : List Word × Nat × State :=
  let id := d.field 16 16
  match paramRow id with
  | none => ([descriptor id St.BAD_ID (d.field 4 4) 0], St.BAD_ID, s)
  | some r =>
    let v := readParam n id s
    (descriptor id St.OK r.ty.code r.ty.nwords :: valueWords r.ty v.1, St.OK, v.2)

/-- All descriptors of a PARAM_READ in order: the body, the status of the first item that failed, and the state. -/
def readItems (n : Mb) : List Word → State → List Word × Nat × State
  | [], s => ([], St.OK, s)
  | d :: t, s =>
    let a := readItem n d s
    let b := readItems n t a.2.2
    (a.1 ++ b.1, (if a.2.1 = St.OK then b.2.1 else a.2.1), b.2.2)

/-- The words that a PARAM_READ completion needs (R116). -/
def readSize (ds : List Word) : Nat :=
  ds.foldl (fun n d => n + 1 + ((paramRow (d.field 16 16)).map (fun r => r.ty.nwords)).getD 0) 0

/-- Every descriptor of a read carries NW = 0 and the parameter's own TYPE; none says which item's status a wrong one
gives, and the type of a read is not checked (R120 gives the type check to a write). -/
def readBodyOk (ds : List Word) : Bool := decide (1 ≤ ds.length ∧ ds.length ≤ 31) && ds.all (fun d => d.field 0 4 == 0)

end Sys2Proof.Machine
end

