-- ==== Sys2Proof/Machine/Actions.lean ====
section
/-! DEFINITION. What a write of a parameter does beyond storing a value: the sheet's commit, calibration, trackers and
accumulators, updates, and the rest (R263, R318 to R320, R332, R336, R394, R528, R531, R532). -/

namespace Sys2Proof.Machine

/-! ### The safety sheet (R263) -/

/-- The staged data of units 0 to 2 in order; none unless all three are staged. -/
def stagedData (s : State) : Option (List Word) :=
  match s.tin.staged.get 0, s.tin.staged.get 1, s.tin.staged.get 2 with
  | some a, some b, some c => some (a ++ b ++ c)
  | _, _, _ => none

/-- The data that a commit with a CRC would write; none when a check of R263 fails. -/
def commitData (v : Int) (s : State) : Option (List Word) :=
  match stagedData s with
  | none => none
  | some d => if (crc32 (wordsBytes (d.map fun w => w.toNat)) : Int) = v ∧ sheetValid d then some d else none

/-- The commit: the half not in force takes the staged data under the next generation, the Tin Soldier latches it, and
nothing remains staged. -/
def commitSheet (v : Int) (s : State) : State :=
  match commitData v s with
  | none => s
  | some d =>
    let gen := sheetGen s + 1
    let upper : Bool := (sheetForce s).map Prod.fst == some false
    let clear := Vector.replicate 3 none
    let t := if upper then { s.tin with upper := writeHalf gen d s.tin.upper, staged := clear }
      else { s.tin with lower := writeHalf gen d s.tin.lower, staged := clear }
    latchSheet { s with tin := t }

/-! ### Calibration (R318 to R320) -/

/-- The input's channel, for an input of a channel. -/
def calChannel (code : Nat) : Option Ch :=
  if code < 0x58 then (if h : code % 0x20 < 24 then some ⟨code % 0x20, h⟩ else none) else none

/-- The mode admits calibration of an input: COMMISSION, or MAINTAIN for an input of an isolated channel. -/
def calMode (s : State) (code : Nat) : Bool :=
  match s.sys.mode with
  | .commission => true
  | .maintain => (match calChannel code with
    | some c => isolated s c
    | none => false)
  | _ => false

/-- The captures that a command needs are complete for the input. -/
def calReady (s : State) (code cmd : Nat) : Bool :=
  let z := s.cnv.cal.zero.map (fun x => x.1) == some code
  let f := s.cnv.cal.full.map (fun x => x.1) == some code
  match cmd with
  | 2 => z
  | 3 => z && f
  | _ => true

/-- A quotient of integers rounded to the nearest, ties away from zero, for a divisor of either sign. -/
def divNearI (a b : Int) : Int := if b < 0 then divNear (-a) b.natAbs else divNear a b.natAbs

/-- GAIN and OFS of a zero and a full-scale capture (R319). -/
def calGain (z f mz mf : Int) : Int := divNearI (16 * (f - z) * 2 ^ 24) (mf - mz)

/-- OFS of a computed GAIN (R319). -/
def calOfs (z mz gain : Int) : Int := mz - divNearI (16 * z * 2 ^ 24) gain

/-- New coefficients, or nominal ones, go to the store; they take effect after the write has completed. -/
def calStore (code : Nat) (k : Option (Int × Nat)) (s : State) : State :=
  let b : Body := match k with
    | some (o, g) => .cal o g
    | none => .cal 0 0
  offerWrite RT.CAL code b (modCal (fun x => { x with step := 5, fail := 0, storing := some (code, k) }) s)

/-- COMPUTE (R319). -/
def calComputeOp (code : Nat) (s : State) : State :=
  match s.cnv.cal.zero, s.cnv.cal.full with
  | some (_, z, mz), some (_, f, mf) =>
    if (mf - mz).natAbs < 16384 then calFail 1 s
    else
      let gain := calGain z f mz mf
      if 0 ≤ gain ∧ gainInWindow s code gain.toNat then calStore code (some (calOfs z mz gain, gain.toNat)) s
      else calFail 2 s
  | _, _ => s

/-- A write of CNV.CAL_CMD that has passed its checks. -/
def calCommand (cmd : Nat) (s : State) : State :=
  let code := pn s Prm.CNV_CAL_INPUT
  let s := modCal (fun k => { k with input := code }) s
  match cmd with
  | 1 => modCal (fun k => { k with step := 1, fail := 0, zero := none, full := none, applied := pget s Prm.CNV_CAL_Z,
                                   left := pn s Prm.CNV_CAL_CYCLES + 1 }) s
  | 2 => modCal (fun k => { k with step := 3, fail := 0, full := none, applied := pget s Prm.CNV_CAL_F,
                                   left := pn s Prm.CNV_CAL_CYCLES + 1 }) s
  | 3 => calComputeOp code s
  | 4 => calStore code none s
  | _ => modCal (fun k => { k with step := 0, fail := 0, zero := none, full := none }) s

/-- Coefficients wait for the next boundary, in place of any that wait for the same input. -/
def coefAtBoundary (code : Nat) (k : Option (Int × Nat)) (s : State) : State :=
  { s with cnv := { s.cnv with coefNext := s.cnv.coefNext.filter (fun x => x.1 != code) ++ [(code, k)] } }

/-- A direct write of CNV.CAL_OFS and CNV.CAL_GAIN (R320). -/
def calDirect (ofs : Int) (gain : Nat) (s : State) : State :=
  let code := pn s Prm.CNV_CAL_INPUT
  offerWrite RT.CAL code (.cal ofs gain) (coefAtBoundary code (some (ofs, gain)) s)

/-- The write of an input's coefficients has ended: the new coefficients wait for the next boundary, or the procedure fails
with reason 5 and the previous ones stand. -/
def calStoreEnd (ok : Bool) (s : State) : State :=
  match s.cnv.cal.storing with
  | none => s
  | some (code, k) =>
    let s := modCal (fun x => { x with storing := none }) s
    let step5 := s.cnv.cal.step == 5
    if ok then
      let s := coefAtBoundary code k s
      if step5 then modCal (fun x => { x with step := 6 }) s else s
    else if step5 then calFail 5 s else s

/-! ### Accumulators, trackers, converters (R308, R332, R336) -/

/-- ACC.CLEAR: at once, or at the next boundary with bit 0 (Table 12.8). -/
def accClearOp (v : Nat) (s : State) : State :=
  let trk := fieldOf v 24 8 == 2
  let first := fieldOf v 16 8
  let count := fieldOf v 8 8 + 1
  if v.testBit 0 then { s with acc := { s.acc with clears := s.acc.clears ++ [(trk, first, count)] } }
  else clearItems trk first count s

/-- ACC.TRK_REL: the banks named are released. -/
def trkRelease (v : Nat) (s : State) : State :=
  forEach ((List.finRange 12).filter fun b => v.testBit b.val) releaseBank s

/-- CNV.START: a start request for an entry of a converter. -/
def cnvStartOp (v : Nat) (s : State) : State :=
  requestStart ⟨fieldOf v 8 2 % 4, by omega⟩ ⟨fieldOf v 0 5 % 32, by omega⟩ s

/-! ### Timers, drum, strings, log, metering -/

/-- KT VALUE, ALARM or CFG of a keeping timer was written: its alarm is due again only from below (R393). -/
def ktSettle (n : Fin 4) (s : State) : State :=
  let due : Bool := decide (pget s (ktId n Ktp.ALARM) ≤ (s.tmr.kt.get n : Int))
  { s with tmr := { s.tmr with ktDue := vput s.tmr.ktDue n due } }

/-- A keeping timer takes a written value. -/
def ktSet (n : Fin 4) (v : Nat) (s : State) : State :=
  { s with tmr := { s.tmr with kt := vput s.tmr.kt n (v % 2 ^ 40) } }

/-- Sk.C_NOM_MAH is written: the learned capacity and its count return to their defaults, and the record follows (R431, R443). -/
def capacityReset (k : Str) (s : State) : State :=
  let x := { s.bat.s.get k with cLearn := 0, learnCount := 0 }
  queueWrite RT.CAPACITY k.val { s with bat := { s.bat with s := vput s.bat.s k x } }

/-- A field of Table 16.1 or Sk.CHEM is written (R419). -/
def chemWritten (k : Str) (off : Nat) (s : State) : State :=
  let m := fun (f : Strg → Strg) => { s with bat := { s.bat with s := vmod s.bat.s k f } }
  if off = Strp.CHEM then m (fun x => { x with chemDue := true })
  else match chemFields.findIdx? (fun o => o == off) with
    | some i => m (fun x => { x with chemKept := x.chemKept ||| 2 ^ i })
    | none => s

/-- The parts of an audit entry as MET.AUDIT_E0 and MET.AUDIT_E1 show them (Table 13.9). -/
def auditWords (e : Audit) : Nat × Nat :=
  (e.seq * 2 ^ 32 + e.time, e.code * 2 ^ 56 + e.obj * 2 ^ 48 + e.sealCnt * 2 ^ 32 + e.data)

/-- MET.AUDIT_SEL: the MET block fetches the entry from Xamir's shadow; 0 where the ring does not hold it. -/
def auditSelect (v : Nat) (s : State) : State :=
  if meterPresent s then
    let w := match s.xam.shadow.audit.find? (fun e => e.seq == v) with
      | some e => auditWords e
      | none => (0, 0)
    { s with met := { s.met with auditE0 := w.1, auditE1 := w.2 } }
  else s

/-- The cursor of a session moves (R505). -/
def putCursor (n : Mb) (v : Nat) (s : State) : State :=
  match session? s n with
  | some x => putSes n (some { x with cursor := v }) s
  | none => s

/-! ### Updates (R528, R531, R532) -/

/-- A present peer shows mode HANDOVER in its last STATUS (R528). -/
def peerInHandover (s : State) : Bool :=
  (List.finRange 8).any fun k => k != ownNode s && (s.shb.peer.get k).present && (s.shb.peer.get k).mode == Mode.code .handover

/-- The condition of R528 that fails, by its UPD.LAST result. -/
def takeoverFault (s : State) : Option Nat :=
  if (idleBank s).st ≠ Bst.STAGED then some 10
  else if simplexBit s then some 14
  else if s.svc.loading.isSome then some 10
  else if pb s Prm.UPD_PEER_GUARD && peerInHandover s then some 13
  else if s.svc.asker.isSome || s.svc.op.isSome || s.svc.newOn.isSome then some 10
  else none

/-- The request of a takeover (Table 15.2). -/
def takeoverOp : Op := { Op.blank Opn.HANDOVER with prio := 3, self := 700 }

/-- An accepted takeover files its operation; granted, it enters HANDOVER. -/
def fileTakeover (a : Asker) (s : State) : State :=
  handoverEntry (fileOp takeoverOp { s with svc := { s.svc with asker := some a } })

/-- The condition that a key written to UPD.TAKEOVER, UPD.CONFIRM or UPD.ROLLBACK fails, by its result. -/
def updFault (id : Nat) (s : State) : Option Nat :=
  if id = Prm.UPD_TAKEOVER then takeoverFault s
  else if id = Prm.UPD_CONFIRM then
    (if s.svc.bankA.st = Bst.TRIAL ∨ s.svc.bankB.st = Bst.TRIAL then none else some 10)
  else if id = Prm.UPD_ROLLBACK then (if canRollback s then none else some 10)
  else none

/-- UPD.CONFIRM. -/
def updConfirmOp (s : State) : State := putLast 0x0E 0 0 (confirmTrial s)

end Sys2Proof.Machine
end

