-- ==== Sys2Proof/Machine/ParamWrite.lean ====
section
/-! DEFINITION. PARAM_WRITE: the checks of R118 and R120 over all items, the write itself, and the parameter rows of the table
as one-item commands (R120, R121). -/

namespace Sys2Proof.Machine

/-! ### The checks (R118, R120) -/

/-- The session of a channel is secure. -/
def secureOn (s : State) (n : Mb) : Bool :=
  match session? s n with
  | some x => x.isOpen && x.secure
  | none => false

/-- HIF.HOST_KEY0 to HIF.HOST_KEY7. -/
def isHostKey (id : Nat) : Bool := decide (Prm.HIF_HOST_KEY0 ≤ id ∧ id < Prm.HIF_HOST_KEY0 + 8)

/-- The value of an item as it would be kept. -/
def Item.value (x : Item) : Int :=
  match paramRow x.id with
  | some r => keepValue x.id (valueOf r.ty x.words)
  | none => 0

/-- The latest written values after a write of items. -/
def latestAfter (s : State) (l : List Item) : Latest := fun id =>
  match l.reverse.find? (fun x => x.id == id) with
  | some x => x.value
  | none => pgetW s id

/-- The write needs secure access and the session is not secure (R110, R268, R537). -/
def authFault (s : State) (n : Mb) (x : Item) : Option Nat :=
  let need := x.id / 0x100 == 3 || ((paramRow x.id).map ParamRow.sec == some true)
  if need && !secureOn s n then some St.AUTH else none

/-- The parameter is marked commission-only. -/
def isComm (id : Nat) : Bool := (paramRow id).map ParamRow.comm == some true

/-- The mode admits a write of a commission-only parameter: COMMISSION, or MAINTAIN for an isolated channel (R162). -/
def commAdmits (s : State) (g : Latest) (id : Nat) : Bool :=
  if id = Prm.CNV_CAL_OFS ∨ id = Prm.CNV_CAL_GAIN then calMode s (g Prm.CNV_CAL_INPUT).toNat
  else
    match s.sys.mode with
    | .commission => true
    | .maintain => (match chanOf id with
      | some (c, _) => isolated s c
      | none => false)
    | _ => false

/-- The mode forbids the write of an item (R39, Table 2.4, R162, R318, R528, Table 9.9). -/
def modeFault (s : State) (g : Latest) (x : Item) : Option Nat :=
  let block := x.id / 0x100
  let deny := fun (b : Bool) => if b then some St.MODE else none
  match s.sys.mode with
  | .handover => some St.BUSY
  | .recovery => some St.MODE
  | .boot => some St.MODE
  | .dormant => some St.MODE
  | .safeKeep => deny (block != 0x0D)
  | .bridge => deny (block != 0x0F && block != 0x0A && block != 0x0D)
  | .cutoff => deny (block != 0x0F && block != 0x0A && block != 0x0D)
  | m =>
    deny ((isComm x.id && !commAdmits s g x.id)
      || (x.id == Prm.SFK_DRILL && m != .commission && m != .standby)
      || (x.id == Prm.CNV_CAL_CMD && !calMode s (g Prm.CNV_CAL_INPUT).toNat)
      || (x.id == Prm.UPD_TAKEOVER && !opAdmitted s takeoverOp))

/-- The ID names no parameter (R119). -/
def idFault (x : Item) : Option Nat := if (paramRow x.id).isNone then some St.BAD_ID else none

/-- The parameter takes no write (R10). -/
def accessFault (x : Item) : Option Nat :=
  match (paramRow x.id).map ParamRow.acc with
  | some .ro => some St.REFUSED
  | some .rc => some St.REFUSED
  | _ => none

/-- The special range rules of single parameters: keys, pairs of parameters that stand together, the sheet's commit and the
calibration commands. -/
def specialOk (s : State) (l : List Item) (g : Latest) (x : Item) : Bool :=
  let has := fun (id : Nat) => l.any fun y => y.id == id
  let v := x.value
  let code := (g Prm.CNV_CAL_INPUT).toNat
  if isHostKey x.id then (List.range 8).all fun j => has (Prm.HIF_HOST_KEY0 + j)
  else if x.id = Prm.SFK_COMMIT then (commitData v s).isSome
  else if x.id = Prm.SFK_DRILL then v == 0x5AFE
  else if x.id = Prm.UPD_TAKEOVER ∨ x.id = Prm.UPD_CONFIRM ∨ x.id = Prm.UPD_ROLLBACK then v == 0x5A0B
  else if x.id = Prm.LOG_CURSOR then !newer v.toNat (lastSeq s)
  else if x.id = Prm.CNV_CAL_CMD then calCode code && calReady s code v.toNat
  else if x.id = Prm.CNV_CAL_OFS then has Prm.CNV_CAL_GAIN
  else if x.id = Prm.CNV_CAL_GAIN then has Prm.CNV_CAL_OFS && gainInWindow s code v.toNat
  else true

/-- The type, length or range of an item is wrong (R6, R114, R120). -/
def rangeFault (s : State) (l : List Item) (g : Latest) (x : Item) : Option Nat :=
  match paramRow x.id with
  | none => none
  | some r =>
    if x.ty = r.ty.code ∧ x.nw = r.ty.nwords ∧ valueOk x.id (valueOf r.ty x.words) ∧ specialOk s l g x then none
    else some St.RANGE

/-- An item takes part in a broken cross-rule. -/
def crossFault (g : Latest) (x : Item) : Option Nat := if crossOk g x.id then none else some St.RANGE

/-- A condition of an update command fails (R528, R531, R532). -/
def updItemFault (s : State) (x : Item) : Option Nat := (updFault x.id s).map fun _ => St.REFUSED

/-- The first item, in body order, that fails a check: its status, ID and index. -/
def firstBad (f : Item → Option Nat) : Nat → List Item → Option (Nat × Nat × Nat)
  | _, [] => none
  | k, x :: t =>
    match f x with
    | some st => some (st, x.id, k)
    | none => firstBad f (k + 1) t

/-- The first of a list of checks that some item fails. -/
def firstCheck (l : List Item) : List (Item → Option Nat) → Option (Nat × Nat × Nat)
  | [] => none
  | f :: t =>
    match firstBad f 0 l with
    | some r => some r
    | none => firstCheck l t

/-- The checks of a PARAM_WRITE in the order of R118, each over every item before the next. -/
def writeFault (s : State) (n : Mb) (l : List Item) : Option (Nat × Nat × Nat) :=
  let g := latestAfter s l
  firstCheck l
    [authFault s n, modeFault s g, idFault, accessFault, rangeFault s l g, crossFault g, updItemFault s]

/-! ### The write -/

/-- A parameter whose value lives elsewhere than in the parameter stores. -/
def isLive (id : Nat) : Bool :=
  decide (0x0800 ≤ id ∧ id < 0x0880 ∧ id % 8 = 3) || decide (0x0880 ≤ id ∧ id < 0x0890 ∧ id % 4 = 2)
    || id == Prm.LOG_CURSOR || id == Prm.CNV_CAL_OFS || id == Prm.CNV_CAL_GAIN

/-- The write of a value stores it: the host key, and every RW parameter but the live ones. -/
def isStored (id : Nat) : Bool :=
  isHostKey id ||
    (!isLive id && match (paramRow id).map ParamRow.acc with
      | some .rw => true
      | some .rws => true
      | _ => false)

/-- An item's value is written, and its CONFIG block is dirty (R479). -/
def putItem (x : Item) (s : State) : State :=
  let s := if x.id = Prm.CNV_CAL_INPUT then calCaptureLost s else s
  if isStored x.id then
    let s := putW x.id x.value s
    if x.id = Prm.MET_AUDIT_SEL then s else markDirty x.id s
  else s

/-- An IMM value comes into force at once (R12), that of an isolated channel or group at its restoration (Table 4.3). -/
def forceItem (x : Item) (s : State) : State :=
  if isStored x.id && effOf x.id == some .imm && !waitsForRestore s x.id then takeForce x.id s else s

/-- A new assignment of a field line (R466, R467); `s0` is the state before the write. -/
def fldWritten (s0 : State) (l : Line) (s : State) : State :=
  let same := flFunc s0 l == flFunc s l && fieldOf (flCfg s0 l) 24 5 == fieldOf (flCfg s l) 24 5
  driveOutputs (lineAssigned l (same && flActive s0 l) (same && flRaw s0 l) s)

/-- The bits of TMR.KTn_ARG that a GATE uses; the others are reserved (Table 14.7). -/
def ktArgMask (gate : Nat) : Nat :=
  match gate with
  | 2 => 0x00FFFFFF
  | 4 => 0x0F00FFFF
  | _ => 0

/-- TMR.KTn_ARG keeps the bits that the GATE as written uses, and reads 0 in the others (R11). -/
def ktArgKeep (n : Fin 4) (s : State) : State :=
  let v := (pgetW s (ktId n Ktp.ARG)).toNat &&& ktArgMask ((pgetW s (ktId n Ktp.CFG)).toNat % 8)
  takeForce (ktId n Ktp.ARG) (putW (ktId n Ktp.ARG) v s)

/-- What a write does in the TMR block. -/
def tmrWritten (id v : Nat) (s : State) : State :=
  if h : 0x0800 ≤ id ∧ id < 0x0880 then
    let k : Tmr := ⟨(id - 0x800) / 8, by omega⟩
    match id % 8 with
    | 0 => writeCfg k v s
    | 1 => writePeriod k v s
    | 2 => writeCmp k v s
    | 3 => writeCnt k v s
    | 6 => writeCtrl k v s
    | 7 => writeStat k v s
    | _ => s
  else if h : 0x0880 ≤ id ∧ id < 0x0890 then
    let n : Fin 4 := ⟨(id - 0x880) / 4, by omega⟩
    match id % 4 with
    | 0 => ktSettle n (ktArgKeep n s)
    | 1 => ktArgKeep n s
    | 2 => ktSettle n (ktSet n v s)
    | _ => ktSettle n s
  else if id = Prm.TMR_KT_STAT then { s with tmr := { s.tmr with ktStat := s.tmr.ktStat - (s.tmr.ktStat &&& v) } }
  else if h : 0x08A0 ≤ id ∧ id < 0x08B0 then stuckRule ⟨id - 0x8A0, by omega⟩ s
  else s

/-- What a write does in the CNV and ACC blocks. -/
def cnvWritten (g : Latest) (id : Nat) (v : Int) (s : State) : State :=
  let n := v.toNat
  if id = Prm.CNV_START then cnvStartOp n s
  else if id = Prm.CNV_URGENT then urgentAll (.host n) s
  else if id = Prm.CNV_LP_MAP then
    forEach allGrp (fun k s => if n.testBit k.val then s else modSeq k (fun q => { q with lp := false }) s) s
  else if id = Prm.CNV_CAL_CMD then calCommand n s
  else if id = Prm.CNV_CAL_GAIN then calDirect (g Prm.CNV_CAL_OFS) n s
  else if id = Prm.ACC_CLEAR then accClearOp n s
  else if id = Prm.ACC_TRK_FREEZE then freezeAll (.host n) s
  else if id = Prm.ACC_TRK_REL then trkRelease n s
  else s

/-- What a write does in the BAT block. -/
def batWritten (id : Nat) (s : State) : State :=
  if h : 0x0A40 ≤ id ∧ id < 0x0AC0 then
    let k : Str := ⟨(id - 0xA40) / 0x20, by omega⟩
    let off := (id - 0xA40) % 0x20
    if off = Strp.C_NOM_MAH then capacityReset k s else chemWritten k off s
  else s

/-- What the write of an item does beyond its value; `s0` is the state before the write. -/
def itemHook (s0 : State) (n : Mb) (g : Latest) (x : Item) (s : State) : State :=
  let v := x.value
  match x.id / 0x100 with
  | 0x01 => if x.id = Prm.HIF_HOST_KEY0 then { s with deolo := { s.deolo with keySet := true } } else s
  | 0x03 => if x.id = Prm.SFK_COMMIT then commitSheet v s else s
  | 0x04 =>
    if x.id = Prm.DRM_NOTES then clearNotes v.toNat s
    else if 0x0480 ≤ x.id then { s with mb := { s.mb with pairNew := insNat (x.id - 0x480) (s.mb.pairNew.filter (· != x.id - 0x480)) } }
    else s
  | 0x05 => cnvWritten g x.id v s
  | 0x06 => cnvWritten g x.id v s
  | 0x07 => if x.id = Prm.MET_AUDIT_SEL then auditSelect v.toNat s else s
  | 0x08 => tmrWritten x.id v.toNat s
  | 0x0A => batWritten x.id s
  | 0x0B =>
    if h : 0x0B80 ≤ x.id ∧ x.id < 0x0B90 then fldWritten s0 ⟨x.id - 0xB80, by omega⟩ s
    else if x.id = Prm.FLD_OUT_SET then driveOutputs s
    else s
  | 0x0D => if x.id = Prm.LOG_CURSOR then putCursor n v.toNat s else s
  | 0x0E => if x.id = Prm.UPD_CONFIRM then updConfirmOp s else s
  | _ =>
    match chanOf x.id with
    | some (c, off) => if off = Chp.INRUSH_AUTO then autoFile c s else s
    | none => s

/-- All items are written in one core cycle; then each IMM one takes effect, in body order (R12, R120). -/
def applyItems (n : Mb) (l : List Item) (s : State) : State :=
  let g := latestAfter s l
  let s1 := forEach l putItem s
  let s2 := forEach l forceItem s1
  forEach l (itemHook s n g) s2

/-- What follows the completion of a write: a drill takes the Hatan to SAFE-KEEP, a rollback restarts it. -/
def afterWrite (l : List Item) (s : State) : State :=
  let s := if l.any (fun x => x.id == Prm.SFK_DRILL) then enterSafeKeep SfkCause.DRILL s else s
  if l.any (fun x => x.id == Prm.UPD_ROLLBACK) then rollback (putLast 0x0E 0 0 s) else s

/-- An item names a parameter. -/
def names (l : List Item) (id : Nat) : Option Nat := l.findIdx? fun x => x.id == id

/-- The body of a failing PARAM_WRITE: the ID of the first failing item and its index (Table 4.6). -/
def failBody (id k : Nat) : List Word := [wd (id * 2 ^ 16 + k)]

/-- The body of a PARAM_WRITE that wrote every item. -/
def okBody : List Word := [0xFFFF0000]

/-- UPD.LAST tells why an update command was refused (Table 20.12). -/
def noteRefusal (st id : Nat) (s : State) : State :=
  match updFault id s with
  | some res => if st = St.REFUSED then putLast 0x0E res 0 s else s
  | none => s

/-- A PARAM_WRITE from the session of a channel: its status, its completion body, and the state. A takeover that the arbiter
refuses writes nothing (R528). -/
def writeItems (n : Mb) (l : List Item) (s : State) : Nat × List Word × State :=
  match writeFault s n l with
  | some (st, id, k) => (st, failBody id k, noteRefusal st id s)
  | none =>
    match names l Prm.UPD_TAKEOVER with
    | none => (St.OK, okBody, applyItems n l s)
    | some k =>
      let s1 := fileTakeover .param s
      if s1.svc.asker.isSome ∨ s1.sys.mode = .handover then (St.OK, okBody, applyItems n l s1)
      else (St.REFUSED, failBody Prm.UPD_TAKEOVER k, s1)

/-! ### One-item commands (the parameter rows of the table) -/

/-- The status that the session of a channel gives a command: ST_VERSION without one, ST_AUTH before SESSION_AUTH on channels
10 to 13 (R106, R118). -/
def sessionStatus (s : State) (n : Mb) : Nat :=
  match session? s n with
  | some x => if x.isOpen then St.OK else St.AUTH
  | none => St.VERSION

/-- The firmware takes commands at present: it is ready, a Puppeteer runs, and the debugger does not hold it halted. -/
def firmwareTakes (s : State) : Bool :=
  s.sys.fwReady && anyPup s && !s.svc.halted && (s.sys.phase == .run)

/-- One parameter written by the session of channel `n`: the status is kept for the row's reader. -/
def writeOne (n : Mb) (l : List Item) (s : State) : State :=
  if !firmwareTakes s then s
  else if sessionStatus s n ≠ St.OK then { s with deolo := { s.deolo with lastStatus := sessionStatus s n } }
  else
    let r := writeItems n l s
    let s := { r.2.2 with deolo := { r.2.2.deolo with lastStatus := r.1 } }
    if r.1 = St.OK then afterWrite l s else s

/-- One parameter read by the session of channel `n`. -/
def readOne (n : Mb) (id : Nat) (s : State) : State :=
  if !firmwareTakes s then s
  else if sessionStatus s n ≠ St.OK then { s with deolo := { s.deolo with lastStatus := sessionStatus s n } }
  else
    let r := readParam n id s
    { r.2 with deolo := { r.2.deolo with lastStatus := St.OK, lastRead := r.1 } }

end Sys2Proof.Machine
end

