-- ==== Sys2Proof/Machine/ParamCmds.lean ====
section
/-! DEFINITION. The commands that are writes and reads of single parameters: each is a one-item PARAM_WRITE or PARAM_READ of the
session on its mailbox channel, through the checks of R118 and R120. -/

namespace Sys2Proof.Machine

/-- SFK_COMMIT: a write of SFK.COMMIT (R263). -/
def execSfkCommit (n : Mb) (v : Int) (s : State) : Host.Outcome State Fault Refusal :=
  .next (writeOne n [itemOf Prm.SFK_COMMIT v] s)

/-- SFK_DRILL: a write of SFK.DRILL (Table 9.9, cause 5 of Table 9.2). -/
def execSfkDrill (n : Mb) (v : Int) (s : State) : Host.Outcome State Fault Refusal :=
  .next (writeOne n [itemOf Prm.SFK_DRILL v] s)

/-- CNV_START: a write of CNV.START (R308). -/
def execCnvStart (n : Mb) (v : Int) (s : State) : Host.Outcome State Fault Refusal :=
  .next (writeOne n [itemOf Prm.CNV_START v] s)

/-- CNV_URGENT: a write of CNV.URGENT (R310). -/
def execCnvUrgent (n : Mb) (v : Int) (s : State) : Host.Outcome State Fault Refusal :=
  .next (writeOne n [itemOf Prm.CNV_URGENT v] s)

/-- CAL_ZERO: a write of 1 to CNV.CAL_CMD (R318). -/
def execCalZero (n : Mb) (s : State) : Host.Outcome State Fault Refusal :=
  .next (writeOne n [itemOf Prm.CNV_CAL_CMD 1] s)

/-- CAL_FULL: a write of 2 to CNV.CAL_CMD (R318). -/
def execCalFull (n : Mb) (s : State) : Host.Outcome State Fault Refusal :=
  .next (writeOne n [itemOf Prm.CNV_CAL_CMD 2] s)

/-- CAL_COMPUTE: a write of 3 to CNV.CAL_CMD (R319). -/
def execCalCompute (n : Mb) (s : State) : Host.Outcome State Fault Refusal :=
  .next (writeOne n [itemOf Prm.CNV_CAL_CMD 3] s)

/-- CAL_NOMINAL: a write of 4 to CNV.CAL_CMD (R318, R320). -/
def execCalNominal (n : Mb) (s : State) : Host.Outcome State Fault Refusal :=
  .next (writeOne n [itemOf Prm.CNV_CAL_CMD 4] s)

/-- CAL_ABANDON: a write of 5 to CNV.CAL_CMD (R318). -/
def execCalAbandon (n : Mb) (s : State) : Host.Outcome State Fault Refusal :=
  .next (writeOne n [itemOf Prm.CNV_CAL_CMD 5] s)

/-- CAL_DIRECT_WRITE: one PARAM_WRITE of CNV.CAL_OFS and CNV.CAL_GAIN (R320). -/
def execCalDirectWrite (n : Mb) (ofs gain : Int) (s : State) : Host.Outcome State Fault Refusal :=
  .next (writeOne n [itemOf Prm.CNV_CAL_OFS ofs, itemOf Prm.CNV_CAL_GAIN gain] s)

/-- ACC_CLEAR: a write of ACC.CLEAR (R336). -/
def execAccClear (n : Mb) (v : Int) (s : State) : Host.Outcome State Fault Refusal :=
  .next (writeOne n [itemOf Prm.ACC_CLEAR v] s)

/-- TRK_FREEZE: a write of ACC.TRK_FREEZE (R332). -/
def execTrkFreeze (n : Mb) (v : Int) (s : State) : Host.Outcome State Fault Refusal :=
  .next (writeOne n [itemOf Prm.ACC_TRK_FREEZE v] s)

/-- TRK_RELEASE: a write of ACC.TRK_REL (R332). -/
def execTrkRelease (n : Mb) (v : Int) (s : State) : Host.Outcome State Fault Refusal :=
  .next (writeOne n [itemOf Prm.ACC_TRK_REL v] s)

/-- TMR_CTRL_START: START in TMR.CTRLk (R381). -/
def execTmrCtrlStart (n : Mb) (k : Tmr) (s : State) : Host.Outcome State Fault Refusal :=
  .next (writeOne n [itemOf (tmrId k Tmrp.CTRL) 1] s)

/-- TMR_CTRL_STOP: STOP in TMR.CTRLk (R381). -/
def execTmrCtrlStop (n : Mb) (k : Tmr) (s : State) : Host.Outcome State Fault Refusal :=
  .next (writeOne n [itemOf (tmrId k Tmrp.CTRL) 2] s)

/-- TMR_CTRL_RESET: RESET in TMR.CTRLk (R381). -/
def execTmrCtrlReset (n : Mb) (k : Tmr) (s : State) : Host.Outcome State Fault Refusal :=
  .next (writeOne n [itemOf (tmrId k Tmrp.CTRL) 4] s)

/-- TMR_CFG_WRITE: a write of TMR.CFGk (R376). -/
def execTmrCfgWrite (n : Mb) (k : Tmr) (v : Int) (s : State) : Host.Outcome State Fault Refusal :=
  .next (writeOne n [itemOf (tmrId k Tmrp.CFG) v] s)

/-- TMR_PERIOD_WRITE: a write of TMR.PERIODk (R375). -/
def execTmrPeriodWrite (n : Mb) (k : Tmr) (v : Int) (s : State) : Host.Outcome State Fault Refusal :=
  .next (writeOne n [itemOf (tmrId k Tmrp.PERIOD) v] s)

/-- TMR_CMP_WRITE: a write of TMR.CMPk (R378). -/
def execTmrCmpWrite (n : Mb) (k : Tmr) (v : Int) (s : State) : Host.Outcome State Fault Refusal :=
  .next (writeOne n [itemOf (tmrId k Tmrp.CMP) v] s)

/-- TMR_CNT_WRITE: a write of TMR.CNTk (R373, R374). -/
def execTmrCntWrite (n : Mb) (k : Tmr) (v : Int) (s : State) : Host.Outcome State Fault Refusal :=
  .next (writeOne n [itemOf (tmrId k Tmrp.CNT) v] s)

/-- TMR_CAPCFG_WRITE: a write of TMR.CAPCFGk (R386). -/
def execTmrCapcfgWrite (n : Mb) (k : Tmr) (v : Int) (s : State) : Host.Outcome State Fault Refusal :=
  .next (writeOne n [itemOf (tmrId k Tmrp.CAPCFG) v] s)

/-- TMR_CAP_READ: a read of TMR.CAPk (R384). -/
def execTmrCapRead (n : Mb) (k : Tmr) (s : State) : Host.Outcome State Fault Refusal :=
  .next (readOne n (tmrId k Tmrp.CAP) s)

/-- TMR_CNT_LOW_READ: a read of TMR.CNTk, which latches the high half of a pair (R388). -/
def execTmrCntLowRead (n : Mb) (k : Tmr) (s : State) : Host.Outcome State Fault Refusal :=
  .next (readOne n (tmrId k Tmrp.CNT) s)

/-- KT_VALUE_WRITE: a write of TMR.KTn_VALUE (R394). -/
def execKtValueWrite (n : Mb) (k : Fin 4) (v : Int) (s : State) : Host.Outcome State Fault Refusal :=
  .next (writeOne n [itemOf (ktId k Ktp.VALUE) v] s)

/-- FL_STUCK_MS_WRITE: a write of TMR.FLn_STUCK_MS (R395). -/
def execFlStuckMsWrite (n : Mb) (l : Line) (v : Int) (s : State) : Host.Outcome State Fault Refusal :=
  .next (writeOne n [itemOf (Prm.TMR_FL0_STUCK_MS + l.val) v] s)

/-- UPD_TAKEOVER: a write of UPD.TAKEOVER (R528). -/
def execUpdTakeover (n : Mb) (v : Int) (s : State) : Host.Outcome State Fault Refusal :=
  .next (writeOne n [itemOf Prm.UPD_TAKEOVER v] s)

/-- UPD_CONFIRM: a write of UPD.CONFIRM (R531). -/
def execUpdConfirm (n : Mb) (v : Int) (s : State) : Host.Outcome State Fault Refusal :=
  .next (writeOne n [itemOf Prm.UPD_CONFIRM v] s)

/-- UPD_ROLLBACK: a write of UPD.ROLLBACK (R532). -/
def execUpdRollback (n : Mb) (v : Int) (s : State) : Host.Outcome State Fault Refusal :=
  .next (writeOne n [itemOf Prm.UPD_ROLLBACK v] s)

/-- MET_AUDIT_SEL: a write of MET.AUDIT_SEL (Table 13.9). -/
def execMetAuditSel (n : Mb) (v : Int) (s : State) : Host.Outcome State Fault Refusal :=
  .next (writeOne n [itemOf Prm.MET_AUDIT_SEL v] s)

/-- LOG_CURSOR_WRITE: a write of LOG.CURSOR (R505). -/
def execLogCursorWrite (n : Mb) (v : Int) (s : State) : Host.Outcome State Fault Refusal :=
  .next (writeOne n [itemOf Prm.LOG_CURSOR v] s)

/-- LOG_STATE_READ: a read of LOG.STATE clears FULL (R510). -/
def execLogStateRead (n : Mb) (s : State) : Host.Outcome State Fault Refusal :=
  .next (readOne n Prm.LOG_STATE s)

end Sys2Proof.Machine
end

