-- ==== Sys2Proof/Machine/Timers.lean ====
section
/-! DEFINITION. The events of the general timers, the keeping timers and the field lines (chapters 14 and 17). -/

namespace Sys2Proof.Machine

/-! ### Time -/

/-- Time passes up to a clock, and the field lines follow the seconds of OPTIME. -/
def passTo (t : Nat) (s : State) : State := settleLines (elapseTo t s)

/-- A step with nothing commanded: one output of the spinning-top divider passes. -/
def idleStep (s : State) : State := settleLines (idle s)

/-! ### Events of a general timer (R373, R374, R377) -/

/-- The MATCH of a timer that falls `m` counts after its base. -/
def matchAt (k : Tmr) (m : Nat) (s : State) : State :=
  let at_ := tDue s k m
  doMatch k at_ (passTo at_ s)

/-- A MATCH of the timer that falls within the next `n` counts occurs. -/
def matchWithin (k : Tmr) (n : Nat) (s : State) : State :=
  match toMatch s k with
  | some m => if m ≤ n then matchAt k m s else s
  | none => s

/-- The counts from the base to TOP, while an UP-DOWN timer counts up. -/
def toTop (s : State) (k : Tmr) : Option Nat :=
  let x := s.tmr1 k
  if tUpDown x && !x.down && decide (x.cnt ≤ x.period) then some (x.period - x.cnt) else none

/-- TOP: the count is PERIOD, held compare values take effect, and the timer counts down. -/
def topAt (k : Tmr) (n : Nat) (s : State) : State :=
  let at_ := tDue s k n
  let s := passTo at_ s
  let s := takeNexts false k (modTmr k (fun x => { x with cnt := x.period, base := at_, down := true, acts := [] }) s)
  modTmr k (fun x => { x with out := decide (x.cnt < x.cmp) }) s

/-- What the lap holds before its end: the MATCH and the TOP still due. -/
def lapTo (k : Tmr) (s : State) : State :=
  match toTop s k with
  | some _ =>
    let s := matchWithin k ((toTop s k).getD 0) s
    topAt k ((toTop s k).getD 0) s
  | none => matchWithin k (toOvf s k - 1) s

/-- TMR_OVF: the count of a running timer becomes 0 from PERIOD, or 0 counting down (R373, R374, R377). -/
def execTmrOvf (k : Tmr) (s : State) : Host.Outcome State Fault Refusal :=
  if !tRuns s k then .next s
  else
    let s := lapTo k s
    let at_ := tDue s k (toOvf s k)
    .next (doOvf k at_ (passTo at_ s))

/-- TMR_TOP: the count of an UP-DOWN timer becomes PERIOD (R374). -/
def execTmrTop (k : Tmr) (s : State) : Host.Outcome State Fault Refusal :=
  if !tRuns s k || (toTop s k).isNone then .next s else .next (lapTo k s)

/-- TMR_MATCH: the count becomes CMP (R377), with its action. -/
def execTmrMatch (k : Tmr) (s : State) : Host.Outcome State Fault Refusal :=
  if !tRuns s k then .next s
  else
    match toMatch s k with
    | some m => .next (matchAt k m s)
    | none => .next s

/-! ### The capture path and the start source (R382 to R386) -/

/-- Both halves of a pair, or the timer alone, take the count into the capture register. -/
def takeCapture (k : Tmr) (s : State) : State :=
  let v := tCount s k
  let s := if tPaired s k then modTmr (tMate k) (fun x => { x with cap := v / 2 ^ 32 }) s else s
  modTmr k (fun x => { x with cap := v % 2 ^ 32, new := true, ovr := x.ovr || x.new }) s

/-- TMR_CAPTURE: a kept edge leaves the prescaler of the capture path (R382, R383); with CLK = 3 it is counted as well. -/
def execTmrCapture (k : Tmr) (s : State) : Host.Outcome State Fault Refusal :=
  let c := capCfg s k
  if !capLive s k || fieldOf c 24 2 == 0 || !noteEdge s (fieldOf c 26 6) (fieldOf c 24 2) then .next s
  else
    let s := takeCapture k s
    .next (if tClk (s.tmr1 k) = 3 then edgeCount k s else s)

/-- TMR_REJECT: a level on the capture path did not hold for CAP_FILT converter clocks (R385). -/
def execTmrReject (k : Tmr) (s : State) : Host.Outcome State Fault Refusal :=
  if !capLive s k then .next s
  else .next (modTmr k (fun x => { x with rej := sat8 (x.rej + 1), ovspd := true }) s)

/-- TMR_START_EDGE: an edge of the start source that START_EDGE keeps acts as a START (R386). -/
def execTmrStartEdge (k : Tmr) (s : State) : Host.Outcome State Fault Refusal :=
  let c := capCfg s k
  if !capLive s k || fieldOf c 0 2 == 0 || !noteEdge s (fieldOf c 2 6) (fieldOf c 0 2) then .next s
  else .next (tOperate false 2 k s)

/-! ### Keeping timers (R393) -/

/-- KT_ALARM: a keeping timer has reached its alarm. -/
def execKtAlarm (k : Fin 4) (s : State) : Host.Outcome State Fault Refusal :=
  let enabled := (pn s (ktId k Ktp.CFG)).testBit 4
  let reached : Bool := decide (pget s (ktId k Ktp.ALARM) ≤ (s.tmr.kt.get k : Int))
  if !enabled || !reached || s.tmr.ktDue.get k || s.sys.mode == .dormant then .next s
  else
    let t := { s.tmr with ktStat := s.tmr.ktStat ||| 2 ^ k.val, ktDue := vput s.tmr.ktDue k true }
    .next (logEvent Evt.KT_ALARM 1 objNone [k.val] { s with tmr := t })

/-! ### Field lines (R395, R396, R465 to R469) -/

/-- The main domain samples the field lines. -/
def linesLive (s : State) : Bool := s.cnv.on && s.sys.mode != .dormant

/-- FILT of an input (Table 17.12). -/
def flFilt (s : State) (l : Line) : Nat := flCfg s l % 2 ^ 16

/-- FL_LEVEL_CHANGE: a new level of an input has held for `level.held` consecutive samples; one that has held for FILT passes the filter,
and the line's function follows (Table 17.7, R395, R466). -/
def execFlLevelChange (l : Line) (level : HeldLevel) (s : State) : Host.Outcome State Fault Refusal :=
  if (s.fl.get l).level = level.high || decide (level.held < flFilt s l) then .next s
  else
    let was := flActive s l
    let s0 := s
    let s := { s with fl := vmod s.fl l fun f => { f with level := level.high } }
    if !linesLive s || flIsOut s l then .next s
    else
      let since := if flRaw s l then some s.clock else none
      let s := { s with fl := vmod s.fl l fun f => { f with since := since } }
      let s := if (s.fl.get l).stuck then (if flRaw s l then s else endStuck l s) else lineEdge l was s
      .next (reportCh s0 (driveOutputs s))

/-- FL_STUCK: an input has read active for TMR.FLn_STUCK_MS without a break (R395). -/
def execFlStuck (l : Line) (s : State) : Host.Outcome State Fault Refusal :=
  match (s.fl.get l).since with
  | none => .next s
  | some t =>
    if !linesLive s || !flRaw s l || (s.fl.get l).stuck || stuckClocks s l == 0 then .next s
    else
      let s := passTo (t + stuckClocks s l) s
      .next (reportCh s (driveOutputs (declareStuck l s)))

/-- FL_REJECT: a pulse on an input that `pulse.seen` samples saw; one that some sample saw and that is shorter than the filter is rejected
(R396). -/
def execFlReject (pulse : LinePulse) (s : State) : Host.Outcome State Fault Refusal :=
  let l := pulse.line
  if !linesLive s || flIsOut s l || decide (pulse.seen = 0 ∨ flFilt s l ≤ pulse.seen) then .next s
  else
    let s := settleLines s
    .next { s with fl := vmod s.fl l fun f => { f with rej := min 0xFFFF (f.rej + 1), rejSec := f.rejSec + 1 } }

/-- FL_OUTPUT_LIMIT: an output has been in current limit for 5 ms and turns off for 100 ms (R555). -/
def execFlOutputLimit (l : Line) (s : State) : Host.Outcome State Fault Refusal :=
  let f := s.fl.get l
  if flIsOut s l && f.out && !f.limited then
    .next { s with fl := vput s.fl l { f with limited := true, limitAt := s.clock } }
  else .next s

/-- FL_OUTPUT_RESUME: the 100 ms have passed, and the output conducts again for as long as its function asks it to (R555). -/
def execFlOutputResume (l : Line) (s : State) : Host.Outcome State Fault Refusal :=
  if (s.fl.get l).limited then
    let s := passTo ((s.fl.get l).limitAt + 100 * clkMs) s
    .next { s with fl := vmod s.fl l fun f => { f with limited := false } }
  else .next s

end Sys2Proof.Machine
end

