-- ==== Sys2Proof/Machine/Conversion.lean ====
section
/-! DEFINITION. The events of conversion, of the calibration procedure and of the tracker banks (chapters 11 and 12). -/

namespace Sys2Proof.Machine

/-! ### Triggers (R309) -/

/-- CNV.TRIGAk, or CNV.TRIGBk. -/
def trigCfg (s : State) (k : Grp) (second : Bool) : Nat := pn s (Prm.CNV_TRIGA0 + 2 * k.val + b2n second)

/-- The counting delay of a trigger: its entry, and the clock at which it ends. -/
def putDelay (k : Grp) (second : Bool) (e : Option (Fin 32 × Nat)) (s : State) : State :=
  modSeq k (fun q => if second then { q with delayB := e } else { q with delayA := e }) s

/-- The level of a trigger's source: the compare output of a timer, or the command of a gate, high while it does not pull
down (Table 11.6). -/
def trigLevel (s : State) (src : Nat) : Bool :=
  if h : src < 16 then tOut s ⟨src, h⟩
  else if h : src < 40 then !(s.chan ⟨src - 16, by omega⟩).gateA.isLow
  else if h : src < 64 then !(s.chan ⟨src - 40, by omega⟩).gateB.isLow
  else false

/-- CNV_TRIGGER: an edge of the gate or timer that a trigger names; the source stands at the level the edge has led to. The
start request follows by DELAY converter clocks of 25 ns. -/
def execCnvTrigger (k : Grp) (second rising : Bool) (s : State) : Host.Outcome State Fault Refusal :=
  let c := trigCfg s k second
  let kept := if rising then c.testBit 30 else c.testBit 31
  let e : Fin 32 := ⟨fieldOf c 16 5 % 32, by omega⟩
  if !s.cnv.on || !kept || trigLevel s (fieldOf c 24 6) != rising then .next s
  else if fieldOf c 0 16 = 0 then .next (requestStart k e (putDelay k second none s))
  else .next (putDelay k second (some (e, s.clock + fieldOf c 0 16 * 10)) s)

/-- CNV_TRIGGER_DELAY_END: the delay of a trigger has run, and its start request is made. -/
def execCnvTriggerDelayEnd (k : Grp) (second : Bool) (s : State) : Host.Outcome State Fault Refusal :=
  let q := s.cnv.seq.get k
  match if second then q.delayB else q.delayA with
  | none => .next s
  | some (e, t) => .next (requestStart k e (putDelay k second none (passTo t s)))

/-! ### Samples, windows, urgent capture, low power (R310 to R317, R323) -/

/-- URGENT_SEQUENCE_END: the urgent sequence of a converter has run to its end; a held request runs, or the interrupted entry
resumes (R311). -/
def execUrgentSequenceEnd (k : Grp) (s : State) : Host.Outcome State Fault Refusal :=
  if (s.cnv.seq.get k).urgent && (s.cnv.seq.get k).run.isNone then .next (modSeq k (endUrgent (urgentEntry s k)) s) else .next s

/-- FILTER_WINDOW_END: the next window of an entry's filter ends, at its instant of the cycle (R314, R315). -/
def execFilterWindowEnd (k : Grp) (e : Fin 32) (s : State) : Host.Outcome State Fault Refusal :=
  if s.cnv.on && !seqHalted s then .next (windowEnd k e (passTo (windowDue s k e) s)) else .next s

/-- SEQUENCER_RESULT: the running entry of a converter takes a sample (R307, R315, R323, R326, R329). -/
def execSequencerResult (k : Grp) (code : Int) (s : State) : Host.Outcome State Fault Refusal :=
  if s.cnv.on then .next (takeSample k code s) else .next s

/-- LP_ENTRY: the group of a converter named in CNV.LP_MAP has had both gates low for a whole cycle (R316, R317). -/
def execLpEntry (k : Grp) (s : State) : Host.Outcome State Fault Refusal :=
  let named := k.val != 0 && (pn s Prm.CNV_LP_MAP).testBit k.val
  if s.cnv.on && named && groupLow s k && (s.cnv.seq.get k).lowWhole && !(s.cnv.seq.get k).urgent then .next (modSeq k (fun q => { q with lp := true }) s)
  else .next s

/-! ### Calibration (R318, R320) -/

/-- CAL_CAPTURE_END: a zero or full-scale capture has run its CNV.CAL_CYCLES whole cycles. -/
def execCalCaptureEnd (cap : CaptureIn) (s : State) : Host.Outcome State Fault Refusal :=
  let k := s.cnv.cal
  if (k.step ≠ 1 ∧ k.step ≠ 3) ∨ k.left ≠ 0 then .next s
  else if 1024 < cap.largest - cap.smallest then .next (calFail 3 s)
  else if k.step = 1 then .next (modCal (fun x => { x with step := 2, zero := some (x.input, x.applied, cap.mean) }) s)
  else .next (modCal (fun x => { x with step := 4, full := some (x.input, x.applied, cap.mean) }) s)

/-- The WEAR record of a reset is in force, and its frame is answered; a write that failed twice leaves the record as it was
(R536). -/
def wearStored (p : Pending) (ok : Bool) (s : State) : State :=
  match s.svc.wear with
  | none => s
  | some (seq, c) =>
    if p.rtype = RT.WEAR ∧ p.inst = c.val then
      let t := { s with svc := { s.svc with wear := none } }
      if s.svc.en then svcReply 0x50 seq (if ok then St.OK else St.REFUSED) [] t else t
    else s

/-- A record's write ends; that of the coefficients of a calibration ends the procedure's storing (R320), that of a wear
reset answers its frame. -/
def finishWrite (p : Pending) (mismatches : Nat) (s : State) : State :=
  let mine := p.rtype == RT.CAL && !p.toJournal && s.cnv.cal.storing.map (fun x => x.1) == some p.inst
  let s := runWrite p mismatches s
  let s := if mine then calStoreEnd (decide (mismatches < 2)) s else s
  wearStored p (decide (mismatches < 2)) s

/-- CAL_STORED: the write of the coefficient record has completed, or has failed. -/
def execCalStored (ok : Bool) (s : State) : Host.Outcome State Fault Refusal :=
  match s.cnv.cal.storing with
  | none => .next s
  | some (code, _) =>
    match s.nvs.queue.find? (fun p => p.rtype == RT.CAL && p.inst == code) with
    | none => .next s
    | some p => .next (finishWrite p (if ok then 0 else 2) s)

/-! ### Trackers (R331) -/

/-- TRACKER_FREEZE: the run-on of POST_US after the event ends, and the bank freezes. -/
def execTrackerFreeze (b : Fin 12) (s : State) : Host.Outcome State Fault Refusal :=
  let x := s.acc.bank.get b
  if x.post then
    let s := passTo x.until_ s
    .next { s with acc := { s.acc with bank := vput s.acc.bank b { x with frozen := true, post := false } } }
  else .next s

end Sys2Proof.Machine
end

