-- ==== Sys2Proof/Machine/Deolo.lean ====
section
/-! DEFINITION. How the firmware consumes a command from an inbound queue, and the commands on sessions and parameters
(R92 to R121). -/

namespace Sys2Proof.Machine

/-! ### A command in hand -/

/-- A command that the firmware has consumed: its tag-table number, mailbox channel, tag and body, and whether its tag lies
in the range of its session's version (R105). -/
structure Cmd where
  id : Nat
  chan : Mb
  tag : Nat
  tagOk : Bool
  body : List Word
  deriving DecidableEq, Repr

/-- A word of the body. -/
def Cmd.w (c : Cmd) (k : Nat) : Word := c.body.getD k 0

/-- The body has the length of its row, and the tag lies in range. -/
def Cmd.lenOk (c : Cmd) (n : Nat) : Bool := c.body.length == n && c.tagOk

/-- The words of an inbound queue that the firmware may take: those offered, and in a damaged queue only those in front of
the damaged slot (R91, R93). -/
def takeable (q : InQ) : Nat := if q.damaged then min q.offered q.sound else q.offered

/-- The whole message at the head of an inbound queue: its header and its body (R92). -/
def headMsg (s : State) (n : Mb) : Option (Word × List Word) :=
  let q := s.inq.get n
  match q.words with
  | [] => none
  | h :: t => if h.field 10 5 + 1 ≤ takeable q then some (h, t.take (h.field 10 5)) else none

/-- The firmware consumes `k` words from the head of an inbound queue (R87). -/
def dequeue (n : Mb) (k : Nat) (s : State) : State :=
  { s with inq := vmod s.inq n fun q => { q with
    words := q.words.drop k, offered := q.offered - k, cons := (q.cons + k) % 64, sound := q.sound - k } }

/-- The in-flight limit of the profile in force (Table 4.3). -/
def inflightMax (s : State) : Nat := if s.sys.service then 64 else 512

/-- The session of a channel has version 1.x (R105). -/
def oldSession (s : State) (n : Mb) : Bool :=
  match session? s n with
  | some x => decide (x.ver < 0x0200)
  | none => false

/-- Whether the next command of a channel finds an entry of the tag table, and whether it is one held back for its channel
(R100). A 1.x session holds at most 16 entries of its own (R105). -/
def tagRoom (s : State) (n : Mb) : Option Bool :=
  let shared := (s.deolo.tags.filter fun e => !e.heldBack).length
  let own := (s.deolo.tags.filter fun e => e.heldBack && e.chan == n).length
  let since := ((session? s n).map Session.since).getD 0
  let mine := (s.deolo.tags.filter fun e => e.chan == n && decide (since ≤ e.id)).length
  if oldSession s n ∧ 16 ≤ mine then none
  else if shared < inflightMax s - 16 then some false
  else if 10 ≤ n.val ∧ n.val ≤ 13 ∧ own < 4 then some true
  else none

/-- The command enters the tag table under the next number. -/
def enterTag (n : Mb) (tag op : Nat) (held : Bool) (s : State) : State :=
  let e : TagEnt := { id := s.deolo.nextId, chan := n, tag := tag, op := op, heldBack := held, begun := false,
                      done := false, out := [], left := none }
  let tags := s.deolo.tags ++ [e]
  { s with deolo := { s.deolo with tags := tags, nextId := s.deolo.nextId + 1, peak := max s.deolo.peak tags.length } }

/-- The tag is in flight in the session of its channel (R99). -/
def tagInFlight (s : State) (n : Mb) (tag : Nat) : Bool :=
  match session? s n with
  | some x => s.deolo.tags.any fun e => e.chan == n && e.tag == tag && decide (x.since ≤ e.id)
  | none => false

/-- The version that defines an opcode (Table 4.6), none for one that no version defines. -/
def opSince (op : Nat) : Option Nat :=
  if [0x01, 0x02, 0x03, 0x04, 0x10, 0x11, 0x12, 0x20, 0x40].contains op then some 0x0100
  else if [0x05, 0x13, 0x41].contains op then some 0x0101
  else if op = 0x50 then some 0x0102
  else if [0x21, 0x22, 0x30, 0x60, 0x70].contains op then some 0x0200
  else if op = 0x23 then some 0x0201
  else if op = 0x06 then some 0x0203
  else none

/-- The opcode is defined in the version of the session of a channel; SESSION_OPEN needs no session. -/
def opDefined (s : State) (n : Mb) (op : Nat) : Bool :=
  op == 0x01 || match session? s n, opSince op with
    | some x, some v => decide (v ≤ x.ver)
    | _, _ => false

/-- What a command meets before its own checks: no session or no such opcode in its version (ST_VERSION), and a session
that waits for SESSION_AUTH (ST_AUTH) (R96, R103, R106, R118). -/
def sessionGate (s : State) (n : Mb) (op : Nat) : Option Nat :=
  if !opDefined s n op then some St.VERSION
  else if op = 0x01 ∨ op = 0x02 then none
  else match session? s n with
    | some x => if x.isOpen then none else some St.AUTH
    | none => some St.VERSION

/-- In RECOVERY the mailboxes answer every command with ST_MODE (Table 2.4). -/
def recoveryAnswers (s : State) : Bool := s.sys.mode == .recovery && s.sys.phase != .off

/-- The firmware takes the message at the head of inbound queue n when it is a command that `sel` names, and `act` carries
it out. DESIGN CHOICE (unsafe, log 85): while a SESSION_OPEN or SESSION_CLOSE of the channel waits for begun commands, the
messages behind it stay in the queue. -/
def runCmd (n : Mb) (sel : Nat → List Word → Bool) (act : Cmd → State → State) (s : State) : State :=
  match headMsg s n with
  | none => s
  | some (h, body) =>
    let op := h.field 24 8
    let tag := h.field 15 9
    if n = 15 ∨ h.field 8 2 ≠ 0 ∨ h.field 0 8 ≠ 0 ∨ !sel op body then s
    else if domainDown s n ∨ (s.deolo.sesDue.get n).isSome ∨ !(recoveryAnswers s || firmwareTakes s) then s
    else
      match tagRoom s n with
      | none => s
      | some held =>
        let dup := tagInFlight s n tag
        let id := s.deolo.nextId
        let c : Cmd := { id := id, chan := n, tag := tag, tagOk := !oldSession s n || decide (tag ≤ 63), body := body }
        let t := enterTag n tag op held (dequeue n (body.length + 1) s)
        if recoveryAnswers s then complete id St.MODE [] t
        else if dup then complete id St.BUSY [1] t
        else match sessionGate s n op with
          | some st => complete id st [] t
          | none => act c t

/-- A command of one opcode. -/
def runOp (n : Mb) (op : Nat) (act : Cmd → State → State) (s : State) : State := runCmd n (fun o _ => o == op) act s

/-! ### Sessions -/

/-- The defined versions, the highest first (Table 4.4). -/
def versions : List Nat := [0x0203, 0x0202, 0x0201, 0x0200, 0x0102, 0x0101, 0x0100]

/-- The version that SESSION_OPEN agrees on (R104). -/
def agreed (w : Word) : Option Nat := versions.find? fun v => decide (w.field 16 16 ≤ v ∧ v ≤ w.field 0 16)

/-- The session in-flight limit that SESSION_OPEN reports (Tables 4.3, 4.4). -/
def sessionLimit (s : State) (ver : Nat) : Nat := if ver < 0x0200 then 16 else inflightMax s

/-- SESSION_OPEN on a channel is refused with ST_AUTH: locked out, or a secure channel without a host key outside
COMMISSION (R107, R109). -/
def openRefused (s : State) (n : Mb) : Bool :=
  s.deolo.lockout.get n || (decide (10 ≤ n.val ∧ n.val ≤ 13) && !s.deolo.keySet && s.sys.mode != .commission)

/-- The 32 bytes of HIF.HOST_KEY0 to HIF.HOST_KEY7. -/
def hostKey (s : State) : List Nat :=
  wordsBytes ((List.range 8).map fun k => (pgetW s (Prm.HIF_HOST_KEY0 + k)).toNat)

/-- A SESSION_OPEN or SESSION_CLOSE ends what session its channel has and answers with `new` in its place, at once or when
the begun commands of the old session have completed (R103, Table 4.6). -/
def turnSession (c : Cmd) (new : Option Session) (body : List Word) (s : State) : State :=
  let old := (session? s c.chan).map fun x => { x with isOpen := false }
  let s := forEach (notBegun s c.chan) abortTag (putSes c.chan old s)
  settleSession c.chan { s with deolo := { s.deolo with
    sesDue := vput s.deolo.sesDue c.chan (some { id := c.id, new := new, body := body }) } }

/-- A new session opens (R104, R106 to R108, R112, R505). -/
def openSession (c : Cmd) (ver : Nat) (s : State) : State :=
  let n := c.chan
  let keyed := decide (10 ≤ n.val ∧ n.val ≤ 14)
  let r := if keyed then drawWords 4 s else ([], s)
  let sure := keyed && !s.deolo.keySet && s.sys.mode == .commission
  let x : Session := {
    ver := ver, secure := sure, nonce := if keyed then some r.1 else none
    isOpen := sure || decide (n.val < 10 ∨ n.val = 14), mask := 0xFFFF, ntf := 0, lost := 0, lostMap := 0
    heldMode := none, heldCh := none, cursor := s.log.watermark, since := c.id
    key := if s.deolo.keySet then some (hostKey s) else none }
  let body := [wd (ver * 2 ^ 16 + b2n s.sys.service), wd (sessionLimit s ver * 2 ^ 16)] ++ r.1
  turnSession c (some x) body r.2

/-- What a SESSION_OPEN fails with, in the order of R118: no common version, ST_AUTH, a wrong length or tag. -/
def openFault (c : Cmd) (s : State) : Option Nat :=
  if c.body ≠ [] ∧ agreed (c.w 0) = none then some St.VERSION
  else if openRefused s c.chan then some St.AUTH
  else if !c.lenOk 1 then some St.RANGE
  else none

/-- SESSION_OPEN. One with a wrong length or tag changes nothing (R105, R114); any other first ends the session that the
channel has (R103). -/
def sessionOpenOp (c : Cmd) (s : State) : State :=
  let s := begin_ c.id s
  let t := if c.lenOk 1 ∧ (session? s c.chan).isSome then notifyTo Opc.NTF_SESSION_END [wd 2] c.chan s else s
  match openFault c s with
  | none => openSession c ((agreed (c.w 0)).getD 0) t
  | some st =>
    complete c.id st (if st = St.VERSION then [0x01000203] else []) (if c.lenOk 1 then closeSession c.chan t else t)

/-- SESSION_OPEN: opens a session at the highest common version (R104). -/
def execSessionOpen (n : Mb) (s : State) : Host.Outcome State Fault Refusal := .next (runOp n 0x01 sessionOpenOp s)

/-- The MAC of R106 under a key, over nonce, channel and version. -/
def authMac (key : List Nat) (n : Mb) (nonce : List Word) (ver : Nat) : List Nat :=
  hmacSha256 key (wordsBytes (nonce.map BitVec.toNat) ++ [n.val, ver / 2 ^ 8, ver % 2 ^ 8])

/-- A SESSION_AUTH that does not match, and equally a failed DBG_UNLOCK, counts; the third on one channel within 60 s locks
it out (R109, R534). -/
def countAuthFail (n : Mb) (s : State) : State :=
  let times := (s.deolo.authTimes.get n).filter (fun t => s.clock < t + 60 * clkS) ++ [s.clock]
  let s := { s with deolo := { s.deolo with authFails := sat32 (s.deolo.authFails + 1), authTimes := vput s.deolo.authTimes n times } }
  if 3 ≤ times.length then
    logEvent Evt.AUTH_LOCKOUT 2 objNone [n.val] { s with deolo := { s.deolo with lockout := vput s.deolo.lockout n true } }
  else s

/-- SESSION_AUTH, under the key that stood when the session was opened (Table 4.11). Without a host key there is nothing to
match, and the session stays (R107, R108). A MAC that does not match ends the session; on channel 14 it stood open, and it
gets NTF_SESSION_END reason 1 (log 83). -/
def sessionAuthOp (c : Cmd) (s : State) : State :=
  let n := c.chan
  match session? s n with
  | none => complete c.id St.VERSION [] s
  | some x =>
    match x.nonce with
    | none => complete c.id St.AUTH [] s
    | some nonce =>
      match x.key with
      | none => complete c.id St.AUTH [] s
      | some key =>
        if !c.lenOk 8 then complete c.id St.RANGE [] s
        else if wordsBytes (c.body.map BitVec.toNat) = authMac key n nonce x.ver then
          complete c.id St.OK [] (putSes n (some { x with secure := true, isOpen := true }) s)
        else endSession n 1 (complete c.id St.AUTH [] (countAuthFail n (begin_ c.id s)))

/-- SESSION_AUTH: checks the MAC, and makes the session secure or ends it (R106). -/
def execSessionAuth (n : Mb) (s : State) : Host.Outcome State Fault Refusal := .next (runOp n 0x02 sessionAuthOp s)

/-- AUTH_LOCKOUT_END: 60 s after the third failure SESSION_OPEN is judged again (R109). -/
def execAuthLockoutEnd (n : Mb) (s : State) : Host.Outcome State Fault Refusal :=
  if !s.deolo.lockout.get n then .next s
  else
    let last := (s.deolo.authTimes.get n).foldl max 0
    let t := passTo (last + 60 * clkS) s
    .next { t with deolo := { t.deolo with lockout := vput t.deolo.lockout n false, authTimes := vput t.deolo.authTimes n [] } }

/-- SESSION_CLOSE: the session ends after its commands in flight have completed (R103). -/
def sessionCloseOp (c : Cmd) (s : State) : State :=
  if !c.lenOk 0 then complete c.id St.RANGE [] s
  else turnSession c none [] (begin_ c.id s)

/-- SESSION_CLOSE (R103). -/
def execSessionClose (n : Mb) (s : State) : Host.Outcome State Fault Refusal := .next (runOp n 0x03 sessionCloseOp s)

/-- ECHO. -/
def echoOp (c : Cmd) (s : State) : State :=
  if c.tagOk then complete c.id St.OK c.body s else complete c.id St.RANGE [] s

/-- ECHO: the same words (Table 4.6). -/
def execEcho (n : Mb) (s : State) : Host.Outcome State Fault Refusal := .next (runOp n 0x04 echoOp s)

/-- An OP_START whose operation has begun and that CANCEL still ends: an inrush or a test pulse in hand (Table 6.4), a token
not yet used, a battery test (Table 16.7). None for any other command. -/
def cancelBegun (id : Nat) (s : State) : Option State :=
  match s.bat.test.bind TestRun.tag with
  | some t => if t = id then some (endTest 4 0 s) else cancelOp id s
  | none => cancelOp id s
where
  /-- The operation that answers the command, when it drives a channel. -/
  cancelOp (id : Nat) (s : State) : Option State :=
    match s.adm.grants.find? fun o => o.tag == some id with
    | none => none
    | some o =>
      match o.ch with
      | none => none
      | some ch =>
        if (s.chan ch).inr.isSome then some (openTo ch .opened (openGate s ch) s)
        else some (rejudge (withdrawOp o 5 s))

/-- CANCEL of a command in flight. -/
def cancelOp (c : Cmd) (s : State) : State :=
  let t := (c.w 0).field 0 9
  let since := match session? s c.chan with
    | some x => x.since
    | none => 0
  if !c.lenOk 1 then complete c.id St.RANGE [] s
  else
    match s.deolo.tags.find? fun e => e.chan == c.chan && e.tag == t && e.id != c.id && decide (since ≤ e.id) with
    | none => complete c.id St.RANGE [] s
    | some e =>
      if e.done then complete c.id St.BUSY [] s
      else if !e.begun then complete c.id St.OK [] (abortTag e.id s)
      else match cancelBegun e.id s with
        | some s' => complete c.id St.OK [] (reportCh s s')
        | none => complete c.id St.BUSY [] s

/-- CANCEL: aborts a command in flight, unless its effect has begun (Table 4.6). -/
def execCancel (n : Mb) (s : State) : Host.Outcome State Fault Refusal := .next (runOp n 0x05 cancelOp s)

/-- NTF_SUBSCRIBE. -/
def subscribeOp (c : Cmd) (s : State) : State :=
  if !c.lenOk 1 then complete c.id St.RANGE [] s
  else match session? s c.chan with
    | none => s
    | some x => complete c.id St.OK [wd x.mask] (putSes c.chan (some { x with mask := (c.w 0).field 0 16 }) s)

/-- NTF_SUBSCRIBE: sets the subscription mask and returns the previous one (R112). -/
def execNtfSubscribe (n : Mb) (s : State) : Host.Outcome State Fault Refusal := .next (runOp n 0x06 subscribeOp s)

/-! ### Parameters -/

/-- PARAM_READ. One that fails as a whole reads nothing (R116); an ID outside the dictionary ranks before its length, types
and tag (R118). -/
def paramReadOp (c : Cmd) (s : State) : State :=
  if !c.tagOk || !readBodyOk c.body || decide (31 < readSize c.body) then
    complete c.id (if c.body.all (fun d => (paramRow (d.field 16 16)).isSome) then St.RANGE else St.BAD_ID) [] s
  else
    let r := readItems c.chan c.body s
    complete c.id r.2.1 r.1 r.2.2

/-- PARAM_READ: reads the named parameters in one core cycle (R121). -/
def execParamRead (n : Mb) (s : State) : Host.Outcome State Fault Refusal := .next (runOp n 0x10 paramReadOp s)

/-- PARAM_WRITE. A body whose items cannot be told apart names none of them. -/
def paramWriteOp (c : Cmd) (s : State) : State :=
  match writeItemsOf c.body with
  | none => complete c.id St.RANGE [0xFFFF0000] s
  | some l =>
    if !c.tagOk then
      match writeFault s c.chan l with
      | some (st, id, k) => if st = St.RANGE then complete c.id st [0xFFFF0000] s else complete c.id st (failBody id k) s
      | none => complete c.id St.RANGE [0xFFFF0000] s
    else
      let r := writeItems c.chan l (begin_ c.id s)
      let s := complete c.id r.1 r.2.1 r.2.2
      if r.1 = St.OK then afterWrite l s else s

/-- PARAM_WRITE: checks all items whole and writes them in one core cycle, or writes none (R120). -/
def execParamWrite (n : Mb) (s : State) : Host.Outcome State Fault Refusal := .next (runOp n 0x11 paramWriteOp s)

/-- A limit as two words, the high one first. -/
def twoWords (v : Int) : List Word := [BitVec.ofInt 32 (v / 2 ^ 32), BitVec.ofInt 32 v]

/-- The seven words of PARAM_INFO (Table 4.7, R581). -/
def infoWords (id : Nat) (r : ParamRow) : List Word :=
  [wd (id * 2 ^ 16 + r.ty.code * 2 ^ 12 + r.acc.code * 2 ^ 8 + r.eff.code * 2 ^ 6 + bitAt r.sec 5 + bitAt r.comm 4),
    wd (r.unit * 2 ^ 16)] ++ twoWords r.lo ++ twoWords r.hi ++ [BitVec.ofInt 32 r.dflt]

/-- PARAM_INFO. -/
def paramInfoOp (c : Cmd) (s : State) : State :=
  if c.body.length ≠ 1 then complete c.id St.RANGE [] s
  else
    let id := (c.w 0).field 16 16
    match paramRow id with
    | none => complete c.id St.BAD_ID [] s
    | some r => if c.tagOk then complete c.id St.OK (infoWords id r) s else complete c.id St.RANGE [] s

/-- PARAM_INFO: type, access, effect, unit, limits and default of one parameter (R581). -/
def execParamInfo (n : Mb) (s : State) : Host.Outcome State Fault Refusal := .next (runOp n 0x12 paramInfoOp s)

/-- The IDs in use from a first one on, rising. -/
def idsFrom (first : Nat) : List Nat :=
  ((List.range (0x1700 - first)).map (first + ·)).filter fun id => (paramRow id).isSome

/-- IDs two to a word, the first in the high half. -/
def pairIds : List Nat → List Word
  | [] => []
  | [a] => [wd (a * 2 ^ 16)]
  | a :: b :: t => wd (a * 2 ^ 16 + b) :: pairIds t

/-- PARAM_LIST. -/
def paramListOp (c : Cmd) (s : State) : State :=
  if !c.lenOk 1 then complete c.id St.RANGE [] s
  else
    let ids := idsFrom ((c.w 0).field 16 16)
    let page := ids.take 60
    complete c.id St.OK (wd (((ids.drop 60).headD 0xFFFF) * 2 ^ 16 + page.length) :: pairIds page) s

/-- PARAM_LIST: the IDs in use from a first ID (Table 4.6). -/
def execParamList (n : Mb) (s : State) : Host.Outcome State Fault Refusal := .next (runOp n 0x13 paramListOp s)

/-! ### Commands that no row carries out -/

/-- UNDEFINED_OPCODE: the opcode is not defined in the session's version (R96). -/
def execUndefinedOpcode (n : Mb) (s : State) : Host.Outcome State Fault Refusal :=
  .next (runCmd n (fun op _ => !opDefined s n op) (fun c t => complete c.id St.VERSION [] t) s)

/-! ### What the firmware does about messages that are no commands -/

/-- OUTBOUND_PLACE: room has appeared in outbound queue n; NTF_LOST and the held notifications go first, then what waits in
the tag table (R97, R113). -/
def execOutboundPlace (n : Mb) (s : State) : Host.Outcome State Fault Refusal :=
  if !firmwareTakes s || domainDown s n then .next s else .next (flushOut n (ntfFlush n s))

/-- FRAGMENT_TIMEOUT: HIF.FRAG_TIMEOUT_MS after the first word of a message was offered its rest has not been: the words
offered are discarded, with NTF_INBOUND_LOST reason 3 (R92). The clock is carried to that moment. -/
def execFragmentTimeout (n : Mb) (s : State) : Host.Outcome State Fault Refusal :=
  let q := s.inq.get n
  if !firmwareTakes s || domainDown s n || decide (n = 15) then .next s
  else
    match q.words, q.fragAt with
    | h :: _, some at_ =>
      let k := takeable q
      if 0 < k ∧ k < h.field 10 5 + 1 then
        let t := passTo (at_ + pn s Prm.HIF_FRAG_TIMEOUT_MS * clkMs) s
        let t := { t with inq := vmod t.inq n fun q => { q with fragAt := none } }
        .next (inboundLost n 3 h (dequeue n k t))
      else .next s
    | _, _ => .next s

/-- The header and the number of words before the message that holds slot `k` of a queue, walking message by message;
`fuel` bounds the walk. -/
def messageAt : Nat → List Word → Nat → Nat → Option (Word × Nat)
  | 0, _, _, _ => none
  | _, [], _, _ => none
  | fuel + 1, h :: t, before, k =>
    let len := h.field 10 5
    if k ≤ before + len then some (h, before) else messageAt fuel (t.drop len) (before + len + 1) k

/-- INBOUND_COLLISION: the firmware finds the collision bit, and the message that holds the damaged slot goes, with every
word written after it (R93). DESIGN CHOICE (unsafe, log 81): the words discarded count as consumed in IN_CONS. -/
def execInboundCollision (n : Mb) (s : State) : Host.Outcome State Fault Refusal :=
  let q := s.inq.get n
  if !firmwareTakes s || domainDown s n || decide (n = 15) || !q.damaged || !s.link.collide.testBit n.val then .next s
  else
    match messageAt 64 q.words 0 q.sound with
    | none => .next { s with inq := vmod s.inq n fun q => { q with damaged := false, sound := 0 } }
    | some (h, before) =>
      let t := { s with inq := vmod s.inq n fun q => { q with
        words := q.words.take before, offered := min q.offered before, damaged := false, sound := 0, fragAt := none
        cons := (q.cons + (q.words.length - before)) % 64 } }
      .next (inboundLost n 1 h t)

/-- INBOUND_MALFORMED: a header of another class, or with a STATUS, is skipped with its words (R96). -/
def execInboundMalformed (n : Mb) (s : State) : Host.Outcome State Fault Refusal :=
  if !firmwareTakes s || domainDown s n || decide (n = 15) then .next s
  else
    match headMsg s n with
    | none => .next s
    | some (h, body) =>
      if h.field 8 2 = 0 ∧ h.field 0 8 = 0 then .next s
      else .next (inboundLost n 2 h (dequeue n (body.length + 1) s))

end Sys2Proof.Machine
end

