-- ==== Sys2Proof/Machine/HostModes.lean ====
section
/-! DEFINITION. The host's commands on modes, isolations and groups, and the writes of the safety sheet (Tables 2.2 and
4.6, R34 to R36, R58, R61, R212, R262, R584 to R586). -/

namespace Sys2Proof.Machine

/-- The status of a command that the present mode turns away: ST_BUSY in HANDOVER, ST_MODE elsewhere (R118). -/
def modeStatus (s : State) : Nat := if s.sys.mode == .handover then St.BUSY else St.MODE

/-! ### MODE_REQUEST -/

/-- The transition of Table 2.2 from the present mode to a code that a request may name. -/
def requestRow (s : State) (target : Nat) : Bool :=
  match s.sys.mode with
  | .commission => target == Mode.standby.code
  | .standby => [Mode.commission.code, Mode.online.code, Mode.bridge.code, Mode.dormant.code].contains target
  | .online => target == Mode.standby.code
  | .maintain => target == Mode.standby.code
  | .cutoff => target == Mode.dormant.code
  | _ => false

/-- The transition calls for a secure channel (Table 2.2, R110). -/
def requestSecure (s : State) (target : Nat) : Bool :=
  requestRow s target && (s.sys.mode == .commission || target == Mode.commission.code || target == Mode.standby.code)

/-- A channel of a role is present. -/
def rolePresent (s : State) (r : Role) : Bool := allCh.any fun c => roleOf s c == r && (s.chan c).present

/-- The latest written configuration passes the checks of R582. -/
def configOk (s : State) : Bool := configPasses s.pw

/-- The condition of the transition's row holds (Table 2.2), and no emergency line or debug access stands against it (R468,
R535); nor does an entry into DORMANT that waits for its writes, which the spec does not say (DESIGN CHOICE, log 79). -/
def requestHolds (s : State) (target : Nat) : Bool :=
  let low := target == Mode.standby.code || target == Mode.dormant.code
  let debugBars := s.svc.debug != 0 && target != Mode.commission.code && target != Mode.standby.code
  requestRow s target && !(fireOn s && low) && !debugBars && !s.sys.dormDue &&
    (if s.sys.mode == .commission then configOk s || storedValid s
     else if target = Mode.online.code then mainsLocked s && rolePresent s .source
     else if target = Mode.bridge.code then pb s Prm.SYS_BLACK_START && !s.mb.mains && rolePresent s .battery
     else if target = Mode.dormant.code then s.sys.mode == .cutoff || !(allCh.any fun c => conducts s c)
     else true)

/-- The host commits the configuration: every block is written (R479). -/
def commitConfig (s : State) : State :=
  let s := { s with sys := { s.sys with configValid := true }, nvs := { s.nvs with dirty := [] } }
  forEach allBlocks (fun b s => queueWrite RT.CONFIG b s) s

/-- Commissioning is abandoned: the stored values are the latest written ones again, and those of immediate effect stand at
once. -/
def abandonConfig (s : State) : State :=
  let s := loadVals { s with nvs := { s.nvs with dirty := [] } }
  forceAll .imm s

/-- A black start begins (R585). -/
def startBlack (s : State) : State :=
  let s := enterMode .bridge Cause.host s
  blackNext 24 { s with sys := { s.sys with blackStart := true, blackTried := [], blackClosed := false } }

/-- The transition is carried out. -/
def requestMode (target : Nat) (s : State) : State :=
  if s.sys.mode = .commission then
    enterMode .standby Cause.host (if configOk s then commitConfig s else abandonConfig s)
  else if target = Mode.standby.code then enterStandby none s
  else if target = Mode.commission.code then enterMode .commission Cause.host s
  else if target = Mode.online.code then enterMode .online Cause.host s
  else startBlack s

/-- The body of a MODE_REQUEST completion. -/
def modeBody (old new : Mode) : List Word := [wd (old.code * 16 + new.code)]

/-- MODE_REQUEST: a transition of Table 2.2 whose condition holds is made; into DORMANT it begins, and completes with the
entry (R61, R115). -/
def modeRequestOp (c : Cmd) (s : State) : State :=
  let m := s.sys.mode
  let target := (c.w 0).field 0 4
  let sized := c.body.length == 1
  if sized && requestSecure s target && !secureOn s c.chan then complete c.id St.AUTH (modeBody m m) s
  else if m = .handover then complete c.id St.BUSY (modeBody m m) s
  else if sized && !requestHolds s target then complete c.id St.MODE (modeBody m m) s
  else if !c.lenOk 1 then complete c.id St.RANGE (modeBody m m) s
  else if target = Mode.dormant.code then
    begin_ c.id { s with sys := { s.sys with dormDue := true, dormReq := some c.id } }
  else if m ≠ .commission ∧ target = Mode.standby.code ∧ standbyWaits s then
    reportCh s (enterStandby (some c.id) (begin_ c.id (openAll s)))
  else
    let t := requestMode target (begin_ c.id s)
    complete c.id St.OK (modeBody m t.sys.mode) (reportCh s t)

/-- A host request that changes the mode is judged after a loss of mains that has reached the firmware (R36). -/
def strobeFirst (f : Cmd → State → State) (c : Cmd) (s : State) : State := f c (takeStrobe s)

/-- MODE_REQUEST (R34). -/
def execModeRequest (n : Mb) (s : State) : Host.Outcome State Fault Refusal := .next (runOp n 0x20 (strobeFirst modeRequestOp) s)

/-! ### Isolation -/

/-- The bitmap word names groups. -/
def byGroups (w : Word) : Bool := w.bit 31

/-- The groups of a bitmap word, none where it names channels. -/
def isoGroups (w : Word) : List Grp := if byGroups w then grpNamed (w.field 0 4) else []

/-- The channels of a bitmap word, none where it names groups. -/
def isoChannels (w : Word) : List Ch := if byGroups w then [] else chNamed (chWord w)

/-- An isolation takes effect: the set, its record, the channels, and the mode (Table 2.2). -/
def isolateAll (w : Word) (s : State) : State :=
  let gs := isoGroups w
  let cs := (isoChannels w).filter fun c => (s.chan c).st != .disabled
  let s := { s with sys := { s.sys with
    isoCh := allCh.filter (fun c => s.sys.isoCh.contains c || cs.contains c)
    isoGrp := allGrp.filter fun g => s.sys.isoGrp.contains g || gs.contains g } }
  let s := forEach cs (isolateCh openGate) (forEach (grpChs gs) (isolateCh isoGate) s)
  isoMode (queueWrite RT.ISOLATION 0 s)

/-- The mode turns an ISOLATE away: it acts in ONLINE and MAINTAIN, groups not in FLOW, and not while a FIRE line is active
(R35, R58, R468, R586). -/
def isolateBarred (w : Word) (s : State) : Bool :=
  (s.sys.mode != .online && s.sys.mode != .maintain) || fireOn s || (byGroups w && !s.sys.service)

/-- ISOLATE. -/
def isolateOp (c : Cmd) (s : State) : State :=
  let w := c.w 0
  if isolateBarred w s then complete c.id (modeStatus s) [wd (chIso s)] s
  else if !c.lenOk 1 then complete c.id St.RANGE [wd (chIso s)] s
  else
    let t := reportCh s (isolateAll w (begin_ c.id s))
    complete c.id St.OK [wd (chIso t)] t

/-- ISOLATE (R35). -/
def execIsolate (n : Mb) (s : State) : Host.Outcome State Fault Refusal := .next (runOp n 0x21 (strobeFirst isolateOp) s)

/-- A channel whose last isolation has ended stands OPEN, with ATTEMPTS at 0 (R212, Table 5.7), or out of service (R42). -/
def restoreCh (c : Ch) (s : State) : State :=
  let st := if (s.chan c).oos then ChSt.oos else .opened
  let s := modCh c (fun x => { x with attempts := 0, yoyo := .idle }) s
  if reloads s c then putOff (.shut st (openGate s c)) c s
  else setProbe c (modCh c (fun x => { x with st := st }) s)

/-- Isolations end: the set, its record, the channels that are no longer isolated, what was written for them (R162), and the
mode. -/
def restoreAll (w : Word) (s : State) : State :=
  let gs := isoGroups w
  let cs := isoChannels w
  let s := { s with sys := { s.sys with
    isoCh := s.sys.isoCh.filter (fun c => !cs.contains c), isoGrp := s.sys.isoGrp.filter fun g => !gs.contains g } }
  let free := allCh.filter fun c =>
    ((s.chan c).st == .isolated || (s.chan c).todo.any fun a => match a with
      | .shut st _ => st == .isolated
      | _ => false) && !isolated s c
  let s := forceRestored free (forEach free restoreCh s)
  let s := isoMode (queueWrite RT.ISOLATION 0 s)
  forEach free autoFile s

/-- The mode turns a RESTORE away (R35, R586). -/
def restoreBarred (s : State) : Bool := !([Mode.online, .maintain, .standby, .commission].contains s.sys.mode)

/-- RESTORE. -/
def restoreOp (c : Cmd) (s : State) : State :=
  if restoreBarred s then complete c.id (modeStatus s) [wd (chIso s)] s
  else if !c.lenOk 1 then complete c.id St.RANGE [wd (chIso s)] s
  else
    let t := reportCh s (restoreAll (c.w 0) (begin_ c.id s))
    complete c.id St.OK [wd (chIso t)] t

/-- RESTORE (R212). -/
def execRestore (n : Mb) (s : State) : Host.Outcome State Fault Refusal := .next (runOp n 0x22 (strobeFirst restoreOp) s)

/-! ### Groups -/

/-- The groups of a GROUP_CTRL. -/
def ctrlGroups (c : Cmd) : List Grp := grpNamed ((c.w 0).field 0 4)

/-- A group is in the hands of a reload already. -/
def groupBusy (s : State) (g : Grp) : Bool :=
  (s.group g).reloading || s.svc.reloads.contains g || (s.group g).ctrl.isSome

/-- The groups named reload one at a time, and the command completes with the last (R46). -/
def reloadGroups (id : Nat) (gs : List Grp) (s : State) : State :=
  let s := forEach gs (fun g s => modGrp g (fun x => { x with ctrl := some id }) s) (begin_ id s)
  if allGrp.any fun g => (s.group g).reloading then { s with svc := { s.svc with reloads := s.svc.reloads ++ gs } }
  else beginReloads (s.svc.reloads ++ gs) s

/-- The self-test of groups (R42): those that fail it are out of service with their event record, the others are back in
service. -/
def testGroups (failed : Nat) (gs : List Grp) (s : State) : State :=
  forEach gs (fun g s =>
    let bad := failed.testBit g.val
    let s := modGrp g (fun x => { x with oos := bad }) s
    if bad then logEvent Evt.SELFTEST_FAIL 2 (objGrp g) [10] s else s) s

/-- GROUP_CTRL with the actions that a row stands for. -/
def groupCtrlOp (test : Option Nat) (c : Cmd) (s : State) : State :=
  let gs := ctrlGroups c
  let action := (c.w 0).field 28 4
  if s.sys.mode = .handover ∨ s.sys.mode = .safeKeep then complete c.id (modeStatus s) [0] s
  else if !c.lenOk 1 || !(action == 1 || action == 2) then complete c.id St.RANGE [0] s
  else if gs.any (groupBusy s) then complete c.id St.REFUSED [0] s
  else if gs.isEmpty then complete c.id St.OK [0] s
  else
    let s := match test with
      | some failed => testGroups failed gs s
      | none => s
    reloadGroups c.id gs s

/-- GROUP_CTRL_RELOAD: action 1, and every action that is not 2. -/
def execGroupCtrlReload (n : Mb) (s : State) : Host.Outcome State Fault Refusal :=
  .next (runCmd n (fun op b => op == 0x23 && (b.getD 0 0).field 28 4 != 2) (groupCtrlOp none) s)

/-- GROUP_CTRL_SELFTEST: action 2; `failed` is what the self-test finds, by group. -/
def execGroupCtrlSelftest (n : Mb) (failed : Nat) (s : State) : Host.Outcome State Fault Refusal :=
  .next (runCmd n (fun op b => op == 0x23 && (b.getD 0 0).field 28 4 == 2) (groupCtrlOp (some failed)) s)

/-! ### The safety sheet -/

/-- SFK_WRITE: a unit is staged, in COMMISSION over a secure session (R110, R262). -/
def sfkWriteOp (c : Cmd) (s : State) : State :=
  let unit := (c.w 0).field 16 16
  if !secureOn s c.chan then complete c.id St.AUTH [] s
  else if s.sys.mode ≠ .commission then complete c.id (modeStatus s) [] s
  else if h : unit < 3 ∧ c.lenOk 31 then
    complete c.id St.OK [] { s with tin := { s.tin with staged := s.tin.staged.set unit (some (c.body.drop 1)) h.1 } }
  else complete c.id St.RANGE [] s

/-- SFK_WRITE (R262). -/
def execSfkWrite (n : Mb) (s : State) : Host.Outcome State Fault Refusal := .next (runOp n 0x70 sfkWriteOp s)

end Sys2Proof.Machine
end

