-- ==== Sys2Proof/Machine/ChCtrl.lean ====
section
/-! DEFINITION. CH_CTRL and OP_START (R101, R157 to R160, R172, R214, R290, R406, R407, R437, Tables 5.8 and 15.2), and the
end of a group's reload, which lets held actions act. -/

namespace Sys2Proof.Machine

/-! ### The command (R157, R158) -/

/-- The action of a channel is held: for its angle (R290), or while its group reloads (R31). -/
def ctrlHolds (s : State) (act : Nat) (c : Ch) : Bool :=
  (decide (act = Act.OPEN ∨ act = Act.CLOSE) && (pn s Prm.DRM_SWITCH_SYNC).testBit c.val)
    || (s.group (groupOf c)).reloading

/-- A named channel: refused, held, or acted on. -/
def ctrlNamed (id act : Nat) (c : Ch) (p : SwRun × State) : SwRun × State :=
  let s := p.2
  if (ctrlJudge s act c).isNone && ctrlHolds s act c then
    let synced := decide (act = Act.OPEN ∨ act = Act.CLOSE) && (pn s Prm.DRM_SWITCH_SYNC).testBit c.val
    let h : HeldSw := { ch := c, act := act, due := !synced, tag := id }
    (p.1, { s with mb := { s.mb with held := s.mb.held ++ [h] } })
  else ctrlOne act c p

/-- The channels whose state changed are looked at again under R171, and the change is reported. -/
def afterCtrl (old s : State) : State :=
  let moved := allCh.filter fun c => (old.chan c).st != (s.chan c).st
  reportCh old (forEach moved autoFile s)

/-- A CH_CTRL OPEN of a SAFETY channel needs secure access (R159). -/
def ctrlSecure (s : State) (act : Nat) (cs : List Ch) : Bool := act == Act.OPEN && cs.any fun c => classEff s c == 0

/-- CH_CTRL of one action. -/
def chCtrlOp (act : Nat) (c : Cmd) (s : State) : State :=
  let cs := chNamed (chWord (c.w 0))
  if ctrlSecure s act cs && !secureOn s c.chan then complete c.id St.AUTH [0] s
  else if !ctrlModes act s.sys.mode then complete c.id (modeStatus s) [0] s
  else if cs.any (isolated s) then complete c.id St.DOMAIN_DOWN [0] s
  else if !c.lenOk 1 then complete c.id St.RANGE [0] s
  else
    let r := cs.foldl (fun p ch => ctrlNamed c.id act ch p) ({ tag := c.id, done := 0, bad := none, rising := [] }, s)
    settleRun r.1 (afterCtrl s r.2)

/-- A CH_CTRL action that is reserved (Table 5.8). -/
def chCtrlReserved (a : Nat) : Bool := a == 0 || decide (6 < a)

/-- A CH_CTRL with a reserved action is out of range, after the checks of mode and of isolation (R101, R118, R157). No action
is taken in a mode that admits none of those defined. -/
def chCtrlReservedOp (c : Cmd) (s : State) : State :=
  if !([Act.OPEN, Act.CLOSE, Act.ARM, Act.DISARM, Act.CLEAR, Act.PRESENCE].any fun a => ctrlModes a s.sys.mode) then
    complete c.id (modeStatus s) [0] s
  else if (chNamed (chWord (c.w 0))).any (isolated s) then complete c.id St.DOMAIN_DOWN [0] s
  else complete c.id St.RANGE [0] s

/-- CH_CTRL_RESERVED_ACTION (R157). -/
def execChCtrlReservedAction (n : Mb) (s : State) : Host.Outcome State Fault Refusal :=
  .next (runCmd n (fun op b => op == 0x60 && chCtrlReserved ((b.getD 0 0).field 24 8)) chCtrlReservedOp s)

/-- The message is a CH_CTRL with an action. -/
def isCtrl (act : Nat) (op : Nat) (body : List Word) : Bool := op == 0x60 && (body.getD 0 0).field 24 8 == act

/-- CH_CTRL_OPEN (R157). -/
def execChCtrlOpen (n : Mb) (s : State) : Host.Outcome State Fault Refusal :=
  .next (runCmd n (isCtrl Act.OPEN) (chCtrlOp Act.OPEN) s)

/-- CH_CTRL_CLOSE (R157). -/
def execChCtrlClose (n : Mb) (s : State) : Host.Outcome State Fault Refusal :=
  .next (runCmd n (isCtrl Act.CLOSE) (chCtrlOp Act.CLOSE) s)

/-- CH_CTRL_ARM (R144). -/
def execChCtrlArm (n : Mb) (s : State) : Host.Outcome State Fault Refusal :=
  .next (runCmd n (isCtrl Act.ARM) (chCtrlOp Act.ARM) s)

/-- CH_CTRL_DISARM (R144). -/
def execChCtrlDisarm (n : Mb) (s : State) : Host.Outcome State Fault Refusal :=
  .next (runCmd n (isCtrl Act.DISARM) (chCtrlOp Act.DISARM) s)

/-- CH_CTRL_CLEAR (R214). -/
def execChCtrlClear (n : Mb) (s : State) : Host.Outcome State Fault Refusal :=
  .next (runCmd n (isCtrl Act.CLEAR) (chCtrlOp Act.CLEAR) s)

/-- CH_CTRL_PRESENCE (Table 5.8). -/
def execChCtrlPresence (n : Mb) (s : State) : Host.Outcome State Fault Refusal :=
  .next (runCmd n (isCtrl Act.PRESENCE) (chCtrlOp Act.PRESENCE) s)

/-! ### Held actions (R290, R291) -/

/-- The held actions of a channel reach their moment: they act at the first tick of its Marionette. -/
def heldMoment (c : Ch) (s : State) : State :=
  let held := s.mb.held.map fun h => if h.ch = c then { h with due := true } else h
  { s with mb := { s.mb with held := held } }

/-! ### The end of a group's reload -/

/-- A GROUP_CTRL completes when no group of its bitmap still reloads: its body names the groups back in service (Table 4.6). -/
def endGroupCtrl (id : Nat) (s : State) : State :=
  let mine := allGrp.filter fun g => (s.group g).ctrl == some id
  if mine.any fun g => (s.group g).reloading || s.svc.reloads.contains g then s
  else
    let back := bitsOf allGrp fun g => mine.contains g && !(s.group g).oos
    let s := forEach mine (fun g s => modGrp g (fun x => { x with ctrl := none }) s) s
    complete id St.OK [wd back] s

/-- GROUP_RELOAD_DONE: a group's reload ends; the next one begins, and step 7 of a takeover ends with the last (R46, R529). A
CRC that fails leaves the group reloading, and at step 7 it is a rollback cause (R532). -/
def execGroupReloadDone (g : Grp) (crcOk : Bool) (s : State) : Host.Outcome State Fault Refusal :=
  if !(s.group g).reloading || !anyPup s then .next s
  else if !crcOk then .next (if s.svc.phase = 7 then rollback s else s)
  else
    let t := modGrp g (fun x => { x with
      reloading := false, reloads := sat32 (x.reloads + 1), mc := sectionBytes (runBank s) g.val }) s
    let t := beginReloads t.svc.reloads t
    let t := match (s.group g).ctrl with
      | some id => endGroupCtrl id t
      | none => t
    let last := t.svc.phase == 7 && t.svc.reloads.isEmpty && !(allGrp.any fun k => (t.group k).reloading)
    let t := if last then
        forEach allGrp (fun k s => queueWrite RT.MICROCODE k.val s) { t with svc := { t.svc with phase := 6 } }
      else t
    .next (reportCh s t)

/-! ### OP_START (R172, R406, R407, R437) -/

/-- A failing OP_START names its operation and budget 0. -/
def opFail (c : Cmd) (code st : Nat) (s : State) : State := complete c.id st [opWord code 0 0] s

/-- Some inrush from the host is admitted by the mode. -/
def anyInrushMode (m : Mode) : Bool := [Mode.online, .recharge, .maintain, .bridge, .cutoff, .commission].contains m

/-- OP_START_UNDEFINED_CODE: a code that Table 15.2 does not define is out of range, after the checks of mode and of isolation
(R101, R118, R406). No operation starts in a mode that admits none of those defined. -/
def opStartUndefinedOp (c : Cmd) (s : State) : State :=
  let code := (c.w 0).field 24 8
  if !([Opn.INRUSH, Opn.FET_TEST, Opn.CAP_TEST, Opn.DUR_TEST].any fun k =>
      if k = Opn.INRUSH then anyInrushMode s.sys.mode else opModes k s.sys.mode) then opFail c code (modeStatus s) s
  else if (chNamed (chWord (c.w 0))).any (isolated s) then opFail c code St.DOMAIN_DOWN s
  else opFail c code St.RANGE s

/-- OP_START_UNDEFINED_CODE (R406). -/
def execOpStartUndefinedCode (n : Mb) (s : State) : Host.Outcome State Fault Refusal :=
  .next (runCmd n (fun op b => op == 0x30 && decide ((b.getD 0 0).field 24 8 < 1 ∨ 4 < (b.getD 0 0).field 24 8))
    opStartUndefinedOp s)

/-- The bitmap of an OP_START names exactly one channel. -/
def soleCh (c : Cmd) : Option Ch :=
  match chNamed (chWord (c.w 0)) with
  | [ch] => some ch
  | _ => none

/-- The mode admits the operation of an OP_START (Table 15.2, R535). -/
def opStartMode (s : State) (c : Cmd) (code : Nat) : Bool :=
  let debugBars := s.svc.debug != 0 && (code == Opn.INRUSH || code == Opn.FET_TEST)
  let admits := if code = Opn.INRUSH then
      match soleCh c with
      | some ch => inrushModes s ch (.host c.id)
      | none => anyInrushMode s.sys.mode
    else opModes code s.sys.mode
  !debugBars && admits

/-- OP_START: the checks of R118, then `file` files the request. -/
def opStartOp (code : Nat) (argsOk : Cmd → State → Bool) (file : Cmd → State → State) (c : Cmd) (s : State) : State :=
  if !opStartMode s c code then opFail c code (modeStatus s) s
  else if (chNamed (chWord (c.w 0))).any (isolated s) then opFail c code St.DOMAIN_DOWN s
  else if !c.tagOk || !argsOk c s then opFail c code St.RANGE s
  else reportCh s (file c s)

/-- The message is an OP_START of an operation. -/
def isOpStart (code : Nat) (op : Nat) (body : List Word) : Bool := op == 0x30 && (body.getD 0 0).field 24 8 == code

/-- An inrush is filed for the one channel named, when it is OPEN (R172). -/
def fileHostInrush (c : Cmd) (s : State) : State :=
  match soleCh c with
  | none => opFail c Opn.INRUSH St.RANGE s
  | some ch =>
    if (s.chan ch).st = .opened then fileInrush ch (.host c.id) (some c.id) s else opFail c Opn.INRUSH St.REFUSED s

/-- OP_START_INRUSH (R172). -/
def execOpStartInrush (n : Mb) (s : State) : Host.Outcome State Fault Refusal :=
  .next (runCmd n (isOpStart Opn.INRUSH)
    (opStartOp Opn.INRUSH (fun c _ => c.body.length == 1 && (soleCh c).isSome) fileHostInrush) s)

/-- The arguments of a FET_TEST are in range (R407). -/
def fetArgsOk (c : Cmd) : Bool :=
  let ip := (c.w 1).field 16 16
  let tp := (c.w 1).field 0 16
  c.body.length == 2 && (soleCh c).isSome && decide (1 ≤ ip ∧ ip ≤ 1000 ∧ 10 ≤ tp ∧ tp ≤ 1000)

/-- The request of a FET_TEST (Table 15.2). -/
def fetOp (ch : Ch) (w : Word) (id : Nat) : Op :=
  { Op.blank Opn.FET_TEST with
    ch := some ch, map := 2 ^ ch.val, prio := 3, bus := (w.field 16 16 * 100 * w.field 0 16 + 999999) / 1000000
    therm := 20, self := 50, tag := some id, filer := .host id, args := [w.toNat] }

/-- A FET_TEST is filed for the one channel named, when it is OPEN (R407). -/
def fileFet (c : Cmd) (s : State) : State :=
  match soleCh c with
  | none => opFail c Opn.FET_TEST St.RANGE s
  | some ch =>
    if (s.chan ch).st = .opened ∧ (chQueued s ch).isNone ∧ (s.chan ch).grant.isNone then fileOp (fetOp ch (c.w 1) c.id) s
    else opFail c Opn.FET_TEST St.REFUSED s

/-- OP_START_FET_TEST (R407). -/
def execOpStartFetTest (n : Mb) (s : State) : Host.Outcome State Fault Refusal :=
  .next (runCmd n (isOpStart Opn.FET_TEST) (opStartOp Opn.FET_TEST (fun c _ => fetArgsOk c) fileFet) s)

/-- The arguments and the bitmap of a battery test are in range (R437). -/
def batArgsOk (code : Nat) (c : Cmd) (s : State) : Bool :=
  c.body.length == 3 && testArgsOk code (c.w 1).toNat (c.w 2).toNat && testMapOk s (chWord (c.w 0))

/-- A battery test is filed. -/
def fileTest (code : Nat) (c : Cmd) (s : State) : State :=
  fileOp (testOp s code (chWord (c.w 0)) (c.w 1).toNat (c.w 2).toNat (some c.id)) s

/-- OP_START_CAP_TEST (R437). -/
def execOpStartCapTest (n : Mb) (s : State) : Host.Outcome State Fault Refusal :=
  .next (runCmd n (isOpStart Opn.CAP_TEST) (opStartOp Opn.CAP_TEST (batArgsOk Opn.CAP_TEST) (fileTest Opn.CAP_TEST)) s)

/-- OP_START_DUR_TEST (R437). -/
def execOpStartDurTest (n : Mb) (s : State) : Host.Outcome State Fault Refusal :=
  .next (runCmd n (isOpStart Opn.DUR_TEST) (opStartOp Opn.DUR_TEST (batArgsOk Opn.DUR_TEST) (fileTest Opn.DUR_TEST)) s)

end Sys2Proof.Machine
end

