-- ==== Sys2Proof/Machine/EventLog.lean ====
section
/-! DEFINITION. The reads and clears of the event log, its writes to the store and its summaries (R497 to R505), and
SNAP_READ of accumulators and trackers (R333 to R335). -/

namespace Sys2Proof.Machine

/-! ### EVT_READ and EVT_CLEAR -/

/-- A frame as its words: tag, head, TIME and data (Table 19.1, R493). -/
def Frame.words (f : Frame) : List Word :=
  [wd (f.seq * 2 ^ 8 + f.time / 2 ^ 32), wd (f.code * 2 ^ 16 + f.sev * 2 ^ 14 + f.data.length * 2 ^ 8 + f.obj),
    wd f.time] ++ f.data.map wd

/-- Puts a frame into a list by its distance from a cursor. -/
def insFrame (cursor : Nat) (f : Frame) : List Frame → List Frame
  | [] => [f]
  | g :: t =>
    if (f.seq + 2 ^ 24 - cursor) % 2 ^ 24 ≤ (g.seq + 2 ^ 24 - cursor) % 2 ^ 24 then f :: g :: t else g :: insFrame cursor f t

/-- The frames newer than a cursor, in ascending SEQ, at most `n` of them (R503). -/
def framesAfter (s : State) (cursor n : Nat) : List Frame :=
  (((allFrames s).filter fun f => newer f.seq cursor).foldr (insFrame cursor) []).take n

/-- Words in pieces of at most 31. -/
def pieces : Nat → List Word → List (List Word)
  | 0, _ => []
  | _, [] => []
  | fuel + 1, l => l.take 31 :: pieces fuel (l.drop 31)

/-- Whole frames in segments of at most 31 words; a frame longer than a segment goes out in segments of its own. -/
def packSegs : List (List Word) → List Word → List (List Word)
  | [], cur => if cur.isEmpty then [] else [cur]
  | f :: t, cur =>
    if cur.length + f.length ≤ 31 then packSegs t (cur ++ f)
    else
      let done := if cur.isEmpty then [] else [cur]
      if f.length ≤ 31 then done ++ packSegs t f else done ++ pieces 3 f ++ packSegs t []

/-- EVT_READ. -/
def evtReadOp (c : Cmd) (s : State) : State :=
  let most := (c.w 0).field 0 16
  if !c.lenOk 1 || most == 0 then complete c.id St.RANGE [] s
  else
    let fs := framesAfter s (cursorOf s c.chan) most
    let s := match fs.getLast? with
      | some f => putCursor c.chan f.seq s
      | none => s
    streamOut c.id (packSegs (fs.map Frame.words) []) St.OK [wd fs.length] s

/-- EVT_READ: sends the frames newer than the session's cursor (R503). -/
def execEvtRead (n : Mb) (s : State) : Host.Outcome State Fault Refusal := .next (runOp n 0x40 evtReadOp s)

/-- EVT_CLEAR. -/
def evtClearOp (c : Cmd) (s : State) : State :=
  let w := (c.w 0).field 0 24
  let fail := !c.lenOk 1 || newer w (lastSeq s)
  let s := if !fail && newer w s.log.watermark then
      logEvent Evt.LOG_CLEARED 0 objNone [w] { s with log := { s.log with watermark := w } }
    else s
  complete c.id (if fail then St.RANGE else St.OK) [wd (evtPend s)] s

/-- EVT_CLEAR: moves the watermark (R504). -/
def execEvtClear (n : Mb) (s : State) : Host.Outcome State Fault Refusal := .next (runOp n 0x41 evtClearOp s)

/-! ### The log write (R497, R500, R501) -/

/-- The pool of a frame: its severity, or notice for LOG_CLEARED. -/
def Frame.pool (f : Frame) : Nat := if f.code = Evt.LOG_CLEARED then 1 else f.sev

/-- The pages of each pool. -/
def poolSize (p : Fin 4) : Nat := if p = 0 then 128 else if p = 3 then 256 else 320

/-- A page may be overwritten: in the critical pool only when every record on it has been read. -/
def overwritable (s : State) (p : Fin 4) (g : Page) : Bool := p != 3 || g.frames.all fun f => !newer f.seq s.log.watermark

/-- The critical pool has room for a page, or a page to overwrite. -/
def critRoom (s : State) : Bool :=
  let l := s.log.pools.get 3
  decide (l.length < 256) || match l with
    | g :: _ => overwritable s 3 g
    | [] => true

/-- Frames in pages of at most 1000 bytes, in order. -/
def packPages : List Frame → List Frame → Nat → List (List Frame)
  | [], cur, _ => if cur.isEmpty then [] else [cur]
  | f :: t, cur, used =>
    if used + f.bytes ≤ 1000 then packPages t (cur ++ [f]) (used + f.bytes)
    else (if cur.isEmpty then [] else [cur]) ++ packPages t [f] f.bytes

/-- A page of frames is written to its pool; critical frames without room go to the fault pool (R501). -/
def writePage (pool : Nat) (fs : List Frame) (s : State) : State :=
  let spill := pool == 3 && !critRoom s
  let p : Fin 4 := if spill then 2 else ⟨pool % 4, by omega⟩
  let l := s.log.pools.get p
  let l := if l.length < poolSize p then l else l.drop 1
  let seq := (s.log.pseq + 1) % 2 ^ 32
  { s with log := { s.log with
    pseq := seq, pools := vput s.log.pools p (l ++ [{ pseq := seq, frames := fs }])
    spill := if pool = 3 then spill else s.log.spill } }

/-- The frames that stand in the buffer go to the store, pool by pool. -/
def writeLog (s : State) : State :=
  let buf := s.log.buf
  let s := { s with log := { s.log with buf := [], held := false } }
  let s := forEach [0, 1, 2, 3] (fun p s =>
    forEach (packPages (buf.filter fun f => f.pool == p) [] 0) (writePage p) s) s
  { s with log := { s.log with spill := s.log.spill && !critRoom s } }

/-- A moment of R497 has come for the buffer: its fill, or a record of fault or critical severity, or a LOG_CLEARED, or a write that the hold-up check
held. -/
def writeDue (s : State) : Bool :=
  s.log.held || decide (pn s Prm.LOG_FLUSH_FILL ≤ bufUsed s) || s.log.buf.any fun f => decide (2 ≤ f.sev) || f.code == Evt.LOG_CLEARED

/-- The age of the oldest frame in outputs of the divider at which LOG.FLUSH_MS is reached, less its age now. -/
def flushWait (s : State) : Nat :=
  match s.log.buf with
  | [] => 0
  | f :: _ => (pn s Prm.LOG_FLUSH_MS * 1024 + 999) / 1000 - (optime s - f.time)

/-- The log write passes the hold-up check and is made, or waits. -/
def offerLog (s : State) : State :=
  if holdOk s (tw50 (bufUsed s)) then writeLog s else { s with log := { s.log with held := true } }

/-- LOG_WRITE: the firmware writes the buffered frames at the first moment of R497. -/
def execLogWrite (s : State) : Host.Outcome State Fault Refusal :=
  if !s.log.ready || !anyPup s || s.log.buf.isEmpty then .next s
  else .next (offerLog (if writeDue s then s else passTo (s.clock + flushWait s * clkKt) s))

/-! ### Summaries (R499) -/

/-- RATE_WINDOW_END: the window of 10 s in force ends at the next multiple of 10 240. -/
def execRateWindowEnd (s : State) : Host.Outcome State Fault Refusal :=
  if !s.log.ready || !anyPup s then .next s
  else
    let left := (s.log.window + 1) * 10240 - optime s
    .next (endWindow (passTo (s.clock + left * clkKt) s))

/-- Drop summaries enter while the buffer has room for them. -/
def enterDrops : List Summ → State → State
  | [], s => s
  | x :: t, s =>
    if bufUsed s + 44 ≤ 65536 then
      enterDrops t (enterSummary x { s with log := { s.log with summs := s.log.summs.filter fun y => !(y == x) } })
    else s

/-- DROP_SUMMARY: room has appeared in the buffer, and the drop summaries enter. -/
def execDropSummary (s : State) : Host.Outcome State Fault Refusal :=
  if !s.log.ready || !anyPup s then .next s
  else .next (enterDrops (s.log.summs.filter fun x => x.reason == 2) s)

/-! ### SNAP_READ (R333 to R335) -/

/-- A value as two words, the high word first. -/
def pairWords (v : Int) : List Word := [BitVec.ofInt 32 (v / 2 ^ 32), BitVec.ofInt 32 v]

/-- An accumulator record (Table 12.6). -/
def accRecord (s : State) (i : Fin 192) : List Word :=
  let x := s.acc.slot.get i
  [wd (i.val * 2 ^ 24 + bitAt (x.cfg.testBit 7) 23 + fieldOf x.cfg 5 2 * 2 ^ 21 + bitAt x.ovf 20),
    wd x.count, BitVec.ofInt 32 x.aux] ++ pairWords x.sum ++ pairWords x.sq

/-- The four words of a window. -/
def winWords (w : TrkWin) : List Word :=
  [BitVec.ofInt 32 w.lo, BitVec.ofInt 32 w.hi, wd (w.pinMin * 2 ^ 16 + w.pinMax), wd w.count]

/-- A tracker record (Table 12.7). -/
def trkRecord (s : State) (i : Fin 96) : List Word :=
  let x := s.acc.trk.get i
  wd (i.val * 2 ^ 24 + bitAt (s.acc.bank.get (bankOfTrk i)).frozen 23) :: (winWords x.live ++ winWords x.closed)

/-- Records grouped into segments of `k`; `fuel` bounds the segments. -/
def groupRecs (k : Nat) : Nat → List (List Word) → List (List Word)
  | 0, _ => []
  | _, [] => []
  | fuel + 1, l => (l.take k).flatten :: groupRecs k fuel (l.drop k)

/-- The segments of a snapshot taken at the present clock: DRM.CYCLE and the pin before the first record. -/
def snapSegs (s : State) (source first count : Nat) : List (List Word) :=
  let segs := if source = 1 then
      groupRecs 4 192 (((List.finRange 192).filter fun i => decide (first ≤ i.val ∧ i.val < first + count)).map (accRecord s))
    else groupRecs 3 96 (((List.finRange 96).filter fun i => decide (first ≤ i.val ∧ i.val < first + count)).map (trkRecord s))
  match segs with
  | [] => []
  | a :: t => (wd s.mb.cycle :: wd (pinNow s) :: a) :: t

/-- The latch clock of a SNAP_READ: the copy, the clear and the stream. -/
def snapLatch (w : SnapWait) (s : State) : State :=
  let segs := snapSegs s w.source w.first w.count
  let total := segs.foldl (fun n g => n + g.length) 0
  let s := if w.clr then clearItems false w.first w.count s else s
  streamOut w.tag segs St.OK [wd total] s

/-- The arguments of a SNAP_READ of a source are in range. -/
def snapArgsOk (source most : Nat) (c : Cmd) : Bool :=
  let first := (c.w 0).field 0 24
  let count := (c.w 1).field 0 8
  c.lenOk 2 && decide (count ≠ 0 ∧ first + count ≤ most) && !(source == 2 && (c.w 1).bit 31)

/-- SNAP_READ of accumulators or trackers. -/
def snapReadOp (source most : Nat) (c : Cmd) (s : State) : State :=
  if !snapArgsOk source most c then complete c.id St.RANGE [] s
  else
    let w : SnapWait := { tag := c.id, source := source, first := (c.w 0).field 0 24, count := (c.w 1).field 0 8, clr := (c.w 1).bit 31 }
    if (c.w 1).bit 30 then { s with acc := { s.acc with snaps := s.acc.snaps ++ [w] } } else snapLatch w s

/-- SNAP_READ_ACC: source 1, and every source that no row has. -/
def execSnapReadAcc (n : Mb) (s : State) : Host.Outcome State Fault Refusal :=
  let sel := fun (op : Nat) (b : List Word) => op == 0x50 && (b.getD 0 0).field 24 8 != 2 && (b.getD 0 0).field 24 8 != 3
  let act := fun (c : Cmd) (t : State) =>
    if (c.w 0).field 24 8 = 1 then snapReadOp 1 192 c t else complete c.id St.RANGE [] t
  .next (runCmd n sel act s)

/-- SNAP_READ_TRK: source 2. -/
def execSnapReadTrk (n : Mb) (s : State) : Host.Outcome State Fault Refusal :=
  .next (runCmd n (fun op b => op == 0x50 && (b.getD 0 0).field 24 8 == 2) (snapReadOp 2 96) s)

end Sys2Proof.Machine
end

