-- ==== Sys2Proof/Machine/Link.lean ====
section
/-! DEFINITION. The SPI host link: frames, results and the direct registers (R62 to R84, Tables 3.1 to 3.6), and what the
host does to the mailbox queues (R87 to R94). -/

namespace Sys2Proof.Machine

/-- The host link answers: not before the start, and not in DORMANT (R79). -/
def linkUp (s : State) : Bool := s.sys.phase != .off && s.sys.mode != .dormant

/-- The service bridge answers (R514, R517). -/
def bridgeUp (s : State) : Bool := s.svc.en && linkUp s && s.sys.mode != .recovery

/-! ### Restarts that a key asks for -/

/-- A restart out of SAFE-KEEP; during a trial it is remembered (R266, R532). -/
def leaveSafeKeep (cause : Nat) (s : State) : State :=
  let trial := s.svc.bankA.st == Bst.TRIAL || s.svc.bankB.st == Bst.TRIAL
  warmStart cause { s with svc := { s.svc with trialRestart := s.svc.trialRestart || trial } }

/-- The level of BOOTSEL, as a command that may start the Hatan shows it. -/
def seeBootsel (level : Bool) (s : State) : State := { s with sys := { s.sys with bootsel := level } }

/-- A restart that begins in a running main domain: cold out of RECOVERY, out of SAFE-KEEP with `skCause`, warm with `cause`
elsewhere (R54, R266). The self-test runs at the handshake. -/
def restartBy (cause skCause : Nat) (s : State) : State :=
  if s.sys.phase = .off ∨ s.sys.phase = .abandoned ∨ s.sys.mode = .dormant then s
  else if s.sys.mode = .recovery then coldStart 8 none s
  else if inSafeKeep s then leaveSafeKeep skCause s
  else warmStart cause s

/-- The key of H_RESET starts a restart; from the third entry into SAFE-KEEP within the hour the Tin Soldier ignores it until the
next cold start (R77, R266, R267). -/
def resetKey (v : Word) (s : State) : State :=
  if v ≠ 0x0000A5C3 ∨ s.tin.keyIgnored then s else restartBy 4 6 s

/-! ### The inbound queues (R87, R88, R91) -/

/-- One word is appended to an inbound queue; a full queue has its last word replaced (R88). -/
def appendIn (n : Mb) (s : State) (w : Word) : State :=
  let q := s.inq.get n
  if q.words.length < 64 then { s with inq := vput s.inq n { q with words := q.words ++ [w] } }
  else
    let sound := if q.damaged then min q.sound 63 else 63
    setCollide n.val { s with inq := vput s.inq n { q with
      words := q.words.dropLast ++ [w], offered := min q.offered 63, damaged := true, sound := sound } }

/-- The slot at which the message begins that a list of offered words ends inside, walking message by message; `fuel` bounds
the walk. -/
def tornAt : Nat → List Word → Nat → Option Nat
  | 0, _, _ => none
  | _, [], _ => none
  | fuel + 1, h :: t, k =>
    let len := h.field 10 5
    if t.length < len then some k else tornAt fuel (t.drop len) (k + len + 1)

/-- Every word committed to an inbound queue is offered (R91). When the words offered end inside a message, the time of its
first word is kept (R92). -/
def offerIn (n : Mb) (s : State) : State :=
  { s with inq := vmod s.inq n fun q => { q with
    offered := q.words.length
    fragAt := match tornAt 64 q.words 0 with
      | none => none
      | some k => if k < q.offered ∧ q.fragAt.isSome then q.fragAt else some s.clock } }

/-! ### Reads of the registers -/

/-- The bits of channels 10 to 13 of H_DB_OUT and H_COLLIDE, hidden from CS_NS (Table 3.4). -/
def nsBits : Word := 0x3C003C00

/-- The part of a register with channel bits that a chip select sees or writes. -/
def seen (secure : Bool) (v : Word) : Word := if secure then v else v &&& ~~~nsBits

/-- H_ID (Table 3.5). -/
def hId (s : State) : Nat := 0x2460 * 2 ^ 16 + (if s.xam.fitted then 0x4D else 0x4E) * 2 ^ 8 + stepping

/-- H_VERSION: the running image and the highest Deolo version; 0 before the firmware is ready. -/
def hVersion (s : State) : Nat := if s.sys.fwReady then (runBank s).ver / 2 ^ 16 * 2 ^ 16 + 0x0203 else 0

/-- H_QLEVELn. -/
def hQlevel (s : State) (n : Mb) : Nat :=
  (s.inq.get n).words.length * 2 ^ 24 + (s.outq.get n).words.length * 2 ^ 16 + (s.inq.get n).cons * 2 ^ 8 + (s.outq.get n).cons

/-- The registers marked NOT_READY (Table 3.4). -/
def notReadyAddr (a : Nat) : Bool := [0x0E, 0x0F, 0x32, 0x33, 0x34].contains a

/-- The value of a register whose read has no effect. -/
def plainReg (s : State) (secure : Bool) (a : Nat) : Word :=
  match a with
  | 0x00 => wd (hId s)
  | 0x01 => wd (hVersion s)
  | 0x02 => wd (hStatus s)
  | 0x03 => wd (s.sys.prevMode.code * 2 ^ 8 + s.sys.mode.code)
  | 0x04 => wd s.link.irqStatus
  | 0x05 => wd s.link.irqMask
  | 0x09 => seen secure (wd s.link.dbOut)
  | 0x0A => seen secure (wd s.link.collide)
  | 0x0C => wd (s.link.lastErrResult * 2 ^ 8 + s.link.lastErrAddr)
  | 0x0D => wd (bitAt s.link.pulse 1)
  | 0x30 => wd (chOn s)
  | 0x31 => wd (chFault s)
  | 0x32 => wd (chIso s)
  | 0x33 => wd (evtPend s)
  | 0x34 => wd s.nvs.powerCycles
  | 0x35 => wd (bitAt (okBeat s) 1 + b2n s.tin.armed)
  | 0x36 => s.link.scratch
  | k => if h : 0x10 ≤ k ∧ k < 0x20 then wd (hQlevel s ⟨k - 0x10, by omega⟩) else 0

/-- H_LOCK: a read acquires it while it is free, and else names the holder (R82). -/
def readLock (r : Reader) (s : State) : Word × State :=
  match s.link.lock with
  | none => (0, { s with link := { s.link with lock := some r } })
  | some .spi => (1, s)
  | some .bridge => (2, s)

/-- H_LINK_ERR: the SPI's read clears it, the bridge's does not (R517). -/
def readLinkErr (r : Reader) (s : State) : Word × State :=
  let v := wd (s.link.errHdr * 2 ^ 24 + s.link.errData * 2 ^ 16 + s.link.errLen * 2 ^ 8 + s.link.errDen)
  (v, if r = .spi then { s with link := { s.link with errHdr := 0, errData := 0, errLen := 0, errDen := 0 } } else s)

/-- H_OPTIME_L latches the high bits (R78). -/
def readOptimeL (s : State) : Word × State :=
  (wd (optime s), { s with link := { s.link with optLatch := some (optime s / 2 ^ 32) } })

/-- H_OPTIME_H gives the latched bits once, and else the live ones (R78). -/
def readOptimeH (s : State) : Word × State :=
  (wd (s.link.optLatch.getD (optime s / 2 ^ 32)), { s with link := { s.link with optLatch := none } })

/-- A read of a direct register other than H_QDATAn. Before the firmware is ready some registers read zeros (R79). -/
def readReg (r : Reader) (secure : Bool) (a : Nat) (s : State) : Word × State :=
  if notReadyAddr a && !s.sys.fwReady then (0, s)
  else if a = 0x06 then readLock r s
  else if a = 0x0B then readLinkErr r s
  else if a = 0x0E then readOptimeL s
  else if a = 0x0F then readOptimeH s
  else (plainReg s secure a, s)

/-! ### Writes of the registers -/

/-- A W1C write of H_IRQ_STATUS; `setting` are the bits that events set in the same core cycle, which win (R81). -/
def clearIrq (v setting : Word) (s : State) : State :=
  let s := forEach ((List.range 13).filter fun k => setting.bit k) setIrq s
  { s with link := { s.link with irqStatus := s.link.irqStatus &&& (~~~(v &&& ~~~setting)).toNat } }

/-- A write of H_IRQ_MASK: an enabled bit that already stands asserts nIRQ, in pulse mode with a pulse (R81). -/
def writeMask (v : Word) (s : State) : State :=
  let m := v.toNat % 2 ^ 13
  { s with link := { s.link with
    irqMask := m, pulseOut := s.link.pulseOut || (s.link.pulse && (m &&& s.link.irqStatus) != 0) } }

/-- A W1C write of H_DB_OUT (R94). -/
def clearDbOut (secure : Bool) (v setting : Word) (s : State) : State :=
  let s := forEach ((List.finRange 16).filter fun n => setting.bit n.val) setDbOut s
  { s with link := { s.link with dbOut := s.link.dbOut &&& (~~~(seen secure v &&& ~~~setting)).toNat } }

/-- A W1C write of H_COLLIDE; clearing the bit of an inbound queue ends what the firmware owes to it (R93). -/
def clearCollide (secure : Bool) (v setting : Word) (s : State) : State :=
  let s := forEach ((List.range 32).filter fun k => setting.bit k) setCollide s
  let v := seen secure v &&& ~~~setting
  let s := { s with link := { s.link with collide := s.link.collide &&& (~~~v).toNat } }
  forEach ((List.finRange 16).filter fun n => v.bit n.val)
    (fun n s => { s with inq := vmod s.inq n fun q => { q with damaged := false } }) s

/-- A write of H_DOORBELL (R91). -/
def ringDoorbell (secure : Bool) (v : Word) (s : State) : State :=
  forEach ((List.finRange 16).filter fun n => (seen secure v).bit n.val && decide (n.val < 14)) offerIn s

/-- H_LOCK is released by its holder's write of 0 (R82). -/
def releaseLock (r : Reader) (v : Word) (s : State) : State :=
  if v.field 0 8 = 0 ∧ s.link.lock = some r then { s with link := { s.link with lock := none } } else s

/-- A write of a direct register over the SPI; one to a read-only or reserved address is ignored (R74, R75). -/
def writeReg (secure : Bool) (a : Nat) (v setting : Word) (s : State) : State :=
  match a with
  | 0x04 => clearIrq v setting s
  | 0x05 => writeMask v s
  | 0x06 => releaseLock .spi v s
  | 0x07 => resetKey v s
  | 0x08 => ringDoorbell secure v s
  | 0x09 => clearDbOut secure v setting s
  | 0x0A => clearCollide secure v setting s
  | 0x0D => { s with link := { s.link with pulse := v.bit 1, pulseOut := s.link.pulseOut && v.bit 1 } }
  | 0x36 => { s with link := { s.link with scratch := v } }
  | k => if h : 0x20 ≤ k ∧ k < 0x30 then appendIn ⟨k - 0x20, by omega⟩ s v else s

/-! ### Results (R70, Table 3.3) -/

abbrev Res.HDR_CRC : Nat := 1
abbrev Res.DATA_CRC : Nat := 2
abbrev Res.LENGTH : Nat := 3
abbrev Res.DENIED : Nat := 4
abbrev Res.DOMAIN_DOWN : Nat := 5
abbrev Res.NOT_READY : Nat := 6
abbrev Res.DUAL_CS : Nat := 7

/-- The result of a frame stands for the next status word; one other than OK is counted and kept with its address. -/
def noteResult (res addr : Nat) (s : State) : State :=
  let s := { s with link := { s.link with result := res } }
  if res = 0 then s
  else
    let up := fun (b : Bool) (n : Nat) => if b then sat8 (n + 1) else n
    setIrq Irq.LINK_ERR { s with link := { s.link with
      errHdr := up (res == 1) s.link.errHdr, errData := up (res == 2) s.link.errData, errLen := up (res == 3) s.link.errLen
      errDen := up (decide (4 ≤ res)) s.link.errDen, lastErrResult := res, lastErrAddr := addr } }

/-- The link status word (Table 3.2). -/
def statusWord (s : State) : Word :=
  wd (0xA * 2 ^ 28 + s.link.result * 2 ^ 24 + s.sys.mode.code * 2 ^ 20 + bitAt s.sys.fwReady 19 + bitAt (irqAsserted s) 18)

/-- What MISO drove in a frame of `bits` bits: the words, and the CRC when its bits were clocked. -/
def drive (words : List Word) (crc : Option Nat) (bits : Nat) (s : State) : State :=
  { s with link := { s.link with miso := words, misoCrc := crc, misoBits := bits } }

/-- The bits of a write frame of `n` words. -/
def writeBits (n : Nat) : Nat := 48 + 32 * n

/-- The addresses of a frame's words: from `a` on, or `a` for each. DESIGN CHOICE (unsafe, log 86): a burst that runs past 0x3F
goes on at 0x00. -/
def frameAddrs (a : Nat) (inc : Bool) (n : Nat) : List Nat :=
  (List.range n).map fun k => if inc then (a + k) % 64 else a

/-- H_QDATAn. -/
def isQdata (a : Nat) : Bool := decide (0x20 ≤ a ∧ a < 0x30)

/-- An address that this access may not reach (R72, Table 3.4). -/
def deniedAddr (secure read : Bool) (a : Nat) : Bool :=
  a == 0x2E || (a == 0x2F && !read) || (!secure && [0x07, 0x1A, 0x1B, 0x1C, 0x1D, 0x2A, 0x2B, 0x2C, 0x2D].contains a)

/-- A data window whose domain is powered down (R73). -/
def downAddr (s : State) (a : Nat) : Bool := isQdata a && domainDown s ⟨a % 16, by omega⟩

/-! ### Frames -/

/-- A write frame whose header, length and data CRC are good: refused as a whole, or committed in order (R67, R72, R73).
DESIGN CHOICE (unsafe, log 87): RPT set in a write is refused with DENIED, at H_QDATAn too. -/
def carryWrite (cs : Cs) (rpt : Bool) (a : Nat) (inc : Bool) (words : List Word) (setting : Word) (s : State) : State :=
  let addrs := frameAddrs a inc words.length
  let s1 := drive [statusWord s] none (writeBits words.length) s
  if rpt || addrs.any (deniedAddr (cs == .s) false) then noteResult Res.DENIED a s1
  else if addrs.any (downAddr s) then noteResult Res.DOMAIN_DOWN a s1
  else
    noteResult 0 a (forEach (addrs.zip words) (fun p s => writeReg (cs == .s) p.1 p.2 setting s) s1)

/-- A word that a list gives, or an open one where the list ends (the spec gives no value to words beyond a queue's level). -/
def wordOr (l : List Word) (k : Nat) (s : State) : Word × State :=
  match l[k]? with
  | some w => (w, s)
  | none => drawWord s

/-- One word of a read frame. `k` is its place in a burst on one data window, 0 in an incrementing one. -/
def readWord (secure rpt : Bool) (k a : Nat) (s : State) : Word × State :=
  if isQdata a then
    let q := s.outq.get ⟨a % 16, by omega⟩
    if rpt then
      match q.burst with
      | some b => wordOr b k s
      | none => (0, s)
    else wordOr q.words k s
  else readReg .spi secure a s

/-- The words of a read frame in order. -/
def readWords (secure rpt inc : Bool) : List Nat → Nat → State → List Word × State
  | [], _, s => ([], s)
  | a :: t, k, s =>
    let r := readWord secure rpt k a s
    let p := readWords secure rpt inc t (if inc then 0 else k + 1) r.2
    (r.1 :: p.1, p.2)

/-- The words consumed by a read that ended clean: those of each data window named. A queue that had none to give keeps its last
burst (R71). -/
def consumeRead (addrs : List Nat) (s : State) : State :=
  forEach ((List.finRange 16).filter fun n => addrs.contains (0x20 + n.val))
    (fun n s =>
      let k := min (addrs.filter (· == 0x20 + n.val)).length (s.outq.get n).words.length
      if k = 0 then s else consumeOut n k s) s

/-- The words of a read of `n` words that MISO begins to drive within `bits` bits. -/
def begunWords (n bits : Nat) : Nat := min n ((bits - 64 + 31) / 32)

/-- The words of a read of `n` words that MISO drives whole within `bits` bits. -/
def wholeWords (n bits : Nat) : Nat := min n ((bits - 64) / 32)

/-- The CRC of a read of `n` words, when MISO begins to drive it within `bits` bits. -/
def crcWithin (n bits crc : Nat) : Option Nat := if 64 + 32 * n < bits then some crc else none

/-- What MISO drives in a read frame with a good header, its result, and the state after the reads: zeros when it is denied,
zeros under the complement of their CRC when a domain is down, and else the words. A frame that ends before its last word drives
the words begun. DESIGN CHOICE (unsafe, log 87): of several refusals DENIED ranks before DOMAIN_DOWN and that before NOT_READY;
a word driven whole takes the side effects of its read, and in a frame that ends with LENGTH none does. -/
def readOut (cs : Cs) (rpt : Bool) (a : Nat) (inc : Bool) (n bits : Nat) (s : State) : List Word × Nat × Nat × State :=
  let addrs := frameAddrs a inc n
  let crcOf := fun (l : List Word) => crc16 (wordsBytes (l.map BitVec.toNat))
  let zeros := List.replicate (begunWords n bits) (0 : Word)
  let crc0 := crcOf (List.replicate n 0)
  if (rpt && !addrs.all isQdata) || addrs.any (deniedAddr (cs == .s) true) then (zeros, crc0, Res.DENIED, s)
  else if addrs.any (downAddr s) then (zeros, 0xFFFF - crc0, Res.DOMAIN_DOWN, s)
  else
    let res := if addrs.any notReadyAddr && !s.sys.fwReady then Res.NOT_READY else 0
    let begun := readWords (cs == .s) rpt inc (addrs.take (begunWords n bits)) 0 s
    let whole := readWords (cs == .s) rpt inc (addrs.take (wholeWords n bits)) 0 s
    let after := if bits % 32 = 16 then whole.2 else s
    (begun.1, crcOf begun.1, res, { after with freeCtr := begun.2.freeCtr })

/-- A read frame with a good header and at most 64 words that ended after `bits` bits (R68, R70 to R73). -/
def carryRead (cs : Cs) (rpt : Bool) (a : Nat) (inc : Bool) (n bits : Nat) (s : State) : State :=
  let r := readOut cs rpt a inc n bits s
  let drv := drive (statusWord s :: r.1) (crcWithin n bits r.2.1) bits
  if bits % 32 ≠ 16 ∨ bits < 48 then noteResult Res.LENGTH a (drv r.2.2.2)
  else
    let clean := decide (bits = 64 + 32 * n + 16 ∧ r.2.2.1 ≠ Res.DENIED ∧ r.2.2.1 ≠ Res.DOMAIN_DOWN)
    let t := if clean && !rpt then consumeRead (frameAddrs a inc n) r.2.2.2 else r.2.2.2
    noteResult r.2.2.1 a (drv t)

/-- The header's CRC is wrong, or the frame came in a mode that shifts its bits (R62, R65). -/
def headerBad (h : Word) (mode12 : Bool) : Bool :=
  mode12 || crc16 [h.field 24 8, h.field 16 8] != h.field 0 16

/-- What MISO drives after a refused header: ones to the end of the frame. -/
def driveOnes (bits : Nat) (s : State) : State :=
  drive (statusWord s :: List.replicate (begunWords 64 bits) (0xFFFFFFFF : Word)) none bits s

/-- A read frame as clocked in. -/
def readFrame (f : SpiRead) (s : State) : State :=
  let a := f.header.field 24 6
  let len := f.header.field 16 7
  if headerBad f.header f.mode12 then noteResult Res.HDR_CRC a (driveOnes f.bits s)
  else if 64 ≤ len then noteResult Res.LENGTH a (driveOnes f.bits s)
  else carryRead f.cs (f.header.bit 30) a (f.header.bit 23) (len + 1) f.bits s

/-- A write frame as clocked in. -/
def writeFrame (f : SpiWrite) (s : State) : State :=
  let a := f.header.field 24 6
  let n := f.header.field 16 7 + 1
  if headerBad f.header f.mode12 then noteResult Res.HDR_CRC a (driveOnes f.bits s)
  else if 64 < n then noteResult Res.LENGTH a (driveOnes f.bits s)
  else if f.bits ≠ 48 + 32 * n ∨ f.words.length ≠ n then noteResult Res.LENGTH a (drive [statusWord s] none f.bits s)
  else if crc16 (wordsBytes (f.words.map BitVec.toNat)) ≠ f.dcrc.toNat then
    noteResult Res.DATA_CRC a (drive [statusWord s] none f.bits s)
  else carryWrite f.cs (f.header.bit 30) a (f.header.bit 23) f.words 0 s

/-- SPI_WRITE_FRAME: a write frame is committed when its CRCs are correct and it ends at its last bit (R67). -/
def execSpiWriteFrame (f : SpiWrite) (s : State) : Host.Outcome State Fault Refusal :=
  if !linkUp s then .next s
  else if f.header.bit 31 then .next (readFrame { cs := f.cs, header := f.header, bits := f.bits, mode12 := f.mode12 } s)
  else .next (writeFrame f s)

/-- SPI_READ_FRAME: a read frame returns words and their CRC (R68). -/
def execSpiReadFrame (f : SpiRead) (s : State) : Host.Outcome State Fault Refusal :=
  if !linkUp s then .next s
  else if f.header.bit 31 then .next (readFrame f s)
  else .next (writeFrame { cs := f.cs, header := f.header, words := [], dcrc := 0, bits := f.bits, mode12 := f.mode12 } s)

/-- DUAL_CS: the second select falls while the first is low (R64). DESIGN CHOICE (unsafe, log 86): a frame that ended before its
header was complete leaves address 0 in H_LAST_ERR. -/
def execDualCs (header : Option Word) (s : State) : Host.Outcome State Fault Refusal :=
  if !linkUp s then .next s
  else .next (noteResult Res.DUAL_CS ((header.getD 0).field 24 6) (drive [statusWord s] none 32 s))

/-! ### Frames of one register, and reads and releases over the bridge -/

/-- A good write frame of words to one address. -/
def goodWrite (cs : Cs) (a : Nat) (words : List Word) (setting : Word) (s : State) : State :=
  if !linkUp s || words.isEmpty then s
  else if 64 < words.length then noteResult Res.LENGTH a (driveOnes (writeBits words.length) s)
  else carryWrite cs false a false words setting s

/-- A read frame of `n` words from one address that ends clean or not. -/
def goodRead (cs : Cs) (rpt : Bool) (a n : Nat) (clean : Bool) (s : State) : State :=
  if !linkUp s || n == 0 then s
  else if 64 < n then noteResult Res.LENGTH a (driveOnes (80 + 32 * n) s)
  else carryRead cs rpt a false n (if clean then 80 + 32 * n else 112 + 32 * n) s

/-- A read of one register over the bridge (R517). -/
def bridgeReg (a : Nat) (s : State) : State :=
  let r := readReg .bridge true a s
  { r.2 with link := { r.2.link with bridgeWord := r.1 } }

/-- A read of one register by the SPI or by the bridge. -/
def readBy (r : Reader) (a : Nat) (s : State) : State :=
  match r with
  | .spi => goodRead .ns false a 1 true s
  | .bridge => if bridgeUp s then bridgeReg a s else s

/-- H_QDATA_WRITE: words are appended to an inbound queue (R87, R88). -/
def execHQdataWrite (cs : Cs) (n : Mb) (words : List Word) (s : State) : Host.Outcome State Fault Refusal :=
  .next (goodWrite cs (0x20 + n.val) words 0 s)

/-- H_QDATA_READ: words of an outbound queue are read, and consumed when the frame ends clean (R71). -/
def execHQdataRead (cs : Cs) (n : Mb) (count : Nat) (clean : Bool) (s : State) : Host.Outcome State Fault Refusal :=
  .next (goodRead cs false (0x20 + n.val) count clean s)

/-- H_QDATA_REPEAT: the last consumed burst is returned again (R71). -/
def execHQdataRepeat (cs : Cs) (n : Mb) (count : Nat) (s : State) : Host.Outcome State Fault Refusal :=
  .next (goodRead cs true (0x20 + n.val) count true s)

/-- H_DOORBELL: the words committed so far are offered (R91). -/
def execHDoorbell (cs : Cs) (v : Word) (s : State) : Host.Outcome State Fault Refusal :=
  .next (goodWrite cs 0x08 [v] 0 s)

/-- H_DB_OUT_CLEAR: a W1C write of H_DB_OUT; `setting` are the bits that the firmware sets in the same core cycle (R94). -/
def execHDbOutClear (cs : Cs) (v setting : Word) (s : State) : Host.Outcome State Fault Refusal :=
  .next (goodWrite cs 0x09 [v] setting s)

/-- H_COLLIDE_CLEAR: a W1C write of H_COLLIDE (R93). -/
def execHCollideClear (cs : Cs) (v setting : Word) (s : State) : Host.Outcome State Fault Refusal :=
  .next (goodWrite cs 0x0A [v] setting s)

/-- H_IRQ_STATUS_CLEAR: a W1C write of H_IRQ_STATUS (R81). -/
def execHIrqStatusClear (v setting : Word) (s : State) : Host.Outcome State Fault Refusal :=
  .next (goodWrite .ns 0x04 [v] setting s)

/-- H_IRQ_MASK_WRITE (R80, R81). -/
def execHIrqMaskWrite (v : Word) (s : State) : Host.Outcome State Fault Refusal := .next (goodWrite .ns 0x05 [v] 0 s)

/-- Both interfaces read H_LOCK in one core cycle: the SPI's read takes effect first, and where the lock was free the bridge
reads 0x00 as well (R83). -/
def readLockBoth (s : State) : State :=
  let t := readBy .spi 0x06 s
  if !bridgeUp s then t
  else if s.link.lock = none ∧ linkUp s then { t with link := { t.link with bridgeWord := 0 } }
  else bridgeReg 0x06 t

/-- H_LOCK_ACQUIRE: a read of H_LOCK by one interface, or by both in one core cycle (R82, R83). -/
def execHLockAcquire (r : LockReaders) (s : State) : Host.Outcome State Fault Refusal :=
  match r with
  | .spi => .next (readBy .spi 0x06 s)
  | .bridge => .next (readBy .bridge 0x06 s)
  | .both => .next (readLockBoth s)

/-- H_LOCK_RELEASE: a write of H_LOCK (R82). -/
def execHLockRelease (r : Reader) (v : Word) (s : State) : Host.Outcome State Fault Refusal :=
  match r with
  | .spi => .next (goodWrite .ns 0x06 [v] 0 s)
  | .bridge => .next (if bridgeUp s then releaseLock .bridge v s else s)

/-- H_RESET: the reset key (R77). BOOTSEL's level is seen by the restart that the key starts (R43, R54). -/
def execHReset (cs : Cs) (key : ResetKey) (s : State) : Host.Outcome State Fault Refusal :=
  .next (goodWrite cs 0x07 [key.word] 0
    (if linkUp s ∧ cs = .s ∧ key.word = 0x0000A5C3 then seeBootsel key.bootsel s else s))

/-- H_LINK_ERR_READ: the read clears the counts (R77). -/
def execHLinkErrRead (r : Reader) (s : State) : Host.Outcome State Fault Refusal := .next (readBy r 0x0B s)

/-- H_OPTIME_L_READ (R78). -/
def execHOptimeLRead (r : Reader) (s : State) : Host.Outcome State Fault Refusal := .next (readBy r 0x0E s)

/-- H_OPTIME_H_READ (R78). -/
def execHOptimeHRead (r : Reader) (s : State) : Host.Outcome State Fault Refusal := .next (readBy r 0x0F s)

/-- H_REG_WRITE: a write of one direct register (R74, R75). -/
def execHRegWrite (cs : Cs) (addr : Fin 64) (v : Word) (s : State) : Host.Outcome State Fault Refusal :=
  .next (goodWrite cs addr.val [v] 0 s)

/-- NIRQ_PULSE_END: the pulse of 1 µs on nIRQ ends (R80). -/
def execNirqPulseEnd (s : State) : Host.Outcome State Fault Refusal :=
  .next { s with link := { s.link with pulseOut := false } }

end Sys2Proof.Machine
end

