-- ==== Sys2Proof/Machine/Sharing.lean ====
section
/-! DEFINITION. Sharing among rectifiers, shedding steps and restorations, and the drum's words (chapters 8 and 10). -/

namespace Sys2Proof.Machine

/-- The firmware acts: the end of BOOT is behind it, a Puppeteer holds the token, and no debugger holds it halted (R227,
R285). -/
def fwActs (s : State) : Bool :=
  s.sys.phase == .run && anyPup s && !s.svc.halted && !s.tin.override && s.sys.mode != .boot

/-! ### The drum in force (Tables 10.4 and 10.5) -/

/-- The drum pairs in force that differ from 0, by rising number. -/
def drumPairs (s : State) : List (Nat × Nat) :=
  (s.pf.filter fun p => decide (Prm.DRM_PAIR0 ≤ p.1 ∧ p.1 < Prm.DRM_PAIR0 + 128)).map fun p => (p.1 - Prm.DRM_PAIR0, p.2.toNat)

/-- The word of an entry of the drum in force (R288). -/
def drumWord (s : State) (e : Nat) : Nat :=
  match (drumPairs s).find? fun p => p.1 == e / 2 with
  | some p => if e % 2 = 0 then p.2 / 2 ^ 32 else p.2 % 2 ^ 32
  | none => 0

/-- PIN of an entry. -/
def drumPin (w : Nat) : Nat := fieldOf w 20 12

/-- ACTION of an entry. -/
def drumAction (w : Nat) : Nat := fieldOf w 17 3

/-- ARG of an entry. -/
def drumArg (w : Nat) : Nat := fieldOf w 0 7

/-- The entry acts in the cycle in progress (R282). -/
def drumTurn (s : State) (w : Nat) : Bool := s.mb.cycle % 2 ^ fieldOf w 14 3 == fieldOf w 7 7

/-- The words of the drum in force, without the entries skipped for a parity error. -/
def drumWords (s : State) : List Nat :=
  (drumPairs s).flatMap fun p =>
    (if s.mb.skip.any (fun e => e.val == 2 * p.1) then [] else [p.2 / 2 ^ 32])
      ++ (if s.mb.skip.any (fun e => e.val == 2 * p.1 + 1) then [] else [p.2 % 2 ^ 32])

/-- The drum holds an entry of an action whose argument satisfies `p`. -/
def drumHolds (s : State) (action : Nat) (p : Nat → Bool) : Bool :=
  (drumWords s).any fun w => drumAction w == action && p (drumArg w)

/-- The clock of a pin of the cycle in progress (R270). -/
def pinClock (s : State) (pin : Nat) : Nat := s.mb.boundaryAt + pin * 400000000000 / (4096 * max 1 s.mb.cur)

/-! ### The sharing set and its correction (R235 to R238) -/

/-- BUS.SHARE_Wn. -/
def shareW (s : State) (c : Ch) : Nat := pn s (Prm.BUS_SHARE_W0 + c.val)

/-- w_eff of a rectifier: it rises linearly over BUS.WALKIN_MS from the grant of its walk-in (R238). -/
def wEff (s : State) (c : Ch) : Rat :=
  match s.bus.walk.get c with
  | .out => 0
  | .queued => 0
  | .full => (shareW s c : Rat)
  | .ramp t0 =>
    let span := pn s Prm.BUS_WALKIN_MS * clkMs
    if span ≤ s.clock - t0 then (shareW s c : Rat)
    else (shareW s c : Rat) * (((s.clock - t0 : Nat) : Rat) / (span : Rat))

/-- The channel's rectifier is a member of S (R235, R237). One switched off under R244 is none. -/
def inSet (s : State) (c : Ch) : Bool :=
  roleOf s c == .source && ((s.chan c).st == .on || (s.chan c).st == .diode) && shareW s c != 0
    && (match s.bus.walk.get c with
      | .ramp _ => true | .full => true
      | .out => false | .queued => false)
    && devAnswers s c && !s.bus.rectOff.get c

/-- The sharing set S. -/
def shareSet (s : State) : List Ch := allCh.filter (inSet s)

/-- The sum of w_eff over a list of channels. -/
def wSum (s : State) (l : List Ch) : Rat := l.foldl (fun n c => n + wEff s c) 0

/-- The sum of CHn.I_MA over a list of channels. -/
def iSum (s : State) (l : List Ch) : Int := l.foldl (fun n c => n + (s.chan c).iMa) 0

/-- The sharing error of a member of S in mA. -/
def shareErr (s : State) (l : List Ch) (c : Ch) : Rat :=
  if wSum s l = 0 then 0 else ((s.chan c).iMa : Rat) - (iSum s l : Rat) * wEff s c / wSum s l

/-- The new trim of a member of S, before the mean is taken off. -/
def trimStep (s : State) (l : List Ch) (c : Ch) : Int :=
  let d := ratNear (-(shareErr s l c) * (pget s Prm.BUS_SHARE_KP : Rat) / 1000000)
  let step := pget s Prm.BUS_SHARE_STEP_MV
  let top := pget s Prm.BUS_SHARE_TRIM_MV
  clampI (-top) top (s.bus.trim.get c + clampI (-step) step d)

/-- The correction of the trims (R235): with fewer than two members, or with BUS.SHARE_EN = 0, none is made, nor while the Share
Bus is silent for want of XIN (R226, R237). -/
def shareCorrect (s : State) : State :=
  let l := shareSet s
  if l.length < 2 ∨ pget s Prm.BUS_SHARE_EN ≠ 1 ∨ s.sys.clkFault then { s with bus := { s.bus with shareDue := false } }
  else
    let worst : Rat := l.foldl (fun m c => max m |shareErr s l c|) 0
    let raw := l.map fun c => (c, trimStep s l c)
    let m := Int.tdiv (raw.foldl (fun n p => n + p.2) 0) l.length
    let trim := raw.foldl (fun v p => vput v p.1 (p.2 - m)) s.bus.trim
    { s with bus := { s.bus with
      shareDue := false, trim := trim, shareErr := min (2 ^ 32 - 1) (ratFree 10 worst).toNat } }

/-- RECT_SET to every bound rectifier that answers (R451). -/
def sendSets (s : State) : State := forEach allCh sendSet s

/-- No probe is applied: in BRIDGE and CUTOFF, during a test, or while a limit is in force (R425). -/
def probeBarred (s : State) : Bool :=
  s.sys.mode == .bridge || s.sys.mode == .cutoff || s.bat.test.isSome || s.bus.limit.toList.any Option.isSome

/-- The probe offset of the present sign (R425). -/
def probeOffset (s : State) : Int :=
  if probeBarred s then 0
  else s.mb.pat.toList.getD (pn s Prm.BAT_PROBE_PATTERN) 0 * pget s Prm.BAT_PROBE_MV

/-! ### Steps (R231, R232) -/

/-- BUS.STEP_GAP_MS has passed since the last step. -/
def stepGapOver (s : State) : Bool :=
  match s.bus.stepAt with
  | some t => decide (pn s Prm.BUS_STEP_GAP_MS * clkMs ≤ s.clock - t)
  | none => true

/-- The moment of a pending step: the Marionettes carry it out at their first tick after it, after the overrides where those
stand (R231, R252, R283, R291). -/
def carryStep (s : State) : State :=
  if !s.bus.stepPending || !stepGapOver s || decide (4 ≤ s.bus.stage) then s
  else { s with bus := { s.bus with stepPending := false, stepNow := some (max (s.bus.stage + 1) (s.bus.stepNow.getD 0)) } }

/-- The moment of a granted restoration, which the Marionettes carry out at their first tick after it (R233, R283). -/
def latchRestore (s : State) : State := { s with bus := { s.bus with restoreNow := s.bus.restore.isSome } }

/-! ### Restorations (R233, R588, R589) -/

/-- A power in mW as W. -/
def wattsOf (mw : Int) : Nat := (ratFree 13 ((mw : Rat) / 1000)).toNat

/-- The request of a restoration of the present stage (Table 15.2, R589). -/
def restoreReq (s : State) : Op :=
  let l := stageChs s s.bus.stage
  let bridge := s.sys.mode == .bridge
  let counted := if bridge then l else l.filter fun c => !s.bus.strobeSet.testBit c.val
  { Op.blank Opn.RESTORE with
    map := bitsOf allCh (fun c => l.contains c), prio := 1
    src := if bridge then 0 else wattsOf (l.foldl (fun n c => n - (s.chan c).pLast) 0)
    bat := reserveFor s (counted.foldl (fun n c => n - (s.chan c).iLast) 0)
    args := [s.bus.stage] }

/-- BUS.RESTORE_GAP_MS has passed since a moment. -/
def restoreGapOver (s : State) (t : Option Nat) : Bool :=
  match t with
  | some t => decide (pn s Prm.BUS_RESTORE_GAP_MS * clkMs ≤ s.clock - t)
  | none => true

/-- The firmware files the restoration of the present stage where the mode and the gaps allow it (R233). In BRIDGE it files
only what the arbiter admits. -/
def fileRestore (s : State) : State :=
  let m := s.sys.mode
  let o := restoreReq s
  let busy := s.bus.restore.isSome || (s.adm.queue ++ s.adm.grants).any fun p => p.code == Opn.RESTORE
  let gaps := restoreGapOver s s.bus.restoreAt && restoreGapOver s s.bus.leftAt && restoreGapOver s s.bus.restoreTry
  if s.bus.stage = 0 ∨ busy ∨ !gaps ∨ s.bus.stepPending ∨ s.bus.stepNow.isSome then s
  else if m = .online ∨ m = .recharge ∨ m = .maintain then
    fileOp o { s with bus := { s.bus with restoreTry := some s.clock } }
  else if m = .bridge then
    match judge s (blockedBy s o) o with
    | .grant _ => fileOp o { s with bus := { s.bus with restoreTry := some s.clock } }
    | _ => s
  else s

end Sys2Proof.Machine
end

