-- ==== Sys2Proof/Machine/Drum.lean ====
section
/-! DEFINITION. The drum of the Music Box: its entries' actions (R282 to R292). -/

namespace Sys2Proof.Machine

/-- The Music Box runs: from the configuration step on, in SAFE-KEEP while a Puppeteer runs (Table 2.3). -/
def mbRuns (s : State) : Bool :=
  s.cnv.on && s.sys.mode != .recovery && s.sys.mode != .dormant && !(inSafeKeep s && !anyPup s)

/-- An entry of the drum in force acts in the cycle in progress (R282, R289). -/
def entryActs (s : State) (e : Fin 256) : Bool :=
  drumAction (drumWord s e.val) != 0 && drumTurn s (drumWord s e.val) && !s.mb.skip.contains e

/-- The acting entries of a pin whose action bears on the setpoint message: PROBE and SETPOINT, by rising number. -/
def pinEntries (s : State) (pin : Nat) : List (Fin 256) :=
  (List.finRange 256).filter fun e =>
    let w := drumWord s e.val
    (drumAction w == 3 || drumAction w == 4) && drumPin w == pin && entryActs s e

/-- The setpoint message of a pin, begun once its last entry has acted (R285, R286): a SETPOINT entry with SHARE carries
the correction that is due, a PROBE entry with APPLY the new probe offset. -/
def pinMessage (e : Fin 256) (s : State) : State :=
  let l := pinEntries s (drumPin (drumWord s e.val))
  let ws := l.map fun e => drumWord s e.val
  let apply := ws.any fun w => drumAction w == 3 && (drumArg w).testBit 4
  let set := ws.any fun w => drumAction w == 4
  let share := ws.any fun w => drumAction w == 4 && (drumArg w).testBit 0
  if l.getLast? ≠ some e ∨ !fwActs s ∨ !(apply || set) then s
  else
    let s := if share ∧ s.bus.shareDue then shareCorrect s else s
    let s := if apply then { s with bat := { s.bat with probe := probeOffset s } } else s
    sendSets s

/-- The sign of a pattern after an operation: 1 sets +1, 2 sets -1, 3 sets 0, 0 toggles. From 0 a toggle goes to the sign
that `up` says, since no rule names it. -/
def patternOp (op : Nat) (up : Bool) (v : Int) : Int :=
  match op with
  | 1 => 1
  | 2 => -1
  | 3 => 0
  | _ => if v = 0 then (if up then 1 else -1) else -v

/-- The banks that the argument of a TRACK entry names. -/
def trackBanks (arg : Nat) : List (Fin 12) :=
  (List.finRange 12).filter fun b => arg % 16 == b.val || arg % 16 == 15

/-- CONVERT: a start request to the converter's sequencer (Table 10.5). -/
def convertEntry (arg : Nat) (s : State) : State := requestStart ⟨arg / 32 % 4, by omega⟩ ⟨arg % 32, by omega⟩ s

/-- PROBE: the sign of the pattern changes (R283, R284). -/
def probeEntry (arg : Nat) (s : State) : State :=
  let k : Fin 4 := ⟨arg % 4, by omega⟩
  let op := fieldOf arg 2 2
  let (free, s) := if op = 0 ∧ s.mb.pat.get k = 0 then drawWord s else (0, s)
  { s with mb := { s.mb with pat := vmod s.mb.pat k (patternOp op (free.toNat % 2 == 0)) } }

/-- SHED: the moment of a pending step, and of a granted restoration (R231, R233, R283). -/
def shedEntry (arg : Nat) (s : State) : State :=
  let s := if arg.testBit 0 then carryStep s else s
  if arg.testBit 1 then latchRestore s else s

/-- SWITCH: the moment of the held CH_CTRL action of the channel (R290). -/
def switchEntry (arg : Nat) (s : State) : State := if h : arg % 32 < 24 then heldMoment ⟨arg % 32, h⟩ s else s

/-- What the hardware does at an entry (Table 10.5). -/
def entryHw (w : Nat) (s : State) : State :=
  match drumAction w with
  | 1 => convertEntry (drumArg w) s
  | 2 => forEach (trackBanks (drumArg w)) closeBank s
  | 3 => probeEntry (drumArg w) s
  | 5 => shedEntry (drumArg w) s
  | 6 => switchEntry (drumArg w) s
  | 7 => setNote (drumArg w % 16) s
  | _ => s

/-! ### Dispatch (R287) -/

/-- The place of an entry in the cycle: by pin, and at one pin by number. -/
def entryKey (s : State) (e : Fin 256) : Nat := drumPin (drumWord s e.val) * 256 + e.val

/-- An entry put in its place among entries in order. -/
def putInOrder (s : State) (e : Fin 256) : List (Fin 256) → List (Fin 256)
  | [] => [e]
  | x :: t => if entryKey s e < entryKey s x then e :: x :: t else x :: putInOrder s e t

/-- The acting entries still to be dispatched up to a place in the cycle, in order. -/
def entriesTo (s : State) (key : Nat) : List (Fin 256) :=
  ((List.finRange 256).filter fun e =>
    decide (s.mb.nextKey ≤ entryKey s e ∧ entryKey s e ≤ key) && entryActs s e).foldr (putInOrder s) []

/-- One entry is dispatched at its pin: the hardware acts, and the firmware's message of the pin follows its last entry. -/
def runEntry (e : Fin 256) (s : State) : State :=
  let w := drumWord s e.val
  let key := entryKey s e
  let t := pinMessage e (entryHw w (passTo (pinClock s (drumPin w)) s))
  { t with mb := { t.mb with nextKey := key + 1 } }

/-- Every entry up to a place is dispatched, each once in the cycle and in order. -/
def dispatchTo (key : Nat) (s : State) : State :=
  if mbRuns s then forEach (entriesTo s key) runEntry s else s

/-- The pin of an entry is reached, when the entry has the action named and acts in this cycle: it is dispatched after every
entry in front of it. One dispatched before, or at a boundary, does not act again. -/
def atEntry (e : Fin 256) (action : Nat) (s : State) : State :=
  if drumAction (drumWord s e.val) == action && entryActs s e then dispatchTo (entryKey s e) s else s

/-- The entries of pin 0, at the boundary: what the hardware does, before the firmware's part of the boundary (R287). -/
def dispatchZero (s : State) : State :=
  if mbRuns s then
    let s := { s with mb := { s.mb with nextKey := 0 } }
    let t := forEach (entriesTo s 255) (fun e s => entryHw (drumWord s e.val) s) s
    { t with mb := { t.mb with nextKey := 256 } }
  else s

/-- Pin 0 carries a setpoint message of the firmware. -/
def zeroMessage (s : State) : Bool := mbRuns s && (pinEntries s 0).any fun e =>
  let w := drumWord s e.val
  drumAction w == 4 || (drumArg w).testBit 4

/-- The message of pin 0, after the firmware's part of the boundary (R236, R286). -/
def messageZero (s : State) : State :=
  if !mbRuns s then s
  else match (pinEntries s 0).getLast? with
    | some e => pinMessage e s
    | none => s

/-- DRUM_CONVERT (Table 10.5). -/
def execDrumConvert (e : Fin 256) (s : State) : Host.Outcome State Fault Refusal := .next (atEntry e 1 s)

/-- DRUM_TRACK: the windows of the bank, or of all, close and open anew (R330). -/
def execDrumTrack (e : Fin 256) (s : State) : Host.Outcome State Fault Refusal := .next (atEntry e 2 s)

/-- DRUM_PROBE: the pattern's sign changes at the pin, and with APPLY the probe setpoint follows (R283, R286). -/
def execDrumProbe (e : Fin 256) (s : State) : Host.Outcome State Fault Refusal := .next (atEntry e 3 s)

/-- DRUM_SETPOINT: the rectifier setpoints are sent, with the correction due when SHARE is set (R235, R283). -/
def execDrumSetpoint (e : Fin 256) (s : State) : Host.Outcome State Fault Refusal := .next (atEntry e 4 s)

/-- DRUM_SHED: the moment of a pending step, and of a granted restoration (R231, R233, R283). -/
def execDrumShed (e : Fin 256) (s : State) : Host.Outcome State Fault Refusal := .next (atEntry e 5 s)

/-- DRUM_SWITCH: the moment of the held CH_CTRL action of the channel (R290). -/
def execDrumSwitch (e : Fin 256) (s : State) : Host.Outcome State Fault Refusal := .next (atEntry e 6 s)

/-- DRUM_NOTIFY: a note is set (R292). -/
def execDrumNotify (e : Fin 256) (s : State) : Host.Outcome State Fault Refusal := .next (atEntry e 7 s)

/-- SHED_RESTORE: a granted restoration lowers the stage and returns the channels of its map (R588). -/
def execShedRestore (s : State) : Host.Outcome State Fault Refusal := .next (reportCh s (carryRestore s))

end Sys2Proof.Machine
end

