-- ==== Sys2Proof/Machine/MusicBox.lean ====
section
/-! DEFINITION. The references of the Music Box, the mains detector and the lock states (R272 to R281). -/

namespace Sys2Proof.Machine

/-- The converters' scan runs, and with it the mains detector: in every mode but RECOVERY and DORMANT, from the
configuration step on (R299). -/
def scanRuns (s : State) : Bool := s.cnv.on && s.sys.mode != .recovery && s.sys.mode != .dormant

/-! ### Qualification (R274) -/

/-- The period corresponds to a frequency from 40 Hz to 70 Hz. -/
def periodOk (ns : Nat) : Bool := decide (ns * 40 ≤ 1000000000 ∧ 1000000000 ≤ ns * 70)

/-- The period differs from the one before it by no more than 2 %. -/
def periodSteady (last ns : Nat) : Bool := decide (100 * (ns - last) ≤ 2 * last ∧ 100 * (last - ns) ≤ 2 * last)

/-- A whole period between valid crossings or edges reaches a source that needs `need` good ones. A period out of range
ends the run; one that differs too much from the one before it begins a new run. -/
def Qual.period (q : Qual) (need ns : Nat) : Qual :=
  if !periodOk ns then
    { q with good := 0, last := ns, bad := q.bad + 1, periods := if q.ok then q.periods else [] }
  else
    let steady := q.good == 0 || periodSteady q.last ns
    let good := if steady then min 255 (q.good + 1) else 1
    { q with
      good := good, last := ns, bad := 0, ok := q.ok || decide (need ≤ good)
      periods := if steady then (ns :: q.periods).take 8 else if q.ok then q.periods else [ns] }

/-- The source is lost: it has to qualify anew. -/
def Qual.lose (q : Qual) : Qual := { q with good := 0, periods := [], ok := false }

/-- The mean frequency of the last qualified periods in Hz/1000 (DRM.REF_FREQ). -/
def Qual.freq (q : Qual) : Nat :=
  let total : Nat := q.periods.foldl (fun a b => a + b) 0
  if total = 0 then 0 else (ratFree 11 (((1000000000000 * q.periods.length : Nat) : Rat) / (total : Rat))).toNat

/-! ### The reference in use (R272, R279, R280) -/

/-- The reference that DRM.SOURCE selects among the qualified sources: 0 none, 1 AC, 2 SYNC (Table 10.2). -/
def selRef (s : State) : Nat :=
  match pn s Prm.DRM_SOURCE with
  | 0 => if s.mb.ac.ok then 1 else 0
  | 1 => if s.mb.sync.ok then 2 else 0
  | 2 => if s.mb.ac.ok then 1 else if s.mb.sync.ok then 2 else 0
  | _ => 0

/-- The qualification of a reference. -/
def refQual (s : State) (r : Nat) : Qual := if r = 1 then s.mb.ac else s.mb.sync

/-- The error of a virtual pin at the reference pin 0, from -2048 to 2047 (R278). -/
def wrapPin (p : Int) : Int := (p + 2048) % 4096 - 2048

/-- The reference in use is lost: HOLDOVER at once (R279). -/
def enterHoldover (s : State) : State :=
  { s with mb := { s.mb with ref := 0, lock := .holdover, holdCnt := 0, lastRef := s.mb.refFreq, refFreq := 0 } }

/-- A source is taken up: the cycle follows it in SLEW (Table 10.3). -/
def enterSlew (r : Nat) (s : State) : State := { s with mb := { s.mb with ref := r, lock := .slew } }

/-- The reference follows the qualifications. While a new DRM.SOURCE awaits its boundary, only the loss of the reference
in use acts (R272). -/
def followRef (s : State) : State :=
  let r0 := s.mb.ref
  let r1 := if s.mb.srcNew then (if r0 ≠ 0 ∧ (refQual s r0).ok then r0 else 0) else selRef s
  let s :=
    if r1 = 0 then (if r0 = 0 then s else enterHoldover s)
    else if r1 = r0 then s
    else enterSlew r1 s
  if s.mb.ref = 0 then s else { s with mb := { s.mb with refFreq := (refQual s s.mb.ref).freq } }

/-- A reference just taken up out of FREE or HOLDOVER shows the virtual pin at its pin 0 (Table 10.8). -/
def firstError (old : State) (s : State) : State :=
  if old.mb.ref = 0 ∧ s.mb.ref ≠ 0 then
    { s with mb := { s.mb with phaseErr := wrapPin (pinNow s + pget s Prm.DRM_PHASE_OFS) } }
  else s

/-- DRM.MAINS changes (R275): the outputs follow it, and its record is written. -/
def setMains (up : Bool) (s : State) : State :=
  let f := s.mb.refFreq
  let s := { s with mb := { s.mb with mains := up } }
  let s := if up then s
    else { s with mb := { s.mb with lossCount := sat32 (s.mb.lossCount + 1), lostAt := s.clock, ac := s.mb.ac.lose } }
  driveOutputs (logEvent Evt.MAINS 1 objNone [b2n up, f] s)

/-- The instant of a crossing or edge that comes `ns` after the one before it; the first of all comes at the present clock. -/
def edgeTime (s : State) (q : Qual) (ns : Nat) : Nat :=
  match q.edgeAt with
  | some t => t + ns * 2 / 5
  | none => s.clock

/-- A valid crossing or edge: its instant, and the whole period it ends (R273, R274). -/
def Qual.edge (q : Qual) (need ns at_ : Nat) : Qual := { q.period need ns with edgeAt := some at_ }

/-- A span of pins of the cycle in force, in core clocks (R270). -/
def pinSpan (s : State) (pins : Nat) : Nat := pins * 400000000000 / (4096 * max 1 s.mb.cur)

/-- The mains are declared lost (R275): the cycle goes to HOLDOVER or to SYNC, and the Hatan to BRIDGE (Table 2.2, R232). -/
def declareLost (s : State) : State := loseMains (followRef (setMains false s))

/-- The input rises from below -DRM.ACS_MIN_MV / 4 to above DRM.ACS_MIN_MV / 4 (R273). -/
def crossingValid (s : State) (fromMv toMv : Int) : Bool :=
  let m := pget s Prm.DRM_ACS_MIN_MV
  decide (4 * fromMv < -m ∧ m < 4 * toMv)

/-- AC_CROSSING: a positive-going crossing, `x.periodNs` after the valid one before it; a valid one may qualify the AC input, and the
DRM.LOCK_CYC-th period in a row outside 40 Hz to 70 Hz loses the mains (R273 to R275). -/
def execAcCrossing (x : Crossing) (s : State) : Host.Outcome State Fault Refusal :=
  if !scanRuns s || !crossingValid s x.fromMv x.toMv then .next s
  else
    let old := passTo (edgeTime s s.mb.ac x.periodNs) s
    let q := old.mb.ac.edge (pn s Prm.DRM_LOCK_CYC) x.periodNs (edgeTime s s.mb.ac x.periodNs)
    let t := firstError old (followRef { old with mb := { old.mb with ac := q } })
    .next (if t.mb.mains && decide (pn s Prm.DRM_LOCK_CYC ≤ q.bad) then declareLost t
      else if q.ok && !t.mb.mains then setMains true t else t)

/-- An edge of SYNC_IN is valid when the input was low and stays high for DRM.SYNC_FILT_US (R273). -/
def edgeValid (s : State) (lowNs highNs : Nat) : Bool :=
  let f := pn s Prm.DRM_SYNC_FILT_US * 1000
  decide (f ≤ lowNs ∧ f ≤ highNs)

/-- SYNC_EDGE: a rising edge of SYNC_IN, `x.periodNs` after the valid one before it; DRM.LOCK_CYC periods out of range lose the
source (R273, R274, R279). -/
def execSyncEdge (x : SyncRise) (s : State) : Host.Outcome State Fault Refusal :=
  if !scanRuns s || !edgeValid s x.lowNs x.highNs then .next s
  else
    let old := passTo (edgeTime s s.mb.sync x.periodNs) s
    let q := old.mb.sync.edge (pn s Prm.DRM_LOCK_CYC) x.periodNs (edgeTime s s.mb.sync x.periodNs)
    let q := if q.ok ∧ pn s Prm.DRM_LOCK_CYC ≤ q.bad then q.lose else q
    .next (firstError old (followRef { old with mb := { old.mb with sync := q } }))

/-- MAINS_LOST: the Music Box declares the mains lost, by a criterion of R275: the magnitude below DRM.ACS_MIN_MV for a cycle of
pins, two and a half cycles without a valid crossing, whose end the clock is carried to, or the periods counted. -/
def execMainsLost (cause : LossCause) (s : State) : Host.Outcome State Fault Refusal :=
  if !scanRuns s || !s.mb.mains then .next s
  else match cause with
    | .frequency => .next (if pn s Prm.DRM_LOCK_CYC ≤ s.mb.ac.bad then declareLost s else s)
    | .amplitude pins => .next (if 4096 ≤ pins then declareLost s else s)
    | .crossings => .next (declareLost (passTo (s.mb.ac.edgeAt.getD s.clock + pinSpan s 10240) s))

/-- SYNC_LOST: 6144 pins pass without a valid edge (R279); the clock is carried to their end. -/
def execSyncLost (s : State) : Host.Outcome State Fault Refusal :=
  if !scanRuns s || !s.mb.sync.ok then .next s
  else
    let t := passTo (s.mb.sync.edgeAt.getD s.clock + pinSpan s 6144) s
    .next (followRef { t with mb := { t.mb with sync := t.mb.sync.lose } })

/-! ### The boundary's lock update (R272, R277 to R279) -/

/-- The frequency of a cycle of 4096 + `g` reference pins, held to 40 Hz to 70 Hz, in Hz/1000 (R277). -/
def slewFreq (f : Nat) (g : Int) : Nat :=
  (clampI 40000 70000 (ratFree 14 (((f * 4096 : Nat) : Rat) / ((4096 + g : Int) : Rat)))).toNat

/-- A new DRM.SOURCE takes effect at the boundary (R272). -/
def takeSource (s : State) : State :=
  if !s.mb.srcNew then s
  else
    let s := { s with mb := { s.mb with srcNew := false } }
    let r := selRef s
    if r = 0 then { s with mb := { s.mb with ref := 0, lock := .free, refFreq := 0 } }
    else { enterSlew r s with mb := { (enterSlew r s).mb with refFreq := (refQual s r).freq } }

/-- The distance from an instant to the next reference pin 0, in pins of the reference period, from -2048 to 2047: the pins 0 lie
at the crossings or edges plus DRM.PHASE_OFS (R272, R277, Table 10.2). The spec does not say how a fraction of a pin is rounded. -/
def refGap (s : State) (at_ : Nat) : Int :=
  match (refQual s s.mb.ref).edgeAt with
  | some t =>
    let pins : Rat := ((t : Int) - (at_ : Int) : Int) * (4096 * (s.mb.refFreq : Rat)) / 400000000000
    wrapPin (ratFree 25 pins + pget s Prm.DRM_PHASE_OFS)
  | none => 0

/-- The lock state and the frequency of the coming cycle. `g` is the distance to the next reference pin 0 in pins, and
`newOfs` says that a new DRM.PHASE_OFS takes effect. -/
def lockUpdate (g : Int) (newOfs : Bool) (s : State) : State :=
  let s := takeSource s
  match s.mb.lock with
  | .free => { s with mb := { s.mb with cur := nominal s } }
  | .holdover =>
    if s.mb.holdCnt = 0 then
      { s with mb := { s.mb with holdCnt := 1, cur := if s.mb.lastRef = 0 then s.mb.cur else s.mb.lastRef } }
    else { s with mb := { s.mb with lock := .free, holdCnt := 0, cur := nominal s } }
  | .slew =>
    let g := wrapPin g
    let step := clampI (-(pget s Prm.DRM_SLEW_PINS)) (pget s Prm.DRM_SLEW_PINS) g
    let lock := if g.natAbs ≤ 2 ∧ !newOfs then Lock.locked else .slew
    { s with mb := { s.mb with phaseErr := g, lock := lock, cur := slewFreq s.mb.refFreq step } }
  | .locked =>
    let g := wrapPin g
    let step := clampI (-(pget s Prm.DRM_SLEW_PINS)) (pget s Prm.DRM_SLEW_PINS) g
    let lock := if 16 < g.natAbs ∨ newOfs then Lock.slew else .locked
    { s with mb := { s.mb with phaseErr := g, lock := lock, cur := slewFreq s.mb.refFreq step } }

end Sys2Proof.Machine
end

