-- ==== Sys2Proof/Machine/BatOps.lean ====
section
/-! DEFINITION. The battery management: charge targets, rectifier limits, estimate, references, tests, rejoin and end of
discharge (chapter 16). -/

namespace Sys2Proof.Machine

/-- Changes one string. -/
def modStr (k : Str) (f : Strg → Strg) (s : State) : State :=
  { s with bat := { s.bat with s := vmod s.bat.s k f } }

/-- A string. -/
def State.str (s : State) (k : Str) : Strg := s.bat.s.get k

/-- The channel of a bound string conducts in ARMED or ON. -/
def strOn (s : State) (c : Ch) : Bool := (s.chan c).st == .armed || (s.chan c).st == .on

/-- Applies a change for every bound string and its channel, in rising string order. -/
def forStrings (f : Str → Ch → State → State) (s : State) : State :=
  forEach (boundStr s) (fun k s =>
    match boundCh s k with
    | some c => f k c s
    | none => s) s

/-! ### Targets and phase (R420, R421) -/

/-- I_lim,k in mA. -/
def iLimOf (s : State) (k : Str) (c : Ch) : Int := min (strp s k Strp.ICHG_MA) (chp s c Chp.CHG_MAX_MA)

/-- V_tgt,k in mV. -/
def vTgtOf (s : State) (k : Str) : Int :=
  ratFloor ((strp s k Strp.CELLS : Rat)
    * ((strp s k Strp.V_FLOAT_CELL : Rat) + (strp s k Strp.TC_UV_K : Rat) * (strTemp s k - 25) / 1000))

/-- The targets of R144 are written. -/
def writeTargets (s : State) : State :=
  forStrings (fun k c s => modStr k (fun x => { x with iLim := iLimOf s k c, vTgt := vTgtOf s k }) s) s

/-- The string is discharging: its channel carries current into the bus above C_learn / 200 mA. -/
def discharging (s : State) (k : Str) (c : Ch) : Bool :=
  decide (((strCap s k : Rat)) / 200 < ((s.chan c).iMa : Rat)) && conducts s c

/-- The string takes part in the running test. -/
def inTest (s : State) (k : Str) : Bool :=
  match s.bat.test with
  | some t => t.part.contains k
  | none => false

/-- Sk.PHASE: the first row that holds in the order of R420. -/
def phaseOf (s : State) (k : Str) : Nat :=
  match boundCh s k with
  | none => 0
  | some c =>
    let x := s.chan c
    let b := s.str k
    if x.st = .disabled ∨ x.oos ∨ (s.group (groupOf c)).oos ∨ x.st = .isolated then 0
    else if inTest s k then 4
    else if b.rejoin then 5
    else if b.ended then 6
    else if b.low then 7
    else if !conducts s c then 8
    else if discharging s k c then 3
    else if b.floatOk then 1
    else if strOn s c then 2
    else 8

/-- The phases are evaluated again. A string whose channel has closed has left ENDED and LOW; one whose rejoin inrush is
over without closing is no longer rejoining. -/
def evalPhases (s : State) : State :=
  let s := forStrings (fun k c s =>
    let st := (s.chan c).st
    modStr k (fun x =>
      if (st = .armed ∨ st = .on) ∧ !(x.atEnd ∧ s.sys.mode = .cutoff) then
        { x with ended := false, low := false, rejoin := false, rejoinLow := false, rejoinFrom := none }
      else if st = .wait ∨ st = .inrush then x
      else { x with rejoin := false, rejoinLow := false }) s) s
  forEach allStr (fun k s => modStr k (fun x => { x with phase := phaseOf s k }) s) s

/-! ### Float (R423) -/

/-- The float criteria as they stand at a boundary. -/
def floatNow (s : State) (k : Str) (c : Ch) : Bool :=
  let x := s.chan c
  strOn s c && decide ((s.str k).vTgt - strp s k Strp.CELLS * 10 ≤ x.vfar) && decide (-x.iMa ≤ strp s k Strp.IFLOAT_MA)

/-- The time for which the criteria have held runs on, or breaks. -/
def trackFloat (s : State) : State :=
  forStrings (fun k c s =>
    let ok := floatNow s k c
    modStr k (fun x =>
      if ok then { x with floatFrom := some (x.floatFrom.getD (optime s)) }
      else { x with floatFrom := none, floatOk := false }) s) s

/-- Every bound string in phase BULK, FLOAT or REJOIN meets its float criteria (R423). -/
def allFloat (s : State) : Bool :=
  (boundStr s).all fun k =>
    let p := phaseOf s k
    !(p == 1 || p == 2 || p == 5) || (s.str k).floatOk

/-- RECHARGE ends when the batteries meet their float criteria (Table 2.2). -/
def tryFloatEnd (s : State) : State :=
  if s.sys.mode = .recharge ∧ allFloat s then
    enterMode (if anyIso s then .maintain else .online) Cause.floatMet s
  else s

/-! ### The coulomb count (R427, R430) -/

/-- The charge efficiency η (Table 16.1). -/
def etaOf (s : State) (k : Str) : Rat := if strn s k Strp.CHEM = 1 then 95 / 100 else 995 / 1000

/-- The self-discharge of a time in seconds, in mAh: Sk.SELFDIS hundredths of a percent of the capacity in a month of
2 629 800 s. -/
def selfLoss (s : State) (k : Str) (sec : Rat) : Rat :=
  (strp s k Strp.SELFDIS : Rat) / 10000 * (strCap s k : Rat) * sec / 2629800

/-- A charge held to 0 and C_eff. -/
def heldQ (s : State) (k : Str) (q : Rat) : Rat := max 0 (min (strEff s k) q)

/-- The change of charge of a cycle of `sec` seconds: discharge in full, charge times η, self-discharge while open. -/
def cycleCharge (s : State) (k : Str) (c : Ch) (sec : Rat) : Rat :=
  let i := ((s.chan c).iMa : Rat)
  if !conducts s c then -(selfLoss s k sec)
  else if 0 < i then -(i * sec / 3600)
  else -(i * sec / 3600) * etaOf s k

/-- The reported charge: it follows the count in full, then moves towards the internal one by at most BAT.SOC_SLEW per
minute. -/
def reported (s : State) (k : Str) (qRep dq qInt sec : Rat) : Rat :=
  let q := heldQ s k (qRep + dq)
  let slew := (pget s Prm.BAT_SOC_SLEW : Rat) / 10000 * strEff s k * sec / 60
  heldQ s k (if q ≤ qInt then min qInt (q + slew) else max qInt (q - slew))

/-- The estimator's count at a boundary, for a cycle of `sec` seconds. A charge ends the discharge that began at FULL (R431). -/
def countCharge (sec : Rat) (s : State) : State :=
  forStrings (fun k c s =>
    let dq := cycleCharge s k c sec
    let b := s.str k
    let q := heldQ s k (b.qInt + dq)
    let out : Rat := if 0 < (s.chan c).iMa ∧ conducts s c then -dq else 0
    let charging := conducts s c && decide (((strCap s k : Rat)) / 200 < -((s.chan c).iMa : Rat))
    modStr k (fun x => { x with
      qInt := q, qRep := reported s k x.qRep dq q sec, drawn := x.drawn + out, fromFull := x.fromFull && !charging }) s) s

/-! ### References (R428) -/

/-- The rest voltages of Table 16.2 per cell: state of charge in percent, and mV. -/
def restTable (chem : Nat) : List (Nat × Nat) :=
  if chem = 1 then [(0, 1950), (10, 1970), (20, 1990), (30, 2010), (50, 2050), (70, 2090), (90, 2110), (100, 2125)]
  else [(0, 2900), (10, 3200), (20, 3250), (30, 3280), (50, 3300), (70, 3310), (90, 3330), (100, 3400)]

/-- The state of charge of a voltage per cell, as a fraction, when it lies in a steep segment: one that rises by 8 mV or
more per 10 % of charge. -/
def steepSoc : List (Nat × Nat) → Rat → Option Rat
  | a :: b :: rest, v =>
    if (a.2 : Rat) ≤ v ∧ v ≤ (b.2 : Rat) ∧ 8 * (b.1 - a.1) ≤ 10 * (b.2 - a.2) then
      some (((a.1 : Rat) + ((b.1 - a.1 : Nat) : Rat) * (v - a.2) / ((b.2 - a.2 : Nat) : Rat)) / 100)
    else steepSoc (b :: rest) v
  | _, _ => none

/-- The rest state of charge of a string at a voltage in mV. -/
def restSoc (s : State) (k : Str) (mv : Rat) : Option Rat :=
  steepSoc (restTable (strn s k Strp.CHEM)) (mv / (strp s k Strp.CELLS : Rat))

/-- A reference of Table 16.4: SoC_int becomes `soc`, the confidence `conf`. -/
def reference (k : Str) (kind : Nat) (soc conf : Rat) (s : State) : State :=
  modStr k (fun x => { x with qInt := heldQ s k (soc * strEff s k), conf := conf, refKind := kind, refAt := optime s }) s

/-- FULL: while the float criteria hold, renewed at each boundary. A discharge from here on began at it. -/
def fullRefs (s : State) : State :=
  forStrings (fun k _ s =>
    if (s.str k).floatOk then modStr k (fun x => { x with drawn := 0, fromFull := true }) (reference k 1 1 10000 s)
    else s) s

/-- The time for which a string has been at rest runs on, or breaks (R428). -/
def trackRest (s : State) : State :=
  forStrings (fun k c s =>
    let rest := decide ((((s.chan c).iMa.natAbs : Nat) : Rat) ≤ (strCap s k : Rat) / 200)
    modStr k (fun x => { x with restFrom := if rest then some (x.restFrom.getD (optime s)) else none }) s) s

/-! ### Learning (R431) -/

/-- The learned capacity after a measurement `cNew`: a quarter of the way, by at most 5 % of Sk.C_NOM_MAH, within 30 % and
120 % of it. -/
def learnt (s : State) (k : Str) (cNew : Rat) : Nat :=
  let nom := (strp s k Strp.C_NOM_MAH : Rat)
  let c := (strCap s k : Rat)
  let step := max (-(nom / 20)) (min (nom / 20) ((cNew - c) / 4))
  (ratFree 15 (max (nom * 30 / 100) (min (nom * 120 / 100) (c + step)))).toNat

/-- A learned capacity comes into use and is written through the journal (R431, R432). -/
def learn (k : Str) (cNew : Rat) (s : State) : State :=
  let c := learnt s k cNew
  queueWrite RT.CAPACITY k.val (modStr k (fun x => { x with cLearn := c, learnCount := x.learnCount + 1 }) s)

/-! ### Impedance (R426) -/

/-- What an interval shows of a slot: the differences from the previous latch, or the new fields whole when `whole`. -/
def SlotLatch.since (new old : SlotLatch) (whole : Bool) : SlotLatch :=
  if whole then new else { sum := new.sum - old.sum, count := new.count - old.count, aux := new.aux - old.aux }

/-- The fields of a slot among `slots`. -/
def slotLatch (slots : List AccSlot) (i : Nat) : SlotLatch :=
  match slots[i]? with
  | some x => { sum := x.sum, count := x.count, aux := x.aux }
  | none => { sum := 0, count := 0, aux := 0 }

/-- The slot is synchronous on the probe's pattern and does not show OVF. -/
def slotFit (s : State) (slots : List AccSlot) (i : Nat) : Bool :=
  match slots[i]? with
  | some x => x.cfg.testBit 7 && fieldOf x.cfg 5 2 == pn s Prm.BAT_PROBE_PATTERN && !x.ovf
  | none => false

/-- The demodulated sum of an interval whose input has the mean `sum / n` (R337). -/
def demod (d : SlotLatch) (sum : Int) (n : Nat) : Int := d.sum - d.aux * divNear (16 * sum) n

/-- LOAD, on a valid interval: a quarter of the way to the rest state of charge at the estimated open-circuit voltage. -/
def loadRef (k : Str) (c : Ch) (s : State) : State :=
  let i := ((s.chan c).iMa : Rat)
  let ocv := ((s.chan c).vfar : Rat) + i * ((s.str k).z : Rat) / 1000000
  if (((s.chan c).iMa.natAbs : Nat) : Rat) ≤ (strCap s k : Rat) / 2 then
    match restSoc s k ocv with
    | some soc =>
      let now := strSoc s k
      reference k 3 (now + (soc - now) / 4) (max (confNow s k) (pget s Prm.BAT_CONF_LOAD : Rat)) s
    | none => s
  else s

/-- The impedance of a string at a boundary that ends an interval, from the slots as they stood before the boundary's clears: on a
valid one Sk.Z_UOHM follows it (R328, R334, R426). -/
def impedance (slots : List AccSlot) (k : Str) (c : Ch) (s : State) : State :=
  let b := s.str k
  let ai := strn s k Strp.ACC_I
  let av := strn s k Strp.ACC_V
  let ni := slotLatch slots ai
  let nv := slotLatch slots av
  let whole := decide (ni.count < b.accI.count ∨ nv.count < b.accV.count)
  let di := ni.since b.accI whole
  let dv := nv.since b.accV whole
  let n := b.cycN
  let dI := demod di b.sumI n
  let dV := demod dv b.sumV n
  let shape := slotFit s slots ai && slotFit s slots av && di.count == dv.count && di.count != 0
    && decide (100 * di.aux.natAbs ≤ di.count ∧ 100 * dv.aux.natAbs ≤ dv.count)
    && decide (pn s Prm.BAT_PROBE_MIN_MA * 16 * di.count ≤ dI.natAbs) && dI != 0 && n != 0
  let z : Rat := -(dV : Rat) / (dI : Rat) * 1000000
  let near := b.z == 0 || decide ((b.z : Rat) / 4 ≤ z ∧ z ≤ 4 * (b.z : Rat))
  let s := modStr k (fun x => { x with accI := ni, accV := nv, sumI := 0, sumV := 0, cycN := 0 }) s
  if shape && near then
    let zNew : Rat := if b.z = 0 then z else (b.z : Rat) + (z - (b.z : Rat)) / 8
    loadRef k c (modStr k (fun x => { x with z := (ratFree 16 zNew).toNat }) s)
  else s

/-- The means of the cycle join the interval of each string; at a multiple of BAT.PROBE_CYC the interval ends. -/
def measureZ (slots : List AccSlot) (s : State) : State :=
  let s := forStrings (fun k c s =>
    let i := (s.chan c).iMa
    let v := (s.chan c).vfar
    modStr k (fun x => { x with sumI := x.sumI + i, sumV := x.sumV + v, cycN := x.cycN + 1 }) s) s
  if s.mb.cycle % max 1 (pn s Prm.BAT_PROBE_CYC) = 0 then forStrings (impedance slots) s else s

/-! ### Reserve and usable charge (R429) -/

/-- The margin m_k in hundredths of a percent, a half point upward. -/
def marginOf (s : State) (k : Str) : Int :=
  ratFloor ((10000 - confNow s k) * (pget s Prm.BAT_MARGIN_K : Rat) / 10000 + 1 / 2)

/-- Q_hold,k in mAh. -/
def holdQ (s : State) (k : Str) : Nat := (strCap s k * strn s k Strp.HOLD_PCT + 99) / 100

/-- The usable charge of a string. -/
def usable (s : State) (k : Str) : Nat :=
  let b := s.str k
  (ratFloor (max 0 (min b.qRep b.qInt - (holdQ s k : Rat)) * ((10000 - marginOf s k : Int) : Rat) / 10000)).toNat

/-- Q_avail over the strings whose channels are ARMED or ON. -/
def qAvailOf (s : State) : Nat :=
  (boundStr s).foldl (fun n k =>
    match boundCh s k with
    | some c => if strOn s c then n + usable s k else n
    | none => n) 0

/-! ### End of discharge (R434, R435) -/

/-- Sk.EOD_MV. -/
def eodMvOf (s : State) (k : Str) (c : Ch) : Nat :=
  let i := ((max 0 (s.chan c).iMa : Int) : Rat)
  let cell := max (strp s k Strp.FLOOR_CELL : Rat)
    ((strp s k Strp.EOD0_CELL : Rat) - (strp s k Strp.EODK : Rat) * i / (max 1 (strCap s k) : Nat))
  (ratCeil ((strp s k Strp.CELLS : Rat) * cell)).toNat

/-- Sk.EOD_MV is computed again, and the time for which a conducting string has stood below it runs on, or breaks. Outside
BRIDGE and CUTOFF no string stands at its end (R434). -/
def trackEod (s : State) : State :=
  forStrings (fun k c s =>
    let mv := eodMvOf s k c
    let below := conducts s c && decide ((s.chan c).vfar < (mv : Int))
    let from_ := fun (t : Option Nat) => if below then some (t.getD (optime s)) else none
    let discharge := s.sys.mode == .bridge || s.sys.mode == .cutoff
    modStr k (fun x => { x with eodMv := mv, eodFrom := from_ x.eodFrom, atEnd := x.atEnd && discharge }) s) s

/-- The string stands at its end of discharge by its cell floor or by its charge. -/
def eodNow (s : State) (k : Str) (c : Ch) : Bool :=
  decide ((s.chan c).vfar < strp s k Strp.CELLS * strp s k Strp.FLOOR_CELL) || decide ((s.str k).qInt ≤ (holdQ s k : Rat))

/-- BAT.EOD_FILT_S in outputs of the divider. -/
def eodFilter (s : State) : Nat := pn s Prm.BAT_EOD_FILT_S * 1024

/-- The string has reached its end of discharge by the present moment. -/
def eodMet (s : State) (k : Str) (c : Ch) : Bool :=
  eodNow s k c || (match (s.str k).eodFrom with
    | some t => decide (t + eodFilter s ≤ optime s)
    | none => false)

/-- Another bound string conducts and has not reached its own end. -/
def otherCarries (s : State) (k : Str) : Bool :=
  (boundStr s).any fun j =>
    j != k && (match boundCh s j with
      | some d => conducts s d && !(s.str j).atEnd && !eodMet s j d
      | none => false)

/-- The string opens at its end and enters ENDED. -/
def endString (k : Str) (c : Ch) (s : State) : State :=
  openTo c .opened (openGate s c)
    (modStr k (fun x => { x with ended := true, atEnd := true, floatOk := false, floatFrom := none, phase := 6 }) s)

/-- What a string does that has reached its end of discharge: by the mode and the other strings (R434, R435). -/
def reachEnd (k : Str) (c : Ch) (s : State) : State :=
  let x := s.chan c
  if s.sys.mode = .bridge then
    if otherCarries s k then
      logEvent Evt.STRING_END 2 (objStr k) [(ratFloor (s.str k).qInt).toNat, asBits 32 x.vfar] (endString k c s)
    else enterCutoff (modStr k (fun x => { x with atEnd := true }) s)
  else
    let s := if inTest s k then endTest 4 0 s else s
    let s := if (pn s Prm.BUS_PEAK_BAT_MAP).testBit c.val then withdrawPeak s else s
    modStr k (fun x => { x with floatOk := false, floatFrom := none, phase := 2 }) s

/-! ### Modules' requests (R455) -/

/-- A bound module of the string asks for it to be opened. -/
def moduleAsks (s : State) (k : Str) : Bool := (modsPresent s k).any fun m => m.flags.testBit 5

/-- A module of the string has not cleared its request, be it present or not: the string does not rejoin (R455). -/
def moduleBars (s : State) (k : Str) : Bool :=
  (List.finRange 16).any fun j => decide (j.val < pn s (Prm.SHB_MOD0 + k.val) % 2 ^ 8) && s.shb.mod[k][j].flags.testBit 5

/-- A string whose module asks for it opens at the boundary; as the last string that conducts in BRIDGE it has reached its
end of discharge. -/
def moduleOpens (s : State) : State :=
  forStrings (fun k c s =>
    if !moduleAsks s k || !conducts s c then s
    else if s.sys.mode = .bridge ∧ !otherCarries s k then enterCutoff (modStr k (fun x => { x with atEnd := true }) s)
    else if s.sys.mode = .cutoff ∨ s.tin.override then s
    else endString k c (if inTest s k then endTest 4 0 s else s)) s

/-! ### Rejoin (R424) -/

/-- The modes in which a string rejoins. -/
def rejoinMode (s : State) : Bool := s.sys.mode == .online || s.sys.mode == .recharge || s.sys.mode == .maintain

/-- The string enters LOW. -/
def enterLow (k : Str) (c : Ch) (s : State) : State :=
  let s := if (s.chan c).st = .wait then cancelWait c 5 s else s
  logEvent Evt.STRING_LOW 2 (objStr k) [asBits 32 (s.chan c).vfar]
    (modStr k (fun x => { x with
      ended := false, low := true, rejoin := false, rejoinLow := false, rejoinFrom := none, phase := 7 }) s)

/-- Another bound string conducts. -/
def otherConducts (s : State) (k : Str) : Bool :=
  (boundStr s).any fun j => j != k && (match boundCh s j with
    | some d => conducts s d
    | none => false)

/-- The rejoin of a string in ENDED, by the first of the four cases that applies. -/
def tryRejoin (k : Str) (c : Ch) (s : State) : State :=
  let s := modStr k (fun x => { x with rejoinFrom := some (x.rejoinFrom.getD (optime s)) }) s
  let x := s.chan c
  let file := fun (low : Bool) (s : State) =>
    let s := fileInrush c .rejoin none s
    let on := (s.chan c).st == .wait
    modStr k (fun x => { x with rejoin := on, rejoinLow := on && low, phase := if on then 5 else x.phase }) s
  if x.st ≠ .opened ∨ !x.present ∨ x.shed ∨ moduleBars s k then s
  else if x.equal then
    modStr k (fun x => { x with ended := false, atEnd := false, rejoinFrom := none }) (closeCh c (closedState s c) s)
  else if s.bus.vMv + chp s c Chp.EQ_MV < x.vfar then file false s
  else if s.bus.vMv ≤ x.vfar ∨ otherConducts s k then s
  else if pget s Prm.BUS_SAG_MV + pget s Prm.BAT_REJOIN_MARGIN_MV ≤ x.vfar then
    file true { s with bat := { s.bat with iB := some (9 / 10 * (iLimOf s k c : Rat)) } }
  else enterLow k c s

/-- Strings rejoin one at a time, in ascending number; outside the three modes the count of each stops. -/
def rejoinStep (s : State) : State :=
  if !rejoinMode s then forEach allStr (fun k s => modStr k (fun x => { x with rejoinFrom := none }) s) s
  else
    match (boundStr s).find? fun k => (s.str k).ended && (phaseOf s k == 5 || phaseOf s k == 6) with
    | none => s
    | some k =>
      match boundCh s k with
      | some c => if (s.str k).rejoin then s else tryRejoin k c s
      | none => s

/-! ### Limits (R422, R424, R438, R440) -/

/-- A current shared over S: floor(mA x w_eff / w_sum). -/
def shareOf (s : State) (l : List Ch) (ma : Rat) (c : Ch) : Nat :=
  if wSum s l = 0 then 0 else (ratFloor (max 0 ma * wEff s c / wSum s l)).toNat

/-- The strings in BULK. -/
def bulkStr (s : State) : List Str := (boundStr s).filter fun k => phaseOf s k == 2

/-- The charge current of a bound string in mA. -/
def chargeOf (s : State) (k : Str) : Int :=
  match boundCh s k with
  | some c => if conducts s c then max 0 (-(s.chan c).iMa) else 0
  | none => 0

/-- L of R422: the current out of the bus through the LOAD and TIE channels that conduct, and into strings not in BULK. -/
def loadL (s : State) : Int :=
  -(iSum s (allCh.filter fun c => isLoad s c && conducts s c))
    + ((boundStr s).filter fun k => !(bulkStr s).contains k).foldl (fun n k => n + chargeOf s k) 0

/-- I_b at a boundary: none while no string is in BULK and none rejoins from below. -/
def updateIb (s : State) : Option Rat :=
  let bulk := bulkStr s
  let total : Rat := bulk.foldl (fun n k => n + ((s.str k).iLim : Rat)) 0
  if !rejoinMode s then none
  else if bulk.isEmpty then (if (boundStr s).any (fun k => (s.str k).rejoinLow) then s.bat.iB else none)
  else
    match s.bat.iB with
    | none => some total
    | some b =>
      let e : Rat := bulk.foldl (fun m k => max m ((chargeOf s k - (s.str k).iLim : Int) : Rat)) 0
      some (if 0 < e then b - e else min total (b + total / 20))

/-- The limit that a running test sets (R438). -/
def testLimit (s : State) (l : List Ch) (c : Ch) : Option Nat :=
  match s.bat.test with
  | none => none
  | some t =>
    let strings := (boundStr s).filterMap (boundCh s)
    let a := iSum s (allCh.filter fun c => roleOf s c == .source) + iSum s strings
    let it := if t.code = Opn.DUR_TEST then a else t.iTest
    some (shareOf s l ((a - it : Int) : Rat) c)

/-- The limit of capping (R240). -/
def capLimit (s : State) (l : List Ch) (c : Ch) : Option Nat :=
  if s.bus.capState = 0 ∨ s.bus.vMv ≤ 0 then none
  else some (shareOf s l ((pget s Prm.BUS_CAP_MW : Rat) * 1000 / (s.bus.vMv : Rat)) c)

/-- The lower of two limits. -/
def lowerLimit : Option Nat → Option Nat → Option Nat
  | some a, some b => some (min a b)
  | some a, none => some a
  | none, b => b

/-- The limits of the rectifiers are set at a boundary. A rectifier out of S has none; one that does not answer keeps its
own. -/
def setLimits (s : State) : State :=
  let l := shareSet s
  let ib := updateIb s
  let s := { s with bat := { s.bat with iB := ib } }
  let base := s
  forEach allCh (fun c s =>
    if l.contains c then
      let charge := match ib with
        | some b => some (shareOf base l ((loadL base : Rat) + b) c)
        | none => none
      if wSum base l = 0 then putLimit c none s
      else putLimit c (lowerLimit charge (lowerLimit (testLimit base l c) (capLimit base l c))) s
    else if roleOf s c = .source ∧ conducts s c ∧ !devAnswers s c then s
    else putLimit c none s) s

/-! ### Tests (R402, R438, R439) -/

/-- The end voltage of a named string in mV. -/
def endMv (s : State) (t : TestRun) (k : Str) : Nat :=
  if t.endCell = 0 then (s.str k).eodMv else t.endCell * strn s k Strp.CELLS

/-- The charge a test has drawn. -/
def testDrawn (t : TestRun) : Rat := allStr.foldl (fun n k => n + t.drawn.get k) 0

/-- A cycle of a running test: the charge drawn, the lowest cell voltage, the time below the end voltage, and the reserve it
still holds. -/
def countTest (sec : Rat) (s : State) : State :=
  match s.bat.test with
  | none => s
  | some t =>
    let t := t.part.foldl (fun t k =>
      match boundCh s k with
      | some c => { t with drawn := vmod t.drawn k fun d => d + max 0 ((s.chan c).iMa : Rat) * sec / 3600 }
      | none => t) t
    let t := (namedStr s t).foldl (fun t k =>
      match boundCh s k with
      | some c =>
        let v := (s.chan c).vfar
        let from_ := if v < (endMv s t k : Int) then some ((t.below.get k).getD (optime s)) else none
        { t with
          lowCell := min t.lowCell (ratFree 17 ((v : Rat) / (strp s k Strp.CELLS : Rat))).toNat
          below := vput t.below k from_ }
      | none => t) t
    let rest := (ratFree 12 (max 0 ((t.planned : Rat) - testDrawn t))).toNat
    let f := fun (o : Op) => if o.id = t.op then { o with bat := rest } else o
    { s with bat := { s.bat with test := some t }, adm := { s.adm with grants := s.adm.grants.map f } }

/-- A CAP_TEST that ends at its end voltage gives the string an EMPTY reference, and may teach its capacity; answers
whether it did (R428, R431). -/
def emptyRef (t : TestRun) (k : Str) (s : State) : State × Bool :=
  let s := reference k 4 0 10000 s
  if (pget s Prm.BAT_LEARN_CONF : Rat) ≤ t.conf0.get k ∧ t.soc0.get k ≠ 0 then
    (learn k (t.drawn.get k / t.soc0.get k) s, true)
  else (s, false)

/-- Outcome 1: named strings below the end voltage for the filter time. -/
def testLow (k : List Str) (t : TestRun) (s : State) : State :=
  if t.code ≠ Opn.CAP_TEST then endTest 1 0 s
  else
    let r := k.foldl (fun (p : State × List Str) k =>
      let q := emptyRef t k p.1
      (q.1, if q.2 then p.2 ++ [k] else p.2)) (s, [])
    let learned := match (namedStr s t).head? with
      | some j => if r.2.contains j then strCap r.1 j else 0
      | none => 0
    endTest 1 learned r.1

/-- A test ends at a boundary by the first outcome of Table 16.7 that has come about. -/
def testOutcome (s : State) : State :=
  match s.bat.test with
  | none => s
  | some t =>
    let low := (namedStr s t).filter fun k =>
      match t.below.get k with
      | some from_ => decide (from_ + eodFilter s ≤ optime s)
      | none => false
    if low ≠ [] then testLow low t s
    else if (t.planned : Rat) ≤ testDrawn t then endTest 2 0 s
    else s

/-- The charge that peak support has drawn comes off the reserve it holds (R402). -/
def countPeak (sec : Rat) (s : State) : State :=
  match s.bus.peakOp with
  | none => s
  | some id =>
    let i := (chNamed (pn s Prm.BUS_PEAK_BAT_MAP)).foldl (fun n c => if conducts s c then n + max 0 (s.chan c).iMa else n) 0
    let drawn := s.bus.peakDrawn + (i : Rat) * sec / 3600
    let rest := (ratFree 12 (max 0 ((s.bus.peakPlan : Rat) - drawn))).toNat
    let f := fun (o : Op) => if o.id = id then { o with bat := rest } else o
    { s with bus := { s.bus with peakDrawn := drawn }, adm := { s.adm with grants := s.adm.grants.map f } }

end Sys2Proof.Machine
end

