-- ==== Sys2Proof/Machine/CycleMeans.lean ====
section
/-! DEFINITION. What a cycle boundary does with the measurements of the cycle it ends: the means of chapter 11, the
thermistors and the references of the junction model, the checks of the converters, and the rejected pulses of the
undervoltage comparators. -/

namespace Sys2Proof.Machine

/-! ### Means (R130, R131, R299) -/

/-- A cycle mean in whole units; a cycle without a sample leaves the value as it was. -/
def meanOf (m : Mean) (old : Int) : Int := if m.n = 0 then old else divNear m.sum16 (16 * m.n)

/-- The samples of a cycle: those of its ticks, of sum `sum16` and number `n`, and those the boundary delivers besides. -/
def joinMean (m : Mean) (sum16 : Int) (n : Nat) : Mean := { sum16 := m.sum16 + sum16, n := m.n + n }

/-- The means of one channel over its guard samples: the current saturates at full scale, and OVR shows for the next cycle that it
was exceeded. The sums begin again (R130, R131, R299). -/
def meanCh (inp : BoundaryIn) (c : Ch) (s : State) : State :=
  let m := inp.ch.get c
  let full : Int := fullScale s c
  modCh c (fun x => { x with
    iMa := clampI (-full) full (meanOf (joinMean m.i x.sumI x.guardN) x.iMa)
    vfar := meanOf (joinMean m.vs x.sumVs x.guardN) x.vfar, drop := meanOf (joinMean m.drop x.sumDrop x.guardN) x.drop
    csn := meanOf (joinMean m.csn x.sumCsn x.guardN) x.csn, ovr := m.ovr || x.ovrCyc
    guardN := 0, sumI := 0, sumVs := 0, sumDrop := 0, sumCsn := 0, ovrCyc := false }) s

/-- The means of the bus, of VIN and of the die, the REF results, and the figures of the supply (R299, R303, R321, R544).
BUS.V_MV is CNV0's own mean (Table 11.3). -/
def meanBus (inp : BoundaryIn) (s : State) : State :=
  let bus := (List.finRange 4).foldl (fun v k => vmod v k (meanOf (inp.bus.get k))) s.cnv.busMv
  { s with
    cnv := { s.cnv with
      busMv := bus, vinMv := meanOf inp.vin s.cnv.vinMv, dieT := meanOf inp.die16 s.cnv.dieT, refUv := inp.refUv
      senseN := 0, senseSum := 0 }
    bus := { s.bus with vMv := meanOf (joinMean inp.sense s.cnv.senseSum s.cnv.senseN) s.bus.vMv }
    pwr := { s.pwr with selfMw := min 5000 inp.selfMw, holdMv := inp.holdMv } }

/-- The power and the current of the last cycle in which a channel conducted (R589). -/
def lastCycle (c : Ch) (s : State) : State :=
  let on := conducts s c
  modCh c (fun x =>
    if x.conducted || on then
      { x with pLast := Int.tdiv (x.iMa * s.bus.vMv) 1000, iLast := x.iMa, conducted := on }
    else x) s

/-- The means of the cycle that ends (R131). -/
def cycleMeans (inp : BoundaryIn) (s : State) : State :=
  forEach allCh lastCycle (meanBus inp (forEach allCh (meanCh inp) s))

/-! ### Thermistors and Tref (R302, R167) -/

/-- The temperature of a thermistor in °C for a pin voltage in mV. -/
def ntcTemp (s : State) (v : Rat) : Rat :=
  let r := 10000 * v / (2500 - v)
  1 / (100 / 29815 + ln (r / (pget s Prm.CNV_NTC_R25 : Rat)) / (pget s Prm.CNV_NTC_B : Rat)) - 27315 / 100

/-- One of the conditions that declare an enabled thermistor invalid holds for a pin voltage. -/
def ntcBad (s : State) (v : Rat) : Bool :=
  decide (v < 50 ∨ 2450 < v) || decide (ntcTemp s v < -55 ∨ 155 < ntcTemp s v)

/-- The object of a thermistor in the event log. -/
def objNtc (k : Ntc) : Nat := 0x58 + k.val

/-- A thermistor is declared invalid: its record, and the fallback of every channel that uses it (R302, R167). -/
def ntcInvalid (k : Ntc) (s : State) : State :=
  let s := { s with cnv := { s.cnv with ntc := vmod s.cnv.ntc k fun x => { x with st := .invalid, good := 0 } } }
  let s := logEvent Evt.NTC 2 (objNtc k) [1] s
  forEach allCh (fun c s =>
    if trefNtc (chn s c Chp.TREF_SRC) = some k then
      logEvent Evt.TREF_FALLBACK 2 c.val [k.val] (modCh c (fun x => { x with fallback := true }) s)
    else s) s

/-- One thermistor at the boundary: its mean, and a declaration of invalid. A disabled one is invalid from the first cycle
in which it is disabled. -/
def ntcCycle (inp : BoundaryIn) (k : Ntc) (s : State) : State :=
  let x := s.cnv.ntc.get k
  let m := inp.ntc.get k
  let on := (pn s Prm.CNV_NTC_EN).testBit k.val
  if !on then (if x.st = .invalid then s else ntcInvalid k s)
  else if m.n = 0 then s
  else
    let v : Rat := (m.sum16 : Rat) / (16 * (m.n : Rat))
    let t := clampI (-32768) 32767 (ratFree 20 (ntcTemp s v * 64))
    let put := fun (f : NtcS → NtcS) (s : State) => { s with cnv := { s.cnv with ntc := vmod s.cnv.ntc k f } }
    if ntcBad s v then
      let s := put (fun x => { x with t := t, good := 0 }) s
      if x.st = .invalid then s else ntcInvalid k s
    else
      put (fun x => { x with
        t := t, good := min 3 (x.good + 1), last := if x.st = .valid then some t else x.last }) s

/-- Tref of a channel (R167). -/
def trefOf (s : State) (c : Ch) : Int :=
  let fix := chp s c Chp.TREF_FIX
  let src := chn s c Chp.TREF_SRC
  if src = 9 then s.cnv.dieT
  else match trefNtc src with
    | some k =>
      let x := s.cnv.ntc.get k
      if x.st = .valid then x.t
      else match x.last with
        | some t => max fix t
        | none => fix
    | none => fix

/-- Tref changes at each boundary; the fallback of a valid thermistor ends. -/
def trefCycle (c : Ch) (s : State) : State :=
  let back := match trefNtc (chn s c Chp.TREF_SRC) with
    | some k => decide ((s.cnv.ntc.get k).st = .valid)
    | none => true
  modCh c (fun x => { x with tref := trefOf s c, fallback := x.fallback && !back }) s

/-! ### Checks (R303, R559, R195) -/

/-- The REF result of a converter lies in its window. -/
def refIn (uv : Nat) : Bool := decide (1194000 ≤ uv ∧ uv ≤ 1206000)

/-- The object of a converter in the event log. -/
def objCnv (k : Grp) : Nat := 0x50 + k.val

/-- The check of the reference of one converter: two boundaries outside the window set its bit, 16 within it clear it. -/
def refCheck (k : Grp) (s : State) : State :=
  let uv := s.cnv.refUv.get k
  let ok := refIn uv
  let bad := if ok then 0 else min 2 (s.cnv.refBad.get k + 1)
  let good := if ok then min 16 (s.cnv.refGood.get k + 1) else 0
  let put := fun (b : Bool) (s : State) =>
    modGrp k (fun g => { g with refFail := b }) { s with cnv := { s.cnv with refFail := vput s.cnv.refFail k b } }
  let was := s.cnv.refFail.get k
  let s := { s with cnv := { s.cnv with refBad := vput s.cnv.refBad k bad, refGood := vput s.cnv.refGood k good } }
  if bad = 2 ∧ !was then logEvent Evt.REF_FAIL 3 (objCnv k) [uv] (put true s)
  else if good = 16 ∧ was then put false s
  else s

/-- The die temperature of the cycle: 130 °C or more sets DIE_HOT, and the cycles below 120 °C are counted. -/
def dieCheck (s : State) : State :=
  let t := s.cnv.dieT
  { s with pwr := { s.pwr with
    dieHot := s.pwr.dieHot || decide (8320 ≤ t), coolCnt := if t < 7680 then min 10 (s.pwr.coolCnt + 1) else 0 } }

/-- The rejected UV pulses of the cycle that ends: OVSPD stands for the following cycle, and its rise is recorded. -/
def rejCycle (c : Ch) (s : State) : State :=
  let x := s.chan c
  let hit := decide (chn s c Chp.OVSPD_N ≤ x.rejCyc)
  let s := modCh c (fun x => { x with ovspd := hit, rejCyc := 0 }) s
  if hit ∧ !x.ovspd then logEvent Evt.UV_OVSPD 1 c.val [x.rej] s else s

/-- What the measurements of a cycle bring about. -/
def cycleChecks (inp : BoundaryIn) (s : State) : State :=
  let s := forEach (List.finRange 8) (ntcCycle inp) s
  let s := forEach allCh trefCycle s
  forEach allCh rejCycle (dieCheck (forEach allGrp refCheck s))

/-- NTC_VALID: three consecutive cycles of a thermistor met no condition of R302; it is declared valid. -/
def execNtcValid (k : Ntc) (s : State) : Host.Outcome State Fault Refusal :=
  let x := s.cnv.ntc.get k
  if scanRuns s && x.st != .valid && decide (3 ≤ x.good) && (pn s Prm.CNV_NTC_EN).testBit k.val then
    .next (logEvent Evt.NTC 1 (objNtc k) [0]
      { s with cnv := { s.cnv with ntc := vmod s.cnv.ntc k fun x => { x with st := .valid, last := some x.t } } })
  else .next s

/-- DIE_COOL: ten consecutive cycles lay below 120 °C; DIE_HOT clears (R559). -/
def execDieCool (s : State) : Host.Outcome State Fault Refusal :=
  if s.pwr.dieHot && decide (10 ≤ s.pwr.coolCnt) then .next { s with pwr := { s.pwr with dieHot := false } } else .next s

end Sys2Proof.Machine
end

