-- ==== Sys2Proof/Machine/Cycle.lean ====
section
/-! DEFINITION. The cycle boundary: the virtual cycle, the values that take effect there, and what the firmware does at
each boundary for the bus, the arbiter and the rectifiers (chapters 8, 10, 15 and 16). -/

namespace Sys2Proof.Machine

/-! ### The continuity conditions (R221, R223) -/

/-- BUS.COND: condition 1 by the strings that are ARMED or ON, condition 2 by the declared capacitance. -/
def busCond (s : State) : Nat :=
  let sag := pget s Prm.BUS_SAG_MV
  let string := allCh.any fun c => roleOf s c == .battery && strOn s c && decide (sag + 2000 ≤ (s.chan c).vfar)
  let need := max 1000 (ratCeil ((pget s Prm.BUS_I_BRIDGE_MA : Rat) * 515 / 100 / ((s.bus.vMv - sag : Int) : Rat)))
  bitAt string 0 + bitAt (decide (sag < s.bus.vMv ∧ need ≤ pget s Prm.BUS_C_UF)) 1

/-- BUS.COND is judged, and the loss of a condition recorded. -/
def condCheck (s : State) : State :=
  let new := busCond s
  let m := s.sys.mode
  let old := s.bus.cond
  let s := { s with bus := { s.bus with cond := new } }
  if old = 3 ∧ new ≠ 3 ∧ (m = .online ∨ m = .recharge ∨ m = .maintain) then logEvent Evt.BUS_COND 2 objNone [new] s
  else s

/-! ### The arbiter's refresh (R401, R403, R404, R230) -/

/-- I_keep of a stage in mA. -/
def iKeep (s : State) (k : Nat) : Int :=
  allCh.foldl (fun n c =>
    if isLoad s c && conducts s c && !(shedUnion s k).testBit c.val then n - (s.chan c).iMa else n) 0

/-- Q_need of a stage in mAh. -/
def qNeedOf (s : State) (k : Nat) : Nat := reserveFor s (iKeep s k)

/-- The smallest stage that the reserve allows, none when there is none. -/
def stageFor (s : State) (qa : Nat) : Option Nat := [0, 1, 2, 3, 4].find? fun k => decide (qNeedOf s k + qHeld s ≤ qa)

/-- The typical own power of the mode in mW, with every channel in use (Table 21.3). -/
def basePower (s : State) : Nat :=
  match s.sys.mode with
  | .recovery => 700 | .boot => 1300 | .commission => 1500 | .standby => 1350
  | .online => 1600 | .bridge => 1600 | .recharge => 1600 | .maintain => 1600 | .cutoff => 1600
  | .handover => 2300
  | .safeKeep => if anyPup s then 1100 else 550
  | .dormant => 7

/-- ADM.SELF_BASE_MW (R544). -/
def selfBaseOf (s : State) : Nat := basePower s - 12 * (allCh.filter fun c => roleOf s c == .disabled).length

/-- The rating of the rectifier of a channel in W: as advertised, else ADM.SRC_W_DEF. -/
def ratingOf (s : State) (c : Ch) : Nat :=
  let r := (s.shb.dev.get c).rating
  if r = 0 then pn s Prm.ADM_SRC_W_DEF else r

/-- The capacity of SOURCE_HEADROOM at a boundary in W. -/
def headroom (s : State) : Int :=
  let on := allCh.filter fun c => roleOf s c == .source && ((s.chan c).st == .on || (s.chan c).st == .diode)
  let sum := on.foldl (fun (n : Nat) c => n + ratingOf s c) 0
  let src : Rat := (s.bus.srcMw : Rat) / 1000
  let free := (sum : Rat) * (100 - (pget s Prm.ADM_SRC_MARGIN_PCT : Rat)) / 100 - src
  let cap := pget s Prm.BUS_CAP_MW
  let free := if cap = 0 then free else min free ((cap : Rat) / 1000 - src)
  if s.sys.mode = .bridge ∨ s.sys.mode = .cutoff then 0 else max 0 (ratFloor free)

/-- BUS.SRC_MW (R239). -/
def srcPower (s : State) : Int :=
  ratFree 19 (allCh.foldl (fun (n : Rat) c =>
    if roleOf s c == .source then n + ((s.chan c).iMa : Rat) * (s.bus.vMv : Rat) / 1000 else n) 0)

/-- The budgets, Q_need and the required stage are computed again; the strobe set follows (R403, R404, R230). -/
def refreshAdm (s : State) : State :=
  let s := { s with bus := { s.bus with srcMw := srcPower s }, adm := { s.adm with selfBase := selfBaseOf s } }
  let qa := qAvailOf s
  let req := stageFor s qa
  let stage := req.getD 4
  let eff := max (pn s Prm.BUS_STROBE_STAGE) stage
  let onset := req.isNone && !s.adm.short
  let s := { s with
    bus := { s.bus with stageEff := eff, strobeSet := shedUnion s eff }
    adm := { s.adm with
      qAvail := qa, reqStage := stage, short := req.isNone, qNeed := qNeedOf s eff, srcCap := headroom s } }
  if onset then logEvent Evt.ADM_SHORT 3 objNone [qa, qNeedOf s 4] s else s

/-! ### Capping (R239 to R242) -/

/-- The strings that peak support may use: those of BUS.PEAK_BAT_MAP that are ON or ARMED. -/
def peakChs (s : State) : List Ch :=
  (chNamed (pn s Prm.BUS_PEAK_BAT_MAP)).filter fun c => roleOf s c == .battery && strOn s c

/-- The discharge power of the strings in mW. -/
def dischargeMw (s : State) : Rat :=
  allCh.foldl (fun (n : Rat) c =>
    if roleOf s c == .battery && conducts s c then n + (max 0 (s.chan c).iMa : Int) * (s.bus.vMv : Rat) / 1000 else n) 0

/-- The request of peak support (Table 15.2). -/
def peakReq (s : State) : Op :=
  let excess : Rat := ((s.bus.srcMw - pget s Prm.BUS_CAP_MW : Int) : Rat)
  let mah := excess * (pget s Prm.BUS_PEAK_MAX_S : Rat) / (36 / 10 * (s.bus.vMv : Rat))
  { Op.blank Opn.PEAK with
    map := bitsOf allCh (fun c => (peakChs s).contains c), prio := 2, bat := (ratCeil mah).toNat }

/-- CH_CTRL DISARM, sent by the firmware to every ARMED string of the map (R240). -/
def disarmPeak (s : State) : State :=
  forEach ((peakChs s).filter fun c => (s.chan c).st == .armed) disarmCh s

/-- Capping starts: the ARMED strings of the map are disarmed (R240), and peak support is filed where a string may give it;
without its grant the stages are shed. -/
def capStart (s : State) : State :=
  let usable := peakChs s ≠ [] ∧ pn s Prm.BUS_PEAK_MAX_S ≠ 0 ∧ !emergency s
  let s := disarmPeak { s with bus := { s.bus with capState := 2, capLow := 0 } }
  if usable then
    let s := fileOp (peakReq s) s
    forEach (s.adm.queue.filter fun o => o.code == Opn.PEAK) (fun o s => withdrawOp o 5 s) s
  else s

/-- Capping ends: peak support returns its grant and the limits are lifted. -/
def capEnd (s : State) : State := liftLimits (endPeak false s)

/-- The cap at a boundary: peak support withdrawn over the reserve, or when no string of the map is ON or ARMED any more (R241),
a start, an end by BUS.CAP_MW = 0, and the count of
R242. -/
def capCycle (s : State) : State :=
  let cap := pget s Prm.BUS_CAP_MW
  let m := s.sys.mode
  let s := if batFree s < 0 ∨ (s.bus.capState = 1 ∧ peakChs s = []) then withdrawPeak s else s
  if s.bus.capState = 0 then
    if cap ≠ 0 ∧ cap < s.bus.srcMw ∧ (m = .online ∨ m = .recharge ∨ m = .maintain) then capStart s else s
  else if cap = 0 then capEnd s
  else
    let low := decide ((s.bus.srcMw : Rat) + dischargeMw s < ((cap - pget s Prm.BUS_CAP_HYST_MW : Int) : Rat))
    { s with bus := { s.bus with capLow := if low then min 10 (s.bus.capLow + 1) else 0 } }

/-! ### Steps and restorations (R231, R233) -/

/-- The sum of the BATTERY channels' CHn.I_MA over the last cycle. -/
def batteryMa (s : State) : Int := iSum s (allCh.filter fun c => roleOf s c == .battery)

/-- In BRIDGE the strings discharge and the arbiter requires a further stage, or the cap is still exceeded (R231, R232,
R241). -/
def stepAsked (s : State) : Bool :=
  let m := s.sys.mode
  let bridge := m == .bridge && decide (0 < batteryMa s) && decide (s.bus.stage < s.adm.reqStage)
  let capped := s.bus.capState == 2 && decide (pget s Prm.BUS_CAP_MW < s.bus.srcMw)
    && (m == .online || m == .recharge || m == .maintain)
  (bridge || capped) && decide (s.bus.stage < 4) && !s.bus.stepNow.isSome

/-- A pending step and a granted restoration are carried out where the drum holds no entry for them, and the firmware files
what is due. -/
def shedCycle (s : State) : State :=
  let s := if drumHolds s 5 (fun a => a.testBit 0) then s else carryStep s
  let s := if drumHolds s 5 (fun a => a.testBit 1) then s else latchRestore s
  let s := if stepAsked s then { s with bus := { s.bus with stepPending := true } } else s
  fileRestore s

/-! ### The rectifiers (R235 to R237, R244, R451, R453) -/

/-- A cycle without an answer to the last RECT_SET. -/
def countMiss (c : Ch) (s : State) : State :=
  let d := s.shb.dev.get c
  if d.lastSeq.isSome && !d.answered then
    { s with shb := { s.shb with dev := vmod s.shb.dev c fun d => { d with miss := min 255 (d.miss + 1) } } }
  else s

/-- The bus stood above BUS.OV_MV for the cycle: the rectifier of S that most exceeds its share is switched off, never the
last one (R244). -/
def overvoltage (s : State) : State :=
  let l := shareSet s
  if s.bus.vMv ≤ pget s Prm.BUS_OV_MV ∨ l.length < 2 then s
  else
    let worst := l.foldl (fun (b : Option Ch) c =>
      match b with
      | none => some c
      | some d => if shareErr s l d < shareErr s l c then some c else some d) none
    match worst with
    | none => s
    | some c =>
      logEvent Evt.BUS_OV_OFF 2 c.val [asBits 32 s.bus.vMv]
        (sendSet c { s with bus := { s.bus with rectOff := vput s.bus.rectOff c true } })

/-- The sharing of a boundary: a correction falls due every BUS.SHARE_DIV cycles; it is made, and the setpoints are sent,
where the drum holds no entry for them. Where pin 0 carries a message of its own, that one carries them (R236). -/
def shareCycle (s : State) : State :=
  let n := s.bus.shareCnt + 1
  let due := decide (pn s Prm.BUS_SHARE_DIV ≤ n)
  let s := { s with bus := { s.bus with shareCnt := if due then 0 else n, shareDue := s.bus.shareDue || due } }
  let correct := s.bus.shareDue && !drumHolds s 4 (fun a => a.testBit 0)
  let s := if correct then shareCorrect s else s
  if (correct ∨ !drumHolds s 4 (fun _ => true)) ∧ !zeroMessage s then sendSets s else s

/-- The rectifiers at a boundary: silence, overvoltage, limits, walk-ins, sharing. A probe offset in force ends where no
probing is made (R425). -/
def rectCycle (s : State) : State :=
  let s := fileWalkins (setLimits (overvoltage (forEach allCh countMiss s)))
  shareCycle (if probeBarred s then { s with bat := { s.bat with probe := 0 } } else s)

/-! ### The batteries -/

/-- In a black start, once one string has closed, each bound one that stands open counts as a string in ENDED (R585). -/
def blackEnded (s : State) : State :=
  if s.sys.blackStart ∧ s.sys.mode = .bridge ∧ s.sys.blackClosed then
    forStrings (fun k c s =>
      if (s.chan c).st = .opened ∧ (s.chan c).present then modStr k (fun x => { x with ended := true }) s else s) s
  else s

/-- The strings at a boundary, for a cycle of `sec` seconds: targets, the estimator's count and its references, the
impedance, the ends of discharge, the running test and the rejoins (chapter 16). -/
def batCycle (slots : List AccSlot) (sec : Rat) (s : State) : State :=
  let s := countPeak sec (countTest sec (countCharge sec (trackFloat (writeTargets s))))
  let s := measureZ slots (fullRefs (trackEod (trackRest s)))
  let s := testOutcome (moduleOpens s)
  blackEnded (blackFollow (rejoinStep (evalPhases s)))

/-- The estimator runs: the end of BOOT is behind it, and a Puppeteer runs, the witness of SAFE-KEEP among them. -/
def batActs (s : State) : Bool := s.sys.phase == .run && anyPup s && !s.svc.halted && s.sys.mode != .boot

/-! ### The store (R480, R481) -/

/-- The hold-up time against the flush: HOLD_SHORT and its record, and the writes held in RAM offered again. -/
def holdCycle (s : State) : State :=
  let t := holdTime s s.pwr.holdMv
  let f := flushTime s
  let short := s.pwr.vin && !s.pwr.warn && decide (t < f)
  let onset := short && !s.nvs.holdShort
  let s := { s with nvs := { s.nvs with holdT := t, flushUs := f, holdShort := short } }
  let s := if onset then logEvent Evt.NVS_HOLD_SHORT 2 objNone [t, f] s else s
  let s := offerHeld s
  if s.log.held then offerLog s else s

/-! ### The virtual cycle (R270, R271, R287) -/

/-- The coefficients that waited for the boundary take effect (R320). -/
def takeCoef (p : Nat × Option (Int × Nat)) (s : State) : State :=
  let rest := s.cnv.coefs.filter fun q => q.1 != p.1
  let new := match p.2 with
    | none => rest
    | some k => rest.filter (fun q => q.1 < p.1) ++ [(p.1, k.1, k.2)] ++ rest.filter (fun q => p.1 < q.1)
  { s with cnv := { s.cnv with coefs := new } }

/-- What takes effect at the boundary: parameters of effect CYC, coefficients, and drum pairs newly written, which end a
skip (R12, R289, R320). In SAFE-KEEP no parameter and no pair does. -/
def cycEffects (s : State) : State :=
  let s := if s.tin.override then s else forceAll .cyc s
  let s := forEach s.cnv.coefNext takeCoef s
  { s with
    cnv := { s.cnv with coefNext := [] }
    mb := if s.tin.override then s.mb
      else { s.mb with skip := s.mb.skip.filter fun e => !s.mb.pairNew.contains (e.val / 2), pairNew := [] } }

/-- The clock at which the cycle in progress ends. -/
def boundaryDue (s : State) : Nat := s.mb.boundaryAt + 400000000000 / max 1 s.mb.cur

/-- Pin 0 of the new cycle, at the clock at which the old one ends: the cycle count, the lock and the frequency, and what was
asked for the boundary clock, the snapshots before the clears (R269, R271, R277, R328, R334). -/
def newCycle (at_ : Nat) (newOfs : Bool) (s : State) : State :=
  let s := if mbRuns s then lockUpdate (refGap (takeSource s) at_) newOfs s else s
  let s := { s with mb := { s.mb with cycle := (s.mb.cycle + 1) % 2 ^ 32, boundaryAt := at_ } }
  let snaps := s.acc.snaps
  let clears := s.acc.clears
  let s := forEach snaps snapLatch { s with acc := { s.acc with snaps := [], clears := [] } }
  forEach clears (fun p s => clearItems p.1 p.2.1 p.2.2 s) s

/-- The return to XIN at the boundary (R27, R249). -/
def xinReturn (s : State) : State :=
  if !s.sys.xinBack then s
  else
    let s := clearWatch Watch.XIN_LOST { s with sys := { s.sys with clkFault := false, xinBack := false } }
    let s := logEvent Evt.XIN_RETURNED 1 objNone [] (setIrq Irq.CLK_FAULT s)
    let port := (List.finRange 2).foldl (fun v p => vmod v p fun x => { x with off := false, tec := 0, rec_ := 0 }) s.shb.port
    if fwActs s then sendAnnounce { s with shb := { s.shb with port := port } } else s

/-- The modules of each string are summed once per second (R454). -/
def sumModules (s : State) : State :=
  if s.clock < s.shb.modAt + clkS then s
  else
    let v := (List.finRange 4).foldl (fun v k => vput v k (modSum s k)) s.shb.modSum
    { s with shb := { s.shb with modSum := v, modAt := s.clock } }

/-- Frames with the highest precedence first; those of one PRIO keep their order (R446, R464). -/
def byPrio (l : List ShbOut) : List ShbOut :=
  [0, 1, 2, 3, 4, 5, 6, 7].flatMap fun p => l.filter fun f => f.prio == p

/-- The frame with another sequence count in byte 1 (R448). -/
def ShbOut.withSeq (f : ShbOut) (q : Nat) : ShbOut :=
  match f.bytes with
  | a :: _ :: l => { f with bytes := a :: q :: l }
  | _ => f

/-- The frames that fell due at one pin, all but the first `n` sent, go out in PRIO order; the sequence counts, and those that
rectifiers are to answer, follow it (R448, R453, R464). -/
def orderSent (n : Nat) (s : State) : State :=
  let l := byPrio (s.shb.sent.drop n)
  let q := (s.shb.seq + 256 - l.length % 256) % 256
  let l := l.zipIdx.map fun x => x.1.withSeq ((q + x.2) % 256)
  let dev := l.foldl (fun v f =>
    if f.type = Shm.RECT_SET then
      allCh.foldl (fun v c => if devAddr s c = f.dst then vmod v c fun d => { d with lastSeq := some (f.bytes.getD 1 0) } else v) v
    else v) s.shb.dev
  { s with shb := { s.shb with sent := s.shb.sent.take n ++ l, dev := dev } }

/-- What the firmware does at a boundary. -/
def firmCycle (s : State) : State :=
  let s := isoMode (tryFloatEnd (tryRecharge (sumModules s)))
  rejudge (rectCycle (shedCycle (capCycle (refreshAdm s))))

/-- The held actions of channels that no SWITCH entry names reach their moment, with or without firmware (R290). -/
def releaseHeld (s : State) : State :=
  forEach (s.mb.held.filter fun h => !h.due && !drumHolds s 6 (fun a => a % 32 == h.ch.val))
    (fun h s => heldMoment h.ch s) s

/-- The takeover at a boundary: the lead is counted, and the microcode that differs is reloaded group by group (R529). -/
def takeoverCycle (s : State) : State :=
  if s.svc.phase = 5 then { s with svc := { s.svc with lead := s.svc.lead - 1 } }
  else if s.svc.phase = 7 ∧ s.svc.reloads ≠ [] ∧ !(allGrp.any fun g => (s.group g).reloading) then
    beginReloads s.svc.reloads s
  else handoverEntry s

/-- The means of the cycle join the minute's sums of the cross-check with Xamir: I_MA times the bus-side voltage (R362). -/
def crossSums (s : State) : State :=
  let p := allCh.foldl (fun v c => vmod v c fun n => n + (s.chan c).iMa * (s.chan c).csn) s.met.pMin
  { s with met := { s.met with pMin := p, nMin := s.met.nMin + 1 } }

/-- A calibration capture counts its cycles, and each group the cycle through which its gates stayed low (R317, R318). -/
def cnvCycle (s : State) : State :=
  let s := forEach allGrp (fun k s =>
    let low := groupLow s k
    modSeq k (fun q => { q with lowWhole := q.lowCyc && low, lowCyc := low }) s) s
  modCal (fun x => { x with left := x.left - 1 }) s

/-- The first means after the configuration step have been taken (R49). -/
def noteMeans (s : State) : State :=
  if s.sys.phase == .boot then { s with sys := { s.sys with bootMeans := true } } else s

/-- The whole boundary: what the old cycle's drum still holds, the means, what takes effect, the entries of pin 0, and what the
firmware does (R287). -/
def boundary (inp : BoundaryIn) (s0 : State) : State :=
  let s1 := dispatchTo (4096 * 256) s0
  let due := boundaryDue s1
  let sec : Rat := ((due - s1.mb.boundaryAt : Nat) : Rat) / (clkS : Rat)
  let ofs := pget s1 Prm.DRM_PHASE_OFS
  let s := passTo due s1
  let sent := s.shb.sent.length
  let s := noteMeans (cycleMeans inp <| cnvCycle { s with mb := { s.mb with freq := s.mb.cur } })
  let s := cycEffects s
  let slots := s.acc.slot.toList
  let s := newCycle due (decide (pget s Prm.DRM_PHASE_OFS ≠ ofs)) s
  let s := releaseHeld (dispatchZero (xinReturn s))
  let s := cycleChecks inp s
  let s := if batActs s then condCheck (batCycle slots sec (if s.xam.fitted then crossSums s else s)) else s
  let s := if fwActs s then takeoverCycle (messageZero (firmCycle s)) else s
  let s := if batActs s then holdCycle s else s
  reportCh s0 (orderSent sent s)

/-- CYCLE_BOUNDARY: pin 0 of the virtual cycle (R287). -/
def execCycleBoundary (inp : BoundaryIn) (s : State) : Host.Outcome State Fault Refusal :=
  if scanRuns s then .next (boundary inp s) else .next s

end Sys2Proof.Machine
end

