-- ==== Sys2Proof/Machine/BatEvents.lean ====
section
/-! DEFINITION. The events of the bus, the arbiter and the strings that fall between cycle boundaries (chapters 2, 8, 15
and 16). -/

namespace Sys2Proof.Machine

/-- Time passes until OPTIME has reached a value. -/
def passOptime (t : Nat) (s : State) : State := passTo (s.clock + (t - optime s) * clkKt) s

/-! ### Mode events -/

/-- BRIDGE_STROBE_INTERRUPT: the firmware takes the bridge strobe: the mode changes, and SOURCE_HEADROOM is 0 (R139, R140,
Table 15.1). -/
def execBridgeStrobeInterrupt (s : State) : Host.Outcome State Fault Refusal :=
  if !s.bus.strobe || !fwActs s then .next s else .next (reportCh s (takeStrobe s))

/-- AUTO_ONLINE: in STANDBY the firmware enters ONLINE itself where SYS.AUTO_ONLINE = 1 and the row of Table 2.2 holds. -/
def execAutoOnline (s : State) : Host.Outcome State Fault Refusal :=
  let s := if fwActs s then takeStrobe s else s
  if fwActs s && s.sys.mode == .standby && pb s Prm.SYS_AUTO_ONLINE && requestHolds s Mode.online.code then
    .next (enterMode .online Cause.firmware s)
  else .next s

/-- CUTOFF_DORMANT_TIMEOUT: SYS.CUTOFF_DORMANT_S has elapsed in CUTOFF without mains; the entry into DORMANT begins (R59,
R61). -/
def execCutoffDormantTimeout (s : State) : Host.Outcome State Fault Refusal :=
  let sec := pn s Prm.SYS_CUTOFF_DORMANT_S
  if fwActs s && s.sys.mode == .cutoff && !s.mb.mains && decide (sec ≠ 0) && !s.sys.dormDue then
    let t := passTo (max s.bat.cutoffAt s.mb.lostAt + sec * clkS) s
    .next { t with sys := { t.sys with dormDue := true, dormReq := none } }
  else .next s

/-! ### The bus -/

/-- CAPPING_END: ten consecutive cycles lay below the end level (R242). -/
def execCappingEnd (s : State) : Host.Outcome State Fault Refusal :=
  if fwActs s && decide (s.bus.capState ≠ 0 ∧ 10 ≤ s.bus.capLow) then .next (capEnd s) else .next s

/-- PEAK_SUPPORT_TIMEOUT: peak support has lasted BUS.PEAK_MAX_S; the stages are shed for the cap (R241). -/
def execPeakSupportTimeout (s : State) : Host.Outcome State Fault Refusal :=
  match s.bus.peakAt with
  | none => .next s
  | some t =>
    if !fwActs s then .next s
    else
      let s := endPeak false (passTo (t + pn s Prm.BUS_PEAK_MAX_S * clkS) s)
      .next { s with bus := { s.bus with capState := 2 } }

/-- RECT_LEFT_SET: a rectifier has not answered within 3 cycles; it has left S, which is recorded once (R237, R453). -/
def execRectLeftSet (c : Ch) (s : State) : Host.Outcome State Fault Refusal :=
  let d := s.shb.dev.get c
  if fwActs s && decide (3 ≤ d.miss) && !d.left then
    let dev := vmod s.shb.dev c fun d => { d with left := true }
    .next (logEvent Evt.RECT_LEFT_SET 1 c.val [] { s with shb := { s.shb with dev := dev } })
  else .next s

/-- WALKIN: a rectifier that conducts and is not in S asks for its walk-in (R238). -/
def execWalkin (c : Ch) (s : State) : Host.Outcome State Fault Refusal :=
  if fwActs s then .next (fileWalkin c s) else .next s

/-- WALKIN_END: BUS.WALKIN_MS after its grant the rectifier has its full weight, and the grant returns (R238). -/
def execWalkinEnd (c : Ch) (s : State) : Host.Outcome State Fault Refusal :=
  match s.bus.walk.get c with
  | .ramp t =>
    let s := passTo (t + pn s Prm.BUS_WALKIN_MS * clkMs) s
    let s := { s with bus := { s.bus with walk := vput s.bus.walk c .full } }
    match s.adm.grants.find? (fun o => o.code == Opn.WALKIN && o.ch == some c) with
    | some o => .next (returnOp o.id s)
    | none => .next s
  | .out => .next s
  | .queued => .next s
  | .full => .next s

/-- ADM_WAIT_TIMEOUT: the entry at a place of the queue has waited ADM.WAIT_MAX_MS; it completes with ST_REFUSED (R411,
R413). -/
def execAdmWaitTimeout (pos : Nat) (s : State) : Host.Outcome State Fault Refusal :=
  match s.adm.queue[pos - 1]? with
  | none => .next s
  | some o =>
    if pos = 0 ∨ !fwActs s then .next s
    else
      let b := o.waitOn
      let t := passTo (o.since + pn s Prm.ADM_WAIT_MAX_MS * clkMs) s
      let t := { t with adm := { t.adm with
        queue := t.adm.queue.filter (fun p => p.id != o.id), timeouts := sat32 (t.adm.timeouts + 1) } }
      let t := failEvent o b (dropOp o (ntfAdmit o b (decide_ o b 4 t)))
      .next (reportCh s (rejudge (opComplete o St.REFUSED b [] t)))

/-! ### The strings -/

/-- FLOAT_CRITERIA_MET: the criteria of a string have held for BAT.FLOAT_OK_S; its channel is armed, and RECHARGE ends when
every string meets them (R423). -/
def execFloatCriteriaMet (k : Str) (s : State) : Host.Outcome State Fault Refusal :=
  match boundCh s k, (s.str k).floatFrom with
  | some c, some t =>
    if !fwActs s || (s.str k).floatOk then .next s
    else
      let s := takeStrobe (passOptime (t + pn s Prm.BAT_FLOAT_OK_S * 1024) s)
      let s := modStr k (fun x => { x with floatOk := true }) s
      let s := if (s.chan c).st = .on ∧ !inTest s k then armCh c s else s
      .next (tryFloatEnd (evalPhases s))
  | _, _ => .next s

/-- END_OF_DISCHARGE: a string that conducts has reached its end of discharge (R434, R435). -/
def execEndOfDischarge (k : Str) (s : State) : Host.Outcome State Fault Refusal :=
  match boundCh s k with
  | none => .next s
  | some c =>
    if !fwActs s || !conducts s c then .next s
    else
      let t := match (s.str k).eodFrom with
        | some from_ => if eodNow s k c then s else passOptime (from_ + eodFilter s) s
        | none => s
      .next (if eodMet t k c then reportCh s (reachEnd k c t) else s)

/-- CUTOFF_BATTERY_OPEN: BAT.CUTOFF_DELAY_MS after the entry into CUTOFF every conducting BATTERY channel opens, each bound
string enters ENDED, and the log and the battery records are written (Table 16.5). -/
def execCutoffBatteryOpen (s : State) : Host.Outcome State Fault Refusal :=
  if !fwActs s || s.sys.mode != .cutoff || !s.bat.cutoffDue then .next s
  else
    let t := passTo (s.bat.cutoffAt + pn s Prm.BAT_CUTOFF_DELAY_MS * clkMs) s
    let t := { t with bat := { t.bat with cutoffDue := false } }
    let t := forEach allCh (fun c t =>
      if roleOf t c == .battery && conducts t c then openTo c .opened (openGate t c) t else t) t
    let t := forEach (boundStr t) (fun k t =>
      modStr k (fun x => { x with ended := true, floatOk := false, floatFrom := none }) t) t
    let t := offerLog (evalPhases t)
    .next (reportCh s (forEach (boundStr t) (fun k t => queueWrite RT.STRING_STATE k.val t) t))

/-- REST_REFERENCE: a string has been at rest for BAT.REST_S at a voltage in a steep segment; the reference may end a
discharge from FULL, which teaches the capacity (R428, R431). -/
def execRestReference (k : Str) (s : State) : Host.Outcome State Fault Refusal :=
  match boundCh s k, (s.str k).restFrom with
  | some c, some from_ =>
    match restSoc s k ((s.chan c).vfar : Rat) with
    | some soc =>
      if !batActs s then .next s
      else
        let s := passOptime (from_ + pn s Prm.BAT_REST_S * 1024) s
        let x := s.str k
        let enough := decide ((strCap s k : Rat) * (pget s Prm.BAT_LEARN_MIN_PCT : Rat) / 100 ≤ x.drawn)
        let s := if x.fromFull && enough && decide (soc < 1) then learn k (x.drawn / (1 - soc)) s else s
        .next (modStr k (fun x => { x with restFrom := some (optime s), fromFull := false })
          (reference k 2 soc 10000 s))
    | none => .next s
  | _, _ => .next s

/-- REJOIN_TIMEOUT: none of the cases of R424 has closed a string within BAT.REJOIN_WAIT_S; it enters LOW. -/
def execRejoinTimeout (k : Str) (s : State) : Host.Outcome State Fault Refusal :=
  match boundCh s k, (s.str k).rejoinFrom with
  | some c, some from_ =>
    if !fwActs s || !rejoinMode s || !(s.str k).ended then .next s
    else .next (reportCh s (enterLow k c (passOptime (from_ + pn s Prm.BAT_REJOIN_WAIT_S * 1024) s)))
  | _, _ => .next s

/-- The modes in which the strings' records are written by time: the battery history of BRIDGE and CUTOFF holds them
(Table 2.3, Table 16.5). -/
def stringKinds (s : State) : Bool :=
  s.sys.mode == .standby || s.sys.mode == .online || s.sys.mode == .recharge || s.sys.mode == .maintain
    || s.sys.mode == .bridge || s.sys.mode == .cutoff

/-- STRING_STATE_WRITE: every 60 s the estimate of every string is written (R38, R433). -/
def execStringStateWrite (s : State) : Host.Outcome State Fault Refusal :=
  if batActs s && stringKinds s then
    let s := passTo (s.bat.stateAt + 60 * clkS) s
    .next (forEach (boundStr s) (fun k s => queueWrite RT.STRING_STATE k.val s)
      { s with bat := { s.bat with stateAt := s.clock } })
  else .next s

/-- DUR_TEST_TIMEOUT: a DUR_TEST has lasted its duration and has passed (Table 16.7). -/
def execDurTestTimeout (s : State) : Host.Outcome State Fault Refusal :=
  match s.bat.test with
  | none => .next s
  | some t =>
    if !fwActs s || t.code != Opn.DUR_TEST then .next s
    else .next (endTest 3 0 (passOptime (t.at_ + t.dur * 1024) s))

end Sys2Proof.Machine
end

