-- ==== Sys2Proof/Machine/Xamir.lean ====
section
/-! DEFINITION. The Xamir die (chapter 13): counting, its nonvolatile memory, the seal, the protective interface and the
signed snapshots. -/

namespace Sys2Proof.Machine

/-- Changes the Xamir die. -/
def modXam (f : Xam → Xam) (s : State) : State := { s with xam := f s.xam }

/-- The die is fitted and its supply stands. -/
def xamUp (s : State) : Bool := s.xam.fitted && s.xam.powered

/-- Clocks of X_TIME in a second. -/
def xamSec (x : Xam) : Nat := x.timeClk / clkS

/-! ### The audit trail (R370) -/

/-- An audit entry enters the ring of 512, in place of the oldest when it is full (Table 13.10). -/
def Xam.log (x : Xam) (code obj data : Nat) : Xam :=
  let e : Audit :=
    { seq := (x.auditSeq + 1) % 2 ^ 32, time := xamSec x % 2 ^ 32, code := code, obj := obj, sealCnt := x.sealCount
      data := data % 2 ^ 32 }
  { x with auditSeq := e.seq, audit := if x.audit.length < 512 then x.audit ++ [e] else x.audit.drop 1 ++ [e] }

/-- Channel 0xFF of an audit entry. -/
def auditNone : Nat := 0xFF

/-! ### Storage (R346 to R348) -/

/-- The record as the registers stand. -/
def Xam.record (x : Xam) : XRec :=
  let seq := match x.recNew with
    | some r => r.seq + 1
    | none => 1
  { seq := seq % 2 ^ 32, imp := x.imp, exp := x.exp, impRes := x.impRes, expRes := x.expRes, sealCnt := x.sealCount
    calGen := x.calGen, snapSeq := x.snapSeq, cal := x.cal }

/-- A record is written over the older slot; `ok` says whether it verified. -/
def Xam.write (x : Xam) (ok : Bool) : Xam :=
  if ok then { x with recOld := x.recNew, recNew := some x.record, recBad := false, storeFail := false }
  else { x with recOld := none, recBad := true, storeFail := true }

/-- The greater component of two vectors at each place. -/
def vmax (v w : Vector Nat 24) : Vector Nat 24 := allCh.foldl (fun u c => vmod u c fun n => max n (w.get c)) v

/-- The registers of a record, or of a die that has written none; none is lower than a value that has been read or signed
(R348). -/
def Xam.restore (x : Xam) : Xam :=
  match x.recNew with
  | some r =>
    { x with
      imp := vmax r.imp x.shownImp, exp := vmax r.exp x.shownExp, impRes := r.impRes, expRes := r.expRes
      sealCount := r.sealCnt, calGen := r.calGen, snapSeq := max r.snapSeq x.snapSeq, cal := r.cal }
  | none =>
    { x with
      imp := x.shownImp, exp := x.shownExp, impRes := Vector.replicate 24 0
      expRes := Vector.replicate 24 0, sealCount := 0, calGen := 0, cal := XCal.reset }

/-- The import register of a channel has been read or signed at a value. -/
def Xam.showImp (c : Ch) (v : Nat) (x : Xam) : Xam := { x with shownImp := vmod x.shownImp c fun n => max n v }

/-- The export register of a channel has been read or signed at a value. -/
def Xam.showExp (c : Ch) (v : Nat) (x : Xam) : Xam := { x with shownExp := vmod x.shownExp c fun n => max n v }

/-! ### Counting (R339 to R343) -/

/-- The coefficients of an input: calibrated, or nominal. -/
def Xam.coefOf (x : Xam) (input : Fin 28) : Int × Nat := (x.cal.coef.get input).getD (0, Config.xamirGain input.val)

/-- The input of a channel's current. -/
def curInput (c : Ch) : Fin 28 := ⟨c.val, by omega⟩

/-- The input of a voltage. -/
def volInput (k : Fin 4) : Fin 28 := ⟨24 + k.val, by omega⟩

/-- A current of the channel lies below its no-load threshold, in 1/16 mA; the default is a thousandth of I_fs. -/
def Xam.idleCur (x : Xam) (c : Ch) (i16 : Int) : Bool :=
  match x.cal.noLoad.get c with
  | some ma => decide (i16.natAbs < 16 * ma)
  | none => decide (i16.natAbs * 1000 < 16 * Config.xamirFull c.val)

/-- The energy of a sample in 2^-32 mWh, for a power in 1/256 µW held over 1 / 6 103.515 625 s. -/
def sampleEnergy (p : Nat) : Nat := (ratFree 21 ((p : Rat) * 2 * 2 ^ 32 / (3125000 * 3600000))).toNat

/-- A register and its residue with an energy added: whole mWh move to the register, which holds at 2^64 - 1. -/
def addEnergy (reg res e : Nat) : Nat × Nat :=
  let sum := res + e
  (min (2 ^ 64 - 1) (reg + sum / 2 ^ 32), sum % 2 ^ 32)

/-- The power of a channel at a sample in 1/256 µW, 0 below the no-load threshold. -/
def Xam.powerOf (x : Xam) (m : XamirSamples) (c : Ch) : Int :=
  let i16 := v16Of (x.coefOf (curInput c)) (m.i.get c)
  let k := x.cal.vmap.get c
  if x.idleCur c i16 then 0 else v16Of (x.coefOf (volInput k)) (m.v.get k) * i16

/-- A sample of an enabled channel counts. -/
def Xam.countCh (m : XamirSamples) (x : Xam) (c : Ch) : Xam :=
  if !x.cal.enabled.get c then x
  else
    let p := x.powerOf m c
    let e := sampleEnergy p.natAbs
    let x := { x with pSum := vmod x.pSum c fun n => n + p }
    if 0 < p then
      let r := addEnergy (x.exp.get c) (x.expRes.get c) e
      { x with exp := vput x.exp c r.1, expRes := vput x.expRes c r.2 }
    else
      let r := addEnergy (x.imp.get c) (x.impRes.get c) e
      { x with imp := vput x.imp c r.1, impRes := vput x.impRes c r.2 }

/-- A current input at an end of its range: OVR for the following second, and an audit entry once an hour. -/
def Xam.rangeEnd (m : XamirSamples) (x : Xam) (c : Ch) : Xam :=
  if !m.rangeEnd.get c then x
  else
    let x := { x with ovrUntil := x.timeClk + clkS, intOvr := true }
    let told := match x.ovrAudit.get c with
      | some t => decide (x.timeClk < t + 3600 * clkS)
      | none => false
    if told then x else { x.log 0x09 c.val 0 with ovrAudit := vput x.ovrAudit c (some x.timeClk) }

/-- An enabled channel is assigned to a voltage input. -/
def Xam.used (x : Xam) (k : Fin 4) : Bool := allCh.any fun c => x.cal.enabled.get c && x.cal.vmap.get c == k

/-- A sample of a voltage input at a clock: an assigned one below 4 000 mV is noted since when, any other ends its VMISS. -/
def Xam.voltage (at_ : Nat) (m : XamirSamples) (x : Xam) (k : Fin 4) : Xam :=
  let v16 := v16Of (x.coefOf (volInput k)) (m.v.get k)
  let low := x.used k && decide (v16 < 64000)
  { x with
    vSum := vmod x.vSum k fun n => n + v16
    vmiss := vmod x.vmiss k fun b => b && low
    vLow := vmod x.vLow k fun t => if low then some (t.getD at_) else none }

/-! ### Snapshots (R352, R353, R356) -/

/-- X_ID and X_VERSION (Table 13.6). -/
def xId : Nat := 0x58A10101

/-- X_VERSION: the program version, and interface 1.1. -/
def xVersion : Nat := Config.xamirVersion % 2 ^ 16 * 2 ^ 16 + 0x0101

/-- The flags of a snapshot: what arose in its interval or stands (Table 13.8). -/
def Xam.snapFlags (x : Xam) : Nat :=
  bitAt (x.calGen == 0) 3 + bitAt x.intOvr 2 + bitAt (x.intVmiss || x.vmiss.toList.any id) 1 + bitAt (x.intOsc || x.osc) 0

/-- The bytes of a snapshot before its signature, for a map, a challenge and the 12 bytes of XNONCE. -/
def Xam.snapBody (x : Xam) (map challenge : Nat) (nonce : List Nat) : List Nat :=
  let chs := chNamed map
  beBytes 4 0x584D5350 ++ beBytes 2 1 ++ beBytes 2 (128 + 16 * chs.length) ++ beBytes 8 Config.xamirSerial
    ++ beBytes 4 (x.snapSeq + 1) ++ beBytes 2 x.sealCount ++ beBytes 1 (b2n x.sealOpen) ++ beBytes 1 x.snapFlags
    ++ beBytes 4 challenge ++ nonce ++ beBytes 8 (x.timeClk / 400000) ++ beBytes 4 map ++ beBytes 4 x.calGen
    ++ beBytes 4 Config.xamirProgCrc ++ beBytes 4 x.auditSeq
    ++ chs.flatMap fun c => beBytes 8 (x.imp.get c) ++ beBytes 8 (x.exp.get c)

/-- The latch of an accepted request at a sample instant; its interval ends, and the next one begins with what stands. -/
def latchSnap (s : State) : State :=
  match s.xam.snapWait with
  | none => s
  | some (map, challenge) =>
    let (ws, s) := drawWords 3 s
    let body := s.xam.snapBody map challenge (wordsBytes (ws.map BitVec.toNat))
    modXam (fun x => { x with
      snapWait := none, signing := some { map := map, body := body }, intOvr := decide (x.timeClk < x.ovrUntil)
      intVmiss := x.vmiss.toList.any id, intOsc := x.osc }) s

/-- A snapshot abandoned gives its interval back. -/
def Xam.abandonSnap (x : Xam) : Xam :=
  match x.signing with
  | none => { x with snapWait := none }
  | some p =>
    let f := p.body.getD 23 0
    { x with
      snapWait := none, signing := none, intOvr := x.intOvr || f.testBit 2, intVmiss := x.intVmiss || f.testBit 1
      intOsc := x.intOsc || f.testBit 0 }

/-- Core clocks from one set of samples to the next: 512 / 3.125 MHz (R341). -/
abbrev clkSample : Nat := 65536

/-- XAMIR_SAMPLE: the next set of simultaneous samples is counted, 163.84 µs after the last, and an accepted request latches
(R341, R342, R352). -/
def execXamirSample (m : XamirSamples) (s : State) : Host.Outcome State Fault Refusal :=
  if !xamUp s then .next s
  else
    let s := passTo (s.xam.sampleAt + clkSample) s
    let at_ := s.clock
    let s := modXam (fun x =>
      let x := allCh.foldl (Xam.rangeEnd m) (allCh.foldl (Xam.countCh m) x)
      let x := (List.finRange 4).foldl (Xam.voltage at_ m) x
      { x with nSum := x.nSum + 1, sampleAt := at_ }) s
    .next (latchSnap s)

/-- VMISS: an assigned voltage input has read below 4 000 mV for a whole second (R342). -/
def execVmiss (k : Fin 4) (meanMv : Nat) (s : State) : Host.Outcome State Fault Refusal :=
  match s.xam.vLow.get k with
  | none => .next s
  | some t =>
    if !xamUp s || !s.xam.used k || s.xam.vmiss.get k || decide (4000 ≤ meanMv) then .next s
    else .next (modXam (fun x =>
      { x.log 0x08 (0x80 + k.val) meanMv with vmiss := vput x.vmiss k true, intVmiss := true }) (passTo (t + clkS) s))

/-! ### The shadow file (R351, Table 13.6, Table 13.7) -/

/-- The seal counter stands at 65 535. -/
def Xam.sealSat (x : Xam) : Bool := x.sealCount == 65535

/-- X_STATUS. -/
def Xam.status (x : Xam) : Nat :=
  bitAt (x.calGen == 0) 8 + bitAt (x.signing.isSome || x.snapWait.isSome) 7 + bitAt x.sealSat 6
    + bitAt (decide (x.timeClk < x.ovrUntil)) 5 + bitAt (x.vmiss.toList.any id) 4 + bitAt (x.metro.staged != []) 3
    + bitAt x.storeFail 2 + bitAt x.osc 1 + bitAt x.sealOpen 0

/-- X_VMAP: two bits for each channel. -/
def Xam.vmapWord (x : Xam) : Nat := allCh.foldl (fun n c => n + (x.cal.vmap.get c).val * 4 ^ c.val) 0

/-- X_CHMAP. -/
def Xam.chmapWord (x : Xam) : Nat := bitsOf allCh fun c => x.cal.enabled.get c

/-- A mean of the refresh interval, which keeps its value when the interval holds no sample. -/
def Xam.meanOver (x : Xam) (unit : Nat) (sum old : Int) : Int :=
  if x.nSum = 0 then old else ratFree 22 ((sum : Rat) / ((unit * x.nSum : Nat) : Rat))

/-- The whole shadow file, from one instant. -/
def Xam.refresh (x : Xam) : Xam :=
  let v := (List.finRange 4).foldl (fun v k => vmod v k fun old => x.meanOver 16 (x.vSum.get k) old) x.shadow.v
  let p := allCh.foldl (fun v c => vmod v c fun old => x.meanOver 256000 (x.pSum.get c) old) x.shadow.p
  { x with
    shadow := { status := x.status, sealCnt := bitAt x.sealOpen 16 + x.sealCount, calGen := x.calGen
                auditSeq := x.auditSeq, snapSeq := x.snapSeq, time := x.timeClk / 400000, chmap := x.chmapWord
                vmap := x.vmapWord, rejects := x.rejects, v := v, p := p, imp := x.imp, exp := x.exp
                audit := x.audit }
    vSum := Vector.replicate 4 0, pSum := Vector.replicate 24 0, nSum := 0 }

/-- XAMIR_REFRESH: every 250 ms the shadow file is refreshed (R351). -/
def execXamirRefresh (s : State) : Host.Outcome State Fault Refusal :=
  if xamUp s then
    let s := passTo (s.xam.refreshAt + 250 * clkMs) s
    .next (modXam (fun x => { x.refresh with refreshAt := s.clock }) s)
  else .next s

/-- XAMIR_STORE: the record of each second is written; `ok` says whether it verified (R346). -/
def execXamirStore (ok : Bool) (s : State) : Host.Outcome State Fault Refusal :=
  if xamUp s then
    let s := passTo (s.xam.storeAt + clkS) s
    .next (modXam (fun x => { x.write ok with storeAt := s.clock }) s)
  else .next s

/-! ### The seal (R364, R365) -/

/-- The seal opens and is counted, and both are stored; at 65 535 the counter stands, and the seal counts as closed. -/
def Xam.opens (x : Xam) : Xam :=
  if x.sealOpen || x.sealSat then x
  else
    let x := ({ x with sealCount := x.sealCount + 1, sealOpen := true }).log 0x03 auditNone 0
    let x := if x.sealSat then { x.log 0x0C auditNone 0 with sealOpen := false } else x
    x.write true

/-- One staged item is applied. -/
def XCal.take (k : XCal) : Staged → XCal
  | .enable n on => { k with enabled := vput k.enabled n on }
  | .voltage n v => { k with vmap := vput k.vmap n v }
  | .noLoad n ma => { k with noLoad := vput k.noLoad n (some ma) }
  | .coef i ofs gain => { k with coef := vput k.coef i (some (ofs, gain)) }

/-- The seal closes: a capture under way fails, and what is staged is committed under the next generation (R368, R369). -/
def Xam.closes (x : Xam) : Xam :=
  if !x.sealOpen then x
  else
    let tx := if x.metro.capture.isSome then x.metro.tx ++ [.err 4] else x.metro.tx
    let staged := x.metro.staged
    let x := { x with sealOpen := false, metro := { x.metro with capture := none, staged := [], tx := tx } }
    if staged = [] then x.log 0x04 auditNone 0
    else
      let x := x.log 0x04 auditNone 1
      let gen := (x.calGen + 1) % 2 ^ 32
      let x := ({ x with cal := staged.foldl XCal.take x.cal, calGen := gen }).write true
      x.log 0x05 auditNone gen

/-- SEAL_OPEN: SEAL_SW has read low for 50 ms (R364). -/
def execSealOpen (s : State) : Host.Outcome State Fault Refusal :=
  if xamUp s then .next (modXam Xam.opens s) else .next s

/-- SEAL_CLOSE: SEAL_SW has read high for 50 ms (R364). -/
def execSealClose (s : State) : Host.Outcome State Fault Refusal :=
  if xamUp s then .next (modXam Xam.closes s) else .next s

/-! ### Supply and reference (R345, R347, R348) -/

/-- The registers after a rise of VDD_XM at a clock. -/
def Xam.start (x : Xam) (sealLow : Bool) (at_ : Nat) : Xam :=
  let x := { x.restore with
    powered := true, sealOpen := false, osc := false, vmiss := Vector.replicate 4 false, ovrUntil := 0, storeFail := false
    vLow := Vector.replicate 4 none, sampleAt := at_, refreshAt := at_, storeAt := at_ }
  let x := match x.recNew with
    | some r => if x.recBad then x.log 0x0B auditNone r.seq else x
    | none => x
  let x := { x with recBad := false, vSum := Vector.replicate 4 0, pSum := Vector.replicate 24 0, nSum := 0 }
  let x := x.log 0x01 auditNone 0
  let x := if sealLow then x.opens else x
  x.refresh

/-! ### The protective interface (R349, R350, Tables 13.4 to 13.6) -/

/-- A value of 64 bits as two words, the high word first. -/
def two (v : Nat) : List Nat := [v / 2 ^ 32 % 2 ^ 32, v % 2 ^ 32]

/-- The four words of an audit slot. Entry `q` stands in slot (q - 1) mod 512. -/
def XShadow.auditSlot (x : XShadow) (slot : Nat) : List Nat :=
  match x.audit.find? (fun e => (e.seq + 511) % 512 == slot) with
  | some e => two (auditWords e).1 ++ two (auditWords e).2
  | none => [0, 0, 0, 0]

/-- A register of the shadow file by its address (Table 13.6). -/
def XShadow.reg (x : XShadow) (a : Nat) : Nat :=
  match a with
  | 0x000 => xId
  | 0x001 => xVersion
  | 0x002 => x.status
  | 0x003 => x.sealCnt
  | 0x004 => x.calGen
  | 0x005 => Config.xamirProgCrc % 2 ^ 32
  | 0x006 => x.auditSeq
  | 0x007 => x.snapSeq
  | 0x008 => (two Config.xamirSerial).getD 0 0
  | 0x009 => (two Config.xamirSerial).getD 1 0
  | 0x00A => (two x.time).getD 0 0
  | 0x00B => (two x.time).getD 1 0
  | 0x00C => x.chmap
  | 0x00D => (two x.vmap).getD 0 0
  | 0x00E => (two x.vmap).getD 1 0
  | 0x00F => x.rejects
  | _ =>
    if 0x010 ≤ a ∧ a < 0x014 then asBits 32 (x.v.toList.getD (a - 0x010) 0)
    else if 0x020 ≤ a ∧ a < 0x038 then asBits 32 (x.p.toList.getD (a - 0x020) 0)
    else if 0x040 ≤ a ∧ a < 0x0A0 then
      let n := (a - 0x040) / 4
      let l := two (x.imp.toList.getD n 0) ++ two (x.exp.toList.getD n 0)
      l.getD (a % 4) 0
    else if 0x100 ≤ a ∧ a < 0x900 then (x.auditSlot ((a - 0x100) / 4)).getD (a % 4) 0
    else if 0x900 ≤ a ∧ a < 0x980 then beNat ((List.range 4).map fun k => Config.xamirCert (4 * (a - 0x900) + k) % 256)
    else 0

/-- A response frame: word 0, the data words and the trailer with its CRC-16 (Table 13.5). -/
def respond (cmd result seq : Nat) (data : List Nat) (s : State) : State :=
  let head := cmd * 2 ^ 28 + result * 2 ^ 24 + (data.length - 1) * 2 ^ 16 + seq
  let ws := head :: data
  modXam (fun x => { x with resp := ws.map wd ++ [wd (crc16 (wordsBytes ws))] }) s

/-- The results of Table 13.5. -/
abbrev XRes.BAD_CRC : Nat := 1
abbrev XRes.BAD_CMD : Nat := 2
abbrev XRes.BAD_ADDR : Nat := 3
abbrev XRes.BUSY : Nat := 4
abbrev XRes.NOT_READY : Nat := 5

/-- A word of the shadow file is read: an energy among them has been read (R348). -/
def Xam.showAt (x : Xam) (a : Nat) : Xam :=
  if h : 0x040 ≤ a ∧ a < 0x0A0 then
    let c : Ch := ⟨(a - 0x040) / 4, by omega⟩
    if a % 4 < 2 then x.showImp c (x.shadow.imp.get c) else x.showExp c (x.shadow.exp.get c)
  else x

/-- XAMIR_READ: a READ frame is answered from the shadow file; `count` is the frame's COUNT - 1 (R350, R351). -/
def execXamirRead (addr : Nat) (count : Fin 64) (seq : Byte) (s : State) : Host.Outcome State Fault Refusal :=
  if !xamUp s then .next s
  else if 0x980 < addr + count.val + 1 then .next (respond 1 XRes.BAD_ADDR seq.toNat [] s)
  else
    let s := modXam (fun x => (List.range (count.val + 1)).foldl (fun x k => x.showAt (addr + k)) x) s
    .next (respond 1 0 seq.toNat ((List.range (count.val + 1)).map fun k => s.xam.shadow.reg (addr + k)) s)

/-- A snapshot is being signed, or waits for its sample instant. -/
def Xam.busy (x : Xam) : Bool := x.signing.isSome || x.snapWait.isSome

/-- A SNAP_REQ reaches Xamir: its result. A map of 0 selects the certificate; any other latches at the next sample instant
(R352). -/
def takeReq (map challenge : Nat) (s : State) : Nat × State :=
  if s.xam.busy then (XRes.BUSY, s)
  else if map = 0 then (0, modXam (fun x => { x with certSel := true, snap := none }) s)
  else (0, modXam (fun x => { x with certSel := false, snap := none, snapWait := some (map, challenge) }) s)

/-- SNAP_REQ (R352). -/
def execSnapReq (map : Nat) (challenge : Word) (seq : Byte) (s : State) : Host.Outcome State Fault Refusal :=
  if !xamUp s then .next s
  else
    let r := takeReq (map % 2 ^ 24) challenge.toNat s
    .next (respond 2 r.1 seq.toNat [] r.2)

/-- The words that SNAP_FETCH reads: the certificate, or the completed snapshot. -/
def Xam.fetchWords (x : Xam) : Option (List Nat) :=
  if x.busy then none
  else if x.certSel then some (bytesWords ((List.range 512).map fun k => Config.xamirCert k % 256))
  else x.snap.map bytesWords

/-- SNAP_FETCH (R352); `count` is the frame's COUNT - 1. -/
def execSnapFetch (ofs : Nat) (count : Fin 64) (seq : Byte) (s : State) : Host.Outcome State Fault Refusal :=
  if !xamUp s then .next s
  else match s.xam.fetchWords with
    | none => .next (respond 3 XRes.NOT_READY seq.toNat [] s)
    | some l =>
      if l.length < ofs + count.val + 1 then .next (respond 3 XRes.BAD_ADDR seq.toNat [] s)
      else .next (respond 3 0 seq.toNat ((l.drop ofs).take (count.val + 1)) s)

/-- A rejection counted in X_REJECTS; the first in each hour of X_TIME is in the audit trail (R350). -/
def Xam.reject (x : Xam) : Xam :=
  let hour := xamSec x / 3600
  let x := { x with rejects := sat32 (x.rejects + 1) }
  if x.rejectHour = some hour then x else { x.log 0x0A auditNone x.rejects with rejectHour := some hour }

/-- XAMIR_FRAME_REJECTED: a frame with a wrong CRC, an undefined command, or a length that fits no command (R350). The
command echoed for a wrong CRC is left open; a frame that fits no command gets no answer. -/
def execXamirFrameRejected (why : XifReject) (seq : Byte) (s : State) : Host.Outcome State Fault Refusal :=
  if !xamUp s then .next s
  else match why with
    | .badCrc =>
      let (w, s) := drawWord s
      .next (respond (w.toNat % 16) XRes.BAD_CRC seq.toNat [] s)
    | .badCmd cmd =>
      if 1 ≤ cmd ∧ cmd ≤ 3 then .next s
      else .next (respond (cmd % 16) XRes.BAD_CMD seq.toNat [] (modXam Xam.reject s))
    | .badLength => .next (modXam (fun x => { x.reject with resp := [] }) s)

/-- XAMIR_REF_LOST: Xamir changes to its internal oscillator (R345). -/
def execXamirRefLost (s : State) : Host.Outcome State Fault Refusal :=
  if !xamUp s || s.xam.osc then .next s
  else .next (modXam (fun x => { x.log 0x06 auditNone 0 with osc := true, intOsc := true, oscAt := s.clock }) s)

/-- XAMIR_REF_RETURN: the reference has been correct for 10 s, and Xamir changes back (R345). -/
def execXamirRefReturn (s : State) : Host.Outcome State Fault Refusal :=
  if !xamUp s || !s.xam.osc then .next s
  else .next (modXam (fun x => { x.log 0x07 auditNone 0 with osc := false }) (passTo (s.xam.oscAt + 10 * clkS) s))

/-! ### SNAP_READ with source 3 (R358, R359) -/

/-- The words in segments of at most 31. -/
def snapSegments (l : List Nat) : List (List Word) := pieces (l.length + 1) (l.map wd)

/-- The next SNAP_READ of source 3 that waits becomes the one passed to Xamir. -/
def nextRead (s : State) : State :=
  match s.met.waiting with
  | [] => { s with met := { s.met with running := none } }
  | p :: t => { s with met := { s.met with running := some p, waiting := t } }

/-- The SNAP_READ in hand is passed to Xamir, when Xamir is free to take it; one for the certificate is streamed at once, and
the next one follows. `fuel` bounds the commands passed. -/
def passReads : Nat → State → State
  | 0, s => s
  | fuel + 1, s =>
    match s.met.running with
    | none => s
    | some (tag, map, challenge) =>
      if !xamUp s then s else
      let r := takeReq map challenge s
      if r.1 ≠ 0 then s
      else if map = 0 then
        let l := r.2.xam.fetchWords.getD []
        passReads fuel (nextRead (streamOut tag (snapSegments l) St.OK [wd l.length] r.2))
      else r.2

/-- The SNAP_READ in hand, and with `all` those that wait, end with ST_ABORTED (R359). -/
def abortReads (all : Bool) (s : State) : State :=
  let run := s.met.running.toList ++ (if all then s.met.waiting else [])
  let s := forEach run (fun p s => complete p.1 St.ABORTED [] s) s
  let s := if all then { s with met := { s.met with waiting := [] } } else s
  passReads 9 (nextRead s)

/-- The energies of a signed snapshot count as signed (R348, Table 13.8). -/
def Xam.showSnap (p : XSnap) (x : Xam) : Xam :=
  let at_ := fun (k : Nat) => beNat ((p.body.drop k).take 8)
  ((chNamed p.map).zipIdx).foldl (fun x q => (x.showImp q.1 (at_ (64 + 16 * q.2))).showExp q.1 (at_ (72 + 16 * q.2))) x

/-- SNAPSHOT_SIGNED: signing ends, the snapshot sequence advances and the snapshot can be fetched; a SNAP_READ that asked for
it streams it, and the next one is passed to Xamir (R352, R359). -/
def execSnapshotSigned (s : State) : Host.Outcome State Fault Refusal :=
  match s.xam.signing with
  | none => .next s
  | some p =>
    if !xamUp s then .next s
    else
      let bytes := p.body ++ Config.xamirSign (sha256 p.body)
      let s := modXam (fun x =>
        { x.showSnap p with signing := none, snap := some bytes, snapSeq := (x.snapSeq + 1) % 2 ^ 32 }) s
      match s.met.running with
      | some (tag, map, challenge) =>
        if p.map = map ∧ beNat ((p.body.drop 24).take 4) = challenge then
          let l := bytesWords bytes
          .next (passReads 9 (nextRead (streamOut tag (snapSegments l) St.OK [wd l.length] s)))
        else .next (passReads 9 s)
      | none => .next s

/-- A signing that a SNAP_READ in hand asked for is abandoned: that command ends with ST_ABORTED, and the next one waits for
Xamir (R353, R359). -/
def abandonRead (s : State) : State :=
  match s.met.running, s.xam.busy with
  | some (_, map, challenge), true =>
    let asked := match s.xam.signing with
      | some p => decide (p.map = map ∧ beNat ((p.body.drop 24).take 4) = challenge)
      | none => s.xam.snapWait == some (map, challenge)
    if asked then abortReads false (modXam (fun x => { x with powered := false }) s) else s
  | _, _ => s

/-- SNAP_READ of source 3. -/
def snapXamirOp (c : Cmd) (s : State) : State :=
  let map := (c.w 0).field 0 24
  if !meterPresent s then complete c.id St.REFUSED [] s
  else if !c.lenOk 2 || !(allCh.all fun k => !map.testBit k.val || s.met.mirror.chmap.testBit k.val) then
    complete c.id St.RANGE [] s
  else if 8 ≤ s.met.waiting.length then complete c.id St.BUSY [] s
  else
    let p := (c.id, map, (c.w 1).toNat)
    let s := begin_ c.id s
    if s.met.running.isSome then { s with met := { s.met with waiting := s.met.waiting ++ [p] } }
    else passReads 9 { s with met := { s.met with running := some p } }

/-- SNAP_READ_XAMIR: source 3. -/
def execSnapReadXamir (n : Mb) (s : State) : Host.Outcome State Fault Refusal :=
  .next (runCmd n (fun op b => op == 0x50 && (b.getD 0 0).field 24 8 == 3) snapXamirOp s)

/-- XAMIR_POWER_FAIL: VDD_XM falls below its threshold: counting stops, and the final record is written, or is not complete
when the supply gave out (R347, R348, R353). -/
def execXamirPowerFail (finalWritten : Bool) (s : State) : Host.Outcome State Fault Refusal :=
  if !xamUp s then .next s
  else .next (modXam (fun x =>
    let x := x.abandonSnap
    let x := if finalWritten then (x.write true).log 0x02 auditNone 0 else { x.write false with storeFail := x.storeFail }
    { x with powered := false, snap := none, certSel := false, resp := [], metro := { Metro.reset with tx := x.metro.tx } })
    (abandonRead s))

/-- XAMIR_POWER_UP: VDD_XM returns; Xamir restores the newest valid record and counts again (R348, R365). A SNAP_READ
that waits is passed to it. -/
def execXamirPowerUp (sealLow : Bool) (s : State) : Host.Outcome State Fault Refusal :=
  if !s.xam.fitted || s.xam.powered then .next s
  else
    .next (passReads 9 (modXam (fun x => x.start sealLow s.clock) s))

end Sys2Proof.Machine
end

