-- ==== Sys2Proof/Machine/Metro.lean ====
section
/-! DEFINITION. The metrology port of Xamir: sign-on, programming mode, reads, staged writes and captures (R366 to R369). -/

namespace Sys2Proof.Machine

/-- Changes the metrology port. -/
def modMetro (f : Metro → Metro) (s : State) : State := modXam (fun x => { x with metro := f x.metro }) s

/-- A reply goes out on MET_TX. -/
def reply (r : MReply) (s : State) : State := modMetro (fun m => { m with tx := m.tx ++ [r] }) s

/-! ### Values (Table 13.11) -/

/-- What an item stages for a channel's enable, voltage or no-load threshold, and what is in force, the staged one first. -/
def stagedEnable (x : Xam) (n : Ch) : Bool :=
  x.metro.staged.foldl (fun b i => match i with
    | .enable m on => if m = n then on else b
    | _ => b) (x.cal.enabled.get n)

/-- The voltage input of a channel, as staged or in force. -/
def stagedVoltage (x : Xam) (n : Ch) : Fin 4 :=
  x.metro.staged.foldl (fun b i => match i with
    | .voltage m k => if m = n then k else b
    | _ => b) (x.cal.vmap.get n)

/-- The no-load threshold of a channel in mA, as staged or in force. -/
def stagedNoLoad (x : Xam) (n : Ch) : Int :=
  let own : Int := match x.cal.noLoad.get n with
    | some ma => ma
    | none => ratFree 23 ((Config.xamirFull n.val : Rat) / 1000)
  x.metro.staged.foldl (fun b i => match i with
    | .noLoad m ma => if m = n then (ma : Int) else b
    | _ => b) own

/-- The value of an identifier that can be read; none for one that cannot (Table 13.11). -/
def metroValue (x : Xam) : MetroId → Option Int
  | .energyImport n => some (x.imp.get n)
  | .energyExport n => some (x.exp.get n)
  | .sealCount => some x.sealCount
  | .calGen => some x.calGen
  | .snapSeq => some x.snapSeq
  | .serial => some Config.xamirSerial
  | .version => some (Config.xamirVersion % 2 ^ 16 : Nat)
  | .progCrc => some (Config.xamirProgCrc % 2 ^ 32 : Nat)
  | .voltage k => some (x.shadow.v.get k)
  | .chEnable n => some (b2n (stagedEnable x n) : Nat)
  | .chVoltage n => some ((stagedVoltage x n).val : Nat)
  | .chNoLoad n => some (stagedNoLoad x n)
  | .zeroI _ => none
  | .zeroV _ => none
  | .fullI _ => none
  | .fullV _ => none
  | .abandon => none
  | .unknown _ => none

/-- The identifiers that a data readout sends: those of every enabled channel and voltage input, and the die's own. -/
def readoutIds (x : Xam) : List MetroId :=
  (allCh.filter fun n => x.cal.enabled.get n).flatMap (fun n => [.energyImport n, .energyExport n])
    ++ [.sealCount, .calGen, .snapSeq, .serial, .version, .progCrc] ++ (List.finRange 4).map .voltage

/-- The energies among identifiers sent have been read (R348). -/
def Xam.showIds (x : Xam) (l : List MetroId) : Xam :=
  l.foldl (fun x i => match i with
    | .energyImport c => x.showImp c (x.imp.get c)
    | .energyExport c => x.showExp c (x.exp.get c)
    | _ => x) x

/-- A command has reached the port: the 120 s of the session begin again. -/
def metroSeen (s : State) : State := modMetro (fun m => { m with lastAt := s.clock }) s

/-- The data of a list of identifiers. -/
def metroData (x : Xam) (l : List MetroId) : MReply :=
  .data (l.filterMap fun i => (metroValue x i).map fun v => (i, v))

/-! ### Commands -/

/-- The rate of a baud-rate character (R366). -/
def metroRate (code old : Nat) : Nat :=
  match code with
  | 0 => 300 | 1 => 600 | 2 => 1200 | 3 => 2400 | 4 => 4800 | 5 => 9600 | _ => old

/-- METRO_SIGN_ON: identification at 300 Bd, the change of rate, and the data readout (R366). -/
def execMetroSignOn (baudCode : Nat) (s : State) : Host.Outcome State Fault Refusal :=
  if !xamUp s then .next s
  else
    let s := modMetro (fun m => { m with on := true, prog := false, baud := metroRate baudCode 300 }) (metroSeen s)
    let s := modXam (fun x => x.showIds (readoutIds x)) s
    .next (reply (metroData s.xam (readoutIds s.xam)) (reply (.ident (Config.xamirVersion % 2 ^ 16)) s))

/-- METRO_P1: programming mode, with any password, only while the seal is open (R366). -/
def execMetroP1 (s : State) : Host.Outcome State Fault Refusal :=
  if !xamUp s || !s.xam.metro.on then .next s
  else if s.xam.sealOpen then .next (reply .ack (modMetro (fun m => { m with prog := true }) (metroSeen s)))
  else .next (reply (.err 1) (metroSeen s))

/-- METRO_R1_READ: an identifier is read in programming mode (R367). -/
def execMetroR1Read (id : MetroId) (s : State) : Host.Outcome State Fault Refusal :=
  if !xamUp s || !s.xam.metro.prog then .next s
  else match metroValue s.xam id with
    | some v => .next (reply (.data [(id, v)]) (modXam (fun x => x.showIds [id]) (metroSeen s)))
    | none => .next (reply (.err 2) (metroSeen s))

/-- A value is staged for the next seal closing, in place of an earlier one of the same item. -/
def stage (i : Staged) (s : State) : State :=
  let same : Staged → Bool := fun j => match i, j with
    | .enable a _, .enable b _ => a == b
    | .voltage a _, .voltage b _ => a == b
    | .noLoad a _, .noLoad b _ => a == b
    | .coef a _ _, .coef b _ _ => a == b
    | _, _ => false
  modMetro (fun m => { m with staged := m.staged.filter (fun j => !same j) ++ [i] }) s

/-- A capture begins; a full one needs a zero capture of its input (R367, R368). -/
def beginCapture (input : Fin 28) (full : Bool) (v : Int) (s : State) : State :=
  if v < -0x80000000 ∨ 0x7FFFFFFF < v then reply (.err 3) s
  else if full && !(s.xam.metro.zeros.any fun z => z.1 == input) then reply (.err 4) s
  else modMetro (fun m => { m with capture := some (input, full, v), capAt := s.clock }) s

/-- A W1 of an identifier while the seal is open. -/
def metroWrite (id : MetroId) (v : Int) (s : State) : State :=
  match id with
  | .chEnable n => if v = 0 ∨ v = 1 then reply .ack (stage (.enable n (v == 1)) s) else reply (.err 3) s
  | .chVoltage n =>
    if h : 0 ≤ v ∧ v < 4 then reply .ack (stage (.voltage n ⟨v.toNat, by omega⟩) s) else reply (.err 3) s
  | .chNoLoad n => if 0 ≤ v ∧ v ≤ 1000 then reply .ack (stage (.noLoad n v.toNat) s) else reply (.err 3) s
  | .zeroI n => beginCapture (curInput n) false v s
  | .zeroV k => beginCapture (volInput k) false v s
  | .fullI n => beginCapture (curInput n) true v s
  | .fullV k => beginCapture (volInput k) true v s
  | .abandon => reply .ack (modMetro (fun m => { m with staged := [] }) s)
  | .energyImport _ => reply (.err 2) s
  | .energyExport _ => reply (.err 2) s
  | .sealCount => reply (.err 2) s
  | .calGen => reply (.err 2) s
  | .snapSeq => reply (.err 2) s
  | .serial => reply (.err 2) s
  | .version => reply (.err 2) s
  | .progCrc => reply (.err 2) s
  | .voltage _ => reply (.err 2) s
  | .unknown _ => reply (.err 2) s

/-- METRO_W1_WRITE: a value is staged or a capture starts; with the seal closed the answer is ERR01 (R367). The W1 of a
capture is answered when the capture ends, and none is taken meanwhile. -/
def execMetroW1Write (id : MetroId) (v : Int) (s : State) : Host.Outcome State Fault Refusal :=
  if !xamUp s || !s.xam.metro.on then .next s
  else if !s.xam.sealOpen then .next (reply (.err 1) (metroSeen s))
  else if !s.xam.metro.prog || s.xam.metro.capture.isSome then .next s
  else .next (metroWrite id v (metroSeen s))

/-- The coefficients of a full capture, when their gain lies in its window (R319, R368). -/
def metroCoef (input : Fin 28) (z mz f mf : Int) : Option (Int × Nat) :=
  let g := calGain z f mz mf
  let nom : Int := Config.xamirGain input.val
  if mf = mz ∨ g ≤ 0 ∨ 4 * g < 3 * nom ∨ 4 * nom < 3 * g ∨ 0xFFFFFFFF < g then none else some (calOfs z mz g, g.toNat)

/-- METRO_CAPTURE_END: the 10 s of a capture are over: `mean` is the mean of 16 × c, and `steady` says that the per-second
means differ by no more than 0.05 % of the span (R368). -/
def execMetroCaptureEnd (mean : Int) (steady : Bool) (s : State) : Host.Outcome State Fault Refusal :=
  if !xamUp s then .next s
  else match s.xam.metro.capture with
    | none => .next s
    | some (input, full, v) =>
      let s := modMetro (fun m => { m with capture := none }) (passTo (s.xam.metro.capAt + 10 * clkS) s)
      if !steady then .next (reply (.err 4) s)
      else if !full then
        .next (reply .ack (modMetro (fun m =>
          { m with zeros := m.zeros.filter (fun z => z.1 != input) ++ [(input, v, mean)] }) s))
      else match s.xam.metro.zeros.find? (fun z => z.1 == input) with
        | none => .next (reply (.err 4) s)
        | some z =>
          match metroCoef input z.2.1 z.2.2 v mean with
          | some k => .next (reply .ack (stage (.coef input k.1 k.2) s))
          | none => .next (reply (.err 4) s)

/-- METRO_TIMEOUT: 120 s without a command end the session (R366). What is staged stays for the seal closing. -/
def execMetroTimeout (s : State) : Host.Outcome State Fault Refusal :=
  if xamUp s && s.xam.metro.on && s.xam.metro.capture.isNone then
    .next (modMetro (fun m => { m with on := false, prog := false, baud := 300 })
      (passTo (s.xam.metro.lastAt + 120 * clkS) s))
  else .next s

end Sys2Proof.Machine
end

