-- ==== Sys2Proof/Machine/Met.lean ====
section
/-! DEFINITION. The MET block of the main die: the mirror of Xamir's shadow file, the polls and the cross-check (R360 to
R362). -/

namespace Sys2Proof.Machine

/-- The firmware watches a Xamir that is fitted. -/
def metActs (s : State) : Bool := s.xam.fitted && anyPup s && !s.svc.halted && s.sys.phase == .run

/-- MET.SEAL and the presence go out: H_IRQ_STATUS[10], NTF_METER and an event record of severity notice (R360). -/
def tellMeter (s : State) : State :=
  let body := meterBody s
  logEvent Evt.METER_STATE 1 objNone [s.met.st, s.met.mirror.sealCnt] (notifyAll Opc.NTF_METER body (setIrq Irq.METER s))

/-- One energy value is copied; one that would fall is kept, with MET.XCHK bit 24 and a record (R361). -/
def copyEnergy (c : Ch) (old new : Nat) (s : State) : Nat × State :=
  if new < old then
    (old, logEvent Evt.METER_BACKWARDS 3 c.val (two old ++ two new)
      { s with met := { s.met with xchk := s.met.xchk ||| 2 ^ 24 } })
  else (new, s)

/-- The energies of a channel are copied. -/
def copyCh (c : Ch) (s : State) : State :=
  let f := s.xam.shadow
  let (i, s) := copyEnergy c (s.met.mirror.imp.get c) (f.imp.get c) s
  let (e, s) := copyEnergy c (s.met.mirror.exp.get c) (f.exp.get c) s
  { s with met := { s.met with mirror := { s.met.mirror with
    imp := vput s.met.mirror.imp c i, exp := vput s.met.mirror.exp c e } } }

/-- The shadow file is copied into the MET parameters (R360). A change of the seal state is told. -/
def copyMeter (s : State) : State :=
  let was := s.met.mirror.sealCnt.testBit 16
  let s := forEach allCh copyCh s
  let f := s.xam.shadow
  let s := modXam (fun x => allCh.foldl (fun x c => (x.showImp c (f.imp.get c)).showExp c (f.exp.get c)) x) s
  let s := { s with met := { s.met with
    mirror := { f with imp := s.met.mirror.imp, exp := s.met.mirror.exp }, copiedAt := s.clock
    xid := xId, xversion := xVersion, progCrc := Config.xamirProgCrc % 2 ^ 32, serial := Config.xamirSerial % 2 ^ 64 } }
  let s := auditSelect (pn s Prm.MET_AUDIT_SEL) s
  if s.met.mirror.sealCnt.testBit 16 = was then s else tellMeter s

/-- MET_COPY: once per second the firmware copies the shadow file (R360). -/
def execMetCopy (s : State) : Host.Outcome State Fault Refusal :=
  if metActs s && s.xam.powered && s.met.st == 2 then .next (copyMeter (passTo (s.met.copiedAt + clkS) s)) else .next s

/-- MET.STATE once Xamir answers: PRESENT, or INCOMPATIBLE when its interface major version is not 1 (R355). -/
def answeredState : Nat := if xVersion / 2 ^ 8 % 2 ^ 8 = 1 then 2 else 3

/-- A poll that Xamir answers: with a state it did not have, the meter is told of, and its registers copied. -/
def pollAnswered (s : State) : State :=
  let s := { s with met := { s.met with fails := 0 } }
  if s.met.st = answeredState then s
  else
    let s := { s with met := { s.met with st := answeredState, xid := xId, xversion := xVersion } }
    tellMeter (if answeredState = 2 then copyMeter s else s)

/-- A poll that fails: the third in a row makes the meter silent. -/
def pollFailed (s : State) : State :=
  let s := { s with met := { s.met with fails := min 3 (s.met.fails + 1) } }
  if s.met.fails < 3 ∨ s.met.st = 1 then s else tellMeter (abortReads true { s with met := { s.met with st := 1 } })

/-- MET_POLL: the firmware polls X_ID every 100 ms; three failed polls in a row make the meter silent, and the first that
succeeds restores it (R360). SNAP_READs in hand end when it becomes absent (R359). -/
def execMetPoll (answered : Bool) (s : State) : Host.Outcome State Fault Refusal :=
  if !metActs s then .next s
  else
    let s := passTo (s.met.pollAt + 100 * clkMs) s
    let s := { s with met := { s.met with pollAt := s.clock } }
    .next (if answered && s.xam.powered then pollAnswered s else pollFailed s)

/-- The main die's power of a channel over the minute in mW, and whether it differs from MET.Pn_MW by more than 2 % + 20 W
(R362). -/
def crossDiffers (s : State) (c : Ch) : Int × Bool :=
  let mean : Rat := if s.met.nMin = 0 then 0 else (s.met.pMin.get c : Rat) / 1000 / (s.met.nMin : Rat)
  let d := (s.met.mirror.p.get c : Rat) - mean
  (ratFree 24 mean, decide (|mean| * 2 / 100 + 20000 < |d|))

/-- The comparison of one channel: ten minutes of difference set its bit of MET.XCHK, ten of agreement clear it. -/
def crossCh (c : Ch) (s : State) : State :=
  if !s.met.mirror.chmap.testBit c.val then s
  else
    let (own, bad) := crossDiffers s c
    let d := if bad then min 10 (s.met.differ.get c + 1) else 0
    let a := if bad then 0 else min 10 (s.met.agree.get c + 1)
    let set := s.met.xchk.testBit c.val
    let s := { s with met := { s.met with differ := vput s.met.differ c d, agree := vput s.met.agree c a } }
    if d = 10 ∧ !set then
      logEvent Evt.METER_XCHK 2 c.val [asBits 32 (s.met.mirror.p.get c), asBits 32 own]
        { s with met := { s.met with xchk := s.met.xchk ||| 2 ^ c.val } }
    else if a = 10 ∧ set then { s with met := { s.met with xchk := s.met.xchk ^^^ 2 ^ c.val } }
    else s

/-- MET_CROSS_CHECK: once per minute Xamir's powers are compared with the main die's (R362). -/
def execMetCrossCheck (s : State) : Host.Outcome State Fault Refusal :=
  if !metActs s || s.met.st != 2 then .next s
  else
    let s := passTo (s.met.crossAt + 60 * clkS) s
    let s := if s.met.nMin = 0 then s else forEach allCh crossCh s
    .next { s with met := { s.met with pMin := Vector.replicate 24 0, nMin := 0, crossAt := s.clock } }

end Sys2Proof.Machine
end

