-- ==== Sys2Proof/Machine/ShareBus.lean ====
section
/-! DEFINITION. The Share Bus as it is received, and its timers: frames of peers, rectifiers and battery modules, silence,
and the ports' error states (chapter 17). -/

namespace Sys2Proof.Machine

/-! ### Receiving (R444 to R448, R458, R462) -/

/-- SHB.PORT_MODE uses a port at all (R445). -/
def portUsed (s : State) (p : Fin 2) : Bool :=
  match pn s Prm.SHB_PORT_MODE with
  | 0 => p == 0
  | 1 => true
  | 2 => true
  | _ => false

/-- A port receives: it is used and released, XIN is present, it is not in bus-off, and the firmware runs (R445, R461,
R462). -/
def portHears (s : State) (p : Fin 2) : Bool :=
  s.sys.phase == .run && anyPup s && !s.svc.halted && s.shb.live && !s.sys.clkFault && s.sys.mode != .recovery
    && s.sys.mode != .dormant && portUsed s p && !s.shb.port[p].off

/-- The length of a message type, none for an unknown type (Table 17.3). -/
def shmLength (type : Nat) : Option Nat :=
  if type = Shm.ANNOUNCE then some 16
  else if type = Shm.STATUS then some 8
  else if type = Shm.RESERVE then some 16
  else if type = Shm.CLOCK then some 16
  else if type = Shm.RECT_SET then some 12
  else if type = Shm.RECT_STAT then some 16
  else if type = Shm.BMOD_STAT then some 16
  else none

/-- An address that Table 17.2 assigns to a node. -/
def nodeAddr (a : Nat) : Bool := decide (a ≤ 0x07 ∨ 0x10 ≤ a ∧ a ≤ 0x7F ∨ 0x80 ≤ a ∧ a ≤ 0xBF)

/-- A byte of a frame's payload. -/
def fByte (f : ShbFrame) (i : Nat) : Nat := ((f.bytes[i]?).map BitVec.toNat).getD 0

/-- A big-endian field of a frame's payload: `n` bytes from byte `i`. -/
def fField (f : ShbFrame) (i n : Nat) : Nat := (List.range n).foldl (fun (v : Nat) j => v * 256 + fByte f (i + j)) 0

/-- The generation of a frame. -/
def fGen (f : ShbFrame) : Nat := fByte f 0 / 64

/-- A frame that the protocol knows: kind, type, length, addresses, and a generation within the range of this Hatan's own
image (R444, R447, R458). -/
def frameKnown (s : State) (f : ShbFrame) : Bool :=
  f.good
    && (match shmLength f.type with
        | some n => decide (n ≤ f.bytes.length)
        | none => false)
    && nodeAddr f.src && (nodeAddr f.dst || f.dst == 0xFF)
    && decide (imgGenLo (runBank s) ≤ fGen f ∧ fGen f ≤ imgGenHi (runBank s) ∧ 1 ≤ fGen f)

/-- The port is that of the frame's sender: in the split mode rectifiers and peers use SHB0 and battery modules SHB1 (R445). DESIGN
CHOICE (unsafe, log 98): one on the other port is ignored and counted. -/
def portFits (s : State) (f : ShbFrame) : Bool :=
  pn s Prm.SHB_PORT_MODE != 2 || f.port == (if 0x80 ≤ f.src then 1 else 0)

/-- In the redundant mode, a frame whose SRC, TYPE and SEQ were received within 100 ms (R445). -/
def frameRepeats (s : State) (f : ShbFrame) : Bool :=
  pn s Prm.SHB_PORT_MODE == 1 && f.good && decide (2 ≤ f.bytes.length)
    && s.shb.seen.any fun x =>
      x.1 == f.src && x.2.1 == f.type && x.2.2.1 == fByte f 1 && decide (s.clock - x.2.2.2 ≤ 100 * clkMs)

/-- The frame's SRC, TYPE and SEQ are kept for 100 ms (R445). -/
def noteSeen (f : ShbFrame) (s : State) : State :=
  let l := s.shb.seen.filter fun x => decide (s.clock - x.2.2.2 ≤ 100 * clkMs)
  { s with shb := { s.shb with seen := l ++ [(f.src, f.type, fByte f 1, s.clock)] } }

/-- A frame ignored and counted in SHB.RX_IGNORED (R444, R470). -/
def countIgnored (s : State) : State := { s with shb := { s.shb with ignored := sat32 (s.shb.ignored + 1) } }

/-- A frame comes in at its port: nothing where the port does not hear it or has it already; an unknown one is counted; one
from this Hatan's own address is recorded (R447); any other goes to `act`, after its sender's entry is renewed (R456). -/
def hear (f : ShbFrame) (act : State → State) (s : State) : State :=
  if !portHears s f.port || frameRepeats s f then s
  else
    let t := noteSeen f s
    if !frameKnown t f || !portFits t f then countIgnored t
    else if h : f.src < 8 then
      let k : Fin 8 := ⟨f.src, h⟩
      if k = ownNode t then logEvent Evt.SHB_DUP_NODE 2 (0x60 + k.val) [] t
      else act { t with shb := { t.shb with peer := vmod t.shb.peer k fun x => { x with heard := true, at_ := t.clock } } }
    else act t

/-- The peer that sent a frame. -/
def sender (f : ShbFrame) : Option (Fin 8) := if h : f.src < 8 then some ⟨f.src, h⟩ else none

/-- The channel whose rectifier has an address. -/
def devWith (s : State) (a : Nat) : Option Ch := allCh.find? fun c => devAddr s c == a && a != 0

/-- The string and the place in its run of a bound module (R454). -/
def modWith (s : State) (a : Nat) : Option (Str × Fin 16) :=
  allStr.findSome? fun k =>
    let v := pn s (Prm.SHB_MOD0 + k.val)
    (List.finRange 16).findSome? fun j =>
      if j.val < v % 256 ∧ v / 256 + j.val = a then some (k, j) else none

/-! ### Frames of peers (R456 to R460) -/

/-- ANNOUNCE of a peer: it is present, with its ranges (R456, R457). -/
def announcePeer (f : ShbFrame) (k : Fin 8) (s : State) : State :=
  putPeer k (fun x => { x with
    present := true
    lo := fByte f 3 / 16, hi := fByte f 3 % 16, lo2 := fByte f 4 / 16, hi2 := fByte f 4 % 16 }) s

/-- ANNOUNCE of a bound rectifier: it is a device, with its range and rating (R450). One that had fallen silent is asked
again. -/
def announceDev (f : ShbFrame) (c : Ch) (s : State) : State :=
  let dev := vmod s.shb.dev c fun d => { d with
    announced := true
    genLo := fByte f 3 / 16, genHi := fByte f 3 % 16, rating := (fField f 6 4), at_ := s.clock
    lastSeq := if 3 ≤ d.miss then none else d.lastSeq }
  noteLowDev c { s with shb := { s.shb with dev := dev } }

/-- ANNOUNCE (R450, R456, R457). -/
def execAnnounce (f : ShbFrame) (s : State) : Host.Outcome State Fault Refusal :=
  if f.good && f.type != Shm.ANNOUNCE then .next s
  else
    .next (hear f (fun t =>
      match sender f with
      | some k => if fByte f 2 = 0 then announcePeer f k t else t
      | none =>
        match devWith t f.src with
        | some c => if fByte f 2 = 1 then announceDev f c t else t
        | none => t) s)

/-- STATUS: a peer's mode, stage and flags are kept, and nothing follows from them (R460). -/
def execStatus (f : ShbFrame) (s : State) : Host.Outcome State Fault Refusal :=
  if f.good && f.type != Shm.STATUS then .next s
  else
    .next (hear f (fun t =>
      match sender f with
      | some k =>
        let peer := vmod t.shb.peer k fun x => { x with mode := fByte f 2 % 16, stage := fByte f 3 % 16, flags := fByte f 4 }
        { t with shb := { t.shb with peer := peer } }
      | none => t) s)

/-- RESERVE: a peer's reserve, load and requested stage are kept, and nothing follows from them (R460). -/
def execReserve (f : ShbFrame) (s : State) : Host.Outcome State Fault Refusal :=
  if f.good && f.type != Shm.RESERVE then .next s
  else
    .next (hear f (fun t =>
      match sender f with
      | some k =>
        let peer := vmod t.shb.peer k fun x => { x with reserve := ((fField f 2 4), (fField f 6 4), fByte f 10) }
        { t with shb := { t.shb with peer := peer } }
      | none => t) s)

/-- CLOCK: the master's OPTIME less this Hatan's (R459). -/
def execClock (f : ShbFrame) (s : State) : Host.Outcome State Fault Refusal :=
  if f.good && f.type != Shm.CLOCK then .next s
  else
    .next (hear f (fun t =>
      if (sender f).isSome && sender f == clockMaster t then
        { t with shb := { t.shb with clockOfs := ((fField f 2 5) : Int) - (optime t : Int) } }
      else t) s)

/-- RECT_SET of another Hatan to a rectifier that this one has bound: a conflict (R453). -/
def execRectSet (f : ShbFrame) (s : State) : Host.Outcome State Fault Refusal :=
  if f.good && f.type != Shm.RECT_SET then .next s
  else
    .next (hear f (fun t =>
      match sender f, devWith t f.dst with
      | some k, some c =>
        let dev := vmod t.shb.dev c fun d => { d with conflict := true }
        logEvent Evt.SHB_CONFLICT 2 (0x70 + c.val) [k.val] { t with shb := { t.shb with dev := dev } }
      | some _, none => t
      | none, _ => t) s)

/-! ### Frames of devices and modules (R453, R454) -/

/-- RECT_STAT: the rectifier's state, and its answer where byte 2 is the sequence count of the last RECT_SET (R453). -/
def execRectStat (f : ShbFrame) (s : State) : Host.Outcome State Fault Refusal :=
  if f.good && f.type != Shm.RECT_STAT then .next s
  else
    .next (hear f (fun t =>
      match devWith t f.src with
      | some c =>
        if f.dst ≠ (ownNode t).val then t
        else
          let dev := vmod t.shb.dev c fun d =>
            let x := { d with
              flags := fByte f 3, outMv := (fField f 4 4), outMa := (fField f 8 4)
              temp := signedOf 16 ((fField f 12 2)), fault := (fField f 14 2) }
            if d.lastSeq = some (fByte f 2) then { x with answered := true, miss := 0, left := false } else x
          { t with shb := { t.shb with dev := dev } }
      | none => t) s)

/-- BMOD_STAT of a bound module; each rise of a flag from bit 0 to bit 3 is recorded (R454). -/
def execBmodStat (f : ShbFrame) (s : State) : Host.Outcome State Fault Refusal :=
  if f.good && f.type != Shm.BMOD_STAT then .next s
  else
    .next (hear f (fun t =>
      match modWith t f.src with
      | some (k, j) =>
        let old := t.shb.mod[k][j].flags
        let new := fByte f 12
        let x : Bmod := {
          present := true, absent := false, mv := (fField f 2 4), hi := (fField f 6 2), lo := (fField f 8 2)
          temp := signedOf 16 ((fField f 10 2)), flags := new, soc := fByte f 13, at_ := t.clock }
        let t := { t with shb := { t.shb with mod := vmod t.shb.mod k fun v => vput v j x } }
        let rises := (List.range 4).filter fun b => new.testBit b && !old.testBit b
        forEach rises (fun _ s => logEvent Evt.MODULE_FLAG 2 (objStr k) [f.src, new] s) t
      | none => t) s)

/-- SHB_RX_IGNORED: a frame of another kind, type, length, address or generation (R444, R447, R458). -/
def execShbRxIgnored (f : ShbFrame) (s : State) : Host.Outcome State Fault Refusal := .next (hear f id s)

/-! ### Timers (R449, R458, R459, R464) -/

/-- The firmware keeps its Share Bus timers while it runs. -/
def shbRuns (s : State) : Bool := s.sys.phase == .run && anyPup s && !s.svc.halted

/-- ANNOUNCE_TIMER: 1 000 ms after the one before it (R449). -/
def execAnnounceTimer (s : State) : Host.Outcome State Fault Refusal :=
  if shbRuns s then
    let s := passTo (s.shb.annAt + 1000 * clkMs) s
    .next (sendAnnounce { s with shb := { s.shb with annAt := s.clock } })
  else .next s

/-- STATUS_TIMER: 100 ms after the one before it; each mode change sends one besides (R449). -/
def execStatusTimer (s : State) : Host.Outcome State Fault Refusal :=
  if shbRuns s then
    let s := passTo (s.shb.statAt + 100 * clkMs) s
    .next (sendStatus { s with shb := { s.shb with statAt := s.clock } })
  else .next s

/-- RESERVE_TIMER: 1 000 ms after the one before it, sent while SHB.GEN_BUS is 2 or more (R449, R458). -/
def execReserveTimer (s : State) : Host.Outcome State Fault Refusal :=
  if shbRuns s then
    let s := passTo (s.shb.resAt + 1000 * clkMs) s
    .next (sendReserve { s with shb := { s.shb with resAt := s.clock } })
  else .next s

/-- CLOCK_TIMER: OPTIME comes to the next whole second (R449, R459). -/
def execClockTimer (s : State) : Host.Outcome State Fault Refusal :=
  if shbRuns s then
    let s := passOptime ((s.shb.clockSec + 1) * 1024) s
    .next (sendClock { s with shb := { s.shb with clockSec := optime s / 1024 } })
  else .next s

/-- PEER_TIMEOUT: 3 s have passed without any frame of a peer (R456). -/
def execPeerTimeout (k : Fin 8) (s : State) : Host.Outcome State Fault Refusal :=
  if shbRuns s && s.shb.peer[k].present && k != ownNode s then
    .next (putPeer k (fun x => { x with present := false }) (passTo (s.shb.peer[k].at_ + 3 * clkS) s))
  else .next s

/-- RECT_RATING_TIMEOUT: the ANNOUNCE of a rectifier has stopped for 3 s; its rating lapses (R450). -/
def execRectRatingTimeout (c : Ch) (s : State) : Host.Outcome State Fault Refusal :=
  if shbRuns s && s.shb.dev[c].rating != 0 then
    let t := passTo (s.shb.dev[c].at_ + 3 * clkS) s
    .next { t with shb := { t.shb with dev := vmod t.shb.dev c fun d => { d with rating := 0 } } }
  else .next s

/-- MODULE_ABSENT: the BMOD_STAT of a bound module has not arrived for 3 s (R454). -/
def execModuleAbsent (k : Str) (addr : Nat) (s : State) : Host.Outcome State Fault Refusal :=
  match modWith s addr with
  | some (i, j) =>
    if shbRuns s && i == k && !s.shb.mod[k][j].absent then
      let t := passTo (s.shb.mod[k][j].at_ + 3 * clkS) s
      let mod := vmod t.shb.mod k fun v => vmod v j fun m => { m with present := false, absent := true }
      .next (logEvent Evt.MODULE_FLAG 2 (objStr k) [addr, 0xFF] { t with shb := { t.shb with mod := mod } })
    else .next s
  | none => .next s

/-- GEN_BUS_RISE: a higher generation has held for 10 s (R458). -/
def execGenBusRise (s : State) : Host.Outcome State Fault Refusal :=
  match s.shb.rise with
  | some g =>
    if shbRuns s then
      let t := passTo (s.shb.riseAt + 10 * clkS) s
      .next { t with shb := { t.shb with gen := g, rise := none } }
    else .next s
  | none => .next s

/-! ### Bus-off (R461) -/

/-- BUS_OFF: the transmit error counter of a port has passed 255. -/
def execBusOff (port : Fin 2) (s : State) : Host.Outcome State Fault Refusal :=
  if portHears s port then
    let v := vmod s.shb.port port fun x => { x with off := true, tec := 255, boff := sat8 (x.boff + 1) }
    .next (logEvent Evt.SHB_BUSOFF 2 objNone [port.val, 1] { s with shb := { s.shb with port := v } })
  else .next s

/-- BUS_OFF_RECOVERY: the port is error-active again, and a STATUS that waits goes out (R461, R464). -/
def execBusOffRecovery (port : Fin 2) (s : State) : Host.Outcome State Fault Refusal :=
  if shbRuns s && s.shb.port[port].off then
    let v := vmod s.shb.port port fun x => { x with off := false, tec := 0, rec_ := 0 }
    let t := logEvent Evt.SHB_BUSOFF 1 objNone [port.val, 0] { s with shb := { s.shb with port := v } }
    .next (if t.shb.statusDue then sendStatus t else t)
  else .next s

end Sys2Proof.Machine
end

