-- ==== Sys2Proof/Machine/StoreCmds.lean ====
section
/-! DEFINITION. The state store at work: record writes, the scrubber, the records written by time, and migration
(R476, R477, R479, R482, R486 to R488). -/

namespace Sys2Proof.Machine

/-- The controller begins writes: the Hatan is powered, and HOLD, where it carries the rails alone, stands at 12.0 V or more
(R473). -/
def writesBegin (s : State) : Bool := s.sys.phase != .off && (s.pwr.vin || decide (12000 ≤ s.pwr.holdMv))

/-- RECORD_WRITE: the write that the controller takes next runs its steps; `mismatches` of its read-backs differ (R473, R476,
R477). -/
def execRecordWrite (mismatches : Nat) (s : State) : Host.Outcome State Fault Refusal :=
  match nextWrite s with
  | some p => .next (if writesBegin s then finishWrite p mismatches s else s)
  | none => .next s

/-! ### The scrubber (R487, Table 18.6) -/

/-- The bytes of the store (Table 18.1). -/
def storeSize : Nat := 0x600000

/-- The scrubber reads: the main domain is powered, and no write is queued (R477, R487). -/
def scrubs (s : State) : Bool :=
  s.sys.phase != .off && s.sys.mode != .dormant && s.nvs.queue.isEmpty

/-- A finding is recorded: by the firmware at once, or at its next start where no Puppeteer runs (R487). -/
def tellScrub (offset row sev : Nat) (s : State) : State :=
  if anyPup s then logEvent Evt.NVS_SCRUB sev objNone [offset, row] s
  else { s with nvs := { s.nvs with findings := s.nvs.findings ++ [(offset, row, sev)] } }

/-- One more uncorrectable word. -/
def countUncorrected (s : State) : State :=
  { s with nvs := { s.nvs with uncorrected := sat32 (s.nvs.uncorrected + 1) } }

/-- A slot of a record becomes invalid: the one in force or the other one. -/
def dropSlot (rtype inst : Nat) (force : Bool) (s : State) : State :=
  let f := fun (r : Record) =>
    if r.rtype = rtype ∧ r.inst = inst then
      if r.hiForce = force then { r with hi := none } else { r with lo := none }
    else r
  { s with nvs := { s.nvs with recs := s.nvs.recs.map f } }

/-- The present value of a record where the firmware holds it: a coefficient record is held while its input's coefficients
are, and FLUSH and BAT_HISTORY are not held at all. -/
def heldBody (s : State) (rtype inst : Nat) (old : Option Body) : Option Body :=
  if !anyPup s || !s.nvs.ready || rtype == RT.FLUSH || rtype == RT.BAT_HISTORY then none
  else if rtype = RT.CAL then old
  else some (capture s rtype inst)

/-- The slot not in force of a record, if it is valid. -/
def Record.spare (r : Record) : Option Slot := if r.hiForce then r.lo else r.hi

/-- A double-bit error in a record's slot (Table 18.6). -/
def scrubSlot (offset rtype inst : Nat) (force : Bool) (s : State) : State :=
  match findRec s rtype inst with
  | none => s
  | some r =>
    let gone := if force then r.inForce else r.spare
    match gone with
    | none => s
    | some x =>
      let t := countUncorrected (dropSlot rtype inst force s)
      if force then
        let t := tellScrub offset 3 3 t
        match heldBody s rtype inst (some x.body) with
        | some b => offerWrite rtype inst b t
        | none => t
      else tellScrub offset 2 2 t

/-- The pool of the event log in which an offset lies (R501). -/
def poolAt (offset : Nat) : Fin 4 :=
  let p := (offset - 0x300000) / 1024
  if p < 128 then 0 else if p < 448 then 1 else if p < 768 then 2 else 3

/-- A page of a pool is no longer valid (R502). Which frames stood at an offset is open: a free value picks the page. -/
def dropPage (k : Fin 4) (s : State) : State :=
  let r := drawWord s
  let v := vmod r.2.log.pools k fun l => l.eraseIdx (r.1.toNat % 320)
  { r.2 with log := { r.2.log with pools := v } }

/-- A double-bit error in an image bank or the event log: the bank no longer passes its check, or a page is invalid. In a bank's
control block the other slot, or a fresh one, stands for the slot (R475, R519). -/
def scrubBulk (offset : Nat) (s : State) : State :=
  let t := tellScrub offset 6 3 s
  if offset < 0x300000 ∧ 0x17F000 ≤ offset % 0x180000 then t
  else if offset < 0x180000 then modBank false (fun k => { k with bad := true }) t
  else if offset < 0x300000 then modBank true (fun k => { k with bad := true }) t
  else dropPage (poolAt offset) t

/-- A finding belongs to the region of its offset (Table 18.1). -/
def findingFits (offset : Nat) : ScrubFinding → Bool
  | .clean => true
  | .single => true
  | .slotNotInForce _ _ => decide (0x410000 ≤ offset ∧ offset < 0x500000)
  | .slotInForce _ _ => decide (0x410000 ≤ offset ∧ offset < 0x500000)
  | .journal _ => decide (0x500000 ≤ offset ∧ offset < 0x510000)
  | .sheet upper => decide (if upper then 0x408000 ≤ offset ∧ offset < 0x410000 else 0x400000 ≤ offset ∧ offset < 0x408000)
  | .bankOrLog => decide (offset < 0x400000)

/-- What the controller does about a finding (Table 18.6). -/
def scrubAct (offset : Nat) (s : State) : ScrubFinding → State
  | .clean => s
  | .single => { s with nvs := { s.nvs with corrected := sat32 (s.nvs.corrected + 1) } }
  | .slotNotInForce t i => scrubSlot offset t i false s
  | .slotInForce t i => scrubSlot offset t i true s
  | .journal k => { s with nvs := { s.nvs with journal := s.nvs.journal.eraseIdx k } }
  | .sheet true => { s with tin := { s.tin with upper := { s.tin.upper with bad := s.tin.upper.bad || decide (offset < 0x408300) } } }
  | .sheet false => { s with tin := { s.tin with lower := { s.tin.lower with bad := s.tin.lower.bad || decide (offset < 0x400300) } } }
  | .bankOrLog => scrubBulk offset s

/-- The scrubber's position after a word; the last word of the store ends the sweep (R487). -/
def scrubPast (offset : Nat) (s : State) : State :=
  if storeSize ≤ offset + 4 then { s with nvs := { s.nvs with scrubPos := 0, scrubLast := optime s } }
  else { s with nvs := { s.nvs with scrubPos := offset + 4 } }

/-- SCRUB: the scrubber has come to a word, those from its position up to it being clean, and acts on what it finds there
(R487). -/
def execScrub (offset : Nat) (finding : ScrubFinding) (s : State) : Host.Outcome State Fault Refusal :=
  if !scrubs s || offset < s.nvs.scrubPos || storeSize ≤ offset || offset % 4 != 0 || !findingFits offset finding then .next s
  else .next (scrubPast offset (scrubAct offset s finding))

/-! ### Records written by time (R479, R482, R486) -/

/-- The modes in which the firmware writes records of every kind (Table 2.3). -/
def allKinds (s : State) : Bool :=
  s.sys.mode == .standby || s.sys.mode == .online || s.sys.mode == .recharge || s.sys.mode == .maintain

/-- POWER_RECORD_TIMER: OPTIME comes to the next multiple of 600 s, and POWER is written, in a mode that writes it (R38, R482). -/
def execPowerRecordTimer (s : State) : Host.Outcome State Fault Refusal :=
  if shbRuns s && allKinds s then
    let s := passOptime ((s.nvs.powerSlot + 1) * 614400) s
    .next (queueWrite RT.POWER 0 { s with nvs := { s.nvs with powerSlot := optime s / 614400 } })
  else .next s

/-- WEAR_RECORD_TIMER: OPTIME comes to the next multiple of 3 600 s, and the WEAR record of every channel is written, in a mode
that writes it (R38, R486). -/
def execWearRecordTimer (s : State) : Host.Outcome State Fault Refusal :=
  if shbRuns s && allKinds s then
    let s := passOptime ((s.nvs.wearSlot + 1) * 3686400) s
    .next (forEach allCh (fun c s => queueWrite RT.WEAR c.val s)
      { s with nvs := { s.nvs with wearSlot := optime s / 3686400 } })
  else .next s

/-- CONFIG_RECORD_WRITE: a dirty block is written; in COMMISSION it waits for the commit (R479). -/
def execConfigRecordWrite (block : Nat) (s : State) : Host.Outcome State Fault Refusal :=
  if shbRuns s && s.sys.mode != .commission && s.nvs.dirty.contains block then .next (queueWrite RT.CONFIG block s)
  else .next s

/-! ### Migration (R488) -/

/-- The records in force of an older format that the running image reads. -/
def olderRecs (s : State) : List (Nat × Nat × Slot) :=
  s.nvs.recs.filterMap fun r =>
    match lookRec s r.rtype r.inst with
    | .older x => some (r.rtype, r.inst, x)
    | .absent => none
    | .current _ => none
    | .copy _ => none
    | .unreadable _ => none

/-- The request of a migration (Table 15.2). -/
def migrateOp : Op := { Op.blank Opn.MIGRATE with prio := 3, self := 200 }

/-- MIGRATE: the firmware files a migration unless one stands already; a granted one converts the next record and gives its
grant back. -/
def execMigrate (s : State) : Host.Outcome State Fault Refusal :=
  match olderRecs s with
  | [] => .next s
  | (t, i, x) :: _ =>
    if !shbRuns s || !opModes Opn.MIGRATE s.sys.mode then .next s
    else
      let filed := (s.adm.queue ++ s.adm.grants).any fun o => o.code == Opn.MIGRATE
      let u := if filed then s else fileOp migrateOp s
      match u.adm.grants.find? fun o => o.code == Opn.MIGRATE with
      | some o => .next (returnOp o.id (migrateRec t i x u))
      | none => .next u

end Sys2Proof.Machine
end

