-- ==== Sys2Proof/Machine/Service.lean ====
section
/-! DEFINITION. The service port: who answers it, its frames, the register bridge, debug access and the wear reset
(R511 to R518, R533 to R536). -/

namespace Sys2Proof.Machine

/-! ### Who answers (R514, R516, R526, R527) -/

/-- Jack-in-the-box answers the port: in RECOVERY, and in SAFE-KEEP after a restart that found no bank to boot. -/
def jackAnswers (s : State) : Bool :=
  s.svc.en && (s.sys.phase == .run || s.sys.phase == .boot) && !anyPup s
    && (s.sys.mode == .recovery || (inSafeKeep s && s.sys.noImage))

/-- The firmware answers the port: a Puppeteer runs. -/
def firmAnswers (s : State) : Bool :=
  s.svc.en && (s.sys.phase == .run || s.sys.phase == .boot) && anyPup s && s.sys.mode != .dormant

/-- The answer to the request before has not been sent: a TAKEOVER or a WEAR_RESET awaits its end (R514). -/
def svcBusy (s : State) : Bool :=
  s.svc.wear.isSome || (match s.svc.asker with
    | some (.service _) => true
    | some .param => false
    | none => false)

/-- A frame with a correct CRC has come at the rate in force (R515). -/
def svcHeard (s : State) : State := { s with svc := { s.svc with baudNew := false } }

/-- A request of a type: ST_BUSY behind an unanswered one, ST_MODE from Jack-in-the-box for a type not marked for RECOVERY,
ST_AUTH without the secure session that a SEC type needs; else `act` carries it out (R514). -/
def serve (type seq : Nat) (sec inRec : Bool) (act : State → State) (s : State) : State :=
  if !jackAnswers s && !firmAnswers s then s
  else
    let s := svcHeard s
    if svcBusy s then svcReply type seq St.BUSY [] s
    else if jackAnswers s && !inRec then svcReply type seq St.MODE [] s
    else if sec && !secureOn s 14 then svcReply type seq St.AUTH [] s
    else act s

/-! ### The pin and the frames (R512, R513, R515) -/

/-- SVC_EN_RISE: the port is enabled, at 115 200 bit/s. -/
def execSvcEnRise (s : State) : Host.Outcome State Fault Refusal :=
  if s.svc.en then .next s
  else .next { s with svc := { s.svc with en := true, baud := 0, baudNew := false } }

/-- The debug access locks, and a halted Puppeteer resumes (R535). -/
def lockDebug (s : State) : State :=
  { s with svc := { s.svc with
    debug := 0, halted := false, nonce := none, localA := [], localB := [], sram := [] } }

/-- A takeover that the port asked for and that has not begun is withdrawn (Table 20.8). -/
def dropAsked (s : State) : State :=
  match s.svc.asker, s.adm.queue.find? fun o => o.code == Opn.HANDOVER with
  | some (.service _), some o => rejudge (withdrawOp o 5 s)
  | some (.service _), none => s
  | some .param, _ => s
  | none, _ => s

/-- SVC_EN_FALL: the port is disabled: the session of channel 14 ends and its commands in flight are never completed, a load
stops short of its end, and debug access locks (R47, R512, R518, R525, R535). -/
def execSvcEnFall (s : State) : Host.Outcome State Fault Refusal :=
  if !s.svc.en then .next s
  else
    let t := { s with svc := { s.svc with
      en := false, baud := 0, baudNew := false, wear := none, loading := none
      phase := if s.svc.phase = 1 then 0 else s.svc.phase } }
    let t := lockDebug (dropAsked t)
    let t := putSes 14 none (forEach (notBegun t 14) abortTag t)
    .next { t with deolo := { t.deolo with
      tags := t.deolo.tags.filter fun e => e.chan != 14
      sesDue := vput t.deolo.sesDue 14 none } }

/-- SVC_FRAME_GAP: the frame in hand is discarded, unanswered (R513). -/
def execSvcFrameGap (s : State) : Host.Outcome State Fault Refusal := .next s

/-- SVC_FRAME_DISCARDED: a frame with a wrong CRC or LEN above 1 040 is discarded, unanswered (R513). -/
def execSvcFrameDiscarded (s : State) : Host.Outcome State Fault Refusal := .next s

/-- The types of Table 20.3 that a tool sends. -/
def svcTypes : List Nat :=
  [0x01, 0x02, 0x03, 0x10, 0x11, 0x20, 0x30, 0x31, 0x32, 0x33, 0x34, 0x35, 0x40, 0x41, 0x42, 0x43, 0x50]

/-- SVC_UNDEFINED_TYPE: an undefined TYPE completes with ST_MODE in any mode (R514). -/
def execSvcUndefinedType (seq type : Byte) (s : State) : Host.Outcome State Fault Refusal :=
  if svcTypes.contains type.toNat then .next s
  else
    let k := type.toNat % 128
    .next (serve k seq.toNat false true (svcReply k seq.toNat St.MODE []) s)

/-- PING (Table 20.3). -/
def execPing (seq : Byte) (s : State) : Host.Outcome State Fault Refusal :=
  let body := fun (s : State) => [hId s, hVersion s, s.sys.prevMode.code * 2 ^ 8 + s.sys.mode.code,
    s.svc.bankB.st * 2 ^ 8 + s.svc.bankA.st, s.svc.bankA.ver, s.svc.bankB.ver, Config.jackVersion]
  .next (serve 0x01 seq.toNat false true (fun s => svcReply 0x01 seq.toNat St.OK (body s) s) s)

/-- SET_BAUD: answered at the old rate; the new one applies from then on (R515). -/
def execSetBaud (seq : Byte) (code : Nat) (s : State) : Host.Outcome State Fault Refusal :=
  .next (serve 0x02 seq.toNat false true (fun s =>
    if 6 < code then svcReply 0x02 seq.toNat St.RANGE [] s
    else
      let s := svcReply 0x02 seq.toNat St.OK [] s
      { s with svc := { s.svc with baud := code, baudNew := true, baudAt := s.clock } }) s)

/-- BAUD_FALLBACK: 2 s have passed at a new rate without a good frame (R515). -/
def execBaudFallback (s : State) : Host.Outcome State Fault Refusal :=
  if s.svc.en && s.svc.baudNew then
    let s := passTo (s.svc.baudAt + 2 * clkS) s
    .next { s with svc := { s.svc with baud := 0, baudNew := false } }
  else .next s

/-- The bank in TRIAL that a RESTART boots in SAFE-KEEP when no bank could be booted before (R527). -/
def loadedTrial (s : State) : Option Bool :=
  if !s.sys.noImage then none
  else if s.svc.bankA.st = Bst.TRIAL ∧ bankPasses s false then some false
  else if s.svc.bankB.st = Bst.TRIAL ∧ bankPasses s true then some true
  else none

/-- An image that a cold start can boot has been accepted (Table 2.2). -/
def imageAccepted (s : State) : Bool := bankPasses s false || bankPasses s true

/-- The restart that a RESTART frame asks for: cold with cause 0x08 out of RECOVERY, where an accepted image stands, with cause
0x06 out of SAFE-KEEP, warm with cause 0x05 elsewhere (R516, R527, Table 2.2). -/
def svcRestartNow (s : State) : State :=
  match inSafeKeep s, loadedTrial s with
  | true, some b => warmFrom (some b) 6 { s with svc := { s.svc with trialRestart := true } }
  | true, none => restartBy 5 6 s
  | false, _ => restartBy 5 6 s

/-- RESTART: the restart follows the response (R516). DESIGN CHOICE (unsafe, log 92): in RECOVERY with no accepted image, where
Table 2.2 has no way out for it, it completes with ST_MODE. -/
def execSvcRestart (seq : Byte) (key : ResetKey) (s : State) : Host.Outcome State Fault Refusal :=
  .next (serve 0x03 seq.toNat false true (fun s =>
    if key.word ≠ 0x0000A5C3 then svcReply 0x03 seq.toNat St.RANGE [] s
    else if s.sys.mode = .recovery ∧ !imageAccepted s then svcReply 0x03 seq.toNat St.MODE [] s
    else svcRestartNow (svcReply 0x03 seq.toNat St.OK [] (seeBootsel key.bootsel s))) s)

/-! ### The register bridge and channel 14 (R517, R518) -/

/-- The words that the bridge reads from an address on. -/
def bridgeRead : Nat → Nat → State → List Nat × State
  | _, 0, s => ([], s)
  | a, n + 1, s =>
    let t := bridgeReg a s
    let p := bridgeRead (a + 1) n t
    (t.link.bridgeWord.toNat :: p.1, p.2)

/-- The addresses a REG_READ may name: 0x00 to 0x1F and 0x30 to 0x3F, 1 to 64 words. -/
def bridgeRange (first count : Nat) : Bool :=
  decide (1 ≤ count ∧ count ≤ 64 ∧ (first + count ≤ 0x20 ∨ 0x30 ≤ first ∧ first + count ≤ 0x40))

/-- REG_READ: a register cleared by reading keeps its value, and H_LOCK is acquired (R517). -/
def execRegRead (seq : Byte) (first count : Nat) (s : State) : Host.Outcome State Fault Refusal :=
  .next (serve 0x10 seq.toNat false false (fun s =>
    if !bridgeRange first count then svcReply 0x10 seq.toNat St.RANGE [] s
    else
      let r := bridgeRead first count s
      svcReply 0x10 seq.toNat St.OK r.1 r.2) s)

/-- REG_WRITE: H_LOCK alone is accepted (R517). -/
def execRegWrite (seq : Byte) (addr : Nat) (v : Word) (s : State) : Host.Outcome State Fault Refusal :=
  .next (serve 0x11 seq.toNat false false (fun s =>
    if addr ≠ 0x06 then svcReply 0x11 seq.toNat St.REFUSED [] s
    else svcReply 0x11 seq.toNat St.OK [] (releaseLock .bridge v s)) s)

/-- MBOX: its words go to inbound queue 14 and are offered at once (R518). -/
def execMbox (seq : Byte) (words : List Word) (s : State) : Host.Outcome State Fault Refusal :=
  .next (serve 0x20 seq.toNat false false (fun s =>
    if words.isEmpty || decide (64 < words.length) then svcReply 0x20 seq.toNat St.RANGE [] s
    else
      let t := offerIn 14 (words.foldl (appendIn 14) s)
      svcReply 0x20 seq.toNat St.OK [(t.inq.get 14).words.length] t) s)

/-! ### Debug access (R533 to R535) -/

/-- DBG_CHALLENGE: a fresh nonce, valid for 60 s and one unlock (R534). -/
def execDbgChallenge (seq : Byte) (s : State) : Host.Outcome State Fault Refusal :=
  .next (serve 0x40 seq.toNat true false (fun s =>
    let r := drawWords 4 s
    let t := { r.2 with svc := { r.2.svc with nonce := some (r.1, r.2.clock) } }
    svcReply 0x40 seq.toNat St.OK (wordsBytes (r.1.map BitVec.toNat)) t) s)

/-- The token of an unlock verifies: the mode, the nonce's age, and the signature under key 3 over nonce, H_ID and level
(R534). -/
def unlockOk (s : State) (level : Byte) (sig : List Byte) : Bool :=
  match s.svc.nonce with
  | none => false
  | some (nonce, at_) =>
    let msg := wordsBytes (nonce.map BitVec.toNat) ++ beBytes 4 (hId s) ++ [level.toNat]
    (s.sys.mode == .commission || s.sys.mode == .standby) && decide (s.clock ≤ at_ + 60 * clkS)
      && !s.svc.revoked.testBit 3 && Config.verifies 3 (sha256 msg) (sig.map BitVec.toNat)

/-- DBG_UNLOCK: level 2 opens every channel that a test command closed; a failure counts (R109, R534). -/
def execDbgUnlock (seq : Byte) (level : Byte) (sig : List Byte) (s : State) : Host.Outcome State Fault Refusal :=
  .next (serve 0x41 seq.toNat true false (fun s =>
    let ok := unlockOk s level sig
    let t := { s with svc := { s.svc with nonce := none } }
    if !ok then svcReply 0x41 seq.toNat St.AUTH [] (countAuthFail 14 t)
    else if level = 0 ∨ 2 < level.toNat then svcReply 0x41 seq.toNat St.RANGE [] t
    else
      let t := { t with svc := { t.svc with debug := level.toNat } }
      let t := if level = 2 ∧ t.sys.mode = .commission then reportCh t (openTests t) else t
      svcReply 0x41 seq.toNat St.OK [] t) s)

/-- DBG_LOCK. -/
def execDbgLock (seq : Byte) (s : State) : Host.Outcome State Fault Refusal :=
  .next (serve 0x42 seq.toNat false false (fun s => svcReply 0x42 seq.toNat St.OK [] (lockDebug s)) s)

/-- A DBG_CMD of a level: above the unlocked one it completes with ST_AUTH (Table 20.9). -/
def debugDo (seq : Byte) (level : Nat) (act : State → State) (s : State) : State :=
  serve 0x43 seq.toNat false false
    (fun s => if s.svc.debug < level then svcReply 0x43 seq.toNat St.AUTH [] s else act s) s

/-- Where an address lies: in the active Puppeteer's local memory of 256 KiB (false) or in the shared SRAM of 2 MiB (true), and
at which offset (R29, R533). -/
def debugPlace (a : Nat) : Option (Bool × Nat) :=
  if Config.localBase ≤ a ∧ a < Config.localBase + 0x40000 then some (false, a - Config.localBase)
  else if Config.sramBase ≤ a ∧ a < Config.sramBase + 0x200000 then some (true, a - Config.sramBase)
  else none

/-- Every word of a range lies in the two memories (R533). -/
def debugMapped (addr count : Nat) : Bool := (List.range count).all fun k => (debugPlace (addr + 4 * k)).isSome

/-- The memory of a place: the shared SRAM, or the active Puppeteer's own. -/
def debugMem (s : State) (shared : Bool) : List (Nat × Nat) :=
  if shared then s.svc.sram else if s.sys.active = .a then s.svc.localA else s.svc.localB

/-- Puts the memory of a place. -/
def putDebugMem (shared : Bool) (m : List (Nat × Nat)) (s : State) : State :=
  if shared then { s with svc := { s.svc with sram := m } }
  else if s.sys.active = .a then { s with svc := { s.svc with localA := m } }
  else { s with svc := { s.svc with localB := m } }

/-- What the debugger wrote is the running Puppeteer's to change. -/
def dropDebugMem (s : State) : State := { s with svc := { s.svc with localA := [], localB := [], sram := [] } }

/-- The word at an address: one that the debugger has written since the Puppeteer was halted, else a free value. -/
def debugWord (a : Nat) (s : State) : Nat × State :=
  match (debugPlace a).bind fun p => (debugMem s p.1).find? fun e => e.1 == p.2 with
  | some e => (e.2, s)
  | none =>
    let r := drawWord s
    (r.1.toNat, r.2)

/-- Words from an address on. -/
def debugWords : Nat → Nat → State → List Nat × State
  | _, 0, s => ([], s)
  | a, n + 1, s =>
    let r := debugWord a s
    let p := debugWords (a + 4) n r.2
    (r.1 :: p.1, p.2)

/-- DBG_CMD READ. -/
def execDbgRead (seq : Byte) (addr count : Nat) (s : State) : Host.Outcome State Fault Refusal :=
  .next (debugDo seq 1 (fun s =>
    if count = 0 ∨ 256 < count ∨ !debugMapped addr count then svcReply 0x43 seq.toNat St.RANGE [] s
    else
      let r := debugWords addr count s
      svcReply 0x43 seq.toNat St.OK r.1 r.2) s)

/-- The program counter is answered: a free value. -/
def answerPc (seq : Byte) (s : State) : State :=
  let r := drawWord s
  svcReply 0x43 seq.toNat St.OK [r.1.toNat] r.2

/-- DBG_CMD HALT: the active Puppeteer halts, and its heartbeat is no longer supervised (R535). -/
def execDbgHalt (seq : Byte) (s : State) : Host.Outcome State Fault Refusal :=
  .next (debugDo seq 2 (fun s => answerPc seq { s with svc := { s.svc with halted := true } }) s)

/-- DBG_CMD RESUME. What the debugger wrote is the Puppeteer's to change from here on. -/
def execDbgResume (seq : Byte) (s : State) : Host.Outcome State Fault Refusal :=
  .next (debugDo seq 2 (fun s =>
    svcReply 0x43 seq.toNat St.OK [] (dropDebugMem { s with svc := { s.svc with halted := false } })) s)

/-- DBG_CMD STEP. -/
def execDbgStep (seq : Byte) (s : State) : Host.Outcome State Fault Refusal :=
  .next (debugDo seq 2 (fun s => answerPc seq (dropDebugMem s)) s)

/-- A word written by the debugger, in rising order of addresses. -/
def putWord (a v : Nat) : List (Nat × Nat) → List (Nat × Nat)
  | [] => [(a, v)]
  | e :: t => if a < e.1 then (a, v) :: e :: t else if a = e.1 then (a, v) :: t else e :: putWord a v t

/-- The debugger writes the word at an address. -/
def debugPut (a v : Nat) (s : State) : State :=
  match debugPlace a with
  | some p => putDebugMem p.1 (putWord p.2 v (debugMem s p.1)) s
  | none => s

/-- DBG_CMD WRITE. -/
def execDbgWrite (seq : Byte) (addr : Nat) (words : List Word) (s : State) : Host.Outcome State Fault Refusal :=
  .next (debugDo seq 2 (fun s =>
    if words.isEmpty || decide (256 < words.length) || !debugMapped addr words.length then
      svcReply 0x43 seq.toNat St.RANGE [] s
    else
      svcReply 0x43 seq.toNat St.OK [] (forEach words.zipIdx (fun w s => debugPut (addr + 4 * w.2) w.1.toNat s) s)) s)

/-! ### Wear reset (R536) -/

/-- The channel's state admits a wear reset. -/
def wearFree (s : State) (c : Ch) : Bool :=
  let st := (s.chan c).st
  st == .disabled || st == .opened || st == .oos || st == .isolated || isolated s c

/-- A channel's wear record as a reset leaves it: CLOSURES and TRIP_COUNT stay; the life records come free with the next cold
start (R188, R486). -/
def clearWear (x : Chan) : Chan :=
  { x with bins := Vector.replicate 16 0, damage := 0, days := [], wearReset := true }

/-- WEAR_RESET: answered once the record is in force. -/
def execWearReset (seq : Byte) (channel : Nat) (s : State) : Host.Outcome State Fault Refusal :=
  .next (serve 0x50 seq.toNat true false (fun s =>
    if h : channel < 24 then
      let c : Ch := ⟨channel, h⟩
      if !wearFree s c then svcReply 0x50 seq.toNat St.REFUSED [] s
      else
        let t := modCh c clearWear s
        queueWrite RT.WEAR channel { t with svc := { t.svc with wear := some (seq.toNat, c) } }
    else svcReply 0x50 seq.toNat St.RANGE [] s) s)

end Sys2Proof.Machine
end

