-- ==== Sys2Proof/Machine/Update.lean ====
section
/-! DEFINITION. Loading images, the steps of a takeover, confirmation and rollback by frame (R524 to R532). -/

namespace Sys2Proof.Machine

/-! ### Loading (R523 to R527) -/

/-- The bank that an IMG_BEGIN byte names; 0xFF names the idle bank, under Jack-in-the-box the one that it did not find valid,
or bank B (R524). -/
def beginBank (s : State) (b : Byte) : Option Bool :=
  if b = 0 then some false
  else if b = 1 then some true
  else if b = 0xFF then
    if jackAnswers s then some (bankPasses s false || !bankPasses s true) else some (!s.svc.runB)
  else none

/-- The bytes of a bank before its control block (R519). -/
def bankRoom : Nat := 0x17F000

/-- IMG_BEGIN is refused: the bank runs, a bank is in TRIAL, or a takeover is under way. No bank runs while Jack-in-the-box
answers, and in SAFE-KEEP it takes a load beside a bank in TRIAL (R524, R527). -/
def beginBarred (s : State) (b : Bool) : Bool :=
  let trial := s.svc.bankA.st == Bst.TRIAL || s.svc.bankB.st == Bst.TRIAL
  if jackAnswers s then trial && !inSafeKeep s
  else b == s.svc.runB || trial || s.svc.newOn.isSome

/-- IMG_BEGIN: the bank is LOADING, and the total length is expected (R524). -/
def execImgBegin (seq bank : Byte) (total : Nat) (s : State) : Host.Outcome State Fault Refusal :=
  .next (serve 0x30 seq.toNat false true (fun s =>
    match beginBank s bank with
    | none => svcReply 0x30 seq.toNat St.RANGE [] s
    | some b =>
      if beginBarred s b then svcReply 0x30 seq.toNat St.REFUSED [] (putLast 0x30 10 0 s)
      else if bankRoom < total then svcReply 0x30 seq.toNat St.RANGE [] s
      else
        let t := modBank b (fun k => { Bank.reset with st := Bst.LOADING, bytes := k.bytes, total := total }) s
        svcReply 0x30 seq.toNat St.OK [b2n b] { t with svc := { t.svc with loading := some b, phase := 1 } }) s)

/-- IMG_DATA: a chunk is written at its offset; a chunk that fails the hold-up check is not (R524). -/
def execImgData (seq : Byte) (ofs : Nat) (data : List Byte) (s : State) : Host.Outcome State Fault Refusal :=
  .next (serve 0x31 seq.toNat false true (fun s =>
    match s.svc.loading with
    | none => svcReply 0x31 seq.toNat St.REFUSED [] (putLast 0x31 10 0 s)
    | some b =>
      let n := data.length
      if n = 0 ∨ n % 4 ≠ 0 ∨ 1024 < n ∨ (bankOf s b).total < ofs + n then svcReply 0x31 seq.toNat St.RANGE [] s
      else if !holdOk s (tw50 n) then svcReply 0x31 seq.toNat St.BUSY [] s
      else
        let put := fun (k : Bank) =>
          { k with bytes := putBytes k.bytes ofs data
                   got := if k.got.contains (ofs, n) then k.got else k.got ++ [(ofs, n)] }
        svcReply 0x31 seq.toNat St.OK [] (modBank b put s)) s)

/-- A record in force that the image cannot read: older than RECFMT's lowest, or of a type it does not list (check 8 of
R523). -/
def formatsBad (s : State) (k : Bank) : Bool :=
  s.nvs.recs.any fun r =>
    match r.inForce, imgLowest k r.rtype with
    | some x, some lo => decide (x.fmt < lo)
    | some _, none => true
    | none, _ => false

/-- The first check of R523 that a loaded image fails; the last one is made outside RECOVERY only. -/
def loadFault (s : State) (k : Bank) : Option Nat :=
  match imgCheck s k with
  | some r => some r
  | none => if !jackAnswers s && formatsBad s k then some 8 else none

/-- A bank whose image has passed: STAGED, or TRIAL at once under Jack-in-the-box, whose trial's time starts with its first
boot (R525, R526). -/
def passBank (b : Bool) (s : State) : State :=
  let jack := jackAnswers s
  let at_ := optime s
  let t := modBank b (fun k => { k with
    st := if jack then Bst.TRIAL else Bst.STAGED, ver := imgField k 8 4, svn := imgSvn k, stagedAt := at_ }) s
  { t with svc := { t.svc with phase := if jack then 6 else 2, trialAt := if jack then 2 ^ 40 - 1 else t.svc.trialAt } }

/-- A bank whose image has failed. -/
def failBank (b : Bool) (s : State) : State :=
  let t := modBank b (fun k => { k with st := Bst.REJECTED }) s
  { t with svc := { t.svc with phase := 0 } }

/-- IMG_END: the image is checked (R525). -/
def execImgEnd (seq : Byte) (s : State) : Host.Outcome State Fault Refusal :=
  .next (serve 0x32 seq.toNat false true (fun s =>
    match s.svc.loading with
    | none =>
      let t := putLast 0x32 10 0 s
      svcReply 0x32 seq.toNat St.REFUSED [updLast t] t
    | some b =>
      let s := { s with svc := { s.svc with loading := none } }
      match loadFault s (bankOf s b) with
      | some r =>
        let t := putLast 0x32 r 0 (failBank b s)
        svcReply 0x32 seq.toNat St.REFUSED [updLast t] t
      | none =>
        let t := putLast 0x32 0 0 (passBank b s)
        svcReply 0x32 seq.toNat St.OK [updLast t] t) s)

/-! ### Takeover (R528 to R530) -/

/-- The key of TAKEOVER, CONFIRM and ROLLBACK. -/
def updKey : Word := 0x00005A0B

/-- TAKEOVER: an accepted one files its operation, and is answered when the handover ends or is refused (R528). -/
def execTakeover (seq : Byte) (key : Word) (s : State) : Host.Outcome State Fault Refusal :=
  .next (serve 0x33 seq.toNat true false (fun s =>
    if key ≠ updKey then svcReply 0x33 seq.toNat St.RANGE [updLast s] s
    else if !opAdmitted s takeoverOp then svcReply 0x33 seq.toNat (modeStatus s) [updLast s] s
    else
      match takeoverFault s with
      | some r =>
        let t := putLast 0x33 r 0 s
        svcReply 0x33 seq.toNat St.REFUSED [updLast t] t
      | none => fileTakeover (.service seq.toNat) s) s)

/-- SHADOW_BOOT_DONE: Jack-in-the-box has checked the staged bank on the shadow: the new image starts there, or the takeover
is aborted and the bank REJECTED (R529 step 2, R530). -/
def execShadowBootDone (s : State) : Host.Outcome State Fault Refusal :=
  match s.svc.newOn with
  | none => .next s
  | some p =>
    if s.svc.phase ≠ 3 then .next s
    else
      match imgCheck s (idleBank s) with
      | some r => .next (abortTakeover r (modBank (!s.svc.runB) (fun k => { k with st := Bst.REJECTED }) s))
      | none =>
        let t := modPup p (fun x => { x with up := true, alive := false, watched := false, inStep := false }) s
        .next { t with svc := { t.svc with phase := 4, syncAt := t.clock } }

/-- MIRROR_READY: the new image beats in step, and the boundaries of UPD.LEAD_CYC begin to count (R529 steps 3 and 4). -/
def execMirrorReady (s : State) : Host.Outcome State Fault Refusal :=
  match s.svc.newOn with
  | none => .next s
  | some p =>
    if s.svc.phase ≠ 4 then .next s
    else
      let t := clearWatch (pupFlag p) (modPup p (fun x => { x with alive := true, watched := true, inStep := true }) s)
      .next { t with svc := { t.svc with phase := 5, lead := pn t Prm.UPD_LEAD_CYC } }

/-- SYNC_TIMEOUT: the mirror was not converted within UPD.SYNC_MAX_MS (R530). -/
def execSyncTimeout (s : State) : Host.Outcome State Fault Refusal :=
  if s.svc.phase = 4 ∧ s.svc.newOn.isSome then
    .next (abortTakeover 11 (passTo (s.svc.syncAt + pn s Prm.UPD_SYNC_MAX_MS * clkMs) s))
  else .next s

/-- TAKEOVER_BOUNDARY: at the boundary that UPD.LEAD_CYC names the token passes (R529 step 5). -/
def execTakeoverBoundary (s : State) : Host.Outcome State Fault Refusal :=
  if s.svc.phase = 5 ∧ s.svc.lead = 0 then .next (completeTakeover s) else .next s

/-! ### Confirmation and rollback (R531, R532) -/

/-- A bank is in TRIAL. -/
def trialBank (s : State) : Bool := s.svc.bankA.st == Bst.TRIAL || s.svc.bankB.st == Bst.TRIAL

/-- CONFIRM. -/
def execConfirm (seq : Byte) (key : Word) (s : State) : Host.Outcome State Fault Refusal :=
  .next (serve 0x34 seq.toNat true false (fun s =>
    if key ≠ updKey then svcReply 0x34 seq.toNat St.RANGE [] s
    else if !trialBank s then svcReply 0x34 seq.toNat St.REFUSED [] (putLast 0x34 10 0 s)
    else svcReply 0x34 seq.toNat St.OK [] (putLast 0x34 0 0 (confirmTrial s))) s)

/-- TRIAL_TIMEOUT: UPD.TRIAL_S of OPTIME have passed in trial (R531). -/
def execTrialTimeout (s : State) : Host.Outcome State Fault Refusal :=
  let sec := pn s Prm.UPD_TRIAL_S
  if shbRuns s && trialBank s && (bankOf s s.svc.runB).st == Bst.TRIAL && decide (sec ≠ 0) then
    .next (confirmTrial (passOptime (s.svc.trialAt + sec * 1024) s))
  else .next s

/-- ROLLBACK: the restart follows the response (R532). -/
def execRollback (seq : Byte) (key : Word) (s : State) : Host.Outcome State Fault Refusal :=
  .next (serve 0x35 seq.toNat true false (fun s =>
    if key ≠ updKey then svcReply 0x35 seq.toNat St.RANGE [] s
    else if !canRollback s then svcReply 0x35 seq.toNat St.REFUSED [] (putLast 0x35 10 0 s)
    else rollback (putLast 0x35 0 0 (svcReply 0x35 seq.toNat St.OK [] s))) s)

end Sys2Proof.Machine
end

