-- ==== Sys2Proof/Machine/Start.lean ====
section
/-! DEFINITION. Power, starts and restarts: POWER_ON, the handshake, the ends of BOOT, nRESET, the loss and return of VIN,
and DORMANT (R40 to R61, R264, R482, R540, R541, R586, R587). -/

namespace Sys2Proof.Machine

/-! ### A start (R40 to R45, R587) -/

/-- POWER_ON: VIN rises through the power-on threshold with the rails down, or after an abandoned start; the cause says whether
HOLD stood above its sense level (R40, R45, R587). -/
def execPowerOn (bootsel : Bool) (holdMv : Nat) (test : SelfTest) (s : State) : Host.Outcome State Fault Refusal :=
  if s.sys.phase = .off ∨ s.sys.phase = .abandoned then
    let t := coldStart (if holdSense < holdMv then 1 else 0) (some test) (seeBootsel bootsel s)
    .next { t with pwr := { t.pwr with holdMv := holdMv } }
  else .next s

/-! ### The handshake (R264, R266) -/

/-- A boot whose handshake is awaited: its window runs, an image was found, and no self-test item holds it (R42, R44, R50). -/
def awaitsHandshake (s : State) : Bool :=
  s.sys.phase == .boot && s.sys.mode == .boot && s.tin.window && !s.sys.bootStuck && !s.sys.noImage

/-- The handshake completes: the overrides of a restart out of SAFE-KEEP are released, and the recorded isolations held back by
them come into force; the keep set is latched, H_SAFE.ARMED is set, the window closes, and the Share Bus ports are released
(R264, R266, R462, R586). -/
def handshake (s : State) : State :=
  let t := latchSheet (isolateRecorded (releaseOverrides s))
  { t with
    tin := { t.tin with armed := true, everArmed := true, checked := true, silent := false, token := true, window := false }
    shb := { t.shb with
      live := true, annAt := t.clock, statAt := t.clock, resAt := t.clock, clockSec := optime t / 1024, modAt := t.clock } }

/-- TIN_SOLDIER_HANDSHAKE: both Puppeteers have beaten good (R264). It ends the self-test step, where this BOOT has not run it
yet; a failed item of the memories or the handshake keeps BOOT from ending (R42, R48). -/
def execTinSoldierHandshake (s : State) : Host.Outcome State Fault Refusal :=
  if awaitsHandshake s && s.sys.pupA.alive && s.sys.pupB.alive then
    let t := openTest s
    .next (if t.sys.bootStuck then t else reportCh s (handshake t))
  else .next s

/-- SIMPLEX_START_TIMEOUT: the shadow has given no good beat in step; it is reset, which counts as a failure of it but not in
SYS.FAILOVER_COUNT, and the handshake completes with the active Puppeteer alone (R264). -/
def execSimplexStartTimeout (s : State) : Host.Outcome State Fault Refusal :=
  let sh := otherPup s.sys.active
  if awaitsHandshake s && (s.sys.pup s.sys.active).alive && !((s.sys.pup sh).alive && (s.sys.pup sh).inStep) then
    let t := openTest s
    .next (if t.sys.bootStuck then t else reportCh s (handshake (failPup sh t)))
  else .next s

/-! ### The end of BOOT (R40, R49) -/

/-- BOOT has run to its end: the handshake is complete and no group reloads. -/
def bootDone (s : State) : Bool :=
  s.sys.phase == .boot && s.sys.mode == .boot && s.tin.armed && s.svc.reloads.isEmpty
    && !(allGrp.any fun g => (s.group g).reloading)

/-- The firmware is ready: its bit and interrupt are set, and Share Bus discovery begins (Table 2.5). -/
def readyNow (s : State) : State :=
  let t := setIrq Irq.FW_READY { s with sys := { s.sys with phase := .run, fwReady := true } }
  sendAnnounce t

/-- FIRMWARE_READY: a cold BOOT ends in COMMISSION or, with a valid configuration and no channel conducting, in STANDBY
(Table 2.2, R40). -/
def execFirmwareReady (s : State) : Host.Outcome State Fault Refusal :=
  if !bootDone s || s.sys.warm then .next s
  else if !s.sys.configValid || pget s Prm.SYS_START_MODE == 1 then
    .next (enterMode .commission Cause.firmware (readyNow s))
  else if (allCh.any (conducts s)) then .next s
  else .next (enterMode .standby Cause.firmware (readyNow s))

/-- A bound string in phase BULK, FLOAT or REJOIN fails the conditions of R423 as they stand, against its target voltage of the
moment (R49). -/
def failsFloat (s : State) : Bool :=
  let s := writeTargets s
  (boundStr s).any fun k =>
    let p := phaseOf s k
    match boundCh s k with
    | some c => (p == 1 || p == 2 || p == 5) && !floatNow s k c
    | none => false

/-- A BATTERY channel conducts. -/
def batteryConducts (s : State) : Bool := allCh.any fun c => roleOf s c == .battery && conducts s c

/-- What decides a resumption before the float criteria: COMMISSION, BRIDGE, and the end of a wake from DORMANT, which has no
channel that conducts (R49, R56). -/
def resumeEarly (s : State) : Option Mode :=
  if s.sys.keptMode = .commission ∨ !s.sys.configValid then some .commission
  else if s.sys.keptMode = .dormant then some .standby
  else if s.bus.strobe || (!s.mb.mains && batteryConducts s) then some .bridge
  else none

/-- The mode in which a warm restart ends: the first whose condition holds (R49). -/
def resumeMode (s : State) : Mode :=
  match resumeEarly s with
  | some m => m
  | none =>
    if s.mb.mains && failsFloat s then .recharge
    else if anyIso s then .maintain
    else if allCh.any (conducts s) then .online
    else .standby

/-- The resumption turns on the float criteria, whose first cycle means after the configuration step are still to come
(R49). -/
def awaitsMeans (s : State) : Bool :=
  (resumeEarly s).isNone && s.mb.mains && !(boundStr s).isEmpty && !s.sys.bootMeans

/-- The resumption mode is entered; BRIDGE as at a loss of mains, with the stage that its entry asks for where no strobe is
latched (R232). -/
def resume (s : State) : State :=
  let m := resumeMode s
  let strobe := s.bus.strobe
  let t := enterMode m Cause.warm (readyNow s)
  if m ≠ .bridge then t
  else if strobe then { t with bus := { t.bus with strobe := false }, adm := { t.adm with srcCap := 0 } }
  else stepTo t.bus.stageEff t

/-- RESUMPTION: a warm restart ends (R49). -/
def execResumption (s : State) : Host.Outcome State Fault Refusal :=
  if bootDone s && s.sys.warm && !awaitsMeans s then .next (resume s) else .next s

/-! ### DORMANT (R56, R60, R61, R392) -/

/-- The writes made before DORMANT: the event log, POWER with OPTIME and the keeping timers, the estimates and the history of
the strings, θ, wear with its stack counted out, and FLUSH (R61, R169, R185, R433, R478, R482, R486). -/
def dormantWrites (s : State) : State :=
  let t := forEach allCh (fun c s => modCh c (emptyStack s c) s) s
  let t := writeLog (drainQueue (4 * t.nvs.queue.length + 1) t)
  let now := fun (rt i : Nat) (s : State) => commitRec rt i (capture s rt i) s
  let t := now RT.POWER 0 t
  let t := forEach (boundStr t) (fun k s => now RT.BAT_HISTORY k.val (now RT.STRING_STATE k.val s)) t
  let t := now RT.THERMAL 0 t
  let t := forEach (roleCh t) (fun c s => now RT.WEAR c.val s) t
  let t := now RT.FLUSH 0 t
  { t with nvs := { t.nvs with flushNewer := true, lastFlush := optime t, flushBegun := none } }

/-- The main domain stops: the Puppeteers, the Tin Soldier and the link are unpowered, and the span begins (R56, R392). -/
def sleep (s : State) : State :=
  { s with
    sys := { s.sys with
      fwReady := false
      pupA := { Pupp.reset with discarded := s.sys.pupA.discarded }
      pupB := { Pupp.reset with discarded := s.sys.pupB.discarded } }
    tin := { s.tin with armed := false, checked := false, token := false, watch := 0 }
    shb := { s.shb with live := false }
    cnv := { s.cnv with on := false }
    fl := (List.finRange 16).foldl (fun (v : Vector FLine 16) l => vmod v l fun x => { x with out := false }) s.fl
    tmr := { s.tmr with span := 0 } }

/-- DORMANT_ENTER: the writes before DORMANT have completed, and the Hatan enters it (R61). In STANDBY no channel conducts
(Table 2.2); one that still conducts in CUTOFF opens, because DORMANT has all of them open (Table 2.1). -/
def execDormantEnter (s : State) : Host.Outcome State Fault Refusal :=
  let m := s.sys.mode
  if !s.sys.dormDue || !fwActs s || !(m == .cutoff || (m == .standby && !allCh.any (conducts s))) then .next s
  else
    let t := dormantWrites (reportCh s (openAll s))
    let t := match s.sys.dormReq with
      | some id => complete id St.OK [wd (m.code * 16 + Mode.dormant.code)] t
      | none => t
    let cause := if s.sys.dormReq.isSome then Cause.host else Cause.firmware
    .next (sleep (enterMode .dormant cause { t with sys := { t.sys with dormDue := false, dormReq := none } }))

/-- SYS.WAKE_SOURCES names a source (Table 2.8). The mains wake by two crossings in the same direction whose distance is a period
of 40 Hz to 70 Hz (R291). -/
def wakeEnabled (s : State) (src : WakeSrc) : Bool :=
  let w := pn s Prm.SYS_WAKE_SOURCES
  match src with
  | .mains periodNs => w.testBit 0 && decide (1000000000 ≤ 70 * periodNs ∧ 40 * periodNs ≤ 1000000000)
  | .svc => w.testBit 1 && s.svc.en
  | .fieldLine => w.testBit 2 && (List.finRange 16).any fun l => flFunc s l == 3 && (flCfg s l).testBit 31 == false
  | .keepingTimer => w.testBit 3

/-- The outputs of the divider until a keeping timer that may wake reaches its alarm, none where there is none; an alarm that
was due before DORMANT is not reached again (R393). -/
def ktWakeIn (s : State) : Option Nat :=
  (List.finRange 4).foldl (fun (m : Option Nat) n =>
    let cfg := pn s (ktId n Ktp.CFG)
    let makeup := n == 0 || cfg.testBit 3
    if makeup && cfg.testBit 4 && !s.tmr.ktDue.get n then
      let d := pn s (ktId n Ktp.ALARM) - (s.tmr.kt.get n + s.tmr.span)
      match m with
      | none => some d
      | some e => some (min d e)
    else m) none

/-- The span is added to each keeping timer whose MAKEUP is 1 (R392). -/
def makeUp (s : State) : State :=
  let add := fun (v : Vector Nat 4) (n : Fin 4) =>
    if n == 0 || (pn s (ktId n Ktp.CFG)).testBit 3 then vput v n (min (v.get n + s.tmr.span) (2 ^ 40 - 1)) else v
  { s with tmr := { s.tmr with kt := (List.finRange 4).foldl add s.tmr.kt } }

/-- θ of a pole after `span` units of 1/1024 s (R169). -/
def poleSpan (w span : Nat) (th : Rat) : Rat :=
  if poleTau w = 0 then 0 else th * expNeg ((span : Rat) * 1000000 / (1024 * (poleTau w : Rat)))

/-- A channel at a wake: open, its junction model cooled over the span (R56, R169). -/
def wakeCh (span : Nat) (c : Ch) (s : State) : State :=
  modCh c (fun x => { x with
    guardN := 0, sumI := 0, sumVs := 0, sumDrop := 0, sumCsn := 0, ovrCyc := false
    theta := (List.finRange 4).foldl (fun (v : Vector Rat 4) i => vmod v i (poleSpan (poleWord s c i.val) span)) x.theta }) s

/-- A string at a wake: its record, the self-discharge of the span, and the decay of its confidence over it (R427, R429,
R433). -/
def wakeStr (span : Nat) (k : Str) (s : State) : State :=
  let t := loadString 0 k s
  let sec : Rat := (span : Rat) / 1024
  modStr k (fun x => { x with
    qInt := heldQ t k (x.qInt - selfLoss t k sec), qRep := heldQ t k (x.qRep - selfLoss t k sec)
    refAt := optime t - span }) t

/-- A wake from DORMANT: the span is made up, and the start follows the warm-restart sequence with cause 0x07, its four reloads
counted; what the main domain held is gone (R46, R56, R164, R169, R327, R390, R392, R433). -/
def wakeNow (s : State) : State :=
  let span := s.tmr.span
  let t := warmStart 7 { makeUp s with acc := { s.acc with slot := Acc.reset.slot, bank := Acc.reset.bank } }
  let t := loadTables (loadTimers t)
  let t := forEach allCh (wakeCh span) t
  let t := forEach allStr (wakeStr span) t
  { t with
    grp := (List.finRange 4).foldl (fun (v : Vector Group 4) g => vmod v g fun x => { x with reloading := false, reloads := sat32 (x.reloads + 1) }) t.grp
    svc := { t.svc with reloads := [] }
    cnv := { t.cnv with seq := freshSeqs t, senseN := 0, senseSum := 0, fine := Cnv.reset.fine }
    mb := { MusicBox.reset with cur := nominal t, freq := nominal t, boundaryAt := t.clock } }

/-- An entry into DORMANT that waits for its writes is cancelled by a wake source: the Hatan stays in its mode (R61). -/
def cancelDormant (s : State) : State :=
  let t := { s with sys := { s.sys with dormDue := false, dormReq := none } }
  match s.sys.dormReq with
  | some id => complete id St.ABORTED [wd (s.sys.mode.code * 16 + s.sys.mode.code)] t
  | none => t

/-- A self-test's findings at a wake; with no image to run it there is none. -/
def wakeTest (test : SelfTest) (s : State) : State := if anyPup s then runTest test s else s

/-- WAKE: an enabled wake source in DORMANT; one that comes while the entry waits cancels it (R56, R60, R61, R393). -/
def execWake (src : WakeSrc) (test : SelfTest) (s : State) : Host.Outcome State Fault Refusal :=
  if !wakeEnabled s src then .next s
  else if s.sys.mode ≠ .dormant then .next (if s.sys.dormDue then cancelDormant s else s)
  else
    match src with
    | .keepingTimer =>
      match ktWakeIn s with
      | some d => .next (wakeTest test (wakeNow (passTo (s.clock + d * clkKt) s)))
      | none => .next s
    | .mains _ => .next (wakeTest test (wakeNow s))
    | .svc => .next (wakeTest test (wakeNow s))
    | .fieldLine => .next (wakeTest test (wakeNow s))

/-! ### nRESET (R54, R266) -/

/-- What a recognised nRESET does: a wake from DORMANT, a cold restart out of RECOVERY, a restart out of SAFE-KEEP or a warm one
(Table 2.2, R54, R60, R266). -/
def takeNreset (bootsel : Bool) (s : State) : State :=
  if s.sys.mode = .dormant then wakeNow (seeBootsel bootsel s) else restartBy 3 3 (seeBootsel bootsel s)

/-- NRESET: the pin is held low. 0.2 µs are ignored and 1 µs is recognised; whether a pulse between is recognised is a free value
(Table 21.13). The self-test of the start runs at its handshake. -/
def execNreset (pulse : ResetPulse) (s : State) : Host.Outcome State Fault Refusal :=
  if pulse.lowNs ≤ 200 ∨ s.sys.phase = .off ∨ s.sys.phase = .abandoned then .next s
  else if 1000 ≤ pulse.lowNs then .next (takeNreset pulse.bootsel s)
  else
    let r := drawWord s
    .next (if r.1.toNat % 2 = 1 then takeNreset pulse.bootsel r.2 else r.2)

/-! ### The loss of VIN (R45, R482, R540, R541) -/

/-- The supply warning's onset (R540, R546). -/
def setWarn (s : State) : State :=
  if s.pwr.warn then s
  else { s with pwr := { s.pwr with warn := true, warnCount := sat32 (s.pwr.warnCount + 1) } }

/-- The main domain is powered. -/
def mainUp (s : State) : Bool := (s.sys.phase == .run || s.sys.phase == .boot) && s.sys.mode != .dormant

/-- The hold-up time is computed again, on the latest sample of HOLD (R480). -/
def holdAgain (s : State) : State :=
  { s with nvs := { s.nvs with holdT := holdTime s s.pwr.holdMv, flushUs := flushTime s } }

/-- SUPPLY_WARNING: VIN has fallen below PWR.WARN_MV; the mode does not change, and the hold-up time is computed (R480, R540). -/
def execSupplyWarning (s : State) : Host.Outcome State Fault Refusal :=
  .next (if mainUp s then holdAgain (setWarn s) else s)

/-- SUPPLY_WARNING_END: VIN stands above the level and its hysteresis again without a supply fail (R539). -/
def execSupplyWarningEnd (s : State) : Host.Outcome State Fault Refusal :=
  if mainUp s && !s.pwr.fail then .next { s with pwr := { s.pwr with warn := false } } else .next s

/-- A start is abandoned: the Puppeteers stay in reset, every channel stays open, nothing is flushed and no further write
begins (R45). -/
def abandonStart (s : State) : State :=
  { s with
    sys := { s.sys with phase := .abandoned, fwReady := false, pupA := Pupp.reset, pupB := Pupp.reset }
    tin := { s.tin with armed := false, window := false, token := false }
    shb := { s.shb with live := false }
    nvs := { s.nvs with queue := [], held := [], ready := false } }

/-- The flush begins: every queued write that is no part of the flush set is held in RAM; the others are written in the flush
as the state then stands (R481, R482). -/
def beginFlush (s : State) : State :=
  let set := flushItems s
  let out := fun (p : Pending) => !set.contains (p.rtype, p.inst)
  let l := (s.nvs.held ++ s.nvs.queue.filter fun p => !p.toJournal).filter out
  { s with nvs := { s.nvs with queue := [], held := l, flushing := true, flushBegun := some 0 } }

/-- SUPPLY_FAIL: VIN has fallen below the supply fail level: the rails take HOLD, and the firmware begins the flush; a cold
start, and RECOVERY, are abandoned (R45, R482, R540). -/
def execSupplyFail (holdMv : Nat) (s : State) : Host.Outcome State Fault Refusal :=
  if s.sys.phase = .off ∨ s.sys.phase = .abandoned ∨ s.pwr.vin = false then .next s
  else if s.sys.mode = .dormant then .next { s with pwr := { s.pwr with vin := false } }
  else
    let t := setWarn s
    let t := { t with pwr := { t.pwr with vin := false, fail := true, failCount := sat32 (t.pwr.failCount + 1), holdMv := holdMv } }
    if (t.sys.phase = .boot ∧ !t.sys.warm) ∨ t.sys.mode = .recovery then .next (abandonStart t)
    else if anyPup t && !t.svc.halted then .next (beginFlush t)
    else .next t

/-- An item of the flush: a record as it stands, the event log's buffer, or FLUSH. -/
inductive FlushItem
  | rec_ (rtype inst : Nat)
  | log
  | last
  deriving DecidableEq, Repr

/-- The flush set in its order (R482). -/
def flushList (s : State) : List FlushItem := (flushItems s).map (fun i => .rec_ i.1 i.2) ++ [.log, .last]

/-- t_w of an item in 1/50 µs; the log write is one of the bytes that stand in the buffer. -/
def flushTw (s : State) : FlushItem → Nat
  | .rec_ t i => tw50 (bodyBytes t i)
  | .log => tw50 (bufUsed s)
  | .last => tw50 16

/-- An item is written. FLUSH counts the items before it. -/
def flushWrite (n : Nat) (i : FlushItem) (s : State) : State :=
  match i with
  | .rec_ t k => commitRec t k (capture s t k) s
  | .log => writeLog s
  | .last =>
    let u := commitRec RT.FLUSH 0 (.flush (optime s) n) s
    { u with nvs := { u.nvs with flushNewer := true, lastFlush := optime s } }

/-- The items are queued in turn while t_h at the item's HOLD level covers its t_w; the first that fails ends the flush. Where
the list of levels ends, the last level stands. -/
def flushRun : List FlushItem → List Nat → Nat → Nat → State → State × Option Nat
  | [], _, _, _, s => (s, none)
  | i :: t, mvs, mv, n, s =>
    let mv := mvs.head?.getD mv
    let s := { s with pwr := { s.pwr with holdMv := mv } }
    if 50 * holdTime s mv < flushTw s i then (s, some n) else flushRun t mvs.tail mv (n + 1) (flushWrite n i s)

/-- FLUSH_COMPLETE: the flush has run to its end, with the HOLD level at each of its items (R482). -/
def execFlushComplete (holdMv : List Nat) (s : State) : Host.Outcome State Fault Refusal :=
  if !s.nvs.flushing || !anyPup s then .next s
  else
    let t := forEach (roleCh s) (fun c s => modCh c (emptyStack s c) s) s
    let r := flushRun (flushList t) holdMv s.pwr.holdMv 0 t
    .next { r.1 with nvs := { r.1.nvs with flushing := false, flushBegun := r.2 } }

/-- VIN_RETURN: VIN rises through the power-on threshold again: the Hatan goes on while the flush runs, and makes a warm restart
with cause 0x02 after it while HOLD stands (R55, R541). -/
def execVinReturn (holdMv : Nat) (s : State) : Host.Outcome State Fault Refusal :=
  if s.sys.phase = .off ∨ s.sys.phase = .abandoned ∨ s.pwr.vin then .next s
  else
    let t := { s with pwr := { s.pwr with vin := true, fail := false } }
    if s.sys.mode = .dormant then .next t
    else if s.nvs.flushing then .next (logEvent Evt.FLUSH_RESUMED 1 objNone [] { t with pwr := { t.pwr with holdMv := holdMv } })
    else if holdMv < holdRetention then .next s
    else
      let t := { t with pwr := { t.pwr with holdMv := holdMv } }
      .next (if inSafeKeep s then leaveSafeKeep 2 t else warmStart 2 t)

/-- RAIL_COLLAPSE: HOLD has fallen below the retention minimum: the rails collapse, every gate falls low, and what is not kept in
the store is lost (R541). -/
def execRailCollapse (s : State) : Host.Outcome State Fault Refusal :=
  if s.sys.phase = .off ∨ s.pwr.vin then .next s else .next (wiped (cutWrite s))

end Sys2Proof.Machine
end

