-- ==== Sys2Proof/Machine/Dispatch.lean ====
section
/-! DEFINITION. The dispatch: one arm for each command, a direct call of its meaning. -/

namespace Sys2Proof.Machine

/-- The effect of a command on everything but the queue of waiting commands. -/
def exec (i : Instr) (s : State) : Host.Outcome State Fault Refusal :=
  match i with
  | .powerOn bootsel holdMv test => Sys2Proof.Machine.execPowerOn bootsel holdMv test s
  | .bootWindowExpiry => Sys2Proof.Machine.execBootWindowExpiry s
  | .tinSoldierHandshake => Sys2Proof.Machine.execTinSoldierHandshake s
  | .simplexStartTimeout => Sys2Proof.Machine.execSimplexStartTimeout s
  | .firmwareReady => Sys2Proof.Machine.execFirmwareReady s
  | .resumption => Sys2Proof.Machine.execResumption s
  | .nreset pulse => Sys2Proof.Machine.execNreset pulse s
  | .supplyWarning => Sys2Proof.Machine.execSupplyWarning s
  | .supplyFail holdMv => Sys2Proof.Machine.execSupplyFail holdMv s
  | .flushComplete holdMv => Sys2Proof.Machine.execFlushComplete holdMv s
  | .vinReturn holdMv => Sys2Proof.Machine.execVinReturn holdMv s
  | .railCollapse => Sys2Proof.Machine.execRailCollapse s
  | .dormantEnter => Sys2Proof.Machine.execDormantEnter s
  | .wake src test => Sys2Proof.Machine.execWake src test s
  | .spiWriteFrame f => Sys2Proof.Machine.execSpiWriteFrame f s
  | .spiReadFrame f => Sys2Proof.Machine.execSpiReadFrame f s
  | .dualCs header => Sys2Proof.Machine.execDualCs header s
  | .hQdataWrite cs n words => Sys2Proof.Machine.execHQdataWrite cs n words s
  | .hQdataRead cs n count clean => Sys2Proof.Machine.execHQdataRead cs n count clean s
  | .hQdataRepeat cs n count => Sys2Proof.Machine.execHQdataRepeat cs n count s
  | .hDoorbell cs v => Sys2Proof.Machine.execHDoorbell cs v s
  | .hDbOutClear cs v setting => Sys2Proof.Machine.execHDbOutClear cs v setting s
  | .hCollideClear cs v setting => Sys2Proof.Machine.execHCollideClear cs v setting s
  | .hIrqStatusClear v setting => Sys2Proof.Machine.execHIrqStatusClear v setting s
  | .hIrqMaskWrite v => Sys2Proof.Machine.execHIrqMaskWrite v s
  | .hLockAcquire r => Sys2Proof.Machine.execHLockAcquire r s
  | .hLockRelease r v => Sys2Proof.Machine.execHLockRelease r v s
  | .hReset cs key => Sys2Proof.Machine.execHReset cs key s
  | .hLinkErrRead r => Sys2Proof.Machine.execHLinkErrRead r s
  | .hOptimeLRead r => Sys2Proof.Machine.execHOptimeLRead r s
  | .hOptimeHRead r => Sys2Proof.Machine.execHOptimeHRead r s
  | .hRegWrite cs addr v => Sys2Proof.Machine.execHRegWrite cs addr v s
  | .nirqPulseEnd => Sys2Proof.Machine.execNirqPulseEnd s
  | .outboundPlace n => Sys2Proof.Machine.execOutboundPlace n s
  | .fragmentTimeout n => Sys2Proof.Machine.execFragmentTimeout n s
  | .inboundCollision n => Sys2Proof.Machine.execInboundCollision n s
  | .inboundMalformed n => Sys2Proof.Machine.execInboundMalformed n s
  | .sessionOpen n => Sys2Proof.Machine.execSessionOpen n s
  | .sessionAuth n => Sys2Proof.Machine.execSessionAuth n s
  | .sessionClose n => Sys2Proof.Machine.execSessionClose n s
  | .echo n => Sys2Proof.Machine.execEcho n s
  | .cancel n => Sys2Proof.Machine.execCancel n s
  | .ntfSubscribe n => Sys2Proof.Machine.execNtfSubscribe n s
  | .paramRead n => Sys2Proof.Machine.execParamRead n s
  | .paramWrite n => Sys2Proof.Machine.execParamWrite n s
  | .paramInfo n => Sys2Proof.Machine.execParamInfo n s
  | .paramList n => Sys2Proof.Machine.execParamList n s
  | .modeRequest n => Sys2Proof.Machine.execModeRequest n s
  | .isolate n => Sys2Proof.Machine.execIsolate n s
  | .restore n => Sys2Proof.Machine.execRestore n s
  | .groupCtrlReload n => Sys2Proof.Machine.execGroupCtrlReload n s
  | .groupCtrlSelftest n failed => Sys2Proof.Machine.execGroupCtrlSelftest n failed s
  | .opStartInrush n => Sys2Proof.Machine.execOpStartInrush n s
  | .opStartFetTest n => Sys2Proof.Machine.execOpStartFetTest n s
  | .opStartCapTest n => Sys2Proof.Machine.execOpStartCapTest n s
  | .opStartDurTest n => Sys2Proof.Machine.execOpStartDurTest n s
  | .evtRead n => Sys2Proof.Machine.execEvtRead n s
  | .evtClear n => Sys2Proof.Machine.execEvtClear n s
  | .snapReadAcc n => Sys2Proof.Machine.execSnapReadAcc n s
  | .snapReadTrk n => Sys2Proof.Machine.execSnapReadTrk n s
  | .snapReadXamir n => Sys2Proof.Machine.execSnapReadXamir n s
  | .chCtrlOpen n => Sys2Proof.Machine.execChCtrlOpen n s
  | .chCtrlClose n => Sys2Proof.Machine.execChCtrlClose n s
  | .chCtrlArm n => Sys2Proof.Machine.execChCtrlArm n s
  | .chCtrlDisarm n => Sys2Proof.Machine.execChCtrlDisarm n s
  | .chCtrlClear n => Sys2Proof.Machine.execChCtrlClear n s
  | .chCtrlPresence n => Sys2Proof.Machine.execChCtrlPresence n s
  | .sfkWrite n => Sys2Proof.Machine.execSfkWrite n s
  | .authLockoutEnd n => Sys2Proof.Machine.execAuthLockoutEnd n s
  | .sfkCommit n v => Sys2Proof.Machine.execSfkCommit n v s
  | .sfkDrill n v => Sys2Proof.Machine.execSfkDrill n v s
  | .cnvStart n v => Sys2Proof.Machine.execCnvStart n v s
  | .cnvUrgent n v => Sys2Proof.Machine.execCnvUrgent n v s
  | .calZero n => Sys2Proof.Machine.execCalZero n s
  | .calFull n => Sys2Proof.Machine.execCalFull n s
  | .calCompute n => Sys2Proof.Machine.execCalCompute n s
  | .calNominal n => Sys2Proof.Machine.execCalNominal n s
  | .calAbandon n => Sys2Proof.Machine.execCalAbandon n s
  | .calDirectWrite n ofs gain => Sys2Proof.Machine.execCalDirectWrite n ofs gain s
  | .accClear n v => Sys2Proof.Machine.execAccClear n v s
  | .trkFreeze n v => Sys2Proof.Machine.execTrkFreeze n v s
  | .trkRelease n v => Sys2Proof.Machine.execTrkRelease n v s
  | .tmrCtrlStart n k => Sys2Proof.Machine.execTmrCtrlStart n k s
  | .tmrCtrlStop n k => Sys2Proof.Machine.execTmrCtrlStop n k s
  | .tmrCtrlReset n k => Sys2Proof.Machine.execTmrCtrlReset n k s
  | .tmrCfgWrite n k v => Sys2Proof.Machine.execTmrCfgWrite n k v s
  | .tmrPeriodWrite n k v => Sys2Proof.Machine.execTmrPeriodWrite n k v s
  | .tmrCmpWrite n k v => Sys2Proof.Machine.execTmrCmpWrite n k v s
  | .tmrCntWrite n k v => Sys2Proof.Machine.execTmrCntWrite n k v s
  | .tmrCapcfgWrite n k v => Sys2Proof.Machine.execTmrCapcfgWrite n k v s
  | .tmrCapRead n k => Sys2Proof.Machine.execTmrCapRead n k s
  | .tmrCntLowRead n k => Sys2Proof.Machine.execTmrCntLowRead n k s
  | .ktValueWrite n k v => Sys2Proof.Machine.execKtValueWrite n k v s
  | .flStuckMsWrite n l v => Sys2Proof.Machine.execFlStuckMsWrite n l v s
  | .updTakeover n v => Sys2Proof.Machine.execUpdTakeover n v s
  | .updConfirm n v => Sys2Proof.Machine.execUpdConfirm n v s
  | .updRollback n v => Sys2Proof.Machine.execUpdRollback n v s
  | .metAuditSel n v => Sys2Proof.Machine.execMetAuditSel n v s
  | .logCursorWrite n v => Sys2Proof.Machine.execLogCursorWrite n v s
  | .logStateRead n => Sys2Proof.Machine.execLogStateRead n s
  | .bridgeStrobeInterrupt => Sys2Proof.Machine.execBridgeStrobeInterrupt s
  | .acCrossing x => Sys2Proof.Machine.execAcCrossing x s
  | .syncEdge x => Sys2Proof.Machine.execSyncEdge x s
  | .mainsLost cause => Sys2Proof.Machine.execMainsLost cause s
  | .syncLost => Sys2Proof.Machine.execSyncLost s
  | .autoOnline => Sys2Proof.Machine.execAutoOnline s
  | .cutoffDormantTimeout => Sys2Proof.Machine.execCutoffDormantTimeout s
  | .floatCriteriaMet k => Sys2Proof.Machine.execFloatCriteriaMet k s
  | .endOfDischarge k => Sys2Proof.Machine.execEndOfDischarge k s
  | .cutoffBatteryOpen => Sys2Proof.Machine.execCutoffBatteryOpen s
  | .heartbeat p seq inStep gap => Sys2Proof.Machine.execHeartbeat p seq inStep gap s
  | .heartbeatTimeout p => Sys2Proof.Machine.execHeartbeatTimeout p s
  | .puppeteerRestartDone p => Sys2Proof.Machine.execPuppeteerRestartDone p s
  | .surrender => Sys2Proof.Machine.execSurrender s
  | .clkDisagree present => Sys2Proof.Machine.execClkDisagree present s
  | .coreRail => Sys2Proof.Machine.execCoreRail s
  | .marSilent g => Sys2Proof.Machine.execMarSilent g s
  | .keepUvOpen c => Sys2Proof.Machine.execKeepUvOpen c s
  | .safeOkSilent => Sys2Proof.Machine.execSafeOkSilent s
  | .xinLost => Sys2Proof.Machine.execXinLost s
  | .xinReturned => Sys2Proof.Machine.execXinReturned s
  | .eccSingle m => Sys2Proof.Machine.execEccSingle m s
  | .eccDouble m offset rebuildable => Sys2Proof.Machine.execEccDouble m offset rebuildable s
  | .microcodeParity g word => Sys2Proof.Machine.execMicrocodeParity g word s
  | .drumParity e => Sys2Proof.Machine.execDrumParity e s
  | .groupReloadDone g crcOk => Sys2Proof.Machine.execGroupReloadDone g crcOk s
  | .marionetteTick inp => Sys2Proof.Machine.execMarionetteTick inp s
  | .ocReflex c withRc => Sys2Proof.Machine.execOcReflex c withRc s
  | .rcReflex c => Sys2Proof.Machine.execRcReflex c s
  | .armedReflex c => Sys2Proof.Machine.execArmedReflex c s
  | .presenceFilter c vsMv => Sys2Proof.Machine.execPresenceFilter c vsMv s
  | .autoInrushFile c => Sys2Proof.Machine.execAutoInrushFile c s
  | .inrushFollowDone c => Sys2Proof.Machine.execInrushFollowDone c s
  | .inrushComplete c => Sys2Proof.Machine.execInrushComplete c s
  | .inrushTimeout c => Sys2Proof.Machine.execInrushTimeout c s
  | .fetTestEnd c => Sys2Proof.Machine.execFetTestEnd c s
  | .lifeLeftDaily => Sys2Proof.Machine.execLifeLeftDaily s
  | .uvFilterExpiry c => Sys2Proof.Machine.execUvFilterExpiry c s
  | .overloadExpiry c => Sys2Proof.Machine.execOverloadExpiry c s
  | .driveFault fail => Sys2Proof.Machine.execDriveFault fail s
  | .retryAttempt c => Sys2Proof.Machine.execRetryAttempt c s
  | .waitCleared c => Sys2Proof.Machine.execWaitCleared c s
  | .retryCountReset c => Sys2Proof.Machine.execRetryCountReset c s
  | .cycleBoundary inp => Sys2Proof.Machine.execCycleBoundary inp s
  | .ntcValid k => Sys2Proof.Machine.execNtcValid k s
  | .dieCool => Sys2Proof.Machine.execDieCool s
  | .cappingEnd => Sys2Proof.Machine.execCappingEnd s
  | .peakSupportTimeout => Sys2Proof.Machine.execPeakSupportTimeout s
  | .rectLeftSet c => Sys2Proof.Machine.execRectLeftSet c s
  | .shedRestore => Sys2Proof.Machine.execShedRestore s
  | .walkin c => Sys2Proof.Machine.execWalkin c s
  | .walkinEnd c => Sys2Proof.Machine.execWalkinEnd c s
  | .restReference k => Sys2Proof.Machine.execRestReference k s
  | .rejoinTimeout k => Sys2Proof.Machine.execRejoinTimeout k s
  | .stringStateWrite => Sys2Proof.Machine.execStringStateWrite s
  | .durTestTimeout => Sys2Proof.Machine.execDurTestTimeout s
  | .drumConvert e => Sys2Proof.Machine.execDrumConvert e s
  | .drumTrack e => Sys2Proof.Machine.execDrumTrack e s
  | .drumProbe e => Sys2Proof.Machine.execDrumProbe e s
  | .drumSetpoint e => Sys2Proof.Machine.execDrumSetpoint e s
  | .drumShed e => Sys2Proof.Machine.execDrumShed e s
  | .drumSwitch e => Sys2Proof.Machine.execDrumSwitch e s
  | .drumNotify e => Sys2Proof.Machine.execDrumNotify e s
  | .cnvTrigger k second rising => Sys2Proof.Machine.execCnvTrigger k second rising s
  | .cnvTriggerDelayEnd k second => Sys2Proof.Machine.execCnvTriggerDelayEnd k second s
  | .urgentSequenceEnd k => Sys2Proof.Machine.execUrgentSequenceEnd k s
  | .filterWindowEnd k e => Sys2Proof.Machine.execFilterWindowEnd k e s
  | .lpEntry k => Sys2Proof.Machine.execLpEntry k s
  | .calCaptureEnd cap => Sys2Proof.Machine.execCalCaptureEnd cap s
  | .calStored ok => Sys2Proof.Machine.execCalStored ok s
  | .trackerFreeze b => Sys2Proof.Machine.execTrackerFreeze b s
  | .xamirRead addr count seq => Sys2Proof.Machine.execXamirRead addr count seq s
  | .snapReq map challenge seq => Sys2Proof.Machine.execSnapReq map challenge seq s
  | .snapFetch ofs count seq => Sys2Proof.Machine.execSnapFetch ofs count seq s
  | .snapshotSigned => Sys2Proof.Machine.execSnapshotSigned s
  | .xamirRefresh => Sys2Proof.Machine.execXamirRefresh s
  | .xamirStore ok => Sys2Proof.Machine.execXamirStore ok s
  | .xamirPowerFail finalWritten => Sys2Proof.Machine.execXamirPowerFail finalWritten s
  | .xamirPowerUp sealLow => Sys2Proof.Machine.execXamirPowerUp sealLow s
  | .xamirRefLost => Sys2Proof.Machine.execXamirRefLost s
  | .xamirRefReturn => Sys2Proof.Machine.execXamirRefReturn s
  | .vmiss k meanMv => Sys2Proof.Machine.execVmiss k meanMv s
  | .sealOpen => Sys2Proof.Machine.execSealOpen s
  | .sealClose => Sys2Proof.Machine.execSealClose s
  | .metroSignOn baudCode => Sys2Proof.Machine.execMetroSignOn baudCode s
  | .metroP1 => Sys2Proof.Machine.execMetroP1 s
  | .metroR1Read id => Sys2Proof.Machine.execMetroR1Read id s
  | .metroW1Write id v => Sys2Proof.Machine.execMetroW1Write id v s
  | .metroCaptureEnd mean steady => Sys2Proof.Machine.execMetroCaptureEnd mean steady s
  | .metroTimeout => Sys2Proof.Machine.execMetroTimeout s
  | .metCopy => Sys2Proof.Machine.execMetCopy s
  | .metPoll answered => Sys2Proof.Machine.execMetPoll answered s
  | .metCrossCheck => Sys2Proof.Machine.execMetCrossCheck s
  | .tmrOvf k => Sys2Proof.Machine.execTmrOvf k s
  | .tmrTop k => Sys2Proof.Machine.execTmrTop k s
  | .tmrMatch k => Sys2Proof.Machine.execTmrMatch k s
  | .tmrCapture k => Sys2Proof.Machine.execTmrCapture k s
  | .tmrReject k => Sys2Proof.Machine.execTmrReject k s
  | .tmrStartEdge k => Sys2Proof.Machine.execTmrStartEdge k s
  | .ktAlarm k => Sys2Proof.Machine.execKtAlarm k s
  | .flLevelChange l level => Sys2Proof.Machine.execFlLevelChange l level s
  | .flStuck l => Sys2Proof.Machine.execFlStuck l s
  | .flReject pulse => Sys2Proof.Machine.execFlReject pulse s
  | .flOutputLimit l => Sys2Proof.Machine.execFlOutputLimit l s
  | .flOutputResume l => Sys2Proof.Machine.execFlOutputResume l s
  | .admWaitTimeout pos => Sys2Proof.Machine.execAdmWaitTimeout pos s
  | .announce f => Sys2Proof.Machine.execAnnounce f s
  | .status f => Sys2Proof.Machine.execStatus f s
  | .reserve f => Sys2Proof.Machine.execReserve f s
  | .clock f => Sys2Proof.Machine.execClock f s
  | .rectSet f => Sys2Proof.Machine.execRectSet f s
  | .rectStat f => Sys2Proof.Machine.execRectStat f s
  | .bmodStat f => Sys2Proof.Machine.execBmodStat f s
  | .announceTimer => Sys2Proof.Machine.execAnnounceTimer s
  | .statusTimer => Sys2Proof.Machine.execStatusTimer s
  | .reserveTimer => Sys2Proof.Machine.execReserveTimer s
  | .clockTimer => Sys2Proof.Machine.execClockTimer s
  | .peerTimeout k => Sys2Proof.Machine.execPeerTimeout k s
  | .rectRatingTimeout c => Sys2Proof.Machine.execRectRatingTimeout c s
  | .moduleAbsent k addr => Sys2Proof.Machine.execModuleAbsent k addr s
  | .genBusRise => Sys2Proof.Machine.execGenBusRise s
  | .busOff port => Sys2Proof.Machine.execBusOff port s
  | .busOffRecovery port => Sys2Proof.Machine.execBusOffRecovery port s
  | .recordWrite mismatches => Sys2Proof.Machine.execRecordWrite mismatches s
  | .scrub offset finding => Sys2Proof.Machine.execScrub offset finding s
  | .powerRecordTimer => Sys2Proof.Machine.execPowerRecordTimer s
  | .wearRecordTimer => Sys2Proof.Machine.execWearRecordTimer s
  | .configRecordWrite block => Sys2Proof.Machine.execConfigRecordWrite block s
  | .migrate => Sys2Proof.Machine.execMigrate s
  | .logWrite => Sys2Proof.Machine.execLogWrite s
  | .rateWindowEnd => Sys2Proof.Machine.execRateWindowEnd s
  | .dropSummary => Sys2Proof.Machine.execDropSummary s
  | .svcEnRise => Sys2Proof.Machine.execSvcEnRise s
  | .svcEnFall => Sys2Proof.Machine.execSvcEnFall s
  | .svcFrameGap => Sys2Proof.Machine.execSvcFrameGap s
  | .ping seq => Sys2Proof.Machine.execPing seq s
  | .setBaud seq code => Sys2Proof.Machine.execSetBaud seq code s
  | .baudFallback => Sys2Proof.Machine.execBaudFallback s
  | .svcRestart seq key => Sys2Proof.Machine.execSvcRestart seq key s
  | .regRead seq first count => Sys2Proof.Machine.execRegRead seq first count s
  | .regWrite seq addr v => Sys2Proof.Machine.execRegWrite seq addr v s
  | .mbox seq words => Sys2Proof.Machine.execMbox seq words s
  | .imgBegin seq bank total => Sys2Proof.Machine.execImgBegin seq bank total s
  | .imgData seq ofs data => Sys2Proof.Machine.execImgData seq ofs data s
  | .imgEnd seq => Sys2Proof.Machine.execImgEnd seq s
  | .takeover seq key => Sys2Proof.Machine.execTakeover seq key s
  | .shadowBootDone => Sys2Proof.Machine.execShadowBootDone s
  | .mirrorReady => Sys2Proof.Machine.execMirrorReady s
  | .syncTimeout => Sys2Proof.Machine.execSyncTimeout s
  | .takeoverBoundary => Sys2Proof.Machine.execTakeoverBoundary s
  | .confirm seq key => Sys2Proof.Machine.execConfirm seq key s
  | .trialTimeout => Sys2Proof.Machine.execTrialTimeout s
  | .rollback seq key => Sys2Proof.Machine.execRollback seq key s
  | .dbgChallenge seq => Sys2Proof.Machine.execDbgChallenge seq s
  | .dbgUnlock seq level sig => Sys2Proof.Machine.execDbgUnlock seq level sig s
  | .dbgLock seq => Sys2Proof.Machine.execDbgLock seq s
  | .dbgRead seq addr count => Sys2Proof.Machine.execDbgRead seq addr count s
  | .dbgHalt seq => Sys2Proof.Machine.execDbgHalt seq s
  | .dbgResume seq => Sys2Proof.Machine.execDbgResume seq s
  | .dbgStep seq => Sys2Proof.Machine.execDbgStep seq s
  | .dbgWrite seq addr words => Sys2Proof.Machine.execDbgWrite seq addr words s
  | .wearReset seq channel => Sys2Proof.Machine.execWearReset seq channel s
  | .supplyWarningEnd => Sys2Proof.Machine.execSupplyWarningEnd s
  | .coreRailInWindow => Sys2Proof.Machine.execCoreRailInWindow s
  | .xamirSample x => Sys2Proof.Machine.execXamirSample x s
  | .xamirFrameRejected why seq => Sys2Proof.Machine.execXamirFrameRejected why seq s
  | .sequencerResult k code => Sys2Proof.Machine.execSequencerResult k code s
  | .shbRxIgnored f => Sys2Proof.Machine.execShbRxIgnored f s
  | .svcFrameDiscarded => Sys2Proof.Machine.execSvcFrameDiscarded s
  | .svcUndefinedType seq type => Sys2Proof.Machine.execSvcUndefinedType seq type s
  | .undefinedOpcode n => Sys2Proof.Machine.execUndefinedOpcode n s
  | .chCtrlReservedAction n => Sys2Proof.Machine.execChCtrlReservedAction n s
  | .opStartUndefinedCode n => Sys2Proof.Machine.execOpStartUndefinedCode n s

end Sys2Proof.Machine
end

