-- ==== Sys2Proof/Safety.lean ====
section
/-! DEFINITION. The terms in which claims about a run are made: the parts of the state that a command keeps, the
order that the fuses and the clock keep, and the canonical form of the image memories. -/

namespace Sys2Proof.Machine

/-- The parts of the state that a claim names: the fields of `State`, and five views across them. -/
inductive Part
  | pending | clock | freeCtr | pw | pf | sys | link | inq | outq | deolo | ch | grp | bus | tin | mb | cnv | acc | xam
  | met | tmr | adm | bat | shb | fl | nvs | log | svc | pwr
  | gates | fuses | images | mode | token
  deriving DecidableEq, Repr

/-- The levels of the two gates of every channel: the drive of the power path (R142). -/
def State.gates (s : State) : List (Gate × Gate) := s.ch.toList.map fun x => (x.gateA, x.gateB)

/-- The one-time fuses: the count of SVN fuses blown and the revoked keys (R522). -/
def Svc.fuses (v : Svc) : Nat × Nat := (v.svnFloor, v.revoked)

/-- The bytes of the two image banks (R519). -/
def Svc.images (v : Svc) : List Host.Cell × List Host.Cell := (v.bankA.bytes, v.bankB.bytes)

/-- The present and the previous mode (R33, R37). -/
def Sys.modes (y : Sys) : Mode × Mode := (y.mode, y.prevMode)

/-- A part of the state is the same in two states. -/
def Part.same (p : Part) (s t : State) : Prop :=
  match p with
  | .pending => t.pending = s.pending
  | .clock => t.clock = s.clock
  | .freeCtr => t.freeCtr = s.freeCtr
  | .pw => t.pw = s.pw
  | .pf => t.pf = s.pf
  | .sys => t.sys = s.sys
  | .link => t.link = s.link
  | .inq => t.inq = s.inq
  | .outq => t.outq = s.outq
  | .deolo => t.deolo = s.deolo
  | .ch => t.ch = s.ch
  | .grp => t.grp = s.grp
  | .bus => t.bus = s.bus
  | .tin => t.tin = s.tin
  | .mb => t.mb = s.mb
  | .cnv => t.cnv = s.cnv
  | .acc => t.acc = s.acc
  | .xam => t.xam = s.xam
  | .met => t.met = s.met
  | .tmr => t.tmr = s.tmr
  | .adm => t.adm = s.adm
  | .bat => t.bat = s.bat
  | .shb => t.shb = s.shb
  | .fl => t.fl = s.fl
  | .nvs => t.nvs = s.nvs
  | .log => t.log = s.log
  | .svc => t.svc = s.svc
  | .pwr => t.pwr = s.pwr
  | .gates => t.gates = s.gates
  | .fuses => t.svc.fuses = s.svc.fuses
  | .images => t.svc.images = s.svc.images
  | .mode => t.sys.modes = s.sys.modes
  | .token => t.sys.active = s.sys.active

/-- Two states agree in every part but those listed: the frame of a command. -/
def SameBut (l : List Part) (s t : State) : Prop := ∀ p : Part, p ∉ l → p.same s t

/-- No fuse is ever cleared between two states (R522). -/
def FusesKept (s t : State) : Prop :=
  s.svc.svnFloor ≤ t.svc.svnFloor ∧ ∀ k, s.svc.revoked.testBit k = true → t.svc.revoked.testBit k = true

/-- What an entry into SAFE-KEEP by a cause of Table 9.2 leaves: the mode and the one before it, the cause, the token and the
window taken away, the overrides standing, the Share Bus ports dead, and the entry counted (R250, R462). -/
def SafeKeepBy (code : Nat) (s t : State) : Prop :=
  t.sys.modes = (.safeKeep, s.sys.mode) ∧ t.tin.cause = code ∧ t.tin.token = false ∧ t.tin.override = true ∧
    t.tin.window = false ∧ t.shb.live = false ∧ t.tin.entryCount = sat32 (s.tin.entryCount + 1)

/-- One whole command stands at the head of inbound queue n, no other command is in flight, and the outbound
queue is empty: the firmware takes the command as soon as its row is commanded (R91, R92, R96, R100). -/
structure Calm (n : Mb) (op tag : Nat) (body : List Word) (s : State) : Prop where
  chan : n.val < 14
  head : ∃ h, headMsg s n = some (h, body) ∧ h.field 24 8 = op ∧ h.field 15 9 = tag ∧ h.field 8 2 = 0 ∧ h.field 0 8 = 0
  up : domainDown s n = false
  takes : firmwareTakes s = true
  mode : s.sys.mode ≠ .recovery
  free : s.deolo.tags = []
  idle : s.deolo.sesDue.get n = none
  empty : (s.outq.get n).words = []
  range : oldSession s n = true → tag ≤ 63

/-- Channel c stands still: no inrush, walk-in, test or request is in hand on it or waits at the arbiter, its group does not
reload, and no action is held for an angle (R31, R157, R290). -/
structure Still (c : Ch) (s : State) : Prop where
  inr : (s.chan c).inr = none
  walk : s.bus.walk.get c = .out
  queue : s.adm.queue = []
  test : s.bat.test = none
  reload : (s.group (groupOf c)).reloading = false
  held : s.mb.held = []
  sync : (pn s Prm.DRM_SWITCH_SYNC).testBit c.val = false

/-- Channel c stands still, no override of SAFE-KEEP stands, and nothing follows its events by itself: no black start, and no
takeover that waits for its grant (R254, R529, R585). -/
structure Alone (c : Ch) (s : State) : Prop extends Still c s where
  override : s.tin.override = false
  black : s.sys.blackStart = false
  takeover : s.svc.op = none

/-- What a trip of channel c by cause k with the action a leaves: both gates low, the causes, the action, the yo-yo that the
action starts, and every other channel as it was (R192, R200, R201, R204, R213). -/
def TrippedBy (c : Ch) (k a : Nat) (s t : State) : Prop :=
  let latch := a = 3 ∨ a = 1 ∧ chn s c Chp.RETRY_MAX ≤ (s.chan c).attempts
  (t.chan c).st = (if latch then .latched else .tripped) ∧ (t.chan c).gateA = .lowFull ∧ (t.chan c).gateB = .lowFull ∧
    (t.chan c).causes = 2 ^ k ∧ (t.chan c).first = k ∧ (t.chan c).action = (if latch then 3 else a) ∧
    (t.chan c).tripCount = sat32 ((s.chan c).tripCount + 1) ∧
    (t.chan c).yoyo = (if latch then .idle else if a = 2 then .waiting
      else .delay (retryDelay s c (s.chan c).attempts * 1000)) ∧
    ∀ d, d ≠ c → t.chan d = s.chan d

/-- The inrush of channel c has been filed and judged at once: granted, queued or refused (R172, R410, R411, R413). -/
def Filed (c : Ch) (s t : State) : Prop :=
  t.adm.lastOp = Opn.INRUSH ∧
    (t.adm.lastDecision = 1 ∧ (t.chan c).grant ≠ none ∧ (t.chan c).st = .wait ∨
      t.adm.lastDecision = 2 ∧ (t.chan c).st = .wait ∨
      t.adm.lastDecision = 3 ∧ (t.chan c).st = .opened ∧ t.adm.refusals = sat32 (s.adm.refusals + 1))

/-- A write of the items passes: the firmware takes commands, the session of the channel is open, and no check of R120 fails. -/
structure Takes (n : Mb) (l : List Item) (s : State) : Prop where
  firm : firmwareTakes s = true
  open_ : sessionStatus s n = St.OK
  sound : writeFault s n l = none

/-- The image memories of both banks are in their canonical form. -/
def State.imagesWf (s : State) : Prop := Memory.wf s.svc.bankA.bytes = true ∧ Memory.wf s.svc.bankB.bytes = true

/-- The memories of both halves of the safety sheet are in their canonical form. -/
def State.sheetWf (s : State) : Prop := Memory.wf s.tin.lower.cells = true ∧ Memory.wf s.tin.upper.cells = true

end Sys2Proof.Machine
end

