-- ==== Sys2Proof/Machine/Touches.lean ====
section
/-! DEFINITION. The frame table: the parts of the state that each command may change. Every other part is as it was. -/

namespace Sys2Proof.Machine

/-- What sending a notification may change: the queues, the sessions' held notifications, and the bits they set. -/
def telling : List Part := [.link, .outq, .deolo, .svc]

/-- What writing an event record may change (R492). -/
def logging : List Part := telling ++ [.log]

/-- What the passing of time changes on its own (R391, R398, R461). -/
def passing : List Part := logging ++ [.clock, .xam, .tmr, .fl]

/-- What switching a channel, and the judging of what waits for it, may change. -/
def switching : List Part := logging ++ [.ch, .gates, .bus, .adm, .bat]

/-- What a change of mode may change. -/
def moding : List Part := switching ++ [.pw, .pf, .sys, .tin, .mb, .cnv, .acc, .shb, .fl, .nvs, .mode]

/-- What a restart may change. The fuses, the images, and the Xamir die are no part of it. -/
def starting : List Part := moding ++ [.inq, .grp, .met, .tmr, .token]

end Sys2Proof.Machine

namespace Sys2Proof

open Sys2Proof.Machine

/-- The parts of the state that a command may change. -/
def Instr.touches (i : Instr) : List Part :=
  match i with
  | .powerOn _ _ _ => starting ++ [.pwr]
  | .bootWindowExpiry => moding ++ [.met]
  | .tinSoldierHandshake => switching ++ [.freeCtr, .sys, .grp, .tin, .shb, .nvs]
  | .simplexStartTimeout => switching ++ [.freeCtr, .sys, .grp, .tin, .shb, .nvs]
  | .firmwareReady => moding
  | .resumption => moding
  | .nreset _ => starting ++ [.freeCtr, .pwr]
  | .supplyWarning => [.nvs, .pwr]
  | .supplyFail _ => [.sys, .tin, .shb, .nvs, .pwr]
  | .flushComplete _ => [.ch, .nvs, .log, .pwr, .gates]
  | .vinReturn _ => starting ++ [.pwr]
  | .railCollapse => starting ++ [.freeCtr, .pwr]
  | .dormantEnter => moding ++ [.tmr]
  | .wake _ _ => starting ++ passing
  | .spiWriteFrame _ => starting ++ [.freeCtr, .pwr]
  | .spiReadFrame _ => starting ++ [.freeCtr, .pwr]
  | .dualCs _ => [.link]
  | .hQdataWrite _ _ _ => starting ++ [.pwr]
  | .hQdataRead _ _ _ _ => [.freeCtr, .link, .outq, .deolo]
  | .hQdataRepeat _ _ _ => [.freeCtr, .link, .outq, .deolo]
  | .hDoorbell _ _ => starting ++ [.pwr]
  | .hDbOutClear _ _ _ => starting ++ [.pwr]
  | .hCollideClear _ _ _ => starting ++ [.pwr]
  | .hIrqStatusClear _ _ => starting ++ [.pwr]
  | .hIrqMaskWrite _ => starting ++ [.pwr]
  | .hLockAcquire _ => [.freeCtr, .link, .outq, .deolo]
  | .hLockRelease _ _ => starting ++ [.pwr]
  | .hReset _ _ => starting ++ [.pwr]
  | .hLinkErrRead _ => [.freeCtr, .link, .outq, .deolo]
  | .hOptimeLRead _ => [.freeCtr, .link, .outq, .deolo]
  | .hOptimeHRead _ => [.freeCtr, .link, .outq, .deolo]
  | .hRegWrite _ _ _ => starting ++ [.pwr]
  | .nirqPulseEnd => [.link]
  | .outboundPlace _ => telling
  | .fragmentTimeout _ => passing ++ [.inq]
  | .inboundCollision _ => telling ++ [.inq]
  | .inboundMalformed _ => telling ++ [.inq]
  | .sessionOpen _ => telling ++ [.freeCtr, .inq, .ch, .bus, .mb, .acc, .met, .adm, .bat, .gates]
  | .sessionAuth _ => switching ++ [.inq, .mb, .acc, .met]
  | .sessionClose _ => telling ++ [.inq, .ch, .bus, .mb, .acc, .met, .adm, .bat, .gates]
  | .echo _ => telling ++ [.inq]
  | .cancel _ => switching ++ [.inq, .mb, .acc, .met, .shb, .nvs]
  | .ntfSubscribe _ => telling ++ [.inq]
  | .paramRead _ => logging ++ [.inq, .tmr, .fl]
  | .paramWrite _ => starting ++ [.fuses]
  | .paramInfo _ => telling ++ [.inq]
  | .paramList _ => telling ++ [.inq]
  | .modeRequest _ => moding ++ [.inq]
  | .isolate _ => moding ++ [.inq]
  | .restore _ => moding ++ [.inq]
  | .groupCtrlReload _ => logging ++ [.inq, .grp]
  | .groupCtrlSelftest _ _ => logging ++ [.inq, .grp]
  | .opStartInrush _ => switching ++ [.inq]
  | .opStartFetTest _ => switching ++ [.inq]
  | .opStartCapTest _ => switching ++ [.inq]
  | .opStartDurTest _ => switching ++ [.inq]
  | .evtRead _ => telling ++ [.inq]
  | .evtClear _ => logging ++ [.inq]
  | .snapReadAcc _ => telling ++ [.inq, .acc]
  | .snapReadTrk _ => telling ++ [.inq, .acc]
  | .snapReadXamir _ => telling ++ [.inq, .xam, .met]
  | .chCtrlOpen _ => moding ++ [.inq]
  | .chCtrlClose _ => moding ++ [.inq]
  | .chCtrlArm _ => moding ++ [.inq]
  | .chCtrlDisarm _ => moding ++ [.inq]
  | .chCtrlClear _ => moding ++ [.inq]
  | .chCtrlPresence _ => moding ++ [.inq]
  | .sfkWrite _ => telling ++ [.inq, .tin]
  | .authLockoutEnd _ => passing
  | .sfkCommit _ _ => starting ++ [.fuses]
  | .sfkDrill _ _ => starting ++ [.fuses]
  | .cnvStart _ _ => starting ++ [.fuses]
  | .cnvUrgent _ _ => starting ++ [.fuses]
  | .calZero _ => starting ++ [.fuses]
  | .calFull _ => starting ++ [.fuses]
  | .calCompute _ => starting ++ [.fuses]
  | .calNominal _ => starting ++ [.fuses]
  | .calAbandon _ => starting ++ [.fuses]
  | .calDirectWrite _ _ _ => starting ++ [.fuses]
  | .accClear _ _ => starting ++ [.fuses]
  | .trkFreeze _ _ => starting ++ [.fuses]
  | .trkRelease _ _ => starting ++ [.fuses]
  | .tmrCtrlStart _ _ => starting ++ [.fuses]
  | .tmrCtrlStop _ _ => starting ++ [.fuses]
  | .tmrCtrlReset _ _ => starting ++ [.fuses]
  | .tmrCfgWrite _ _ _ => starting ++ [.fuses]
  | .tmrPeriodWrite _ _ _ => starting ++ [.fuses]
  | .tmrCmpWrite _ _ _ => starting ++ [.fuses]
  | .tmrCntWrite _ _ _ => starting ++ [.fuses]
  | .tmrCapcfgWrite _ _ _ => starting ++ [.fuses]
  | .tmrCapRead _ _ => logging ++ [.tmr, .fl]
  | .tmrCntLowRead _ _ => logging ++ [.tmr, .fl]
  | .ktValueWrite _ _ _ => starting ++ [.fuses]
  | .flStuckMsWrite _ _ _ => starting ++ [.fuses]
  | .updTakeover _ _ => starting ++ [.fuses]
  | .updConfirm _ _ => starting ++ [.fuses]
  | .updRollback _ _ => starting ++ [.fuses]
  | .metAuditSel _ _ => starting ++ [.fuses]
  | .logCursorWrite _ _ => starting ++ [.fuses]
  | .logStateRead _ => logging ++ [.tmr, .fl]
  | .bridgeStrobeInterrupt => moding
  | .acCrossing _ => moding ++ passing
  | .syncEdge _ => passing ++ [.mb]
  | .mainsLost _ => moding ++ passing
  | .syncLost => passing ++ [.mb]
  | .autoOnline => moding
  | .cutoffDormantTimeout => passing ++ [.sys]
  | .floatCriteriaMet _ => moding ++ passing
  | .endOfDischarge _ => moding ++ passing
  | .cutoffBatteryOpen => switching ++ passing ++ [.nvs]
  | .heartbeat _ _ _ _ => starting ++ [.freeCtr]
  | .heartbeatTimeout _ => starting ++ [.freeCtr]
  | .puppeteerRestartDone _ => telling ++ [.sys]
  | .surrender => moding ++ [.met]
  | .clkDisagree _ => moding ++ [.met]
  | .coreRail => moding ++ [.met, .pwr]
  | .marSilent _ => moding ++ [.met]
  | .keepUvOpen _ => switching
  | .safeOkSilent => logging ++ [.tin, .fl]
  | .xinLost => moding ++ [.met]
  | .xinReturned => [.sys]
  | .eccSingle _ => [.sys]
  | .eccDouble _ _ _ => starting ++ [.freeCtr]
  | .microcodeParity _ _ => logging ++ [.grp]
  | .drumParity _ => logging ++ [.mb]
  | .groupReloadDone _ _ => starting
  | .marionetteTick _ => moding ++ passing ++ [.grp]
  | .ocReflex _ _ => moding
  | .rcReflex _ => moding
  | .armedReflex _ => [.ch, .grp, .bus, .cnv, .acc, .gates]
  | .presenceFilter _ _ => moding ++ passing
  | .autoInrushFile _ => switching
  | .inrushFollowDone _ => [.ch, .gates]
  | .inrushComplete _ => moding
  | .inrushTimeout _ => moding ++ passing
  | .fetTestEnd _ => moding ++ passing
  | .lifeLeftDaily => logging ++ [.clock, .ch, .xam, .tmr]
  | .uvFilterExpiry _ => moding ++ passing
  | .overloadExpiry _ => moding ++ passing
  | .driveFault _ => moding ++ passing
  | .retryAttempt _ => moding ++ passing
  | .waitCleared _ => moding ++ passing
  | .retryCountReset _ => [.clock, .ch, .xam, .tmr]
  | .cycleBoundary _ => moding ++ passing ++ [.freeCtr, .grp, .met, .pwr]
  | .ntcValid _ => logging ++ [.cnv]
  | .dieCool => [.pwr]
  | .cappingEnd => telling ++ [.ch, .bus, .adm, .bat, .shb, .gates]
  | .peakSupportTimeout => switching ++ passing
  | .rectLeftSet _ => logging ++ [.shb]
  | .shedRestore => moding
  | .walkin _ => switching
  | .walkinEnd _ => switching ++ passing
  | .restReference _ => passing ++ [.bat, .nvs]
  | .rejoinTimeout _ => switching ++ passing
  | .stringStateWrite => passing ++ [.bat, .nvs]
  | .durTestTimeout => switching ++ passing ++ [.shb, .nvs]
  | .drumConvert _ => passing ++ [.freeCtr, .bus, .mb, .cnv, .acc, .bat, .shb]
  | .drumTrack _ => passing ++ [.freeCtr, .bus, .mb, .cnv, .acc, .bat, .shb]
  | .drumProbe _ => passing ++ [.freeCtr, .bus, .mb, .cnv, .acc, .bat, .shb]
  | .drumSetpoint _ => passing ++ [.freeCtr, .bus, .mb, .cnv, .acc, .bat, .shb]
  | .drumShed _ => passing ++ [.freeCtr, .bus, .mb, .cnv, .acc, .bat, .shb]
  | .drumSwitch _ => passing ++ [.freeCtr, .bus, .mb, .cnv, .acc, .bat, .shb]
  | .drumNotify _ => passing ++ [.freeCtr, .bus, .mb, .cnv, .acc, .bat, .shb]
  | .cnvTrigger _ _ _ => [.cnv]
  | .cnvTriggerDelayEnd _ _ => passing ++ [.cnv]
  | .urgentSequenceEnd _ => [.cnv]
  | .filterWindowEnd _ _ => passing ++ [.cnv, .acc]
  | .lpEntry _ => [.cnv]
  | .calCaptureEnd _ => [.cnv]
  | .calStored _ => logging ++ [.cnv, .nvs]
  | .trackerFreeze _ => passing ++ [.acc]
  | .xamirRead _ _ _ => [.xam]
  | .snapReq _ _ _ => [.xam]
  | .snapFetch _ _ _ => [.xam]
  | .snapshotSigned => telling ++ [.xam, .met]
  | .xamirRefresh => passing
  | .xamirStore _ => passing
  | .xamirPowerFail _ => telling ++ [.xam, .met]
  | .xamirPowerUp _ => telling ++ [.xam, .met]
  | .xamirRefLost => [.xam]
  | .xamirRefReturn => passing
  | .vmiss _ _ => passing
  | .sealOpen => [.xam]
  | .sealClose => [.xam]
  | .metroSignOn _ => [.xam]
  | .metroP1 => [.xam]
  | .metroR1Read _ => [.xam]
  | .metroW1Write _ _ => [.xam]
  | .metroCaptureEnd _ _ => passing
  | .metroTimeout => passing
  | .metCopy => passing ++ [.met]
  | .metPoll _ => passing ++ [.met]
  | .metCrossCheck => passing ++ [.met]
  | .tmrOvf _ => passing
  | .tmrTop _ => passing
  | .tmrMatch _ => passing
  | .tmrCapture _ => [.tmr]
  | .tmrReject _ => [.tmr]
  | .tmrStartEdge _ => [.tmr]
  | .ktAlarm _ => logging ++ [.tmr]
  | .flLevelChange _ _ => switching ++ [.shb, .fl, .nvs]
  | .flStuck _ => switching ++ passing ++ [.shb, .nvs]
  | .flReject _ => logging ++ [.fl]
  | .flOutputLimit _ => [.fl]
  | .flOutputResume _ => passing
  | .admWaitTimeout _ => switching ++ passing
  | .announce _ => logging ++ [.shb]
  | .status _ => logging ++ [.shb]
  | .reserve _ => logging ++ [.shb]
  | .clock _ => logging ++ [.shb]
  | .rectSet _ => logging ++ [.shb]
  | .rectStat _ => logging ++ [.shb]
  | .bmodStat _ => logging ++ [.shb]
  | .announceTimer => passing ++ [.shb]
  | .statusTimer => passing ++ [.shb]
  | .reserveTimer => passing ++ [.shb]
  | .clockTimer => passing ++ [.shb]
  | .peerTimeout _ => passing ++ [.shb]
  | .rectRatingTimeout _ => passing ++ [.shb]
  | .moduleAbsent _ _ => passing ++ [.shb]
  | .genBusRise => passing ++ [.shb]
  | .busOff _ => logging ++ [.shb]
  | .busOffRecovery _ => logging ++ [.shb]
  | .recordWrite _ => logging ++ [.cnv, .nvs]
  | .scrub _ _ => logging ++ [.freeCtr, .tin, .nvs]
  | .powerRecordTimer => passing ++ [.nvs]
  | .wearRecordTimer => passing ++ [.nvs]
  | .configRecordWrite _ => [.nvs]
  | .migrate => switching ++ [.nvs]
  | .logWrite => passing
  | .rateWindowEnd => passing
  | .dropSummary => logging
  | .svcEnRise => [.svc]
  | .svcEnFall => telling ++ [.ch, .bus, .mb, .acc, .met, .adm, .bat, .gates]
  | .svcFrameGap => []
  | .ping _ => [.svc]
  | .setBaud _ _ => [.svc]
  | .baudFallback => passing
  | .svcRestart _ _ => starting ++ [.pwr]
  | .regRead _ _ _ => [.link, .svc]
  | .regWrite _ _ _ => [.link, .svc]
  | .mbox _ _ => [.link, .inq, .svc]
  | .imgBegin _ _ _ => [.svc]
  | .imgData _ _ _ => [.svc, .images]
  | .imgEnd _ => [.svc]
  | .takeover _ _ => moding
  | .shadowBootDone => moding
  | .mirrorReady => [.sys, .tin, .svc]
  | .syncTimeout => moding ++ passing
  | .takeoverBoundary => moding ++ [.met, .token]
  | .confirm _ _ => [.nvs, .svc, .fuses]
  | .trialTimeout => passing ++ [.nvs, .fuses]
  | .rollback _ _ => starting
  | .dbgChallenge _ => [.freeCtr, .svc]
  | .dbgUnlock _ _ _ => switching
  | .dbgLock _ => [.svc]
  | .dbgRead _ _ _ => [.freeCtr, .svc]
  | .dbgHalt _ => [.freeCtr, .svc]
  | .dbgResume _ => [.svc]
  | .dbgStep _ => [.freeCtr, .svc]
  | .dbgWrite _ _ _ => [.svc]
  | .wearReset _ _ => [.ch, .nvs, .svc]
  | .supplyWarningEnd => [.pwr]
  | .coreRailInWindow => [.tin, .pwr]
  | .xamirSample _ => passing ++ [.freeCtr]
  | .xamirFrameRejected _ _ => [.freeCtr, .xam]
  | .sequencerResult _ _ => [.cnv, .acc]
  | .shbRxIgnored _ => logging ++ [.shb]
  | .svcFrameDiscarded => []
  | .svcUndefinedType _ _ => [.svc]
  | .undefinedOpcode _ => telling ++ [.inq]
  | .chCtrlReservedAction _ => telling ++ [.inq]
  | .opStartUndefinedCode _ => telling ++ [.inq]

end Sys2Proof
end

