-- ==== Sys2Proof/WellFormed.lean ====
section
/-! DEFINITION. Which commands are well formed: every operand lies in the range that the spec gives the field, the
frame or the message that carries it. The machine itself is total: it runs an ill-formed command by the same rules. -/

namespace Sys2Proof

/-- A voltage reported in mV in a 16-bit field. -/
def below16 (n : Nat) : Bool := decide (n < 65536)

/-- The failed channels and groups are bitmaps of 24 and of 4 bits (R42). -/
def SelfTest.wf (t : SelfTest) : Bool := decide (t.chFail < 2 ^ 24 ∧ t.grpFail < 2 ^ 4)

/-- The bytes of a memory of Table 1.4 (R29). -/
def EccMem.size : EccMem → Nat
  | .localA => 0x40000
  | .localB => 0x40000
  | .shared => 0x200000

/-- A rejected frame has a CMD of 4 bits that Table 13.4 does not define (R350). -/
def XifReject.wf : XifReject → Bool
  | .badCrc => true
  | .badCmd cmd => decide (cmd < 16 ∧ (cmd = 0 ∨ 4 ≤ cmd))
  | .badLength => true

/-- The reservoir and gate levels of a channel are reported in mV in 16-bit fields (R296). -/
def ChSense.wf (x : ChSense) : Bool := below16 x.pump && below16 x.gateA && below16 x.gateB

/-- The fields of a Share Bus identifier fit their bits, and the payload is one of CAN FD (R444, R446, Table 17.1). -/
def ShbFrame.fits (f : ShbFrame) : Bool :=
  decide (f.prio < 8 ∧ f.type < 256 ∧ f.dst < 256 ∧ f.src < 256 ∧ f.bytes.length ≤ 64)

/-- A good frame of a message carries that message's TYPE (Table 17.3). -/
def ShbFrame.wf (f : ShbFrame) (type : Nat) : Bool := f.fits && (!f.good || f.type == type)

/-- Every operand of a command lies in its range. -/
def Instr.wf (i : Instr) : Bool :=
  match i with
  | .powerOn _ holdMv test => below16 holdMv && test.wf
  | .supplyFail holdMv => below16 holdMv
  | .flushComplete holdMv => holdMv.all below16
  | .vinReturn holdMv => below16 holdMv
  | .wake _ test => test.wf
  | .spiWriteFrame f => decide (1 ≤ f.words.length ∧ f.words.length ≤ 64)
  | .hQdataWrite _ _ words => decide (1 ≤ words.length ∧ words.length ≤ 64)
  | .hQdataRead _ _ count _ => decide (1 ≤ count ∧ count ≤ 64)
  | .hQdataRepeat _ _ count => decide (1 ≤ count ∧ count ≤ 64)
  | .groupCtrlSelftest _ failed => decide (failed < 2 ^ 24)
  | .eccDouble m offset _ => decide (offset < m.size ∧ offset % 4 = 0)
  | .microcodeParity _ word => decide (word < 4096)
  | .marionetteTick inp => inp.ch.toList.all ChSense.wf
  | .cycleBoundary inp => below16 inp.holdMv
  | .xamirRead addr _ _ => decide (addr < 2 ^ 12)
  | .snapReq map _ _ => decide (map < 2 ^ 24)
  | .snapFetch ofs _ _ => decide (ofs < 2 ^ 12)
  | .vmiss _ meanMv => below16 meanMv
  | .metroSignOn baudCode => decide (baudCode < 10)
  | .announce f => f.wf 0x01
  | .status f => f.wf 0x10
  | .reserve f => f.wf 0x11
  | .clock f => f.wf 0x13
  | .rectSet f => f.wf 0x20
  | .rectStat f => f.wf 0x21
  | .bmodStat f => f.wf 0x30
  | .moduleAbsent _ addr => decide (0x80 ≤ addr ∧ addr ≤ 0xBF)
  | .scrub offset _ => decide (offset < 0x600000 ∧ offset % 4 = 0)
  | .configRecordWrite block => decide (block < 256)
  | .setBaud _ code => decide (code < 256)
  | .regRead _ first count => decide (first < 256 ∧ count < 256)
  | .regWrite _ addr _ => decide (addr < 256)
  | .mbox _ words => decide (1 ≤ words.length ∧ words.length ≤ 64)
  | .imgBegin _ _ total => decide (total < 2 ^ 32)
  | .imgData _ ofs data => decide (ofs < 2 ^ 32 ∧ data.length % 4 = 0 ∧ 4 ≤ data.length ∧ data.length ≤ 1024)
  | .dbgUnlock _ _ sig => decide (sig.length = 64)
  | .dbgRead _ addr count => decide (addr < 2 ^ 32 ∧ count < 2 ^ 32)
  | .dbgWrite _ addr words => decide (addr < 2 ^ 32 ∧ 1 ≤ words.length)
  | .wearReset _ channel => decide (channel < 256)
  | .xamirFrameRejected why _ => why.wf
  | .shbRxIgnored f => f.fits
  | .bootWindowExpiry | .tinSoldierHandshake | .simplexStartTimeout | .firmwareReady | .resumption | .nreset _
  | .supplyWarning | .railCollapse | .dormantEnter | .spiReadFrame _ | .dualCs _ | .hDoorbell _ _
  | .hDbOutClear _ _ _ | .hCollideClear _ _ _ | .hIrqStatusClear _ _ | .hIrqMaskWrite _ | .hLockAcquire _
  | .hLockRelease _ _ | .hReset _ _ | .hLinkErrRead _ | .hOptimeLRead _ | .hOptimeHRead _ | .hRegWrite _ _ _
  | .nirqPulseEnd | .outboundPlace _ | .fragmentTimeout _ | .inboundCollision _ | .inboundMalformed _
  | .sessionOpen _ | .sessionAuth _ | .sessionClose _ | .echo _ | .cancel _ | .ntfSubscribe _ | .paramRead _
  | .paramWrite _ | .paramInfo _ | .paramList _ | .modeRequest _ | .isolate _ | .restore _ | .groupCtrlReload _
  | .opStartInrush _ | .opStartFetTest _ | .opStartCapTest _ | .opStartDurTest _ | .evtRead _ | .evtClear _
  | .snapReadAcc _ | .snapReadTrk _ | .snapReadXamir _ | .chCtrlOpen _ | .chCtrlClose _ | .chCtrlArm _
  | .chCtrlDisarm _ | .chCtrlClear _ | .chCtrlPresence _ | .sfkWrite _ | .authLockoutEnd _ | .sfkCommit _ _
  | .sfkDrill _ _ | .cnvStart _ _ | .cnvUrgent _ _ | .calZero _ | .calFull _ | .calCompute _ | .calNominal _
  | .calAbandon _ | .calDirectWrite _ _ _ | .accClear _ _ | .trkFreeze _ _ | .trkRelease _ _ | .tmrCtrlStart _ _
  | .tmrCtrlStop _ _ | .tmrCtrlReset _ _ | .tmrCfgWrite _ _ _ | .tmrPeriodWrite _ _ _ | .tmrCmpWrite _ _ _
  | .tmrCntWrite _ _ _ | .tmrCapcfgWrite _ _ _ | .tmrCapRead _ _ | .tmrCntLowRead _ _ | .ktValueWrite _ _ _
  | .flStuckMsWrite _ _ _ | .updTakeover _ _ | .updConfirm _ _ | .updRollback _ _ | .metAuditSel _ _
  | .logCursorWrite _ _ | .logStateRead _ | .bridgeStrobeInterrupt | .acCrossing _ | .syncEdge _ | .mainsLost _
  | .syncLost | .autoOnline | .cutoffDormantTimeout | .floatCriteriaMet _ | .endOfDischarge _ | .cutoffBatteryOpen
  | .heartbeat _ _ _ _ | .heartbeatTimeout _ | .puppeteerRestartDone _ | .surrender | .clkDisagree _ | .coreRail
  | .marSilent _ | .keepUvOpen _ | .safeOkSilent | .xinLost | .xinReturned | .eccSingle _ | .drumParity _
  | .groupReloadDone _ _ | .ocReflex _ _ | .rcReflex _ | .armedReflex _ | .presenceFilter _ _ | .autoInrushFile _
  | .inrushFollowDone _ | .inrushComplete _ | .inrushTimeout _ | .fetTestEnd _ | .lifeLeftDaily | .uvFilterExpiry _
  | .overloadExpiry _ | .driveFault _ | .retryAttempt _ | .waitCleared _ | .retryCountReset _ | .ntcValid _
  | .dieCool | .cappingEnd | .peakSupportTimeout | .rectLeftSet _ | .shedRestore | .walkin _ | .walkinEnd _
  | .restReference _ | .rejoinTimeout _ | .stringStateWrite | .durTestTimeout | .drumConvert _ | .drumTrack _
  | .drumProbe _ | .drumSetpoint _ | .drumShed _ | .drumSwitch _ | .drumNotify _ | .cnvTrigger _ _ _
  | .cnvTriggerDelayEnd _ _ | .urgentSequenceEnd _ | .filterWindowEnd _ _ | .lpEntry _ | .calCaptureEnd _
  | .calStored _ | .trackerFreeze _ | .snapshotSigned | .xamirRefresh | .xamirStore _ | .xamirPowerFail _
  | .xamirPowerUp _ | .xamirRefLost | .xamirRefReturn | .sealOpen | .sealClose | .metroP1 | .metroR1Read _
  | .metroW1Write _ _ | .metroCaptureEnd _ _ | .metroTimeout | .metCopy | .metPoll _ | .metCrossCheck | .tmrOvf _
  | .tmrTop _ | .tmrMatch _ | .tmrCapture _ | .tmrReject _ | .tmrStartEdge _ | .ktAlarm _ | .flLevelChange _ _
  | .flStuck _ | .flReject _ | .flOutputLimit _ | .flOutputResume _ | .admWaitTimeout _ | .announceTimer
  | .statusTimer | .reserveTimer | .clockTimer | .peerTimeout _ | .rectRatingTimeout _ | .genBusRise | .busOff _
  | .busOffRecovery _ | .recordWrite _ | .powerRecordTimer | .wearRecordTimer | .migrate | .logWrite
  | .rateWindowEnd | .dropSummary | .svcEnRise | .svcEnFall | .svcFrameGap | .ping _ | .baudFallback
  | .svcRestart _ _ | .imgEnd _ | .takeover _ _ | .shadowBootDone | .mirrorReady | .syncTimeout | .takeoverBoundary
  | .confirm _ _ | .trialTimeout | .rollback _ _ | .dbgChallenge _ | .dbgLock _ | .dbgHalt _ | .dbgResume _
  | .dbgStep _ | .supplyWarningEnd | .coreRailInWindow | .xamirSample _ | .sequencerResult _ _ | .svcFrameDiscarded
  | .svcUndefinedType _ _ | .undefinedOpcode _ | .chCtrlReservedAction _ | .opStartUndefinedCode _ => true

end Sys2Proof
end

