-- ==== Sys2Proof/Certificates/Slice0/Obligations.lean ====
section
/-! DEFINITION. The statements for the provers: what the commands do, what they leave alone, and what holds of every one. -/

open Sys2Proof Sys2Proof.Machine

/-- While the link answers: a W1C write of H_IRQ_STATUS leaves bit k (k < 13) set iff an event sets it in the same
cycle or it stood and is not cleared; H_IRQ_MASK takes 13 bits; a doorbell offers every word of each queue 0 to 13
that it names (10 to 13 through CS_S alone); a W1C write of H_DB_OUT or H_COLLIDE clears the bits it may reach, and
the set wins; H_IRQ_CFG and H_SCRATCH take their fields; the end of a pulse releases nIRQ. Nothing else of the state
changes but the link (and the inbound queue for a doorbell or a cleared collision). Completes: hIrqStatusClear,
hIrqMaskWrite, hDoorbell, hDbOutClear, hCollideClear, hRegWrite, nirqPulseEnd. (R67, R74, R77, R80, R81, R91, R93,
R94) -/
def Obligations.RegisterWritesTakeEffect : Prop :=
  ∀ s : State, linkUp s = true →
    (∀ v w : Word, ∃ t, exec (.hIrqStatusClear v w) s = .next t ∧ SameBut [.link] s t ∧ t.link.result = 0 ∧
      ∀ k < 13, t.link.irqStatus.testBit k = (w.bit k || (s.link.irqStatus.testBit k && !v.bit k))) ∧
    (∀ v : Word, ∃ t, exec (.hIrqMaskWrite v) s = .next t ∧ SameBut [.link] s t ∧ t.link.irqMask = v.toNat % 2 ^ 13 ∧
      t.link.irqStatus = s.link.irqStatus) ∧
    (∀ (cs : Cs) (v : Word), ∃ t, exec (.hDoorbell cs v) s = .next t ∧ SameBut [.link, .inq] s t ∧
      ∀ n : Mb, (t.inq.get n).words = (s.inq.get n).words ∧
        (t.inq.get n).offered =
          if v.bit n.val = true ∧ n.val < 14 ∧ (cs = .s ∨ n.val < 10) then (s.inq.get n).words.length
          else (s.inq.get n).offered) ∧
    (∀ (cs : Cs) (v w : Word), ∃ t, exec (.hDbOutClear cs v w) s = .next t ∧ SameBut [.link] s t ∧
      ∀ k < 16, t.link.dbOut.testBit k =
        (w.bit k || (s.link.dbOut.testBit k && !(v.bit k && (cs == .s || k < 10 || 13 < k))))) ∧
    (∀ (cs : Cs) (v w : Word), ∃ t, exec (.hCollideClear cs v w) s = .next t ∧ SameBut [.link, .inq] s t ∧
      ∀ k < 32, t.link.collide.testBit k =
        (w.bit k || (s.link.collide.testBit k && !(v.bit k && (cs == .s || k % 16 < 10 || 13 < k % 16))))) ∧
    (∀ (cs : Cs) (v : Word), ∃ t, exec (.hRegWrite cs 0x36 v) s = .next t ∧ SameBut [.link] s t ∧ t.link.scratch = v) ∧
    (∀ (cs : Cs) (v : Word), ∃ t, exec (.hRegWrite cs 0x0D v) s = .next t ∧ SameBut [.link] s t ∧
      t.link.pulse = v.bit 1) ∧
    (∃ t, exec .nirqPulseEnd s = .next t ∧ t = { s with link := { s.link with pulseOut := false } })

/-- Through either select, while the link answers: a good read frame of one word of an address 0x37 to 0x3F drives the
status word and then 0 with the CRC of that word, and its result is OK; a register write there is OK and changes
nothing but what the frame drove and its result. Completes: spiReadFrame, hRegWrite. (R75) -/
def Obligations.ReservedAddressesReadZero : Prop :=
  ∀ (s : State) (cs : Cs) (a : Fin 64), linkUp s = true → 0x37 ≤ a.val →
    (∀ f : SpiRead, f.cs = cs → f.mode12 = false → headerBad f.header false = false → f.header.bit 31 = true →
      f.header.bit 30 = false → f.header.field 24 6 = a.val → f.header.field 16 7 = 0 → f.bits = 112 →
      exec (.spiReadFrame f) s = .next { s with link := { s.link with
        result := 0, miso := [statusWord s, 0], misoCrc := some (crc16 [0, 0, 0, 0]), misoBits := 112 } }) ∧
    (∀ v : Word, exec (.hRegWrite cs a v) s = .next { s with link := { s.link with
        result := 0, miso := [statusWord s], misoCrc := none, misoBits := 80 } })

/-- A read of the free lock returns 0 and marks it held by the reader; a read of the held lock returns the holder's
code and leaves it held; where both interfaces read the free lock in one core cycle, both return 0 and the SPI holds
it; a write of 0 by the holder frees it; any other value, or the other interface, leaves the lock as it is. (The lock
free after every start is not stated here.) The SPI's read of H_LINK_ERR returns the four counts and clears them, and
the bridge's read clears nothing; a read of H_OPTIME_L returns the low 32 bits of OPTIME and latches the high bits,
and a read of H_OPTIME_H returns the latched bits, else the live ones, and drops the latch. Completes: hLockAcquire,
hLockRelease, hLinkErrRead, hOptimeLRead, hOptimeHRead. (R77, R78, R82, R83, R517) -/
def Obligations.LockAndReadsWithASideEffect : Prop :=
  (∀ (s : State) (v : Word), linkUp s = true →
     (∃ t, exec (.hLockAcquire .spi) s = .next t ∧ SameBut [.link] s t ∧
       t.link.lock = some (s.link.lock.getD .spi) ∧
       t.link.miso = [statusWord s, match s.link.lock with | none => 0 | some .spi => 1 | some .bridge => 2]) ∧
     (bridgeUp s = true → ∃ t, exec (.hLockAcquire .bridge) s = .next t ∧
       t = { s with link := { s.link with
         lock := some (s.link.lock.getD .bridge)
         bridgeWord := match s.link.lock with | none => 0 | some .spi => 1 | some .bridge => 2 } }) ∧
     (bridgeUp s = true → s.link.lock = none → ∃ t, exec (.hLockAcquire .both) s = .next t ∧
       SameBut [.link] s t ∧ t.link.lock = some .spi ∧ t.link.miso = [statusWord s, 0] ∧ t.link.bridgeWord = 0) ∧
     (∃ t, exec (.hLockRelease .spi v) s = .next t ∧ SameBut [.link] s t ∧
       t.link.lock = if v.field 0 8 = 0 ∧ s.link.lock = some .spi then none else s.link.lock) ∧
     (bridgeUp s = true → ∃ t, exec (.hLockRelease .bridge v) s = .next t ∧
       t = { s with link := { s.link with
         lock := if v.field 0 8 = 0 ∧ s.link.lock = some .bridge then none else s.link.lock } })) ∧
  (∀ s : State, linkUp s = true →
     (∃ t, exec (.hLinkErrRead .spi) s = .next t ∧ SameBut [.link] s t ∧
       t.link.miso = [statusWord s, wd (s.link.errHdr * 2 ^ 24 + s.link.errData * 2 ^ 16 + s.link.errLen * 2 ^ 8 + s.link.errDen)] ∧
       t.link.errHdr = 0 ∧ t.link.errData = 0 ∧ t.link.errLen = 0 ∧ t.link.errDen = 0) ∧
     (bridgeUp s = true → exec (.hLinkErrRead .bridge) s = .next { s with link := { s.link with
       bridgeWord := wd (s.link.errHdr * 2 ^ 24 + s.link.errData * 2 ^ 16 + s.link.errLen * 2 ^ 8 + s.link.errDen) } }) ∧
     (s.sys.fwReady = true → ∃ t, exec (.hOptimeLRead .spi) s = .next t ∧ SameBut [.link] s t ∧
       t.link.miso = [statusWord s, wd (optime s)] ∧ t.link.optLatch = some (optime s / 2 ^ 32)) ∧
     (s.sys.fwReady = true → ∃ t, exec (.hOptimeHRead .spi) s = .next t ∧ SameBut [.link] s t ∧
       t.link.miso = [statusWord s, wd (s.link.optLatch.getD (optime s / 2 ^ 32))] ∧ t.link.optLatch = none) ∧
     (s.sys.fwReady = true → bridgeUp s = true →
       (∃ t, exec (.hOptimeLRead .bridge) s = .next t ∧ SameBut [.link] s t ∧
         t.link.optLatch = some (optime s / 2 ^ 32) ∧ t.link.bridgeWord = wd (optime s)) ∧
       ∃ t, exec (.hOptimeHRead .bridge) s = .next t ∧ SameBut [.link] s t ∧ t.link.optLatch = none ∧
         t.link.bridgeWord = wd (s.link.optLatch.getD (optime s / 2 ^ 32))))

/-- For a window that the select may reach and whose domain is powered: a burst that fits is appended to inbound queue
n and to no other; a clean read of `count` words that the queue holds returns them, takes them off outbound queue n
and keeps them as the burst; a read that does not end clean consumes nothing; a repeat returns the kept burst of its
own length and consumes nothing. Completes: hQdataWrite, hQdataRead, hQdataRepeat. (R67, R71, R72, R73, R87, R90) -/
def Obligations.MailboxWindowsMoveWords : Prop :=
  ∀ (s : State) (cs : Cs) (n : Mb), linkUp s = true → domainDown s n = false → (cs = .s ∨ n.val < 10) → n.val ≠ 14 → n.val ≠ 15 →
    (∀ ws : List Word, 1 ≤ ws.length → ws.length ≤ 64 → (s.inq.get n).words.length + ws.length ≤ 64 →
      ∃ t, exec (.hQdataWrite cs n ws) s = .next t ∧ SameBut [.link, .inq] s t ∧
        t.inq = vput s.inq n { s.inq.get n with words := (s.inq.get n).words ++ ws }) ∧
    (∀ count : Nat, 1 ≤ count → count ≤ 64 → count ≤ (s.outq.get n).words.length →
      (∃ t, exec (.hQdataRead cs n count true) s = .next t ∧ SameBut [.link, .outq, .deolo] s t ∧
        t.link.miso = statusWord s :: (s.outq.get n).words.take count ∧
        t.outq = vput s.outq n { words := (s.outq.get n).words.drop count, cons := ((s.outq.get n).cons + count) % 64,
                                 burst := some ((s.outq.get n).words.take count) }) ∧
      ∃ t, exec (.hQdataRead cs n count false) s = .next t ∧ SameBut [.link] s t) ∧
    (∀ b : List Word, (s.outq.get n).burst = some b → 1 ≤ b.length → b.length ≤ 64 →
      ∃ t, exec (.hQdataRepeat cs n b.length) s = .next t ∧ SameBut [.link] s t ∧ t.link.miso = statusWord s :: b)

/-- While the link answers: a write frame of one word with good CRCs that ends at its last bit does what the write of
that register does; one whose data CRC is wrong, or a second select that falls, changes nothing but the link's
registers, and the result and the address stand in H_LAST_ERR; a good read frame of H_SCRATCH returns the register's
value; the reset key is denied to CS_NS, and another word than the key changes nothing through CS_S. Completes:
spiWriteFrame, spiReadFrame, dualCs. (R64, R65, R66, R67, R68, R70, R72, R77) -/
def Obligations.SpiFramesCommitWholeOrNotAtAll : Prop :=
  ∀ s : State, linkUp s = true →
    (∀ f : SpiWrite, f.mode12 = false → headerBad f.header false = false → f.header.bit 31 = false → f.header.bit 30 = false →
      f.header.bit 23 = false → f.header.field 16 7 = 0 → f.bits = 80 →
      ∀ v : Word, f.words = [v] →
        (crc16 (wordsBytes [v.toNat]) = f.dcrc.toNat →
          exec (.spiWriteFrame f) s = exec (.hRegWrite f.cs ⟨f.header.field 24 6, Nat.mod_lt _ (by decide)⟩ v) s) ∧
        (crc16 (wordsBytes [v.toNat]) ≠ f.dcrc.toNat →
          ∃ t, exec (.spiWriteFrame f) s = .next t ∧ SameBut [.link] s t ∧ t.link.result = Res.DATA_CRC ∧
            t.link.lastErrResult = Res.DATA_CRC ∧ t.link.lastErrAddr = f.header.field 24 6 ∧
            t.link.errData = sat8 (s.link.errData + 1))) ∧
    (∀ f : SpiRead, f.mode12 = false → headerBad f.header false = false → f.header.bit 31 = true → f.header.bit 30 = false →
      f.header.field 24 6 = 0x36 → f.header.field 16 7 = 0 → f.bits = 112 →
      ∃ t, exec (.spiReadFrame f) s = .next t ∧ SameBut [.link] s t ∧ t.link.miso = [statusWord s, s.link.scratch]) ∧
    (∀ h : Option Word, ∃ t, exec (.dualCs h) s = .next t ∧ SameBut [.link] s t ∧ t.link.result = Res.DUAL_CS ∧
      t.link.lastErrResult = Res.DUAL_CS) ∧
    (∀ (v : Word) (b : Bool), ∃ t, exec (.hReset .ns ⟨v, b⟩) s = .next t ∧ SameBut [.link] s t ∧ t.link.lastErrResult = Res.DENIED) ∧
    (∀ (v : Word) (b : Bool), v ≠ 0x0000A5C3 → ∃ t, exec (.hReset .s ⟨v, b⟩) s = .next t ∧ SameBut [.link] s t ∧ t.link.result = 0)

/-- Before the first supply, after a collapse of the rails, and after an abandoned start: POWER_ON gives reset cause 1
where HOLD stands above its sense level and 0 elsewhere, takes HOLD's level, and enters RECOVERY where BOOTSEL is
high; with BOOTSEL low it enters RECOVERY where no bank passes, and elsewhere BOOT, with both Puppeteers running and A
active. In a machine that has power it does nothing. With the main domain running, not in DORMANT, RECOVERY or SAFE-
KEEP: nRESET low for 1 us, the key 0x0000A5C3 written to H_RESET through CS_S, and VIN's return with the flush done
and HOLD above its retention level are warm restarts into BOOT with the causes 3, 4 and 2, each counted. nRESET low
for 0.2 us does nothing. In SAFE-KEEP the pin and the key restart out of it with the causes 3 and 6, the overrides
standing; in RECOVERY both are a cold restart with cause 8, on which BOOTSEL high is RECOVERY again. VIN's return
while the flush runs restarts nothing. Completes: powerOn, nreset, hReset, vinReturn. (R40, R43, R45, R46, R51, R54,
R55, R77, R266, R267, R541, R587) -/
def Obligations.PowerOnStartsAndRestartsRestartTheHatan : Prop :=
  (∀ (s : State) (bootsel : Bool) (mv : Nat) (test : SelfTest),
     (s.sys.phase = .off ∨ s.sys.phase = .abandoned →
       ∃ t, exec (.powerOn bootsel mv test) s = .next t ∧ t.pwr.holdMv = mv ∧ t.pwr.vin = true ∧
         t.sys.resetCause = (if holdSense < mv then 1 else 0) ∧ t.sys.phase ≠ .off ∧ t.sys.phase ≠ .abandoned ∧
         (bootsel = true → t.sys.mode = .recovery) ∧
         (t.sys.mode = .recovery ∨
           t.sys.mode = .boot ∧ t.sys.active = .a ∧ t.sys.pupA.up = true ∧ t.sys.pupB.up = true)) ∧
     (s.sys.phase = .boot ∨ s.sys.phase = .run → exec (.powerOn bootsel mv test) s = .next s)) ∧
  (∀ s : State, s.sys.phase = .boot ∨ s.sys.phase = .run → s.sys.mode ≠ .dormant →
     (∀ (lowNs : Nat) (b : Bool),
       (lowNs ≤ 200 → exec (.nreset ⟨lowNs, b⟩) s = .next s) ∧
       (1000 ≤ lowNs →
         (s.sys.mode ≠ .recovery → s.sys.mode ≠ .safeKeep → ∃ t, exec (.nreset ⟨lowNs, b⟩) s = .next t ∧ t.sys.mode = .boot ∧
           t.sys.warm = true ∧ t.sys.resetCause = 3 ∧ t.sys.warmCount = sat32 (s.sys.warmCount + 1)) ∧
         (s.sys.mode = .safeKeep → ∃ t, exec (.nreset ⟨lowNs, b⟩) s = .next t ∧ t.sys.mode = .boot ∧ t.sys.warm = true ∧
           t.sys.resetCause = 3 ∧ t.tin.override = s.tin.override) ∧
         (s.sys.mode = .recovery → ∃ t, exec (.nreset ⟨lowNs, b⟩) s = .next t ∧ t.sys.warm = false ∧ t.sys.resetCause = 8 ∧
           t.sys.warmCount = 0 ∧ (b = true → t.sys.mode = .recovery)))) ∧
     (∀ b : Bool, s.tin.keyIgnored = false →
       (s.sys.mode ≠ .recovery → s.sys.mode ≠ .safeKeep → ∃ t, exec (.hReset .s ⟨0x0000A5C3, b⟩) s = .next t ∧
         t.sys.mode = .boot ∧ t.sys.warm = true ∧ t.sys.resetCause = 4 ∧ t.sys.warmCount = sat32 (s.sys.warmCount + 1) ∧
         t.link.result = 0) ∧
       (s.sys.mode = .safeKeep → ∃ t, exec (.hReset .s ⟨0x0000A5C3, b⟩) s = .next t ∧ t.sys.mode = .boot ∧ t.sys.warm = true ∧
         t.sys.resetCause = 6 ∧ t.tin.override = s.tin.override) ∧
       (s.sys.mode = .recovery → ∃ t, exec (.hReset .s ⟨0x0000A5C3, b⟩) s = .next t ∧ t.sys.warm = false ∧
         t.sys.resetCause = 8 ∧ (b = true → t.sys.mode = .recovery))) ∧
     (s.tin.keyIgnored = true → ∀ b : Bool, ∃ t, exec (.hReset .s ⟨0x0000A5C3, b⟩) s = .next t ∧ t.sys.mode = s.sys.mode ∧
       t.sys.resetCause = s.sys.resetCause ∧ t.sys.warmCount = s.sys.warmCount) ∧
     (∀ mv : Nat, s.pwr.vin = false →
       (s.nvs.flushing = true → ∃ t, exec (.vinReturn mv) s = .next t ∧ SameBut (.pwr :: logging) s t ∧ t.pwr.vin = true ∧
         t.pwr.fail = false ∧ t.pwr.holdMv = mv) ∧
       (s.nvs.flushing = false → holdRetention ≤ mv →
         ∃ t, exec (.vinReturn mv) s = .next t ∧ t.sys.mode = .boot ∧ t.sys.resetCause = 2 ∧ t.pwr.vin = true ∧
           t.pwr.fail = false ∧ t.pwr.holdMv = mv ∧ t.sys.warmCount = sat32 (s.sys.warmCount + 1))))

/-- An entry that is due in STANDBY with every channel open, or in CUTOFF, enters DORMANT with the firmware no longer
ready, both Puppeteers unpowered, the Share Bus silent and the span at 0. In DORMANT an enabled source wakes the Hatan
into BOOT with reset cause 7, a period of the mains being one of 40 Hz to 70 Hz and the keeping timers waking at the
first alarm; nRESET does too, and a source that is not enabled does nothing. Outside DORMANT an enabled source cancels
an entry that waits. Completes: dormantEnter, wake. (R34, R56, R60, R61, R291, R390, R392, R393) -/
def Obligations.DormantIsEnteredAndLeft : Prop :=
  ∀ s : State,
    (s.sys.dormDue = true → fwActs s = true →
      s.sys.mode = .cutoff ∨ s.sys.mode = .standby ∧ (∀ c, conducts s c = false) →
      ∃ t, exec .dormantEnter s = .next t ∧ t.sys.mode = .dormant ∧ t.sys.prevMode = s.sys.mode ∧ t.sys.dormDue = false ∧
        t.sys.fwReady = false ∧ t.sys.pupA.up = false ∧ t.sys.pupB.up = false ∧ t.tmr.span = 0 ∧ t.shb.live = false) ∧
    (∀ (src : WakeSrc) (test : SelfTest),
      (wakeEnabled s src = false → exec (.wake src test) s = .next s) ∧
      (wakeEnabled s src = true →
        (s.sys.mode = .dormant → (src = .keepingTimer → ktWakeIn s ≠ none) →
          ∃ t, exec (.wake src test) s = .next t ∧ t.sys.mode = .boot ∧ t.sys.resetCause = 7 ∧ t.sys.warm = true) ∧
        (s.sys.mode ≠ .dormant → s.sys.dormDue = true →
          ∃ t, exec (.wake src test) s = .next t ∧ t.sys.mode = s.sys.mode ∧ t.sys.dormDue = false ∧ t.sys.dormReq = none) ∧
        (s.sys.mode ≠ .dormant → s.sys.dormDue = false → exec (.wake src test) s = .next s))) ∧
    (s.sys.phase ≠ .off → s.sys.phase ≠ .abandoned → s.sys.mode = .dormant → ∀ (lowNs : Nat) (b : Bool), 1000 ≤ lowNs →
      ∃ t, exec (.nreset ⟨lowNs, b⟩) s = .next t ∧ t.sys.mode = .boot ∧ t.sys.resetCause = 7)

/-- With the main domain powered: SUPPLY_WARNING sets PWR's warning, counts an onset where none stood, and computes
the hold-up and the flush time on the latest sample of HOLD; no mode changes. SUPPLY_WARNING_END without a supply fail
clears it and counts nothing; during a supply fail it changes nothing. With the main domain unpowered neither changes
anything. With VIN standing: a supply fail out of a running mode counts, holds the queued writes outside the flush set
and begins the flush; one in a cold start is abandoned with every queued write dropped; one in DORMANT is only noted.
The end of a flush leaves it ended, with FLUSH newer exactly where no item failed. With VIN gone and no write under
way, the collapse of the rails takes the phase to off and every gate low, and leaves the records, the sheet and Xamir
as they are. Completes: supplyWarning, supplyWarningEnd, supplyFail, flushComplete, railCollapse. (R45, R480, R481,
R482, R485, R539, R540, R541, R546) -/
def Obligations.TheSupplyWarnsFailsFlushesAndCollapses : Prop :=
  (∀ s : State,
     (mainUp s = true →
       (∃ t, exec .supplyWarning s = .next t ∧ SameBut [.nvs, .pwr] s t ∧ t.pwr.warn = true ∧
         t.pwr.warnCount = (if s.pwr.warn = true then s.pwr.warnCount else sat32 (s.pwr.warnCount + 1)) ∧
         t.nvs = { s.nvs with holdT := holdTime s s.pwr.holdMv, flushUs := flushTime s }) ∧
       (s.pwr.fail = false → ∃ t, exec .supplyWarningEnd s = .next t ∧ SameBut [.pwr] s t ∧
         t.pwr = { s.pwr with warn := false }) ∧
       (s.pwr.fail = true → exec .supplyWarningEnd s = .next s)) ∧
     (mainUp s = false → exec .supplyWarning s = .next s ∧ exec .supplyWarningEnd s = .next s)) ∧
  (∀ s : State,
     (∀ mv : Nat, s.pwr.vin = true →
       (s.sys.mode ≠ .dormant → s.sys.phase = .run → s.sys.mode ≠ .recovery → anyPup s = true → s.svc.halted = false →
         ∃ t, exec (.supplyFail mv) s = .next t ∧ SameBut [.nvs, .pwr] s t ∧ t.pwr.vin = false ∧ t.pwr.fail = true ∧
           t.pwr.holdMv = mv ∧ t.pwr.failCount = sat32 (s.pwr.failCount + 1) ∧ t.nvs.flushing = true ∧ t.nvs.queue = [] ∧
           t.nvs.recs = s.nvs.recs ∧ ∀ p ∈ t.nvs.held, (p.rtype, p.inst) ∉ flushItems s) ∧
       (s.sys.mode ≠ .dormant → s.sys.phase = .boot → s.sys.warm = false →
         ∃ t, exec (.supplyFail mv) s = .next t ∧ SameBut [.sys, .tin, .shb, .nvs, .pwr] s t ∧ t.sys.phase = .abandoned ∧
           t.sys.pupA.up = false ∧ t.sys.pupB.up = false ∧ t.nvs.queue = [] ∧ t.nvs.recs = s.nvs.recs) ∧
       (s.sys.mode = .dormant → s.sys.phase = .run →
         exec (.supplyFail mv) s = .next { s with pwr := { s.pwr with vin := false } })) ∧
     (∀ mvs : List Nat, s.nvs.flushing = true → anyPup s = true →
       ∃ t, exec (.flushComplete mvs) s = .next t ∧ SameBut [.ch, .nvs, .log, .pwr] s t ∧ t.nvs.flushing = false ∧
         (t.nvs.flushBegun = none → t.nvs.flushNewer = true ∧ t.nvs.lastFlush = optime s)) ∧
     (s.sys.phase ≠ .off → s.pwr.vin = false → s.nvs.queue = [] →
       ∃ t, exec .railCollapse s = .next t ∧ t.sys.phase = .off ∧ t.gates = List.replicate 24 (.lowFull, .lowFull) ∧
         t.nvs.recs = s.nvs.recs ∧ t.nvs.journal = s.nvs.journal ∧ t.tin.lower = s.tin.lower ∧ t.tin.upper = s.tin.upper ∧
         t.xam = s.xam) ∧
     (s.sys.phase ≠ .off → s.pwr.vin = false →
       ∃ t, exec .railCollapse s = .next t ∧ t.sys.phase = .off ∧ t.gates = List.replicate 24 (.lowFull, .lowFull) ∧ t.xam = s.xam))

/-- While BOOT awaits the handshake: good beats of both Puppeteers, or of the active one when the start timeout
passes, where the self-test has run or its findings (free values, log 99, the model's choice) are none against the
memories or the handshake, arm the Tin Soldier, close the window, release the overrides, give the token back and
release the Share Bus ports, in simplex in the second case; such a finding leaves BOOT without a way out. A cold BOOT
that is done ends in COMMISSION without a valid configuration or where the start mode says so, else in STANDBY if no
channel conducts; a warm one ends in the first mode of the list of R49 whose condition holds. Both set the firmware's
ready bit. Completes: tinSoldierHandshake, simplexStartTimeout, firmwareReady, resumption. (R40, R42, R49, R56, R76,
R232, R264, R266, R462) -/
def Obligations.ABootEndsInTheModeThatItsRuleNames : Prop :=
  ∀ s : State,
    (awaitsHandshake s = true → s.sys.pupA.alive = true → s.sys.pupB.alive = true →
      (s.sys.tested = true →
        ∃ t, exec .tinSoldierHandshake s = .next t ∧ t.tin.armed = true ∧ t.tin.window = false ∧
          t.tin.override = false ∧ t.tin.token = true ∧ t.shb.live = true ∧ t.sys = s.sys) ∧
      (s.sys.tested = false →
        ∃ t, exec .tinSoldierHandshake s = .next t ∧
          t.sys = { s.sys with tested := true, bootStuck := (drawTest s).1.memFail || (drawTest s).1.handshakeFail } ∧
          (t.sys.bootStuck = true → t.tin.armed = s.tin.armed ∧ t.tin.window = s.tin.window ∧ t.tin.override = s.tin.override) ∧
          (t.sys.bootStuck = false → t.tin.armed = true ∧ t.tin.window = false ∧ t.tin.override = false ∧
            t.tin.token = true ∧ t.shb.live = true))) ∧
    (awaitsHandshake s = true → (s.sys.pup s.sys.active).alive = true →
      ((s.sys.pup (otherPup s.sys.active)).alive && (s.sys.pup (otherPup s.sys.active)).inStep) = false →
      ∃ t, exec .simplexStartTimeout s = .next t ∧ t.sys.active = s.sys.active ∧ t.sys.failoverCount = s.sys.failoverCount ∧
        (s.sys.tested = true → t.sys.bootStuck = false) ∧
        (t.sys.bootStuck = true → t.tin.armed = s.tin.armed ∧ t.tin.window = s.tin.window) ∧
        (t.sys.bootStuck = false → t.tin.armed = true ∧ t.tin.window = false ∧ t.tin.token = true ∧
          t.sys.simplex = true ∧ (t.sys.pup (otherPup s.sys.active)).up = false)) ∧
    (bootDone s = true → s.sys.warm = false →
      (s.sys.configValid = false ∨ pget s Prm.SYS_START_MODE = 1 →
        ∃ t, exec .firmwareReady s = .next t ∧ t.sys.mode = .commission ∧ t.sys.prevMode = .boot ∧ t.sys.fwReady = true) ∧
      (s.sys.configValid = true → pget s Prm.SYS_START_MODE ≠ 1 → (∀ c, conducts s c = false) →
        ∃ t, exec .firmwareReady s = .next t ∧ t.sys.mode = .standby ∧ t.sys.prevMode = .boot ∧ t.sys.fwReady = true)) ∧
    (bootDone s = true → s.sys.warm = true →
      (awaitsMeans s = true → exec .resumption s = .next s) ∧
      (awaitsMeans s = false →
        ∃ t, exec .resumption s = .next t ∧ t.sys.prevMode = .boot ∧ t.sys.fwReady = true ∧
          t.sys.mode =
            if s.sys.keptMode = .commission ∨ s.sys.configValid = false then .commission
            else if s.sys.keptMode = .dormant then .standby
            else if s.bus.strobe = true ∨ s.mb.mains = false ∧ (∃ c, roleOf s c = .battery ∧ conducts s c = true) then .bridge
            else if s.mb.mains = true ∧ failsFloat s = true then .recharge
            else if anyIso s = true then .maintain
            else if ∃ c, conducts s c = true then .online
            else .standby))

/-- In a mode from which the Tin Soldier acts: the surrender line of the running active Puppeteer is cause 4; an
expired window is cause 2, and the window of a restart out of SAFE-KEEP returns there with every gate as it was;
CLK_DISAGREE, CORE_RAIL and MAR_SILENT raise their flags of SFK.WATCH, which alone change nothing else but what they
report, and with another flag standing are cause 3; the flags clear when their conditions end. Completes: surrender,
bootWindowExpiry, clkDisagree, coreRail, coreRailInWindow, marSilent. (R44, R50, R247, R248, R249, R250, R251, R266,
R462) -/
def Obligations.TheTinSoldierTakesTheHatanToSafeKeep : Prop :=
  ∀ s : State, tinActs s = true → tinRuns s = true →
    ((s.sys.pup s.sys.active).up = true → ∃ t, exec .surrender s = .next t ∧ SafeKeepBy SfkCause.SURRENDER s t) ∧
    (s.tin.window = true → s.tin.override = false →
      ∃ t, exec .bootWindowExpiry s = .next t ∧ SafeKeepBy SfkCause.BOOT_WINDOW s t) ∧
    (s.tin.window = true → s.tin.override = true →
      ∃ t, exec .bootWindowExpiry s = .next t ∧ t.sys.mode = .safeKeep ∧ t.tin.cause = SfkCause.BOOT_WINDOW ∧
        t.tin.window = false ∧ t.gates = s.gates) ∧
    (twoFlags (setWatch Watch.CLK_DISAGREE s) = false →
      exec (.clkDisagree true) s = .next { s with tin := { s.tin with watch := s.tin.watch ||| 8 } }) ∧
    (twoFlags (setWatch Watch.CLK_DISAGREE s) = true →
      ∃ t, exec (.clkDisagree true) s = .next t ∧ SafeKeepBy SfkCause.SECOND_FAULT s t) ∧
    (∃ t, exec (.clkDisagree false) s = .next t ∧ SameBut [.tin] s t ∧ t.tin.watch.testBit Watch.CLK_DISAGREE = false) ∧
    (twoFlags (setWatch Watch.CORE_RAIL s) = false →
      ∃ t, exec .coreRail s = .next t ∧ SameBut [.tin, .pwr] s t ∧ t.tin.watch = s.tin.watch ||| 16 ∧ t.pwr.coreWin = true) ∧
    (twoFlags (setWatch Watch.CORE_RAIL s) = true →
      ∃ t, exec .coreRail s = .next t ∧ SafeKeepBy SfkCause.SECOND_FAULT s t ∧ t.pwr.coreWin = true) ∧
    (∃ t, exec .coreRailInWindow s = .next t ∧ SameBut [.tin, .pwr] s t ∧ t.pwr.coreWin = false ∧
      t.tin.watch.testBit Watch.CORE_RAIL = false) ∧
    (∀ g : Grp, s.cnv.on = true → (s.group g).reloading = false →
      (twoFlags (setWatch Watch.MAR_SILENT s) = false →
        exec (.marSilent g) s = .next { s with tin := { s.tin with watch := s.tin.watch ||| 32 } }) ∧
      (twoFlags (setWatch Watch.MAR_SILENT s) = true →
        ∃ t, exec (.marSilent g) s = .next t ∧ SafeKeepBy SfkCause.SECOND_FAULT s t))

/-- While the Tin Soldier runs: a beat with the next SEQ, 25 to 150 us after the one before it, is good and its
IN_STEP is taken; a beat that is not good, or none for 150 us, of a supervised Puppeteer raises its flag, resets it
and counts the failure, the third within 10 min barring it. A failed shadow leaves the other commanding in simplex; a
failed active one hands the token to a shadow in step, and without one the Tin Soldier takes SAFE-KEEP with cause 1. A
restarted Puppeteer comes back as a shadow in step, by the report of its mirror or by a good beat in step. Writes to
the configuration window are discarded and counted without the token. Completes: heartbeat, heartbeatTimeout,
puppeteerRestartDone. (R22, R23, R51, R52, R247, R248, R249, R250) -/
def Obligations.HeartbeatsSuperviseThePuppeteers : Prop :=
  ∀ (s : State) (p : Pup), tinRuns s = true →
    (∀ (seq : BitVec 4) (inStep : Bool) (dt writes : Nat), (s.sys.pup p).up = true → (s.sys.pup p).restarting = false →
      seq.toNat = ((s.sys.pup p).seq + 1) % 16 → 25000 ≤ dt → dt ≤ 150000 →
      ∃ t, exec (.heartbeat p seq inStep ⟨dt, writes⟩) s = .next t ∧ (t.sys.pup p).alive = true ∧ (t.sys.pup p).inStep = inStep ∧
        (t.sys.pup p).seq = seq.toNat ∧ (t.sys.pup p).watched = ((s.sys.pup p).watched || s.tin.armed) ∧
        (t.sys.pup p).discarded = (if holdsToken s p = true then (s.sys.pup p).discarded
          else sat32 ((s.sys.pup p).discarded + writes)) ∧
        (inStep = true → t.tin.watch.testBit (pupFlag p) = false) ∧ SameBut ([.sys, .tin] ++ logging) s t) ∧
    (∀ (seq : BitVec 4) (dt writes : Nat), (s.sys.pup p).restarting = true →
      seq.toNat = ((s.sys.pup p).seq + 1) % 16 → 25000 ≤ dt → dt ≤ 150000 →
      ∃ t, exec (.heartbeat p seq true ⟨dt, writes⟩) s = .next t ∧ (t.sys.pup p).up = true ∧ (t.sys.pup p).restarting = false ∧
        (t.sys.pup p).inStep = true ∧ t.tin.watch.testBit (pupFlag p) = false ∧ t.sys.active = s.sys.active ∧
        SameBut ([.sys, .tin] ++ logging) s t) ∧
    (∀ (seq : BitVec 4) (inStep : Bool) (dt writes : Nat), (s.sys.pup p).up = true →
      (seq.toNat = ((s.sys.pup p).seq + 1) % 16 ∧ 25000 ≤ dt ∧ dt ≤ 150000 → False) →
      exec (.heartbeat p seq inStep ⟨dt, writes⟩) s =
        exec (.heartbeatTimeout p) (modPup p (fun x => { x with seq := seq.toNat }) (windowWrites p writes s))) ∧
    ((s.sys.pup p).up = true → (s.sys.pup p).watched = true → s.svc.halted = false → s.sys.mode ≠ .safeKeep →
      (p ≠ s.sys.active → s.sys.mode ≠ .handover → twoFlags (setWatch (pupFlag p) s) = false →
        ∃ t, exec (.heartbeatTimeout p) s = .next t ∧ SameBut ([.sys, .tin] ++ logging) s t ∧ t.sys.active = s.sys.active ∧
          t.sys.modes = s.sys.modes ∧ (t.sys.pup p).up = false ∧ t.sys.simplex = true ∧
          t.sys.failoverCount = sat32 (s.sys.failoverCount + 1) ∧
          t.tin.watch.testBit (pupFlag p) = true ∧
          ((t.sys.pup p).restarting = true ↔
            (s.sys.pup p).barred = false ∧ ((s.sys.pup p).failTimes.filter fun u => s.clock < u + 600 * clkS).length < 2)) ∧
      (p = s.sys.active → tinActs s = true → shadowReady (setWatch (pupFlag p) s) p = false →
        ∃ t, exec (.heartbeatTimeout p) s = .next t ∧ SafeKeepBy SfkCause.SUPERVISION_LOST s t) ∧
      (p = s.sys.active → s.sys.mode ≠ .handover → shadowReady (setWatch (pupFlag p) s) p = true →
        twoFlags (setWatch (pupFlag p) s) = false → (runBank s).st ≠ Bst.TRIAL →
        ∃ t, exec (.heartbeatTimeout p) s = .next t ∧ t.sys.active = otherPup p ∧ t.sys.modes = s.sys.modes ∧
          t.sys.failoverCount = sat32 (s.sys.failoverCount + 1) ∧ t.tin.watch.testBit (pupFlag p) = true)) ∧
    ((s.sys.pup p).restarting = true →
      ∃ t, exec (.puppeteerRestartDone p) s = .next t ∧ SameBut (.sys :: logging) s t ∧ t.sys.active = s.sys.active ∧
        (t.sys.pup p).up = true ∧ (t.sys.pup p).restarting = false ∧ (t.sys.pup p).inStep = true ∧
        (t.sys.pup p).watched = (s.sys.pup p).watched ∧ t.sys.simplex = !(s.sys.pup (otherPup p)).up)

/-- With the main domain running: a corrected error adds 1 to its memory's counter; a double-bit error of the shared
SRAM is recorded, and one that cannot be rebuilt is a surrender; a double-bit error in the shadow's memory restarts it
and leaves the token; a microcode parity error counts and reloads its group alone; a drum parity error skips its entry
and counts. A lost XIN sets CLK_FAULT and its flag, the return waits for a boundary; a SAFE_OK that is silent is
marked once; a kept channel whose UV stands opens with the sheet's pull-down. Completes: eccSingle, eccDouble,
microcodeParity, drumParity, xinLost, xinReturned, safeOkSilent, keepUvOpen. (R27, R30, R31, R253, R256, R289) -/
def Obligations.ErrorsOfMemoriesAndClocksAreTakenAsTheirRulesSay : Prop :=
  ∀ s : State, tinRuns s = true →
    (∃ t, exec (.eccSingle .localA) s = .next t ∧ t = { s with sys := { s.sys with eccA := sat32 (s.sys.eccA + 1) } }) ∧
    (∃ t, exec (.eccSingle .localB) s = .next t ∧ t = { s with sys := { s.sys with eccB := sat32 (s.sys.eccB + 1) } }) ∧
    (∃ t, exec (.eccSingle .shared) s = .next t ∧ t = { s with sys := { s.sys with eccShared := sat32 (s.sys.eccShared + 1) } }) ∧
    (∀ offset : Nat,
      (∃ t, exec (.eccDouble .shared offset true) s = .next t ∧ SameBut logging s t) ∧
      (tinActs s = true → (s.sys.pup s.sys.active).up = true →
        ∃ t, exec (.eccDouble .shared offset false) s = .next t ∧ SafeKeepBy SfkCause.SURRENDER s t) ∧
      (s.sys.active = .a → s.sys.pupB.up = true → s.sys.mode ≠ .handover → ∀ r : Bool,
        ∃ t, exec (.eccDouble .localB offset r) s = .next t ∧ SameBut [.sys] s t ∧ t.sys.active = .a ∧
          t.sys.pupB.up = false ∧ t.sys.pupB.restarting = !s.sys.pupB.barred ∧ t.sys.simplex = true)) ∧
    (s.cnv.on = true → (∀ (g : Grp) (word : Nat), ∃ t, exec (.microcodeParity g word) s = .next t ∧
        SameBut (.grp :: logging) s t ∧ (t.group g).reloading = true ∧ (t.group g).parity = sat32 ((s.group g).parity + 1) ∧
        ∀ h, h ≠ g → t.group h = s.group h) ∧
      ∀ e : Fin 256, ∃ t, exec (.drumParity e) s = .next t ∧ SameBut (.mb :: logging) s t ∧ e ∈ t.mb.skip ∧
        t.mb.parityCount = sat32 (s.mb.parityCount + 1) ∧ ∀ f ∈ s.mb.skip, f ∈ t.mb.skip) ∧
    (s.sys.clkFault = false → twoFlags (setWatch Watch.XIN_LOST s) = false →
      ∃ t, exec .xinLost s = .next t ∧ SameBut ([.sys, .tin] ++ logging) s t ∧ t.sys.clkFault = true ∧
        t.tin.watch = s.tin.watch ||| 4) ∧
    (s.sys.clkFault = true → ∃ t, exec .xinReturned s = .next t ∧ t = { s with sys := { s.sys with xinBack := true } }) ∧
    (s.tin.checked = true → s.tin.token = true → (s.sys.pup s.sys.active).up = true → s.tin.silent = false →
      ∃ t, exec .safeOkSilent s = .next t ∧ SameBut ([.tin, .fl] ++ logging) s t ∧ t.tin = { s.tin with silent := true }) ∧
    (∀ c : Ch, s.tin.override = true → (s.chan c).keep = true → (s.chan c).st.conducts = true → (s.tin.keep.get c).uv ≠ 0 →
      (s.chan c).inr = none → (∀ o ∈ s.adm.queue ++ s.adm.grants, ¬(o.code = Opn.WALKIN ∧ o.ch = some c)) →
      ∃ t, exec (.keepUvOpen c) s = .next t ∧ (t.chan c).keep = false ∧ conducts t c = false ∧ (t.chan c).gateA.isLow = true)

/-- For a command that waits alone: SESSION_OPEN opens a session at the highest version of both, open at once below
channel 10 and with a nonce of four words from there on, answers 0x01000203 with ST_VERSION without a common version,
and ST_AUTH to a channel locked out; SESSION_AUTH with the right MAC, under the key that stood when the session was
opened, makes the session secure and open, and with another ends it and counts the failure; SESSION_CLOSE ends the
session; NTF_SUBSCRIBE puts the mask and returns the one before; CANCEL aborts a command that has not begun; the
lockout ends with its failures forgotten. Completes: sessionOpen, sessionAuth, sessionClose, ntfSubscribe, cancel,
authLockoutEnd. (R103, R104, R106, R107, R108, R109, R111, R112) -/
def Obligations.SessionsOpenAreProvedAndEnd : Prop :=
  ∀ (s : State) (n : Mb) (tag : Nat),
    (∀ w : Word, Calm n 0x01 tag [w] s → sessionGate s n 0x01 = none →
      (∀ v ∈ versions, w.field 16 16 ≤ v → v ≤ w.field 0 16 →
        (∀ u ∈ versions, w.field 16 16 ≤ u → u ≤ w.field 0 16 → u ≤ v) → s.deolo.lockout.get n = false →
        n.val < 10 ∨ s.deolo.keySet = true →
        ∃ t x, exec (.sessionOpen n) s = .next t ∧ session? t n = some x ∧ x.ver = v ∧ x.secure = false ∧
          x.isOpen = decide (n.val < 10) ∧ x.mask = 0xFFFF ∧ (10 ≤ n.val → ∃ k, x.nonce = some k ∧ k.length = 4)) ∧
      (session? s n = none → (∀ u ∈ versions, w.field 16 16 ≤ u → w.field 0 16 < u) →
        ∃ t, exec (.sessionOpen n) s = .next t ∧ session? t n = none ∧
          (t.outq.get n).words = message 0x01 tag 1 St.VERSION [0x01000203]) ∧
      (session? s n = none → (∃ u ∈ versions, w.field 16 16 ≤ u ∧ u ≤ w.field 0 16) → s.deolo.lockout.get n = true →
        ∃ t, exec (.sessionOpen n) s = .next t ∧ session? t n = none ∧
          (t.outq.get n).words = message 0x01 tag 1 St.AUTH [])) ∧
    (∀ (body nonce : List Word) (key : List Nat) (x : Session), Calm n 0x02 tag body s → sessionGate s n 0x02 = none →
      body.length = 8 → session? s n = some x → x.nonce = some nonce → x.key = some key →
      (wordsBytes (body.map BitVec.toNat) = authMac key n nonce x.ver →
        ∃ t, exec (.sessionAuth n) s = .next t ∧ session? t n = some { x with secure := true, isOpen := true } ∧
          (t.outq.get n).words = message 0x02 tag 1 St.OK []) ∧
      (wordsBytes (body.map BitVec.toNat) ≠ authMac key n nonce x.ver →
        ∃ t, exec (.sessionAuth n) s = .next t ∧ session? t n = none ∧
          t.deolo.authFails = sat32 (s.deolo.authFails + 1))) ∧
    (Calm n 0x03 tag [] s → sessionGate s n 0x03 = none →
      ∃ t, exec (.sessionClose n) s = .next t ∧ session? t n = none ∧ (t.outq.get n).words = message 0x03 tag 1 St.OK []) ∧
    (∀ (w : Word) (x : Session), Calm n 0x06 tag [w] s → sessionGate s n 0x06 = none → session? s n = some x →
      ∃ t, exec (.ntfSubscribe n) s = .next t ∧ session? t n = some { x with mask := w.field 0 16 } ∧
        (t.outq.get n).words = message 0x06 tag 1 St.OK [wd x.mask]) ∧
    (∀ (e : TagEnt) (w : Word) (x : Session), Calm n 0x05 tag [w] { s with deolo := { s.deolo with tags := [] } } →
      sessionGate s n 0x05 = none → session? s n = some x → 0x0200 ≤ x.ver → s.deolo.tags = [e] → e.chan = n →
      e.tag = w.field 0 9 → e.tag ≠ tag → x.since ≤ e.id → e.id < s.deolo.nextId → e.begun = false → e.done = false →
      e.out = [] → e.left = none → (∀ o ∈ s.adm.queue, o.tag ≠ some e.id) →
      ∃ t, exec (.cancel n) s = .next t ∧
        (t.outq.get n).words = message e.op e.tag 1 St.ABORTED [] ++ message 0x05 tag 1 St.OK []) ∧
    (s.deolo.lockout.get n = true →
      ∃ t, exec (.authLockoutEnd n) s = .next t ∧ t.deolo.lockout.get n = false ∧ t.deolo.authTimes.get n = [])

/-- For a command that waits alone in a session that may give it, the outbound queue holds exactly its completion:
ECHO the same words; PARAM_INFO the seven words of the row or ST_BAD_ID; PARAM_LIST the IDs in use from the first one
on; PARAM_READ of an ID that no row has a descriptor with ST_BAD_ID; PARAM_WRITE that names none the failing item,
with nothing written; an opcode that the version does not define ST_VERSION; a reserved CH_CTRL action and an
undefined OP_START code ST_RANGE, after the checks of mode and isolation. But for the queues and the link nothing
changes. Completes: echo, paramInfo, paramList, paramRead, paramWrite, undefinedOpcode, chCtrlReservedAction,
opStartUndefinedCode. (R96, R98, R118, R121, R157, R406, R581) -/
def Obligations.QueriesAndBadCommandsAreAnsweredAtOnce : Prop :=
  ∀ (s : State) (n : Mb) (tag : Nat) (body : List Word),
    (Calm n 0x04 tag body s → sessionGate s n 0x04 = none →
      ∃ t, exec (.echo n) s = .next t ∧ SameBut [.inq, .outq, .deolo, .link] s t ∧
        (t.outq.get n).words = message 0x04 tag 1 St.OK body) ∧
    (∀ w : Word, body = [w] → Calm n 0x12 tag body s → sessionGate s n 0x12 = none →
      ∃ t, exec (.paramInfo n) s = .next t ∧ SameBut [.inq, .outq, .deolo, .link] s t ∧
        (t.outq.get n).words = match paramRow (w.field 16 16) with
          | some r => message 0x12 tag 1 St.OK (infoWords (w.field 16 16) r)
          | none => message 0x12 tag 1 St.BAD_ID []) ∧
    (∀ w : Word, body = [w] → Calm n 0x13 tag body s → sessionGate s n 0x13 = none →
      ∃ t, exec (.paramList n) s = .next t ∧ SameBut [.inq, .outq, .deolo, .link] s t ∧
        (t.outq.get n).words = message 0x13 tag 1 St.OK
          (wd (((idsFrom (w.field 16 16)).drop 60).headD 0xFFFF * 2 ^ 16 + ((idsFrom (w.field 16 16)).take 60).length) ::
            pairIds ((idsFrom (w.field 16 16)).take 60))) ∧
    (∀ w : Word, body = [w] → w.field 0 4 = 0 → Calm n 0x10 tag body s → sessionGate s n 0x10 = none →
      (paramRow (w.field 16 16) = none →
        ∃ t, exec (.paramRead n) s = .next t ∧ SameBut [.inq, .outq, .deolo, .link] s t ∧
          (t.outq.get n).words = message 0x10 tag 1 St.BAD_ID [descriptor (w.field 16 16) St.BAD_ID (w.field 4 4) 0]) ∧
      (∀ r, paramRow (w.field 16 16) = some r →
        ∃ t, exec (.paramRead n) s = .next t ∧
          (t.outq.get n).words = message 0x10 tag 1 St.OK
            (descriptor (w.field 16 16) St.OK r.ty.code r.ty.nwords ::
              valueWords r.ty (readParam n (w.field 16 16) (enterTag n tag 0x10 false { s with inq := t.inq })).1))) ∧
    (Calm n 0x11 tag body s → sessionGate s n 0x11 = none →
      (writeItemsOf body = none → ∃ t, exec (.paramWrite n) s = .next t ∧ SameBut [.inq, .outq, .deolo, .link] s t ∧
        (t.outq.get n).words = message 0x11 tag 1 St.RANGE [0xFFFF0000]) ∧
      (∀ id v r, writeItemsOf body = some [itemOf id v] → paramRow id = some r → r.eff = .cyc → isStored id = true →
        writeFault s n [itemOf id v] = none →
        ∃ t, exec (.paramWrite n) s = .next t ∧ pgetW t id = (itemOf id v).value ∧ pget t id = pget s id)) ∧
    (∀ op : Nat, Calm n op tag body s → opDefined s n op = false →
      ∃ t, exec (.undefinedOpcode n) s = .next t ∧ SameBut [.inq, .outq, .deolo, .link] s t ∧
        (t.outq.get n).words = message op tag 1 St.VERSION []) ∧
    (∀ w : Word, body = [w] → w.field 24 8 = 0 ∨ 6 < w.field 24 8 → Calm n 0x60 tag body s → sessionGate s n 0x60 = none →
      s.sys.mode ∈ [Mode.commission, .standby, .online, .recharge, .maintain, .bridge, .cutoff] →
      ∃ t, exec (.chCtrlReservedAction n) s = .next t ∧ SameBut [.inq, .outq, .deolo, .link] s t ∧
        (t.outq.get n).words = message 0x60 tag 1
          (if (chNamed (chWord w)).any (isolated s) = true then St.DOMAIN_DOWN else St.RANGE) [0]) ∧
    (∀ (w : Word) (l : List Word), body = w :: l → w.field 24 8 < 1 ∨ 4 < w.field 24 8 → Calm n 0x30 tag body s →
      sessionGate s n 0x30 = none →
      s.sys.mode ∈ [Mode.commission, .standby, .online, .recharge, .maintain, .bridge, .cutoff] →
      ∃ t, exec (.opStartUndefinedCode n) s = .next t ∧ SameBut [.inq, .outq, .deolo, .link] s t ∧
        (t.outq.get n).words = message 0x30 tag 1
          (if (chNamed (chWord w)).any (isolated s) = true then St.DOMAIN_DOWN else St.RANGE) [wd (w.field 24 8 * 2 ^ 24)])

/-- While the firmware takes commands on a channel below 15 whose domain is powered: the timeout of a fragment,
HIF.FRAG_TIMEOUT_MS after its first word was offered, drops its offered words, a collision drops the message that
holds the damaged slot and every word after it, and a header of another class or with a status is skipped with its
words; each is counted in HIF.INBOUND_LOST. Room in the outbound queue places the completion that waits. Completes:
fragmentTimeout, inboundCollision, inboundMalformed, outboundPlace. (R92, R93, R96, R97, R113) -/
def Obligations.DamagedInboundWordsAreDroppedAndReported : Prop :=
  ∀ (s : State) (n : Mb), firmwareTakes s = true → domainDown s n = false → n ≠ 15 →
    (∀ h l, (s.inq.get n).words = h :: l → (s.inq.get n).fragAt ≠ none → 0 < takeable (s.inq.get n) → takeable (s.inq.get n) < h.field 10 5 + 1 →
      ∃ t, exec (.fragmentTimeout n) s = .next t ∧ SameBut (.inq :: passing) s t ∧
        (t.inq.get n).words = (h :: l).drop (takeable (s.inq.get n)) ∧
        t.deolo.inboundLost = sat32 (s.deolo.inboundLost + 1)) ∧
    (∀ h before, (s.inq.get n).damaged = true → s.link.collide.testBit n.val = true →
      messageAt 64 (s.inq.get n).words 0 (s.inq.get n).sound = some (h, before) →
      ∃ t, exec (.inboundCollision n) s = .next t ∧ SameBut (.inq :: telling) s t ∧
        (t.inq.get n).words = (s.inq.get n).words.take before ∧ (t.inq.get n).damaged = false ∧
        t.deolo.inboundLost = sat32 (s.deolo.inboundLost + 1)) ∧
    (∀ h body, headMsg s n = some (h, body) → h.field 8 2 ≠ 0 ∨ h.field 0 8 ≠ 0 →
      ∃ t, exec (.inboundMalformed n) s = .next t ∧ SameBut (.inq :: telling) s t ∧
        (t.inq.get n).words = (s.inq.get n).words.drop (body.length + 1) ∧
        t.deolo.inboundLost = sat32 (s.deolo.inboundLost + 1)) ∧
    (∀ e m, s.deolo.tags = [e] → e.chan = n → e.left = none → e.done = true → e.out = [m] → session? s n = none →
      n ≠ 14 → m.length + (s.outq.get n).words.length ≤ 64 →
      ∃ t, exec (.outboundPlace n) s = .next t ∧ SameBut [.link, .outq, .deolo] s t ∧
        (t.outq.get n).words = (s.outq.get n).words ++ m)

/-- For a command that waits alone, with no strobe latched: a request whose transition stands and is secure where it
must be enters STANDBY, COMMISSION or ONLINE; into DORMANT it waits; a black start enters BRIDGE or, with no string
left, CUTOFF; a request that does not hold is answered with the two modes and changes nothing, with ST_BUSY in
HANDOVER. ISOLATE adds the named channels that are not disabled and makes the mode MAINTAIN; RESTORE takes the named
ones away. GROUP_CTRL reloads a group and takes one that fails its test out of service; SFK_WRITE stages its unit.
Completes: modeRequest, isolate, restore, groupCtrlReload, groupCtrlSelftest, sfkWrite. (R34, R35, R46, R61, R118,
R212, R262, R584, R585, R586) -/
def Obligations.TheHostChangesModesAndIsolates : Prop :=
  ∀ (s : State) (n : Mb) (tag : Nat) (w : Word), s.bus.strobe = false →
    (Calm n 0x20 tag [w] s → sessionGate s n 0x20 = none → s.sys.mode ≠ .handover →
      requestSecure s (w.field 0 4) = false ∨ secureOn s n = true →
      (requestHolds s (w.field 0 4) = true →
        (w.field 0 4 ≠ Mode.bridge.code → w.field 0 4 ≠ Mode.dormant.code → s.sys.mode = .commission ∨ standbyWaits s = false →
          ∃ t, exec (.modeRequest n) s = .next t ∧ t.sys.mode.code = w.field 0 4 ∧ t.sys.prevMode = s.sys.mode) ∧
        (w.field 0 4 = Mode.bridge.code →
          ∃ t, exec (.modeRequest n) s = .next t ∧ (t.sys.mode = .bridge ∨ t.sys.mode = .cutoff)) ∧
        (w.field 0 4 = Mode.dormant.code →
          ∃ t, exec (.modeRequest n) s = .next t ∧ t.sys.dormDue = true ∧ t.sys.modes = s.sys.modes ∧
            SameBut [.inq, .deolo, .sys] s t)) ∧
      (requestHolds s (w.field 0 4) = false →
        ∃ t, exec (.modeRequest n) s = .next t ∧ SameBut [.inq, .outq, .deolo, .link] s t ∧
          (t.outq.get n).words = message 0x20 tag 1 St.MODE [wd (s.sys.mode.code * 16 + s.sys.mode.code)])) ∧
    (Calm n 0x20 tag [w] s → sessionGate s n 0x20 = none → s.sys.mode = .handover →
      ∃ t, exec (.modeRequest n) s = .next t ∧ SameBut [.inq, .outq, .deolo, .link] s t ∧
        (t.outq.get n).words = message 0x20 tag 1 St.BUSY [wd (8 * 16 + 8)]) ∧
    (Calm n 0x21 tag [w] s → sessionGate s n 0x21 = none → w.bit 31 = false → s.sys.mode = .online ∨ s.sys.mode = .maintain →
      fireOn s = false → (∃ c : Ch, w.bit c.val = true ∧ (s.chan c).st ≠ .disabled) →
      ∃ t, exec (.isolate n) s = .next t ∧ t.sys.mode = .maintain ∧ (∀ g, g ∈ t.sys.isoGrp ↔ g ∈ s.sys.isoGrp) ∧
        ∀ c : Ch, c ∈ t.sys.isoCh ↔ c ∈ s.sys.isoCh ∨ w.bit c.val = true ∧ (s.chan c).st ≠ .disabled) ∧
    (Calm n 0x22 tag [w] s → sessionGate s n 0x22 = none → w.bit 31 = false →
      s.sys.mode ∈ [Mode.online, .maintain, .standby, .commission] →
      ∃ t, exec (.restore n) s = .next t ∧ t.sys.isoGrp = s.sys.isoGrp ∧
        ∀ c : Ch, c ∈ t.sys.isoCh ↔ c ∈ s.sys.isoCh ∧ w.bit c.val = false) ∧
    (∀ (g : Grp) (failed : Nat), Calm n 0x23 tag [w] s → sessionGate s n 0x23 = none → grpNamed (w.field 0 4) = [g] →
      s.sys.mode ≠ .handover → s.sys.mode ≠ .safeKeep → s.svc.reloads = [] →
      (∀ k, (s.group k).reloading = false ∧ (s.group k).ctrl = none) →
      (w.field 28 4 = 1 → ∃ t, exec (.groupCtrlReload n) s = .next t ∧ SameBut [.inq, .deolo, .grp, .svc] s t ∧
        (t.group g).reloading = true ∧ (t.group g).oos = (s.group g).oos ∧ ∀ k, k ≠ g → t.group k = s.group k) ∧
      (w.field 28 4 = 2 → ∃ t, exec (.groupCtrlSelftest n failed) s = .next t ∧ SameBut ([.inq, .grp] ++ logging) s t ∧
        (t.group g).reloading = true ∧ (t.group g).oos = failed.testBit g.val ∧ ∀ k, k ≠ g → t.group k = s.group k)) ∧
    (∀ (u : Fin 3) (l : List Word), Calm n 0x70 tag (w :: l) s → sessionGate s n 0x70 = none → secureOn s n = true →
      s.sys.mode = .commission → w.field 16 16 = u.val → l.length = 30 →
      ∃ t, exec (.sfkWrite n) s = .next t ∧ SameBut [.inq, .outq, .deolo, .link, .tin] s t ∧ t.tin.staged.get u = some l ∧
        (t.outq.get n).words = message 0x70 tag 1 St.OK [])

/-- For a command of one named channel that stands still and is not isolated, in a mode of its row: OPEN opens a
conducting channel with its gates low; CLOSE closes one whose sides are equal into its role's closed state and counts
the closure; ARM and DISARM move a BATTERY channel between ON and ARMED; CLEAR ends an accepted latch; PRESENCE
restarts the detection. OP_START of an inrush leaves the channel waiting with a token or in the queue, or OPEN with
the refusal counted, as decided; a FET_TEST and a battery test are decided too. Completes: chCtrlOpen, chCtrlClose,
chCtrlArm, chCtrlDisarm, chCtrlClear, chCtrlPresence, opStartInrush, opStartFetTest, opStartCapTest, opStartDurTest.
(R118, R144, R154, R157, R158, R159, R160, R172, R214, R406, R407, R437) -/
def Obligations.ChannelsActOnlyFromTheStatesOfTheirRow : Prop :=
  ∀ (s : State) (n : Mb) (tag : Nat) (w : Word) (c : Ch), chNamed (chWord w) = [c] → isolated s c = false →
    (Calm n 0x60 tag [w] s → sessionGate s n 0x60 = none → ctrlModes (w.field 24 8) s.sys.mode = true → Still c s →
      (w.field 24 8 = Act.OPEN → classEff s c ≠ 0 ∨ secureOn s n = true → (s.chan c).st.conducts = true →
        chn s c Chp.INRUSH_AUTO ≠ 1 →
        ∃ t, exec (.chCtrlOpen n) s = .next t ∧ (t.chan c).st = .opened ∧ (t.chan c).low = true) ∧
      (w.field 24 8 = Act.CLOSE → (s.chan c).st = .opened → (s.chan c).present = true → (s.chan c).equal = true →
        (s.chan c).shed = false → shedWaits s c = false → roleOf s c ≠ .source →
        ∃ t, exec (.chCtrlClose n) s = .next t ∧ (t.chan c).st = closedState s c ∧
          (t.chan c).closures = sat32 ((s.chan c).closures + 1)) ∧
      (w.field 24 8 = Act.ARM → roleOf s c = .battery → (s.chan c).st = .on →
        ∃ t, exec (.chCtrlArm n) s = .next t ∧ (t.chan c).st = .armed ∧ (t.chan c).gateA = chargeReg s c ∧
          (t.chan c).gateB = (s.chan c).gateB) ∧
      (w.field 24 8 = Act.DISARM → roleOf s c = .battery → (s.chan c).st = .armed →
        ∃ t, exec (.chCtrlDisarm n) s = .next t ∧ (t.chan c).st = .on ∧
          (t.chan c).gateA =
            if (s.chan c).gateA = .full then .full else .rise (gateUa s c)) ∧
      (w.field 24 8 = Act.CLEAR → (s.chan c).st = .latched → clearAccepted s c = true → chn s c Chp.INRUSH_AUTO ≠ 1 →
        ∃ t, exec (.chCtrlClear n) s = .next t ∧ (t.chan c).st = .opened ∧ (t.chan c).attempts = 0) ∧
      (w.field 24 8 = Act.CLEAR → (s.chan c).st = .latched → clearAccepted s c = false →
        ∃ t, exec (.chCtrlClear n) s = .next t ∧ SameBut [.inq, .outq, .deolo, .link, .mb] s t ∧
          (t.outq.get n).words = message 0x60 tag 1 St.REFUSED [0]) ∧
      (w.field 24 8 = Act.PRESENCE →
        ∃ t, exec (.chCtrlPresence n) s = .next t ∧ (t.chan c).presRestart = true ∧ (t.chan c).st = (s.chan c).st)) ∧
    (∀ l : List Word, Calm n 0x30 tag (w :: l) s → sessionGate s n 0x30 = none → s.svc.debug = 0 → (s.chan c).st = .opened →
      (w.field 24 8 = Opn.INRUSH → l = [] → (s.group (groupOf c)).reloading = false → (∀ id, inrushModes s c (.host id) = true) →
        ∃ t, exec (.opStartInrush n) s = .next t ∧ t.adm.lastOp = Opn.INRUSH ∧
          ((t.adm.lastDecision = 1 ∧ (t.chan c).grant ≠ none ∧ (t.chan c).st = .wait) ∨
            (t.adm.lastDecision = 2 ∧ (t.chan c).st = .wait) ∨
            (t.adm.lastDecision = 3 ∧ (t.chan c).st = .opened ∧ t.adm.refusals = sat32 (s.adm.refusals + 1)))) ∧
      (∀ a : Word, w.field 24 8 = Opn.FET_TEST → l = [a] → opModes Opn.FET_TEST s.sys.mode = true →
        1 ≤ a.field 16 16 → a.field 16 16 ≤ 1000 → 10 ≤ a.field 0 16 → a.field 0 16 ≤ 1000 →
        chQueued s c = none → (s.chan c).grant = none →
        ∃ t, exec (.opStartFetTest n) s = .next t ∧ t.adm.lastOp = Opn.FET_TEST ∧ t.adm.lastDecision ∈ [1, 2, 3] ∧
          (t.adm.lastDecision = 1 → (t.chan c).grant ≠ none) ∧ (t.chan c).st = .opened)) ∧
    (∀ m a b : Word, Calm n 0x30 tag [m, a, b] s → sessionGate s n 0x30 = none → (∀ k ∈ chNamed (chWord m), isolated s k = false) →
      opModes Opn.CAP_TEST s.sys.mode = true → testMapOk s (chWord m) = true →
      (m.field 24 8 = Opn.CAP_TEST → testArgsOk Opn.CAP_TEST a.toNat b.toNat = true →
        ∃ t, exec (.opStartCapTest n) s = .next t ∧ t.adm.lastOp = Opn.CAP_TEST ∧ t.adm.lastDecision ∈ [1, 2, 3] ∧
          (t.adm.lastDecision = 1 → t.bat.test ≠ none)) ∧
      (m.field 24 8 = Opn.DUR_TEST → testArgsOk Opn.DUR_TEST a.toNat b.toNat = true →
        ∃ t, exec (.opStartDurTest n) s = .next t ∧ t.adm.lastOp = Opn.DUR_TEST ∧ t.adm.lastDecision ∈ [1, 2, 3] ∧
          (t.adm.lastDecision = 1 → t.bat.test ≠ none)))

/-- For a write that its checks pass: a start request makes an idle sequencer run its entry and a running or urgent
one keep it pending, losing a request that pends; an urgent request pre-empts a converter whose source is enabled; a
clear of slots empties those of its range and keeps their configuration, or waits for the boundary; a freeze freezes
an enabled bank or starts its post-run, and a bank that is frozen counts it; a release lets a bank live with its
windows empty. Completes: cnvStart, cnvUrgent, accClear, trkFreeze, trkRelease. (R308, R310, R311, R328, R331, R332,
R336) -/
def Obligations.ConverterAndTrackerWritesActAtOnce : Prop :=
  ∀ (s : State) (n : Mb) (v : Int),
    (Takes n [itemOf Prm.CNV_START v] s → s.cnv.on = true →
      ∃ t, exec (.cnvStart n v) s = .next t ∧ t.deolo.lastStatus = St.OK ∧ SameBut [.cnv, .deolo] s t ∧
        ∀ (k : Grp) (e : Fin 32), k.val = fieldOf (itemOf Prm.CNV_START v).value.toNat 8 2 →
          e.val = fieldOf (itemOf Prm.CNV_START v).value.toNat 0 5 →
          (∀ j, j ≠ k → t.cnv.seq.get j = s.cnv.seq.get j) ∧
          ((s.cnv.seq.get k).run = none → (s.cnv.seq.get k).urgent = false → ∃ r, (t.cnv.seq.get k).run = some r ∧ r.entry = e ∧ r.first = e) ∧
          ((s.cnv.seq.get k).run ≠ none ∨ (s.cnv.seq.get k).urgent = true → (t.cnv.seq.get k).run = (s.cnv.seq.get k).run ∧ (t.cnv.seq.get k).pend = some e ∧
            (t.cnv.seq.get k).overrun = if (s.cnv.seq.get k).pend = none then (s.cnv.seq.get k).overrun
              else sat8 ((s.cnv.seq.get k).overrun + 1))) ∧
    (Takes n [itemOf Prm.CNV_URGENT v] s → s.cnv.on = true →
      ∃ t, exec (.cnvUrgent n v) s = .next t ∧ t.deolo.lastStatus = St.OK ∧ SameBut [.cnv, .deolo] s t ∧
        ∀ k : Grp,
          (((pn s (Prm.CNV_URG0 + k.val)).testBit 12 && (itemOf Prm.CNV_URGENT v).value.toNat.testBit k.val) = true →
            (t.cnv.seq.get k).urgent = true ∧
            ((s.cnv.seq.get k).urgent = false → (t.cnv.seq.get k).pre = (s.cnv.seq.get k).run)) ∧
          (((pn s (Prm.CNV_URG0 + k.val)).testBit 12 && (itemOf Prm.CNV_URGENT v).value.toNat.testBit k.val) = false →
            t.cnv.seq.get k = s.cnv.seq.get k)) ∧
    (Takes n [itemOf Prm.ACC_CLEAR v] s →
      ∃ t, exec (.accClear n v) s = .next t ∧ t.deolo.lastStatus = St.OK ∧ SameBut [.acc, .deolo] s t ∧
        let w := (itemOf Prm.ACC_CLEAR v).value.toNat
        let inRange := fun i : Nat => fieldOf w 16 8 ≤ i ∧ i < fieldOf w 16 8 + (fieldOf w 8 8 + 1)
        (w.testBit 0 = true → t.acc.slot = s.acc.slot ∧ t.acc.trk = s.acc.trk ∧ t.acc.clears.length = s.acc.clears.length + 1) ∧
        (w.testBit 0 = false → fieldOf w 24 8 ≠ 2 → t.acc.trk = s.acc.trk ∧ ∀ i : Fin 192,
          (inRange i.val → t.acc.slot.get i = { AccSlot.reset with cfg := (s.acc.slot.get i).cfg }) ∧
          (¬inRange i.val → t.acc.slot.get i = s.acc.slot.get i)) ∧
        (w.testBit 0 = false → fieldOf w 24 8 = 2 → t.acc.slot = s.acc.slot ∧ ∀ i : Fin 96,
          (inRange i.val → t.acc.trk.get i = Trk.empty) ∧ (¬inRange i.val → t.acc.trk.get i = s.acc.trk.get i))) ∧
    (Takes n [itemOf Prm.ACC_TRK_FREEZE v] s →
      ∃ t, exec (.trkFreeze n v) s = .next t ∧ t.deolo.lastStatus = St.OK ∧ SameBut [.acc, .deolo] s t ∧
        t.acc.slot = s.acc.slot ∧ t.acc.trk = s.acc.trk ∧ ∀ b : Fin 12,
          (((pn s (Prm.ACC_TRKCFG0 + b.val)).testBit 2 && (itemOf Prm.ACC_TRK_FREEZE v).value.toNat.testBit b.val) = false →
            t.acc.bank.get b = s.acc.bank.get b) ∧
          (((pn s (Prm.ACC_TRKCFG0 + b.val)).testBit 2 && (itemOf Prm.ACC_TRK_FREEZE v).value.toNat.testBit b.val) = true →
            ((s.acc.bank.get b).frozen || (s.acc.bank.get b).post) = true →
            t.acc.bank.get b = { s.acc.bank.get b with ignored := sat8 ((s.acc.bank.get b).ignored + 1) }) ∧
          (((pn s (Prm.ACC_TRKCFG0 + b.val)).testBit 2 && (itemOf Prm.ACC_TRK_FREEZE v).value.toNat.testBit b.val) = true →
            ((s.acc.bank.get b).frozen || (s.acc.bank.get b).post) = false →
            (t.acc.bank.get b).cause = 1 ∧ (t.acc.bank.get b).cycle = s.mb.cycle ∧ (t.acc.bank.get b).pin = pinNow s ∧
            (t.acc.bank.get b).frozen = (fieldOf (pn s (Prm.ACC_TRKCFG0 + b.val)) 16 16 == 0) ∧
            (t.acc.bank.get b).post = (fieldOf (pn s (Prm.ACC_TRKCFG0 + b.val)) 16 16 != 0))) ∧
    (Takes n [itemOf Prm.ACC_TRK_REL v] s →
      ∃ t, exec (.trkRelease n v) s = .next t ∧ t.deolo.lastStatus = St.OK ∧ SameBut [.acc, .deolo] s t ∧
        t.acc.slot = s.acc.slot ∧ ∀ b : Fin 12,
          ((itemOf Prm.ACC_TRK_REL v).value.toNat.testBit b.val = true →
            (t.acc.bank.get b).frozen = false ∧ (t.acc.bank.get b).post = false ∧
              ∀ i : Fin 96, bankOfTrk i = b → t.acc.trk.get i = Trk.empty) ∧
          ((itemOf Prm.ACC_TRK_REL v).value.toNat.testBit b.val = false → t.acc.bank.get b = s.acc.bank.get b ∧
            ∀ i : Fin 96, bankOfTrk i = b → t.acc.trk.get i = s.acc.trk.get i))

/-- For a command that its checks pass, on the input that CNV.CAL_INPUT names: 1 begins the zero capture and forgets
both captures; 2 begins the full-scale capture and keeps the zero; 3 fails with reason 1 where the means differ by
less than 16384 codes and else stores coefficients or fails with reason 2; 4 stores nominal ones; 5 forgets all. A
direct write of OFS and GAIN makes the pair wait for the next boundary and offers it to the store. Completes: calZero,
calFull, calCompute, calNominal, calAbandon, calDirectWrite. (R304, R318, R319, R320) -/
def Obligations.CalibrationGoesThroughItsSteps : Prop :=
  ∀ (s : State) (n : Mb),
    (Takes n [itemOf Prm.CNV_CAL_CMD 1] s → ∃ t, exec (.calZero n) s = .next t ∧ t.deolo.lastStatus = St.OK ∧
      SameBut [.cnv, .deolo] s t ∧ t.cnv.cal.step = 1 ∧ t.cnv.cal.fail = 0 ∧ t.cnv.cal.zero = none ∧ t.cnv.cal.full = none ∧
      t.cnv.cal.input = pn s Prm.CNV_CAL_INPUT ∧ t.cnv.cal.applied = pget s Prm.CNV_CAL_Z) ∧
    (Takes n [itemOf Prm.CNV_CAL_CMD 2] s → ∃ t, exec (.calFull n) s = .next t ∧ t.deolo.lastStatus = St.OK ∧
      SameBut [.cnv, .deolo] s t ∧ t.cnv.cal.step = 3 ∧ t.cnv.cal.zero = s.cnv.cal.zero ∧ t.cnv.cal.full = none ∧
      t.cnv.cal.applied = pget s Prm.CNV_CAL_F) ∧
    (∀ a b c d e f, Takes n [itemOf Prm.CNV_CAL_CMD 3] s → s.cnv.cal.zero = some (a, b, c) → s.cnv.cal.full = some (d, e, f) →
      ∃ t, exec (.calCompute n) s = .next t ∧ t.deolo.lastStatus = St.OK ∧ SameBut [.cnv, .deolo, .nvs] s t ∧
        ((f - c).natAbs < 16384 → t.cnv.cal.step = 7 ∧ t.cnv.cal.fail = 1 ∧ t.nvs = s.nvs) ∧
        (16384 ≤ (f - c).natAbs → t.cnv.cal.step = 7 ∧ t.cnv.cal.fail = 2 ∧ t.nvs = s.nvs ∨
          t.cnv.cal.step = 5 ∧ t.cnv.cal.fail = 0 ∧ ∃ k, t.cnv.cal.storing = some (pn s Prm.CNV_CAL_INPUT, some k) ∧
            (k.2 : Int) = calGain b e c f ∧ k.1 = calOfs b c (k.2 : Int))) ∧
    (Takes n [itemOf Prm.CNV_CAL_CMD 4] s → ∃ t, exec (.calNominal n) s = .next t ∧ t.deolo.lastStatus = St.OK ∧
      SameBut [.cnv, .deolo, .nvs] s t ∧ t.cnv.cal.step = 5 ∧ t.cnv.cal.storing = some (pn s Prm.CNV_CAL_INPUT, none)) ∧
    (Takes n [itemOf Prm.CNV_CAL_CMD 5] s → ∃ t, exec (.calAbandon n) s = .next t ∧ t.deolo.lastStatus = St.OK ∧
      SameBut [.cnv, .deolo] s t ∧ t.cnv.cal.step = 0 ∧ t.cnv.cal.fail = 0 ∧ t.cnv.cal.zero = none ∧ t.cnv.cal.full = none) ∧
    (∀ ofs gain : Int, Takes n [itemOf Prm.CNV_CAL_OFS ofs, itemOf Prm.CNV_CAL_GAIN gain] s →
      ∃ t, exec (.calDirectWrite n ofs gain) s = .next t ∧ t.deolo.lastStatus = St.OK ∧ t.cnv.coefs = s.cnv.coefs ∧
        (pn s Prm.CNV_CAL_INPUT,
          some ((itemOf Prm.CNV_CAL_OFS ofs).value, (itemOf Prm.CNV_CAL_GAIN gain).value.toNat)) ∈ t.cnv.coefNext)

/-- For a write that its checks pass, on a timer k that governs itself and is not frozen: START and STOP set RUN,
RESET clears the count, a PERIOD is held while the timer runs and stands at once when it is stopped, a CMP is held
with CMP_UPD = 1, a new LINK, MODE or CLK stops the timer at 0, a count is set. A read of the capture gives it and
clears NEW; a read of the low half of a pair latches the high half for its reader. A keeping timer takes the low 40
bits; the stuck time and the capture configuration are kept. Completes: tmrCtrlStart, tmrCtrlStop, tmrCtrlReset,
tmrCfgWrite, tmrPeriodWrite, tmrCmpWrite, tmrCntWrite, tmrCapcfgWrite, tmrCapRead, tmrCntLowRead, ktValueWrite,
flStuckMsWrite. (R373, R375, R376, R378, R381, R384, R388, R394, R395) -/
def Obligations.TimerRegistersTakeTheirWritesAndReads : Prop :=
  ∀ (s : State) (n : Mb) (k : Tmr) (v : Int), tLow s k = k → (s.tmr1 k).frozen = false →
    (Takes n [itemOf (tmrId k Tmrp.CTRL) 1] s →
      ∃ t, exec (.tmrCtrlStart n k) s = .next t ∧ t.deolo.lastStatus = St.OK ∧ SameBut [.tmr, .deolo] s t ∧
        (t.tmr1 k).run = true) ∧
    (Takes n [itemOf (tmrId k Tmrp.CTRL) 2] s →
      ∃ t, exec (.tmrCtrlStop n k) s = .next t ∧ t.deolo.lastStatus = St.OK ∧ SameBut [.tmr, .deolo] s t ∧
        (t.tmr1 k).run = false) ∧
    (Takes n [itemOf (tmrId k Tmrp.CTRL) 4] s →
      ∃ t, exec (.tmrCtrlReset n k) s = .next t ∧ t.deolo.lastStatus = St.OK ∧ SameBut [.tmr, .deolo] s t ∧
        (t.tmr1 k).cnt = 0 ∧ (t.tmr1 k).run = (s.tmr1 k).run) ∧
    (Takes n [itemOf (tmrId k Tmrp.CFG) v] s →
      ∃ t, exec (.tmrCfgWrite n k v) s = .next t ∧ t.deolo.lastStatus = St.OK ∧
        (t.tmr1 k).cfg = (itemOf (tmrId k Tmrp.CFG) v).value.toNat ∧
        (fieldOf (s.tmr1 k).cfg 26 4 ≠ fieldOf (itemOf (tmrId k Tmrp.CFG) v).value.toNat 26 4 →
          (t.tmr1 k).run = false ∧ (t.tmr1 k).cnt = 0)) ∧
    (Takes n [itemOf (tmrId k Tmrp.PERIOD) v] s →
      ∃ t, exec (.tmrPeriodWrite n k v) s = .next t ∧ t.deolo.lastStatus = St.OK ∧
        ((s.tmr1 k).run = true → (t.tmr1 k).period = (s.tmr1 k).period ∧
          (t.tmr1 k).periodNext = some (itemOf (tmrId k Tmrp.PERIOD) v).value.toNat) ∧
        ((s.tmr1 k).run = false → (t.tmr1 k).period = (itemOf (tmrId k Tmrp.PERIOD) v).value.toNat)) ∧
    (Takes n [itemOf (tmrId k Tmrp.CMP) v] s →
      ∃ t, exec (.tmrCmpWrite n k v) s = .next t ∧ t.deolo.lastStatus = St.OK ∧
        (fieldOf (s.tmr1 k).cfg 16 2 = 1 → (t.tmr1 k).cmp = (s.tmr1 k).cmp ∧
          (t.tmr1 k).cmpNext = some (itemOf (tmrId k Tmrp.CMP) v).value.toNat) ∧
        (fieldOf (s.tmr1 k).cfg 16 2 ≠ 1 → tUpDown (s.tmr1 k) = false →
          (t.tmr1 k).cmp = (itemOf (tmrId k Tmrp.CMP) v).value.toNat)) ∧
    (Takes n [itemOf (tmrId k Tmrp.CNT) v] s → tUpDown (s.tmr1 k) = false →
      ∃ t, exec (.tmrCntWrite n k v) s = .next t ∧ t.deolo.lastStatus = St.OK ∧
        (t.tmr1 k).cnt = (itemOf (tmrId k Tmrp.CNT) v).value.toNat % 2 ^ 32) ∧
    (Takes n [itemOf (tmrId k Tmrp.CAPCFG) v] s →
      ∃ t, exec (.tmrCapcfgWrite n k v) s = .next t ∧ t.deolo.lastStatus = St.OK ∧ t.tmr = s.tmr ∧
        pgetW t (tmrId k Tmrp.CAPCFG) = (itemOf (tmrId k Tmrp.CAPCFG) v).value) ∧
    (firmwareTakes s = true → sessionStatus s n = St.OK →
      (∃ t, exec (.tmrCapRead n k) s = .next t ∧ SameBut [.tmr, .deolo] s t ∧ (t.tmr1 k).new = false ∧
        t.deolo.lastRead = ((tWide s k GTmr.cap % 2 ^ 32 : Nat) : Int)) ∧
      (∃ t, exec (.tmrCntLowRead n k) s = .next t ∧ SameBut [.tmr, .deolo] s t ∧ t.tmr.t = s.tmr.t ∧
        t.deolo.lastRead = ((tCount s k % 2 ^ 32 : Nat) : Int) ∧
        (tPaired s k = true →
          { chan := n, tmr := k, isCap := false, value := tCount s k / 2 ^ 32 : HiLatch } ∈ t.tmr.hi))) ∧
    (∀ j : Fin 4, Takes n [itemOf (ktId j Ktp.VALUE) v] s →
      ∃ t, exec (.ktValueWrite n j v) s = .next t ∧ t.deolo.lastStatus = St.OK ∧
        t.tmr.kt.get j = (itemOf (ktId j Ktp.VALUE) v).value.toNat % 2 ^ 40 ∧ ∀ i, i ≠ j → t.tmr.kt.get i = s.tmr.kt.get i) ∧
    (∀ l : Line, Takes n [itemOf (Prm.TMR_FL0_STUCK_MS + l.val) v] s →
      ∃ t, exec (.flStuckMsWrite n l v) s = .next t ∧ t.deolo.lastStatus = St.OK ∧
        pgetW t (Prm.TMR_FL0_STUCK_MS + l.val) = (itemOf (Prm.TMR_FL0_STUCK_MS + l.val) v).value)

/-- For a write that its checks pass: the commit writes units 0 to 2 of the half not in force with the staged data
under the next generation and leaves nothing staged; the drill takes SAFE-KEEP with cause 5; a takeover enters
HANDOVER, waits for its grant, or is refused and writes nothing; a confirmation makes the bank in trial CONFIRMED and
idles the manager; a rollback restarts the main domain into BOOT and counts; AUDIT_SEL fetches an entry; the session's
cursor moves. A read of LOG.STATE returns it and clears FULL. Completes: sfkCommit, sfkDrill, updTakeover, updConfirm,
updRollback, metAuditSel, logCursorWrite, logStateRead. (R250, R263, R505, R510, R528, R531, R532) -/
def Obligations.SheetUpdateMeterAndLogWritesTakeEffect : Prop :=
  ∀ (s : State) (n : Mb) (v : Int),
    (Takes n [itemOf Prm.SFK_COMMIT v] s → ∀ d, stagedData s = some d →
      ∃ t, exec (.sfkCommit n v) s = .next t ∧ t.deolo.lastStatus = St.OK ∧ t.tin.staged = Vector.replicate 3 none ∧
        (if (sheetForce s).map Prod.fst = some false then
          t.tin.upper = writeHalf (sheetGen s + 1) d s.tin.upper ∧ t.tin.lower = s.tin.lower
        else t.tin.lower = writeHalf (sheetGen s + 1) d s.tin.lower ∧ t.tin.upper = s.tin.upper)) ∧
    (Takes n [itemOf Prm.SFK_DRILL v] s → tinActs s = true →
      ∃ t, exec (.sfkDrill n v) s = .next t ∧ SafeKeepBy SfkCause.DRILL s t) ∧
    (Takes n [itemOf Prm.UPD_TAKEOVER v] s →
      ∃ t, exec (.updTakeover n v) s = .next t ∧
        (t.deolo.lastStatus = St.OK ∧ t.sys.mode = .handover ∧ t.sys.prevMode = s.sys.mode ∨
          t.deolo.lastStatus = St.OK ∧ t.sys.modes = s.sys.modes ∧ t.svc.asker ≠ none ∨
          t.deolo.lastStatus = St.REFUSED ∧ t.sys.modes = s.sys.modes ∧ t.svc.asker = none)) ∧
    (Takes n [itemOf Prm.UPD_CONFIRM v] s →
      ∃ t, exec (.updConfirm n v) s = .next t ∧ t.deolo.lastStatus = St.OK ∧ SameBut [.svc, .nvs, .deolo, .fuses] s t ∧
        (s.svc.bankB.st = Bst.TRIAL → t.svc.bankB.st = Bst.CONFIRMED) ∧
        (s.svc.bankB.st ≠ Bst.TRIAL → s.svc.bankA.st = Bst.TRIAL → t.svc.bankA.st = Bst.CONFIRMED) ∧
        s.svc.svnFloor ≤ t.svc.svnFloor) ∧
    (Takes n [itemOf Prm.UPD_ROLLBACK v] s →
      ∃ t, exec (.updRollback n v) s = .next t ∧ t.sys.mode = .boot ∧ t.sys.resetCause = (if s.sys.mode = .safeKeep then 6 else 9) ∧
        t.svc.rollbacks = sat32 (s.svc.rollbacks + 1)) ∧
    (Takes n [itemOf Prm.MET_AUDIT_SEL v] s → meterPresent s = true →
      ∃ t, exec (.metAuditSel n v) s = .next t ∧ t.deolo.lastStatus = St.OK ∧
        (t.met.auditE0, t.met.auditE1) =
          match s.xam.shadow.audit.find? (fun e => e.seq == (itemOf Prm.MET_AUDIT_SEL v).value.toNat) with
          | some e => auditWords e
          | none => (0, 0)) ∧
    (∀ x, Takes n [itemOf Prm.LOG_CURSOR v] s → session? s n = some x →
      ∃ t, exec (.logCursorWrite n v) s = .next t ∧ t.deolo.lastStatus = St.OK ∧
        session? t n = some { x with cursor := (itemOf Prm.LOG_CURSOR v).value.toNat } ∧ t.log = s.log) ∧
    (firmwareTakes s = true → sessionStatus s n = St.OK →
      ∃ t, exec (.logStateRead n) s = .next t ∧ SameBut [.log, .deolo] s t ∧ t.deolo.lastStatus = St.OK ∧
        t.deolo.lastRead = logState s ∧ t.log = { s.log with full := false })

/-- For a command that waits alone: EVT_READ sends the frames newer than the cursor, oldest first, and moves the
cursor to the last; EVT_CLEAR moves the watermark, and beyond the last SEQ answers ST_RANGE with nothing moved;
SNAP_READ sends the records that it names (whole when they fit the queue), clears what CLR names, and waits for its
clock when it is told to. A due log write that the hold-up check passes empties the buffer into a page of its pool,
and one it stops is held; the end of a window restarts the counts; a drop summary enters once there is room.
Completes: evtRead, evtClear, snapReadAcc, snapReadTrk, logWrite, rateWindowEnd, dropSummary. (R116, R333, R334, R335,
R495, R497, R499, R500, R501, R503, R504) -/
def Obligations.TheEventLogIsReadClearedWrittenAndSummed : Prop :=
  ∀ s : State,
    (∀ (n : Mb) (tag : Nat) (w : Word) (x : Session), Calm n 0x40 tag [w] s → sessionGate s n 0x40 = none →
      session? s n = some x → w.field 0 16 ≠ 0 →
      ∃ t, exec (.evtRead n) s = .next t ∧ SameBut [.inq, .outq, .deolo, .link] s t ∧
        session? t n = some { x with
          cursor := match (framesAfter s x.cursor (w.field 0 16)).getLast? with | some f => f.seq | none => x.cursor } ∧
        ∀ m, m = segments 0x40 tag 0 (packSegs ((framesAfter s x.cursor (w.field 0 16)).map Frame.words) []) ++
            [message 0x40 tag 1 St.OK [wd (framesAfter s x.cursor (w.field 0 16)).length]] →
          m.flatten.length ≤ 64 → (t.outq.get n).words = m.flatten) ∧
    (∀ (n : Mb) (tag : Nat) (w : Word), Calm n 0x41 tag [w] s → sessionGate s n 0x41 = none →
      (newer (w.field 0 24) (lastSeq s) = true →
        ∃ t, exec (.evtClear n) s = .next t ∧ SameBut [.inq, .outq, .deolo, .link] s t ∧
          (t.outq.get n).words = message 0x41 tag 1 St.RANGE [wd (evtPend s)]) ∧
      (newer (w.field 0 24) (lastSeq s) = false →
        ∃ t, exec (.evtClear n) s = .next t ∧ SameBut (.inq :: logging) s t ∧
          t.log.watermark = if newer (w.field 0 24) s.log.watermark = true then w.field 0 24 else s.log.watermark)) ∧
    (∀ (n : Mb) (tag : Nat) (a b : Word), Calm n 0x50 tag [a, b] s → sessionGate s n 0x50 = none → b.field 0 8 ≠ 0 →
      (a.field 24 8 = 1 → a.field 0 24 + b.field 0 8 ≤ 192 →
        (b.bit 30 = false → ∃ t, exec (.snapReadAcc n) s = .next t ∧ SameBut [.inq, .outq, .deolo, .link, .acc] s t ∧
          (∀ i : Fin 192, t.acc.slot.get i =
            if b.bit 31 = true ∧ a.field 0 24 ≤ i.val ∧ i.val < a.field 0 24 + b.field 0 8 then (s.acc.slot.get i).clear
            else s.acc.slot.get i) ∧
          ∀ g, snapSegs s 1 (a.field 0 24) (b.field 0 8) = [g] →
            (t.outq.get n).words = message 0x50 tag 3 0 g ++ message 0x50 tag 1 St.OK [wd g.length]) ∧
        (b.bit 30 = true → ∃ t, exec (.snapReadAcc n) s = .next t ∧ SameBut [.inq, .deolo, .acc] s t ∧
          ∃ id, t.acc.snaps = s.acc.snaps ++
            [SnapWait.mk id 1 (a.field 0 24) (b.field 0 8) (b.bit 31)])) ∧
      (a.field 24 8 = 2 → a.field 0 24 + b.field 0 8 ≤ 96 → b.bit 31 = false →
        (b.bit 30 = false → ∃ t, exec (.snapReadTrk n) s = .next t ∧ SameBut [.inq, .outq, .deolo, .link] s t ∧
          ∀ g, snapSegs s 2 (a.field 0 24) (b.field 0 8) = [g] →
            (t.outq.get n).words = message 0x50 tag 3 0 g ++ message 0x50 tag 1 St.OK [wd g.length]) ∧
        (b.bit 30 = true → ∃ t, exec (.snapReadTrk n) s = .next t ∧ SameBut [.inq, .deolo, .acc] s t ∧
          ∃ id, t.acc.snaps = s.acc.snaps ++
            [SnapWait.mk id 2 (a.field 0 24) (b.field 0 8) false]))) ∧
    (s.log.ready = true → anyPup s = true →
      (∀ f : Frame, s.log.buf = [f] → f.sev < 4 → f.bytes ≤ 1000 → writeDue s = true →
        (holdOk s (tw50 f.bytes) = true →
          ∃ t, exec .logWrite s = .next t ∧ SameBut [.log] s t ∧ t.log.buf = [] ∧ t.log.held = false ∧
            ∃ p : Fin 4, p.val = (if f.pool = 3 ∧ critRoom s = false then 2 else f.pool) ∧
              (t.log.pools.get p).getLast? = some { pseq := (s.log.pseq + 1) % 2 ^ 32, frames := [f] }) ∧
        (holdOk s (tw50 f.bytes) = false → exec .logWrite s = .next { s with log := { s.log with held := true } })) ∧
      (∃ t, exec .rateWindowEnd s = .next t ∧ t.log.counts = [] ∧ t.log.window = optime t / 10240 ∧
        ∀ x ∈ t.log.summs, x.reason ≠ 1) ∧
      (∀ x : Summ, (s.log.summs.filter fun y => y.reason == 2) = [x] → bufUsed s + 44 ≤ 65536 →
        x.sev ≠ 0 ∨ pb s Prm.LOG_TRACE_EN = true →
        ∃ t, exec .dropSummary s = .next t ∧ SameBut logging s t ∧ x ∉ t.log.summs ∧
          t.log.buf = s.log.buf ++ [Frame.mk s.log.nextSeq Evt.SUMMARY x.sev x.obj (optime s) x.words]))

/-- A MARIONETTE_TICK passes 400 core clocks; the samples of each channel that has a role reach it (a group in low-
power mode takes its current as 0), and its junction model and comparators follow them. An OC or RC reflex of a
conducting channel trips it by the rule last latched; while its group reloads the gates go low and the cause is held.
Under the overrides of SAFE-KEEP the channel trips and is kept no longer. An armed reflex, its RC comparator on,
boosts gate A and raises the bridge strobe to every group. Completes: marionetteTick, ocReflex, rcReflex, armedReflex.
(R20, R24, R46, R136, R138, R139, R165, R166, R194, R230, R316) -/
def Obligations.ReflexesAndTicksOfTheMarionettes : Prop :=
  ∀ s : State,
    (∀ inp : TickIn, ∃ t, exec (.marionetteTick inp) s = .next t ∧ t.clock = s.clock + 400 ∧
      (s.cnv.on = true → s.sys.standbyDue = none → s.sys.mode ≠ .bridge → s.sys.mode ≠ .cutoff → s.sys.blackStart = false → s.svc.op = none →
        (∀ o ∈ s.adm.queue, o.code ≠ Opn.HANDOVER) →
        ∀ c : Ch, roleOf s c ≠ .disabled →
          let drop := dropOf (s.cnv.fine.get c) (inp.dropEnd.get c) (inp.ch.get c)
          let x := senseCh s c (inp.ch.get c) drop (s.chan c)
          (t.chan c).i16 = (if (s.cnv.seq.get (groupOf c)).lp = true then 0 else (inp.ch.get c).i16) ∧
            (t.chan c).vs = (inp.ch.get c).vs ∧ (t.chan c).drop16 = drop ∧
            (t.chan c).theta = (soaUpdate s c x).theta ∧ (t.chan c).tj = (soaUpdate s c x).tj ∧
            ((s.group (groupOf c)).reloading = false →
              (t.chan c).fOc = ocFires (s.chan c).lRole (s.chan c).lOc x.i16 ∧
              (t.chan c).fRc = rcFires (s.chan c).lRole (s.chan c).lRc x.i16))) ∧
    (∀ c : Ch, reflexLive s c = true → (s.chan c).st.conducts = true →
      (Alone c s →
        (∀ a, a ≠ 0 → actionIn (roleOf s c) (s.chan c).lRules 1 = some a →
          ∃ t, exec (.ocReflex c false) s = .next t ∧ TrippedBy c 1 a s t) ∧
        (∀ k a, rcCause (s.chan c).lRole = some k → (s.chan c).lRc ≠ 0 → a ≠ 0 →
          actionIn (roleOf s c) (s.chan c).lRules k = some a →
          ∃ t, exec (.rcReflex c) s = .next t ∧ TrippedBy c k a s t)) ∧
      (s.tin.override = true →
        ∃ t, exec (.ocReflex c false) s = .next t ∧ (t.chan c).st = .tripped ∧ (t.chan c).keep = false ∧
          (t.chan c).gateA = .lowFull ∧ (t.chan c).gateB = .lowFull ∧ (t.chan c).ol = 0 ∧
          (t.chan c).tripCount = sat32 ((s.chan c).tripCount + 1)) ∧
      ((s.group (groupOf c)).reloading = true → s.tin.override = false → s.sys.blackStart = false → s.svc.op = none →
        ∃ t, exec (.ocReflex c false) s = .next t ∧ (t.chan c).gateA = .lowFull ∧ (t.chan c).gateB = .lowFull ∧
          (t.chan c).st = (s.chan c).st ∧ (t.chan c).reflexed = true ∧
          (t.chan c).heldCauses = (s.chan c).heldCauses ||| 2) ∧
      ((s.chan c).lRole = .battery → (s.chan c).lSt = .armed → (s.chan c).lRc ≠ 0 → (s.chan c).reflexed = false →
        (s.chan c).st = .armed →
        ∃ t, exec (.armedReflex c) s = .next t ∧ SameBut [.ch, .grp, .bus, .cnv, .acc, .gates] s t ∧
          (t.chan c).gateA = .boost ∧ t.bus.strobe = true ∧ (∀ g, (t.group g).strobe = true) ∧
          (t.chan c).st = if s.tin.override = true then .on else .armed))

/-- For a channel whose Marionette runs: the follower's report starts phase 2 with the servo; EQUAL in phase 2 brings
its role's closed state and ends the inrush; an inrush that lasts INRUSH_MAX_MS trips by cause 7; the end of a
FET_TEST opens the channel; a level of the presence filter other than the present result, standing for its time,
becomes PRESENT, and its loss takes a waiting channel to OPEN; an automatic inrush whose conditions hold is filed and
judged, and any other is not; the end of the next day of OPTIME gives every channel its LIFE_LEFT_D. Completes:
inrushFollowDone, inrushComplete, inrushTimeout, fetTestEnd, presenceFilter, autoInrushFile, lifeLeftDaily. (R148,
R149, R171, R174, R176, R177, R182, R188, R407) -/
def Obligations.ChannelsInrushTestAndWear : Prop :=
  ∀ s : State,
    (∀ (c : Ch) (r : Inr), (s.chan c).inr = some r → s.adm.queue = [] → s.bus.walk.get c = .out → s.bat.test = none →
      s.sys.blackStart = false → s.svc.op = none → runs s c = true →
      (r.phase = 1 → ∀ r' u, r' = { r with phase := 2, followed := true, dv0 := sideDiff (s.chan c), sum16 := 0 } →
        u = servoU (servoTarget s c { s.chan c with inr := some r' } r') (s.chan c).i16 → ∃ t, exec (.inrushFollowDone c) s = .next t ∧ SameBut [.ch, .gates] s t ∧
        (t.chan c).inr = some r' ∧
        (r.outward = true → (t.chan c).gateA = .servo u ∧ (t.chan c).gateB = .full) ∧
        (r.outward = false → (t.chan c).gateA = .full ∧ (t.chan c).gateB = .servo u) ∧
        ∀ d, d ≠ c → t.chan d = s.chan d) ∧
      (r.phase = 2 → r.fet = none → (s.chan c).st = .inrush →
        (roleOf s c = .source → s.sys.mode ≠ .bridge ∧ s.sys.mode ≠ .cutoff) →
        ∃ t, exec (.inrushComplete c) s = .next t ∧ (t.chan c).st = closedState s c ∧ (t.chan c).inr = none ∧
          (t.chan c).grant = none ∧ (t.chan c).equal = true) ∧
      (∀ a, r.fet = none → (s.chan c).st = .inrush → a ≠ 0 → actionOf s c 7 = some a →
        ∃ t, exec (.inrushTimeout c) s = .next t ∧ TrippedBy c 7 a s t ∧ (t.chan c).inr = none ∧ (t.chan c).grant = none) ∧
      (r.fet ≠ none → chn s c Chp.INRUSH_AUTO ≠ 1 →
        ∃ t, exec (.fetTestEnd c) s = .next t ∧ (t.chan c).st = .opened ∧ (t.chan c).inr = none ∧
          (t.chan c).grant = none ∧ (t.chan c).low = true)) ∧
    (∀ (c : Ch) (vsMv : Int), s.cnv.on = true → (s.chan c).low = true →
      chn s c Chp.PRES_MODE = 1 ∨ chn s c Chp.PRES_MODE = 3 ∧ (s.chan c).probe = true → chn s c Chp.INRUSH_AUTO ≠ 1 → Alone c s →
      (presLevel s c (16 * vsMv) = some (!(s.chan c).present) →
        ∃ t, exec (.presenceFilter c vsMv) s = .next t ∧ (t.chan c).present = !(s.chan c).present ∧
          (t.chan c).presRestart = false ∧
          (t.chan c).st = if (s.chan c).st = .wait ∧ (s.chan c).present = true then .opened else (s.chan c).st) ∧
      (presLevel s c (16 * vsMv) ≠ some (!(s.chan c).present) → exec (.presenceFilter c vsMv) s = .next s)) ∧
    (∀ c : Ch, (autoReady s c = false → exec (.autoInrushFile c) s = .next s) ∧
      (autoReady s c = true → s.adm.queue = [] → (s.group (groupOf c)).reloading = false → firmRefuses s c = false →
        ∃ t, exec (.autoInrushFile c) s = .next t ∧ SameBut switching s t ∧ Filed c s t)) ∧
    (s.sys.phase = .run → anyPup s = true →
      ∃ t, exec .lifeLeftDaily s = .next t ∧ SameBut (.ch :: passing) s t ∧
        t.tmr.lifeDays = max (s.tmr.lifeDays + 1) (optime s / dayKt) ∧
        ∀ c, (t.chan c).lifeLeft = lifeLeftOf (s.chan c) ∧
          (t.chan c).days = ((s.chan c).damage :: (s.chan c).days).take 30 ∧ (t.chan c).st = (s.chan c).st)

/-- For a conducting channel that stands alone, each of UV_FILTER_EXPIRY, OVERLOAD_EXPIRY and DRIVE_FAULT trips it by
the action in force for its cause (a drive fault always latches). A TRIPPED channel whose delay has elapsed files its
attempt when the other conditions of R202 hold and else stands ready; a WAIT whose cause has cleared files its
attempt, and else goes on waiting; a stay of CHn.RETRY_RESET_S in the closed state returns ATTEMPTS to 0. Completes:
uvFilterExpiry, overloadExpiry, driveFault, retryAttempt, waitCleared, retryCountReset. (R195, R196, R197, R201, R202,
R204, R205, R206) -/
def Obligations.TripsAndRetriesOfAChannel : Prop :=
  ∀ (s : State) (c : Ch),
    (Alone c s → s.cnv.on = true → roleOf s c ≠ .disabled →
      ((s.chan c).st.conducts = true →
        (∀ a, chn s c Chp.UV_MV / 50 ≠ 0 → a ≠ 0 → actionOf s c (uvCause s c) = some a →
          ∃ t, exec (.uvFilterExpiry c) s = .next t ∧ TrippedBy c (uvCause s c) a s t) ∧
        (∀ a, chn s c Chp.OL_MA ≠ 0 → a ≠ 0 → actionOf s c 5 = some a →
          ∃ t, exec (.overloadExpiry c) s = .next t ∧ TrippedBy c 5 a s t) ∧
        (∀ why, driveLeft (s.chan c) why ≠ none → ∃ t, exec (.driveFault ⟨c, why⟩) s = .next t ∧ TrippedBy c 9 3 s t)) ∧
      ((s.chan c).st = .tripped → chn s c Chp.INRUSH_AUTO ≠ 1 →
        (∀ n, (s.chan c).yoyo = .delay n →
          (attemptReady s c = false →
            ∃ t, exec (.retryAttempt c) s = .next t ∧ (t.chan c).st = .tripped ∧ (t.chan c).yoyo = .ready) ∧
          (attemptReady s c = true → firmRefuses s c = false →
            ∃ t, exec (.retryAttempt c) s = .next t ∧ Filed c s t)) ∧
        (∀ u, (s.chan c).yoyo = .waiting →
          u = modCh c (fun x => { x with fUv := false, uvRun := 0, clearRun := max x.clearRun (chn s c Chp.UV_FILT_US) }) s →
          (waitClear u c = true → attemptReady u c = true → firmRefuses s c = false →
            ∃ t, exec (.waitCleared c) s = .next t ∧ Filed c s t) ∧
          (waitClear u c = false ∨ attemptReady u c = false →
            ∃ t, exec (.waitCleared c) s = .next t ∧ (t.chan c).st = .tripped ∧ (t.chan c).yoyo = .waiting)))) ∧
    ((s.chan c).st ∈ [ChSt.on, .diode, .armed] →
      ∃ t, exec (.retryCountReset c) s = .next t ∧ SameBut (.ch :: passing) s t ∧ (t.chan c).attempts = 0 ∧
        t.clock = max s.clock ((s.chan c).closedAt.getD s.clock + chn s c Chp.RETRY_RESET_S * clkS) ∧
        ∀ d, d ≠ c → t.chan d = s.chan d)

/-- While the scan runs a CYCLE_BOUNDARY carries the clock to the end of the cycle and counts the cycle; each
channel's current, voltages and drop, and the bus reading become the means over the samples of the cycle's ticks and
of the boundary (a cycle without a sample keeps the old mean), and the hold-up reading is taken; a reference outside
its window for a second cycle sets REF_FAIL, and a die at 130 C sets DIE_HOT. With no new parameter the lock follows
the distance to the next reference pin 0: SLEW locks within 2 pins, LOCKED falls back beyond 16, HOLDOVER keeps the
last frequency for one cycle and then is FREE. Completes: cycleBoundary. (R130, R131, R223, R270, R271, R277, R278,
R279, R287, R299, R303, R559) -/
def Obligations.ACycleBoundaryEndsOneCycleAndBeginsTheNext : Prop :=
  ∀ (s : State) (inp : BoundaryIn), scanRuns s = true →
    ∃ t, exec (.cycleBoundary inp) s = .next t ∧ t.clock = max s.clock (boundaryDue s) ∧
      t.mb.cycle = (s.mb.cycle + 1) % 2 ^ 32 ∧ t.mb.boundaryAt = boundaryDue s ∧ t.mb.freq = s.mb.cur ∧
      (∀ c : Ch, (t.chan c).iMa =
          clampI (-(fullScale s c : Int)) (fullScale s c : Int) (meanOf (joinMean (inp.ch.get c).i (s.chan c).sumI (s.chan c).guardN) (s.chan c).iMa) ∧
        (t.chan c).vfar = meanOf (joinMean (inp.ch.get c).vs (s.chan c).sumVs (s.chan c).guardN) (s.chan c).vfar ∧
        (t.chan c).drop = meanOf (joinMean (inp.ch.get c).drop (s.chan c).sumDrop (s.chan c).guardN) (s.chan c).drop ∧
        (t.chan c).csn = meanOf (joinMean (inp.ch.get c).csn (s.chan c).sumCsn (s.chan c).guardN) (s.chan c).csn) ∧
      (∀ k : Fin 4, t.cnv.busMv.get k = meanOf (inp.bus.get k) (s.cnv.busMv.get k)) ∧
      t.bus.vMv = meanOf (joinMean inp.sense s.cnv.senseSum s.cnv.senseN) s.bus.vMv ∧
      t.pwr.holdMv = inp.holdMv ∧
      t.pwr.dieHot = (s.pwr.dieHot || decide (8320 ≤ meanOf inp.die16 s.cnv.dieT)) ∧
      (∀ k : Grp, refIn (inp.refUv.get k) = false → 1 ≤ s.cnv.refBad.get k → t.cnv.refFail.get k = true) ∧
      t.acc.snaps = [] ∧ t.acc.clears = [] ∧
      (∀ g step, mbRuns s = true → s.mb.srcNew = false → dueIds .cyc s = [] → g = wrapPin (refGap s (boundaryDue s)) →
        step = clampI (-(pget s Prm.DRM_SLEW_PINS)) (pget s Prm.DRM_SLEW_PINS) g →
        (s.mb.lock = .free → t.mb.lock = .free ∧ t.mb.cur = nominal s) ∧
        (s.mb.lock = .holdover → s.mb.holdCnt = 0 → s.mb.lastRef ≠ 0 → t.mb.lock = .holdover ∧ t.mb.cur = s.mb.lastRef) ∧
        (s.mb.lock = .holdover → s.mb.holdCnt ≠ 0 → t.mb.lock = .free ∧ t.mb.cur = nominal s) ∧
        (s.mb.lock = .slew → t.mb.phaseErr = g ∧ t.mb.cur = slewFreq s.mb.refFreq step ∧
          t.mb.lock = if g.natAbs ≤ 2 then .locked else .slew) ∧
        (s.mb.lock = .locked → t.mb.phaseErr = g ∧ t.mb.cur = slewFreq s.mb.refFreq step ∧
          t.mb.lock = if 16 < g.natAbs then .slew else .locked))

/-- A thermistor that is enabled and has met no condition of R302 for three cycles is valid with its mean as the last
valid one; after ten cycles below 120 C DIE_HOT clears; a reload whose CRC holds ends with its count raised and
nothing else of the machine changed, and one whose CRC fails leaves the group reloading. Completes: ntcValid, dieCool,
groupReloadDone. (R46, R164, R302, R559) -/
def Obligations.ReadingsRecoverAndAGroupComesBack : Prop :=
  ∀ s : State,
    (∀ k : Ntc, scanRuns s = true → (s.cnv.ntc.get k).st ≠ .valid → 3 ≤ (s.cnv.ntc.get k).good →
      (pn s Prm.CNV_NTC_EN).testBit k.val = true →
      ∃ t, exec (.ntcValid k) s = .next t ∧ SameBut (.cnv :: logging) s t ∧ (t.cnv.ntc.get k).st = .valid ∧
        (t.cnv.ntc.get k).last = some (s.cnv.ntc.get k).t ∧ ∀ j, j ≠ k → t.cnv.ntc.get j = s.cnv.ntc.get j) ∧
    (s.pwr.dieHot = true → 10 ≤ s.pwr.coolCnt →
      ∃ t, exec .dieCool s = .next t ∧ SameBut [.pwr] s t ∧ t.pwr.dieHot = false) ∧
    (∀ g : Grp, (s.group g).reloading = true → anyPup s = true → s.svc.phase ≠ 7 → s.svc.reloads = [] →
      (s.group g).ctrl = none →
      (∃ t, exec (.groupReloadDone g true) s = .next t ∧ SameBut [.grp] s t ∧ (t.group g).reloading = false ∧
        (t.group g).reloads = sat32 ((s.group g).reloads + 1) ∧ ∀ k, k ≠ g → t.group k = s.group k) ∧
      exec (.groupReloadDone g false) s = .next s)

/-- While the firmware acts: the strobe takes ONLINE, RECHARGE and MAINTAIN to BRIDGE and is taken; AUTO_ONLINE enters
ONLINE where its row holds; CUTOFF asks for DORMANT after its time; ten low cycles end capping with every limit
lifted, and peak support that runs out returns its grant and leaves the shedding; a silent rectifier leaves S; a walk-
in is granted or queued and ends at full weight; an entry that has waited too long leaves the queue as decision 4 and
is counted. Completes: bridgeStrobeInterrupt, autoOnline, cutoffDormantTimeout, cappingEnd, peakSupportTimeout,
rectLeftSet, walkin, walkinEnd, admWaitTimeout. (R59, R61, R139, R140, R230, R237, R238, R241, R242, R411, R413, R453)
-/
def Obligations.TheBusTheArbiterAndTheModesFollowTheirEvents : Prop :=
  ∀ s : State, fwActs s = true →
    (s.bus.strobe = true → s.sys.mode ∈ [Mode.online, .recharge, .maintain] → s.svc.newOn = none →
      ∃ t, exec .bridgeStrobeInterrupt s = .next t ∧ t.sys.modes = (.bridge, s.sys.mode) ∧ t.bus.strobe = false ∧
        t.adm.srcCap = 0) ∧
    (s.sys.mode = .standby → pb s Prm.SYS_AUTO_ONLINE = true → s.bus.strobe = false →
      (requestHolds s Mode.online.code = true →
        ∃ t, exec .autoOnline s = .next t ∧ t.sys.modes = (.online, .standby)) ∧
      (requestHolds s Mode.online.code = false → exec .autoOnline s = .next s)) ∧
    (s.sys.mode = .cutoff → s.mb.mains = false → pn s Prm.SYS_CUTOFF_DORMANT_S ≠ 0 → s.sys.dormDue = false →
      ∃ t, exec .cutoffDormantTimeout s = .next t ∧ SameBut (.sys :: passing) s t ∧ t.sys.dormDue = true ∧
        t.sys.modes = s.sys.modes ∧
        t.clock = max s.clock (max s.bat.cutoffAt s.mb.lostAt + pn s Prm.SYS_CUTOFF_DORMANT_S * clkS)) ∧
    (s.bus.capState ≠ 0 → 10 ≤ s.bus.capLow →
      ∃ t, exec .cappingEnd s = .next t ∧ t.bus.capState = 0 ∧ t.bus.capLow = 0 ∧ ∀ c : Ch, t.bus.limit.get c = none) ∧
    (∀ at_ id, s.bus.peakAt = some at_ → s.bus.peakOp = some id → s.adm.queue = [] →
      ∃ t, exec .peakSupportTimeout s = .next t ∧ t.bus.capState = 2 ∧ t.bus.peakOp = none ∧
        ∀ o ∈ t.adm.grants, o.id ≠ id) ∧
    (∀ c : Ch, 3 ≤ (s.shb.dev.get c).miss → (s.shb.dev.get c).left = false →
      ∃ t, exec (.rectLeftSet c) s = .next t ∧ SameBut (.shb :: logging) s t ∧ (t.shb.dev.get c).left = true) ∧
    (∀ c : Ch, s.adm.queue = [] →
      (s.bus.walk.get c = .queued → opModes Opn.WALKIN s.sys.mode = true →
        (∀ o ∈ s.adm.grants, ¬(o.code = Opn.WALKIN ∧ o.ch = some c)) →
        ∃ t, exec (.walkin c) s = .next t ∧ SameBut switching s t ∧ t.adm.lastOp = Opn.WALKIN ∧
          (walkins s < pn s Prm.ADM_WALKIN_PAR → t.bus.walk.get c = .ramp s.clock ∧ t.adm.lastDecision = 1) ∧
          (pn s Prm.ADM_WALKIN_PAR ≤ walkins s → t.bus.walk.get c = .queued ∧ t.adm.lastDecision = 2)) ∧
      (∀ at_, s.bus.walk.get c = .ramp at_ →
        ∃ t, exec (.walkinEnd c) s = .next t ∧ t.bus.walk.get c = .full ∧
          t.clock = max s.clock (at_ + pn s Prm.BUS_WALKIN_MS * clkMs))) ∧
    (∀ o : Op, s.adm.queue = [o] → o.code ≠ Opn.HANDOVER →
      ∃ t, exec (.admWaitTimeout 1) s = .next t ∧ t.adm.queue = [] ∧ t.adm.timeouts = sat32 (s.adm.timeouts + 1) ∧
        t.adm.lastOp = o.code ∧ t.adm.lastDecision = 4 ∧ t.adm.lastBudget = o.waitOn)

/-- While the firmware acts: a string that has met its float criteria is FLOAT_OK, its channel is armed, and as the
last one ends RECHARGE; in BRIDGE a string at its end opens while another carries the bus, and else the mode is
CUTOFF, where after its delay every string opens; a rest gives the reference of kind 2 at full confidence; a string
that could not rejoin is LOW; a test of duration ends when it has lasted; the state of the strings is written after a
minute, in the modes that write it. Completes: floatCriteriaMet, endOfDischarge, restReference, rejoinTimeout,
cutoffBatteryOpen, stringStateWrite, durTestTimeout. (R423, R424, R428, R433, R434, R435, R438, R439, R585) -/
def Obligations.StringsFloatEndRestAndRejoin : Prop :=
  ∀ s : State, fwActs s = true →
    (∀ (k : Str) (c : Ch), boundCh s k = some c →
      (∀ at_, (s.str k).floatFrom = some at_ → (s.str k).floatOk = false → s.bus.strobe = false →
        (s.sys.mode ≠ .recharge → (s.group (groupOf c)).reloading = false → ∃ t, exec (.floatCriteriaMet k) s = .next t ∧ (t.str k).floatOk = true ∧
          t.sys.modes = s.sys.modes ∧
          (t.chan c).st = if (s.chan c).st = .on ∧ inTest s k = false then .armed else (s.chan c).st) ∧
        (s.sys.mode = .recharge → boundStr s = [k] →
          ∃ t, exec (.floatCriteriaMet k) s = .next t ∧
            t.sys.mode = if anyIso s = true then .maintain else .online)) ∧
      (conducts s c = true →
        (s.sys.mode = .bridge → eodNow s k c = true →
          (otherCarries s k = true →
            ∃ t, exec (.endOfDischarge k) s = .next t ∧ (t.chan c).st = .opened ∧ (t.str k).ended = true ∧
              t.sys.modes = s.sys.modes) ∧
          (otherCarries s k = false → ∃ t, exec (.endOfDischarge k) s = .next t ∧ t.sys.modes = (.cutoff, .bridge))) ∧
        (eodNow s k c = false → (s.str k).eodFrom = none → exec (.endOfDischarge k) s = .next s)) ∧
      (∀ at_ soc, (s.str k).restFrom = some at_ → restSoc s k ((s.chan c).vfar : Rat) = some soc →
        (s.str k).fromFull = false →
        ∃ t, exec (.restReference k) s = .next t ∧ (t.str k).refKind = 2 ∧ (t.str k).conf = 10000 ∧
          (t.str k).qInt = heldQ s k (soc * strEff s k) ∧ (t.str k).refAt = optime t) ∧
      (∀ at_, (s.str k).rejoinFrom = some at_ → rejoinMode s = true → (s.str k).ended = true →
        ∃ t, exec (.rejoinTimeout k) s = .next t ∧ (t.str k).low = true ∧ (t.str k).ended = false ∧ (t.str k).phase = 7)) ∧
    (s.sys.mode = .cutoff → s.bat.cutoffDue = true →
      ∃ t, exec .cutoffBatteryOpen s = .next t ∧ t.sys.mode = .cutoff ∧ t.bat.cutoffDue = false ∧
        (∀ c : Ch, roleOf s c = .battery → conducts t c = false) ∧ ∀ k ∈ boundStr s, (t.str k).ended = true) ∧
    (stringKinds s = false → exec .stringStateWrite s = .next s) ∧
    (stringKinds s = true → ∃ t, exec .stringStateWrite s = .next t ∧ SameBut ([.nvs, .bat] ++ passing) s t ∧
      t.clock = max s.clock (s.bat.stateAt + 60 * clkS) ∧ ∀ k ∈ boundStr s, ∃ p ∈ t.nvs.queue ++ t.nvs.held, p.rtype = RT.STRING_STATE ∧ p.inst = k.val) ∧
    (∀ r : TestRun, s.bat.test = some r → r.code = Opn.DUR_TEST → s.adm.queue = [] →
      ∃ t, exec .durTestTimeout s = .next t ∧ t.bat.test = none ∧ (∀ o ∈ t.adm.grants, o.id ≠ r.op) ∧
        ∀ k ∈ r.part, (t.str k).phase = 2)

/-- An entry acts in the cycles that its DIV and PHASE name and that skip it for no error, once, after those in front
of it. As the next one, with its pin's clock reached: CONVERT starts the entry of an idle converter; TRACK closes the
windows of the banks it names; PROBE sets, reverses or, from 0, frees the sign of a pattern; SETPOINT makes the
correction that is due and leaves the trims outside S; SHED latches a pending step for the Marionettes, whose next
tick carries it out; SWITCH makes the held actions of its channel due; NOTIFY sets its note. A restoration without a
grant is not carried out, and a granted one lowers the stage. Completes: drumConvert, drumTrack, drumProbe,
drumSetpoint, drumShed, drumSwitch, drumNotify, shedRestore. (R230, R231, R233, R282, R283, R286, R287, R290, R292,
R330, R588) -/
def Obligations.TheDrumsEntriesActAtTheirPins : Prop :=
  ∀ (s : State) (e : Fin 256) (w : Nat), w = drumWord s e.val → mbRuns s = true →
    (entryActs s e = false ∨ entriesTo s (entryKey s e) = [] → ∀ i ∈ [Instr.drumConvert e, .drumTrack e, .drumProbe e,
      .drumSetpoint e, .drumShed e, .drumSwitch e, .drumNotify e], exec i s = .next s) ∧
    (entriesTo s (entryKey s e) = [e] →
      (drumAction w = 1 → ∀ (k : Grp) (n : Fin 32), k.val = drumArg w / 32 % 4 → n.val = drumArg w % 32 →
        (s.cnv.seq.get k).run = none → (s.cnv.seq.get k).urgent = false →
        ∃ t, exec (.drumConvert e) s = .next t ∧ SameBut ([.cnv, .mb] ++ passing) s t ∧
          t.clock = max s.clock (pinClock s (drumPin w)) ∧ t.mb = { s.mb with nextKey := entryKey s e + 1 } ∧
          (t.cnv.seq.get k).run = some (startRun (s.cnv.seq.get k) n n)) ∧
      (drumAction w = 2 → ∃ t, exec (.drumTrack e) s = .next t ∧ SameBut ([.acc, .mb] ++ passing) s t ∧
        ∀ i : Fin 96, t.acc.trk.get i =
          if bankOfTrk i ∈ trackBanks (drumArg w) ∧ (s.acc.bank.get (bankOfTrk i)).frozen = false ∧
              (s.acc.bank.get (bankOfTrk i)).post = false then
            { live := TrkWin.empty, closed := (s.acc.trk.get i).live }
          else s.acc.trk.get i) ∧
      (drumAction w = 3 → ∀ (k : Fin 4), k.val = drumArg w % 4 →
        ∃ t, exec (.drumProbe e) s = .next t ∧ SameBut ([.mb, .freeCtr, .bus, .bat, .shb] ++ passing) s t ∧
          t.mb.notes = s.mb.notes ∧
          (fieldOf (drumArg w) 2 2 = 1 → t.mb.pat.get k = 1) ∧ (fieldOf (drumArg w) 2 2 = 2 → t.mb.pat.get k = -1) ∧
          (fieldOf (drumArg w) 2 2 = 3 → t.mb.pat.get k = 0) ∧
          (fieldOf (drumArg w) 2 2 = 0 → s.mb.pat.get k ≠ 0 → t.mb.pat.get k = -(s.mb.pat.get k)) ∧
          (fieldOf (drumArg w) 2 2 = 0 → s.mb.pat.get k = 0 → t.mb.pat.get k = 1 ∨ t.mb.pat.get k = -1) ∧
          ∀ j, j ≠ k → t.mb.pat.get j = s.mb.pat.get j) ∧
      (drumAction w = 4 → pinEntries s (drumPin w) = [e] → fwActs s = true → (drumArg w).testBit 0 = true →
        s.bus.shareDue = true →
        ∃ t, exec (.drumSetpoint e) s = .next t ∧ SameBut ([.bus, .shb, .bat, .mb] ++ passing) s t ∧ t.bus.shareDue = false ∧
          ∀ c : Ch, c ∉ shareSet s → t.bus.trim.get c = s.bus.trim.get c) ∧
      (drumAction w = 5 → (drumArg w).testBit 0 = true → (drumArg w).testBit 1 = false → s.bus.stepPending = true →
        s.bus.stepAt = none → s.bus.stepNow = none → s.bus.stage < 4 →
        ∃ t, exec (.drumShed e) s = .next t ∧ SameBut ([.bus, .mb] ++ passing) s t ∧
          t.bus = { s.bus with stepPending := false, stepNow := some (s.bus.stage + 1) }) ∧
      (drumAction w = 6 → drumArg w % 32 < 24 →
        ∃ t, exec (.drumSwitch e) s = .next t ∧ SameBut (.mb :: passing) s t ∧
          t.mb.held = s.mb.held.map fun h => if h.ch.val = drumArg w % 32 then { h with due := true } else h) ∧
      (drumAction w = 7 → ∃ t, exec (.drumNotify e) s = .next t ∧ SameBut ([.mb, .tmr] ++ passing) s t ∧
        t.mb.notes = s.mb.notes ||| 2 ^ (drumArg w % 16))) ∧
    (∀ (k : Nat) (inp : TickIn), s.bus.stepNow = some k → s.bus.stage < k → s.bus.restoreNow = false → s.tin.override = false →
      s.sys.blackStart = false → s.sys.standbyDue = none → (∀ g, (s.group g).strobe = false) →
      s.sys.mode ∈ [Mode.online, .maintain, .recharge] →
      ∃ t, exec (.marionetteTick inp) s = .next t ∧ t.bus.stage = k ∧ t.bus.stepNow = none ∧ t.bus.stepAt = some t.clock) ∧
    (s.bus.restore = none → exec .shedRestore s = .next s) ∧
    (∀ id, s.bus.restore = some id → s.tin.override = false → stageChs s s.bus.stage = [] → s.adm.grants = [] →
      ∃ t, exec .shedRestore s = .next t ∧ t.bus.stage = s.bus.stage - 1 ∧ t.bus.restore = none ∧
        t.bus.restoreAt = some s.clock ∧ t.ch = s.ch)

/-- While the scan runs: a valid crossing enters the qualification of the AC input at its instant, and the one that
completes it, as every one while it is qualified, shows the mains; the one that ends the last of DRM.LOCK_CYC bad
periods loses them, and a crossing that is not valid does nothing. A valid edge enters that of SYNC, and as many bad
periods lose it. A declared loss of the mains clears DRM.MAINS, counts, and takes ONLINE, RECHARGE and MAINTAIN to
BRIDGE; a criterion that is not met, or a loss already declared, does nothing. SYNC lost has to qualify anew and, as
the only reference in use, leaves the cycle in HOLDOVER. Completes: acCrossing, syncEdge, mainsLost, syncLost. (R232,
R272, R273, R274, R275, R279, R280) -/
def Obligations.TheReferencesQualifyAndAreLost : Prop :=
  ∀ s : State, scanRuns s = true →
    (∀ (ns : Nat) (a b : Int) (q : Qual), q = s.mb.ac.edge (pn s Prm.DRM_LOCK_CYC) ns (edgeTime s s.mb.ac ns) →
      (crossingValid s a b = false → exec (.acCrossing ⟨ns, a, b⟩) s = .next s) ∧
      (crossingValid s a b = true → s.mb.mains = false ∨ q.bad < pn s Prm.DRM_LOCK_CYC →
        ∃ t, exec (.acCrossing ⟨ns, a, b⟩) s = .next t ∧ SameBut (.mb :: passing) s t ∧ t.mb.ac = q ∧ t.mb.sync = s.mb.sync ∧
          t.mb.cycle = s.mb.cycle ∧ t.mb.mains = (s.mb.mains || q.ok) ∧ t.clock = max s.clock (edgeTime s s.mb.ac ns)) ∧
      (crossingValid s a b = true → s.mb.mains = true → pn s Prm.DRM_LOCK_CYC ≤ q.bad → s.svc.newOn = none →
        s.sys.mode ∈ [Mode.online, .recharge, .maintain] →
        ∃ t, exec (.acCrossing ⟨ns, a, b⟩) s = .next t ∧ t.mb.mains = false ∧ t.mb.ac.ok = false ∧
          t.sys.modes = (.bridge, s.sys.mode))) ∧
    (∀ (ns lo hi : Nat) (q : Qual), q = s.mb.sync.edge (pn s Prm.DRM_LOCK_CYC) ns (edgeTime s s.mb.sync ns) →
      (edgeValid s lo hi = false → exec (.syncEdge ⟨ns, lo, hi⟩) s = .next s) ∧
      (edgeValid s lo hi = true → ∃ t, exec (.syncEdge ⟨ns, lo, hi⟩) s = .next t ∧ SameBut (.mb :: passing) s t ∧
        t.mb.mains = s.mb.mains ∧ t.mb.ac = s.mb.ac ∧ t.clock = max s.clock (edgeTime s s.mb.sync ns) ∧
        t.mb.sync = if q.ok = true ∧ pn s Prm.DRM_LOCK_CYC ≤ q.bad then q.lose else q)) ∧
    (∀ cause : LossCause, s.mb.mains = true → s.sys.mode ∈ [Mode.online, .recharge, .maintain] → s.svc.newOn = none →
      (cause = .frequency → pn s Prm.DRM_LOCK_CYC ≤ s.mb.ac.bad) → (∀ pins, cause = .amplitude pins → 4096 ≤ pins) →
      ∃ t, exec (.mainsLost cause) s = .next t ∧ t.mb.mains = false ∧ t.mb.lossCount = sat32 (s.mb.lossCount + 1) ∧
        t.mb.ac.ok = false ∧ t.sys.modes = (.bridge, s.sys.mode)) ∧
    (s.mb.mains = false → ∀ cause, exec (.mainsLost cause) s = .next s) ∧
    (s.mb.ac.bad < pn s Prm.DRM_LOCK_CYC → exec (.mainsLost .frequency) s = .next s) ∧
    (∀ pins < 4096, exec (.mainsLost (.amplitude pins)) s = .next s) ∧
    (s.mb.sync.ok = true →
      ∃ t, exec .syncLost s = .next t ∧ SameBut (.mb :: passing) s t ∧ t.mb.sync.ok = false ∧
        (s.mb.ref = 2 → s.mb.ac.ok = false → t.mb.ref = 0 ∧ t.mb.lock = .holdover ∧ t.mb.holdCnt = 0))

/-- While the converters run: a kept edge, its source standing at the level it leads to, starts an idle sequencer at
once, or when its delay of 25 ns clocks has run; an urgent sequence that has run to its end resumes what it
interrupted or runs the held request; a sample of an unfiltered entry is added to its slot and counts the entry down;
a window's end moves the filter on and stands at its instant; a named group whose gates were low for a whole cycle
enters low power; a capture of whole cycles within its spread is taken and one outside fails with reason 3; stored
coefficients wait for the boundary and a failed write is reason 5; a bank that runs on freezes at its end. Completes:
cnvTrigger, cnvTriggerDelayEnd, urgentSequenceEnd, sequencerResult, filterWindowEnd, lpEntry, calCaptureEnd,
calStored, trackerFreeze. (R307, R309, R310, R311, R314, R315, R316, R318, R320, R323, R326, R331) -/
def Obligations.ConvertersTrackersAndCalibrationFollowTheirEvents : Prop :=
  ∀ s : State, s.cnv.on = true →
    (∀ (k : Grp) (second rising : Bool) (n : Fin 32), n.val = fieldOf (trigCfg s k second) 16 5 % 32 →
      (trigCfg s k second).testBit (if rising then 30 else 31) = true → trigLevel s (fieldOf (trigCfg s k second) 24 6) = rising →
      seqHalted s = false → (s.cnv.seq.get k).run = none → (s.cnv.seq.get k).urgent = false →
      (fieldOf (trigCfg s k second) 0 16 = 0 → ∃ t, exec (.cnvTrigger k second rising) s = .next t ∧ SameBut [.cnv] s t ∧
        (t.cnv.seq.get k).run = some (startRun (s.cnv.seq.get k) n n)) ∧
      (fieldOf (trigCfg s k second) 0 16 ≠ 0 → ∃ t, exec (.cnvTrigger k second rising) s = .next t ∧ SameBut [.cnv] s t ∧
        (t.cnv.seq.get k).run = none ∧
        (if second then (t.cnv.seq.get k).delayB else (t.cnv.seq.get k).delayA) =
          some (n, s.clock + fieldOf (trigCfg s k second) 0 16 * 10))) ∧
    (∀ (k : Grp) (n : Fin 32) (at_ : Nat), (s.cnv.seq.get k).run = none → (s.cnv.seq.get k).urgent = false → seqHalted s = false →
      ((s.cnv.seq.get k).delayA = some (n, at_) →
        ∃ t, exec (.cnvTriggerDelayEnd k false) s = .next t ∧ SameBut (.cnv :: passing) s t ∧ t.clock = max s.clock at_ ∧
          (t.cnv.seq.get k).run = some (startRun (s.cnv.seq.get k) n n) ∧ (t.cnv.seq.get k).delayA = none) ∧
      ((s.cnv.seq.get k).delayB = some (n, at_) →
        ∃ t, exec (.cnvTriggerDelayEnd k true) s = .next t ∧ SameBut (.cnv :: passing) s t ∧ t.clock = max s.clock at_ ∧
          (t.cnv.seq.get k).run = some (startRun (s.cnv.seq.get k) n n) ∧ (t.cnv.seq.get k).delayB = none)) ∧
    (∀ (k : Grp), (s.cnv.seq.get k).urgent = true → (s.cnv.seq.get k).run = none →
      ((s.cnv.seq.get k).urgHeld = true → ∃ t, exec (.urgentSequenceEnd k) s = .next t ∧ SameBut [.cnv] s t ∧
        (t.cnv.seq.get k).run = some (startRun (s.cnv.seq.get k) (urgentEntry s k) (urgentEntry s k)) ∧
        (t.cnv.seq.get k).urgent = true ∧ (t.cnv.seq.get k).urgHeld = false) ∧
      (∀ r, (s.cnv.seq.get k).urgHeld = false → (s.cnv.seq.get k).pre = some r →
        ∃ t, exec (.urgentSequenceEnd k) s = .next t ∧ SameBut [.cnv] s t ∧
          (t.cnv.seq.get k).run = some r ∧ (t.cnv.seq.get k).urgent = false)) ∧
    (∀ (k : Grp) (r : SeqRun) (code : Int) (i : Fin 192), (s.cnv.seq.get k).run = some r → seqOrder r.word = 0 →
      seqAcc r.word = i.val → 96 ≤ seqTrk r.word → 1 < r.owed →
      ∃ t, exec (.sequencerResult k code) s = .next t ∧ SameBut [.cnv, .acc] s t ∧
        (t.cnv.seq.get k).run = some { r with owed := r.owed - 1 } ∧
        (∀ y, (s.acc.slot.get i).ovf = false → slotSign s (s.acc.slot.get i) ≠ 0 →
          (s.acc.slot.get i).add (slotSign s (s.acc.slot.get i)) (sampleValue s (seqInput r.word) code) = some y →
          t.acc.slot.get i = y) ∧
        ((s.acc.slot.get i).ovf = false → slotSign s (s.acc.slot.get i) ≠ 0 →
          (s.acc.slot.get i).add (slotSign s (s.acc.slot.get i)) (sampleValue s (seqInput r.word) code) = none →
          (t.acc.slot.get i).ovf = true ∧ t.acc.ovfCount = sat32 (s.acc.ovfCount + 1)) ∧
        ((s.acc.slot.get i).ovf = true ∨ slotSign s (s.acc.slot.get i) = 0 → t.acc.slot.get i = s.acc.slot.get i) ∧
        ∀ j, j ≠ i → t.acc.slot.get j = s.acc.slot.get j) ∧
    (∀ (k : Grp) (e : Fin 32), seqHalted s = false → 1 ≤ seqOrder ((s.cnv.seq.get k).table.get e) →
      seqOrder ((s.cnv.seq.get k).table.get e) ≤ 4 →
      ∃ t, exec (.filterWindowEnd k e) s = .next t ∧ SameBut ([.cnv, .acc] ++ passing) s t ∧
        t.clock = max s.clock (windowDue s k e) ∧
        (t.cnv.seq.get k).filt.get e =
          { (((s.cnv.seq.get k).filt.get e).window (seqOrder ((s.cnv.seq.get k).table.get e))).1 with at_ := t.clock }) ∧
    (∀ k : Grp, k.val ≠ 0 → (pn s Prm.CNV_LP_MAP).testBit k.val = true → groupLow s k = true →
      (s.cnv.seq.get k).lowWhole = true → (s.cnv.seq.get k).urgent = false →
      ∃ t, exec (.lpEntry k) s = .next t ∧ SameBut [.cnv] s t ∧ (t.cnv.seq.get k).lp = true) ∧
    (∀ cap : CaptureIn, s.cnv.cal.left = 0 →
      (s.cnv.cal.step = 1 ∨ s.cnv.cal.step = 3 → 1024 < cap.largest - cap.smallest →
        ∃ t, exec (.calCaptureEnd cap) s = .next t ∧ SameBut [.cnv] s t ∧ t.cnv.cal.step = 7 ∧ t.cnv.cal.fail = 3) ∧
      (cap.largest - cap.smallest ≤ 1024 → s.cnv.cal.step = 1 →
        ∃ t, exec (.calCaptureEnd cap) s = .next t ∧ SameBut [.cnv] s t ∧ t.cnv.cal.step = 2 ∧
          t.cnv.cal.zero = some (s.cnv.cal.input, s.cnv.cal.applied, cap.mean)) ∧
      (cap.largest - cap.smallest ≤ 1024 → s.cnv.cal.step = 3 →
        ∃ t, exec (.calCaptureEnd cap) s = .next t ∧ SameBut [.cnv] s t ∧ t.cnv.cal.step = 4 ∧
          t.cnv.cal.full = some (s.cnv.cal.input, s.cnv.cal.applied, cap.mean))) ∧
    (∀ code k p, s.cnv.cal.storing = some (code, k) → s.cnv.cal.step = 5 →
      s.nvs.queue.find? (fun p => p.rtype == RT.CAL && p.inst == code) = some p → p.toJournal = false →
      (∃ t, exec (.calStored true) s = .next t ∧ SameBut ([.cnv, .nvs] ++ logging) s t ∧ t.cnv.cal.step = 6 ∧
        t.cnv.cal.storing = none ∧ (code, k) ∈ t.cnv.coefNext) ∧
      (∃ t, exec (.calStored false) s = .next t ∧ SameBut ([.cnv, .nvs] ++ logging) s t ∧ t.cnv.cal.step = 7 ∧
        t.cnv.cal.fail = 5 ∧ t.cnv.cal.storing = none ∧ t.cnv.coefNext = s.cnv.coefNext)) ∧
    (∀ b : Fin 12, (s.acc.bank.get b).post = true →
      ∃ t, exec (.trackerFreeze b) s = .next t ∧ SameBut (.acc :: passing) s t ∧
        t.clock = max s.clock (s.acc.bank.get b).until_ ∧ (t.acc.bank.get b).frozen = true ∧
        (t.acc.bank.get b).post = false ∧ ∀ a, a ≠ b → t.acc.bank.get a = s.acc.bank.get a)

/-- For a timer that counts alone: OVF is at the end of its lap and leaves the count at 0, the held values in effect
and OUT high unless CMP is 0, and an action STOP on itself stops it; TOP leaves an UP-DOWN timer at PERIOD counting
down; MATCH leaves the count at CMP with OUT low. A capture takes the count, of a pair both halves, and notes an
overrun, where its source can have made the kept edge; a reject is counted; a start edge starts a stopped timer at the
next count; an alarm is due once. Completes: tmrOvf, tmrTop, tmrMatch, tmrCapture, tmrReject, tmrStartEdge, ktAlarm.
(R373, R374, R375, R376, R377, R378, R381, R382, R384, R385, R386, R393) -/
def Obligations.TheTimersCountMatchOverflowAndCapture : Prop :=
  ∀ (s : State) (k : Tmr),
    (tRuns s k = true → tPaired s k = false →
      (∀ x, x = s.tmr1 k → tUpDown x = false → toMatch s k = none → fieldOf x.cfg 10 2 = 0 →
        (fieldOf x.cfg 4 2 = 0 → ∃ t, exec (.tmrOvf k) s = .next t ∧ SameBut passing s t ∧
          t.clock = max s.clock (tDue s k (toOvf s k)) ∧ (t.tmr1 k).cnt = 0 ∧ (t.tmr1 k).run = true ∧
          (t.tmr1 k).base = tDue s k (toOvf s k) ∧ (t.tmr1 k).period = x.periodNext.getD x.period ∧
          (t.tmr1 k).cmp = x.cmpNext.getD x.cmp ∧ (t.tmr1 k).out = decide (x.cmpNext.getD x.cmp ≠ 0) ∧
          ∀ j, j ≠ k → t.tmr1 j = s.tmr1 j) ∧
        (fieldOf x.cfg 4 2 = 3 → fieldOf x.cfg 0 4 = k.val →
          ∃ t, exec (.tmrOvf k) s = .next t ∧ SameBut passing s t ∧ (t.tmr1 k).run = false)) ∧
      (∀ m, toTop s k = some m → toMatch s k = none → ∃ t, exec (.tmrTop k) s = .next t ∧ SameBut passing s t ∧
        t.clock = max s.clock (tDue s k m) ∧ (t.tmr1 k).cnt = (s.tmr1 k).period ∧ (t.tmr1 k).down = true ∧
        (t.tmr1 k).period = (s.tmr1 k).period ∧ (t.tmr1 k).run = true ∧
        (t.tmr1 k).cmp = (if fieldOf (s.tmr1 k).cfg 16 2 = 1 then (s.tmr1 k).cmp
          else (s.tmr1 k).cmpNext.getD (s.tmr1 k).cmp) ∧ ∀ j, j ≠ k → t.tmr1 j = s.tmr1 j) ∧
      (toTop s k = none → exec (.tmrTop k) s = .next s) ∧
      (∀ m, toMatch s k = some m → fieldOf (s.tmr1 k).cfg 10 2 = 0 →
        ∃ t, exec (.tmrMatch k) s = .next t ∧ SameBut passing s t ∧ t.clock = max s.clock (tDue s k m) ∧
          (t.tmr1 k).cnt = (s.tmr1 k).cmp % 2 ^ 32 ∧ (t.tmr1 k).out = false ∧ (t.tmr1 k).base = tDue s k m ∧
          ∀ j, j ≠ k → t.tmr1 j = s.tmr1 j) ∧
      (toMatch s k = none → exec (.tmrMatch k) s = .next s)) ∧
    (capLive s k = true →
      (fieldOf (capCfg s k) 24 2 ≠ 0 → noteEdge s (fieldOf (capCfg s k) 26 6) (fieldOf (capCfg s k) 24 2) = true → tClk (s.tmr1 k) ≠ 3 →
        ∃ t, exec (.tmrCapture k) s = .next t ∧ SameBut [.tmr] s t ∧ (t.tmr1 k).cap = tCount s k % 2 ^ 32 ∧
          (t.tmr1 k).new = true ∧ (t.tmr1 k).ovr = ((s.tmr1 k).ovr || (s.tmr1 k).new) ∧
          (tPaired s k = true → (t.tmr1 (tMate k)).cap = tCount s k / 2 ^ 32) ∧
          ∀ j, j ≠ k → j ≠ tMate k → t.tmr1 j = s.tmr1 j) ∧
      (∃ t, exec (.tmrReject k) s = .next t ∧ SameBut [.tmr] s t ∧ (t.tmr1 k).rej = sat8 ((s.tmr1 k).rej + 1) ∧
        (t.tmr1 k).ovspd = true ∧ (t.tmr1 k).cnt = (s.tmr1 k).cnt ∧ ∀ j, j ≠ k → t.tmr1 j = s.tmr1 j) ∧
      (fieldOf (capCfg s k) 0 2 ≠ 0 → noteEdge s (fieldOf (capCfg s k) 2 6) (fieldOf (capCfg s k) 0 2) = true → (s.tmr1 k).run = false → (s.tmr1 k).acts = [] →
        ∃ t, exec (.tmrStartEdge k) s = .next t ∧ SameBut [.tmr] s t ∧ (t.tmr1 k).run = true ∧
          (t.tmr1 k).base = tNext s k)) ∧
    (∀ n : Fin 4, s.sys.mode ≠ .dormant → (pn s (ktId n Ktp.CFG)).testBit 4 = true → s.tmr.ktDue.get n = false →
      (pget s (ktId n Ktp.ALARM) ≤ (s.tmr.kt.get n : Int) →
        ∃ t, exec (.ktAlarm n) s = .next t ∧ SameBut (.tmr :: logging) s t ∧ t.tmr.ktStat = s.tmr.ktStat ||| 2 ^ n.val ∧
          t.tmr.ktDue.get n = true ∧ t.tmr.kt = s.tmr.kt) ∧
      ((s.tmr.kt.get n : Int) < pget s (ktId n Ktp.ALARM) → exec (.ktAlarm n) s = .next s))

/-- While the lines are sampled: a changed level of an input that is not stuck, held for FILT samples, is taken, with
the start of its active time; the active edge of a FIRE line ends a running test and peak support; an input active for
its stuck time is declared stuck, at that moment; a pulse that some sample saw and that is shorter than the filter is
counted; an output in limit turns off, and conducts again 100 ms later. A level that has not changed, or has not held
for FILT samples, changes nothing. Completes: flLevelChange, flStuck, flReject, flOutputLimit, flOutputResume. (R395,
R396, R465, R466, R468, R555) -/
def Obligations.TheFieldLinesFollowTheirLevels : Prop :=
  ∀ (s : State) (l : Line) (level : Bool) (held : Nat),
    ((s.fl.get l).level = level ∨ held < flFilt s l → exec (.flLevelChange l ⟨level, held⟩) s = .next s) ∧
    (linesLive s = true → flIsOut s l = false →
      ((s.fl.get l).level ≠ level → flFilt s l ≤ held → (s.fl.get l).stuck = false →
        ∃ t, exec (.flLevelChange l ⟨level, held⟩) s = .next t ∧ SameBut (switching ++ [.shb, .fl, .nvs]) s t ∧
          (t.fl.get l).level = level ∧ (t.fl.get l).stuck = false ∧
          ((t.fl.get l).since = if level != (flCfg s l).testBit 30 then some s.clock else none) ∧
          (flFunc s l = 7 → level ≠ (flCfg s l).testBit 30 → anyPup s = true → s.adm.queue = [] →
            t.bat.test = none ∧ t.bus.peakOp = none)) ∧
      (∀ at_, (s.fl.get l).since = some at_ → flRaw s l = true → (s.fl.get l).stuck = false → stuckClocks s l ≠ 0 →
        ∃ t, exec (.flStuck l) s = .next t ∧ SameBut (switching ++ passing ++ [.shb, .nvs]) s t ∧
          (t.fl.get l).stuck = true ∧ t.clock = max s.clock (at_ + stuckClocks s l)) ∧
      (0 < held → held < flFilt s l → ∃ t, exec (.flReject ⟨l, held⟩) s = .next t ∧ SameBut (.fl :: logging) s t ∧
        (t.fl.get l).rej = min 0xFFFF ((s.fl.get l).rej + 1) ∧ (t.fl.get l).level = (s.fl.get l).level) ∧
      (held = 0 ∨ flFilt s l ≤ held → exec (.flReject ⟨l, held⟩) s = .next s)) ∧
    (flIsOut s l = true → (s.fl.get l).out = true → (s.fl.get l).limited = false →
      ∃ t, exec (.flOutputLimit l) s = .next t ∧ SameBut [.fl] s t ∧ (t.fl.get l).limited = true ∧
        (t.fl.get l).limitAt = s.clock ∧ ∀ j, j ≠ l → t.fl.get j = s.fl.get j) ∧
    ((s.fl.get l).limited = true →
      ∃ t, exec (.flOutputResume l) s = .next t ∧ SameBut passing s t ∧
        t.clock = max s.clock ((s.fl.get l).limitAt + 100 * clkMs) ∧ (t.fl.get l).limited = false ∧
        (t.fl.get l).level = (s.fl.get l).level ∧ ∀ j, j ≠ l → (t.fl.get j).limited = (s.fl.get j).limited)

/-- While Xamir is up: a sample adds its energy to EXPORT for a positive power and to IMPORT else, and to nothing of a
channel that is not enabled, and latches a request that waits; a record that verifies is the newest; a fall of VDD_XM
writes the final record, and the rise restores the newest; the reference's loss and return are in the audit trail; the
seal's opening is counted and stored, at 65535 no more, and its closing commits what is staged under the next
generation. The periodic commands carry the clock to their instant: 65 536 clocks from one set of samples to the next,
250 ms, 1 s, 10 s. A register restored without a final record is the higher of its record and any value read or signed
(the model's reading of R348, log 95). Completes: xamirSample, vmiss, xamirRefresh, xamirStore, xamirPowerFail,
xamirPowerUp, xamirRefLost, xamirRefReturn, sealOpen, sealClose. (R341, R342, R343, R345, R346, R347, R348, R351,
R364, R365, R369, R370) -/
def Obligations.XamirCountsStoresAndSeals : Prop :=
  ∀ s : State, s.xam.fitted = true →
    (s.xam.powered = true →
      (∀ m : XamirSamples, ∃ t, exec (.xamirSample m) s = .next t ∧ SameBut (.freeCtr :: passing) s t ∧
        t.clock = max s.clock (s.xam.sampleAt + clkSample) ∧ t.xam.sampleAt = t.clock ∧ t.xam.nSum = s.xam.nSum + 1 ∧
        (∀ c : Ch, s.xam.cal.enabled.get c = false → t.xam.imp.get c = s.xam.imp.get c ∧ t.xam.exp.get c = s.xam.exp.get c) ∧
        (∀ c : Ch, s.xam.cal.enabled.get c = true →
          (0 < s.xam.powerOf m c → t.xam.imp.get c = s.xam.imp.get c ∧ (t.xam.exp.get c, t.xam.expRes.get c) =
            addEnergy (s.xam.exp.get c) (s.xam.expRes.get c) (sampleEnergy (s.xam.powerOf m c).natAbs)) ∧
          (s.xam.powerOf m c ≤ 0 → t.xam.exp.get c = s.xam.exp.get c ∧ (t.xam.imp.get c, t.xam.impRes.get c) =
            addEnergy (s.xam.imp.get c) (s.xam.impRes.get c) (sampleEnergy (s.xam.powerOf m c).natAbs))) ∧
        (∀ map ch, s.xam.snapWait = some (map, ch) → t.xam.snapWait = none ∧ ∃ p, t.xam.signing = some p ∧ p.map = map)) ∧
      (∀ (k : Fin 4) (mv t0 : Nat), (∃ c : Ch, s.xam.cal.enabled.get c = true ∧ s.xam.cal.vmap.get c = k) →
        s.xam.vLow.get k = some t0 → s.xam.vmiss.get k = false → mv < 4000 →
        ∃ t, exec (.vmiss k mv) s = .next t ∧ SameBut passing s t ∧ t.clock = max s.clock (t0 + clkS) ∧ t.xam.vmiss.get k = true ∧ t.xam.intVmiss = true ∧
          ∃ a, t.xam.audit.getLast? = some a ∧ a.code = 0x08 ∧ a.obj = 0x80 + k.val ∧ a.data = mv) ∧
      (∃ t, exec .xamirRefresh s = .next t ∧ SameBut passing s t ∧
        t.clock = max s.clock (s.xam.refreshAt + 250 * clkMs) ∧ t.xam.refreshAt = t.clock ∧ t.xam.shadow.imp = s.xam.imp ∧
        t.xam.shadow.exp = s.xam.exp ∧ t.xam.shadow.status = t.xam.status ∧ t.xam.shadow.snapSeq = s.xam.snapSeq ∧
        t.xam.nSum = 0 ∧ t.xam.imp = s.xam.imp) ∧
      (∃ t, exec (.xamirStore true) s = .next t ∧ SameBut passing s t ∧ t.clock = max s.clock (s.xam.storeAt + clkS) ∧
        t.xam.storeAt = t.clock ∧ t.xam.recNew = some s.xam.record ∧
        t.xam.recOld = s.xam.recNew ∧ t.xam.storeFail = false) ∧
      (∃ t, exec (.xamirStore false) s = .next t ∧ SameBut passing s t ∧ t.clock = max s.clock (s.xam.storeAt + clkS) ∧
        t.xam.recNew = s.xam.recNew ∧ t.xam.recOld = none ∧ t.xam.recBad = true ∧
        t.xam.storeFail = true) ∧
      (∃ t, exec (.xamirPowerFail true) s = .next t ∧ SameBut ([.xam, .met] ++ telling) s t ∧ t.xam.powered = false ∧
        ∃ r, t.xam.recNew = some r ∧ r.imp = s.xam.imp ∧ r.exp = s.xam.exp ∧ r.sealCnt = s.xam.sealCount) ∧
      (∃ t, exec (.xamirPowerFail false) s = .next t ∧ SameBut ([.xam, .met] ++ telling) s t ∧ t.xam.powered = false ∧
        t.xam.recNew = s.xam.recNew) ∧
      (s.xam.osc = false → ∃ t, exec .xamirRefLost s = .next t ∧ SameBut [.xam] s t ∧ t.xam.osc = true ∧
        t.xam.intOsc = true ∧ ∃ a, t.xam.audit.getLast? = some a ∧ a.code = 0x06) ∧
      (s.xam.osc = true → ∃ t, exec .xamirRefReturn s = .next t ∧ SameBut passing s t ∧
        t.clock = max s.clock (s.xam.oscAt + 10 * clkS) ∧ t.xam.osc = false ∧
        ∃ a, t.xam.audit.getLast? = some a ∧ a.code = 0x07) ∧
      (s.xam.sealOpen = false → s.xam.sealCount < 65534 →
        ∃ t, exec .sealOpen s = .next t ∧ SameBut [.xam] s t ∧ t.xam.sealOpen = true ∧
          t.xam.sealCount = s.xam.sealCount + 1 ∧ (∃ a, t.xam.audit.getLast? = some a ∧ a.code = 0x03) ∧
          ∃ r, t.xam.recNew = some r ∧ r.sealCnt = s.xam.sealCount + 1) ∧
      (s.xam.sealCount = 65535 → exec .sealOpen s = .next s) ∧
      (s.xam.sealOpen = true →
        (s.xam.metro.staged = [] → ∃ t, exec .sealClose s = .next t ∧ SameBut [.xam] s t ∧ t.xam.sealOpen = false ∧
          t.xam.calGen = s.xam.calGen ∧ t.xam.cal = s.xam.cal) ∧
        (s.xam.metro.staged ≠ [] → ∃ t, exec .sealClose s = .next t ∧ SameBut [.xam] s t ∧ t.xam.sealOpen = false ∧
          t.xam.calGen = (s.xam.calGen + 1) % 2 ^ 32 ∧ t.xam.cal = s.xam.metro.staged.foldl XCal.take s.xam.cal ∧
          t.xam.metro.staged = []))) ∧
    (s.xam.powered = false → ∀ (low : Bool) (r : XRec), s.xam.recNew = some r →
      ∃ t, exec (.xamirPowerUp low) s = .next t ∧ SameBut ([.xam, .met] ++ telling) s t ∧ t.xam.powered = true ∧
        (∀ c : Ch, t.xam.imp.get c = max (r.imp.get c) (s.xam.shownImp.get c) ∧
          t.xam.exp.get c = max (r.exp.get c) (s.xam.shownExp.get c)) ∧
        t.xam.calGen = r.calGen ∧ (low = false → t.xam.sealOpen = false ∧ t.xam.sealCount = r.sealCnt) ∧
        (low = true → r.sealCnt < 65534 → t.xam.sealOpen = true ∧ t.xam.sealCount = r.sealCnt + 1))

/-- While Xamir is up: a READ within the register file answers its registers, and one beyond it BAD_ADDR; a SNAP_REQ
while one is in hand is BUSY and changes nothing else, one of map 0 selects the certificate, and any other waits for
the next sample; a fetch with nothing to fetch is NOT_READY; signing ends with the snapshot sequence advanced; an
undefined command is counted and answered BAD_CMD, a bad length is counted and not answered. A SNAP_READ of source 3
is refused without a meter, and with a free Xamir makes its request. Completes: xamirRead, snapReq, snapFetch,
snapshotSigned, xamirFrameRejected, snapReadXamir. (R333, R349, R350, R351, R352, R353, R358, R359) -/
def Obligations.XamirAnswersOnItsPort : Prop :=
  ∀ s : State,
    (xamUp s = true → ∀ seq : Byte,
      (∀ (addr : Nat) (count : Fin 64),
        (addr + count.val + 1 ≤ 0x980 → ∃ t, exec (.xamirRead addr count seq) s = .next t ∧ SameBut [.xam] s t ∧
          t.xam.shadow = s.xam.shadow ∧ t.xam.resp.length = count.val + 3 ∧
          t.xam.resp.take (count.val + 2) = wd (2 ^ 28 + count.val * 2 ^ 16 + seq.toNat) ::
            (List.range (count.val + 1)).map fun k => wd (s.xam.shadow.reg (addr + k))) ∧
        (0x980 < addr + count.val + 1 → ∃ t, exec (.xamirRead addr count seq) s = .next t ∧ SameBut [.xam] s t ∧
          t.xam.resp.head? = some (wd (2 ^ 28 + XRes.BAD_ADDR * 2 ^ 24 + seq.toNat)) ∧ t.xam.resp.length = 2)) ∧
      (∀ (map : Nat) (ch : Word),
        (s.xam.busy = true → ∃ t, exec (.snapReq map ch seq) s = .next t ∧ SameBut [.xam] s t ∧
          t.xam.snapWait = s.xam.snapWait ∧ t.xam.signing = s.xam.signing ∧
          t.xam.resp.head? = some (wd (2 * 2 ^ 28 + XRes.BUSY * 2 ^ 24 + seq.toNat))) ∧
        (s.xam.busy = false → map % 2 ^ 24 ≠ 0 → ∃ t, exec (.snapReq map ch seq) s = .next t ∧ SameBut [.xam] s t ∧
          t.xam.snapWait = some (map % 2 ^ 24, ch.toNat) ∧ t.xam.snap = none ∧ t.xam.certSel = false) ∧
        (s.xam.busy = false → map % 2 ^ 24 = 0 → ∃ t, exec (.snapReq map ch seq) s = .next t ∧ SameBut [.xam] s t ∧
          t.xam.snapWait = none ∧ t.xam.certSel = true)) ∧
      (∀ (ofs : Nat) (count : Fin 64),
        (s.xam.fetchWords = none → ∃ t, exec (.snapFetch ofs count seq) s = .next t ∧ SameBut [.xam] s t ∧
          t.xam.resp.head? = some (wd (3 * 2 ^ 28 + XRes.NOT_READY * 2 ^ 24 + seq.toNat))) ∧
        (∀ l, s.xam.fetchWords = some l → ofs + count.val + 1 ≤ l.length →
          ∃ t, exec (.snapFetch ofs count seq) s = .next t ∧ SameBut [.xam] s t ∧
            (t.xam.resp.drop 1).take (count.val + 1) = ((l.drop ofs).take (count.val + 1)).map wd)) ∧
      (∀ p, s.xam.signing = some p → s.met.running = none →
        ∃ t, exec .snapshotSigned s = .next t ∧ SameBut [.xam] s t ∧ t.xam.signing = none ∧
          t.xam.snap = some (p.body ++ Config.xamirSign (sha256 p.body)) ∧
          t.xam.snapSeq = (s.xam.snapSeq + 1) % 2 ^ 32) ∧
      (∀ cmd : Nat, cmd = 0 ∨ 3 < cmd →
        ∃ t, exec (.xamirFrameRejected (.badCmd cmd) seq) s = .next t ∧ SameBut [.xam] s t ∧
          t.xam.rejects = sat32 (s.xam.rejects + 1) ∧
          t.xam.resp.head? = some (wd (cmd % 16 * 2 ^ 28 + XRes.BAD_CMD * 2 ^ 24 + seq.toNat))) ∧
      (∃ t, exec (.xamirFrameRejected .badLength seq) s = .next t ∧ SameBut [.xam] s t ∧ t.xam.resp = [] ∧
        t.xam.rejects = sat32 (s.xam.rejects + 1)) ∧
      (∃ t, exec (.xamirFrameRejected .badCrc seq) s = .next t ∧ SameBut [.freeCtr, .xam] s t ∧
        t.xam.rejects = s.xam.rejects ∧ t.xam.resp.length = 2)) ∧
    (∀ (n : Mb) (tag : Nat) (a b : Word), Calm n 0x50 tag [a, b] s → sessionGate s n 0x50 = none → a.field 24 8 = 3 →
      (meterPresent s = false → ∃ t, exec (.snapReadXamir n) s = .next t ∧ SameBut [.inq, .outq, .deolo, .link] s t ∧
        (t.outq.get n).words = message 0x50 tag 1 St.REFUSED []) ∧
      (meterPresent s = true →
        ((∃ k : Ch, a.bit k.val = true ∧ s.met.mirror.chmap.testBit k.val = false) →
          ∃ t, exec (.snapReadXamir n) s = .next t ∧ SameBut [.inq, .outq, .deolo, .link] s t ∧
            (t.outq.get n).words = message 0x50 tag 1 St.RANGE []) ∧
        ((∀ k : Ch, a.bit k.val = true → s.met.mirror.chmap.testBit k.val = true) → a.field 0 24 ≠ 0 →
          s.met.running = none → s.met.waiting = [] → s.xam.busy = false →
          ∃ t, exec (.snapReadXamir n) s = .next t ∧ SameBut [.inq, .deolo, .xam, .met] s t ∧
            t.xam.snapWait = some (a.field 0 24, b.toNat) ∧ ∃ id, t.met.running = some (id, a.field 0 24, b.toNat))))

/-- While Xamir is up: a sign-on begins a session outside programming mode at the rate asked for and sends
identification and readout; P1 enters programming mode only with the seal open, else ERR01; R1 answers a readable
identifier and ERR02 else; W1 answers ERR01 with the seal closed, and with it open stages a value in range, begins a
capture, and answers ERR02 for an identifier that is only read and ERR03 out of range; a steady zero capture of 10 s
is kept; 120 s without a command end the session. Completes: metroSignOn, metroP1, metroR1Read, metroW1Write,
metroCaptureEnd, metroTimeout. (R366, R367, R368) -/
def Obligations.TheMetrologyPortReadsStagesAndCaptures : Prop :=
  ∀ s : State, xamUp s = true →
    (∀ code : Nat, ∃ t, exec (.metroSignOn code) s = .next t ∧ SameBut [.xam] s t ∧ t.xam.metro.on = true ∧
      t.xam.metro.prog = false ∧ t.xam.metro.baud = metroRate code 300 ∧ t.xam.metro.staged = s.xam.metro.staged ∧
      ∃ d, t.xam.metro.tx = s.xam.metro.tx ++ [.ident (Config.xamirVersion % 2 ^ 16), .data d] ∧
        ∀ c : Ch, s.xam.cal.enabled.get c = true → (MetroId.energyImport c, (s.xam.imp.get c : Int)) ∈ d) ∧
    (s.xam.metro.on = true →
      (s.xam.sealOpen = true → ∃ t, exec .metroP1 s = .next t ∧ SameBut [.xam] s t ∧ t.xam.metro.prog = true ∧
        t.xam.metro.tx = s.xam.metro.tx ++ [.ack]) ∧
      (s.xam.sealOpen = false → ∃ t, exec .metroP1 s = .next t ∧ SameBut [.xam] s t ∧
        t.xam.metro.prog = s.xam.metro.prog ∧ t.xam.metro.tx = s.xam.metro.tx ++ [.err 1]) ∧
      (∀ id v, s.xam.sealOpen = false → ∃ t, exec (.metroW1Write id v) s = .next t ∧ SameBut [.xam] s t ∧
        t.xam.metro = { s.xam.metro with tx := s.xam.metro.tx ++ [.err 1], lastAt := s.clock } ∧ t.xam.cal = s.xam.cal) ∧
      (s.xam.metro.capture = none → ∃ t, exec .metroTimeout s = .next t ∧ SameBut passing s t ∧
        t.clock = max s.clock (s.xam.metro.lastAt + 120 * clkS) ∧ t.xam.metro.on = false ∧
        t.xam.metro.prog = false ∧ t.xam.metro.baud = 300 ∧ t.xam.metro.staged = s.xam.metro.staged)) ∧
    (s.xam.metro.prog = true → ∀ id,
      (∀ v, metroValue s.xam id = some v → ∃ t, exec (.metroR1Read id) s = .next t ∧ SameBut [.xam] s t ∧
        t.xam.metro.tx = s.xam.metro.tx ++ [.data [(id, v)]]) ∧
      (metroValue s.xam id = none → ∃ t, exec (.metroR1Read id) s = .next t ∧ SameBut [.xam] s t ∧
        t.xam.metro.tx = s.xam.metro.tx ++ [.err 2])) ∧
    (s.xam.metro.on = true → s.xam.metro.prog = true → s.xam.sealOpen = true → s.xam.metro.capture = none → ∀ (c : Ch) (v : Int),
      (v = 0 ∨ v = 1 → ∃ t, exec (.metroW1Write (.chEnable c) v) s = .next t ∧ SameBut [.xam] s t ∧
        t.xam.metro.staged.getLast? = some (.enable c (v == 1)) ∧ t.xam.cal = s.xam.cal ∧
        t.xam.metro.tx = s.xam.metro.tx ++ [.ack]) ∧
      (v < 0 ∨ 1000 < v → ∃ t, exec (.metroW1Write (.chNoLoad c) v) s = .next t ∧ SameBut [.xam] s t ∧
        t.xam.metro.staged = s.xam.metro.staged ∧ t.xam.metro.tx = s.xam.metro.tx ++ [.err 3]) ∧
      (∃ t, exec (.metroW1Write (.energyImport c) v) s = .next t ∧ SameBut [.xam] s t ∧ t.xam.imp = s.xam.imp ∧
        t.xam.metro.tx = s.xam.metro.tx ++ [.err 2]) ∧
      (-0x80000000 ≤ v → v ≤ 0x7FFFFFFF → ∃ t, exec (.metroW1Write (.zeroI c) v) s = .next t ∧ SameBut [.xam] s t ∧
        t.xam.metro.capture = some (curInput c, false, v) ∧ t.xam.metro.tx = s.xam.metro.tx)) ∧
    (∀ (input : Fin 28) (v mean : Int), s.xam.metro.capture = some (input, false, v) →
      (∃ t, exec (.metroCaptureEnd mean true) s = .next t ∧ SameBut passing s t ∧
        t.clock = max s.clock (s.xam.metro.capAt + 10 * clkS) ∧ t.xam.metro.capture = none ∧
        t.xam.metro.zeros.getLast? = some (input, v, mean) ∧ t.xam.metro.tx = s.xam.metro.tx ++ [.ack]) ∧
      (∃ t, exec (.metroCaptureEnd mean false) s = .next t ∧ SameBut passing s t ∧
        t.clock = max s.clock (s.xam.metro.capAt + 10 * clkS) ∧ t.xam.metro.capture = none ∧
        t.xam.metro.zeros = s.xam.metro.zeros ∧ t.xam.metro.tx = s.xam.metro.tx ++ [.err 4]))

/-- While the firmware watches a fitted Xamir: a copy takes the shadow file, keeps the larger of the old and the new
energy, and sets bit 24 of MET.XCHK when one would fall; an answered poll makes the meter present and tells the host,
and the third failed one silent, with every SNAP_READ in hand ended; the tenth minute of difference of a channel sets
its bit of MET.XCHK. Each carries the clock to its instant: 1 s, 100 ms and 60 s after the last. Completes: metCopy,
metPoll, metCrossCheck. (R354, R355, R360, R361, R362) -/
def Obligations.TheMeterIsMirroredPolledAndCompared : Prop :=
  ∀ s : State, metActs s = true →
    (s.xam.powered = true → s.met.st = 2 →
      ∃ t, exec .metCopy s = .next t ∧ SameBut (.met :: passing) s t ∧ t.clock = max s.clock (s.met.copiedAt + clkS) ∧
        (∀ c : Ch, t.met.mirror.imp.get c = max (s.met.mirror.imp.get c) (s.xam.shadow.imp.get c) ∧
          t.met.mirror.exp.get c = max (s.met.mirror.exp.get c) (s.xam.shadow.exp.get c)) ∧
        t.met.mirror.chmap = s.xam.shadow.chmap ∧ t.met.mirror.sealCnt = s.xam.shadow.sealCnt ∧
        t.met.copiedAt = t.clock ∧
        ((∃ c : Ch, s.xam.shadow.imp.get c < s.met.mirror.imp.get c ∨ s.xam.shadow.exp.get c < s.met.mirror.exp.get c) →
          t.met.xchk.testBit 24 = true) ∧
        ((∀ c : Ch, s.met.mirror.imp.get c ≤ s.xam.shadow.imp.get c ∧ s.met.mirror.exp.get c ≤ s.xam.shadow.exp.get c) →
          t.met.xchk = s.met.xchk)) ∧
    (s.xam.powered = true →
      (s.met.st = 2 → ∃ t, exec (.metPoll true) s = .next t ∧ SameBut (.met :: passing) s t ∧
        t.clock = max s.clock (s.met.pollAt + 100 * clkMs) ∧ t.met.fails = 0 ∧ t.met.st = 2) ∧
      (s.met.st = 1 → ∃ t, exec (.metPoll true) s = .next t ∧ SameBut (.met :: passing) s t ∧ t.met.st = 2 ∧
        t.met.fails = 0 ∧ t.met.xid = xId ∧ t.link.irqStatus.testBit Irq.METER = true)) ∧
    (s.met.fails < 2 → s.met.st = 2 →
      ∃ t, exec (.metPoll false) s = .next t ∧ SameBut (.met :: passing) s t ∧
        t.clock = max s.clock (s.met.pollAt + 100 * clkMs) ∧ t.met.fails = s.met.fails + 1 ∧ t.met.st = 2) ∧
    (2 ≤ s.met.fails → s.met.st = 2 →
      ∃ t, exec (.metPoll false) s = .next t ∧ SameBut (.met :: passing) s t ∧ t.met.st = 1 ∧
        t.met.waiting = [] ∧ t.met.running = none ∧ t.link.irqStatus.testBit Irq.METER = true) ∧
    (s.met.st = 2 →
      ∃ t, exec .metCrossCheck s = .next t ∧ SameBut (.met :: passing) s t ∧
        t.clock = max s.clock (s.met.crossAt + 60 * clkS) ∧ t.met.nMin = 0 ∧
        (∀ c : Ch, t.met.pMin.get c = 0) ∧
        (s.met.nMin ≠ 0 → ∀ c : Ch, s.met.mirror.chmap.testBit c.val = true → (crossDiffers s c).2 = true →
          9 ≤ s.met.differ.get c → t.met.xchk.testBit c.val = true) ∧
        (s.met.nMin = 0 → t.met.xchk = s.met.xchk))

/-- A good frame of type STATUS or RESERVE that another Hatan sends, on a port that its node kind uses, changes
nothing of the state but that peer's entry and the list that detects duplicates: STATUS sets its mode, stage and
flags, RESERVE its reserve, load and stage. No mode, shedding stage, admission or other state of the receiver changes,
whatever mode the peer reports. Completes: status, reserve. (R460) -/
def Obligations.StatusAndReserveOfPeersAreOnlyRecorded : Prop :=
  ∀ (s : State) (f : ShbFrame) (k : Fin 8), portHears s f.port = true → frameRepeats s f = false →
    frameKnown s f = true → portFits s f = true → sender f = some k → k ≠ ownNode s →
    (f.type = Shm.STATUS → ∃ t peer seen, exec (.status f) s = .next t ∧
      t = { s with shb := { s.shb with peer := peer, seen := seen } } ∧
      peer.get k = { s.shb.peer.get k with
        heard := true, at_ := s.clock, mode := fByte f 2 % 16, stage := fByte f 3 % 16, flags := fByte f 4 } ∧
      ∀ j, j ≠ k → peer.get j = s.shb.peer.get j) ∧
    (f.type = Shm.RESERVE → ∃ t peer seen, exec (.reserve f) s = .next t ∧
      t = { s with shb := { s.shb with peer := peer, seen := seen } } ∧
      peer.get k = { s.shb.peer.get k with
        heard := true, at_ := s.clock, reserve := (fField f 2 4, fField f 6 4, fByte f 10) } ∧
      ∀ j, j ≠ k → peer.get j = s.shb.peer.get j)

/-- ANNOUNCE of a Hatan makes it present with its ranges; ANNOUNCE of a bound rectifier makes it a device with its
range and rating; CLOCK of the clock master sets SHB.CLOCK_OFS; RECT_SET of another Hatan to a bound rectifier sets
CONFLICT; RECT_STAT to this node stores the rectifier's state, and one that carries the last sequence count answers;
BMOD_STAT stores the module's state. The entries of others stay, and so does everything outside the Share Bus, the
recorder and the notices. Completes: announce, clock, rectSet, rectStat, bmodStat. (R445, R450, R453, R454, R456,
R457, R459) -/
def Obligations.FramesOfPeersAndDevicesAreTaken : Prop :=
  ∀ (s : State) (f : ShbFrame), portHears s f.port = true → frameRepeats s f = false → frameKnown s f = true →
    portFits s f = true →
    (∀ k, sender f = some k → k ≠ ownNode s →
      (f.type = Shm.ANNOUNCE → fByte f 2 = 0 → ∃ t, exec (.announce f) s = .next t ∧ SameBut (.shb :: logging) s t ∧
        (t.shb.peer.get k).present = true ∧ (t.shb.peer.get k).lo = fByte f 3 / 16 ∧
        (t.shb.peer.get k).hi = fByte f 3 % 16 ∧ (t.shb.peer.get k).lo2 = fByte f 4 / 16 ∧
        (t.shb.peer.get k).hi2 = fByte f 4 % 16 ∧ (t.shb.peer.get k).at_ = s.clock ∧
        ∀ j, j ≠ k → t.shb.peer.get j = s.shb.peer.get j) ∧
      (f.type = Shm.CLOCK → clockMaster s = some k → ∃ t, exec (.clock f) s = .next t ∧ SameBut [.shb] s t ∧
        t.shb.clockOfs = (fField f 2 5 : Int) - (optime s : Int)) ∧
      (f.type = Shm.RECT_SET → ∀ c, devWith s f.dst = some c → ∃ t, exec (.rectSet f) s = .next t ∧
        SameBut (.shb :: logging) s t ∧ (t.shb.dev.get c) = { s.shb.dev.get c with conflict := true } ∧
        ∀ d, d ≠ c → t.shb.dev.get d = s.shb.dev.get d)) ∧
    (8 ≤ f.src →
      (f.type = Shm.ANNOUNCE → fByte f 2 = 1 → ∀ c, devWith s f.src = some c →
        ∃ t, exec (.announce f) s = .next t ∧ SameBut (.shb :: logging) s t ∧ (t.shb.dev.get c).announced = true ∧
          (t.shb.dev.get c).genLo = fByte f 3 / 16 ∧ (t.shb.dev.get c).genHi = fByte f 3 % 16 ∧
          (t.shb.dev.get c).rating = fField f 6 4 ∧ (t.shb.dev.get c).at_ = s.clock ∧
          ∀ d, d ≠ c → t.shb.dev.get d = s.shb.dev.get d) ∧
      (f.type = Shm.RECT_STAT → f.dst = (ownNode s).val → ∀ c, devWith s f.src = some c →
        ∃ t, exec (.rectStat f) s = .next t ∧ SameBut [.shb] s t ∧ (t.shb.dev.get c).flags = fByte f 3 ∧
          (t.shb.dev.get c).outMv = fField f 4 4 ∧ (t.shb.dev.get c).outMa = fField f 8 4 ∧
          (t.shb.dev.get c).temp = signedOf 16 (fField f 12 2) ∧ (t.shb.dev.get c).fault = fField f 14 2 ∧
          ((s.shb.dev.get c).lastSeq = some (fByte f 2) →
            (t.shb.dev.get c).answered = true ∧ (t.shb.dev.get c).miss = 0) ∧
          ((s.shb.dev.get c).lastSeq ≠ some (fByte f 2) →
            (t.shb.dev.get c).answered = (s.shb.dev.get c).answered ∧
              (t.shb.dev.get c).miss = (s.shb.dev.get c).miss) ∧
          ∀ d, d ≠ c → t.shb.dev.get d = s.shb.dev.get d) ∧
      (f.type = Shm.BMOD_STAT → ∀ k j, modWith s f.src = some (k, j) →
        ∃ t, exec (.bmodStat f) s = .next t ∧ SameBut (.shb :: logging) s t ∧
          (t.shb.mod.get k).get j = {
            present := true, absent := false, mv := fField f 2 4, hi := fField f 6 2, lo := fField f 8 2
            temp := signedOf 16 (fField f 10 2), flags := fByte f 12, soc := fByte f 13, at_ := s.clock } ∧
          ∀ i m, (i, m) ≠ (k, j) → (t.shb.mod.get i).get m = (s.shb.mod.get i).get m))

/-- Where the port does not receive, or the frame repeats one of the last 100 ms in the redundant mode, nothing
changes. A frame of an unknown kind, type, length, address or generation, and one on the port of the other node kind
(the model's choice, log 98), is counted in SHB.RX_IGNORED and does nothing else. A frame that carries this Hatan's
own node as its source changes no entry of the Share Bus; it is recorded. Completes: shbRxIgnored. (R444, R445, R447,
R458, R461, R462, R470) -/
def Obligations.FramesThatAreNotActedOn : Prop :=
  ∀ (s : State) (f : ShbFrame),
    ((portHears s f.port = false ∨ frameRepeats s f = true) →
      ∀ i ∈ [Instr.announce f, .status f, .reserve f, .clock f, .rectSet f, .rectStat f, .bmodStat f, .shbRxIgnored f],
        exec i s = .next s) ∧
    (portHears s f.port = true → frameRepeats s f = false → frameKnown s f = false ∨ portFits s f = false →
      ∃ t, exec (.shbRxIgnored f) s = .next t ∧ SameBut [.shb] s t ∧
        t.shb = { s.shb with ignored := sat32 (s.shb.ignored + 1), seen := t.shb.seen }) ∧
    (portHears s f.port = true → frameRepeats s f = false → frameKnown s f = true → portFits s f = true →
      sender f = some (ownNode s) → ∀ i ∈ [Instr.announce f, .status f, .reserve f, .clock f, .rectSet f, .rectStat f, .bmodStat f, .shbRxIgnored f],
        ∃ t, exec i s = .next t ∧ SameBut (.shb :: logging) s t ∧ t.shb = { s.shb with seen := t.shb.seen })

/-- While the firmware runs: each sending timer carries the clock to its instant and sends its one frame, on the ports
of Table 17.2, where a port can send and the generation allows it, and sends nothing otherwise; 3 s of silence end a
peer's presence, a rectifier's rating and a module's presence; a higher generation that has held its 10 s is in force;
bus-off is counted in BOFF and takes the port off, and recovery clears both error counters. TEC 255 in bus-off and the
cleared counters are the model's reading of ISO 11898-1. While the firmware does not run the sending timers do
nothing. Completes: announceTimer, statusTimer, reserveTimer, clockTimer, peerTimeout, rectRatingTimeout,
moduleAbsent, genBusRise, busOff, busOffRecovery. (R448, R450, R454, R456, R457, R458, R459, R461) -/
def Obligations.TimersAndBusOffOfTheShareBus : Prop :=
  ∀ s : State,
    (shbRuns s = false → ∀ i ∈ [Instr.announceTimer, .statusTimer, .reserveTimer, .clockTimer], exec i s = .next s) ∧
    (shbRuns s = true →
      (∃ t, exec .announceTimer s = .next t ∧ SameBut (.shb :: passing) s t ∧
        t.clock = max s.clock (s.shb.annAt + 1000 * clkMs) ∧ t.shb.annAt = t.clock ∧
        (canSend s Shm.ANNOUNCE = false → t.shb.sent = s.shb.sent ∧ t.shb.seq = s.shb.seq) ∧
        (canSend s Shm.ANNOUNCE = true → t.shb.seq = (s.shb.seq + 1) % 256 ∧ (t.shb.peer.get (ownNode s)).present = true ∧
          ∃ f, t.shb.sent = s.shb.sent ++ [f] ∧ f.type = Shm.ANNOUNCE ∧ f.dst = 0xFF ∧
            f.ports = framePorts s Shm.ANNOUNCE ∧ f.src = pn s Prm.SHB_NODE % 8)) ∧
      (∃ t, exec .statusTimer s = .next t ∧ SameBut (.shb :: passing) s t ∧
        t.clock = max s.clock (s.shb.statAt + 100 * clkMs) ∧ t.shb.statAt = t.clock ∧
        (canSend s Shm.STATUS = false → t.shb.sent = s.shb.sent ∧ t.shb.seq = s.shb.seq) ∧
        (canSend s Shm.STATUS = true → t.shb.seq = (s.shb.seq + 1) % 256 ∧
          t.shb.sent = s.shb.sent ++ [{ prio := statusPrio s.sys.mode, type := Shm.STATUS, dst := 0xFF, bytes :=
            [64, s.shb.seq, s.sys.prevMode.code * 16 + s.sys.mode.code, s.bus.stage, statusFlags s, 0, 0, 0],
                                        src := pn s Prm.SHB_NODE % 8, ports := framePorts s Shm.STATUS }])) ∧
      (∃ t, exec .reserveTimer s = .next t ∧ SameBut (.shb :: passing) s t ∧
        t.clock = max s.clock (s.shb.resAt + 1000 * clkMs) ∧
        (canSend s Shm.RESERVE = false ∨ s.shb.gen < 2 ∨ s.shb.listen = true ∨ fullShb s.sys.mode = false →
          t.shb = { s.shb with resAt := t.clock }) ∧
        (canSend s Shm.RESERVE = true → s.shb.listen = false → fullShb s.sys.mode = true → 2 ≤ s.shb.gen →
          ∃ f, t.shb = { s.shb with resAt := t.clock, seq := (s.shb.seq + 1) % 256, sent := s.shb.sent ++ [f] } ∧
            f.type = Shm.RESERVE ∧ f.dst = 0xFF)) ∧
      (∃ t, exec .clockTimer s = .next t ∧ SameBut (.shb :: passing) s t ∧ t.shb.clockSec = optime t / 1024 ∧
        (canSend s Shm.CLOCK = false ∨ s.shb.gen ≠ 3 ∨ clockMaster s ≠ some (ownNode s) → t.shb.sent = s.shb.sent) ∧
        (canSend s Shm.CLOCK = true → s.shb.listen = false → fullShb s.sys.mode = true → s.shb.gen = 3 →
          clockMaster s = some (ownNode s) →
          ∃ f, t.shb = { s.shb with
            clockSec := optime t / 1024, seq := (s.shb.seq + 1) % 256, sent := s.shb.sent ++ [f] } ∧ f.type = Shm.CLOCK ∧
            f.dst = 0xFF ∧ f.bytes = [192, s.shb.seq] ++ beBytes 5 (optime t) ++ beBytes 4 s.mb.cycle ++ [0, 0, 0, 0, 0, 0])) ∧
      (∀ k, (s.shb.peer.get k).present = true → k ≠ ownNode s →
        ∃ t, exec (.peerTimeout k) s = .next t ∧ SameBut (.shb :: passing) s t ∧
          t.clock = max s.clock ((s.shb.peer.get k).at_ + 3 * clkS) ∧
          t.shb.peer.get k = { s.shb.peer.get k with present := false } ∧
          ∀ j, j ≠ k → t.shb.peer.get j = s.shb.peer.get j) ∧
      (∀ c, (s.shb.dev.get c).rating ≠ 0 →
        ∃ t, exec (.rectRatingTimeout c) s = .next t ∧ SameBut (.shb :: passing) s t ∧
          t.clock = max s.clock ((s.shb.dev.get c).at_ + 3 * clkS) ∧
          t.shb.dev.get c = { s.shb.dev.get c with rating := 0 } ∧
          ∀ d, d ≠ c → t.shb.dev.get d = s.shb.dev.get d) ∧
      (∀ a k j, modWith s a = some (k, j) → ((s.shb.mod.get k).get j).absent = false →
        ∃ t, exec (.moduleAbsent k a) s = .next t ∧ SameBut (.shb :: passing) s t ∧
          t.clock = max s.clock (((s.shb.mod.get k).get j).at_ + 3 * clkS) ∧
          (t.shb.mod.get k).get j = { (s.shb.mod.get k).get j with present := false, absent := true }) ∧
      (∀ g, s.shb.rise = some g →
        ∃ t, exec .genBusRise s = .next t ∧ SameBut (.shb :: passing) s t ∧
          t.shb = { s.shb with gen := g, rise := none } ∧ t.clock = max s.clock (s.shb.riseAt + 10 * clkS))) ∧
    (∀ p, portHears s p = true → ∃ t, exec (.busOff p) s = .next t ∧ SameBut (.shb :: logging) s t ∧
      t.shb.port.get p = { s.shb.port.get p with off := true, tec := 255, boff := sat8 ((s.shb.port.get p).boff + 1) } ∧
      ∀ q, q ≠ p → t.shb.port.get q = s.shb.port.get q) ∧
    (∀ p, shbRuns s = true → (s.shb.port.get p).off = true →
      ∃ t, exec (.busOffRecovery p) s = .next t ∧ SameBut (.shb :: logging) s t ∧
        t.shb.port.get p = { s.shb.port.get p with off := false, tec := 0, rec_ := 0 } ∧
        ∀ q, q ≠ p → t.shb.port.get q = s.shb.port.get q)

/-- The next write is a journal entry if one waits, else the oldest. One whose read-back matches brings its body into
force with the next SEQ and the format of the running image, and every other record is as it was; one that fails twice
leaves every record in force and sets WRITE_FAIL; an intent, or the entry that clears one, is the newest entry of the
journal. With no write queued, or with HOLD below 12.0 V on its own, nothing happens. Completes: recordWrite. (R475,
R476, R477, R484) -/
def Obligations.RecordWritesComeIntoForceOrFail : Prop :=
  ∀ (s : State) (n : Nat),
    (s.nvs.queue = [] → exec (.recordWrite n) s = .next s) ∧
    (writesBegin s = false → exec (.recordWrite n) s = .next s) ∧
    (writesBegin s = true → ∀ p, nextWrite s = some p →
      ∃ t, exec (.recordWrite n) s = .next t ∧ SameBut (logging ++ [.cnv, .nvs]) s t ∧
        (∀ q ∈ t.nvs.queue, ¬(q.rtype = p.rtype ∧ q.inst = p.inst ∧ q.intent = p.intent ∧ q.clears = p.clears)) ∧
        (p.clears = none → p.intent = true → t.nvs.recs = s.nvs.recs ∧ t.nvs.journal.getLast? =
          some ⟨nextJournalSeq s, .inl ⟨p.rtype, p.inst, nextSlotSeq s p.rtype p.inst, p.body⟩⟩) ∧
        (∀ k, p.clears = some k → t.nvs.recs = s.nvs.recs ∧
          t.nvs.journal.getLast? = some ⟨nextJournalSeq s, .inr k⟩) ∧
        (p.toJournal = false → n < 2 →
          inForce t p.rtype p.inst = some
            { seq := nextSlotSeq s p.rtype p.inst, fmt := imgFormat (runBank s) p.rtype, body := p.body } ∧
          t.nvs.journal = s.nvs.journal ∧ ∀ a b, ¬(a = p.rtype ∧ b = p.inst) → findRec t a b = findRec s a b) ∧
        (p.toJournal = false → 2 ≤ n →
          (∀ a b, inForce t a b = inForce s a b) ∧ t.nvs.journal = s.nvs.journal ∧ t.nvs.writeFail = true))

/-- While no write is queued, the scrubber takes a word at or past its position. A single-bit error counts as
corrected, a double-bit error in a slot makes that slot invalid and counts as uncorrected, and one in a journal entry,
in the first three units of a half of the safety sheet or in an image makes that entry, half or bank invalid. The
position passes the word; after the last word of the store it is 0 and the sweep's end is noted. A word behind the
position, and a scrubber that does not run, do nothing. Completes: scrub. (R261, R475, R487) -/
def Obligations.TheScrubberActsOnWhatItFinds : Prop :=
  ∀ (s : State) (a : Nat),
    ((scrubs s = false ∨ a < s.nvs.scrubPos) → ∀ x, exec (.scrub a x) s = .next s) ∧
    (scrubs s = true → s.nvs.scrubPos ≤ a → a < 0x600000 → a % 4 = 0 →
      let pos : Store → Prop := fun v => if 0x600000 ≤ a + 4 then v.scrubPos = 0 ∧ v.scrubLast = optime s
        else v.scrubPos = a + 4 ∧ v.scrubLast = s.nvs.scrubLast
      (∃ t, exec (.scrub a .clean) s = .next t ∧ SameBut [.nvs] s t ∧ pos t.nvs ∧ t.nvs.corrected = s.nvs.corrected ∧
        t.nvs.recs = s.nvs.recs) ∧
      (∃ t, exec (.scrub a .single) s = .next t ∧ SameBut [.nvs] s t ∧ pos t.nvs ∧ t.nvs.recs = s.nvs.recs ∧
        t.nvs.corrected = sat32 (s.nvs.corrected + 1)) ∧
      (0x410000 ≤ a → a < 0x500000 → ∀ ty i r, findRec s ty i = some r →
        (∀ x, r.inForce = some x → ∃ t, exec (.scrub a (.slotInForce ty i)) s = .next t ∧
          SameBut (logging ++ [.nvs]) s t ∧ pos t.nvs ∧ t.nvs.uncorrected = sat32 (s.nvs.uncorrected + 1) ∧
          findRec t ty i = some (if r.hiForce then { r with hi := none } else { r with lo := none })) ∧
        (∀ x, r.spare = some x → ∃ t, exec (.scrub a (.slotNotInForce ty i)) s = .next t ∧
          SameBut (logging ++ [.nvs]) s t ∧ pos t.nvs ∧ t.nvs.uncorrected = sat32 (s.nvs.uncorrected + 1) ∧
          findRec t ty i = some (if r.hiForce then { r with lo := none } else { r with hi := none }))) ∧
      (0x500000 ≤ a → a < 0x510000 → ∀ k, ∃ t, exec (.scrub a (.journal k)) s = .next t ∧ SameBut [.nvs] s t ∧
        pos t.nvs ∧ t.nvs.journal = s.nvs.journal.eraseIdx k) ∧
      (0x400000 ≤ a → a < 0x408000 → ∃ t, exec (.scrub a (.sheet false)) s = .next t ∧ SameBut [.tin, .nvs] s t ∧
        pos t.nvs ∧ t.tin = { s.tin with
          lower := { s.tin.lower with bad := s.tin.lower.bad || decide (a < 0x400300) } }) ∧
      (0x408000 ≤ a → a < 0x410000 → ∃ t, exec (.scrub a (.sheet true)) s = .next t ∧ SameBut [.tin, .nvs] s t ∧
        pos t.nvs ∧ t.tin = { s.tin with
          upper := { s.tin.upper with bad := s.tin.upper.bad || decide (a < 0x408300) } }) ∧
      (a < 0x17F000 → ∃ t, exec (.scrub a .bankOrLog) s = .next t ∧ SameBut (logging ++ [.nvs]) s t ∧ pos t.nvs ∧
        t.svc.bankA.bad = true ∧ t.svc.bankB.bad = s.svc.bankB.bad) ∧
      (0x180000 ≤ a → a < 0x2FF000 → ∃ t, exec (.scrub a .bankOrLog) s = .next t ∧ SameBut (logging ++ [.nvs]) s t ∧
        pos t.nvs ∧ t.svc.bankB.bad = true ∧ t.svc.bankA.bad = s.svc.bankA.bad) ∧
      (0x300000 ≤ a → a < 0x400000 → ∃ t, exec (.scrub a .bankOrLog) s = .next t ∧
        SameBut (logging ++ [.freeCtr, .nvs]) s t ∧ pos t.nvs ∧ t.nvs.recs = s.nvs.recs))

/-- While the firmware runs: in the modes that write every kind of record the POWER timer offers POWER, the WEAR timer
the record of every channel, at the next multiple of 600 s or 3600 s of OPTIME, and a dirty block its CONFIG record
outside COMMISSION: each then waits in the queue, or in RAM where the hold-up check fails. With a record of an older
format in force and its grant given, MIGRATE copies the old slot, brings the body into force in the new format, counts
it and returns the grant. With none of an older format, and while the firmware does not run, nothing happens.
Completes: powerRecordTimer, wearRecordTimer, configRecordWrite, migrate. (R477, R479, R481, R482, R486, R488) -/
def Obligations.RecordsAreWrittenOnTimeAndMigrated : Prop :=
  ∀ s : State,
    (shbRuns s = false → ∀ i ∈ [Instr.powerRecordTimer, .wearRecordTimer, .migrate], exec i s = .next s) ∧
    (allKinds s = false → ∀ i ∈ [Instr.powerRecordTimer, .wearRecordTimer], exec i s = .next s) ∧
    (shbRuns s = true → allKinds s = true → ∃ t, exec .powerRecordTimer s = .next t ∧ SameBut (.nvs :: passing) s t ∧
      t.clock = s.clock + ((s.nvs.powerSlot + 1) * 614400 - optime s) * clkKt ∧
      ∃ p ∈ t.nvs.queue ++ t.nvs.held, p.rtype = RT.POWER ∧ p.inst = 0 ∧ p.toJournal = false ∧ p.body = capture t RT.POWER 0) ∧
    (shbRuns s = true → allKinds s = true → ∃ t, exec .wearRecordTimer s = .next t ∧ SameBut (.nvs :: passing) s t ∧
      t.clock = s.clock + ((s.nvs.wearSlot + 1) * 3686400 - optime s) * clkKt ∧
      ∀ c : Ch, ∃ p ∈ t.nvs.queue ++ t.nvs.held,
        p.rtype = RT.WEAR ∧ p.inst = c.val ∧ p.toJournal = false ∧ p.body = capture t RT.WEAR c.val) ∧
    (shbRuns s = true → s.sys.mode ≠ .commission → ∀ b, b ∈ s.nvs.dirty →
      ∃ t, exec (.configRecordWrite b) s = .next t ∧ SameBut [.nvs] s t ∧ t.nvs.recs = s.nvs.recs ∧
        ∃ p ∈ t.nvs.queue ++ t.nvs.held,
          p.rtype = RT.CONFIG ∧ p.inst = b ∧ p.toJournal = false ∧ p.body = capture s RT.CONFIG b) ∧
    (s.sys.mode = .commission → ∀ b, exec (.configRecordWrite b) s = .next s) ∧
    (olderRecs s = [] → exec .migrate s = .next s) ∧
    (∀ ty i x l o, olderRecs s = (ty, i, x) :: l → shbRuns s = true → opModes Opn.MIGRATE s.sys.mode = true →
      s.adm.queue = [] → s.adm.grants = [o] → o.code = Opn.MIGRATE →
      ∃ t, exec .migrate s = .next t ∧ SameBut (switching ++ [.nvs]) s t ∧ t.adm.grants = [] ∧
        t.nvs.migrated = min 65535 (s.nvs.migrated + 1) ∧ (∃ k ∈ t.nvs.copies, k.rtype = ty ∧ k.inst = i ∧ k.slot.seq = x.seq) ∧
        inForce t ty i = some
          { seq := nextSlotSeq s ty i, fmt := imgFormat (runBank s) ty, body := x.body })

/-- For every request type of Table 20.3: where nobody answers the port nothing happens; behind an unanswered request
the answer is ST_BUSY; from Jack-in-the-box a type not marked for RECOVERY gets ST_MODE; a SEC type without an
authenticated session on channel 14 gets ST_AUTH. None of these answers has another effect, but that the frame counts
as good for the bit rate. (R50, R514, R518, R526, R527) -/
def Obligations.ThePortServesOnlyWhatItMayServe : Prop :=
  ∀ (s : State) (q b : Byte) (n a : Nat) (w : Word) (ws : List Word) (bs : List Byte) (pin : Bool),
    ∀ r ∈ [((Instr.ping q, 0x01, false, true) : Instr × Nat × Bool × Bool), (.setBaud q n, 0x02, false, true),
      (.svcRestart q ⟨w, pin⟩, 0x03, false, true), (.regRead q a n, 0x10, false, false), (.regWrite q a w, 0x11, false, false),
      (.mbox q ws, 0x20, false, false), (.imgBegin q b n, 0x30, false, true), (.imgData q a bs, 0x31, false, true),
      (.imgEnd q, 0x32, false, true), (.takeover q w, 0x33, true, false), (.confirm q w, 0x34, true, false),
      (.rollback q w, 0x35, true, false), (.dbgChallenge q, 0x40, true, false), (.dbgUnlock q b bs, 0x41, true, false),
      (.dbgLock q, 0x42, false, false), (.dbgRead q a n, 0x43, false, false), (.dbgHalt q, 0x43, false, false),
      (.dbgResume q, 0x43, false, false), (.dbgStep q, 0x43, false, false), (.dbgWrite q a ws, 0x43, false, false),
      (.wearReset q n, 0x50, true, false)],
    (jackAnswers s = false → firmAnswers s = false → exec r.1 s = .next s) ∧
    (jackAnswers s = true ∨ firmAnswers s = true →
      (svcBusy s = true → exec r.1 s = .next (svcReply r.2.1 q.toNat St.BUSY [] (svcHeard s))) ∧
      (svcBusy s = false → jackAnswers s = true → r.2.2.2 = false →
        exec r.1 s = .next (svcReply r.2.1 q.toNat St.MODE [] (svcHeard s))) ∧
      (svcBusy s = false → jackAnswers s = false ∨ r.2.2.2 = true → r.2.2.1 = true → secureOn s 14 = false →
        exec r.1 s = .next (svcReply r.2.1 q.toNat St.AUTH [] (svcHeard s))))

/-- A served RESTART with its key: in RECOVERY the restart is cold, which leaves no count of warm restarts, and its
cause is 0x08; in SAFE-KEEP it is the warm restart out of SAFE-KEEP under which the overrides stay, with cause 0x06;
in every other mode it is a warm restart with cause 0x05. A warm one enters BOOT and adds 1 to the count of warm
restarts. In RECOVERY an accepted image stands, which Table 2.2 asks for. Completes: svcRestart. (R516) -/
def Obligations.ARestartFrameRestartsByItsMode : Prop :=
  ∀ (s : State) (q : Byte) (pin : Bool), jackAnswers s = true ∨ firmAnswers s = true → svcBusy s = false →
    (s.sys.mode = .recovery → imageAccepted s = true → ∃ t, exec (.svcRestart q ⟨0x0000A5C3, pin⟩) s = .next t ∧ t.sys.warm = false ∧
      t.sys.resetCause = 8 ∧ t.sys.warmCount = 0 ∧ t.sys.phase ≠ .off) ∧
    (s.sys.mode = .safeKeep → ∃ t, exec (.svcRestart q ⟨0x0000A5C3, pin⟩) s = .next t ∧ t.sys.warm = true ∧
      t.sys.resetCause = 6 ∧ t.sys.warmCount = sat32 (s.sys.warmCount + 1) ∧ t.sys.mode = .boot ∧
      t.tin.override = s.tin.override) ∧
    (s.sys.mode ≠ .recovery → s.sys.mode ≠ .safeKeep → ∃ t, exec (.svcRestart q ⟨0x0000A5C3, pin⟩) s = .next t ∧
      t.sys.warm = true ∧ t.sys.resetCause = 5 ∧ t.sys.warmCount = sat32 (s.sys.warmCount + 1) ∧ t.sys.mode = .boot)

/-- A rise of SVC_EN enables the port at 115 200 bit/s; its fall ends the session and the tags of channel 14, a load
and the debug access, and changes no bank. A discarded frame changes nothing; a rate without a good frame for 2 s
falls back; a RESTART with another key is out of range, and one in RECOVERY with no accepted image is answered ST_MODE
(the model's choice, log 92); an undefined type is answered ST_MODE. PING answers its words; SET_BAUD takes a rate of
Table 20.1 and refuses any other; REG_READ answers as many words as it names and changes no register but those that a
read latches; REG_WRITE takes H_LOCK alone; MBOX appends its words to inbound queue 14 and offers them. Completes:
svcFrameGap, svcFrameDiscarded, svcEnRise, svcEnFall, baudFallback, svcUndefinedType, ping, setBaud, regRead,
regWrite, mbox. (R88, R91, R512, R513, R514, R515, R517, R518, R525, R535) -/
def Obligations.ThePinTheFramesAndTheBridge : Prop :=
  ∀ (s : State) (q : Byte) (pin : Bool),
    exec .svcFrameGap s = .next s ∧ exec .svcFrameDiscarded s = .next s ∧
    (s.svc.en = true → exec .svcEnRise s = .next s ∧
      ∃ t, exec .svcEnFall s = .next t ∧ t.svc.en = false ∧ t.svc.baud = 0 ∧ t.svc.loading = none ∧ t.svc.debug = 0 ∧
        t.svc.halted = false ∧ t.svc.bankA = s.svc.bankA ∧ t.svc.bankB = s.svc.bankB ∧ session? t 14 = none ∧
        (∀ e ∈ t.deolo.tags, e.chan ≠ 14) ∧ t.sys = s.sys) ∧
    (s.svc.en = false → exec .svcEnFall s = .next s ∧
      exec .svcEnRise s = .next { s with svc := { s.svc with en := true, baud := 0, baudNew := false } }) ∧
    (s.svc.en = true → s.svc.baudNew = true →
      ∃ t, exec .baudFallback s = .next t ∧ SameBut passing s t ∧ t.clock = max s.clock (s.svc.baudAt + 2 * clkS) ∧
        t.svc.baud = 0 ∧ t.svc.baudNew = false) ∧
    (s.svc.en = false ∨ s.svc.baudNew = false → exec .baudFallback s = .next s) ∧
    (jackAnswers s = true ∨ firmAnswers s = true → svcBusy s = false →
      (∀ key : Word, key ≠ 0x0000A5C3 →
        exec (.svcRestart q ⟨key, pin⟩) s = .next (svcReply 0x03 q.toNat St.RANGE [] (svcHeard s))) ∧
      (s.sys.mode = .recovery → imageAccepted s = false →
        exec (.svcRestart q ⟨0x0000A5C3, pin⟩) s = .next (svcReply 0x03 q.toNat St.MODE [] (svcHeard s))) ∧
      (∀ type : Byte, type.toNat ∉ svcTypes →
        exec (.svcUndefinedType q type) s = .next (svcReply (type.toNat % 128) q.toNat St.MODE [] (svcHeard s))) ∧
      (exec (.ping q) s = .next (svcReply 0x01 q.toNat St.OK [hId s, hVersion s, s.sys.prevMode.code * 256 + s.sys.mode.code,
        s.svc.bankB.st * 256 + s.svc.bankA.st, s.svc.bankA.ver, s.svc.bankB.ver, Config.jackVersion] (svcHeard s))) ∧
      (∀ n, n ≤ 6 → ∃ t, exec (.setBaud q n) s = .next t ∧ SameBut [.svc] s t ∧
        t.svc = { s.svc with baud := n, baudNew := true, baudAt := s.clock, tx := s.svc.tx ++ [SvcFrame.mk 0x82 q.toNat St.OK []] }) ∧
      (∀ n, 6 < n → exec (.setBaud q n) s = .next (svcReply 0x02 q.toNat St.RANGE [] (svcHeard s)))) ∧
    (firmAnswers s = true → svcBusy s = false →
      (∀ a n, bridgeRange a n = true →
        ∃ t ws, exec (.regRead q a n) s = .next t ∧ SameBut [.link, .svc] s t ∧ ws.length = n ∧
          t.svc.tx = s.svc.tx ++ [SvcFrame.mk 0x90 q.toNat St.OK ws] ∧
          ((∀ x ∈ [6, 0x0E, 0x0F], ¬(a ≤ x ∧ x < a + n)) → t.link = { s.link with bridgeWord := t.link.bridgeWord })) ∧
      (∀ a n, bridgeRange a n = false → exec (.regRead q a n) s = .next (svcReply 0x10 q.toNat St.RANGE [] (svcHeard s))) ∧
      (∀ a v, a ≠ 6 → exec (.regWrite q a v) s = .next (svcReply 0x11 q.toNat St.REFUSED [] (svcHeard s))) ∧
      (∀ v, ∃ t, exec (.regWrite q 6 v) s = .next t ∧ SameBut [.link, .svc] s t ∧
        t.link = { s.link with lock := if v.field 0 8 = 0 ∧ s.link.lock = some .bridge then none else s.link.lock }) ∧
      (∀ ws : List Word, ws ≠ [] → (s.inq.get 14).words.length + ws.length ≤ 64 →
        ∃ t, exec (.mbox q ws) s = .next t ∧ SameBut [.inq, .svc] s t ∧
          (t.inq.get 14).words = (s.inq.get 14).words ++ ws ∧
          (t.inq.get 14).offered = (s.inq.get 14).words.length + ws.length ∧
          (∀ n, n ≠ 14 → t.inq.get n = s.inq.get n) ∧
          t.svc.tx = s.svc.tx ++ [SvcFrame.mk 0xA0 q.toNat St.OK [(s.inq.get 14).words.length + ws.length]]))

/-- While the firmware answers the port and no request is open: DBG_CHALLENGE keeps a fresh nonce with its time and
answers 16 bytes; DBG_UNLOCK uses the nonce up, sets the level when every condition of R534 holds, and otherwise
counts a failed authentication and leaves the level; DBG_LOCK locks, and a halted Puppeteer resumes; a debug command
above the unlocked level gets ST_AUTH without effect; READ answers its words, HALT halts, STEP leaves the Puppeteer as
it is, RESUME resumes, and WRITE makes its words read back. Completes: dbgChallenge, dbgUnlock, dbgLock, dbgRead,
dbgHalt, dbgResume, dbgStep, dbgWrite. (R109, R533, R534, R535) -/
def Obligations.DebugAccessIsUnlockedUsedAndLocked : Prop :=
  ∀ (s : State) (q : Byte), jackAnswers s = false → firmAnswers s = true → svcBusy s = false →
    (secureOn s 14 = true →
      (∃ t ws, exec (.dbgChallenge q) s = .next t ∧ SameBut [.freeCtr, .svc] s t ∧ t.svc.nonce = some (ws, s.clock) ∧
        ws.length = 4 ∧
        t.svc.tx = s.svc.tx ++ [SvcFrame.mk 0xC0 q.toNat St.OK (wordsBytes (ws.map BitVec.toNat))]) ∧
      (∀ (l : Byte) (sig : List Byte), unlockOk s l sig = true → l = 1 ∨ l = 2 →
        ∃ t, exec (.dbgUnlock q l sig) s = .next t ∧ t.svc.debug = l.toNat ∧ t.svc.nonce = none ∧
          (l = 1 ∨ s.sys.mode ≠ .commission → SameBut [.svc] s t)) ∧
      (∀ (l : Byte) (sig : List Byte), unlockOk s l sig = false →
        ∃ t, exec (.dbgUnlock q l sig) s = .next t ∧ SameBut logging s t ∧ t.svc.debug = s.svc.debug ∧ t.svc.nonce = none ∧
          t.deolo.authFails = sat32 (s.deolo.authFails + 1))) ∧
    (∃ t, exec (.dbgLock q) s = .next t ∧ SameBut [.svc] s t ∧ t.svc.debug = 0 ∧ t.svc.halted = false ∧ t.svc.nonce = none) ∧
    (s.svc.debug < 1 → ∀ a n, exec (.dbgRead q a n) s = .next (svcReply 0x43 q.toNat St.AUTH [] (svcHeard s))) ∧
    (s.svc.debug < 2 → ∀ a ws, ∀ i ∈ [Instr.dbgHalt q, .dbgResume q, .dbgStep q, .dbgWrite q a ws],
      exec i s = .next (svcReply 0x43 q.toNat St.AUTH [] (svcHeard s))) ∧
    (1 ≤ s.svc.debug → ∀ a n, 0 < n → n ≤ 256 → debugMapped a n = true →
      ∃ t ws, exec (.dbgRead q a n) s = .next t ∧ SameBut [.freeCtr, .svc] s t ∧ ws.length = n ∧
        t.svc.tx = s.svc.tx ++ [SvcFrame.mk 0xC3 q.toNat St.OK ws]) ∧
    (2 ≤ s.svc.debug →
      (∃ t, exec (.dbgHalt q) s = .next t ∧ SameBut [.freeCtr, .svc] s t ∧ t.svc.halted = true) ∧
      (∃ t, exec (.dbgStep q) s = .next t ∧ SameBut [.freeCtr, .svc] s t ∧ t.svc.halted = s.svc.halted) ∧
      (∃ t, exec (.dbgResume q) s = .next t ∧ SameBut [.svc] s t ∧ t.svc.halted = false) ∧
      (∀ (a : Nat) (ws : List Word), ws ≠ [] → ws.length ≤ 256 → debugMapped a ws.length = true →
        ∃ t, exec (.dbgWrite q a ws) s = .next t ∧ SameBut [.svc] s t ∧ t.svc.halted = s.svc.halted ∧
          ∀ (i : Nat) (h : i < ws.length), debugWord (a + 4 * i) t = (ws[i].toNat, t)))

/-- On a secure session WEAR_RESET of a channel that is DISABLED, OPEN, OOS or ISOLATED clears the bins, DAMAGE and
DAY_RING, keeps CLOSURES and TRIP_COUNT, offers the WEAR record to the store and stays open; the port answers ST_OK
once that record is in force. In any other state of the channel it is refused, and a channel above 23 is out of range;
a record whose write fails twice is answered ST_REFUSED. Completes: wearReset. (R162, R486, R514, R536) -/
def Obligations.AWearResetClearsAndIsAnswered : Prop :=
  ∀ (s : State) (q : Byte),
    (jackAnswers s = false → firmAnswers s = true → svcBusy s = false → secureOn s 14 = true →
      (∀ c : Ch, wearFree s c = true →
        ∃ t, exec (.wearReset q c.val) s = .next t ∧ SameBut [.ch, .nvs, .svc] s t ∧
          t.svc.wear = some (q.toNat, c) ∧ svcBusy t = true ∧ (t.chan c).damage = 0 ∧ (t.chan c).days = [] ∧
          (∀ i, (t.chan c).bins.get i = 0) ∧ (t.chan c).closures = (s.chan c).closures ∧
          (t.chan c).tripCount = (s.chan c).tripCount ∧ (∀ d, d ≠ c → t.chan d = s.chan d) ∧
          ∃ p ∈ t.nvs.queue ++ t.nvs.held, p.rtype = RT.WEAR ∧ p.inst = c.val ∧ p.toJournal = false) ∧
      (∀ c : Ch, wearFree s c = false →
        exec (.wearReset q c.val) s = .next (svcReply 0x50 q.toNat St.REFUSED [] (svcHeard s))) ∧
      (∀ n, 24 ≤ n → exec (.wearReset q n) s = .next (svcReply 0x50 q.toNat St.RANGE [] (svcHeard s)))) ∧
    (∀ c p n, writesBegin s = true → s.svc.wear = some (q.toNat, c) → s.svc.en = true → nextWrite s = some p →
      p.rtype = RT.WEAR → p.inst = c.val → p.toJournal = false →
      (n < 2 → ∃ t, exec (.recordWrite n) s = .next t ∧ t.svc.wear = none ∧
        t.svc.tx = s.svc.tx ++ [SvcFrame.mk 0xD0 q.toNat St.OK []] ∧
        ∃ x, inForce t RT.WEAR c.val = some x ∧ x.body = p.body) ∧
      (2 ≤ n → ∃ t, exec (.recordWrite n) s = .next t ∧ t.svc.wear = none ∧
        t.svc.tx.getLast? = some (SvcFrame.mk 0xD0 q.toNat St.REFUSED []) ∧ inForce t RT.WEAR c.val = inForce s RT.WEAR c.val))

/-- A served IMG_BEGIN makes the bank it chooses LOADING with its total length and leaves the other bank; one that
R524 bars is refused with result 10, and a bank byte without a meaning is out of range. IMG_DATA within that length
writes exactly its bytes. IMG_END ends the load: an image that passes every check becomes STAGED, or TRIAL under Jack-
in-the-box, and UPD.LAST gives 0; any other becomes REJECTED with the result of its first failing check. IMG_DATA and
IMG_END outside a load are refused. Completes: imgBegin, imgData, imgEnd. (R519, R523, R524, R525, R526, R527, R537)
-/
def Obligations.AnImageIsLoadedAndChecked : Prop :=
  ∀ (s : State) (q : Byte), jackAnswers s = true ∨ firmAnswers s = true → svcBusy s = false →
    (∀ b n, beginBank s b = none →
      exec (.imgBegin q b n) s = .next (svcReply 0x30 q.toNat St.RANGE [] (svcHeard s))) ∧
    (∀ b n k, beginBank s b = some k → beginBarred s k = true →
      ∃ t, exec (.imgBegin q b n) s = .next t ∧ SameBut [.svc] s t ∧ t.svc.bankA = s.svc.bankA ∧ t.svc.bankB = s.svc.bankB ∧
        t.svc.lastResult = 10 ∧ t.svc.loading = s.svc.loading ∧
        t.svc.tx = s.svc.tx ++ [SvcFrame.mk 0xB0 q.toNat St.REFUSED []]) ∧
    (∀ b n k, beginBank s b = some k → beginBarred s k = false → n ≤ 0x17F000 →
      ∃ t, exec (.imgBegin q b n) s = .next t ∧ SameBut [.svc] s t ∧ (bankOf t k).st = Bst.LOADING ∧
        (bankOf t k).total = n ∧ (bankOf t k).got = [] ∧ (bankOf t k).bytes = (bankOf s k).bytes ∧
        bankOf t (!k) = bankOf s (!k) ∧ t.svc.loading = some k ∧ t.svc.phase = 1) ∧
    (∀ b n k, beginBank s b = some k → beginBarred s k = false → 0x17F000 < n →
      exec (.imgBegin q b n) s = .next (svcReply 0x30 q.toNat St.RANGE [] (svcHeard s))) ∧
    (s.svc.loading = none → ∀ ofs data, ∀ i ∈ [Instr.imgData q ofs data, .imgEnd q],
      ∃ t, exec i s = .next t ∧ SameBut [.svc] s t ∧ t.svc.bankA = s.svc.bankA ∧ t.svc.bankB = s.svc.bankB ∧
        t.svc.lastResult = 10) ∧
    (∀ k, s.svc.loading = some k → s.imagesWf →
      (∀ ofs (data : List Byte), data ≠ [] → data.length % 4 = 0 → data.length ≤ 1024 →
        ofs + data.length ≤ (bankOf s k).total → holdOk s (tw50 data.length) = true →
        ∃ t, exec (.imgData q ofs data) s = .next t ∧ SameBut [.svc, .images] s t ∧ bankOf t (!k) = bankOf s (!k) ∧
          (∀ (i : Nat) (h : i < data.length), byteAt (bankOf t k).bytes (ofs + i) = data[i]) ∧
          (∀ a, a < ofs ∨ ofs + data.length ≤ a → byteAt (bankOf t k).bytes a = byteAt (bankOf s k).bytes a) ∧
          (ofs, data.length) ∈ (bankOf t k).got ∧ (bankOf t k).st = (bankOf s k).st) ∧
      (∃ t, exec (.imgEnd q) s = .next t ∧ SameBut [.svc] s t ∧ bankOf t (!k) = bankOf s (!k) ∧ t.svc.loading = none ∧
        (∀ r, loadFault s (bankOf s k) = some r → (bankOf t k).st = Bst.REJECTED ∧ t.svc.lastResult = r) ∧
        (loadFault s (bankOf s k) = none →
          (bankOf t k).st = (if jackAnswers s = true then Bst.TRIAL else Bst.STAGED) ∧ t.svc.lastResult = 0 ∧
            (bankOf t k).ver = imgField (bankOf s k) 8 4 ∧ (bankOf t k).svn = imgSvn (bankOf s k))))

/-- On a secure session TAKEOVER with its key is refused with the result of the first condition of R528 that fails; an
accepted one enters HANDOVER with the shadow taken for the new image, or waits at the arbiter, or is refused with
result 12. The check of the staged bank starts the new image, or aborts and rejects the bank; the image in step begins
the lead; a late mirror aborts with result 11; at the boundary the new image is active, its bank in TRIAL, the bank
that ran PREVIOUS, and the former mode returns. Completes: takeover, shadowBootDone, mirrorReady, syncTimeout,
takeoverBoundary. (R51, R111, R528, R529, R530, R537) -/
def Obligations.ATakeoverRunsItsStepsOrIsAborted : Prop :=
  ∀ (s : State) (q : Byte),
    (jackAnswers s = false → firmAnswers s = true → svcBusy s = false → secureOn s 14 = true →
      (∀ w, w ≠ updKey → exec (.takeover q w) s = .next (svcReply 0x33 q.toNat St.RANGE [updLast s] (svcHeard s))) ∧
      (opAdmitted s takeoverOp = false →
        exec (.takeover q updKey) s = .next (svcReply 0x33 q.toNat (modeStatus s) [updLast s] (svcHeard s))) ∧
      (opAdmitted s takeoverOp = true → ∀ r, takeoverFault s = some r →
        ∃ t, exec (.takeover q updKey) s = .next t ∧ SameBut [.svc] s t ∧ t.svc.lastType = 0x33 ∧ t.svc.lastResult = r ∧
          t.svc.tx = s.svc.tx ++ [SvcFrame.mk 0xB3 q.toNat St.REFUSED [updLast t]]) ∧
      (opAdmitted s takeoverOp = true → takeoverFault s = none → (∀ o ∈ s.adm.queue, o.code ≠ Opn.HANDOVER) →
        ∃ t, exec (.takeover q updKey) s = .next t ∧
          (t.sys.mode = .handover ∧ t.sys.handoverFrom = s.sys.mode ∧ t.svc.newOn = some (otherPup s.sys.active) ∧
              t.svc.phase = 3 ∧ t.svc.asker = some (.service q.toNat) ∨
            t.sys = s.sys ∧ t.svc.asker = some (.service q.toNat) ∧ (∃ o ∈ t.adm.queue, o.code = Opn.HANDOVER) ∨
            t.sys = s.sys ∧ t.svc.asker = none ∧ t.svc.lastResult = 12 ∧
              ∃ f ∈ t.svc.tx, f.type = 0xB3 ∧ f.seq = q.toNat ∧ f.status = St.REFUSED))) ∧
    (s.svc.newOn = none → exec .shadowBootDone s = .next s ∧ exec .mirrorReady s = .next s ∧ exec .syncTimeout s = .next s) ∧
    (s.svc.phase ≠ 5 ∨ s.svc.lead ≠ 0 → exec .takeoverBoundary s = .next s) ∧
    (∀ p, s.svc.newOn = some p →
      (s.svc.phase = 3 → imgCheck s (idleBank s) = none →
        ∃ t, exec .shadowBootDone s = .next t ∧ SameBut [.sys, .svc] s t ∧ t.svc.phase = 4 ∧ t.svc.syncAt = s.clock ∧
          (t.sys.pup p).up = true) ∧
      (s.svc.phase = 4 → ∃ t, exec .mirrorReady s = .next t ∧ SameBut [.sys, .tin, .svc] s t ∧ t.svc.phase = 5 ∧
        t.svc.lead = pn s Prm.UPD_LEAD_CYC ∧ (t.sys.pup p).alive = true ∧ (t.sys.pup p).inStep = true) ∧
      (s.sys.mode = .handover → s.sys.handoverFrom ≠ .handover →
        (s.svc.phase = 3 → ∀ r, imgCheck s (idleBank s) = some r →
          ∃ t, exec .shadowBootDone s = .next t ∧ t.svc.newOn = none ∧ (idleBank t).st = Bst.REJECTED ∧ t.svc.phase = 0 ∧
            t.svc.asker = none ∧ (s.svc.asker ≠ none → t.svc.lastResult = r) ∧ t.sys.mode = s.sys.handoverFrom ∧
            t.svc.runB = s.svc.runB ∧ t.sys.active = s.sys.active) ∧
        (s.svc.phase = 4 →
          ∃ t, exec .syncTimeout s = .next t ∧ t.clock = max s.clock (s.svc.syncAt + pn s Prm.UPD_SYNC_MAX_MS * clkMs) ∧
            t.svc.newOn = none ∧ (idleBank t).st = (idleBank s).st ∧ t.svc.asker = none ∧
            (s.svc.asker ≠ none → t.svc.lastResult = 11) ∧ t.sys.mode = s.sys.handoverFrom ∧ t.svc.runB = s.svc.runB) ∧
        (s.svc.phase = 5 → s.svc.lead = 0 →
          ∃ t, exec .takeoverBoundary s = .next t ∧ t.sys.active = p ∧ t.sys.simplex = true ∧
            t.sys.mode = s.sys.handoverFrom ∧ t.svc.runB = !s.svc.runB ∧ (runBank t).st = Bst.TRIAL ∧
            (idleBank t).st = Bst.PREVIOUS ∧ t.svc.handovers = sat32 (s.svc.handovers + 1) ∧ t.svc.newOn = none ∧
            t.link.irqStatus.testBit Irq.FAILOVER = true ∧
            t.svc.asker = none ∧ (s.svc.asker ≠ none → t.svc.lastResult = 0))))

/-- On a secure session CONFIRM with its key confirms the bank in TRIAL, frees the copies of the migration space and
raises the SVN floor where the image asks for it; without a bank in TRIAL it is refused with result 10. UPD.TRIAL_S of
a trial confirm the running bank in the same way. ROLLBACK with its key, where a bank is in TRIAL or PREVIOUS, is a
warm restart with cause 0x09, or 0x06 out of SAFE-KEEP, that rejects the bank in TRIAL and confirms the PREVIOUS one,
which runs when it passes its check. Completes: confirm, rollback, trialTimeout. (R48, R489, R522, R531, R532, R537)
-/
def Obligations.ATrialIsConfirmedOrRolledBack : Prop :=
  ∀ (s : State) (q : Byte),
    (jackAnswers s = false → firmAnswers s = true → svcBusy s = false → secureOn s 14 = true →
      (∀ w, w ≠ updKey → exec (.confirm q w) s = .next (svcReply 0x34 q.toNat St.RANGE [] (svcHeard s)) ∧
        exec (.rollback q w) s = .next (svcReply 0x35 q.toNat St.RANGE [] (svcHeard s))) ∧
      (trialBank s = false → ∃ t, exec (.confirm q updKey) s = .next t ∧ SameBut [.svc] s t ∧
        t.svc.bankA = s.svc.bankA ∧ t.svc.bankB = s.svc.bankB ∧ t.svc.lastResult = 10) ∧
      (∀ b, (bankOf s b).st = Bst.TRIAL → (bankOf s (!b)).st ≠ Bst.TRIAL →
        ∃ t, exec (.confirm q updKey) s = .next t ∧ SameBut [.nvs, .svc, .fuses] s t ∧ (bankOf t b).st = Bst.CONFIRMED ∧
          t.nvs.copies = [] ∧ t.svc.lastResult = 0 ∧ t.svc.revoked = s.svc.revoked ∧
          t.svc.svnFloor = (if imgRaise (bankOf s b) = true then max s.svc.svnFloor (imgSvn (bankOf s b)) else s.svc.svnFloor)) ∧
      (canRollback s = false → ∃ t, exec (.rollback q updKey) s = .next t ∧ SameBut [.svc] s t ∧
        t.svc.bankA = s.svc.bankA ∧ t.svc.bankB = s.svc.bankB ∧ t.svc.lastResult = 10) ∧
      (∀ b, (bankOf s b).st = Bst.TRIAL → (bankOf s (!b)).st = Bst.PREVIOUS →
        ∃ t, exec (.rollback q updKey) s = .next t ∧ (bankOf t b).st = Bst.REJECTED ∧ (bankOf t (!b)).st = Bst.CONFIRMED ∧
          t.svc.rollbacks = sat32 (s.svc.rollbacks + 1) ∧ t.sys.warm = true ∧ t.sys.mode = .boot ∧
          t.sys.resetCause = (if s.sys.mode = .safeKeep then 6 else 9) ∧
          (bankPasses s (!b) = true → t.svc.runB = !b) ∧ (bankPasses s (!b) = false → t.sys.noImage = true))) ∧
    (shbRuns s = true → (runBank s).st = Bst.TRIAL → (idleBank s).st ≠ Bst.TRIAL →
      (pn s Prm.UPD_TRIAL_S = 0 → exec .trialTimeout s = .next s) ∧
      (pn s Prm.UPD_TRIAL_S ≠ 0 →
        ∃ t, exec .trialTimeout s = .next t ∧ SameBut (passing ++ [.nvs, .fuses]) s t ∧
          t.clock = s.clock + (s.svc.trialAt + pn s Prm.UPD_TRIAL_S * 1024 - optime s) * clkKt ∧ (runBank t).st = Bst.CONFIRMED ∧
          t.nvs.copies = [] ∧ t.svc.svnFloor = if imgRaise (runBank s) = true then max s.svc.svnFloor (imgSvn (runBank s))
            else s.svc.svnFloor)) ∧
    ((runBank s).st ≠ Bst.TRIAL → exec .trialTimeout s = .next s)

/-- For every command and every state: a step of the state with that command in front of its queue is the command's
effect on the state with the rest of the queue, whatever the outcome is. The queue of waiting commands, first in first
out, is the model's own. (R70, R83) -/
def Obligations.AStepRunsTheFrontCommand : Prop :=
  ∀ (s : State) (c : Instr) (rest : List Instr),
    step { s with pending := c :: rest } = exec c { s with pending := rest }

/-- With an empty queue a step answers a next state in which the clock has gone on by one output of the spinning-top
divider. While the main domain runs, each keeping timer whose gate condition holds has counted it, saturating at 2^40
- 1, and no other has; in DORMANT the span has, and no keeping timer. Nothing else changes but what time changes by
itself. That an empty queue lets this much time pass is the model's choice (log 2). (R391, R392) -/
def Obligations.AnEmptyQueueLetsTimePass : Prop :=
  ∀ s : State, s.pending = [] →
    ∃ t, step s = .next t ∧ SameBut passing s t ∧ t.clock = s.clock + clkKt ∧
      (s.sys.phase ≠ .off → s.sys.phase ≠ .abandoned → s.sys.mode ≠ .dormant → ∀ n : Fin 4,
        t.tmr.kt.get n = if ktGate s n = true then min (s.tmr.kt.get n + 1) (2 ^ 40 - 1) else s.tmr.kt.get n) ∧
      (s.sys.phase ≠ .off → s.sys.phase ≠ .abandoned → s.sys.mode = .dormant →
        t.tmr.kt = s.tmr.kt ∧ t.tmr.span = min (s.tmr.span + 1) (2 ^ 40 - 1))

/-- Whatever the state and whatever the operands of the command, it answers a next state: no command of the table
stops the Hatan, and none changes the commands that wait. A command that the spec turns away (a wrong status, a wrong
mode, an event whose cause does not stand) completes as the spec's answer to it or as no change. (R74, R117, R513) -/
def Obligations.EveryCommandCompletes : Prop :=
  ∀ (c : Instr) (s : State), ∃ t, exec c s = .next t ∧ t.pending = s.pending

/-- The frame of all commands at once: whenever a command answers a next state, every part of the state that the frame
table does not name for it is as it was: the registers, queues, channels, gates, modes, the token, the meter, the
store, the images and the fuses. So no command but a trip, a switch, a mode change, a start or a test reaches a gate;
no host or service command reaches the fuses but a confirmation; only the start commands and the passing of the token
change who is active. (R18, R20, R23, R31, R249, R460, R522, R533) -/
def Obligations.ACommandChangesOnlyTheParts : Prop :=
  ∀ (c : Instr) (s t : State), exec c s = .next t → SameBut c.touches s t

/-- From every state in which both image banks list their bytes in rising order of addresses and list no blank byte,
every step leads to such a state; and the same of the two halves of the safety sheet. (R258, R519, R524) -/
def Obligations.StepsKeepTheImagesCanonical : Prop :=
  ∀ s t : State, step s = .next t → (s.imagesWf → t.imagesWf) ∧ (s.sheetWf → t.sheetWf)

/-- Whatever command a step runs: the count of SVN fuses never falls, a revocation fuse that is blown stays blown, and
the core clock count never falls. That the fuses can never be cleared is the last sentence of R522; the clock count is
the model's own. (R25, R522) -/
def Obligations.FusesAndTheClockOnlyRise : Prop :=
  ∀ s t : State, step s = .next t → FusesKept s t ∧ s.clock ≤ t.clock

/-- The machine before its first supply: the main domain is off, no command waits, every gate is low, no channel
conducts, every mailbox queue is empty, no session is open, no interrupt stands and none is enabled, no override or
token stands, the service port is closed at 115 200 bit/s, no line drives, and both image memories and both halves of
the safety sheet are in their canonical form. That State.reset stands before the first supply is the model's choice
(log 12). (R40, R74, R80, R142, R212, R250, R469, R512, R519) -/
def Obligations.TheStateAfterReset : Prop :=
  State.reset.pending = [] ∧ State.reset.sys.phase = .off ∧ State.reset.gates = List.replicate 24 (.lowFull, .lowFull) ∧
    (∀ c, (State.reset.chan c).st.conducts = false) ∧ (∀ n, (State.reset.inq.get n).words = []) ∧
    (∀ n, (State.reset.outq.get n).words = []) ∧ (∀ n, session? State.reset n = none) ∧ State.reset.link.irqStatus = 0 ∧
    State.reset.link.irqMask = 0 ∧ State.reset.tin.override = false ∧ State.reset.tin.token = false ∧
    State.reset.svc.en = false ∧ State.reset.svc.baud = 0 ∧ State.reset.imagesWf ∧ State.reset.sheetWf
end

