-- ==== Sys2Proof/Laws/Frame.lean ====
section
/-! SUPPORT. Frames, the laws under all others: which parts of the state an operation may change, said by a mask with one
bit for each part. An operation's lemma lets `simp` peel it off: a state agrees with the result of the operation wherever
it agrees with the operation's argument. -/

namespace Sys2Proof.Machine

variable {m k i : Nat} {s t u : State} {l : List Part}

/-- The bit of a part in a mask. -/
def Part.idx : Part → Nat
  | .pending => 0
  | .clock => 1
  | .freeCtr => 2
  | .pw => 3
  | .pf => 4
  | .sys => 5
  | .link => 6
  | .inq => 7
  | .outq => 8
  | .deolo => 9
  | .ch => 10
  | .grp => 11
  | .bus => 12
  | .tin => 13
  | .mb => 14
  | .cnv => 15
  | .acc => 16
  | .xam => 17
  | .met => 18
  | .tmr => 19
  | .adm => 20
  | .bat => 21
  | .shb => 22
  | .fl => 23
  | .nvs => 24
  | .log => 25
  | .svc => 26
  | .pwr => 27
  | .gates => 28
  | .fuses => 29
  | .images => 30
  | .mode => 31
  | .token => 32

/-- Two states agree in every part whose bit the mask does not hold. -/
structure Same (m : Nat) (s t : State) : Prop where
  part : ∀ p : Part, m.testBit p.idx = false → p.same s t

theorem Part.same_refl (p : Part) (s : State) : p.same s s := by cases p <;> rfl

theorem Part.same_trans (p : Part) (h : p.same s t) (k : p.same t u) : p.same s u := by
  cases p <;> exact Eq.trans k h

theorem Part.same_symm (p : Part) (h : p.same s t) : p.same t s := by cases p <;> exact Eq.symm h

@[simp] theorem same_refl (m : Nat) (s : State) : Same m s s := ⟨fun p _ => p.same_refl s⟩

theorem Same.trans (h : Same m s t) (k : Same m t u) : Same m s u :=
  ⟨fun p hp => p.same_trans (h.part p hp) (k.part p hp)⟩

theorem Same.symm (h : Same m s t) : Same m t s := ⟨fun p hp => p.same_symm (h.part p hp)⟩

theorem testBit_of_and (h : m &&& k = k) (hm : m.testBit i = false) : k.testBit i = false := by
  have := congrArg (Nat.testBit · i) h
  simp only [Nat.testBit_and, hm, Bool.false_and] at this
  exact this.symm

/-- A mask holds the bits of a mask that another one of its parts holds. -/
theorem and_sub {m k j : Nat} (h : m &&& k = k) (hk : k &&& j = j) : m &&& j = j := by
  rw [← hk, ← Nat.and_assoc, h]

theorem Same.mono (h : Same k s t) (hk : m &&& k = k) : Same m s t := ⟨fun p hp => h.part p (testBit_of_and hk hp)⟩

/-- The form in which `simp` peels an operation off. -/
theorem Same.peel (h : Same k t u) (hk : m &&& k = k) : Same m s u ↔ Same m s t :=
  ⟨fun x => x.trans (h.mono hk).symm, fun x => x.trans (h.mono hk)⟩

/-- The mask that holds the parts of a list. -/
def maskOf (l : List Part) : Nat := l.foldr (fun p m => 2 ^ p.idx ||| m) 0

theorem Part.idx_inj (p q : Part) (h : p.idx = q.idx) : p = q := by
  cases p <;> cases q <;> first | rfl | (exact absurd h (by decide))

theorem maskOf_testBit (l : List Part) (p : Part) : (maskOf l).testBit p.idx = decide (p ∈ l) := by
  induction l with
  | nil => simp [maskOf]
  | cons q l ih =>
    simp only [maskOf, List.foldr_cons, Nat.testBit_or] at ih ⊢
    rw [ih, Nat.testBit_two_pow]
    by_cases h : q = p
    · simp [h]
    · have : ¬ q.idx = p.idx := fun e => h (Part.idx_inj _ _ e)
      have h2 : ¬ p = q := fun e => h e.symm
      simp [this, h2]

/-- A frame said by a list of parts is the frame said by its mask. -/
theorem sameBut_iff (l : List Part) (s t : State) : SameBut l s t ↔ Same (maskOf l) s t := by
  constructor
  · intro h
    refine ⟨fun p hp => h p ?_⟩
    rw [maskOf_testBit] at hp
    exact of_decide_eq_false hp
  · intro h p hp
    apply h.part p
    rw [maskOf_testBit]
    exact decide_eq_false hp

theorem Same.sameBut (h : Same k s t) (hk : maskOf l &&& k = k) : SameBut l s t := (sameBut_iff l s t).2 (h.mono hk)

/-! ### Field by field -/

@[simp ↓] theorem same_pending (h : m &&& 1 = 1) :
    Same m s { t with pending := x0 } ↔ Same m s t := by
  have e : Same m t { t with pending := x0 } := by
    refine ⟨fun p hp => ?_⟩
    have hb := testBit_of_and h hp
    cases p <;> first | rfl | (exact absurd hb (by decide))
  exact ⟨fun x => x.trans e.symm, fun x => x.trans e⟩

@[simp ↓] theorem same_clock (h : m &&& 2 = 2) :
    Same m s { t with clock := x1 } ↔ Same m s t := by
  have e : Same m t { t with clock := x1 } := by
    refine ⟨fun p hp => ?_⟩
    have hb := testBit_of_and h hp
    cases p <;> first | rfl | (exact absurd hb (by decide))
  exact ⟨fun x => x.trans e.symm, fun x => x.trans e⟩

@[simp ↓] theorem same_freeCtr (h : m &&& 4 = 4) :
    Same m s { t with freeCtr := x2 } ↔ Same m s t := by
  have e : Same m t { t with freeCtr := x2 } := by
    refine ⟨fun p hp => ?_⟩
    have hb := testBit_of_and h hp
    cases p <;> first | rfl | (exact absurd hb (by decide))
  exact ⟨fun x => x.trans e.symm, fun x => x.trans e⟩

@[simp ↓] theorem same_pw (h : m &&& 8 = 8) :
    Same m s { t with pw := x3 } ↔ Same m s t := by
  have e : Same m t { t with pw := x3 } := by
    refine ⟨fun p hp => ?_⟩
    have hb := testBit_of_and h hp
    cases p <;> first | rfl | (exact absurd hb (by decide))
  exact ⟨fun x => x.trans e.symm, fun x => x.trans e⟩

@[simp ↓] theorem same_pf (h : m &&& 16 = 16) :
    Same m s { t with pf := x4 } ↔ Same m s t := by
  have e : Same m t { t with pf := x4 } := by
    refine ⟨fun p hp => ?_⟩
    have hb := testBit_of_and h hp
    cases p <;> first | rfl | (exact absurd hb (by decide))
  exact ⟨fun x => x.trans e.symm, fun x => x.trans e⟩

@[simp ↓] theorem same_sys (h : m &&& 32 = 32) (hmo : m &&& 2147483648 = 2147483648 ∨ x5.modes = t.sys.modes) (ht : m &&& 4294967296 = 4294967296 ∨ x5.active = t.sys.active) :
    Same m s { t with sys := x5 } ↔ Same m s t := by
  have e : Same m t { t with sys := x5 } := by
    refine ⟨fun p hp => ?_⟩
    have hb := testBit_of_and h hp
    cases p
    all_goals first | rfl | (exact absurd hb (by decide)) | skip
    · rcases hmo with g | g
      · exact absurd (testBit_of_and g hp) (by decide)
      · exact g
    · rcases ht with g | g
      · exact absurd (testBit_of_and g hp) (by decide)
      · exact g
  exact ⟨fun x => x.trans e.symm, fun x => x.trans e⟩

@[simp ↓] theorem same_link (h : m &&& 64 = 64) :
    Same m s { t with link := x6 } ↔ Same m s t := by
  have e : Same m t { t with link := x6 } := by
    refine ⟨fun p hp => ?_⟩
    have hb := testBit_of_and h hp
    cases p <;> first | rfl | (exact absurd hb (by decide))
  exact ⟨fun x => x.trans e.symm, fun x => x.trans e⟩

@[simp ↓] theorem same_inq (h : m &&& 128 = 128) :
    Same m s { t with inq := x7 } ↔ Same m s t := by
  have e : Same m t { t with inq := x7 } := by
    refine ⟨fun p hp => ?_⟩
    have hb := testBit_of_and h hp
    cases p <;> first | rfl | (exact absurd hb (by decide))
  exact ⟨fun x => x.trans e.symm, fun x => x.trans e⟩

@[simp ↓] theorem same_outq (h : m &&& 256 = 256) :
    Same m s { t with outq := x8 } ↔ Same m s t := by
  have e : Same m t { t with outq := x8 } := by
    refine ⟨fun p hp => ?_⟩
    have hb := testBit_of_and h hp
    cases p <;> first | rfl | (exact absurd hb (by decide))
  exact ⟨fun x => x.trans e.symm, fun x => x.trans e⟩

@[simp ↓] theorem same_deolo (h : m &&& 512 = 512) :
    Same m s { t with deolo := x9 } ↔ Same m s t := by
  have e : Same m t { t with deolo := x9 } := by
    refine ⟨fun p hp => ?_⟩
    have hb := testBit_of_and h hp
    cases p <;> first | rfl | (exact absurd hb (by decide))
  exact ⟨fun x => x.trans e.symm, fun x => x.trans e⟩

@[simp ↓] theorem same_pw_sys_deolo (h : m &&& 552 = 552) (hmo : m &&& 2147483648 = 2147483648 ∨ x5.modes = t.sys.modes) (ht : m &&& 4294967296 = 4294967296 ∨ x5.active = t.sys.active) :
    Same m s { t with pw := x3, sys := x5, deolo := x9 } ↔ Same m s t := by
  have e : Same m t { t with pw := x3, sys := x5, deolo := x9 } := by
    refine ⟨fun p hp => ?_⟩
    have hb := testBit_of_and h hp
    cases p
    all_goals first | rfl | (exact absurd hb (by decide)) | skip
    · rcases hmo with g | g
      · exact absurd (testBit_of_and g hp) (by decide)
      · exact g
    · rcases ht with g | g
      · exact absurd (testBit_of_and g hp) (by decide)
      · exact g
  exact ⟨fun x => x.trans e.symm, fun x => x.trans e⟩

@[simp ↓] theorem same_outq_deolo (h : m &&& 768 = 768) :
    Same m s { t with outq := x8, deolo := x9 } ↔ Same m s t := by
  have e : Same m t { t with outq := x8, deolo := x9 } := by
    refine ⟨fun p hp => ?_⟩
    have hb := testBit_of_and h hp
    cases p <;> first | rfl | (exact absurd hb (by decide))
  exact ⟨fun x => x.trans e.symm, fun x => x.trans e⟩

@[simp ↓] theorem same_inq_outq_deolo (h : m &&& 896 = 896) :
    Same m s { t with inq := x7, outq := x8, deolo := x9 } ↔ Same m s t := by
  have e : Same m t { t with inq := x7, outq := x8, deolo := x9 } := by
    refine ⟨fun p hp => ?_⟩
    have hb := testBit_of_and h hp
    cases p <;> first | rfl | (exact absurd hb (by decide))
  exact ⟨fun x => x.trans e.symm, fun x => x.trans e⟩

@[simp ↓] theorem same_ch (h : m &&& 1024 = 1024) (hg : m &&& 268435456 = 268435456 ∨ x10.toList.map (fun x => (x.gateA, x.gateB)) = t.gates) :
    Same m s { t with ch := x10 } ↔ Same m s t := by
  have e : Same m t { t with ch := x10 } := by
    refine ⟨fun p hp => ?_⟩
    have hb := testBit_of_and h hp
    cases p
    all_goals first | rfl | (exact absurd hb (by decide)) | skip
    · rcases hg with g | g
      · exact absurd (testBit_of_and g hp) (by decide)
      · exact g
  exact ⟨fun x => x.trans e.symm, fun x => x.trans e⟩

@[simp ↓] theorem same_grp (h : m &&& 2048 = 2048) :
    Same m s { t with grp := x11 } ↔ Same m s t := by
  have e : Same m t { t with grp := x11 } := by
    refine ⟨fun p hp => ?_⟩
    have hb := testBit_of_and h hp
    cases p <;> first | rfl | (exact absurd hb (by decide))
  exact ⟨fun x => x.trans e.symm, fun x => x.trans e⟩

@[simp ↓] theorem same_bus (h : m &&& 4096 = 4096) :
    Same m s { t with bus := x12 } ↔ Same m s t := by
  have e : Same m t { t with bus := x12 } := by
    refine ⟨fun p hp => ?_⟩
    have hb := testBit_of_and h hp
    cases p <;> first | rfl | (exact absurd hb (by decide))
  exact ⟨fun x => x.trans e.symm, fun x => x.trans e⟩

@[simp ↓] theorem same_tin (h : m &&& 8192 = 8192) :
    Same m s { t with tin := x13 } ↔ Same m s t := by
  have e : Same m t { t with tin := x13 } := by
    refine ⟨fun p hp => ?_⟩
    have hb := testBit_of_and h hp
    cases p <;> first | rfl | (exact absurd hb (by decide))
  exact ⟨fun x => x.trans e.symm, fun x => x.trans e⟩

@[simp ↓] theorem same_sys_tin (h : m &&& 8224 = 8224) (hmo : m &&& 2147483648 = 2147483648 ∨ x5.modes = t.sys.modes) (ht : m &&& 4294967296 = 4294967296 ∨ x5.active = t.sys.active) :
    Same m s { t with sys := x5, tin := x13 } ↔ Same m s t := by
  have e : Same m t { t with sys := x5, tin := x13 } := by
    refine ⟨fun p hp => ?_⟩
    have hb := testBit_of_and h hp
    cases p
    all_goals first | rfl | (exact absurd hb (by decide)) | skip
    · rcases hmo with g | g
      · exact absurd (testBit_of_and g hp) (by decide)
      · exact g
    · rcases ht with g | g
      · exact absurd (testBit_of_and g hp) (by decide)
      · exact g
  exact ⟨fun x => x.trans e.symm, fun x => x.trans e⟩

@[simp ↓] theorem same_mb (h : m &&& 16384 = 16384) :
    Same m s { t with mb := x14 } ↔ Same m s t := by
  have e : Same m t { t with mb := x14 } := by
    refine ⟨fun p hp => ?_⟩
    have hb := testBit_of_and h hp
    cases p <;> first | rfl | (exact absurd hb (by decide))
  exact ⟨fun x => x.trans e.symm, fun x => x.trans e⟩

@[simp ↓] theorem same_cnv (h : m &&& 32768 = 32768) :
    Same m s { t with cnv := x15 } ↔ Same m s t := by
  have e : Same m t { t with cnv := x15 } := by
    refine ⟨fun p hp => ?_⟩
    have hb := testBit_of_and h hp
    cases p <;> first | rfl | (exact absurd hb (by decide))
  exact ⟨fun x => x.trans e.symm, fun x => x.trans e⟩

@[simp ↓] theorem same_sys_cnv (h : m &&& 32800 = 32800) (hmo : m &&& 2147483648 = 2147483648 ∨ x5.modes = t.sys.modes) (ht : m &&& 4294967296 = 4294967296 ∨ x5.active = t.sys.active) :
    Same m s { t with sys := x5, cnv := x15 } ↔ Same m s t := by
  have e : Same m t { t with sys := x5, cnv := x15 } := by
    refine ⟨fun p hp => ?_⟩
    have hb := testBit_of_and h hp
    cases p
    all_goals first | rfl | (exact absurd hb (by decide)) | skip
    · rcases hmo with g | g
      · exact absurd (testBit_of_and g hp) (by decide)
      · exact g
    · rcases ht with g | g
      · exact absurd (testBit_of_and g hp) (by decide)
      · exact g
  exact ⟨fun x => x.trans e.symm, fun x => x.trans e⟩

@[simp ↓] theorem same_sys_tin_cnv (h : m &&& 40992 = 40992) (hmo : m &&& 2147483648 = 2147483648 ∨ x5.modes = t.sys.modes) (ht : m &&& 4294967296 = 4294967296 ∨ x5.active = t.sys.active) :
    Same m s { t with sys := x5, tin := x13, cnv := x15 } ↔ Same m s t := by
  have e : Same m t { t with sys := x5, tin := x13, cnv := x15 } := by
    refine ⟨fun p hp => ?_⟩
    have hb := testBit_of_and h hp
    cases p
    all_goals first | rfl | (exact absurd hb (by decide)) | skip
    · rcases hmo with g | g
      · exact absurd (testBit_of_and g hp) (by decide)
      · exact g
    · rcases ht with g | g
      · exact absurd (testBit_of_and g hp) (by decide)
      · exact g
  exact ⟨fun x => x.trans e.symm, fun x => x.trans e⟩

@[simp ↓] theorem same_mb_cnv (h : m &&& 49152 = 49152) :
    Same m s { t with mb := x14, cnv := x15 } ↔ Same m s t := by
  have e : Same m t { t with mb := x14, cnv := x15 } := by
    refine ⟨fun p hp => ?_⟩
    have hb := testBit_of_and h hp
    cases p <;> first | rfl | (exact absurd hb (by decide))
  exact ⟨fun x => x.trans e.symm, fun x => x.trans e⟩

@[simp ↓] theorem same_acc (h : m &&& 65536 = 65536) :
    Same m s { t with acc := x16 } ↔ Same m s t := by
  have e : Same m t { t with acc := x16 } := by
    refine ⟨fun p hp => ?_⟩
    have hb := testBit_of_and h hp
    cases p <;> first | rfl | (exact absurd hb (by decide))
  exact ⟨fun x => x.trans e.symm, fun x => x.trans e⟩

@[simp ↓] theorem same_mb_acc (h : m &&& 81920 = 81920) :
    Same m s { t with mb := x14, acc := x16 } ↔ Same m s t := by
  have e : Same m t { t with mb := x14, acc := x16 } := by
    refine ⟨fun p hp => ?_⟩
    have hb := testBit_of_and h hp
    cases p <;> first | rfl | (exact absurd hb (by decide))
  exact ⟨fun x => x.trans e.symm, fun x => x.trans e⟩

@[simp ↓] theorem same_xam (h : m &&& 131072 = 131072) :
    Same m s { t with xam := x17 } ↔ Same m s t := by
  have e : Same m t { t with xam := x17 } := by
    refine ⟨fun p hp => ?_⟩
    have hb := testBit_of_and h hp
    cases p <;> first | rfl | (exact absurd hb (by decide))
  exact ⟨fun x => x.trans e.symm, fun x => x.trans e⟩

@[simp ↓] theorem same_clock_xam (h : m &&& 131074 = 131074) :
    Same m s { t with clock := x1, xam := x17 } ↔ Same m s t := by
  have e : Same m t { t with clock := x1, xam := x17 } := by
    refine ⟨fun p hp => ?_⟩
    have hb := testBit_of_and h hp
    cases p <;> first | rfl | (exact absurd hb (by decide))
  exact ⟨fun x => x.trans e.symm, fun x => x.trans e⟩

@[simp ↓] theorem same_met (h : m &&& 262144 = 262144) :
    Same m s { t with met := x18 } ↔ Same m s t := by
  have e : Same m t { t with met := x18 } := by
    refine ⟨fun p hp => ?_⟩
    have hb := testBit_of_and h hp
    cases p <;> first | rfl | (exact absurd hb (by decide))
  exact ⟨fun x => x.trans e.symm, fun x => x.trans e⟩

@[simp ↓] theorem same_mb_acc_met (h : m &&& 344064 = 344064) :
    Same m s { t with mb := x14, acc := x16, met := x18 } ↔ Same m s t := by
  have e : Same m t { t with mb := x14, acc := x16, met := x18 } := by
    refine ⟨fun p hp => ?_⟩
    have hb := testBit_of_and h hp
    cases p <;> first | rfl | (exact absurd hb (by decide))
  exact ⟨fun x => x.trans e.symm, fun x => x.trans e⟩

@[simp ↓] theorem same_tmr (h : m &&& 524288 = 524288) :
    Same m s { t with tmr := x19 } ↔ Same m s t := by
  have e : Same m t { t with tmr := x19 } := by
    refine ⟨fun p hp => ?_⟩
    have hb := testBit_of_and h hp
    cases p <;> first | rfl | (exact absurd hb (by decide))
  exact ⟨fun x => x.trans e.symm, fun x => x.trans e⟩

@[simp ↓] theorem same_sys_mb_cnv_tmr (h : m &&& 573472 = 573472) (hmo : m &&& 2147483648 = 2147483648 ∨ x5.modes = t.sys.modes) (ht : m &&& 4294967296 = 4294967296 ∨ x5.active = t.sys.active) :
    Same m s { t with sys := x5, mb := x14, cnv := x15, tmr := x19 } ↔ Same m s t := by
  have e : Same m t { t with sys := x5, mb := x14, cnv := x15, tmr := x19 } := by
    refine ⟨fun p hp => ?_⟩
    have hb := testBit_of_and h hp
    cases p
    all_goals first | rfl | (exact absurd hb (by decide)) | skip
    · rcases hmo with g | g
      · exact absurd (testBit_of_and g hp) (by decide)
      · exact g
    · rcases ht with g | g
      · exact absurd (testBit_of_and g hp) (by decide)
      · exact g
  exact ⟨fun x => x.trans e.symm, fun x => x.trans e⟩

@[simp ↓] theorem same_adm (h : m &&& 1048576 = 1048576) :
    Same m s { t with adm := x20 } ↔ Same m s t := by
  have e : Same m t { t with adm := x20 } := by
    refine ⟨fun p hp => ?_⟩
    have hb := testBit_of_and h hp
    cases p <;> first | rfl | (exact absurd hb (by decide))
  exact ⟨fun x => x.trans e.symm, fun x => x.trans e⟩

@[simp ↓] theorem same_bus_adm (h : m &&& 1052672 = 1052672) :
    Same m s { t with bus := x12, adm := x20 } ↔ Same m s t := by
  have e : Same m t { t with bus := x12, adm := x20 } := by
    refine ⟨fun p hp => ?_⟩
    have hb := testBit_of_and h hp
    cases p <;> first | rfl | (exact absurd hb (by decide))
  exact ⟨fun x => x.trans e.symm, fun x => x.trans e⟩

@[simp ↓] theorem same_bat (h : m &&& 2097152 = 2097152) :
    Same m s { t with bat := x21 } ↔ Same m s t := by
  have e : Same m t { t with bat := x21 } := by
    refine ⟨fun p hp => ?_⟩
    have hb := testBit_of_and h hp
    cases p <;> first | rfl | (exact absurd hb (by decide))
  exact ⟨fun x => x.trans e.symm, fun x => x.trans e⟩

@[simp ↓] theorem same_adm_bat (h : m &&& 3145728 = 3145728) :
    Same m s { t with adm := x20, bat := x21 } ↔ Same m s t := by
  have e : Same m t { t with adm := x20, bat := x21 } := by
    refine ⟨fun p hp => ?_⟩
    have hb := testBit_of_and h hp
    cases p <;> first | rfl | (exact absurd hb (by decide))
  exact ⟨fun x => x.trans e.symm, fun x => x.trans e⟩

@[simp ↓] theorem same_shb (h : m &&& 4194304 = 4194304) :
    Same m s { t with shb := x22 } ↔ Same m s t := by
  have e : Same m t { t with shb := x22 } := by
    refine ⟨fun p hp => ?_⟩
    have hb := testBit_of_and h hp
    cases p <;> first | rfl | (exact absurd hb (by decide))
  exact ⟨fun x => x.trans e.symm, fun x => x.trans e⟩

@[simp ↓] theorem same_tin_shb (h : m &&& 4202496 = 4202496) :
    Same m s { t with tin := x13, shb := x22 } ↔ Same m s t := by
  have e : Same m t { t with tin := x13, shb := x22 } := by
    refine ⟨fun p hp => ?_⟩
    have hb := testBit_of_and h hp
    cases p <;> first | rfl | (exact absurd hb (by decide))
  exact ⟨fun x => x.trans e.symm, fun x => x.trans e⟩

@[simp ↓] theorem same_fl (h : m &&& 8388608 = 8388608) :
    Same m s { t with fl := x23 } ↔ Same m s t := by
  have e : Same m t { t with fl := x23 } := by
    refine ⟨fun p hp => ?_⟩
    have hb := testBit_of_and h hp
    cases p <;> first | rfl | (exact absurd hb (by decide))
  exact ⟨fun x => x.trans e.symm, fun x => x.trans e⟩

@[simp ↓] theorem same_sys_tin_cnv_tmr_shb_fl (h : m &&& 13148192 = 13148192) (hmo : m &&& 2147483648 = 2147483648 ∨ x5.modes = t.sys.modes) (ht : m &&& 4294967296 = 4294967296 ∨ x5.active = t.sys.active) :
    Same m s { t with sys := x5, tin := x13, cnv := x15, tmr := x19, shb := x22, fl := x23 } ↔ Same m s t := by
  have e : Same m t { t with sys := x5, tin := x13, cnv := x15, tmr := x19, shb := x22, fl := x23 } := by
    refine ⟨fun p hp => ?_⟩
    have hb := testBit_of_and h hp
    cases p
    all_goals first | rfl | (exact absurd hb (by decide)) | skip
    · rcases hmo with g | g
      · exact absurd (testBit_of_and g hp) (by decide)
      · exact g
    · rcases ht with g | g
      · exact absurd (testBit_of_and g hp) (by decide)
      · exact g
  exact ⟨fun x => x.trans e.symm, fun x => x.trans e⟩

@[simp ↓] theorem same_nvs (h : m &&& 16777216 = 16777216) :
    Same m s { t with nvs := x24 } ↔ Same m s t := by
  have e : Same m t { t with nvs := x24 } := by
    refine ⟨fun p hp => ?_⟩
    have hb := testBit_of_and h hp
    cases p <;> first | rfl | (exact absurd hb (by decide))
  exact ⟨fun x => x.trans e.symm, fun x => x.trans e⟩

@[simp ↓] theorem same_sys_nvs (h : m &&& 16777248 = 16777248) (hmo : m &&& 2147483648 = 2147483648 ∨ x5.modes = t.sys.modes) (ht : m &&& 4294967296 = 4294967296 ∨ x5.active = t.sys.active) :
    Same m s { t with sys := x5, nvs := x24 } ↔ Same m s t := by
  have e : Same m t { t with sys := x5, nvs := x24 } := by
    refine ⟨fun p hp => ?_⟩
    have hb := testBit_of_and h hp
    cases p
    all_goals first | rfl | (exact absurd hb (by decide)) | skip
    · rcases hmo with g | g
      · exact absurd (testBit_of_and g hp) (by decide)
      · exact g
    · rcases ht with g | g
      · exact absurd (testBit_of_and g hp) (by decide)
      · exact g
  exact ⟨fun x => x.trans e.symm, fun x => x.trans e⟩

@[simp ↓] theorem same_tmr_nvs (h : m &&& 17301504 = 17301504) :
    Same m s { t with tmr := x19, nvs := x24 } ↔ Same m s t := by
  have e : Same m t { t with tmr := x19, nvs := x24 } := by
    refine ⟨fun p hp => ?_⟩
    have hb := testBit_of_and h hp
    cases p <;> first | rfl | (exact absurd hb (by decide))
  exact ⟨fun x => x.trans e.symm, fun x => x.trans e⟩

@[simp ↓] theorem same_bat_nvs (h : m &&& 18874368 = 18874368) :
    Same m s { t with bat := x21, nvs := x24 } ↔ Same m s t := by
  have e : Same m t { t with bat := x21, nvs := x24 } := by
    refine ⟨fun p hp => ?_⟩
    have hb := testBit_of_and h hp
    cases p <;> first | rfl | (exact absurd hb (by decide))
  exact ⟨fun x => x.trans e.symm, fun x => x.trans e⟩

@[simp ↓] theorem same_sys_tin_shb_nvs (h : m &&& 20979744 = 20979744) (hmo : m &&& 2147483648 = 2147483648 ∨ x5.modes = t.sys.modes) (ht : m &&& 4294967296 = 4294967296 ∨ x5.active = t.sys.active) :
    Same m s { t with sys := x5, tin := x13, shb := x22, nvs := x24 } ↔ Same m s t := by
  have e : Same m t { t with sys := x5, tin := x13, shb := x22, nvs := x24 } := by
    refine ⟨fun p hp => ?_⟩
    have hb := testBit_of_and h hp
    cases p
    all_goals first | rfl | (exact absurd hb (by decide)) | skip
    · rcases hmo with g | g
      · exact absurd (testBit_of_and g hp) (by decide)
      · exact g
    · rcases ht with g | g
      · exact absurd (testBit_of_and g hp) (by decide)
      · exact g
  exact ⟨fun x => x.trans e.symm, fun x => x.trans e⟩

@[simp ↓] theorem same_log (h : m &&& 33554432 = 33554432) :
    Same m s { t with log := x25 } ↔ Same m s t := by
  have e : Same m t { t with log := x25 } := by
    refine ⟨fun p hp => ?_⟩
    have hb := testBit_of_and h hp
    cases p <;> first | rfl | (exact absurd hb (by decide))
  exact ⟨fun x => x.trans e.symm, fun x => x.trans e⟩

@[simp ↓] theorem same_svc (h : m &&& 67108864 = 67108864) (hf : m &&& 536870912 = 536870912 ∨ x26.fuses = t.svc.fuses) (hi : m &&& 1073741824 = 1073741824 ∨ x26.images = t.svc.images) :
    Same m s { t with svc := x26 } ↔ Same m s t := by
  have e : Same m t { t with svc := x26 } := by
    refine ⟨fun p hp => ?_⟩
    have hb := testBit_of_and h hp
    cases p
    all_goals first | rfl | (exact absurd hb (by decide)) | skip
    · rcases hf with g | g
      · exact absurd (testBit_of_and g hp) (by decide)
      · exact g
    · rcases hi with g | g
      · exact absurd (testBit_of_and g hp) (by decide)
      · exact g
  exact ⟨fun x => x.trans e.symm, fun x => x.trans e⟩

@[simp ↓] theorem same_sys_svc (h : m &&& 67108896 = 67108896) (hf : m &&& 536870912 = 536870912 ∨ x26.fuses = t.svc.fuses) (hi : m &&& 1073741824 = 1073741824 ∨ x26.images = t.svc.images) (hmo : m &&& 2147483648 = 2147483648 ∨ x5.modes = t.sys.modes) (ht : m &&& 4294967296 = 4294967296 ∨ x5.active = t.sys.active) :
    Same m s { t with sys := x5, svc := x26 } ↔ Same m s t := by
  have e : Same m t { t with sys := x5, svc := x26 } := by
    refine ⟨fun p hp => ?_⟩
    have hb := testBit_of_and h hp
    cases p
    all_goals first | rfl | (exact absurd hb (by decide)) | skip
    · rcases hf with g | g
      · exact absurd (testBit_of_and g hp) (by decide)
      · exact g
    · rcases hi with g | g
      · exact absurd (testBit_of_and g hp) (by decide)
      · exact g
    · rcases hmo with g | g
      · exact absurd (testBit_of_and g hp) (by decide)
      · exact g
    · rcases ht with g | g
      · exact absurd (testBit_of_and g hp) (by decide)
      · exact g
  exact ⟨fun x => x.trans e.symm, fun x => x.trans e⟩

@[simp ↓] theorem same_outq_svc (h : m &&& 67109120 = 67109120) (hf : m &&& 536870912 = 536870912 ∨ x26.fuses = t.svc.fuses) (hi : m &&& 1073741824 = 1073741824 ∨ x26.images = t.svc.images) :
    Same m s { t with outq := x8, svc := x26 } ↔ Same m s t := by
  have e : Same m t { t with outq := x8, svc := x26 } := by
    refine ⟨fun p hp => ?_⟩
    have hb := testBit_of_and h hp
    cases p
    all_goals first | rfl | (exact absurd hb (by decide)) | skip
    · rcases hf with g | g
      · exact absurd (testBit_of_and g hp) (by decide)
      · exact g
    · rcases hi with g | g
      · exact absurd (testBit_of_and g hp) (by decide)
      · exact g
  exact ⟨fun x => x.trans e.symm, fun x => x.trans e⟩

@[simp ↓] theorem same_sys_tin_svc (h : m &&& 67117088 = 67117088) (hf : m &&& 536870912 = 536870912 ∨ x26.fuses = t.svc.fuses) (hi : m &&& 1073741824 = 1073741824 ∨ x26.images = t.svc.images) (hmo : m &&& 2147483648 = 2147483648 ∨ x5.modes = t.sys.modes) (ht : m &&& 4294967296 = 4294967296 ∨ x5.active = t.sys.active) :
    Same m s { t with sys := x5, tin := x13, svc := x26 } ↔ Same m s t := by
  have e : Same m t { t with sys := x5, tin := x13, svc := x26 } := by
    refine ⟨fun p hp => ?_⟩
    have hb := testBit_of_and h hp
    cases p
    all_goals first | rfl | (exact absurd hb (by decide)) | skip
    · rcases hf with g | g
      · exact absurd (testBit_of_and g hp) (by decide)
      · exact g
    · rcases hi with g | g
      · exact absurd (testBit_of_and g hp) (by decide)
      · exact g
    · rcases hmo with g | g
      · exact absurd (testBit_of_and g hp) (by decide)
      · exact g
    · rcases ht with g | g
      · exact absurd (testBit_of_and g hp) (by decide)
      · exact g
  exact ⟨fun x => x.trans e.symm, fun x => x.trans e⟩

@[simp ↓] theorem same_mb_svc (h : m &&& 67125248 = 67125248) (hf : m &&& 536870912 = 536870912 ∨ x26.fuses = t.svc.fuses) (hi : m &&& 1073741824 = 1073741824 ∨ x26.images = t.svc.images) :
    Same m s { t with mb := x14, svc := x26 } ↔ Same m s t := by
  have e : Same m t { t with mb := x14, svc := x26 } := by
    refine ⟨fun p hp => ?_⟩
    have hb := testBit_of_and h hp
    cases p
    all_goals first | rfl | (exact absurd hb (by decide)) | skip
    · rcases hf with g | g
      · exact absurd (testBit_of_and g hp) (by decide)
      · exact g
    · rcases hi with g | g
      · exact absurd (testBit_of_and g hp) (by decide)
      · exact g
  exact ⟨fun x => x.trans e.symm, fun x => x.trans e⟩

@[simp ↓] theorem same_grp_mb_cnv_svc (h : m &&& 67160064 = 67160064) (hf : m &&& 536870912 = 536870912 ∨ x26.fuses = t.svc.fuses) (hi : m &&& 1073741824 = 1073741824 ∨ x26.images = t.svc.images) :
    Same m s { t with grp := x11, mb := x14, cnv := x15, svc := x26 } ↔ Same m s t := by
  have e : Same m t { t with grp := x11, mb := x14, cnv := x15, svc := x26 } := by
    refine ⟨fun p hp => ?_⟩
    have hb := testBit_of_and h hp
    cases p
    all_goals first | rfl | (exact absurd hb (by decide)) | skip
    · rcases hf with g | g
      · exact absurd (testBit_of_and g hp) (by decide)
      · exact g
    · rcases hi with g | g
      · exact absurd (testBit_of_and g hp) (by decide)
      · exact g
  exact ⟨fun x => x.trans e.symm, fun x => x.trans e⟩

@[simp ↓] theorem same_adm_svc (h : m &&& 68157440 = 68157440) (hf : m &&& 536870912 = 536870912 ∨ x26.fuses = t.svc.fuses) (hi : m &&& 1073741824 = 1073741824 ∨ x26.images = t.svc.images) :
    Same m s { t with adm := x20, svc := x26 } ↔ Same m s t := by
  have e : Same m t { t with adm := x20, svc := x26 } := by
    refine ⟨fun p hp => ?_⟩
    have hb := testBit_of_and h hp
    cases p
    all_goals first | rfl | (exact absurd hb (by decide)) | skip
    · rcases hf with g | g
      · exact absurd (testBit_of_and g hp) (by decide)
      · exact g
    · rcases hi with g | g
      · exact absurd (testBit_of_and g hp) (by decide)
      · exact g
  exact ⟨fun x => x.trans e.symm, fun x => x.trans e⟩

@[simp ↓] theorem same_nvs_svc (h : m &&& 83886080 = 83886080) (hf : m &&& 536870912 = 536870912 ∨ x26.fuses = t.svc.fuses) (hi : m &&& 1073741824 = 1073741824 ∨ x26.images = t.svc.images) :
    Same m s { t with nvs := x24, svc := x26 } ↔ Same m s t := by
  have e : Same m t { t with nvs := x24, svc := x26 } := by
    refine ⟨fun p hp => ?_⟩
    have hb := testBit_of_and h hp
    cases p
    all_goals first | rfl | (exact absurd hb (by decide)) | skip
    · rcases hf with g | g
      · exact absurd (testBit_of_and g hp) (by decide)
      · exact g
    · rcases hi with g | g
      · exact absurd (testBit_of_and g hp) (by decide)
      · exact g
  exact ⟨fun x => x.trans e.symm, fun x => x.trans e⟩

@[simp ↓] theorem same_sys_tin_bat_nvs_log_svc (h : m &&& 119545888 = 119545888) (hf : m &&& 536870912 = 536870912 ∨ x26.fuses = t.svc.fuses) (hi : m &&& 1073741824 = 1073741824 ∨ x26.images = t.svc.images) (hmo : m &&& 2147483648 = 2147483648 ∨ x5.modes = t.sys.modes) (ht : m &&& 4294967296 = 4294967296 ∨ x5.active = t.sys.active) :
    Same m s { t with sys := x5, tin := x13, bat := x21, nvs := x24, log := x25, svc := x26 } ↔ Same m s t := by
  have e : Same m t { t with sys := x5, tin := x13, bat := x21, nvs := x24, log := x25, svc := x26 } := by
    refine ⟨fun p hp => ?_⟩
    have hb := testBit_of_and h hp
    cases p
    all_goals first | rfl | (exact absurd hb (by decide)) | skip
    · rcases hf with g | g
      · exact absurd (testBit_of_and g hp) (by decide)
      · exact g
    · rcases hi with g | g
      · exact absurd (testBit_of_and g hp) (by decide)
      · exact g
    · rcases hmo with g | g
      · exact absurd (testBit_of_and g hp) (by decide)
      · exact g
    · rcases ht with g | g
      · exact absurd (testBit_of_and g hp) (by decide)
      · exact g
  exact ⟨fun x => x.trans e.symm, fun x => x.trans e⟩

@[simp ↓] theorem same_link_deolo_bus_tin_mb_cnv_acc_met_tmr_bat_shb_nvs_log_svc (h : m &&& 124645952 = 124645952) (hf : m &&& 536870912 = 536870912 ∨ x26.fuses = t.svc.fuses) (hi : m &&& 1073741824 = 1073741824 ∨ x26.images = t.svc.images) :
    Same m s { t with link := x6, deolo := x9, bus := x12, tin := x13, mb := x14, cnv := x15, acc := x16, met := x18, tmr := x19, bat := x21, shb := x22, nvs := x24, log := x25, svc := x26 } ↔ Same m s t := by
  have e : Same m t { t with link := x6, deolo := x9, bus := x12, tin := x13, mb := x14, cnv := x15, acc := x16, met := x18, tmr := x19, bat := x21, shb := x22, nvs := x24, log := x25, svc := x26 } := by
    refine ⟨fun p hp => ?_⟩
    have hb := testBit_of_and h hp
    cases p
    all_goals first | rfl | (exact absurd hb (by decide)) | skip
    · rcases hf with g | g
      · exact absurd (testBit_of_and g hp) (by decide)
      · exact g
    · rcases hi with g | g
      · exact absurd (testBit_of_and g hp) (by decide)
      · exact g
  exact ⟨fun x => x.trans e.symm, fun x => x.trans e⟩

@[simp ↓] theorem same_pwr (h : m &&& 134217728 = 134217728) :
    Same m s { t with pwr := x27 } ↔ Same m s t := by
  have e : Same m t { t with pwr := x27 } := by
    refine ⟨fun p hp => ?_⟩
    have hb := testBit_of_and h hp
    cases p <;> first | rfl | (exact absurd hb (by decide))
  exact ⟨fun x => x.trans e.symm, fun x => x.trans e⟩

@[simp ↓] theorem same_sys_tin_pwr (h : m &&& 134225952 = 134225952) (hmo : m &&& 2147483648 = 2147483648 ∨ x5.modes = t.sys.modes) (ht : m &&& 4294967296 = 4294967296 ∨ x5.active = t.sys.active) :
    Same m s { t with sys := x5, tin := x13, pwr := x27 } ↔ Same m s t := by
  have e : Same m t { t with sys := x5, tin := x13, pwr := x27 } := by
    refine ⟨fun p hp => ?_⟩
    have hb := testBit_of_and h hp
    cases p
    all_goals first | rfl | (exact absurd hb (by decide)) | skip
    · rcases hmo with g | g
      · exact absurd (testBit_of_and g hp) (by decide)
      · exact g
    · rcases ht with g | g
      · exact absurd (testBit_of_and g hp) (by decide)
      · exact g
  exact ⟨fun x => x.trans e.symm, fun x => x.trans e⟩

@[simp ↓] theorem same_bus_cnv_pwr (h : m &&& 134254592 = 134254592) :
    Same m s { t with bus := x12, cnv := x15, pwr := x27 } ↔ Same m s t := by
  have e : Same m t { t with bus := x12, cnv := x15, pwr := x27 } := by
    refine ⟨fun p hp => ?_⟩
    have hb := testBit_of_and h hp
    cases p <;> first | rfl | (exact absurd hb (by decide))
  exact ⟨fun x => x.trans e.symm, fun x => x.trans e⟩

@[simp ↓] theorem same_ite {c : Prop} [Decidable c] {a b : State} :
    Same m s (if c then a else b) ↔ if c then Same m s a else Same m s b := by
  split <;> rfl

/-- A command that only goes on, and changes no part outside the mask. -/
def Ends (m : Nat) (s : State) (o : Host.Outcome State Fault Refusal) : Prop := ∃ t, o = .next t ∧ Same m s t

@[simp ↓] theorem ends_next : Ends m s (.next t) ↔ Same m s t :=
  ⟨fun ⟨_, e, h⟩ => by cases e; exact h, fun h => ⟨t, rfl, h⟩⟩

@[simp ↓] theorem ends_ite {c : Prop} [Decidable c] {a b : Host.Outcome State Fault Refusal} :
    Ends m s (if c then a else b) ↔ if c then Ends m s a else Ends m s b := by
  split <;> rfl

theorem Ends.mono {o : Host.Outcome State Fault Refusal} (h : Ends k s o) (hk : m &&& k = k) : Ends m s o :=
  h.elim fun t x => ⟨t, x.1, x.2.mono hk⟩

@[simp ↓] theorem foldl_same {β : Type} {g : State → β → State} {l : List β}
    (k : ∀ v a, Same m s (g v a) ↔ Same m s v) : Same m s (l.foldl g t) ↔ Same m s t := by
  induction l generalizing t with
  | nil => exact Iff.rfl
  | cons a l ih => exact ih.trans (k t a)

@[simp ↓] theorem foldl_snd_same {α β : Type} {g : α × State → β → α × State} {l : List β} {p : α × State}
    (k : ∀ p a, Same m s (g p a).2 ↔ Same m s p.2) : Same m s (l.foldl g p).2 ↔ Same m s p.2 := by
  induction l generalizing p with
  | nil => exact Iff.rfl
  | cons a l ih => exact ih.trans (k p a)

@[simp ↓] theorem foldl_fst_same {α β : Type} {g : State × α → β → State × α} {l : List β} {p : State × α}
    (k : ∀ p a, Same m s (g p a).1 ↔ Same m s p.1) : Same m s (l.foldl g p).1 ↔ Same m s p.1 := by
  induction l generalizing p with
  | nil => exact Iff.rfl
  | cons a l ih => exact ih.trans (k p a)

/-- A change of one channel that keeps its gates keeps every channel's gates. -/
theorem gates_vmod (t : State) (c : Ch) (f : Chan → Chan) (k : ∀ x, ((f x).gateA, (f x).gateB) = (x.gateA, x.gateB)) :
    (vmod t.ch c f).toList.map (fun x => (x.gateA, x.gateB)) = t.gates := by
  unfold vmod State.gates
  apply List.ext_getElem
  · simp
  · intro i h1 h2
    simp only [List.getElem_map, Vector.getElem_toList, Vector.getElem_set]
    split
    · rename_i e
      subst e
      exact k (t.ch.get c)
    · rfl

end Sys2Proof.Machine
end

