-- ==== Sys2Proof/Laws/FrameOps.lean ====
section
/-! SUPPORT. Frames of the operations of Machine/Ops.lean. -/

set_option Elab.async false
set_option linter.unusedTactic false
set_option linter.unreachableTactic false
set_option linter.unnecessarySeqFocus false
set_option linter.unusedSimpArgs false

namespace Sys2Proof.Machine

@[simp ↓] theorem putW_same (h : m &&& 8 = 8) : Same m s (putW a0 a1 t) ↔ Same m s t := by
  refine Same.peel ?_ h
  simp [putW]

@[simp ↓] theorem putF_same (h : m &&& 16 = 16) : Same m s (putF a0 a1 t) ↔ Same m s t := by
  refine Same.peel ?_ h
  unfold putF
  repeat' first
    | split
    | simp [Sys.modes, Svc.fuses, Svc.images]
    | intro _
    | refine (forEach_same fun _ _ => ?_).2 ?_
    | (rename_i heq; have hs := congrArg Prod.snd heq; dsimp only at hs; subst hs)

@[simp ↓] theorem modCh_same (h : m &&& 1024 = 1024)
    (k : m &&& 268435456 = 268435456 ∨ ∀ x, ((f x).gateA, (f x).gateB) = (x.gateA, x.gateB)) :
    Same m s (modCh c f t) ↔ Same m s t := by
  unfold modCh
  apply same_ch h
  rcases k with k | k
  · exact Or.inl k
  · exact Or.inr (gates_vmod t c f k)

@[simp ↓] theorem modGrp_same (h : m &&& 2048 = 2048) : Same m s (modGrp a0 a1 t) ↔ Same m s t := by
  refine Same.peel ?_ h
  unfold modGrp
  repeat' first
    | split
    | simp [Sys.modes, Svc.fuses, Svc.images]
    | intro _
    | refine (forEach_same fun _ _ => ?_).2 ?_
    | (rename_i heq; have hs := congrArg Prod.snd heq; dsimp only at hs; subst hs)

theorem forEach_same (k : ∀ a t, Same m t (f a t)) : Same m s (forEach l f t) ↔ Same m s t := by
  refine Same.peel ?_ (Nat.and_self m)
  induction l generalizing t with
  | nil => exact same_refl m t
  | cons a l ih => exact (k a t).trans ih

@[simp ↓] theorem forEach_same' (k : ∀ a t, Same m s (f a t) ↔ Same m s t) :
    Same m s (forEach l f t) ↔ Same m s t := by
  induction l generalizing t with
  | nil => exact Iff.rfl
  | cons a l ih => exact ih.trans (k a t)

@[simp ↓] theorem drawWord_same (h : m &&& 4 = 4) : Same m s (drawWord t).2 ↔ Same m s t := by
  refine Same.peel ?_ h
  unfold drawWord
  repeat' first
    | split
    | simp [Sys.modes, Svc.fuses, Svc.images]
    | intro _
    | refine (forEach_same fun _ _ => ?_).2 ?_
    | (rename_i heq; have hs := congrArg Prod.snd heq; dsimp only at hs; subst hs)

@[simp ↓] theorem drawWords_same (h : m &&& 4 = 4) : Same m s (drawWords a0 t).2 ↔ Same m s t := by
  refine Same.peel ?_ h
  induction a0 generalizing t with
  | zero => simp [drawWords]
  | succ n ih => exact (show Same 4 t (drawWord t).2 by simp).trans ih

@[simp ↓] theorem setIrq_same (h : m &&& 64 = 64) : Same m s (setIrq a0 t) ↔ Same m s t := by
  refine Same.peel ?_ h
  unfold setIrq
  repeat' first
    | split
    | simp [Sys.modes, Svc.fuses, Svc.images]
    | intro _
    | refine (forEach_same fun _ _ => ?_).2 ?_
    | (rename_i heq; have hs := congrArg Prod.snd heq; dsimp only at hs; subst hs)

@[simp ↓] theorem ktOutputs_same (h : m &&& 524288 = 524288) : Same m s (ktOutputs a0 t) ↔ Same m s t := by
  refine Same.peel ?_ h
  unfold ktOutputs
  repeat' first
    | split
    | simp [Sys.modes, Svc.fuses, Svc.images]
    | intro _
    | refine (forEach_same fun _ _ => ?_).2 ?_
    | (rename_i heq; have hs := congrArg Prod.snd heq; dsimp only at hs; subst hs)

@[simp ↓] theorem elapse_same (h : m &&& 655362 = 655362) : Same m s (elapse a0 t) ↔ Same m s t := by
  refine Same.peel ?_ h
  unfold elapse
  repeat' first
    | split
    | simp [Sys.modes, Svc.fuses, Svc.images]
    | intro _
    | refine (forEach_same fun _ _ => ?_).2 ?_
    | (rename_i heq; have hs := congrArg Prod.snd heq; dsimp only at hs; subst hs)

@[simp ↓] theorem elapseTo_same (h : m &&& 655362 = 655362) : Same m s (elapseTo a0 t) ↔ Same m s t := by
  refine Same.peel ?_ h
  unfold elapseTo
  repeat' first
    | split
    | simp [Sys.modes, Svc.fuses, Svc.images]
    | intro _
    | refine (forEach_same fun _ _ => ?_).2 ?_
    | (rename_i heq; have hs := congrArg Prod.snd heq; dsimp only at hs; subst hs)

@[simp ↓] theorem idle_same (h : m &&& 655362 = 655362) : Same m s (idle t) ↔ Same m s t := by
  refine Same.peel ?_ h
  unfold idle
  repeat' first
    | split
    | simp [Sys.modes, Svc.fuses, Svc.images]
    | intro _
    | refine (forEach_same fun _ _ => ?_).2 ?_
    | (rename_i heq; have hs := congrArg Prod.snd heq; dsimp only at hs; subst hs)

@[simp ↓] theorem modPup_same (h : m &&& 32 = 32) : Same m s (modPup a0 a1 t) ↔ Same m s t := by
  refine Same.peel ?_ h
  unfold modPup
  repeat' first
    | split
    | simp [Sys.modes, Svc.fuses, Svc.images]
    | intro _
    | refine (forEach_same fun _ _ => ?_).2 ?_
    | (rename_i heq; have hs := congrArg Prod.snd heq; dsimp only at hs; subst hs)

end Sys2Proof.Machine
end

