-- ==== Sys2Proof/Laws/FrameImage.lean ====
section
/-! SUPPORT. Frames of the operations of Machine/Image.lean. -/

set_option Elab.async false
set_option linter.unusedTactic false
set_option linter.unreachableTactic false
set_option linter.unnecessarySeqFocus false
set_option linter.unusedSimpArgs false

namespace Sys2Proof.Machine

@[simp ↓] theorem modBank_same (h : m &&& 67108864 = 67108864)
    (k : m &&& 1073741824 = 1073741824 ∨ ∀ x, (f x).bytes = x.bytes) :
    Same m s (modBank b f t) ↔ Same m s t := by
  unfold modBank
  split
  all_goals
    refine same_svc h (Or.inr rfl) ?_
    rcases k with k | k
    · exact Or.inl k
    · exact Or.inr (by simp [Svc.images, k])

@[simp ↓] theorem countTrial_same (h : m &&& 67108864 = 67108864) : Same m s (countTrial t) ↔ Same m s t := by
  refine Same.peel ?_ h
  unfold countTrial
  repeat' first
    | split
    | simp [Sys.modes, Svc.fuses, Svc.images]
    | intro _
    | refine (forEach_same fun _ _ => ?_).2 ?_
    | (rename_i heq; have hs := congrArg Prod.snd heq; dsimp only at hs; subst hs)

@[simp ↓] theorem rollBanks_same (h : m &&& 67108864 = 67108864) : Same m s (rollBanks t) ↔ Same m s t := by
  refine Same.peel ?_ h
  have e : (rollBanks t).svc.images = t.svc.images := by
    simp only [rollBanks, Svc.images]
    congr 1 <;> (repeat' split) <;> rfl
  have k : rollBanks t = { t with svc := (rollBanks t).svc } := rfl
  rw [k]
  refine (same_svc (m := 67108864) (t := t) (by decide) (Or.inr ?_) (Or.inr e)).2 (same_refl _ _)
  rfl

end Sys2Proof.Machine
end

