-- ==== Sys2Proof/Laws/FrameMailbox.lean ====
section
/-! SUPPORT. Frames of the operations of Machine/Mailbox.lean. -/

set_option Elab.async false
set_option linter.unusedTactic false
set_option linter.unreachableTactic false
set_option linter.unnecessarySeqFocus false
set_option linter.unusedSimpArgs false

namespace Sys2Proof.Machine

@[simp ↓] theorem setDbOut_same (h : m &&& 64 = 64) : Same m s (setDbOut a0 t) ↔ Same m s t := by
  refine Same.peel ?_ h
  unfold setDbOut
  repeat' first
    | split
    | simp [Sys.modes, Svc.fuses, Svc.images]
    | intro _
    | refine (forEach_same fun _ _ => ?_).2 ?_
    | (rename_i heq; have hs := congrArg Prod.snd heq; dsimp only at hs; subst hs)

@[simp ↓] theorem setCollide_same (h : m &&& 64 = 64) : Same m s (setCollide a0 t) ↔ Same m s t := by
  refine Same.peel ?_ h
  unfold setCollide
  repeat' first
    | split
    | simp [Sys.modes, Svc.fuses, Svc.images]
    | intro _
    | refine (forEach_same fun _ _ => ?_).2 ?_
    | (rename_i heq; have hs := congrArg Prod.snd heq; dsimp only at hs; subst hs)

@[simp ↓] theorem putMsg_same (h : m &&& 67109184 = 67109184) : Same m s (putMsg a0 a1 t) ↔ Same m s t := by
  refine Same.peel ?_ h
  unfold putMsg
  repeat' first
    | split
    | simp [Sys.modes, Svc.fuses, Svc.images]
    | intro _
    | refine (forEach_same fun _ _ => ?_).2 ?_
    | (rename_i heq; have hs := congrArg Prod.snd heq; dsimp only at hs; subst hs)

@[simp ↓] theorem placeAll_same (h : m &&& 67109184 = 67109184) : Same m s (placeAll a0 a1 t).2 ↔ Same m s t := by
  refine Same.peel ?_ h
  induction a1 generalizing t with
  | nil => simp [placeAll]
  | cons x l ih =>
    unfold placeAll
    split
    · exact (show Same 67109184 t (putMsg a0 x t) by simp).trans ih
    · simp

@[simp ↓] theorem flushTags_same (h : m &&& 67109184 = 67109184) : Same m s (flushTags a0 a1 a2 t).2 ↔ Same m s t := by
  refine Same.peel ?_ h
  induction a2 generalizing t with
  | nil => simp [flushTags]
  | cons e l ih =>
    have ih' : ∀ v w : State, Same 67109184 v (flushTags a0 a1 l w).2 ↔ Same 67109184 v w :=
      fun _ _ => Same.peel ih (Nat.and_self _)
    unfold flushTags
    repeat' first
      | split
      | simp [ih']

@[simp ↓] theorem flushOut_same (h : m &&& 67109696 = 67109696) : Same m s (flushOut a0 t) ↔ Same m s t := by
  refine Same.peel ?_ h
  unfold flushOut
  repeat' first
    | split
    | simp [Sys.modes, Svc.fuses, Svc.images]
    | intro _
    | refine (forEach_same fun _ _ => ?_).2 ?_
    | (rename_i heq; have hs := congrArg Prod.snd heq; dsimp only at hs; subst hs)

@[simp ↓] theorem putSes_same (h : m &&& 512 = 512) : Same m s (putSes a0 a1 t) ↔ Same m s t := by
  refine Same.peel ?_ h
  unfold putSes
  repeat' first
    | split
    | simp [Sys.modes, Svc.fuses, Svc.images]
    | intro _
    | refine (forEach_same fun _ _ => ?_).2 ?_
    | (rename_i heq; have hs := congrArg Prod.snd heq; dsimp only at hs; subst hs)

@[simp ↓] theorem placeLost_same (h : m &&& 67109696 = 67109696) : Same m s (placeLost a0 t) ↔ Same m s t := by
  refine Same.peel ?_ h
  unfold placeLost
  repeat' first
    | split
    | simp [Sys.modes, Svc.fuses, Svc.images]
    | intro _
    | refine (forEach_same fun _ _ => ?_).2 ?_
    | (rename_i heq; have hs := congrArg Prod.snd heq; dsimp only at hs; subst hs)

@[simp ↓] theorem placeHeldMode_same (h : m &&& 67109696 = 67109696) : Same m s (placeHeldMode a0 t) ↔ Same m s t := by
  refine Same.peel ?_ h
  unfold placeHeldMode
  repeat' first
    | split
    | simp [Sys.modes, Svc.fuses, Svc.images]
    | intro _
    | refine (forEach_same fun _ _ => ?_).2 ?_
    | (rename_i heq; have hs := congrArg Prod.snd heq; dsimp only at hs; subst hs)

@[simp ↓] theorem placeHeldCh_same (h : m &&& 67109696 = 67109696) : Same m s (placeHeldCh a0 t) ↔ Same m s t := by
  refine Same.peel ?_ h
  unfold placeHeldCh
  repeat' first
    | split
    | simp [Sys.modes, Svc.fuses, Svc.images]
    | intro _
    | refine (forEach_same fun _ _ => ?_).2 ?_
    | (rename_i heq; have hs := congrArg Prod.snd heq; dsimp only at hs; subst hs)

@[simp ↓] theorem ntfFlush_same (h : m &&& 67109696 = 67109696) : Same m s (ntfFlush a0 t) ↔ Same m s t := by
  refine Same.peel ?_ h
  unfold ntfFlush
  repeat' first
    | split
    | simp [Sys.modes, Svc.fuses, Svc.images]
    | intro _
    | refine (forEach_same fun _ _ => ?_).2 ?_
    | (rename_i heq; have hs := congrArg Prod.snd heq; dsimp only at hs; subst hs)

@[simp ↓] theorem ntfMiss_same (h : m &&& 576 = 576) : Same m s (ntfMiss a0 a1 a2 a3 t) ↔ Same m s t := by
  refine Same.peel ?_ h
  unfold ntfMiss
  repeat' first
    | split
    | simp [Sys.modes, Svc.fuses, Svc.images]
    | intro _
    | refine (forEach_same fun _ _ => ?_).2 ?_
    | (rename_i heq; have hs := congrArg Prod.snd heq; dsimp only at hs; subst hs)

@[simp ↓] theorem notifyTo_same (h : m &&& 67109696 = 67109696) : Same m s (notifyTo a0 a1 a2 t) ↔ Same m s t := by
  refine Same.peel ?_ h
  unfold notifyTo
  repeat' first
    | split
    | simp [Sys.modes, Svc.fuses, Svc.images]
    | intro _
    | refine (forEach_same fun _ _ => ?_).2 ?_
    | (rename_i heq; have hs := congrArg Prod.snd heq; dsimp only at hs; subst hs)

@[simp ↓] theorem notifyAll_same (h : m &&& 67109696 = 67109696) : Same m s (notifyAll a0 a1 t) ↔ Same m s t := by
  refine Same.peel ?_ h
  unfold notifyAll
  repeat' first
    | split
    | simp [Sys.modes, Svc.fuses, Svc.images]
    | intro _
    | refine (forEach_same fun _ _ => ?_).2 ?_
    | (rename_i heq; have hs := congrArg Prod.snd heq; dsimp only at hs; subst hs)

@[simp ↓] theorem diag15_same (h : m &&& 67109696 = 67109696) : Same m s (diag15 a0 a1 t) ↔ Same m s t := by
  refine Same.peel ?_ h
  unfold diag15
  repeat' first
    | split
    | simp [Sys.modes, Svc.fuses, Svc.images]
    | intro _
    | refine (forEach_same fun _ _ => ?_).2 ?_
    | (rename_i heq; have hs := congrArg Prod.snd heq; dsimp only at hs; subst hs)

@[simp ↓] theorem inboundLost_same (h : m &&& 67109696 = 67109696) : Same m s (inboundLost a0 a1 a2 t) ↔ Same m s t := by
  refine Same.peel ?_ h
  unfold inboundLost
  repeat' first
    | split
    | simp [Sys.modes, Svc.fuses, Svc.images]
    | intro _
    | refine (forEach_same fun _ _ => ?_).2 ?_
    | (rename_i heq; have hs := congrArg Prod.snd heq; dsimp only at hs; subst hs)

@[simp ↓] theorem modTag_same (h : m &&& 512 = 512) : Same m s (modTag a0 a1 t) ↔ Same m s t := by
  refine Same.peel ?_ h
  unfold modTag
  repeat' first
    | split
    | simp [Sys.modes, Svc.fuses, Svc.images]
    | intro _
    | refine (forEach_same fun _ _ => ?_).2 ?_
    | (rename_i heq; have hs := congrArg Prod.snd heq; dsimp only at hs; subst hs)

@[simp ↓] theorem finish_same (h : m &&& 67109696 = 67109696) : Same m s (finish a0 a1 a2 t) ↔ Same m s t := by
  refine Same.peel ?_ h
  unfold finish
  repeat' first
    | split
    | simp [Sys.modes, Svc.fuses, Svc.images]
    | intro _
    | refine (forEach_same fun _ _ => ?_).2 ?_
    | (rename_i heq; have hs := congrArg Prod.snd heq; dsimp only at hs; subst hs)

@[simp ↓] theorem settleSession_same (h : m &&& 67109696 = 67109696) : Same m s (settleSession a0 t) ↔ Same m s t := by
  refine Same.peel ?_ h
  unfold settleSession
  repeat' first
    | split
    | simp [Sys.modes, Svc.fuses, Svc.images]
    | intro _
    | refine (forEach_same fun _ _ => ?_).2 ?_
    | (rename_i heq; have hs := congrArg Prod.snd heq; dsimp only at hs; subst hs)

@[simp ↓] theorem complete_same (h : m &&& 67109696 = 67109696) : Same m s (complete a0 a1 a2 t) ↔ Same m s t := by
  refine Same.peel ?_ h
  unfold complete
  repeat' first
    | split
    | simp [Sys.modes, Svc.fuses, Svc.images]
    | intro _
    | refine (forEach_same fun _ _ => ?_).2 ?_
    | (rename_i heq; have hs := congrArg Prod.snd heq; dsimp only at hs; subst hs)

@[simp ↓] theorem interim_same (h : m &&& 67109696 = 67109696) : Same m s (interim a0 a1 a2 t) ↔ Same m s t := by
  refine Same.peel ?_ h
  unfold interim
  repeat' first
    | split
    | simp [Sys.modes, Svc.fuses, Svc.images]
    | intro _
    | refine (forEach_same fun _ _ => ?_).2 ?_
    | (rename_i heq; have hs := congrArg Prod.snd heq; dsimp only at hs; subst hs)

@[simp ↓] theorem streamOut_same (h : m &&& 67109696 = 67109696) : Same m s (streamOut a0 a1 a2 a3 t) ↔ Same m s t := by
  refine Same.peel ?_ h
  unfold streamOut
  repeat' first
    | split
    | simp [Sys.modes, Svc.fuses, Svc.images]
    | intro _
    | refine (forEach_same fun _ _ => ?_).2 ?_
    | (rename_i heq; have hs := congrArg Prod.snd heq; dsimp only at hs; subst hs)

@[simp ↓] theorem begin_same (h : m &&& 512 = 512) : Same m s (begin_ a0 t) ↔ Same m s t := by
  refine Same.peel ?_ h
  unfold begin_
  repeat' first
    | split
    | simp [Sys.modes, Svc.fuses, Svc.images]
    | intro _
    | refine (forEach_same fun _ _ => ?_).2 ?_
    | (rename_i heq; have hs := congrArg Prod.snd heq; dsimp only at hs; subst hs)

@[simp ↓] theorem consumeOut_same (h : m &&& 768 = 768) : Same m s (consumeOut a0 a1 t) ↔ Same m s t := by
  refine Same.peel ?_ h
  unfold consumeOut
  repeat' first
    | split
    | simp [Sys.modes, Svc.fuses, Svc.images]
    | intro _
    | refine (forEach_same fun _ _ => ?_).2 ?_
    | (rename_i heq; have hs := congrArg Prod.snd heq; dsimp only at hs; subst hs)

@[simp ↓] theorem reportCh_same (h : m &&& 67109696 = 67109696) : Same m s (reportCh a0 t) ↔ Same m s t := by
  refine Same.peel ?_ h
  unfold reportCh
  repeat' first
    | split
    | simp [Sys.modes, Svc.fuses, Svc.images]
    | intro _
    | refine (forEach_same fun _ _ => ?_).2 ?_
    | (rename_i heq; have hs := congrArg Prod.snd heq; dsimp only at hs; subst hs)

end Sys2Proof.Machine
end

