-- ==== Sys2Proof/Laws/FrameRecorder.lean ====
section
/-! SUPPORT. Frames of the operations of Machine/Recorder.lean. -/

set_option Elab.async false
set_option linter.unusedTactic false
set_option linter.unreachableTactic false
set_option linter.unnecessarySeqFocus false
set_option linter.unusedSimpArgs false

namespace Sys2Proof.Machine

@[simp ↓] theorem collect_same (h : m &&& 33554432 = 33554432) : Same m s (collect a0 a1 a2 a3 a4 t) ↔ Same m s t := by
  refine Same.peel ?_ h
  unfold collect
  repeat' first
    | split
    | simp [Sys.modes, Svc.fuses, Svc.images]
    | intro _
    | refine (forEach_same fun _ _ => ?_).2 ?_
    | (rename_i heq; have hs := congrArg Prod.snd heq; dsimp only at hs; subst hs)

@[simp ↓] theorem dropRecord_same (h : m &&& 33554432 = 33554432) : Same m s (dropRecord a0 a1 a2 a3 t) ↔ Same m s t := by
  refine Same.peel ?_ h
  unfold dropRecord
  repeat' first
    | split
    | simp [Sys.modes, Svc.fuses, Svc.images]
    | intro _
    | refine (forEach_same fun _ _ => ?_).2 ?_
    | (rename_i heq; have hs := congrArg Prod.snd heq; dsimp only at hs; subst hs)

@[simp ↓] theorem displaceOne_same (h : m &&& 33554432 = 33554432) : Same m s (displaceOne a0 t) ↔ Same m s t := by
  refine Same.peel ?_ h
  unfold displaceOne
  repeat' first
    | split
    | simp [Sys.modes, Svc.fuses, Svc.images]
    | intro _
    | refine (forEach_same fun _ _ => ?_).2 ?_
    | (rename_i heq; have hs := congrArg Prod.snd heq; dsimp only at hs; subst hs)

@[simp ↓] theorem makeRoom_same (h : m &&& 33554432 = 33554432) : Same m s (makeRoom a0 a1 a2 t) ↔ Same m s t := by
  refine Same.peel ?_ h
  induction a2 generalizing t with
  | zero => simp [makeRoom]
  | succ n ih =>
    unfold makeRoom
    split
    · simp
    · exact (show Same 33554432 t (displaceOne _ t) by simp).trans ih

@[simp ↓] theorem appendFrame_same (h : m &&& 100664128 = 100664128) : Same m s (appendFrame a0 a1 a2 a3 t) ↔ Same m s t := by
  refine Same.peel ?_ h
  unfold appendFrame
  repeat' first
    | split
    | simp [Sys.modes, Svc.fuses, Svc.images]
    | intro _
    | refine (forEach_same fun _ _ => ?_).2 ?_
    | (rename_i heq; have hs := congrArg Prod.snd heq; dsimp only at hs; subst hs)

@[simp ↓] theorem enterRecord_same (h : m &&& 100664128 = 100664128) : Same m s (enterRecord a0 a1 a2 a3 t) ↔ Same m s t := by
  refine Same.peel ?_ h
  unfold enterRecord
  repeat' first
    | split
    | simp [Sys.modes, Svc.fuses, Svc.images]
    | intro _
    | refine (forEach_same fun _ _ => ?_).2 ?_
    | (rename_i heq; have hs := congrArg Prod.snd heq; dsimp only at hs; subst hs)

@[simp ↓] theorem countPair_same (h : m &&& 33554432 = 33554432) : Same m s (countPair a0 a1 t) ↔ Same m s t := by
  refine Same.peel ?_ h
  unfold countPair
  repeat' first
    | split
    | simp [Sys.modes, Svc.fuses, Svc.images]
    | intro _
    | refine (forEach_same fun _ _ => ?_).2 ?_
    | (rename_i heq; have hs := congrArg Prod.snd heq; dsimp only at hs; subst hs)

@[simp ↓] theorem enterSummary_same (h : m &&& 100664128 = 100664128) : Same m s (enterSummary a0 t) ↔ Same m s t := by
  refine Same.peel ?_ h
  unfold enterSummary
  repeat' first
    | split
    | simp [Sys.modes, Svc.fuses, Svc.images]
    | intro _
    | refine (forEach_same fun _ _ => ?_).2 ?_
    | (rename_i heq; have hs := congrArg Prod.snd heq; dsimp only at hs; subst hs)

@[simp ↓] theorem endWindow_same (h : m &&& 100664128 = 100664128) : Same m s (endWindow t) ↔ Same m s t := by
  refine Same.peel ?_ h
  unfold endWindow
  repeat' first
    | split
    | simp [Sys.modes, Svc.fuses, Svc.images]
    | intro _
    | refine (forEach_same fun _ _ => ?_).2 ?_
    | (rename_i heq; have hs := congrArg Prod.snd heq; dsimp only at hs; subst hs)

@[simp ↓] theorem syncWindow_same (h : m &&& 100664128 = 100664128) : Same m s (syncWindow t) ↔ Same m s t := by
  refine Same.peel ?_ h
  unfold syncWindow
  repeat' first
    | split
    | simp [Sys.modes, Svc.fuses, Svc.images]
    | intro _
    | refine (forEach_same fun _ _ => ?_).2 ?_
    | (rename_i heq; have hs := congrArg Prod.snd heq; dsimp only at hs; subst hs)

@[simp ↓] theorem logEvent_same (h : m &&& 100664128 = 100664128) : Same m s (logEvent a0 a1 a2 a3 t) ↔ Same m s t := by
  refine Same.peel ?_ h
  unfold logEvent
  repeat' first
    | split
    | simp [Sys.modes, Svc.fuses, Svc.images]
    | intro _
    | refine (forEach_same fun _ _ => ?_).2 ?_
    | (rename_i heq; have hs := congrArg Prod.snd heq; dsimp only at hs; subst hs)

end Sys2Proof.Machine
end

