-- ==== Sys2Proof/Laws/FrameStore.lean ====
section
/-! SUPPORT. Frames of the operations of Machine/Store.lean. -/

set_option Elab.async false
set_option linter.unusedTactic false
set_option linter.unreachableTactic false
set_option linter.unnecessarySeqFocus false
set_option linter.unusedSimpArgs false

namespace Sys2Proof.Machine

@[simp ↓] theorem spoilRec_same (h : m &&& 16777216 = 16777216) : Same m s (spoilRec a0 a1 t) ↔ Same m s t := by
  refine Same.peel ?_ h
  unfold spoilRec
  repeat' first
    | split
    | simp [Sys.modes, Svc.fuses, Svc.images]
    | intro _
    | refine (forEach_same fun _ _ => ?_).2 ?_
    | (rename_i heq; have hs := congrArg Prod.snd heq; dsimp only at hs; subst hs)

@[simp ↓] theorem commitRec_same (h : m &&& 16777216 = 16777216) : Same m s (commitRec a0 a1 a2 t) ↔ Same m s t := by
  refine Same.peel ?_ h
  unfold commitRec
  repeat' first
    | split
    | simp [Sys.modes, Svc.fuses, Svc.images]
    | intro _
    | refine (forEach_same fun _ _ => ?_).2 ?_
    | (rename_i heq; have hs := congrArg Prod.snd heq; dsimp only at hs; subst hs)

@[simp ↓] theorem offer_same (h : m &&& 16777216 = 16777216) : Same m s (offer a0 t) ↔ Same m s t := by
  refine Same.peel ?_ h
  unfold offer
  repeat' first
    | split
    | simp [Sys.modes, Svc.fuses, Svc.images]
    | intro _
    | refine (forEach_same fun _ _ => ?_).2 ?_
    | (rename_i heq; have hs := congrArg Prod.snd heq; dsimp only at hs; subst hs)

@[simp ↓] theorem offerWrite_same (h : m &&& 16777216 = 16777216) : Same m s (offerWrite a0 a1 a2 t) ↔ Same m s t := by
  refine Same.peel ?_ h
  unfold offerWrite
  repeat' first
    | split
    | simp [Sys.modes, Svc.fuses, Svc.images]
    | intro _
    | refine (forEach_same fun _ _ => ?_).2 ?_
    | (rename_i heq; have hs := congrArg Prod.snd heq; dsimp only at hs; subst hs)

@[simp ↓] theorem queueWrite_same (h : m &&& 16777216 = 16777216) : Same m s (queueWrite a0 a1 t) ↔ Same m s t := by
  refine Same.peel ?_ h
  unfold queueWrite
  repeat' first
    | split
    | simp [Sys.modes, Svc.fuses, Svc.images]
    | intro _
    | refine (forEach_same fun _ _ => ?_).2 ?_
    | (rename_i heq; have hs := congrArg Prod.snd heq; dsimp only at hs; subst hs)

@[simp ↓] theorem offerHeld_same (h : m &&& 16777216 = 16777216) : Same m s (offerHeld t) ↔ Same m s t := by
  refine Same.peel ?_ h
  unfold offerHeld
  repeat' first
    | split
    | simp [Sys.modes, Svc.fuses, Svc.images]
    | intro _
    | refine (forEach_same fun _ _ => ?_).2 ?_
    | (rename_i heq; have hs := congrArg Prod.snd heq; dsimp only at hs; subst hs)

@[simp ↓] theorem dropWrite_same (h : m &&& 16777216 = 16777216) : Same m s (dropWrite a0 t) ↔ Same m s t := by
  refine Same.peel ?_ h
  unfold dropWrite
  repeat' first
    | split
    | simp [Sys.modes, Svc.fuses, Svc.images]
    | intro _
    | refine (forEach_same fun _ _ => ?_).2 ?_
    | (rename_i heq; have hs := congrArg Prod.snd heq; dsimp only at hs; subst hs)

@[simp ↓] theorem writeEntry_same (h : m &&& 16777216 = 16777216) : Same m s (writeEntry a0 t) ↔ Same m s t := by
  refine Same.peel ?_ h
  unfold writeEntry
  repeat' first
    | split
    | simp [Sys.modes, Svc.fuses, Svc.images]
    | intro _
    | refine (forEach_same fun _ _ => ?_).2 ?_
    | (rename_i heq; have hs := congrArg Prod.snd heq; dsimp only at hs; subst hs)

@[simp ↓] theorem writeIntent_same (h : m &&& 16777216 = 16777216) : Same m s (writeIntent a0 t) ↔ Same m s t := by
  refine Same.peel ?_ h
  unfold writeIntent
  repeat' first
    | split
    | simp [Sys.modes, Svc.fuses, Svc.images]
    | intro _
    | refine (forEach_same fun _ _ => ?_).2 ?_
    | (rename_i heq; have hs := congrArg Prod.snd heq; dsimp only at hs; subst hs)

@[simp ↓] theorem offerClears_same (h : m &&& 16777216 = 16777216) : Same m s (offerClears a0 t) ↔ Same m s t := by
  refine Same.peel ?_ h
  unfold offerClears
  repeat' first
    | split
    | simp [Sys.modes, Svc.fuses, Svc.images]
    | intro _
    | refine (forEach_same fun _ _ => ?_).2 ?_
    | (rename_i heq; have hs := congrArg Prod.snd heq; dsimp only at hs; subst hs)

@[simp ↓] theorem runWrite_same (h : m &&& 117441344 = 117441344) : Same m s (runWrite a0 a1 t) ↔ Same m s t := by
  refine Same.peel ?_ h
  unfold runWrite
  repeat' first
    | split
    | simp [Sys.modes, Svc.fuses, Svc.images]
    | intro _
    | refine (forEach_same fun _ _ => ?_).2 ?_
    | (rename_i heq; have hs := congrArg Prod.snd heq; dsimp only at hs; subst hs)

@[simp ↓] theorem cutWrite_same (h : m &&& 117441348 = 117441348) : Same m s (cutWrite t) ↔ Same m s t := by
  refine Same.peel ?_ h
  unfold cutWrite
  repeat' first
    | split
    | simp [Sys.modes, Svc.fuses, Svc.images]
    | intro _
    | refine (forEach_same fun _ _ => ?_).2 ?_
    | (rename_i heq; have hs := congrArg Prod.snd heq; dsimp only at hs; subst hs)

@[simp ↓] theorem drainQueue_same (h : m &&& 117441344 = 117441344) : Same m s (drainQueue a0 t) ↔ Same m s t := by
  refine Same.peel ?_ h
  induction a0 generalizing t with
  | zero => simp [drainQueue]
  | succ n ih =>
    unfold drainQueue
    split
    · simp
    · exact (show Same 117441344 t (runWrite _ 0 t) by simp).trans ih

@[simp ↓] theorem markDirty_same (h : m &&& 16777216 = 16777216) : Same m s (markDirty a0 t) ↔ Same m s t := by
  refine Same.peel ?_ h
  unfold markDirty
  repeat' first
    | split
    | simp [Sys.modes, Svc.fuses, Svc.images]
    | intro _
    | refine (forEach_same fun _ _ => ?_).2 ?_
    | (rename_i heq; have hs := congrArg Prod.snd heq; dsimp only at hs; subst hs)

end Sys2Proof.Machine
end

