-- ==== Sys2Proof/Laws/FrameSvcOut.lean ====
section
/-! SUPPORT. Frames of the operations of Machine/SvcOut.lean. -/

set_option Elab.async false
set_option linter.unusedTactic false
set_option linter.unreachableTactic false
set_option linter.unnecessarySeqFocus false
set_option linter.unusedSimpArgs false

namespace Sys2Proof.Machine

@[simp ↓] theorem svcReply_same (h : m &&& 67108864 = 67108864) : Same m s (svcReply a0 a1 a2 a3 t) ↔ Same m s t := by
  refine Same.peel ?_ h
  unfold svcReply
  repeat' first
    | split
    | simp [Sys.modes, Svc.fuses, Svc.images]
    | intro _
    | refine (forEach_same fun _ _ => ?_).2 ?_
    | (rename_i heq; have hs := congrArg Prod.snd heq; dsimp only at hs; subst hs)

@[simp ↓] theorem putLast_same (h : m &&& 67108864 = 67108864) : Same m s (putLast a0 a1 a2 t) ↔ Same m s t := by
  refine Same.peel ?_ h
  unfold putLast
  repeat' first
    | split
    | simp [Sys.modes, Svc.fuses, Svc.images]
    | intro _
    | refine (forEach_same fun _ _ => ?_).2 ?_
    | (rename_i heq; have hs := congrArg Prod.snd heq; dsimp only at hs; subst hs)

@[simp ↓] theorem answerTakeover_same (h : m &&& 67108864 = 67108864) : Same m s (answerTakeover a0 a1 a2 t) ↔ Same m s t := by
  refine Same.peel ?_ h
  unfold answerTakeover
  repeat' first
    | split
    | simp [Sys.modes, Svc.fuses, Svc.images]
    | intro _
    | refine (forEach_same fun _ _ => ?_).2 ?_
    | (rename_i heq; have hs := congrArg Prod.snd heq; dsimp only at hs; subst hs)

end Sys2Proof.Machine
end

