-- ==== Sys2Proof/Laws/FrameChannels.lean ====
section
/-! SUPPORT. Frames of the operations of Machine/Channels.lean. -/

set_option Elab.async false
set_option linter.unusedTactic false
set_option linter.unreachableTactic false
set_option linter.unnecessarySeqFocus false
set_option linter.unusedSimpArgs false

namespace Sys2Proof.Machine

@[simp ↓] theorem setProbe_same (h : m &&& 1024 = 1024) : Same m s (setProbe a0 t) ↔ Same m s t := by
  refine Same.peel ?_ h
  unfold setProbe
  repeat' first
    | split
    | simp [Sys.modes, Svc.fuses, Svc.images]
    | intro _
    | refine (forEach_same fun _ _ => ?_).2 ?_
    | (rename_i heq; have hs := congrArg Prod.snd heq; dsimp only at hs; subst hs)

@[simp ↓] theorem lpExit_same (h : m &&& 32768 = 32768) : Same m s (lpExit a0 t) ↔ Same m s t := by
  refine Same.peel ?_ h
  unfold lpExit
  repeat' first
    | split
    | simp [Sys.modes, Svc.fuses, Svc.images]
    | intro _
    | refine (forEach_same fun _ _ => ?_).2 ?_
    | (rename_i heq; have hs := congrArg Prod.snd heq; dsimp only at hs; subst hs)

@[simp ↓] theorem closeCh_same (h : m &&& 268469248 = 268469248) : Same m s (closeCh a0 a1 t) ↔ Same m s t := by
  refine Same.peel ?_ h
  unfold closeCh
  repeat' first
    | split
    | simp [Sys.modes, Svc.fuses, Svc.images]
    | intro _
    | refine (forEach_same fun _ _ => ?_).2 ?_
    | (rename_i heq; have hs := congrArg Prod.snd heq; dsimp only at hs; subst hs)

@[simp ↓] theorem settleLine_same (h : m &&& 109052736 = 109052736) : Same m s (settleLine a0 t) ↔ Same m s t := by
  refine Same.peel ?_ h
  unfold settleLine
  repeat' first
    | split
    | simp [Sys.modes, Svc.fuses, Svc.images]
    | intro _
    | refine (forEach_same fun _ _ => ?_).2 ?_
    | (rename_i heq; have hs := congrArg Prod.snd heq; dsimp only at hs; subst hs)

@[simp ↓] theorem settleLines_same (h : m &&& 109052736 = 109052736) : Same m s (settleLines t) ↔ Same m s t := by
  refine Same.peel ?_ h
  unfold settleLines
  repeat' first
    | split
    | simp [Sys.modes, Svc.fuses, Svc.images]
    | intro _
    | refine (forEach_same fun _ _ => ?_).2 ?_
    | (rename_i heq; have hs := congrArg Prod.snd heq; dsimp only at hs; subst hs)

@[simp ↓] theorem sheetDiff_same (h : m &&& 100665152 = 100665152) : Same m s (sheetDiff t) ↔ Same m s t := by
  refine Same.peel ?_ h
  unfold sheetDiff
  repeat' first
    | split
    | simp [Sys.modes, Svc.fuses, Svc.images]
    | intro _
    | refine (forEach_same fun _ _ => ?_).2 ?_
    | (rename_i heq; have hs := congrArg Prod.snd heq; dsimp only at hs; subst hs)

end Sys2Proof.Machine
end

