-- ==== Sys2Proof/Laws/FrameAdmission.lean ====
section
/-! SUPPORT. Frames of the operations of Machine/Admission.lean. -/

set_option Elab.async false
set_option linter.unusedTactic false
set_option linter.unreachableTactic false
set_option linter.unnecessarySeqFocus false
set_option linter.unusedSimpArgs false

namespace Sys2Proof.Machine

@[simp ↓] theorem decide_same (h : m &&& 1048640 = 1048640) : Same m s (decide_ a0 a1 a2 t) ↔ Same m s t := by
  refine Same.peel ?_ h
  unfold decide_
  repeat' first
    | split
    | simp [Sys.modes, Svc.fuses, Svc.images]
    | intro _
    | refine (forEach_same fun _ _ => ?_).2 ?_
    | (rename_i heq; have hs := congrArg Prod.snd heq; dsimp only at hs; subst hs)

@[simp ↓] theorem ntfAdmit_same (h : m &&& 67109696 = 67109696) : Same m s (ntfAdmit a0 a1 t) ↔ Same m s t := by
  refine Same.peel ?_ h
  unfold ntfAdmit
  repeat' first
    | split
    | simp [Sys.modes, Svc.fuses, Svc.images]
    | intro _
    | refine (forEach_same fun _ _ => ?_).2 ?_
    | (rename_i heq; have hs := congrArg Prod.snd heq; dsimp only at hs; subst hs)

@[simp ↓] theorem opComplete_same (h : m &&& 67109696 = 67109696) : Same m s (opComplete a0 a1 a2 a3 t) ↔ Same m s t := by
  refine Same.peel ?_ h
  unfold opComplete
  repeat' first
    | split
    | simp [Sys.modes, Svc.fuses, Svc.images]
    | intro _
    | refine (forEach_same fun _ _ => ?_).2 ?_
    | (rename_i heq; have hs := congrArg Prod.snd heq; dsimp only at hs; subst hs)

@[simp ↓] theorem putGrant_same (h : m &&& 1024 = 1024) : Same m s (putGrant a0 a1 t) ↔ Same m s t := by
  refine Same.peel ?_ h
  unfold putGrant
  repeat' first
    | split
    | simp [Sys.modes, Svc.fuses, Svc.images]
    | intro _
    | refine (forEach_same fun _ _ => ?_).2 ?_
    | (rename_i heq; have hs := congrArg Prod.snd heq; dsimp only at hs; subst hs)

@[simp ↓] theorem putOff_same (h : m &&& 1024 = 1024) : Same m s (putOff a0 a1 t) ↔ Same m s t := by
  refine Same.peel ?_ h
  unfold putOff
  repeat' first
    | split
    | simp [Sys.modes, Svc.fuses, Svc.images]
    | intro _
    | refine (forEach_same fun _ _ => ?_).2 ?_
    | (rename_i heq; have hs := congrArg Prod.snd heq; dsimp only at hs; subst hs)

@[simp ↓] theorem disarmNow_same (h : m &&& 268436480 = 268436480) : Same m s (disarmNow a0 t) ↔ Same m s t := by
  refine Same.peel ?_ h
  unfold disarmNow
  repeat' first
    | split
    | simp [Sys.modes, Svc.fuses, Svc.images]
    | intro _
    | refine (forEach_same fun _ _ => ?_).2 ?_
    | (rename_i heq; have hs := congrArg Prod.snd heq; dsimp only at hs; subst hs)

@[simp ↓] theorem disarmCh_same (h : m &&& 268436480 = 268436480) : Same m s (disarmCh a0 t) ↔ Same m s t := by
  refine Same.peel ?_ h
  unfold disarmCh
  repeat' first
    | split
    | simp [Sys.modes, Svc.fuses, Svc.images]
    | intro _
    | refine (forEach_same fun _ _ => ?_).2 ?_
    | (rename_i heq; have hs := congrArg Prod.snd heq; dsimp only at hs; subst hs)

@[simp ↓] theorem armNow_same (h : m &&& 268436480 = 268436480) : Same m s (armNow a0 t) ↔ Same m s t := by
  refine Same.peel ?_ h
  unfold armNow
  repeat' first
    | split
    | simp [Sys.modes, Svc.fuses, Svc.images]
    | intro _
    | refine (forEach_same fun _ _ => ?_).2 ?_
    | (rename_i heq; have hs := congrArg Prod.snd heq; dsimp only at hs; subst hs)

@[simp ↓] theorem armCh_same (h : m &&& 268436480 = 268436480) : Same m s (armCh a0 t) ↔ Same m s t := by
  refine Same.peel ?_ h
  unfold armCh
  repeat' first
    | split
    | simp [Sys.modes, Svc.fuses, Svc.images]
    | intro _
    | refine (forEach_same fun _ _ => ?_).2 ?_
    | (rename_i heq; have hs := congrArg Prod.snd heq; dsimp only at hs; subst hs)

@[simp ↓] theorem unwaitNow_same (h : m &&& 1024 = 1024) : Same m s (unwaitNow a0 t) ↔ Same m s t := by
  refine Same.peel ?_ h
  unfold unwaitNow
  repeat' first
    | split
    | simp [Sys.modes, Svc.fuses, Svc.images]
    | intro _
    | refine (forEach_same fun _ _ => ?_).2 ?_
    | (rename_i heq; have hs := congrArg Prod.snd heq; dsimp only at hs; subst hs)

@[simp ↓] theorem unwait_same (h : m &&& 1024 = 1024) : Same m s (unwait a0 t) ↔ Same m s t := by
  refine Same.peel ?_ h
  unfold unwait
  repeat' first
    | split
    | simp [Sys.modes, Svc.fuses, Svc.images]
    | intro _
    | refine (forEach_same fun _ _ => ?_).2 ?_
    | (rename_i heq; have hs := congrArg Prod.snd heq; dsimp only at hs; subst hs)

@[simp ↓] theorem beginTest_same (h : m &&& 270533632 = 270533632) : Same m s (beginTest a0 t) ↔ Same m s t := by
  refine Same.peel ?_ h
  unfold beginTest
  repeat' first
    | split
    | simp [Sys.modes, Svc.fuses, Svc.images]
    | intro _
    | refine (forEach_same fun _ _ => ?_).2 ?_
    | (rename_i heq; have hs := congrArg Prod.snd heq; dsimp only at hs; subst hs)

@[simp ↓] theorem startOp_same (h : m &&& 337646592 = 337646592) : Same m s (startOp a0 a1 t) ↔ Same m s t := by
  refine Same.peel ?_ h
  unfold startOp
  repeat' first
    | split
    | simp [Sys.modes, Svc.fuses, Svc.images]
    | intro _
    | refine (forEach_same fun _ _ => ?_).2 ?_
    | (rename_i heq; have hs := congrArg Prod.snd heq; dsimp only at hs; subst hs)

@[simp ↓] theorem grantOp_same (h : m &&& 338696000 = 338696000) : Same m s (grantOp a0 a1 a2 t) ↔ Same m s t := by
  refine Same.peel ?_ h
  unfold grantOp
  repeat' first
    | split
    | simp [Sys.modes, Svc.fuses, Svc.images]
    | intro _
    | refine (forEach_same fun _ _ => ?_).2 ?_
    | (rename_i heq; have hs := congrArg Prod.snd heq; dsimp only at hs; subst hs)

@[simp ↓] theorem dropOp_same (h : m &&& 68162560 = 68162560) : Same m s (dropOp a0 t) ↔ Same m s t := by
  refine Same.peel ?_ h
  unfold dropOp
  repeat' first
    | split
    | simp [Sys.modes, Svc.fuses, Svc.images]
    | intro _
    | refine (forEach_same fun _ _ => ?_).2 ?_
    | (rename_i heq; have hs := congrArg Prod.snd heq; dsimp only at hs; subst hs)

@[simp ↓] theorem failEvent_same (h : m &&& 100664128 = 100664128) : Same m s (failEvent a0 a1 t) ↔ Same m s t := by
  refine Same.peel ?_ h
  unfold failEvent
  repeat' first
    | split
    | simp [Sys.modes, Svc.fuses, Svc.images]
    | intro _
    | refine (forEach_same fun _ _ => ?_).2 ?_
    | (rename_i heq; have hs := congrArg Prod.snd heq; dsimp only at hs; subst hs)

@[simp ↓] theorem refuseOp_same (h : m &&& 101717824 = 101717824) : Same m s (refuseOp a0 a1 t) ↔ Same m s t := by
  refine Same.peel ?_ h
  unfold refuseOp
  repeat' first
    | split
    | simp [Sys.modes, Svc.fuses, Svc.images]
    | intro _
    | refine (forEach_same fun _ _ => ?_).2 ?_
    | (rename_i heq; have hs := congrArg Prod.snd heq; dsimp only at hs; subst hs)

@[simp ↓] theorem queueOp_same (h : m &&& 68158272 = 68158272) : Same m s (queueOp a0 a1 t) ↔ Same m s t := by
  refine Same.peel ?_ h
  unfold queueOp
  repeat' first
    | split
    | simp [Sys.modes, Svc.fuses, Svc.images]
    | intro _
    | refine (forEach_same fun _ _ => ?_).2 ?_
    | (rename_i heq; have hs := congrArg Prod.snd heq; dsimp only at hs; subst hs)

@[simp ↓] theorem fileOp_same (h : m &&& 372250432 = 372250432) : Same m s (fileOp a0 t) ↔ Same m s t := by
  refine Same.peel ?_ h
  unfold fileOp
  repeat' first
    | split
    | simp [Sys.modes, Svc.fuses, Svc.images]
    | intro _
    | refine (forEach_same fun _ _ => ?_).2 ?_
    | (rename_i heq; have hs := congrArg Prod.snd heq; dsimp only at hs; subst hs)

@[simp ↓] theorem rejudgeList_same (h : m &&& 338696000 = 338696000) : Same m s (rejudgeList a0 a1 t) ↔ Same m s t := by
  refine Same.peel ?_ h
  induction a0 generalizing a1 t with
  | nil => simp [rejudgeList]
  | cons o l ih =>
    have ih' : ∀ (b : List Nat) (v w : State), Same 338696000 v (rejudgeList l b w) ↔ Same 338696000 v w :=
      fun _ _ _ => Same.peel ih (Nat.and_self _)
    unfold rejudgeList
    repeat' first
      | split
      | simp [ih']

@[simp ↓] theorem rejudge_same (h : m &&& 338696000 = 338696000) : Same m s (rejudge t) ↔ Same m s t := by
  refine Same.peel ?_ h
  unfold rejudge
  repeat' first
    | split
    | simp [Sys.modes, Svc.fuses, Svc.images]
    | intro _
    | refine (forEach_same fun _ _ => ?_).2 ?_
    | (rename_i heq; have hs := congrArg Prod.snd heq; dsimp only at hs; subst hs)

@[simp ↓] theorem returnOp_same (h : m &&& 338696000 = 338696000) : Same m s (returnOp a0 t) ↔ Same m s t := by
  refine Same.peel ?_ h
  unfold returnOp
  repeat' first
    | split
    | simp [Sys.modes, Svc.fuses, Svc.images]
    | intro _
    | refine (forEach_same fun _ _ => ?_).2 ?_
    | (rename_i heq; have hs := congrArg Prod.snd heq; dsimp only at hs; subst hs)

@[simp ↓] theorem withdrawOp_same (h : m &&& 68163392 = 68163392) : Same m s (withdrawOp a0 a1 t) ↔ Same m s t := by
  refine Same.peel ?_ h
  unfold withdrawOp
  repeat' first
    | split
    | simp [Sys.modes, Svc.fuses, Svc.images]
    | intro _
    | refine (forEach_same fun _ _ => ?_).2 ?_
    | (rename_i heq; have hs := congrArg Prod.snd heq; dsimp only at hs; subst hs)

@[simp ↓] theorem withdrawCh_same (h : m &&& 338696000 = 338696000) : Same m s (withdrawCh a0 a1 t) ↔ Same m s t := by
  refine Same.peel ?_ h
  unfold withdrawCh
  repeat' first
    | split
    | simp [Sys.modes, Svc.fuses, Svc.images]
    | intro _
    | refine (forEach_same fun _ _ => ?_).2 ?_
    | (rename_i heq; have hs := congrArg Prod.snd heq; dsimp only at hs; subst hs)

@[simp ↓] theorem waitNow_same (h : m &&& 1024 = 1024) : Same m s (waitNow a0 t) ↔ Same m s t := by
  refine Same.peel ?_ h
  unfold waitNow
  repeat' first
    | split
    | simp [Sys.modes, Svc.fuses, Svc.images]
    | intro _
    | refine (forEach_same fun _ _ => ?_).2 ?_
    | (rename_i heq; have hs := congrArg Prod.snd heq; dsimp only at hs; subst hs)

@[simp ↓] theorem fileInrush_same (h : m &&& 372250432 = 372250432) : Same m s (fileInrush a0 a1 a2 t) ↔ Same m s t := by
  refine Same.peel ?_ h
  unfold fileInrush
  repeat' first
    | split
    | simp [Sys.modes, Svc.fuses, Svc.images]
    | intro _
    | refine (forEach_same fun _ _ => ?_).2 ?_
    | (rename_i heq; have hs := congrArg Prod.snd heq; dsimp only at hs; subst hs)

@[simp ↓] theorem autoFile_same (h : m &&& 372250432 = 372250432) : Same m s (autoFile a0 t) ↔ Same m s t := by
  refine Same.peel ?_ h
  unfold autoFile
  repeat' first
    | split
    | simp [Sys.modes, Svc.fuses, Svc.images]
    | intro _
    | refine (forEach_same fun _ _ => ?_).2 ?_
    | (rename_i heq; have hs := congrArg Prod.snd heq; dsimp only at hs; subst hs)

@[simp ↓] theorem autoFileAll_same (h : m &&& 372250432 = 372250432) : Same m s (autoFileAll t) ↔ Same m s t := by
  refine Same.peel ?_ h
  unfold autoFileAll
  repeat' first
    | split
    | simp [Sys.modes, Svc.fuses, Svc.images]
    | intro _
    | refine (forEach_same fun _ _ => ?_).2 ?_
    | (rename_i heq; have hs := congrArg Prod.snd heq; dsimp only at hs; subst hs)

end Sys2Proof.Machine
end

