-- ==== Sys2Proof/Laws/FrameCapture.lean ====
section
/-! SUPPORT. Frames of the operations of Machine/Capture.lean. -/

set_option Elab.async false
set_option linter.unusedTactic false
set_option linter.unreachableTactic false
set_option linter.unnecessarySeqFocus false
set_option linter.unusedSimpArgs false

namespace Sys2Proof.Machine

@[simp ↓] theorem freezeAll_same (h : m &&& 65536 = 65536) : Same m s (freezeAll a0 t) ↔ Same m s t := by
  refine Same.peel ?_ h
  unfold freezeAll
  repeat' first
    | split
    | simp [Sys.modes, Svc.fuses, Svc.images]
    | intro _
    | refine (forEach_same fun _ _ => ?_).2 ?_
    | (rename_i heq; have hs := congrArg Prod.snd heq; dsimp only at hs; subst hs)

@[simp ↓] theorem urgentAll_same (h : m &&& 32768 = 32768) : Same m s (urgentAll a0 t) ↔ Same m s t := by
  refine Same.peel ?_ h
  unfold urgentAll
  repeat' first
    | split
    | simp [Sys.modes, Svc.fuses, Svc.images]
    | intro _
    | refine (forEach_same fun _ _ => ?_).2 ?_
    | (rename_i heq; have hs := congrArg Prod.snd heq; dsimp only at hs; subst hs)

@[simp ↓] theorem captureEvent_same (h : m &&& 98304 = 98304) : Same m s (captureEvent a0 t) ↔ Same m s t := by
  refine Same.peel ?_ h
  unfold captureEvent
  repeat' first
    | split
    | simp [Sys.modes, Svc.fuses, Svc.images]
    | intro _
    | refine (forEach_same fun _ _ => ?_).2 ?_
    | (rename_i heq; have hs := congrArg Prod.snd heq; dsimp only at hs; subst hs)

end Sys2Proof.Machine
end

