-- ==== Sys2Proof/Laws/FrameRectSet.lean ====
section
/-! SUPPORT. Frames of the operations of Machine/RectSet.lean. -/

set_option Elab.async false
set_option linter.unusedTactic false
set_option linter.unreachableTactic false
set_option linter.unnecessarySeqFocus false
set_option linter.unusedSimpArgs false

namespace Sys2Proof.Machine

@[simp ↓] theorem sendFrame_same (h : m &&& 4194304 = 4194304) : Same m s (sendFrame a0 a1 a2 a3 a4 t) ↔ Same m s t := by
  refine Same.peel ?_ h
  unfold sendFrame
  repeat' first
    | split
    | simp [Sys.modes, Svc.fuses, Svc.images]
    | intro _
    | refine (forEach_same fun _ _ => ?_).2 ?_
    | (rename_i heq; have hs := congrArg Prod.snd heq; dsimp only at hs; subst hs)

@[simp ↓] theorem noteLowDev_same (h : m &&& 104858432 = 104858432) : Same m s (noteLowDev a0 t) ↔ Same m s t := by
  refine Same.peel ?_ h
  unfold noteLowDev
  repeat' first
    | split
    | simp [Sys.modes, Svc.fuses, Svc.images]
    | intro _
    | refine (forEach_same fun _ _ => ?_).2 ?_
    | (rename_i heq; have hs := congrArg Prod.snd heq; dsimp only at hs; subst hs)

@[simp ↓] theorem sendRectSet_same (h : m &&& 4194304 = 4194304) : Same m s (sendRectSet a0 a1 a2 a3 t) ↔ Same m s t := by
  refine Same.peel ?_ h
  unfold sendRectSet
  repeat' first
    | split
    | simp [Sys.modes, Svc.fuses, Svc.images]
    | intro _
    | refine (forEach_same fun _ _ => ?_).2 ?_
    | (rename_i heq; have hs := congrArg Prod.snd heq; dsimp only at hs; subst hs)

@[simp ↓] theorem sendSet_same (h : m &&& 4198400 = 4198400) : Same m s (sendSet a0 t) ↔ Same m s t := by
  refine Same.peel ?_ h
  unfold sendSet
  repeat' first
    | split
    | simp [Sys.modes, Svc.fuses, Svc.images]
    | intro _
    | refine (forEach_same fun _ _ => ?_).2 ?_
    | (rename_i heq; have hs := congrArg Prod.snd heq; dsimp only at hs; subst hs)

@[simp ↓] theorem putLimit_same (h : m &&& 4198400 = 4198400) : Same m s (putLimit a0 a1 t) ↔ Same m s t := by
  refine Same.peel ?_ h
  unfold putLimit
  repeat' first
    | split
    | simp [Sys.modes, Svc.fuses, Svc.images]
    | intro _
    | refine (forEach_same fun _ _ => ?_).2 ?_
    | (rename_i heq; have hs := congrArg Prod.snd heq; dsimp only at hs; subst hs)

@[simp ↓] theorem liftAll_same (h : m &&& 6295552 = 6295552) : Same m s (liftAll t) ↔ Same m s t := by
  refine Same.peel ?_ h
  unfold liftAll
  repeat' first
    | split
    | simp [Sys.modes, Svc.fuses, Svc.images]
    | intro _
    | refine (forEach_same fun _ _ => ?_).2 ?_
    | (rename_i heq; have hs := congrArg Prod.snd heq; dsimp only at hs; subst hs)

end Sys2Proof.Machine
end

