-- ==== Sys2Proof/Laws/FrameTrips.lean ====
section
/-! SUPPORT. Frames of the operations of Machine/Trips.lean. -/

set_option Elab.async false
set_option linter.unusedTactic false
set_option linter.unreachableTactic false
set_option linter.unnecessarySeqFocus false
set_option linter.unusedSimpArgs false

namespace Sys2Proof.Machine

@[simp ↓] theorem endTest_same (h : m &&& 393221952 = 393221952) : Same m s (endTest a0 a1 t) ↔ Same m s t := by
  refine Same.peel ?_ h
  unfold endTest
  repeat' first
    | split
    | simp [Sys.modes, Svc.fuses, Svc.images]
    | intro _
    | refine (forEach_same fun _ _ => ?_).2 ?_
    | (rename_i heq; have hs := congrArg Prod.snd heq; dsimp only at hs; subst hs)

@[simp ↓] theorem endTestOf_same (h : m &&& 393221952 = 393221952) : Same m s (endTestOf a0 t) ↔ Same m s t := by
  refine Same.peel ?_ h
  unfold endTestOf
  repeat' first
    | split
    | simp [Sys.modes, Svc.fuses, Svc.images]
    | intro _
    | refine (forEach_same fun _ _ => ?_).2 ?_
    | (rename_i heq; have hs := congrArg Prod.snd heq; dsimp only at hs; subst hs)

@[simp ↓] theorem leaveSet_same (h : m &&& 338696000 = 338696000) : Same m s (leaveSet a0 t) ↔ Same m s t := by
  refine Same.peel ?_ h
  unfold leaveSet
  repeat' first
    | split
    | simp [Sys.modes, Svc.fuses, Svc.images]
    | intro _
    | refine (forEach_same fun _ _ => ?_).2 ?_
    | (rename_i heq; have hs := congrArg Prod.snd heq; dsimp only at hs; subst hs)

@[simp ↓] theorem endRestores_same (h : m &&& 338696000 = 338696000) : Same m s (endRestores t) ↔ Same m s t := by
  refine Same.peel ?_ h
  unfold endRestores
  repeat' first
    | split
    | simp [Sys.modes, Svc.fuses, Svc.images]
    | intro _
    | refine (forEach_same fun _ _ => ?_).2 ?_
    | (rename_i heq; have hs := congrArg Prod.snd heq; dsimp only at hs; subst hs)

@[simp ↓] theorem endInrush_same (h : m &&& 372250432 = 372250432) : Same m s (endInrush a0 a1 t) ↔ Same m s t := by
  refine Same.peel ?_ h
  unfold endInrush
  repeat' first
    | split
    | simp [Sys.modes, Svc.fuses, Svc.images]
    | intro _
    | refine (forEach_same fun _ _ => ?_).2 ?_
    | (rename_i heq; have hs := congrArg Prod.snd heq; dsimp only at hs; subst hs)

@[simp ↓] theorem openTo_same (h : m &&& 372250432 = 372250432) : Same m s (openTo a0 a1 a2 t) ↔ Same m s t := by
  refine Same.peel ?_ h
  unfold openTo
  repeat' first
    | split
    | simp [Sys.modes, Svc.fuses, Svc.images]
    | intro _
    | refine (forEach_same fun _ _ => ?_).2 ?_
    | (rename_i heq; have hs := congrArg Prod.snd heq; dsimp only at hs; subst hs)

@[simp ↓] theorem shutCh_same (h : m &&& 372250432 = 372250432) : Same m s (shutCh a0 a1 a2 t) ↔ Same m s t := by
  refine Same.peel ?_ h
  unfold shutCh
  repeat' first
    | split
    | simp [Sys.modes, Svc.fuses, Svc.images]
    | intro _
    | refine (forEach_same fun _ _ => ?_).2 ?_
    | (rename_i heq; have hs := congrArg Prod.snd heq; dsimp only at hs; subst hs)

@[simp ↓] theorem cancelWait_same (h : m &&& 338696000 = 338696000) : Same m s (cancelWait a0 a1 t) ↔ Same m s t := by
  refine Same.peel ?_ h
  unfold cancelWait
  repeat' first
    | split
    | simp [Sys.modes, Svc.fuses, Svc.images]
    | intro _
    | refine (forEach_same fun _ _ => ?_).2 ?_
    | (rename_i heq; have hs := congrArg Prod.snd heq; dsimp only at hs; subst hs)

@[simp ↓] theorem shedCh_same (h : m &&& 372250432 = 372250432) : Same m s (shedCh a0 t) ↔ Same m s t := by
  refine Same.peel ?_ h
  unfold shedCh
  repeat' first
    | split
    | simp [Sys.modes, Svc.fuses, Svc.images]
    | intro _
    | refine (forEach_same fun _ _ => ?_).2 ?_
    | (rename_i heq; have hs := congrArg Prod.snd heq; dsimp only at hs; subst hs)

@[simp ↓] theorem shedBy_same (h : m &&& 372250432 = 372250432) : Same m s (shedBy a0 a1 t) ↔ Same m s t := by
  refine Same.peel ?_ h
  unfold shedBy
  repeat' first
    | split
    | simp [Sys.modes, Svc.fuses, Svc.images]
    | intro _
    | refine (forEach_same fun _ _ => ?_).2 ?_
    | (rename_i heq; have hs := congrArg Prod.snd heq; dsimp only at hs; subst hs)

@[simp ↓] theorem shedTo_same (h : m &&& 372250432 = 372250432) : Same m s (shedTo a0 t) ↔ Same m s t := by
  refine Same.peel ?_ h
  unfold shedTo
  repeat' first
    | split
    | simp [Sys.modes, Svc.fuses, Svc.images]
    | intro _
    | refine (forEach_same fun _ _ => ?_).2 ?_
    | (rename_i heq; have hs := congrArg Prod.snd heq; dsimp only at hs; subst hs)

@[simp ↓] theorem latchRecords_same (h : m &&& 117441344 = 117441344) : Same m s (latchRecords a0 t) ↔ Same m s t := by
  refine Same.peel ?_ h
  unfold latchRecords
  repeat' first
    | split
    | simp [Sys.modes, Svc.fuses, Svc.images]
    | intro _
    | refine (forEach_same fun _ _ => ?_).2 ?_
    | (rename_i heq; have hs := congrArg Prod.snd heq; dsimp only at hs; subst hs)

@[simp ↓] theorem tripIn_same (h : m &&& 393221952 = 393221952) : Same m s (tripIn a0 a1 a2 a3 t) ↔ Same m s t := by
  refine Same.peel ?_ h
  unfold tripIn
  repeat' first
    | split
    | simp [Sys.modes, Svc.fuses, Svc.images]
    | intro _
    | refine (forEach_same fun _ _ => ?_).2 ?_
    | (rename_i heq; have hs := congrArg Prod.snd heq; dsimp only at hs; subst hs)

@[simp ↓] theorem tripCh_same (h : m &&& 393221952 = 393221952) : Same m s (tripCh a0 a1 t) ↔ Same m s t := by
  refine Same.peel ?_ h
  unfold tripCh
  repeat' first
    | split
    | simp [Sys.modes, Svc.fuses, Svc.images]
    | intro _
    | refine (forEach_same fun _ _ => ?_).2 ?_
    | (rename_i heq; have hs := congrArg Prod.snd heq; dsimp only at hs; subst hs)

@[simp ↓] theorem joinTrip_same (h : m &&& 117442368 = 117442368) : Same m s (joinTrip a0 a1 t) ↔ Same m s t := by
  refine Same.peel ?_ h
  unfold joinTrip
  repeat' first
    | split
    | simp [Sys.modes, Svc.fuses, Svc.images]
    | intro _
    | refine (forEach_same fun _ _ => ?_).2 ?_
    | (rename_i heq; have hs := congrArg Prod.snd heq; dsimp only at hs; subst hs)

@[simp ↓] theorem recordCh_same (h : m &&& 1024 = 1024) : Same m s (recordCh a0 a1 t) ↔ Same m s t := by
  refine Same.peel ?_ h
  unfold recordCh
  repeat' first
    | split
    | simp [Sys.modes, Svc.fuses, Svc.images]
    | intro _
    | refine (forEach_same fun _ _ => ?_).2 ?_
    | (rename_i heq; have hs := congrArg Prod.snd heq; dsimp only at hs; subst hs)

@[simp ↓] theorem retryCauses_same (h : m &&& 389027648 = 389027648) : Same m s (retryCauses a0 a1 t) ↔ Same m s t := by
  refine Same.peel ?_ h
  unfold retryCauses
  repeat' first
    | split
    | simp [Sys.modes, Svc.fuses, Svc.images]
    | intro _
    | refine (forEach_same fun _ _ => ?_).2 ?_
    | (rename_i heq; have hs := congrArg Prod.snd heq; dsimp only at hs; subst hs)

@[simp ↓] theorem meetIn_same (h : m &&& 393221952 = 393221952) : Same m s (meetIn a0 a1 a2 a3 t) ↔ Same m s t := by
  refine Same.peel ?_ h
  unfold meetIn
  repeat' first
    | split
    | simp [Sys.modes, Svc.fuses, Svc.images]
    | intro _
    | refine (forEach_same fun _ _ => ?_).2 ?_
    | (rename_i heq; have hs := congrArg Prod.snd heq; dsimp only at hs; subst hs)

@[simp ↓] theorem meetCauses_same (h : m &&& 393221952 = 393221952) : Same m s (meetCauses a0 a1 t) ↔ Same m s t := by
  refine Same.peel ?_ h
  unfold meetCauses
  repeat' first
    | split
    | simp [Sys.modes, Svc.fuses, Svc.images]
    | intro _
    | refine (forEach_same fun _ _ => ?_).2 ?_
    | (rename_i heq; have hs := congrArg Prod.snd heq; dsimp only at hs; subst hs)

@[simp ↓] theorem meetTick_same (h : m &&& 393221952 = 393221952) : Same m s (meetTick a0 t) ↔ Same m s t := by
  refine Same.peel ?_ h
  unfold meetTick
  repeat' first
    | split
    | simp [Sys.modes, Svc.fuses, Svc.images]
    | intro _
    | refine (forEach_same fun _ _ => ?_).2 ?_
    | (rename_i heq; have hs := congrArg Prod.snd heq; dsimp only at hs; subst hs)

@[simp ↓] theorem retryTick_same (h : m &&& 389027648 = 389027648) : Same m s (retryTick a0 t) ↔ Same m s t := by
  refine Same.peel ?_ h
  unfold retryTick
  repeat' first
    | split
    | simp [Sys.modes, Svc.fuses, Svc.images]
    | intro _
    | refine (forEach_same fun _ _ => ?_).2 ?_
    | (rename_i heq; have hs := congrArg Prod.snd heq; dsimp only at hs; subst hs)

@[simp ↓] theorem beginAttempt_same (h : m &&& 372250432 = 372250432) : Same m s (beginAttempt a0 a1 t) ↔ Same m s t := by
  refine Same.peel ?_ h
  unfold beginAttempt
  repeat' first
    | split
    | simp [Sys.modes, Svc.fuses, Svc.images]
    | intro _
    | refine (forEach_same fun _ _ => ?_).2 ?_
    | (rename_i heq; have hs := congrArg Prod.snd heq; dsimp only at hs; subst hs)

@[simp ↓] theorem yoyoTick_same (h : m &&& 372250432 = 372250432) : Same m s (yoyoTick a0 t) ↔ Same m s t := by
  refine Same.peel ?_ h
  unfold yoyoTick
  repeat' first
    | split
    | simp [Sys.modes, Svc.fuses, Svc.images]
    | intro _
    | refine (forEach_same fun _ _ => ?_).2 ?_
    | (rename_i heq; have hs := congrArg Prod.snd heq; dsimp only at hs; subst hs)

@[simp ↓] theorem rescheduleAll_same (h : m &&& 1024 = 1024) : Same m s (rescheduleAll t) ↔ Same m s t := by
  refine Same.peel ?_ h
  unfold rescheduleAll
  repeat' first
    | split
    | simp [Sys.modes, Svc.fuses, Svc.images]
    | intro _
    | refine (forEach_same fun _ _ => ?_).2 ?_
    | (rename_i heq; have hs := congrArg Prod.snd heq; dsimp only at hs; subst hs)

end Sys2Proof.Machine
end

