-- ==== Sys2Proof/Laws/FrameSheet.lean ====
section
/-! SUPPORT. Frames of the operations of Machine/Sheet.lean. -/

set_option Elab.async false
set_option linter.unusedTactic false
set_option linter.unreachableTactic false
set_option linter.unnecessarySeqFocus false
set_option linter.unusedSimpArgs false

namespace Sys2Proof.Machine

@[simp ↓] theorem gainDiff_same (h : m &&& 8192 = 8192) : Same m s (gainDiff t) ↔ Same m s t := by
  refine Same.peel ?_ h
  unfold gainDiff
  repeat' first
    | split
    | simp [Sys.modes, Svc.fuses, Svc.images]
    | intro _
    | refine (forEach_same fun _ _ => ?_).2 ?_
    | (rename_i heq; have hs := congrArg Prod.snd heq; dsimp only at hs; subst hs)

@[simp ↓] theorem latchSheet_same (h : m &&& 100673344 = 100673344) : Same m s (latchSheet t) ↔ Same m s t := by
  refine Same.peel ?_ h
  unfold latchSheet
  repeat' first
    | split
    | simp [Sys.modes, Svc.fuses, Svc.images]
    | intro _
    | refine (forEach_same fun _ _ => ?_).2 ?_
    | (rename_i heq; have hs := congrArg Prod.snd heq; dsimp only at hs; subst hs)

end Sys2Proof.Machine
end

