-- ==== Sys2Proof/Laws/FrameEffects.lean ====
section
/-! SUPPORT. Frames of the operations of Machine/Effects.lean. -/

set_option Elab.async false
set_option linter.unusedTactic false
set_option linter.unreachableTactic false
set_option linter.unnecessarySeqFocus false
set_option linter.unusedSimpArgs false

namespace Sys2Proof.Machine

@[simp ↓] theorem roleNow_same (h : m &&& 372250432 = 372250432) : Same m s (roleNow a0 t) ↔ Same m s t := by
  refine Same.peel ?_ h
  unfold roleNow
  repeat' first
    | split
    | simp [Sys.modes, Svc.fuses, Svc.images]
    | intro _
    | refine (forEach_same fun _ _ => ?_).2 ?_
    | (rename_i heq; have hs := congrArg Prod.snd heq; dsimp only at hs; subst hs)

@[simp ↓] theorem roleHook_same (h : m &&& 372250432 = 372250432) : Same m s (roleHook a0 t) ↔ Same m s t := by
  refine Same.peel ?_ h
  unfold roleHook
  repeat' first
    | split
    | simp [Sys.modes, Svc.fuses, Svc.images]
    | intro _
    | refine (forEach_same fun _ _ => ?_).2 ?_
    | (rename_i heq; have hs := congrArg Prod.snd heq; dsimp only at hs; subst hs)

@[simp ↓] theorem seqHook_same (h : m &&& 32768 = 32768) : Same m s (seqHook a0 a1 a2 t) ↔ Same m s t := by
  refine Same.peel ?_ h
  unfold seqHook
  repeat' first
    | split
    | simp [Sys.modes, Svc.fuses, Svc.images]
    | intro _
    | refine (forEach_same fun _ _ => ?_).2 ?_
    | (rename_i heq; have hs := congrArg Prod.snd heq; dsimp only at hs; subst hs)

@[simp ↓] theorem slotHook_same (h : m &&& 65536 = 65536) : Same m s (slotHook a0 a1 t) ↔ Same m s t := by
  refine Same.peel ?_ h
  unfold slotHook
  repeat' first
    | split
    | simp [Sys.modes, Svc.fuses, Svc.images]
    | intro _
    | refine (forEach_same fun _ _ => ?_).2 ?_
    | (rename_i heq; have hs := congrArg Prod.snd heq; dsimp only at hs; subst hs)

@[simp ↓] theorem slotsHook_same (h : m &&& 65536 = 65536) : Same m s (slotsHook a0 a1 t) ↔ Same m s t := by
  refine Same.peel ?_ h
  unfold slotsHook
  repeat' first
    | split
    | simp [Sys.modes, Svc.fuses, Svc.images]
    | intro _
    | refine (forEach_same fun _ _ => ?_).2 ?_
    | (rename_i heq; have hs := congrArg Prod.snd heq; dsimp only at hs; subst hs)

@[simp ↓] theorem trefHook_same (h : m &&& 100665152 = 100665152) : Same m s (trefHook a0 t) ↔ Same m s t := by
  refine Same.peel ?_ h
  unfold trefHook
  repeat' first
    | split
    | simp [Sys.modes, Svc.fuses, Svc.images]
    | intro _
    | refine (forEach_same fun _ _ => ?_).2 ?_
    | (rename_i heq; have hs := congrArg Prod.snd heq; dsimp only at hs; subst hs)

@[simp ↓] theorem dropCoef_same (h : m &&& 16809984 = 16809984) : Same m s (dropCoef a0 t) ↔ Same m s t := by
  refine Same.peel ?_ h
  unfold dropCoef
  repeat' first
    | split
    | simp [Sys.modes, Svc.fuses, Svc.images]
    | intro _
    | refine (forEach_same fun _ _ => ?_).2 ?_
    | (rename_i heq; have hs := congrArg Prod.snd heq; dsimp only at hs; subst hs)

@[simp ↓] theorem chHook_same (h : m &&& 389068608 = 389068608) : Same m s (chHook a0 a1 t) ↔ Same m s t := by
  refine Same.peel ?_ h
  unfold chHook
  repeat' first
    | split
    | simp [Sys.modes, Svc.fuses, Svc.images]
    | intro _
    | refine (forEach_same fun _ _ => ?_).2 ?_
    | (rename_i heq; have hs := congrArg Prod.snd heq; dsimp only at hs; subst hs)

@[simp ↓] theorem bindHook_same (h : m &&& 4194304 = 4194304) : Same m s (bindHook a0 t) ↔ Same m s t := by
  refine Same.peel ?_ h
  unfold bindHook
  repeat' first
    | split
    | simp [Sys.modes, Svc.fuses, Svc.images]
    | intro _
    | refine (forEach_same fun _ _ => ?_).2 ?_
    | (rename_i heq; have hs := congrArg Prod.snd heq; dsimp only at hs; subst hs)

@[simp ↓] theorem modHook_same (h : m &&& 4194304 = 4194304) : Same m s (modHook a0 t) ↔ Same m s t := by
  refine Same.peel ?_ h
  unfold modHook
  repeat' first
    | split
    | simp [Sys.modes, Svc.fuses, Svc.images]
    | intro _
    | refine (forEach_same fun _ _ => ?_).2 ?_
    | (rename_i heq; have hs := congrArg Prod.snd heq; dsimp only at hs; subst hs)

@[simp ↓] theorem forceHook_same (h : m &&& 393344832 = 393344832) : Same m s (forceHook a0 t) ↔ Same m s t := by
  refine Same.peel ?_ h
  unfold forceHook
  repeat' first
    | split
    | simp [Sys.modes, Svc.fuses, Svc.images]
    | intro _
    | refine (forEach_same fun _ _ => ?_).2 ?_
    | (rename_i heq; have hs := congrArg Prod.snd heq; dsimp only at hs; subst hs)

@[simp ↓] theorem ntcEnable_same (h : m &&& 32768 = 32768) : Same m s (ntcEnable a0 a1 t) ↔ Same m s t := by
  refine Same.peel ?_ h
  unfold ntcEnable
  repeat' first
    | split
    | simp [Sys.modes, Svc.fuses, Svc.images]
    | intro _
    | refine (forEach_same fun _ _ => ?_).2 ?_
    | (rename_i heq; have hs := congrArg Prod.snd heq; dsimp only at hs; subst hs)

@[simp ↓] theorem takeForce_same (h : m &&& 393344848 = 393344848) : Same m s (takeForce a0 t) ↔ Same m s t := by
  refine Same.peel ?_ h
  unfold takeForce
  repeat' first
    | split
    | simp [Sys.modes, Svc.fuses, Svc.images]
    | intro _
    | refine (forEach_same fun _ _ => ?_).2 ?_
    | (rename_i heq; have hs := congrArg Prod.snd heq; dsimp only at hs; subst hs)

@[simp ↓] theorem chemHook_same (h : m &&& 18874392 = 18874392) : Same m s (chemHook a0 t) ↔ Same m s t := by
  refine Same.peel ?_ h
  unfold chemHook
  repeat' first
    | split
    | simp [Sys.modes, Svc.fuses, Svc.images]
    | intro _
    | refine (forEach_same fun _ _ => ?_).2 ?_
    | (rename_i heq; have hs := congrArg Prod.snd heq; dsimp only at hs; subst hs)

@[simp ↓] theorem forceAll_same (h : m &&& 393344856 = 393344856) : Same m s (forceAll a0 t) ↔ Same m s t := by
  refine Same.peel ?_ h
  unfold forceAll
  repeat' first
    | split
    | simp [Sys.modes, Svc.fuses, Svc.images]
    | intro _
    | refine (forEach_same fun _ _ => ?_).2 ?_
    | (rename_i heq; have hs := congrArg Prod.snd heq; dsimp only at hs; subst hs)

@[simp ↓] theorem forceRestored_same (h : m &&& 393344848 = 393344848) : Same m s (forceRestored a0 t) ↔ Same m s t := by
  refine Same.peel ?_ h
  unfold forceRestored
  repeat' first
    | split
    | simp [Sys.modes, Svc.fuses, Svc.images]
    | intro _
    | refine (forEach_same fun _ _ => ?_).2 ?_
    | (rename_i heq; have hs := congrArg Prod.snd heq; dsimp only at hs; subst hs)

end Sys2Proof.Machine
end

