-- ==== Sys2Proof/Laws/FrameShbOut.lean ====
section
/-! SUPPORT. Frames of the operations of Machine/ShbOut.lean. -/

set_option Elab.async false
set_option linter.unusedTactic false
set_option linter.unreachableTactic false
set_option linter.unnecessarySeqFocus false
set_option linter.unusedSimpArgs false

namespace Sys2Proof.Machine

@[simp ↓] theorem refreshLow_same (h : m &&& 104858432 = 104858432) : Same m s (refreshLow t) ↔ Same m s t := by
  refine Same.peel ?_ h
  unfold refreshLow
  repeat' first
    | split
    | simp [Sys.modes, Svc.fuses, Svc.images]
    | intro _
    | refine (forEach_same fun _ _ => ?_).2 ?_
    | (rename_i heq; have hs := congrArg Prod.snd heq; dsimp only at hs; subst hs)

@[simp ↓] theorem refreshGen_same (h : m &&& 4194304 = 4194304) : Same m s (refreshGen t) ↔ Same m s t := by
  refine Same.peel ?_ h
  unfold refreshGen
  repeat' first
    | split
    | simp [Sys.modes, Svc.fuses, Svc.images]
    | intro _
    | refine (forEach_same fun _ _ => ?_).2 ?_
    | (rename_i heq; have hs := congrArg Prod.snd heq; dsimp only at hs; subst hs)

@[simp ↓] theorem refreshClock_same (h : m &&& 4194304 = 4194304) : Same m s (refreshClock t) ↔ Same m s t := by
  refine Same.peel ?_ h
  unfold refreshClock
  repeat' first
    | split
    | simp [Sys.modes, Svc.fuses, Svc.images]
    | intro _
    | refine (forEach_same fun _ _ => ?_).2 ?_
    | (rename_i heq; have hs := congrArg Prod.snd heq; dsimp only at hs; subst hs)

@[simp ↓] theorem refreshPeers_same (h : m &&& 104858432 = 104858432) : Same m s (refreshPeers t) ↔ Same m s t := by
  refine Same.peel ?_ h
  unfold refreshPeers
  repeat' first
    | split
    | simp [Sys.modes, Svc.fuses, Svc.images]
    | intro _
    | refine (forEach_same fun _ _ => ?_).2 ?_
    | (rename_i heq; have hs := congrArg Prod.snd heq; dsimp only at hs; subst hs)

@[simp ↓] theorem putPeer_same (h : m &&& 104858432 = 104858432) : Same m s (putPeer a0 a1 t) ↔ Same m s t := by
  refine Same.peel ?_ h
  unfold putPeer
  repeat' first
    | split
    | simp [Sys.modes, Svc.fuses, Svc.images]
    | intro _
    | refine (forEach_same fun _ _ => ?_).2 ?_
    | (rename_i heq; have hs := congrArg Prod.snd heq; dsimp only at hs; subst hs)

@[simp ↓] theorem sendAnnounce_same (h : m &&& 104858432 = 104858432) : Same m s (sendAnnounce t) ↔ Same m s t := by
  refine Same.peel ?_ h
  unfold sendAnnounce
  repeat' first
    | split
    | simp [Sys.modes, Svc.fuses, Svc.images]
    | intro _
    | refine (forEach_same fun _ _ => ?_).2 ?_
    | (rename_i heq; have hs := congrArg Prod.snd heq; dsimp only at hs; subst hs)

@[simp ↓] theorem sendStatus_same (h : m &&& 4194304 = 4194304) : Same m s (sendStatus t) ↔ Same m s t := by
  refine Same.peel ?_ h
  unfold sendStatus
  repeat' first
    | split
    | simp [Sys.modes, Svc.fuses, Svc.images]
    | intro _
    | refine (forEach_same fun _ _ => ?_).2 ?_
    | (rename_i heq; have hs := congrArg Prod.snd heq; dsimp only at hs; subst hs)

@[simp ↓] theorem sendReserve_same (h : m &&& 4194304 = 4194304) : Same m s (sendReserve t) ↔ Same m s t := by
  refine Same.peel ?_ h
  unfold sendReserve
  repeat' first
    | split
    | simp [Sys.modes, Svc.fuses, Svc.images]
    | intro _
    | refine (forEach_same fun _ _ => ?_).2 ?_
    | (rename_i heq; have hs := congrArg Prod.snd heq; dsimp only at hs; subst hs)

@[simp ↓] theorem sendClock_same (h : m &&& 4194304 = 4194304) : Same m s (sendClock t) ↔ Same m s t := by
  refine Same.peel ?_ h
  unfold sendClock
  repeat' first
    | split
    | simp [Sys.modes, Svc.fuses, Svc.images]
    | intro _
    | refine (forEach_same fun _ _ => ?_).2 ?_
    | (rename_i heq; have hs := congrArg Prod.snd heq; dsimp only at hs; subst hs)

end Sys2Proof.Machine
end

