-- ==== Sys2Proof/Laws/FrameModes.lean ====
section
/-! SUPPORT. Frames of the operations of Machine/Modes.lean. -/

set_option Elab.async false
set_option linter.unusedTactic false
set_option linter.unreachableTactic false
set_option linter.unnecessarySeqFocus false
set_option linter.unusedSimpArgs false

namespace Sys2Proof.Machine

@[simp ↓] theorem driveOutputs_same (h : m &&& 8388608 = 8388608) : Same m s (driveOutputs t) ↔ Same m s t := by
  refine Same.peel ?_ h
  unfold driveOutputs
  repeat' first
    | split
    | simp [Sys.modes, Svc.fuses, Svc.images]
    | intro _
    | refine (forEach_same fun _ _ => ?_).2 ?_
    | (rename_i heq; have hs := congrArg Prod.snd heq; dsimp only at hs; subst hs)

@[simp ↓] theorem liftLimits_same (h : m &&& 6295552 = 6295552) : Same m s (liftLimits t) ↔ Same m s t := by
  refine Same.peel ?_ h
  unfold liftLimits
  repeat' first
    | split
    | simp [Sys.modes, Svc.fuses, Svc.images]
    | intro _
    | refine (forEach_same fun _ _ => ?_).2 ?_
    | (rename_i heq; have hs := congrArg Prod.snd heq; dsimp only at hs; subst hs)

@[simp ↓] theorem endPeak_same (h : m &&& 338696000 = 338696000) : Same m s (endPeak a0 t) ↔ Same m s t := by
  refine Same.peel ?_ h
  unfold endPeak
  repeat' first
    | split
    | simp [Sys.modes, Svc.fuses, Svc.images]
    | intro _
    | refine (forEach_same fun _ _ => ?_).2 ?_
    | (rename_i heq; have hs := congrArg Prod.snd heq; dsimp only at hs; subst hs)

@[simp ↓] theorem withdrawPeak_same (h : m &&& 338696000 = 338696000) : Same m s (withdrawPeak t) ↔ Same m s t := by
  refine Same.peel ?_ h
  unfold withdrawPeak
  repeat' first
    | split
    | simp [Sys.modes, Svc.fuses, Svc.images]
    | intro _
    | refine (forEach_same fun _ _ => ?_).2 ?_
    | (rename_i heq; have hs := congrArg Prod.snd heq; dsimp only at hs; subst hs)

@[simp ↓] theorem openAll_same (h : m &&& 372250432 = 372250432) : Same m s (openAll t) ↔ Same m s t := by
  refine Same.peel ?_ h
  unfold openAll
  repeat' first
    | split
    | simp [Sys.modes, Svc.fuses, Svc.images]
    | intro _
    | refine (forEach_same fun _ _ => ?_).2 ?_
    | (rename_i heq; have hs := congrArg Prod.snd heq; dsimp only at hs; subst hs)

@[simp ↓] theorem openTests_same (h : m &&& 372250432 = 372250432) : Same m s (openTests t) ↔ Same m s t := by
  refine Same.peel ?_ h
  unfold openTests
  repeat' first
    | split
    | simp [Sys.modes, Svc.fuses, Svc.images]
    | intro _
    | refine (forEach_same fun _ _ => ?_).2 ?_
    | (rename_i heq; have hs := congrArg Prod.snd heq; dsimp only at hs; subst hs)

@[simp ↓] theorem fileWalkin_same (h : m &&& 372250432 = 372250432) : Same m s (fileWalkin a0 t) ↔ Same m s t := by
  refine Same.peel ?_ h
  unfold fileWalkin
  repeat' first
    | split
    | simp [Sys.modes, Svc.fuses, Svc.images]
    | intro _
    | refine (forEach_same fun _ _ => ?_).2 ?_
    | (rename_i heq; have hs := congrArg Prod.snd heq; dsimp only at hs; subst hs)

@[simp ↓] theorem fileWalkins_same (h : m &&& 372250432 = 372250432) : Same m s (fileWalkins t) ↔ Same m s t := by
  refine Same.peel ?_ h
  unfold fileWalkins
  repeat' first
    | split
    | simp [Sys.modes, Svc.fuses, Svc.images]
    | intro _
    | refine (forEach_same fun _ _ => ?_).2 ?_
    | (rename_i heq; have hs := congrArg Prod.snd heq; dsimp only at hs; subst hs)

@[simp ↓] theorem modCal_same (h : m &&& 32768 = 32768) : Same m s (modCal a0 t) ↔ Same m s t := by
  refine Same.peel ?_ h
  unfold modCal
  repeat' first
    | split
    | simp [Sys.modes, Svc.fuses, Svc.images]
    | intro _
    | refine (forEach_same fun _ _ => ?_).2 ?_
    | (rename_i heq; have hs := congrArg Prod.snd heq; dsimp only at hs; subst hs)

@[simp ↓] theorem calFail_same (h : m &&& 32768 = 32768) : Same m s (calFail a0 t) ↔ Same m s t := by
  refine Same.peel ?_ h
  unfold calFail
  repeat' first
    | split
    | simp [Sys.modes, Svc.fuses, Svc.images]
    | intro _
    | refine (forEach_same fun _ _ => ?_).2 ?_
    | (rename_i heq; have hs := congrArg Prod.snd heq; dsimp only at hs; subst hs)

@[simp ↓] theorem calCaptureLost_same (h : m &&& 32768 = 32768) : Same m s (calCaptureLost t) ↔ Same m s t := by
  refine Same.peel ?_ h
  unfold calCaptureLost
  repeat' first
    | split
    | simp [Sys.modes, Svc.fuses, Svc.images]
    | intro _
    | refine (forEach_same fun _ _ => ?_).2 ?_
    | (rename_i heq; have hs := congrArg Prod.snd heq; dsimp only at hs; subst hs)

@[simp ↓] theorem dropDormant_same (h : m &&& 67109728 = 67109728) : Same m s (dropDormant a0 t) ↔ Same m s t := by
  refine Same.peel ?_ h
  unfold dropDormant
  repeat' first
    | split
    | simp [Sys.modes, Svc.fuses, Svc.images]
    | intro _
    | refine (forEach_same fun _ _ => ?_).2 ?_
    | (rename_i heq; have hs := congrArg Prod.snd heq; dsimp only at hs; subst hs)

@[simp ↓] theorem dropStandby_same (h : m &&& 67109728 = 67109728) : Same m s (dropStandby a0 t) ↔ Same m s t := by
  refine Same.peel ?_ h
  unfold dropStandby
  repeat' first
    | split
    | simp [Sys.modes, Svc.fuses, Svc.images]
    | intro _
    | refine (forEach_same fun _ _ => ?_).2 ?_
    | (rename_i heq; have hs := congrArg Prod.snd heq; dsimp only at hs; subst hs)

@[simp ↓] theorem changeMode_same (h : m &&& 2549217144 = 2549217144) : Same m s (changeMode a0 a1 t) ↔ Same m s t := by
  refine Same.peel ?_ h
  unfold changeMode
  repeat' first
    | split
    | simp [Sys.modes, Svc.fuses, Svc.images]
    | intro _
    | refine (forEach_same fun _ _ => ?_).2 ?_
    | (rename_i heq; have hs := congrArg Prod.snd heq; dsimp only at hs; subst hs)

@[simp ↓] theorem beforeMode_same (h : m &&& 393221952 = 393221952) : Same m s (beforeMode a0 t) ↔ Same m s t := by
  refine Same.peel ?_ h
  unfold beforeMode
  repeat' first
    | split
    | simp [Sys.modes, Svc.fuses, Svc.images]
    | intro _
    | refine (forEach_same fun _ _ => ?_).2 ?_
    | (rename_i heq; have hs := congrArg Prod.snd heq; dsimp only at hs; subst hs)

@[simp ↓] theorem leaveMode_same (h : m &&& 19927072 = 19927072) : Same m s (leaveMode a0 a1 t) ↔ Same m s t := by
  refine Same.peel ?_ h
  unfold leaveMode
  extract_lets _ s5 _ _ s6 y s7 s8 _
  have h5 : Same 19927072 t s5 := by simp [s5]
  have h6 : Same 19927072 t s6 := by simp [s6, h5]
  have h7 : Same 19927072 t s7 := by simp [s7, h6, Sys.modes, y]
  have h8 : Same 19927072 t s8 := by
    simp only [s8]
    split
    · exact (forEach_same fun _ _ => by simp).2 h7
    · exact h7
  split
  · simp [h8]
  · exact h8

@[simp ↓] theorem enterMode_same (h : m &&& 2549217144 = 2549217144) : Same m s (enterMode a0 a1 t) ↔ Same m s t := by
  refine Same.peel ?_ h
  unfold enterMode
  repeat' first
    | split
    | simp [Sys.modes, Svc.fuses, Svc.images]
    | intro _
    | refine (forEach_same fun _ _ => ?_).2 ?_
    | (rename_i heq; have hs := congrArg Prod.snd heq; dsimp only at hs; subst hs)

@[simp ↓] theorem enterStandby_same (h : m &&& 2549217144 = 2549217144) : Same m s (enterStandby a0 t) ↔ Same m s t := by
  refine Same.peel ?_ h
  unfold enterStandby
  repeat' first
    | split
    | simp [Sys.modes, Svc.fuses, Svc.images]
    | intro _
    | refine (forEach_same fun _ _ => ?_).2 ?_
    | (rename_i heq; have hs := congrArg Prod.snd heq; dsimp only at hs; subst hs)

@[simp ↓] theorem standbyTick_same (h : m &&& 2549217144 = 2549217144) : Same m s (standbyTick t) ↔ Same m s t := by
  refine Same.peel ?_ h
  unfold standbyTick
  repeat' first
    | split
    | simp [Sys.modes, Svc.fuses, Svc.images]
    | intro _
    | refine (forEach_same fun _ _ => ?_).2 ?_
    | (rename_i heq; have hs := congrArg Prod.snd heq; dsimp only at hs; subst hs)

@[simp ↓] theorem stepTo_same (h : m &&& 4096 = 4096) : Same m s (stepTo a0 t) ↔ Same m s t := by
  refine Same.peel ?_ h
  unfold stepTo
  repeat' first
    | split
    | simp [Sys.modes, Svc.fuses, Svc.images]
    | intro _
    | refine (forEach_same fun _ _ => ?_).2 ?_
    | (rename_i heq; have hs := congrArg Prod.snd heq; dsimp only at hs; subst hs)

@[simp ↓] theorem enterBridge_same (h : m &&& 2549217144 = 2549217144) : Same m s (enterBridge t) ↔ Same m s t := by
  refine Same.peel ?_ h
  unfold enterBridge
  repeat' first
    | split
    | simp [Sys.modes, Svc.fuses, Svc.images]
    | intro _
    | refine (forEach_same fun _ _ => ?_).2 ?_
    | (rename_i heq; have hs := congrArg Prod.snd heq; dsimp only at hs; subst hs)

@[simp ↓] theorem enterCutoff_same (h : m &&& 2549217144 = 2549217144) : Same m s (enterCutoff t) ↔ Same m s t := by
  refine Same.peel ?_ h
  unfold enterCutoff
  repeat' first
    | split
    | simp [Sys.modes, Svc.fuses, Svc.images]
    | intro _
    | refine (forEach_same fun _ _ => ?_).2 ?_
    | (rename_i heq; have hs := congrArg Prod.snd heq; dsimp only at hs; subst hs)

@[simp ↓] theorem tryRecharge_same (h : m &&& 2549217144 = 2549217144) : Same m s (tryRecharge t) ↔ Same m s t := by
  refine Same.peel ?_ h
  unfold tryRecharge
  repeat' first
    | split
    | simp [Sys.modes, Svc.fuses, Svc.images]
    | intro _
    | refine (forEach_same fun _ _ => ?_).2 ?_
    | (rename_i heq; have hs := congrArg Prod.snd heq; dsimp only at hs; subst hs)

@[simp ↓] theorem isoMode_same (h : m &&& 2549217144 = 2549217144) : Same m s (isoMode t) ↔ Same m s t := by
  refine Same.peel ?_ h
  unfold isoMode
  repeat' first
    | split
    | simp [Sys.modes, Svc.fuses, Svc.images]
    | intro _
    | refine (forEach_same fun _ _ => ?_).2 ?_
    | (rename_i heq; have hs := congrArg Prod.snd heq; dsimp only at hs; subst hs)

@[simp ↓] theorem handoverEntry_same (h : m &&& 2549217144 = 2549217144) : Same m s (handoverEntry t) ↔ Same m s t := by
  refine Same.peel ?_ h
  unfold handoverEntry
  repeat' first
    | split
    | simp [Sys.modes, Svc.fuses, Svc.images]
    | intro _
    | refine (forEach_same fun _ _ => ?_).2 ?_
    | (rename_i heq; have hs := congrArg Prod.snd heq; dsimp only at hs; subst hs)

@[simp ↓] theorem markBlack_same (h : m &&& 32 = 32) : Same m s (markBlack a0 t) ↔ Same m s t := by
  refine Same.peel ?_ h
  unfold markBlack
  repeat' first
    | split
    | simp [Sys.modes, Svc.fuses, Svc.images]
    | intro _
    | refine (forEach_same fun _ _ => ?_).2 ?_
    | (rename_i heq; have hs := congrArg Prod.snd heq; dsimp only at hs; subst hs)

@[simp ↓] theorem blackNext_same (h : m &&& 2549217144 = 2549217144) : Same m s (blackNext a0 t) ↔ Same m s t := by
  refine Same.peel ?_ h
  induction a0 generalizing t with
  | zero => simp [blackNext]
  | succ n ih =>
    have ih' : ∀ v w : State, Same 2549217144 v (blackNext n w) ↔ Same 2549217144 v w :=
      fun _ _ => Same.peel ih (Nat.and_self _)
    unfold blackNext
    repeat' first
      | split
      | simp [ih', Sys.modes]

@[simp ↓] theorem blackFollow_same (h : m &&& 268469248 = 268469248) : Same m s (blackFollow t) ↔ Same m s t := by
  refine Same.peel ?_ h
  unfold blackFollow
  repeat' first
    | split
    | simp [Sys.modes, Svc.fuses, Svc.images]
    | intro _
    | refine (forEach_same fun _ _ => ?_).2 ?_
    | (rename_i heq; have hs := congrArg Prod.snd heq; dsimp only at hs; subst hs)

end Sys2Proof.Machine
end

