-- ==== Sys2Proof/Laws/FrameInrush.lean ====
section
/-! SUPPORT. Frames of the operations of Machine/Inrush.lean. -/

set_option Elab.async false
set_option linter.unusedTactic false
set_option linter.unreachableTactic false
set_option linter.unnecessarySeqFocus false
set_option linter.unusedSimpArgs false

namespace Sys2Proof.Machine

@[simp ↓] theorem afterClose_same (h : m &&& 2549217144 = 2549217144) : Same m s (afterClose a0 t) ↔ Same m s t := by
  refine Same.peel ?_ h
  unfold afterClose
  repeat' first
    | split
    | simp [Sys.modes, Svc.fuses, Svc.images]
    | intro _
    | refine (forEach_same fun _ _ => ?_).2 ?_
    | (rename_i heq; have hs := congrArg Prod.snd heq; dsimp only at hs; subst hs)

@[simp ↓] theorem closeInrush_same (h : m &&& 2549217144 = 2549217144) : Same m s (closeInrush a0 t) ↔ Same m s t := by
  refine Same.peel ?_ h
  unfold closeInrush
  repeat' first
    | split
    | simp [Sys.modes, Svc.fuses, Svc.images]
    | intro _
    | refine (forEach_same fun _ _ => ?_).2 ?_
    | (rename_i heq; have hs := congrArg Prod.snd heq; dsimp only at hs; subst hs)

@[simp ↓] theorem endFet_same (h : m &&& 372250432 = 372250432) : Same m s (endFet a0 t) ↔ Same m s t := by
  refine Same.peel ?_ h
  unfold endFet
  repeat' first
    | split
    | simp [Sys.modes, Svc.fuses, Svc.images]
    | intro _
    | refine (forEach_same fun _ _ => ?_).2 ?_
    | (rename_i heq; have hs := congrArg Prod.snd heq; dsimp only at hs; subst hs)

@[simp ↓] theorem enterInrush_same (h : m &&& 2549217144 = 2549217144) : Same m s (enterInrush a0 t) ↔ Same m s t := by
  refine Same.peel ?_ h
  unfold enterInrush
  repeat' first
    | split
    | simp [Sys.modes, Svc.fuses, Svc.images]
    | intro _
    | refine (forEach_same fun _ _ => ?_).2 ?_
    | (rename_i heq; have hs := congrArg Prod.snd heq; dsimp only at hs; subst hs)

@[simp ↓] theorem driveServo_same (h : m &&& 268436480 = 268436480) : Same m s (driveServo a0 t) ↔ Same m s t := by
  refine Same.peel ?_ h
  unfold driveServo
  repeat' first
    | split
    | simp [Sys.modes, Svc.fuses, Svc.images]
    | intro _
    | refine (forEach_same fun _ _ => ?_).2 ?_
    | (rename_i heq; have hs := congrArg Prod.snd heq; dsimp only at hs; subst hs)

@[simp ↓] theorem beginServo_same (h : m &&& 268436480 = 268436480) : Same m s (beginServo a0 t) ↔ Same m s t := by
  refine Same.peel ?_ h
  unfold beginServo
  repeat' first
    | split
    | simp [Sys.modes, Svc.fuses, Svc.images]
    | intro _
    | refine (forEach_same fun _ _ => ?_).2 ?_
    | (rename_i heq; have hs := congrArg Prod.snd heq; dsimp only at hs; subst hs)

@[simp ↓] theorem inrushTick_same (h : m &&& 2549217144 = 2549217144) : Same m s (inrushTick a0 a1 t) ↔ Same m s t := by
  refine Same.peel ?_ h
  unfold inrushTick
  repeat' first
    | split
    | simp [Sys.modes, Svc.fuses, Svc.images]
    | intro _
    | refine (forEach_same fun _ _ => ?_).2 ?_
    | (rename_i heq; have hs := congrArg Prod.snd heq; dsimp only at hs; subst hs)

end Sys2Proof.Machine
end

