-- ==== Sys2Proof/Laws/FrameSwitch.lean ====
section
/-! SUPPORT. Frames of the operations of Machine/Switch.lean. -/

set_option Elab.async false
set_option linter.unusedTactic false
set_option linter.unreachableTactic false
set_option linter.unnecessarySeqFocus false
set_option linter.unusedSimpArgs false

namespace Sys2Proof.Machine

@[simp ↓] theorem ctrlAct_same (h : m &&& 2549217144 = 2549217144) : Same m s (ctrlAct a0 a1 t) ↔ Same m s t := by
  refine Same.peel ?_ h
  unfold ctrlAct
  repeat' first
    | split
    | simp [Sys.modes, Svc.fuses, Svc.images]
    | intro _
    | refine (forEach_same fun _ _ => ?_).2 ?_
    | (rename_i heq; have hs := congrArg Prod.snd heq; dsimp only at hs; subst hs)

@[simp ↓] theorem settleRun_same (h : m &&& 67126080 = 67126080) : Same m s (settleRun a0 t) ↔ Same m s t := by
  refine Same.peel ?_ h
  unfold settleRun
  repeat' first
    | split
    | simp [Sys.modes, Svc.fuses, Svc.images]
    | intro _
    | refine (forEach_same fun _ _ => ?_).2 ?_
    | (rename_i heq; have hs := congrArg Prod.snd heq; dsimp only at hs; subst hs)

@[simp ↓] theorem ctrlOne_same {act : Nat} {c : Ch} {p : SwRun × State} (h : m &&& 2549217144 = 2549217144) : Same m s (ctrlOne act c p).2 ↔ Same m s p.2 := by
  refine Same.peel ?_ h
  unfold ctrlOne
  repeat' first
    | split
    | simp

@[simp ↓] theorem carryHeld_same (h : m &&& 2549217144 = 2549217144) : Same m s (carryHeld a0 t) ↔ Same m s t := by
  refine Same.peel ?_ h
  simp [carryHeld]

@[simp ↓] theorem switchTick_same (h : m &&& 2549217144 = 2549217144) : Same m s (switchTick t) ↔ Same m s t := by
  refine Same.peel ?_ h
  unfold switchTick
  repeat' first
    | split
    | simp [Sys.modes, Svc.fuses, Svc.images]
    | intro _
    | refine (forEach_same fun _ _ => ?_).2 ?_
    | (rename_i heq; have hs := congrArg Prod.snd heq; dsimp only at hs; subst hs)

@[simp ↓] theorem settleRising_same (h : m &&& 67126080 = 67126080) : Same m s (settleRising a0 t) ↔ Same m s t := by
  refine Same.peel ?_ h
  unfold settleRising
  repeat' first
    | split
    | simp [Sys.modes, Svc.fuses, Svc.images]
    | intro _
    | refine (forEach_same fun _ _ => ?_).2 ?_
    | (rename_i heq; have hs := congrArg Prod.snd heq; dsimp only at hs; subst hs)

@[simp ↓] theorem riseTick_same (h : m &&& 67126080 = 67126080) : Same m s (riseTick t) ↔ Same m s t := by
  refine Same.peel ?_ h
  unfold riseTick
  repeat' first
    | split
    | simp [Sys.modes, Svc.fuses, Svc.images]
    | intro _
    | refine (forEach_same fun _ _ => ?_).2 ?_
    | (rename_i heq; have hs := congrArg Prod.snd heq; dsimp only at hs; subst hs)

@[simp ↓] theorem setOpen_same (h : m &&& 1048576 = 1048576) : Same m s (setOpen a0 a1 t) ↔ Same m s t := by
  refine Same.peel ?_ h
  unfold setOpen
  repeat' first
    | split
    | simp [Sys.modes, Svc.fuses, Svc.images]
    | intro _
    | refine (forEach_same fun _ _ => ?_).2 ?_
    | (rename_i heq; have hs := congrArg Prod.snd heq; dsimp only at hs; subst hs)

@[simp ↓] theorem returnCh_same (h : m &&& 2549217144 = 2549217144) : Same m s (returnCh a0 a1 t) ↔ Same m s t := by
  refine Same.peel ?_ h
  unfold returnCh
  repeat' first
    | split
    | simp [Sys.modes, Svc.fuses, Svc.images]
    | intro _
    | refine (forEach_same fun _ _ => ?_).2 ?_
    | (rename_i heq; have hs := congrArg Prod.snd heq; dsimp only at hs; subst hs)

@[simp ↓] theorem giveBack_same (h : m &&& 2549217144 = 2549217144) : Same m s (giveBack a0 a1 t) ↔ Same m s t := by
  refine Same.peel ?_ h
  unfold giveBack
  repeat' first
    | split
    | simp [Sys.modes, Svc.fuses, Svc.images]
    | intro _
    | refine (forEach_same fun _ _ => ?_).2 ?_
    | (rename_i heq; have hs := congrArg Prod.snd heq; dsimp only at hs; subst hs)

@[simp ↓] theorem backNow_same (h : m &&& 2549217144 = 2549217144) : Same m s (backNow a0 a1 t) ↔ Same m s t := by
  refine Same.peel ?_ h
  unfold backNow
  repeat' first
    | split
    | simp [Sys.modes, Svc.fuses, Svc.images]
    | intro _
    | refine (forEach_same fun _ _ => ?_).2 ?_
    | (rename_i heq; have hs := congrArg Prod.snd heq; dsimp only at hs; subst hs)

@[simp ↓] theorem carryRestore_same (h : m &&& 2549217144 = 2549217144) : Same m s (carryRestore t) ↔ Same m s t := by
  refine Same.peel ?_ h
  unfold carryRestore
  repeat' first
    | split
    | simp [Sys.modes, Svc.fuses, Svc.images]
    | intro _
    | refine (forEach_same fun _ _ => ?_).2 ?_
    | (rename_i heq; have hs := congrArg Prod.snd heq; dsimp only at hs; subst hs)

@[simp ↓] theorem restoreTick_same (h : m &&& 2549217144 = 2549217144) : Same m s (restoreTick t) ↔ Same m s t := by
  refine Same.peel ?_ h
  unfold restoreTick
  repeat' first
    | split
    | simp [Sys.modes, Svc.fuses, Svc.images]
    | intro _
    | refine (forEach_same fun _ _ => ?_).2 ?_
    | (rename_i heq; have hs := congrArg Prod.snd heq; dsimp only at hs; subst hs)

end Sys2Proof.Machine
end

