-- ==== Sys2Proof/Laws/FrameTick.lean ====
section
/-! SUPPORT. Frames of the operations of Machine/Tick.lean. -/

set_option Elab.async false
set_option linter.unusedTactic false
set_option linter.unreachableTactic false
set_option linter.unnecessarySeqFocus false
set_option linter.unusedSimpArgs false

namespace Sys2Proof.Machine

@[simp ↓] theorem presenceTick_same (h : m &&& 338696000 = 338696000) : Same m s (presenceTick a0 a1 t) ↔ Same m s t := by
  refine Same.peel ?_ h
  unfold presenceTick
  repeat' first
    | split
    | simp [Sys.modes, Svc.fuses, Svc.images]
    | intro _
    | refine (forEach_same fun _ _ => ?_).2 ?_
    | (rename_i heq; have hs := congrArg Prod.snd heq; dsimp only at hs; subst hs)

@[simp ↓] theorem busTick_same (h : m &&& 100700992 = 100700992) : Same m s (busTick a0 t) ↔ Same m s t := by
  refine Same.peel ?_ h
  unfold busTick
  repeat' first
    | split
    | simp [Sys.modes, Svc.fuses, Svc.images]
    | intro _
    | refine (forEach_same fun _ _ => ?_).2 ?_
    | (rename_i heq; have hs := congrArg Prod.snd heq; dsimp only at hs; subst hs)

@[simp ↓] theorem abortRestore_same (h : m &&& 338696000 = 338696000) : Same m s (abortRestore t) ↔ Same m s t := by
  refine Same.peel ?_ h
  unfold abortRestore
  repeat' first
    | split
    | simp [Sys.modes, Svc.fuses, Svc.images]
    | intro _
    | refine (forEach_same fun _ _ => ?_).2 ?_
    | (rename_i heq; have hs := congrArg Prod.snd heq; dsimp only at hs; subst hs)

@[simp ↓] theorem strobeGroup_same (h : m &&& 372252480 = 372252480) : Same m s (strobeGroup a0 t) ↔ Same m s t := by
  refine Same.peel ?_ h
  unfold strobeGroup
  repeat' first
    | split
    | simp [Sys.modes, Svc.fuses, Svc.images]
    | intro _
    | refine (forEach_same fun _ _ => ?_).2 ?_
    | (rename_i heq; have hs := congrArg Prod.snd heq; dsimp only at hs; subst hs)

@[simp ↓] theorem stepTick_same (h : m &&& 372250432 = 372250432) : Same m s (stepTick t) ↔ Same m s t := by
  refine Same.peel ?_ h
  unfold stepTick
  repeat' first
    | split
    | simp [Sys.modes, Svc.fuses, Svc.images]
    | intro _
    | refine (forEach_same fun _ _ => ?_).2 ?_
    | (rename_i heq; have hs := congrArg Prod.snd heq; dsimp only at hs; subst hs)

@[simp ↓] theorem fieldOpen_same (h : m &&& 372250432 = 372250432) : Same m s (fieldOpen a0 t) ↔ Same m s t := by
  refine Same.peel ?_ h
  unfold fieldOpen
  repeat' first
    | split
    | simp [Sys.modes, Svc.fuses, Svc.images]
    | intro _
    | refine (forEach_same fun _ _ => ?_).2 ?_
    | (rename_i heq; have hs := congrArg Prod.snd heq; dsimp only at hs; subst hs)

@[simp ↓] theorem tokenTick_same (h : m &&& 2549217144 = 2549217144) : Same m s (tokenTick a0 t) ↔ Same m s t := by
  refine Same.peel ?_ h
  unfold tokenTick
  repeat' first
    | split
    | simp [Sys.modes, Svc.fuses, Svc.images]
    | intro _
    | refine (forEach_same fun _ _ => ?_).2 ?_
    | (rename_i heq; have hs := congrArg Prod.snd heq; dsimp only at hs; subst hs)

@[simp ↓] theorem boostTick_same (h : m &&& 1024 = 1024) : Same m s (boostTick a0 t) ↔ Same m s t := by
  refine Same.peel ?_ h
  unfold boostTick
  repeat' first
    | split
    | simp [Sys.modes, Svc.fuses, Svc.images]
    | intro _
    | refine (forEach_same fun _ _ => ?_).2 ?_
    | (rename_i heq; have hs := congrArg Prod.snd heq; dsimp only at hs; subst hs)

@[simp ↓] theorem doAct_same (h : m &&& 2549217144 = 2549217144) : Same m s (doAct a0 a1 t) ↔ Same m s t := by
  refine Same.peel ?_ h
  unfold doAct
  repeat' first
    | split
    | simp [Sys.modes, Svc.fuses, Svc.images]
    | intro _
    | refine (forEach_same fun _ _ => ?_).2 ?_
    | (rename_i heq; have hs := congrArg Prod.snd heq; dsimp only at hs; subst hs)

@[simp ↓] theorem heldMeet_same (h : m &&& 393221952 = 393221952) : Same m s (heldMeet a0 t) ↔ Same m s t := by
  refine Same.peel ?_ h
  unfold heldMeet
  repeat' first
    | split
    | simp [Sys.modes, Svc.fuses, Svc.images]
    | intro _
    | refine (forEach_same fun _ _ => ?_).2 ?_
    | (rename_i heq; have hs := congrArg Prod.snd heq; dsimp only at hs; subst hs)

@[simp ↓] theorem heldTick_same (h : m &&& 2549217144 = 2549217144) : Same m s (heldTick a0 t) ↔ Same m s t := by
  refine Same.peel ?_ h
  unfold heldTick
  repeat' first
    | split
    | simp [Sys.modes, Svc.fuses, Svc.images]
    | intro _
    | refine (forEach_same fun _ _ => ?_).2 ?_
    | (rename_i heq; have hs := congrArg Prod.snd heq; dsimp only at hs; subst hs)

@[simp ↓] theorem modelTick_same (h : m &&& 268469248 = 268469248) : Same m s (modelTick a0 a1 t) ↔ Same m s t := by
  refine Same.peel ?_ h
  unfold modelTick
  repeat' first
    | split
    | simp [Sys.modes, Svc.fuses, Svc.images]
    | intro _
    | refine (forEach_same fun _ _ => ?_).2 ?_
    | (rename_i heq; have hs := congrArg Prod.snd heq; dsimp only at hs; subst hs)

@[simp ↓] theorem countTick_same (h : m &&& 338696000 = 338696000) : Same m s (countTick a0 a1 t) ↔ Same m s t := by
  refine Same.peel ?_ h
  unfold countTick
  repeat' first
    | split
    | simp [Sys.modes, Svc.fuses, Svc.images]
    | intro _
    | refine (forEach_same fun _ _ => ?_).2 ?_
    | (rename_i heq; have hs := congrArg Prod.snd heq; dsimp only at hs; subst hs)

@[simp ↓] theorem causeTick_same (h : m &&& 393221952 = 393221952) : Same m s (causeTick a0 t) ↔ Same m s t := by
  refine Same.peel ?_ h
  unfold causeTick
  repeat' first
    | split
    | simp [Sys.modes, Svc.fuses, Svc.images]
    | intro _
    | refine (forEach_same fun _ _ => ?_).2 ?_
    | (rename_i heq; have hs := congrArg Prod.snd heq; dsimp only at hs; subst hs)

@[simp ↓] theorem moveTick_same (h : m &&& 2549217144 = 2549217144) : Same m s (moveTick a0 a1 t) ↔ Same m s t := by
  refine Same.peel ?_ h
  unfold moveTick
  repeat' first
    | split
    | simp [Sys.modes, Svc.fuses, Svc.images]
    | intro _
    | refine (forEach_same fun _ _ => ?_).2 ?_
    | (rename_i heq; have hs := congrArg Prod.snd heq; dsimp only at hs; subst hs)

@[simp ↓] theorem afterEvents_same (h : m &&& 2549217144 = 2549217144) : Same m s (afterEvents a0 t) ↔ Same m s t := by
  refine Same.peel ?_ h
  unfold afterEvents
  repeat' first
    | split
    | simp [Sys.modes, Svc.fuses, Svc.images]
    | intro _
    | refine (forEach_same fun _ _ => ?_).2 ?_
    | (rename_i heq; have hs := congrArg Prod.snd heq; dsimp only at hs; subst hs)

@[simp ↓] theorem lowTick_same (h : m &&& 32768 = 32768) : Same m s (lowTick t) ↔ Same m s t := by
  refine Same.peel ?_ h
  unfold lowTick
  repeat' first
    | split
    | simp [Sys.modes, Svc.fuses, Svc.images]
    | intro _
    | refine (forEach_same fun _ _ => ?_).2 ?_
    | (rename_i heq; have hs := congrArg Prod.snd heq; dsimp only at hs; subst hs)

@[simp ↓] theorem tick_same (h : m &&& 2549874554 = 2549874554) : Same m s (tick a0 t) ↔ Same m s t := by
  refine Same.peel ?_ h
  unfold tick
  repeat' first
    | split
    | simp [Sys.modes, Svc.fuses, Svc.images]
    | intro _
    | refine (forEach_same fun _ _ => ?_).2 ?_
    | (rename_i heq; have hs := congrArg Prod.snd heq; dsimp only at hs; subst hs)

theorem execMarionetteTick_ends (h : m &&& 2549874554 = 2549874554) : Ends m s (execMarionetteTick a0 s) := by
  refine Ends.mono ?_ h
  unfold execMarionetteTick
  repeat' first
    | split
    | simp [Sys.modes, Svc.fuses, Svc.images]
    | intro _
    | refine (forEach_same fun _ _ => ?_).2 ?_
    | (rename_i heq; have hs := congrArg Prod.snd heq; dsimp only at hs; subst hs)

@[simp ↓] theorem keepTrip_same (h : m &&& 369100608 = 369100608) : Same m s (keepTrip a0 a1 t) ↔ Same m s t := by
  refine Same.peel ?_ h
  unfold keepTrip
  repeat' first
    | split
    | simp [Sys.modes, Svc.fuses, Svc.images]
    | intro _
    | refine (forEach_same fun _ _ => ?_).2 ?_
    | (rename_i heq; have hs := congrArg Prod.snd heq; dsimp only at hs; subst hs)

@[simp ↓] theorem reflexOff_same (h : m &&& 393320256 = 393320256) : Same m s (reflexOff a0 a1 t) ↔ Same m s t := by
  refine Same.peel ?_ h
  unfold reflexOff
  repeat' first
    | split
    | simp [Sys.modes, Svc.fuses, Svc.images]
    | intro _
    | refine (forEach_same fun _ _ => ?_).2 ?_
    | (rename_i heq; have hs := congrArg Prod.snd heq; dsimp only at hs; subst hs)

theorem execOcReflex_ends (h : m &&& 2549217144 = 2549217144) : Ends m s (execOcReflex a0 a1 s) := by
  refine Ends.mono ?_ h
  unfold execOcReflex
  repeat' first
    | split
    | simp [Sys.modes, Svc.fuses, Svc.images]
    | intro _
    | refine (forEach_same fun _ _ => ?_).2 ?_
    | (rename_i heq; have hs := congrArg Prod.snd heq; dsimp only at hs; subst hs)

theorem execRcReflex_ends (h : m &&& 2549217144 = 2549217144) : Ends m s (execRcReflex a0 s) := by
  refine Ends.mono ?_ h
  unfold execRcReflex
  repeat' first
    | split
    | simp [Sys.modes, Svc.fuses, Svc.images]
    | intro _
    | refine (forEach_same fun _ _ => ?_).2 ?_
    | (rename_i heq; have hs := congrArg Prod.snd heq; dsimp only at hs; subst hs)

@[simp ↓] theorem raiseStrobe_same (h : m &&& 104448 = 104448) : Same m s (raiseStrobe t) ↔ Same m s t := by
  refine Same.peel ?_ h
  unfold raiseStrobe
  repeat' first
    | split
    | simp [Sys.modes, Svc.fuses, Svc.images]
    | intro _
    | refine (forEach_same fun _ _ => ?_).2 ?_
    | (rename_i heq; have hs := congrArg Prod.snd heq; dsimp only at hs; subst hs)

theorem execArmedReflex_ends (h : m &&& 268540928 = 268540928) : Ends m s (execArmedReflex a0 s) := by
  refine Ends.mono ?_ h
  unfold execArmedReflex
  repeat' first
    | split
    | simp [Sys.modes, Svc.fuses, Svc.images]
    | intro _
    | refine (forEach_same fun _ _ => ?_).2 ?_
    | (rename_i heq; have hs := congrArg Prod.snd heq; dsimp only at hs; subst hs)

theorem execPresenceFilter_ends (h : m &&& 2549872506 = 2549872506) : Ends m s (execPresenceFilter a0 a1 s) := by
  refine Ends.mono ?_ h
  unfold execPresenceFilter
  repeat' first
    | split
    | simp [Sys.modes, Svc.fuses, Svc.images]
    | intro _
    | refine (forEach_same fun _ _ => ?_).2 ?_
    | (rename_i heq; have hs := congrArg Prod.snd heq; dsimp only at hs; subst hs)

theorem execAutoInrushFile_ends (h : m &&& 372250432 = 372250432) : Ends m s (execAutoInrushFile a0 s) := by
  refine Ends.mono ?_ h
  unfold execAutoInrushFile
  repeat' first
    | split
    | simp [Sys.modes, Svc.fuses, Svc.images]
    | intro _
    | refine (forEach_same fun _ _ => ?_).2 ?_
    | (rename_i heq; have hs := congrArg Prod.snd heq; dsimp only at hs; subst hs)

theorem execInrushFollowDone_ends (h : m &&& 268436480 = 268436480) : Ends m s (execInrushFollowDone a0 s) := by
  refine Ends.mono ?_ h
  unfold execInrushFollowDone
  repeat' first
    | split
    | simp [Sys.modes, Svc.fuses, Svc.images]
    | intro _
    | refine (forEach_same fun _ _ => ?_).2 ?_
    | (rename_i heq; have hs := congrArg Prod.snd heq; dsimp only at hs; subst hs)

theorem execInrushComplete_ends (h : m &&& 2549217144 = 2549217144) : Ends m s (execInrushComplete a0 s) := by
  refine Ends.mono ?_ h
  unfold execInrushComplete
  repeat' first
    | split
    | simp [Sys.modes, Svc.fuses, Svc.images]
    | intro _
    | refine (forEach_same fun _ _ => ?_).2 ?_
    | (rename_i heq; have hs := congrArg Prod.snd heq; dsimp only at hs; subst hs)

theorem execInrushTimeout_ends (h : m &&& 2549872506 = 2549872506) : Ends m s (execInrushTimeout a0 s) := by
  refine Ends.mono ?_ h
  unfold execInrushTimeout
  repeat' first
    | split
    | simp [Sys.modes, Svc.fuses, Svc.images]
    | intro _
    | refine (forEach_same fun _ _ => ?_).2 ?_
    | (rename_i heq; have hs := congrArg Prod.snd heq; dsimp only at hs; subst hs)

theorem execFetTestEnd_ends (h : m &&& 2549872506 = 2549872506) : Ends m s (execFetTestEnd a0 s) := by
  refine Ends.mono ?_ h
  unfold execFetTestEnd
  repeat' first
    | split
    | simp [Sys.modes, Svc.fuses, Svc.images]
    | intro _
    | refine (forEach_same fun _ _ => ?_).2 ?_
    | (rename_i heq; have hs := congrArg Prod.snd heq; dsimp only at hs; subst hs)

@[simp ↓] theorem lifeDay_same (h : m &&& 100665152 = 100665152) : Same m s (lifeDay a0 t) ↔ Same m s t := by
  refine Same.peel ?_ h
  unfold lifeDay
  repeat' first
    | split
    | simp [Sys.modes, Svc.fuses, Svc.images]
    | intro _
    | refine (forEach_same fun _ _ => ?_).2 ?_
    | (rename_i heq; have hs := congrArg Prod.snd heq; dsimp only at hs; subst hs)

theorem execLifeLeftDaily_ends (h : m &&& 101320514 = 101320514) : Ends m s (execLifeLeftDaily s) := by
  refine Ends.mono ?_ h
  unfold execLifeLeftDaily
  repeat' first
    | split
    | simp [Sys.modes, Svc.fuses, Svc.images]
    | intro _
    | refine (forEach_same fun _ _ => ?_).2 ?_
    | (rename_i heq; have hs := congrArg Prod.snd heq; dsimp only at hs; subst hs)

theorem execUvFilterExpiry_ends (h : m &&& 2549872506 = 2549872506) : Ends m s (execUvFilterExpiry a0 s) := by
  refine Ends.mono ?_ h
  unfold execUvFilterExpiry
  repeat' first
    | split
    | simp [Sys.modes, Svc.fuses, Svc.images]
    | intro _
    | refine (forEach_same fun _ _ => ?_).2 ?_
    | (rename_i heq; have hs := congrArg Prod.snd heq; dsimp only at hs; subst hs)

theorem execOverloadExpiry_ends (h : m &&& 2549872506 = 2549872506) : Ends m s (execOverloadExpiry a0 s) := by
  refine Ends.mono ?_ h
  unfold execOverloadExpiry
  repeat' first
    | split
    | simp [Sys.modes, Svc.fuses, Svc.images]
    | intro _
    | refine (forEach_same fun _ _ => ?_).2 ?_
    | (rename_i heq; have hs := congrArg Prod.snd heq; dsimp only at hs; subst hs)

theorem execDriveFault_ends (h : m &&& 2549872506 = 2549872506) : Ends m s (execDriveFault a0 s) := by
  refine Ends.mono ?_ h
  unfold execDriveFault
  repeat' first
    | split
    | simp [Sys.modes, Svc.fuses, Svc.images]
    | intro _
    | refine (forEach_same fun _ _ => ?_).2 ?_
    | (rename_i heq; have hs := congrArg Prod.snd heq; dsimp only at hs; subst hs)

theorem execRetryAttempt_ends (h : m &&& 2549872506 = 2549872506) : Ends m s (execRetryAttempt a0 s) := by
  refine Ends.mono ?_ h
  unfold execRetryAttempt
  repeat' first
    | split
    | simp [Sys.modes, Svc.fuses, Svc.images]
    | intro _
    | refine (forEach_same fun _ _ => ?_).2 ?_
    | (rename_i heq; have hs := congrArg Prod.snd heq; dsimp only at hs; subst hs)

theorem execWaitCleared_ends (h : m &&& 2549872506 = 2549872506) : Ends m s (execWaitCleared a0 s) := by
  refine Ends.mono ?_ h
  unfold execWaitCleared
  repeat' first
    | split
    | simp [Sys.modes, Svc.fuses, Svc.images]
    | intro _
    | refine (forEach_same fun _ _ => ?_).2 ?_
    | (rename_i heq; have hs := congrArg Prod.snd heq; dsimp only at hs; subst hs)

theorem execRetryCountReset_ends (h : m &&& 656386 = 656386) : Ends m s (execRetryCountReset a0 s) := by
  refine Ends.mono ?_ h
  unfold execRetryCountReset
  repeat' first
    | split
    | simp [Sys.modes, Svc.fuses, Svc.images]
    | intro _
    | refine (forEach_same fun _ _ => ?_).2 ?_
    | (rename_i heq; have hs := congrArg Prod.snd heq; dsimp only at hs; subst hs)

end Sys2Proof.Machine
end

