-- ==== Sys2Proof/Laws/FrameSessions.lean ====
section
/-! SUPPORT. Frames of the operations of Machine/Sessions.lean. -/

set_option Elab.async false
set_option linter.unusedTactic false
set_option linter.unreachableTactic false
set_option linter.unnecessarySeqFocus false
set_option linter.unusedSimpArgs false

namespace Sys2Proof.Machine

@[simp ↓] theorem abortTag_same (h : m &&& 339040064 = 339040064) : Same m s (abortTag a0 t) ↔ Same m s t := by
  refine Same.peel ?_ h
  unfold abortTag
  repeat' first
    | split
    | simp [Sys.modes, Svc.fuses, Svc.images]
    | intro _
    | refine (forEach_same fun _ _ => ?_).2 ?_
    | (rename_i heq; have hs := congrArg Prod.snd heq; dsimp only at hs; subst hs)

@[simp ↓] theorem closeSession_same (h : m &&& 339040064 = 339040064) : Same m s (closeSession a0 t) ↔ Same m s t := by
  refine Same.peel ?_ h
  unfold closeSession
  repeat' first
    | split
    | simp [Sys.modes, Svc.fuses, Svc.images]
    | intro _
    | refine (forEach_same fun _ _ => ?_).2 ?_
    | (rename_i heq; have hs := congrArg Prod.snd heq; dsimp only at hs; subst hs)

@[simp ↓] theorem endSession_same (h : m &&& 339040064 = 339040064) : Same m s (endSession a0 a1 t) ↔ Same m s t := by
  refine Same.peel ?_ h
  unfold endSession
  repeat' first
    | split
    | simp [Sys.modes, Svc.fuses, Svc.images]
    | intro _
    | refine (forEach_same fun _ _ => ?_).2 ?_
    | (rename_i heq; have hs := congrArg Prod.snd heq; dsimp only at hs; subst hs)

@[simp ↓] theorem dropSessions_same (h : m &&& 896 = 896) : Same m s (dropSessions t) ↔ Same m s t := by
  refine Same.peel ?_ h
  unfold dropSessions
  repeat' first
    | split
    | simp [Sys.modes, Svc.fuses, Svc.images]
    | intro _
    | refine (forEach_same fun _ _ => ?_).2 ?_
    | (rename_i heq; have hs := congrArg Prod.snd heq; dsimp only at hs; subst hs)

@[simp ↓] theorem clearTakeover_same (h : m &&& 68157440 = 68157440) : Same m s (clearTakeover t) ↔ Same m s t := by
  refine Same.peel ?_ h
  unfold clearTakeover
  repeat' first
    | split
    | simp [Sys.modes, Svc.fuses, Svc.images]
    | intro _
    | refine (forEach_same fun _ _ => ?_).2 ?_
    | (rename_i heq; have hs := congrArg Prod.snd heq; dsimp only at hs; subst hs)

end Sys2Proof.Machine
end

