-- ==== Sys2Proof/Laws/FrameSafeKeep.lean ====
section
/-! SUPPORT. Frames of the operations of Machine/SafeKeep.lean. -/

set_option Elab.async false
set_option linter.unusedTactic false
set_option linter.unreachableTactic false
set_option linter.unnecessarySeqFocus false
set_option linter.unusedSimpArgs false

namespace Sys2Proof.Machine

@[simp ↓] theorem setWatch_same (h : m &&& 8192 = 8192) : Same m s (setWatch a0 t) ↔ Same m s t := by
  refine Same.peel ?_ h
  unfold setWatch
  repeat' first
    | split
    | simp [Sys.modes, Svc.fuses, Svc.images]
    | intro _
    | refine (forEach_same fun _ _ => ?_).2 ?_
    | (rename_i heq; have hs := congrArg Prod.snd heq; dsimp only at hs; subst hs)

@[simp ↓] theorem clearWatch_same (h : m &&& 8192 = 8192) : Same m s (clearWatch a0 t) ↔ Same m s t := by
  refine Same.peel ?_ h
  unfold clearWatch
  repeat' first
    | split
    | simp [Sys.modes, Svc.fuses, Svc.images]
    | intro _
    | refine (forEach_same fun _ _ => ?_).2 ?_
    | (rename_i heq; have hs := congrArg Prod.snd heq; dsimp only at hs; subst hs)

@[simp ↓] theorem safeKeepCh_same (h : m &&& 372250432 = 372250432) : Same m s (safeKeepCh a0 t) ↔ Same m s t := by
  refine Same.peel ?_ h
  unfold safeKeepCh
  repeat' first
    | split
    | simp [Sys.modes, Svc.fuses, Svc.images]
    | intro _
    | refine (forEach_same fun _ _ => ?_).2 ?_
    | (rename_i heq; have hs := congrArg Prod.snd heq; dsimp only at hs; subst hs)

@[simp ↓] theorem discardHeld_same (h : m &&& 67126080 = 67126080) : Same m s (discardHeld t) ↔ Same m s t := by
  refine Same.peel ?_ h
  unfold discardHeld
  repeat' first
    | split
    | simp [Sys.modes, Svc.fuses, Svc.images]
    | intro _
    | refine (forEach_same fun _ _ => ?_).2 ?_
    | (rename_i heq; have hs := congrArg Prod.snd heq; dsimp only at hs; subst hs)

@[simp ↓] theorem abortQueue_same (h : m &&& 68163392 = 68163392) : Same m s (abortQueue t) ↔ Same m s t := by
  refine Same.peel ?_ h
  unfold abortQueue
  repeat' first
    | split
    | simp [Sys.modes, Svc.fuses, Svc.images]
    | intro _
    | refine (forEach_same fun _ _ => ?_).2 ?_
    | (rename_i heq; have hs := congrArg Prod.snd heq; dsimp only at hs; subst hs)

@[simp ↓] theorem countEntry_same (h : m &&& 8192 = 8192) : Same m s (countEntry a0 t) ↔ Same m s t := by
  refine Same.peel ?_ h
  unfold countEntry
  repeat' first
    | split
    | simp [Sys.modes, Svc.fuses, Svc.images]
    | intro _
    | refine (forEach_same fun _ _ => ?_).2 ?_
    | (rename_i heq; have hs := congrArg Prod.snd heq; dsimp only at hs; subst hs)

@[simp ↓] theorem safeKeepTakeover_same (h : m &&& 68157440 = 68157440) : Same m s (safeKeepTakeover t) ↔ Same m s t := by
  refine Same.peel ?_ h
  unfold safeKeepTakeover
  repeat' first
    | split
    | simp [Sys.modes, Svc.fuses, Svc.images]
    | intro _
    | refine (forEach_same fun _ _ => ?_).2 ?_
    | (rename_i heq; have hs := congrArg Prod.snd heq; dsimp only at hs; subst hs)

@[simp ↓] theorem seize_same (h : m &&& 8224 = 8224) : Same m s (seize t) ↔ Same m s t := by
  refine Same.peel ?_ h
  unfold seize
  repeat' first
    | split
    | simp [Sys.modes, Svc.fuses, Svc.images]
    | intro _
    | refine (forEach_same fun _ _ => ?_).2 ?_
    | (rename_i heq; have hs := congrArg Prod.snd heq; dsimp only at hs; subst hs)

@[simp ↓] theorem ceaseAll_same (h : m &&& 372266816 = 372266816) : Same m s (ceaseAll t) ↔ Same m s t := by
  refine Same.peel ?_ h
  unfold ceaseAll
  repeat' first
    | split
    | simp [Sys.modes, Svc.fuses, Svc.images]
    | intro _
    | refine (forEach_same fun _ _ => ?_).2 ?_
    | (rename_i heq; have hs := congrArg Prod.snd heq; dsimp only at hs; subst hs)

@[simp ↓] theorem entryTaken_same (h : m &&& 6393856 = 6393856) : Same m s (entryTaken t) ↔ Same m s t := by
  refine Same.peel ?_ h
  unfold entryTaken
  repeat' first
    | split
    | simp [Sys.modes, Svc.fuses, Svc.images]
    | intro _
    | refine (forEach_same fun _ _ => ?_).2 ?_
    | (rename_i heq; have hs := congrArg Prod.snd heq; dsimp only at hs; subst hs)

@[simp ↓] theorem tellEntry_same (h : m &&& 376788800 = 376788800) : Same m s (tellEntry a0 t) ↔ Same m s t := by
  refine Same.peel ?_ h
  unfold tellEntry
  repeat' first
    | split
    | simp [Sys.modes, Svc.fuses, Svc.images]
    | intro _
    | refine (forEach_same fun _ _ => ?_).2 ?_
    | (rename_i heq; have hs := congrArg Prod.snd heq; dsimp only at hs; subst hs)

@[simp ↓] theorem enterSafeKeep_same (h : m &&& 2549479288 = 2549479288) : Same m s (enterSafeKeep a0 t) ↔ Same m s t := by
  refine Same.peel ?_ h
  unfold enterSafeKeep
  repeat' first
    | split
    | simp [Sys.modes, Svc.fuses, Svc.images]
    | intro _
    | refine (forEach_same fun _ _ => ?_).2 ?_
    | (rename_i heq; have hs := congrArg Prod.snd heq; dsimp only at hs; subst hs)

@[simp ↓] theorem raiseFlag_same (h : m &&& 2549479288 = 2549479288) : Same m s (raiseFlag a0 t) ↔ Same m s t := by
  refine Same.peel ?_ h
  unfold raiseFlag
  repeat' first
    | split
    | simp [Sys.modes, Svc.fuses, Svc.images]
    | intro _
    | refine (forEach_same fun _ _ => ?_).2 ?_
    | (rename_i heq; have hs := congrArg Prod.snd heq; dsimp only at hs; subst hs)

@[simp ↓] theorem releaseOverrides_same (h : m &&& 9216 = 9216) : Same m s (releaseOverrides t) ↔ Same m s t := by
  refine Same.peel ?_ h
  unfold releaseOverrides
  repeat' first
    | split
    | simp [Sys.modes, Svc.fuses, Svc.images]
    | intro _
    | refine (forEach_same fun _ _ => ?_).2 ?_
    | (rename_i heq; have hs := congrArg Prod.snd heq; dsimp only at hs; subst hs)

end Sys2Proof.Machine
end

