-- ==== Sys2Proof/Laws/FrameBoot.lean ====
section
/-! SUPPORT. Frames of the operations of Machine/Boot.lean. -/

set_option Elab.async false
set_option linter.unusedTactic false
set_option linter.unreachableTactic false
set_option linter.unnecessarySeqFocus false
set_option linter.unusedSimpArgs false

namespace Sys2Proof.Machine

@[simp ↓] theorem wiped_same (h : m &&& 6979190776 = 6979190776) : Same m s (wiped t) ↔ Same m s t := by
  refine Same.peel ?_ h
  refine ⟨fun p hp => ?_⟩
  cases p <;> first | rfl | (exact absurd hp (by decide))

@[simp ↓] theorem readLog_same (h : m &&& 100664128 = 100664128) : Same m s (readLog a0 t) ↔ Same m s t := by
  refine Same.peel ?_ h
  unfold readLog
  extract_lets _ _ _ _ mark y s1 s2
  have h1 : Same 100664128 t s1 := by simp [s1]
  have h2 : Same 100664128 t s2 := by simp [s2, h1]
  clear_value s2
  split
  · simp [h2]
  · exact h2

@[simp ↓] theorem resolveJournal_same (h : m &&& 119538496 = 119538496) : Same m s (resolveJournal t) ↔ Same m s t := by
  refine Same.peel ?_ h
  unfold resolveJournal
  repeat' first
    | split
    | simp [Sys.modes, Svc.fuses, Svc.images]
    | intro _
    | refine (forEach_same fun _ _ => ?_).2 ?_
    | (rename_i heq; have hs := congrArg Prod.snd heq; dsimp only at hs; subst hs)

@[simp ↓] theorem migrateRec_same (h : m &&& 16777216 = 16777216) : Same m s (migrateRec a0 a1 a2 t) ↔ Same m s t := by
  refine Same.peel ?_ h
  unfold migrateRec
  repeat' first
    | split
    | simp [Sys.modes, Svc.fuses, Svc.images]
    | intro _
    | refine (forEach_same fun _ _ => ?_).2 ?_
    | (rename_i heq; have hs := congrArg Prod.snd heq; dsimp only at hs; subst hs)

@[simp ↓] theorem settleRec_same (h : m &&& 117441344 = 117441344) : Same m s (settleRec a0 a1 t) ↔ Same m s t := by
  refine Same.peel ?_ h
  unfold settleRec
  repeat' first
    | split
    | simp [Sys.modes, Svc.fuses, Svc.images]
    | intro _
    | refine (forEach_same fun _ _ => ?_).2 ?_
    | (rename_i heq; have hs := congrArg Prod.snd heq; dsimp only at hs; subst hs)

@[simp ↓] theorem settleRecords_same (h : m &&& 117441344 = 117441344) : Same m s (settleRecords t) ↔ Same m s t := by
  refine Same.peel ?_ h
  unfold settleRecords
  repeat' first
    | split
    | simp [Sys.modes, Svc.fuses, Svc.images]
    | intro _
    | refine (forEach_same fun _ _ => ?_).2 ?_
    | (rename_i heq; have hs := congrArg Prod.snd heq; dsimp only at hs; subst hs)

@[simp ↓] theorem loadVals_same (h : m &&& 552 = 552) : Same m s (loadVals t) ↔ Same m s t := by
  refine Same.peel ?_ h
  unfold loadVals
  repeat' first
    | split
    | simp [Sys.modes, Svc.fuses, Svc.images]
    | intro _
    | refine (forEach_same fun _ _ => ?_).2 ?_
    | (rename_i heq; have hs := congrArg Prod.snd heq; dsimp only at hs; subst hs)

@[simp ↓] theorem loadIsolation_same (h : m &&& 32 = 32) : Same m s (loadIsolation t) ↔ Same m s t := by
  refine Same.peel ?_ h
  unfold loadIsolation
  repeat' first
    | split
    | simp [Sys.modes, Svc.fuses, Svc.images]
    | intro _
    | refine (forEach_same fun _ _ => ?_).2 ?_
    | (rename_i heq; have hs := congrArg Prod.snd heq; dsimp only at hs; subst hs)

@[simp ↓] theorem coldCh_same (h : m &&& 268436480 = 268436480) : Same m s (coldCh a0 t) ↔ Same m s t := by
  refine Same.peel ?_ h
  unfold coldCh
  repeat' first
    | split
    | simp [Sys.modes, Svc.fuses, Svc.images]
    | intro _
    | refine (forEach_same fun _ _ => ?_).2 ?_
    | (rename_i heq; have hs := congrArg Prod.snd heq; dsimp only at hs; subst hs)

@[simp ↓] theorem loadString_same (h : m &&& 2097152 = 2097152) : Same m s (loadString a0 a1 t) ↔ Same m s t := by
  refine Same.peel ?_ h
  unfold loadString
  repeat' first
    | split
    | simp [Sys.modes, Svc.fuses, Svc.images]
    | intro _
    | refine (forEach_same fun _ _ => ?_).2 ?_
    | (rename_i heq; have hs := congrArg Prod.snd heq; dsimp only at hs; subst hs)

@[simp ↓] theorem loadCoefs_same (h : m &&& 32768 = 32768) : Same m s (loadCoefs t) ↔ Same m s t := by
  refine Same.peel ?_ h
  unfold loadCoefs
  repeat' first
    | split
    | simp [Sys.modes, Svc.fuses, Svc.images]
    | intro _
    | refine (forEach_same fun _ _ => ?_).2 ?_
    | (rename_i heq; have hs := congrArg Prod.snd heq; dsimp only at hs; subst hs)

@[simp ↓] theorem settleNtc_same (h : m &&& 32768 = 32768) : Same m s (settleNtc t) ↔ Same m s t := by
  refine Same.peel ?_ h
  unfold settleNtc
  repeat' first
    | split
    | simp [Sys.modes, Svc.fuses, Svc.images]
    | intro _
    | refine (forEach_same fun _ _ => ?_).2 ?_
    | (rename_i heq; have hs := congrArg Prod.snd heq; dsimp only at hs; subst hs)

@[simp ↓] theorem loadTables_same (h : m &&& 98304 = 98304) : Same m s (loadTables t) ↔ Same m s t := by
  refine Same.peel ?_ h
  unfold loadTables
  repeat' first
    | split
    | simp [Sys.modes, Svc.fuses, Svc.images]
    | intro _
    | refine (forEach_same fun _ _ => ?_).2 ?_
    | (rename_i heq; have hs := congrArg Prod.snd heq; dsimp only at hs; subst hs)

@[simp ↓] theorem loadTimers_same (h : m &&& 524288 = 524288) : Same m s (loadTimers t) ↔ Same m s t := by
  refine Same.peel ?_ h
  unfold loadTimers
  repeat' first
    | split
    | simp [Sys.modes, Svc.fuses, Svc.images]
    | intro _
    | refine (forEach_same fun _ _ => ?_).2 ?_
    | (rename_i heq; have hs := congrArg Prod.snd heq; dsimp only at hs; subst hs)

@[simp ↓] theorem restartLines_same (h : m &&& 8388608 = 8388608) : Same m s (restartLines t) ↔ Same m s t := by
  refine Same.peel ?_ h
  unfold restartLines
  repeat' first
    | split
    | simp [Sys.modes, Svc.fuses, Svc.images]
    | intro _
    | refine (forEach_same fun _ _ => ?_).2 ?_
    | (rename_i heq; have hs := congrArg Prod.snd heq; dsimp only at hs; subst hs)

@[simp ↓] theorem loadMicrocode_same (h : m &&& 16779264 = 16779264) : Same m s (loadMicrocode a0 t) ↔ Same m s t := by
  refine Same.peel ?_ h
  unfold loadMicrocode
  repeat' first
    | split
    | simp [Sys.modes, Svc.fuses, Svc.images]
    | intro _
    | refine (forEach_same fun _ _ => ?_).2 ?_
    | (rename_i heq; have hs := congrArg Prod.snd heq; dsimp only at hs; subst hs)

@[simp ↓] theorem startPups_same (h : m &&& 4362084384 = 4362084384) : Same m s (startPups a0 t) ↔ Same m s t := by
  refine Same.peel ?_ h
  unfold startPups
  repeat' first
    | split
    | simp [Sys.modes, Svc.fuses, Svc.images]
    | intro _
    | refine (forEach_same fun _ _ => ?_).2 ?_
    | (rename_i heq; have hs := congrArg Prod.snd heq; dsimp only at hs; subst hs)

@[simp ↓] theorem storeEvents_same (h : m &&& 117441344 = 117441344) : Same m s (storeEvents t) ↔ Same m s t := by
  refine Same.peel ?_ h
  unfold storeEvents
  repeat' first
    | split
    | simp [Sys.modes, Svc.fuses, Svc.images]
    | intro _
    | refine (forEach_same fun _ _ => ?_).2 ?_
    | (rename_i heq; have hs := congrArg Prod.snd heq; dsimp only at hs; subst hs)

@[simp ↓] theorem startPower_same (h : m &&& 18874368 = 18874368) : Same m s (startPower t) ↔ Same m s t := by
  refine Same.peel ?_ h
  unfold startPower
  repeat' first
    | split
    | simp [Sys.modes, Svc.fuses, Svc.images]
    | intro _
    | refine (forEach_same fun _ _ => ?_).2 ?_
    | (rename_i heq; have hs := congrArg Prod.snd heq; dsimp only at hs; subst hs)

@[simp ↓] theorem startStore_same (h : m &&& 119548736 = 119548736) : Same m s (startStore a0 t) ↔ Same m s t := by
  refine Same.peel ?_ h
  unfold startStore
  repeat' first
    | split
    | simp [Sys.modes, Svc.fuses, Svc.images]
    | intro _
    | refine (forEach_same fun _ _ => ?_).2 ?_
    | (rename_i heq; have hs := congrArg Prod.snd heq; dsimp only at hs; subst hs)

@[simp ↓] theorem selfTest_same (h : m &&& 100675424 = 100675424) : Same m s (selfTest a0 t) ↔ Same m s t := by
  refine Same.peel ?_ h
  unfold selfTest
  repeat' first
    | split
    | simp [Sys.modes, Svc.fuses, Svc.images]
    | intro _
    | refine (forEach_same fun _ _ => ?_).2 ?_
    | (rename_i heq; have hs := congrArg Prod.snd heq; dsimp only at hs; subst hs)

@[simp ↓] theorem runTest_same (h : m &&& 100675424 = 100675424) : Same m s (runTest a0 t) ↔ Same m s t := by
  refine Same.peel ?_ h
  unfold runTest
  repeat' first
    | split
    | simp [Sys.modes, Svc.fuses, Svc.images]
    | intro _
    | refine (forEach_same fun _ _ => ?_).2 ?_
    | (rename_i heq; have hs := congrArg Prod.snd heq; dsimp only at hs; subst hs)

@[simp ↓] theorem drawTest_same (h : m &&& 4 = 4) : Same m s (drawTest t).2 ↔ Same m s t := by
  refine Same.peel ?_ h
  unfold drawTest
  repeat' first
    | split
    | simp [Sys.modes, Svc.fuses, Svc.images]
    | intro _
    | refine (forEach_same fun _ _ => ?_).2 ?_
    | (rename_i heq; have hs := congrArg Prod.snd heq; dsimp only at hs; subst hs)

@[simp ↓] theorem openTest_same (h : m &&& 100675428 = 100675428) : Same m s (openTest t) ↔ Same m s t := by
  refine Same.peel ?_ h
  unfold openTest
  repeat' first
    | split
    | simp [Sys.modes, Svc.fuses, Svc.images]
    | intro _
    | refine (forEach_same fun _ _ => ?_).2 ?_
    | (rename_i heq; have hs := congrArg Prod.snd heq; dsimp only at hs; subst hs)

@[simp ↓] theorem forceStored_same (h : m &&& 16 = 16) : Same m s (forceStored t) ↔ Same m s t := by
  refine Same.peel ?_ h
  unfold forceStored
  repeat' first
    | split
    | simp [Sys.modes, Svc.fuses, Svc.images]
    | intro _
    | refine (forEach_same fun _ _ => ?_).2 ?_
    | (rename_i heq; have hs := congrArg Prod.snd heq; dsimp only at hs; subst hs)

@[simp ↓] theorem resumePower_same (h : m &&& 17301504 = 17301504) : Same m s (resumePower t) ↔ Same m s t := by
  refine Same.peel ?_ h
  unfold resumePower
  repeat' first
    | split
    | simp [Sys.modes, Svc.fuses, Svc.images]
    | intro _
    | refine (forEach_same fun _ _ => ?_).2 ?_
    | (rename_i heq; have hs := congrArg Prod.snd heq; dsimp only at hs; subst hs)

@[simp ↓] theorem coldConfig_same (h : m &&& 346670712 = 346670712) : Same m s (coldConfig t) ↔ Same m s t := by
  refine Same.peel ?_ h
  unfold coldConfig
  repeat' first
    | split
    | simp [Sys.modes, Svc.fuses, Svc.images]
    | intro _
    | refine (forEach_same fun _ _ => ?_).2 ?_
    | (rename_i heq; have hs := congrArg Prod.snd heq; dsimp only at hs; subst hs)

@[simp ↓] theorem enterRecovery_same (h : m &&& 2147491936 = 2147491936) : Same m s (enterRecovery t) ↔ Same m s t := by
  refine Same.peel ?_ h
  unfold enterRecovery
  repeat' first
    | split
    | simp [Sys.modes, Svc.fuses, Svc.images]
    | intro _
    | refine (forEach_same fun _ _ => ?_).2 ?_
    | (rename_i heq; have hs := congrArg Prod.snd heq; dsimp only at hs; subst hs)

@[simp ↓] theorem coldStart_same (h : m &&& 6979190776 = 6979190776) : Same m s (coldStart a0 a1 t) ↔ Same m s t := by
  refine Same.peel ?_ h
  unfold coldStart
  extract_lets s1 y v1 p1 s2 v y2 s4
  have h1 : Same 6979190776 t s1 := by simp [s1]
  have h2 : Same 6979190776 t s2 := by simp [s2, h1]
  clear_value s2
  repeat' first
    | split
    | simp [h2, Svc.fuses, Svc.images, v, y2]

@[simp ↓] theorem restartCounts_same (h : m &&& 33792 = 33792) : Same m s (restartCounts t) ↔ Same m s t := by
  refine Same.peel ?_ h
  unfold restartCounts
  repeat' first
    | split
    | simp [Sys.modes, Svc.fuses, Svc.images]
    | intro _
    | refine (forEach_same fun _ _ => ?_).2 ?_
    | (rename_i heq; have hs := congrArg Prod.snd heq; dsimp only at hs; subst hs)

@[simp ↓] theorem rebuildGrants_same (h : m &&& 1048576 = 1048576) : Same m s (rebuildGrants t) ↔ Same m s t := by
  refine Same.peel ?_ h
  unfold rebuildGrants
  repeat' first
    | split
    | simp [Sys.modes, Svc.fuses, Svc.images]
    | intro _
    | refine (forEach_same fun _ _ => ?_).2 ?_
    | (rename_i heq; have hs := congrArg Prod.snd heq; dsimp only at hs; subst hs)

@[simp ↓] theorem dropRam_same (h : m &&& 125695936 = 125695936) : Same m s (dropRam t) ↔ Same m s t := by
  refine Same.peel ?_ h
  unfold dropRam
  repeat' first
    | split
    | simp [Sys.modes, Svc.fuses, Svc.images]
    | intro _
    | refine (forEach_same fun _ _ => ?_).2 ?_
    | (rename_i heq; have hs := congrArg Prod.snd heq; dsimp only at hs; subst hs)

@[simp ↓] theorem enterBoot_same (h : m &&& 2549217144 = 2549217144) : Same m s (enterBoot t) ↔ Same m s t := by
  refine Same.peel ?_ h
  unfold enterBoot
  repeat' first
    | split
    | simp [Sys.modes, Svc.fuses, Svc.images]
    | intro _
    | refine (forEach_same fun _ _ => ?_).2 ?_
    | (rename_i heq; have hs := congrArg Prod.snd heq; dsimp only at hs; subst hs)

@[simp ↓] theorem beginReloads_same (h : m &&& 67110912 = 67110912) : Same m s (beginReloads a0 t) ↔ Same m s t := by
  refine Same.peel ?_ h
  unfold beginReloads
  repeat' first
    | split
    | simp [Sys.modes, Svc.fuses, Svc.images]
    | intro _
    | refine (forEach_same fun _ _ => ?_).2 ?_
    | (rename_i heq; have hs := congrArg Prod.snd heq; dsimp only at hs; subst hs)

@[simp ↓] theorem isolateCh_same (h : m &&& 393221952 = 393221952) : Same m s (isolateCh a0 a1 t) ↔ Same m s t := by
  refine Same.peel ?_ h
  unfold isolateCh
  repeat' first
    | split
    | simp [Sys.modes, Svc.fuses, Svc.images]
    | intro _
    | refine (forEach_same fun _ _ => ?_).2 ?_
    | (rename_i heq; have hs := congrArg Prod.snd heq; dsimp only at hs; subst hs)

@[simp ↓] theorem isolateRecorded_same (h : m &&& 393221952 = 393221952) : Same m s (isolateRecorded t) ↔ Same m s t := by
  refine Same.peel ?_ h
  unfold isolateRecorded
  repeat' first
    | split
    | simp [Sys.modes, Svc.fuses, Svc.images]
    | intro _
    | refine (forEach_same fun _ _ => ?_).2 ?_
    | (rename_i heq; have hs := congrArg Prod.snd heq; dsimp only at hs; subst hs)

@[simp ↓] theorem warmConfig_same (h : m &&& 401733496 = 401733496) : Same m s (warmConfig t) ↔ Same m s t := by
  refine Same.peel ?_ h
  unfold warmConfig
  repeat' first
    | split
    | simp [Sys.modes, Svc.fuses, Svc.images]
    | intro _
    | refine (forEach_same fun _ _ => ?_).2 ?_
    | (rename_i heq; have hs := congrArg Prod.snd heq; dsimp only at hs; subst hs)

@[simp ↓] theorem stopMain_same (h : m &&& 2550003704 = 2550003704) : Same m s (stopMain a0 t) ↔ Same m s t := by
  refine Same.peel ?_ h
  unfold stopMain
  repeat' first
    | split
    | simp [Sys.modes, Svc.fuses, Svc.images]
    | intro _
    | refine (forEach_same fun _ _ => ?_).2 ?_
    | (rename_i heq; have hs := congrArg Prod.snd heq; dsimp only at hs; subst hs)

@[simp ↓] theorem startImage_same (h : m &&& 4696702840 = 4696702840) : Same m s (startImage a0 a1 a2 t) ↔ Same m s t := by
  refine Same.peel ?_ h
  unfold startImage
  repeat' first
    | split
    | simp [Sys.modes, Svc.fuses, Svc.images]
    | intro _
    | refine (forEach_same fun _ _ => ?_).2 ?_
    | (rename_i heq; have hs := congrArg Prod.snd heq; dsimp only at hs; subst hs)

@[simp ↓] theorem warmFrom_same (h : m &&& 6844973048 = 6844973048) : Same m s (warmFrom a0 a1 t) ↔ Same m s t := by
  refine Same.peel ?_ h
  unfold warmFrom
  repeat' first
    | split
    | simp [Sys.modes, Svc.fuses, Svc.images]
    | intro _
    | refine (forEach_same fun _ _ => ?_).2 ?_
    | (rename_i heq; have hs := congrArg Prod.snd heq; dsimp only at hs; subst hs)

@[simp ↓] theorem warmStart_same (h : m &&& 6844973048 = 6844973048) : Same m s (warmStart a0 t) ↔ Same m s t := by
  refine Same.peel ?_ h
  unfold warmStart
  repeat' first
    | split
    | simp [Sys.modes, Svc.fuses, Svc.images]
    | intro _
    | refine (forEach_same fun _ _ => ?_).2 ?_
    | (rename_i heq; have hs := congrArg Prod.snd heq; dsimp only at hs; subst hs)

end Sys2Proof.Machine
end

