-- ==== Sys2Proof/Laws/FrameUpdate0.lean ====
section
/-! SUPPORT. Frames of the operations of Machine/Update0.lean. -/

set_option Elab.async false
set_option linter.unusedTactic false
set_option linter.unreachableTactic false
set_option linter.unnecessarySeqFocus false
set_option linter.unusedSimpArgs false

namespace Sys2Proof.Machine

@[simp ↓] theorem confirmTrial_same (h : m &&& 620756992 = 620756992) : Same m s (confirmTrial t) ↔ Same m s t := by
  refine Same.peel ?_ h
  unfold confirmTrial
  extract_lets b k s1 n1 v1 s2 f1 v2 s3
  have h1 : Same 620756992 t s1 := by simp [s1]
  have h2 : Same 620756992 t s2 := by simp [s2, h1, Svc.fuses, Svc.images, v1]
  have h3 : Same 620756992 t s3 := by simp [s3, h2, Svc.images, v2]
  clear_value s1 s2 s3
  repeat' first
    | split
    | simp [h2, h3]
  refine (modBank_same (by decide) (Or.inr fun x => ?_)).2 h3
  split <;> rfl

@[simp ↓] theorem rollback_same (h : m &&& 6844973048 = 6844973048) : Same m s (rollback t) ↔ Same m s t := by
  refine Same.peel ?_ h
  unfold rollback
  repeat' first
    | split
    | simp [Sys.modes, Svc.fuses, Svc.images]
    | intro _
    | refine (forEach_same fun _ _ => ?_).2 ?_
    | (rename_i heq; have hs := congrArg Prod.snd heq; dsimp only at hs; subst hs)

@[simp ↓] theorem restartPup_same (h : m &&& 32 = 32) : Same m s (restartPup a0 t) ↔ Same m s t := by
  refine Same.peel ?_ h
  unfold restartPup
  repeat' first
    | split
    | simp [Sys.modes, Svc.fuses, Svc.images]
    | intro _
    | refine (forEach_same fun _ _ => ?_).2 ?_
    | (rename_i heq; have hs := congrArg Prod.snd heq; dsimp only at hs; subst hs)

@[simp ↓] theorem endOldSessions_same (h : m &&& 339040064 = 339040064) : Same m s (endOldSessions t) ↔ Same m s t := by
  refine Same.peel ?_ h
  unfold endOldSessions
  repeat' first
    | split
    | simp [Sys.modes, Svc.fuses, Svc.images]
    | intro _
    | refine (forEach_same fun _ _ => ?_).2 ?_
    | (rename_i heq; have hs := congrArg Prod.snd heq; dsimp only at hs; subst hs)

@[simp ↓] theorem leaveHandover_same (h : m &&& 2549217144 = 2549217144) : Same m s (leaveHandover t) ↔ Same m s t := by
  refine Same.peel ?_ h
  unfold leaveHandover
  repeat' first
    | split
    | simp [Sys.modes, Svc.fuses, Svc.images]
    | intro _
    | refine (forEach_same fun _ _ => ?_).2 ?_
    | (rename_i heq; have hs := congrArg Prod.snd heq; dsimp only at hs; subst hs)

@[simp ↓] theorem completeTakeover_same (h : m &&& 6844446584 = 6844446584) : Same m s (completeTakeover t) ↔ Same m s t := by
  refine Same.peel ?_ h
  unfold completeTakeover
  repeat' first
    | split
    | simp [Sys.modes, Svc.fuses, Svc.images]
    | intro _
    | refine (forEach_same fun _ _ => ?_).2 ?_
    | (rename_i heq; have hs := congrArg Prod.snd heq; dsimp only at hs; subst hs)

@[simp ↓] theorem abortTakeover_same (h : m &&& 2549217144 = 2549217144) : Same m s (abortTakeover a0 t) ↔ Same m s t := by
  refine Same.peel ?_ h
  unfold abortTakeover
  repeat' first
    | split
    | simp [Sys.modes, Svc.fuses, Svc.images]
    | intro _
    | refine (forEach_same fun _ _ => ?_).2 ?_
    | (rename_i heq; have hs := congrArg Prod.snd heq; dsimp only at hs; subst hs)

@[simp ↓] theorem loseMains_same (h : m &&& 2549217144 = 2549217144) : Same m s (loseMains t) ↔ Same m s t := by
  refine Same.peel ?_ h
  unfold loseMains
  repeat' first
    | split
    | simp [Sys.modes, Svc.fuses, Svc.images]
    | intro _
    | refine (forEach_same fun _ _ => ?_).2 ?_
    | (rename_i heq; have hs := congrArg Prod.snd heq; dsimp only at hs; subst hs)

@[simp ↓] theorem takeStrobe_same (h : m &&& 2549217144 = 2549217144) : Same m s (takeStrobe t) ↔ Same m s t := by
  refine Same.peel ?_ h
  unfold takeStrobe
  repeat' first
    | split
    | simp [Sys.modes, Svc.fuses, Svc.images]
    | intro _
    | refine (forEach_same fun _ _ => ?_).2 ?_
    | (rename_i heq; have hs := congrArg Prod.snd heq; dsimp only at hs; subst hs)

end Sys2Proof.Machine
end

