-- ==== Sys2Proof/Laws/FrameSupervision.lean ====
section
/-! SUPPORT. Frames of the operations of Machine/Supervision.lean. -/

set_option Elab.async false
set_option linter.unusedTactic false
set_option linter.unreachableTactic false
set_option linter.unnecessarySeqFocus false
set_option linter.unusedSimpArgs false

namespace Sys2Proof.Machine

@[simp ↓] theorem settleSimplex_same (h : m &&& 32 = 32) : Same m s (settleSimplex t) ↔ Same m s t := by
  refine Same.peel ?_ h
  unfold settleSimplex
  repeat' first
    | split
    | simp [Sys.modes, Svc.fuses, Svc.images]
    | intro _
    | refine (forEach_same fun _ _ => ?_).2 ?_
    | (rename_i heq; have hs := congrArg Prod.snd heq; dsimp only at hs; subst hs)

@[simp ↓] theorem failPup_same (h : m &&& 100664160 = 100664160) : Same m s (failPup a0 t) ↔ Same m s t := by
  refine Same.peel ?_ h
  unfold failPup
  repeat' first
    | split
    | simp [Sys.modes, Svc.fuses, Svc.images]
    | intro _
    | refine (forEach_same fun _ _ => ?_).2 ?_
    | (rename_i heq; have hs := congrArg Prod.snd heq; dsimp only at hs; subst hs)

@[simp ↓] theorem loseTag_same (h : m &&& 68245316 = 68245316) : Same m s (loseTag a0 t) ↔ Same m s t := by
  refine Same.peel ?_ h
  unfold loseTag
  repeat' first
    | split
    | simp [Sys.modes, Svc.fuses, Svc.images]
    | intro _
    | refine (forEach_same fun _ _ => ?_).2 ?_
    | (rename_i heq; have hs := congrArg Prod.snd heq; dsimp only at hs; subst hs)

@[simp ↓] theorem countTrialFailover_same (h : m &&& 6844973048 = 6844973048) : Same m s (countTrialFailover t) ↔ Same m s t := by
  refine Same.peel ?_ h
  unfold countTrialFailover
  repeat' first
    | split
    | simp [Sys.modes, Svc.fuses, Svc.images]
    | intro _
    | refine (forEach_same fun _ _ => ?_).2 ?_
    | (rename_i heq; have hs := congrArg Prod.snd heq; dsimp only at hs; subst hs)

@[simp ↓] theorem failover_same (h : m &&& 4396767076 = 4396767076) : Same m s (failover a0 t) ↔ Same m s t := by
  refine Same.peel ?_ h
  unfold failover
  repeat' first
    | split
    | simp [Sys.modes, Svc.fuses, Svc.images]
    | intro _
    | refine (forEach_same fun _ _ => ?_).2 ?_
    | (rename_i heq; have hs := congrArg Prod.snd heq; dsimp only at hs; subst hs)

@[simp ↓] theorem loseActive_same (h : m &&& 6844973052 = 6844973052) : Same m s (loseActive a0 t) ↔ Same m s t := by
  refine Same.peel ?_ h
  unfold loseActive
  repeat' first
    | split
    | simp [Sys.modes, Svc.fuses, Svc.images]
    | intro _
    | refine (forEach_same fun _ _ => ?_).2 ?_
    | (rename_i heq; have hs := congrArg Prod.snd heq; dsimp only at hs; subst hs)

@[simp ↓] theorem loseShadow_same (h : m &&& 2549479288 = 2549479288) : Same m s (loseShadow a0 t) ↔ Same m s t := by
  refine Same.peel ?_ h
  unfold loseShadow
  repeat' first
    | split
    | simp [Sys.modes, Svc.fuses, Svc.images]
    | intro _
    | refine (forEach_same fun _ _ => ?_).2 ?_
    | (rename_i heq; have hs := congrArg Prod.snd heq; dsimp only at hs; subst hs)

@[simp ↓] theorem pupFails_same (h : m &&& 6844973052 = 6844973052) : Same m s (pupFails a0 t) ↔ Same m s t := by
  refine Same.peel ?_ h
  unfold pupFails
  repeat' first
    | split
    | simp [Sys.modes, Svc.fuses, Svc.images]
    | intro _
    | refine (forEach_same fun _ _ => ?_).2 ?_
    | (rename_i heq; have hs := congrArg Prod.snd heq; dsimp only at hs; subst hs)

@[simp ↓] theorem restartDone_same (h : m &&& 67109728 = 67109728) : Same m s (restartDone a0 t) ↔ Same m s t := by
  refine Same.peel ?_ h
  unfold restartDone
  repeat' first
    | split
    | simp [Sys.modes, Svc.fuses, Svc.images]
    | intro _
    | refine (forEach_same fun _ _ => ?_).2 ?_
    | (rename_i heq; have hs := congrArg Prod.snd heq; dsimp only at hs; subst hs)

@[simp ↓] theorem takeBeat_same (h : m &&& 67117920 = 67117920) : Same m s (takeBeat a0 a1 t) ↔ Same m s t := by
  refine Same.peel ?_ h
  unfold takeBeat
  repeat' first
    | split
    | simp [Sys.modes, Svc.fuses, Svc.images]
    | intro _
    | refine (forEach_same fun _ _ => ?_).2 ?_
    | (rename_i heq; have hs := congrArg Prod.snd heq; dsimp only at hs; subst hs)

@[simp ↓] theorem windowWrites_same (h : m &&& 32 = 32) : Same m s (windowWrites a0 a1 t) ↔ Same m s t := by
  refine Same.peel ?_ h
  unfold windowWrites
  repeat' first
    | split
    | simp [Sys.modes, Svc.fuses, Svc.images]
    | intro _
    | refine (forEach_same fun _ _ => ?_).2 ?_
    | (rename_i heq; have hs := congrArg Prod.snd heq; dsimp only at hs; subst hs)

theorem execHeartbeat_ends (h : m &&& 6844973052 = 6844973052) : Ends m s (execHeartbeat a0 a1 a2 a3 s) := by
  refine Ends.mono ?_ h
  unfold execHeartbeat
  repeat' first
    | split
    | simp [Sys.modes, Svc.fuses, Svc.images]
    | intro _
    | refine (forEach_same fun _ _ => ?_).2 ?_
    | (rename_i heq; have hs := congrArg Prod.snd heq; dsimp only at hs; subst hs)

theorem execHeartbeatTimeout_ends (h : m &&& 6844973052 = 6844973052) : Ends m s (execHeartbeatTimeout a0 s) := by
  refine Ends.mono ?_ h
  unfold execHeartbeatTimeout
  repeat' first
    | split
    | simp [Sys.modes, Svc.fuses, Svc.images]
    | intro _
    | refine (forEach_same fun _ _ => ?_).2 ?_
    | (rename_i heq; have hs := congrArg Prod.snd heq; dsimp only at hs; subst hs)

theorem execPuppeteerRestartDone_ends (h : m &&& 67109728 = 67109728) : Ends m s (execPuppeteerRestartDone a0 s) := by
  refine Ends.mono ?_ h
  unfold execPuppeteerRestartDone
  repeat' first
    | split
    | simp [Sys.modes, Svc.fuses, Svc.images]
    | intro _
    | refine (forEach_same fun _ _ => ?_).2 ?_
    | (rename_i heq; have hs := congrArg Prod.snd heq; dsimp only at hs; subst hs)

theorem execSurrender_ends (h : m &&& 2549479288 = 2549479288) : Ends m s (execSurrender s) := by
  refine Ends.mono ?_ h
  unfold execSurrender
  repeat' first
    | split
    | simp [Sys.modes, Svc.fuses, Svc.images]
    | intro _
    | refine (forEach_same fun _ _ => ?_).2 ?_
    | (rename_i heq; have hs := congrArg Prod.snd heq; dsimp only at hs; subst hs)

theorem execBootWindowExpiry_ends (h : m &&& 2549479288 = 2549479288) : Ends m s (execBootWindowExpiry s) := by
  refine Ends.mono ?_ h
  unfold execBootWindowExpiry
  repeat' first
    | split
    | simp [Sys.modes, Svc.fuses, Svc.images]
    | intro _
    | refine (forEach_same fun _ _ => ?_).2 ?_
    | (rename_i heq; have hs := congrArg Prod.snd heq; dsimp only at hs; subst hs)

theorem execClkDisagree_ends (h : m &&& 2549479288 = 2549479288) : Ends m s (execClkDisagree a0 s) := by
  refine Ends.mono ?_ h
  unfold execClkDisagree
  repeat' first
    | split
    | simp [Sys.modes, Svc.fuses, Svc.images]
    | intro _
    | refine (forEach_same fun _ _ => ?_).2 ?_
    | (rename_i heq; have hs := congrArg Prod.snd heq; dsimp only at hs; subst hs)

theorem execCoreRail_ends (h : m &&& 2683697016 = 2683697016) : Ends m s (execCoreRail s) := by
  refine Ends.mono ?_ h
  unfold execCoreRail
  repeat' first
    | split
    | simp [Sys.modes, Svc.fuses, Svc.images]
    | intro _
    | refine (forEach_same fun _ _ => ?_).2 ?_
    | (rename_i heq; have hs := congrArg Prod.snd heq; dsimp only at hs; subst hs)

theorem execCoreRailInWindow_ends (h : m &&& 134225920 = 134225920) : Ends m s (execCoreRailInWindow s) := by
  refine Ends.mono ?_ h
  unfold execCoreRailInWindow
  repeat' first
    | split
    | simp [Sys.modes, Svc.fuses, Svc.images]
    | intro _
    | refine (forEach_same fun _ _ => ?_).2 ?_
    | (rename_i heq; have hs := congrArg Prod.snd heq; dsimp only at hs; subst hs)

theorem execMarSilent_ends (h : m &&& 2549479288 = 2549479288) : Ends m s (execMarSilent a0 s) := by
  refine Ends.mono ?_ h
  unfold execMarSilent
  repeat' first
    | split
    | simp [Sys.modes, Svc.fuses, Svc.images]
    | intro _
    | refine (forEach_same fun _ _ => ?_).2 ?_
    | (rename_i heq; have hs := congrArg Prod.snd heq; dsimp only at hs; subst hs)

theorem execKeepUvOpen_ends (h : m &&& 372250432 = 372250432) : Ends m s (execKeepUvOpen a0 s) := by
  refine Ends.mono ?_ h
  unfold execKeepUvOpen
  repeat' first
    | split
    | simp [Sys.modes, Svc.fuses, Svc.images]
    | intro _
    | refine (forEach_same fun _ _ => ?_).2 ?_
    | (rename_i heq; have hs := congrArg Prod.snd heq; dsimp only at hs; subst hs)

theorem execSafeOkSilent_ends (h : m &&& 109060928 = 109060928) : Ends m s (execSafeOkSilent s) := by
  refine Ends.mono ?_ h
  unfold execSafeOkSilent
  repeat' first
    | split
    | simp [Sys.modes, Svc.fuses, Svc.images]
    | intro _
    | refine (forEach_same fun _ _ => ?_).2 ?_
    | (rename_i heq; have hs := congrArg Prod.snd heq; dsimp only at hs; subst hs)

theorem execXinLost_ends (h : m &&& 2549479288 = 2549479288) : Ends m s (execXinLost s) := by
  refine Ends.mono ?_ h
  unfold execXinLost
  repeat' first
    | split
    | simp [Sys.modes, Svc.fuses, Svc.images]
    | intro _
    | refine (forEach_same fun _ _ => ?_).2 ?_
    | (rename_i heq; have hs := congrArg Prod.snd heq; dsimp only at hs; subst hs)

theorem execXinReturned_ends (h : m &&& 32 = 32) : Ends m s (execXinReturned s) := by
  refine Ends.mono ?_ h
  unfold execXinReturned
  repeat' first
    | split
    | simp [Sys.modes, Svc.fuses, Svc.images]
    | intro _
    | refine (forEach_same fun _ _ => ?_).2 ?_
    | (rename_i heq; have hs := congrArg Prod.snd heq; dsimp only at hs; subst hs)

theorem execEccSingle_ends (h : m &&& 32 = 32) : Ends m s (execEccSingle a0 s) := by
  refine Ends.mono ?_ h
  unfold execEccSingle
  repeat' first
    | split
    | simp [Sys.modes, Svc.fuses, Svc.images]
    | intro _
    | refine (forEach_same fun _ _ => ?_).2 ?_
    | (rename_i heq; have hs := congrArg Prod.snd heq; dsimp only at hs; subst hs)

@[simp ↓] theorem eccLocal_same (h : m &&& 6844973052 = 6844973052) : Same m s (eccLocal a0 t) ↔ Same m s t := by
  refine Same.peel ?_ h
  unfold eccLocal
  repeat' first
    | split
    | simp [Sys.modes, Svc.fuses, Svc.images]
    | intro _
    | refine (forEach_same fun _ _ => ?_).2 ?_
    | (rename_i heq; have hs := congrArg Prod.snd heq; dsimp only at hs; subst hs)

theorem execEccDouble_ends (h : m &&& 6844973052 = 6844973052) : Ends m s (execEccDouble a0 a1 a2 s) := by
  refine Ends.mono ?_ h
  unfold execEccDouble
  repeat' first
    | split
    | simp [Sys.modes, Svc.fuses, Svc.images]
    | intro _
    | refine (forEach_same fun _ _ => ?_).2 ?_
    | (rename_i heq; have hs := congrArg Prod.snd heq; dsimp only at hs; subst hs)

theorem execMicrocodeParity_ends (h : m &&& 100666176 = 100666176) : Ends m s (execMicrocodeParity a0 a1 s) := by
  refine Ends.mono ?_ h
  unfold execMicrocodeParity
  repeat' first
    | split
    | simp [Sys.modes, Svc.fuses, Svc.images]
    | intro _
    | refine (forEach_same fun _ _ => ?_).2 ?_
    | (rename_i heq; have hs := congrArg Prod.snd heq; dsimp only at hs; subst hs)

theorem execDrumParity_ends (h : m &&& 100680512 = 100680512) : Ends m s (execDrumParity a0 s) := by
  refine Ends.mono ?_ h
  unfold execDrumParity
  repeat' first
    | split
    | simp [Sys.modes, Svc.fuses, Svc.images]
    | intro _
    | refine (forEach_same fun _ _ => ?_).2 ?_
    | (rename_i heq; have hs := congrArg Prod.snd heq; dsimp only at hs; subst hs)

end Sys2Proof.Machine
end

