-- ==== Sys2Proof/Laws/FrameTimerOps.lean ====
section
/-! SUPPORT. Frames of the operations of Machine/TimerOps.lean. -/

set_option Elab.async false
set_option linter.unusedTactic false
set_option linter.unreachableTactic false
set_option linter.unnecessarySeqFocus false
set_option linter.unusedSimpArgs false

namespace Sys2Proof.Machine

@[simp ↓] theorem modTmr_same (h : m &&& 524288 = 524288) : Same m s (modTmr a0 a1 t) ↔ Same m s t := by
  refine Same.peel ?_ h
  unfold modTmr
  repeat' first
    | split
    | simp [Sys.modes, Svc.fuses, Svc.images]
    | intro _
    | refine (forEach_same fun _ _ => ?_).2 ?_
    | (rename_i heq; have hs := congrArg Prod.snd heq; dsimp only at hs; subst hs)

@[simp ↓] theorem putCount_same (h : m &&& 524288 = 524288) : Same m s (putCount a0 a1 t) ↔ Same m s t := by
  refine Same.peel ?_ h
  unfold putCount
  repeat' first
    | split
    | simp [Sys.modes, Svc.fuses, Svc.images]
    | intro _
    | refine (forEach_same fun _ _ => ?_).2 ?_
    | (rename_i heq; have hs := congrArg Prod.snd heq; dsimp only at hs; subst hs)

@[simp ↓] theorem tSync_same (h : m &&& 524288 = 524288) : Same m s (tSync a0 t) ↔ Same m s t := by
  refine Same.peel ?_ h
  unfold tSync
  repeat' first
    | split
    | simp [Sys.modes, Svc.fuses, Svc.images]
    | intro _
    | refine (forEach_same fun _ _ => ?_).2 ?_
    | (rename_i heq; have hs := congrArg Prod.snd heq; dsimp only at hs; subst hs)

@[simp ↓] theorem tOperate_same (h : m &&& 524288 = 524288) : Same m s (tOperate a0 a1 a2 t) ↔ Same m s t := by
  refine Same.peel ?_ h
  unfold tOperate
  repeat' first
    | split
    | simp [Sys.modes, Svc.fuses, Svc.images]
    | intro _
    | refine (forEach_same fun _ _ => ?_).2 ?_
    | (rename_i heq; have hs := congrArg Prod.snd heq; dsimp only at hs; subst hs)

@[simp ↓] theorem matchAct_same (h : m &&& 524288 = 524288) : Same m s (matchAct a0 t) ↔ Same m s t := by
  refine Same.peel ?_ h
  unfold matchAct
  repeat' first
    | split
    | simp [Sys.modes, Svc.fuses, Svc.images]
    | intro _
    | refine (forEach_same fun _ _ => ?_).2 ?_
    | (rename_i heq; have hs := congrArg Prod.snd heq; dsimp only at hs; subst hs)

@[simp ↓] theorem ovfAct_same (h : m &&& 524288 = 524288) : Same m s (ovfAct a0 t) ↔ Same m s t := by
  refine Same.peel ?_ h
  unfold ovfAct
  repeat' first
    | split
    | simp [Sys.modes, Svc.fuses, Svc.images]
    | intro _
    | refine (forEach_same fun _ _ => ?_).2 ?_
    | (rename_i heq; have hs := congrArg Prod.snd heq; dsimp only at hs; subst hs)

@[simp ↓] theorem bothActs_same (h : m &&& 524288 = 524288) : Same m s (bothActs a0 t) ↔ Same m s t := by
  refine Same.peel ?_ h
  unfold bothActs
  repeat' first
    | split
    | simp [Sys.modes, Svc.fuses, Svc.images]
    | intro _
    | refine (forEach_same fun _ _ => ?_).2 ?_
    | (rename_i heq; have hs := congrArg Prod.snd heq; dsimp only at hs; subst hs)

@[simp ↓] theorem takeNexts_same (h : m &&& 524288 = 524288) : Same m s (takeNexts a0 a1 t) ↔ Same m s t := by
  refine Same.peel ?_ h
  unfold takeNexts
  repeat' first
    | split
    | simp [Sys.modes, Svc.fuses, Svc.images]
    | intro _
    | refine (forEach_same fun _ _ => ?_).2 ?_
    | (rename_i heq; have hs := congrArg Prod.snd heq; dsimp only at hs; subst hs)

@[simp ↓] theorem doOvf_same (h : m &&& 524288 = 524288) : Same m s (doOvf a0 a1 t) ↔ Same m s t := by
  refine Same.peel ?_ h
  unfold doOvf
  repeat' first
    | split
    | simp [Sys.modes, Svc.fuses, Svc.images]
    | intro _
    | refine (forEach_same fun _ _ => ?_).2 ?_
    | (rename_i heq; have hs := congrArg Prod.snd heq; dsimp only at hs; subst hs)

@[simp ↓] theorem doMatch_same (h : m &&& 524288 = 524288) : Same m s (doMatch a0 a1 t) ↔ Same m s t := by
  refine Same.peel ?_ h
  unfold doMatch
  repeat' first
    | split
    | simp [Sys.modes, Svc.fuses, Svc.images]
    | intro _
    | refine (forEach_same fun _ _ => ?_).2 ?_
    | (rename_i heq; have hs := congrArg Prod.snd heq; dsimp only at hs; subst hs)

@[simp ↓] theorem edgeCount_same (h : m &&& 524288 = 524288) : Same m s (edgeCount a0 t) ↔ Same m s t := by
  refine Same.peel ?_ h
  unfold edgeCount
  repeat' first
    | split
    | simp [Sys.modes, Svc.fuses, Svc.images]
    | intro _
    | refine (forEach_same fun _ _ => ?_).2 ?_
    | (rename_i heq; have hs := congrArg Prod.snd heq; dsimp only at hs; subst hs)

@[simp ↓] theorem startBy_same (h : m &&& 524288 = 524288) : Same m s (startBy a0 a1 t) ↔ Same m s t := by
  refine Same.peel ?_ h
  unfold startBy
  repeat' first
    | split
    | simp [Sys.modes, Svc.fuses, Svc.images]
    | intro _
    | refine (forEach_same fun _ _ => ?_).2 ?_
    | (rename_i heq; have hs := congrArg Prod.snd heq; dsimp only at hs; subst hs)

@[simp ↓] theorem setNote_same (h : m &&& 540672 = 540672) : Same m s (setNote a0 t) ↔ Same m s t := by
  refine Same.peel ?_ h
  unfold setNote
  repeat' first
    | split
    | simp [Sys.modes, Svc.fuses, Svc.images]
    | intro _
    | refine (forEach_same fun _ _ => ?_).2 ?_
    | (rename_i heq; have hs := congrArg Prod.snd heq; dsimp only at hs; subst hs)

@[simp ↓] theorem clearNotes_same (h : m &&& 540672 = 540672) : Same m s (clearNotes a0 t) ↔ Same m s t := by
  refine Same.peel ?_ h
  unfold clearNotes
  repeat' first
    | split
    | simp [Sys.modes, Svc.fuses, Svc.images]
    | intro _
    | refine (forEach_same fun _ _ => ?_).2 ?_
    | (rename_i heq; have hs := congrArg Prod.snd heq; dsimp only at hs; subst hs)

@[simp ↓] theorem writeCfg_same (h : m &&& 524288 = 524288) : Same m s (writeCfg a0 a1 t) ↔ Same m s t := by
  refine Same.peel ?_ h
  unfold writeCfg
  repeat' first
    | split
    | simp [Sys.modes, Svc.fuses, Svc.images]
    | intro _
    | refine (forEach_same fun _ _ => ?_).2 ?_
    | (rename_i heq; have hs := congrArg Prod.snd heq; dsimp only at hs; subst hs)

@[simp ↓] theorem writePeriod_same (h : m &&& 524288 = 524288) : Same m s (writePeriod a0 a1 t) ↔ Same m s t := by
  refine Same.peel ?_ h
  unfold writePeriod
  repeat' first
    | split
    | simp [Sys.modes, Svc.fuses, Svc.images]
    | intro _
    | refine (forEach_same fun _ _ => ?_).2 ?_
    | (rename_i heq; have hs := congrArg Prod.snd heq; dsimp only at hs; subst hs)

@[simp ↓] theorem writeCmp_same (h : m &&& 524288 = 524288) : Same m s (writeCmp a0 a1 t) ↔ Same m s t := by
  refine Same.peel ?_ h
  unfold writeCmp
  repeat' first
    | split
    | simp [Sys.modes, Svc.fuses, Svc.images]
    | intro _
    | refine (forEach_same fun _ _ => ?_).2 ?_
    | (rename_i heq; have hs := congrArg Prod.snd heq; dsimp only at hs; subst hs)

@[simp ↓] theorem writeCnt_same (h : m &&& 524288 = 524288) : Same m s (writeCnt a0 a1 t) ↔ Same m s t := by
  refine Same.peel ?_ h
  unfold writeCnt
  repeat' first
    | split
    | simp [Sys.modes, Svc.fuses, Svc.images]
    | intro _
    | refine (forEach_same fun _ _ => ?_).2 ?_
    | (rename_i heq; have hs := congrArg Prod.snd heq; dsimp only at hs; subst hs)

@[simp ↓] theorem writeCtrl_same (h : m &&& 524288 = 524288) : Same m s (writeCtrl a0 a1 t) ↔ Same m s t := by
  refine Same.peel ?_ h
  unfold writeCtrl
  repeat' first
    | split
    | simp [Sys.modes, Svc.fuses, Svc.images]
    | intro _
    | refine (forEach_same fun _ _ => ?_).2 ?_
    | (rename_i heq; have hs := congrArg Prod.snd heq; dsimp only at hs; subst hs)

@[simp ↓] theorem writeStat_same (h : m &&& 524288 = 524288) : Same m s (writeStat a0 a1 t) ↔ Same m s t := by
  refine Same.peel ?_ h
  unfold writeStat
  repeat' first
    | split
    | simp [Sys.modes, Svc.fuses, Svc.images]
    | intro _
    | refine (forEach_same fun _ _ => ?_).2 ?_
    | (rename_i heq; have hs := congrArg Prod.snd heq; dsimp only at hs; subst hs)

@[simp ↓] theorem readHalf_same (h : m &&& 524288 = 524288) : Same m s (readHalf a0 a1 a2 t).2 ↔ Same m s t := by
  refine Same.peel ?_ h
  unfold readHalf
  repeat' first
    | split
    | simp [Sys.modes, Svc.fuses, Svc.images]
    | intro _
    | refine (forEach_same fun _ _ => ?_).2 ?_
    | (rename_i heq; have hs := congrArg Prod.snd heq; dsimp only at hs; subst hs)

@[simp ↓] theorem readCnt_same (h : m &&& 524288 = 524288) : Same m s (readCnt a0 a1 t).2 ↔ Same m s t := by
  refine Same.peel ?_ h
  unfold readCnt
  repeat' first
    | split
    | simp [Sys.modes, Svc.fuses, Svc.images]
    | intro _
    | refine (forEach_same fun _ _ => ?_).2 ?_
    | (rename_i heq; have hs := congrArg Prod.snd heq; dsimp only at hs; subst hs)

@[simp ↓] theorem readCap_same (h : m &&& 524288 = 524288) : Same m s (readCap a0 a1 t).2 ↔ Same m s t := by
  refine Same.peel ?_ h
  have e : Same 524288 t (readHalf a0 a1 true t).2 := by simp
  have q : (readCap a0 a1 t).2 = (readHalf a0 a1 true t).2 ∨
      (readCap a0 a1 t).2 = modTmr a1 (fun x => { x with new := false }) (readHalf a0 a1 true t).2 := by
    unfold readCap
    split
    · rename_i v w r
      rw [r]
      split
      · exact Or.inr rfl
      · exact Or.inl rfl
  rcases q with q | q <;> rw [q] <;> simp [e]

@[simp ↓] theorem freezeTimers_same (h : m &&& 524288 = 524288) : Same m s (freezeTimers a0 t) ↔ Same m s t := by
  refine Same.peel ?_ h
  unfold freezeTimers
  repeat' first
    | split
    | simp [Sys.modes, Svc.fuses, Svc.images]
    | intro _
    | refine (forEach_same fun _ _ => ?_).2 ?_
    | (rename_i heq; have hs := congrArg Prod.snd heq; dsimp only at hs; subst hs)

end Sys2Proof.Machine
end

