-- ==== Sys2Proof/Laws/FrameConvOps.lean ====
section
/-! SUPPORT. Frames of the operations of Machine/ConvOps.lean. -/

set_option Elab.async false
set_option linter.unusedTactic false
set_option linter.unreachableTactic false
set_option linter.unnecessarySeqFocus false
set_option linter.unusedSimpArgs false

namespace Sys2Proof.Machine

@[simp ↓] theorem slotResult_same (h : m &&& 65536 = 65536) : Same m s (slotResult a0 a1 t) ↔ Same m s t := by
  refine Same.peel ?_ h
  unfold slotResult
  repeat' first
    | split
    | simp [Sys.modes, Svc.fuses, Svc.images]
    | intro _
    | refine (forEach_same fun _ _ => ?_).2 ?_
    | (rename_i heq; have hs := congrArg Prod.snd heq; dsimp only at hs; subst hs)

@[simp ↓] theorem clearItems_same (h : m &&& 65536 = 65536) : Same m s (clearItems a0 a1 a2 t) ↔ Same m s t := by
  refine Same.peel ?_ h
  unfold clearItems
  repeat' first
    | split
    | simp [Sys.modes, Svc.fuses, Svc.images]
    | intro _
    | refine (forEach_same fun _ _ => ?_).2 ?_
    | (rename_i heq; have hs := congrArg Prod.snd heq; dsimp only at hs; subst hs)

@[simp ↓] theorem trkResult_same (h : m &&& 65536 = 65536) : Same m s (trkResult a0 a1 t) ↔ Same m s t := by
  refine Same.peel ?_ h
  unfold trkResult
  repeat' first
    | split
    | simp [Sys.modes, Svc.fuses, Svc.images]
    | intro _
    | refine (forEach_same fun _ _ => ?_).2 ?_
    | (rename_i heq; have hs := congrArg Prod.snd heq; dsimp only at hs; subst hs)

@[simp ↓] theorem closeBank_same (h : m &&& 65536 = 65536) : Same m s (closeBank a0 t) ↔ Same m s t := by
  refine Same.peel ?_ h
  unfold closeBank
  repeat' first
    | split
    | simp [Sys.modes, Svc.fuses, Svc.images]
    | intro _
    | refine (forEach_same fun _ _ => ?_).2 ?_
    | (rename_i heq; have hs := congrArg Prod.snd heq; dsimp only at hs; subst hs)

@[simp ↓] theorem releaseBank_same (h : m &&& 65536 = 65536) : Same m s (releaseBank a0 t) ↔ Same m s t := by
  refine Same.peel ?_ h
  unfold releaseBank
  repeat' first
    | split
    | simp [Sys.modes, Svc.fuses, Svc.images]
    | intro _
    | refine (forEach_same fun _ _ => ?_).2 ?_
    | (rename_i heq; have hs := congrArg Prod.snd heq; dsimp only at hs; subst hs)

@[simp ↓] theorem deliver_same (h : m &&& 65536 = 65536) : Same m s (deliver a0 a1 t) ↔ Same m s t := by
  refine Same.peel ?_ h
  unfold deliver
  repeat' first
    | split
    | simp [Sys.modes, Svc.fuses, Svc.images]
    | intro _
    | refine (forEach_same fun _ _ => ?_).2 ?_
    | (rename_i heq; have hs := congrArg Prod.snd heq; dsimp only at hs; subst hs)

@[simp ↓] theorem modSeq_same (h : m &&& 32768 = 32768) : Same m s (modSeq a0 a1 t) ↔ Same m s t := by
  refine Same.peel ?_ h
  unfold modSeq
  repeat' first
    | split
    | simp [Sys.modes, Svc.fuses, Svc.images]
    | intro _
    | refine (forEach_same fun _ _ => ?_).2 ?_
    | (rename_i heq; have hs := congrArg Prod.snd heq; dsimp only at hs; subst hs)

@[simp ↓] theorem requestStart_same (h : m &&& 32768 = 32768) : Same m s (requestStart a0 a1 t) ↔ Same m s t := by
  refine Same.peel ?_ h
  unfold requestStart
  repeat' first
    | split
    | simp [Sys.modes, Svc.fuses, Svc.images]
    | intro _
    | refine (forEach_same fun _ _ => ?_).2 ?_
    | (rename_i heq; have hs := congrArg Prod.snd heq; dsimp only at hs; subst hs)

@[simp ↓] theorem windowEnd_same (h : m &&& 98304 = 98304) : Same m s (windowEnd a0 a1 t) ↔ Same m s t := by
  refine Same.peel ?_ h
  unfold windowEnd
  repeat' first
    | split
    | simp [Sys.modes, Svc.fuses, Svc.images]
    | intro _
    | refine (forEach_same fun _ _ => ?_).2 ?_
    | (rename_i heq; have hs := congrArg Prod.snd heq; dsimp only at hs; subst hs)

@[simp ↓] theorem takeSample_same (h : m &&& 98304 = 98304) : Same m s (takeSample a0 a1 t) ↔ Same m s t := by
  refine Same.peel ?_ h
  unfold takeSample
  repeat' first
    | split
    | simp [Sys.modes, Svc.fuses, Svc.images]
    | intro _
    | refine (forEach_same fun _ _ => ?_).2 ?_
    | (rename_i heq; have hs := congrArg Prod.snd heq; dsimp only at hs; subst hs)

end Sys2Proof.Machine
end

