-- ==== Sys2Proof/Laws/FrameLineOps.lean ====
section
/-! SUPPORT. Frames of the operations of Machine/LineOps.lean. -/

set_option Elab.async false
set_option linter.unusedTactic false
set_option linter.unreachableTactic false
set_option linter.unnecessarySeqFocus false
set_option linter.unusedSimpArgs false

namespace Sys2Proof.Machine

@[simp ↓] theorem testSwitch_same (h : m &&& 372250432 = 372250432) : Same m s (testSwitch a0 t) ↔ Same m s t := by
  refine Same.peel ?_ h
  unfold testSwitch
  repeat' first
    | split
    | simp [Sys.modes, Svc.fuses, Svc.images]
    | intro _
    | refine (forEach_same fun _ _ => ?_).2 ?_
    | (rename_i heq; have hs := congrArg Prod.snd heq; dsimp only at hs; subst hs)

@[simp ↓] theorem rescueEdge_same (h : m &&& 372250432 = 372250432) : Same m s (rescueEdge a0 t) ↔ Same m s t := by
  refine Same.peel ?_ h
  unfold rescueEdge
  repeat' first
    | split
    | simp [Sys.modes, Svc.fuses, Svc.images]
    | intro _
    | refine (forEach_same fun _ _ => ?_).2 ?_
    | (rename_i heq; have hs := congrArg Prod.snd heq; dsimp only at hs; subst hs)

@[simp ↓] theorem emergencyStart_same (h : m &&& 393221952 = 393221952) : Same m s (emergencyStart t) ↔ Same m s t := by
  refine Same.peel ?_ h
  unfold emergencyStart
  repeat' first
    | split
    | simp [Sys.modes, Svc.fuses, Svc.images]
    | intro _
    | refine (forEach_same fun _ _ => ?_).2 ?_
    | (rename_i heq; have hs := congrArg Prod.snd heq; dsimp only at hs; subst hs)

@[simp ↓] theorem lineEdge_same (h : m &&& 401610560 = 401610560) : Same m s (lineEdge a0 a1 t) ↔ Same m s t := by
  refine Same.peel ?_ h
  unfold lineEdge
  repeat' first
    | split
    | simp [Sys.modes, Svc.fuses, Svc.images]
    | intro _
    | refine (forEach_same fun _ _ => ?_).2 ?_
    | (rename_i heq; have hs := congrArg Prod.snd heq; dsimp only at hs; subst hs)

@[simp ↓] theorem settleExt_same (h : m &&& 100665152 = 100665152) : Same m s (settleExt t) ↔ Same m s t := by
  refine Same.peel ?_ h
  unfold settleExt
  repeat' first
    | split
    | simp [Sys.modes, Svc.fuses, Svc.images]
    | intro _
    | refine (forEach_same fun _ _ => ?_).2 ?_
    | (rename_i heq; have hs := congrArg Prod.snd heq; dsimp only at hs; subst hs)

@[simp ↓] theorem declareStuck_same (h : m &&& 401610560 = 401610560) : Same m s (declareStuck a0 t) ↔ Same m s t := by
  refine Same.peel ?_ h
  unfold declareStuck
  repeat' first
    | split
    | simp [Sys.modes, Svc.fuses, Svc.images]
    | intro _
    | refine (forEach_same fun _ _ => ?_).2 ?_
    | (rename_i heq; have hs := congrArg Prod.snd heq; dsimp only at hs; subst hs)

@[simp ↓] theorem endStuck_same (h : m &&& 401610560 = 401610560) : Same m s (endStuck a0 t) ↔ Same m s t := by
  refine Same.peel ?_ h
  unfold endStuck
  repeat' first
    | split
    | simp [Sys.modes, Svc.fuses, Svc.images]
    | intro _
    | refine (forEach_same fun _ _ => ?_).2 ?_
    | (rename_i heq; have hs := congrArg Prod.snd heq; dsimp only at hs; subst hs)

@[simp ↓] theorem stuckRule_same (h : m &&& 401610560 = 401610560) : Same m s (stuckRule a0 t) ↔ Same m s t := by
  refine Same.peel ?_ h
  unfold stuckRule
  repeat' first
    | split
    | simp [Sys.modes, Svc.fuses, Svc.images]
    | intro _
    | refine (forEach_same fun _ _ => ?_).2 ?_
    | (rename_i heq; have hs := congrArg Prod.snd heq; dsimp only at hs; subst hs)

@[simp ↓] theorem lineAssigned_same (h : m &&& 401610560 = 401610560) : Same m s (lineAssigned a0 a1 a2 t) ↔ Same m s t := by
  refine Same.peel ?_ h
  unfold lineAssigned
  repeat' first
    | split
    | simp [Sys.modes, Svc.fuses, Svc.images]
    | intro _
    | refine (forEach_same fun _ _ => ?_).2 ?_
    | (rename_i heq; have hs := congrArg Prod.snd heq; dsimp only at hs; subst hs)

end Sys2Proof.Machine
end

