-- ==== Sys2Proof/Laws/FrameParamRead.lean ====
section
/-! SUPPORT. Frames of the operations of Machine/ParamRead.lean. -/

set_option Elab.async false
set_option linter.unusedTactic false
set_option linter.unreachableTactic false
set_option linter.unnecessarySeqFocus false
set_option linter.unusedSimpArgs false

namespace Sys2Proof.Machine

@[simp ↓] theorem readParam_same (h : m &&& 109577024 = 109577024) : Same m s (readParam a0 a1 t).2 ↔ Same m s t := by
  refine Same.peel ?_ h
  unfold readParam
  repeat' first
    | split
    | simp [Sys.modes, Svc.fuses, Svc.images]
    | intro _
    | refine (forEach_same fun _ _ => ?_).2 ?_
    | (rename_i heq; have hs := congrArg Prod.snd heq; dsimp only at hs; subst hs)

@[simp ↓] theorem readItem_same (h : m &&& 109577024 = 109577024) : Same m s (readItem a0 a1 t).2.2 ↔ Same m s t := by
  refine Same.peel ?_ h
  unfold readItem
  repeat' first
    | split
    | simp [Sys.modes, Svc.fuses, Svc.images]
    | intro _
    | refine (forEach_same fun _ _ => ?_).2 ?_
    | (rename_i heq; have hs := congrArg Prod.snd heq; dsimp only at hs; subst hs)

@[simp ↓] theorem readItems_same (h : m &&& 109577024 = 109577024) : Same m s (readItems a0 a1 t).2.2 ↔ Same m s t := by
  refine Same.peel ?_ h
  induction a1 generalizing t with
  | nil => simp [readItems]
  | cons d l ih =>
    have ih' : ∀ v w : State, Same 109577024 v (readItems a0 l w).2.2 ↔ Same 109577024 v w :=
      fun _ _ => Same.peel ih (Nat.and_self _)
    simp [readItems, ih']

end Sys2Proof.Machine
end

