-- ==== Sys2Proof/Laws/FrameActions.lean ====
section
/-! SUPPORT. Frames of the operations of Machine/Actions.lean. -/

set_option Elab.async false
set_option linter.unusedTactic false
set_option linter.unreachableTactic false
set_option linter.unnecessarySeqFocus false
set_option linter.unusedSimpArgs false

namespace Sys2Proof.Machine

@[simp ↓] theorem commitSheet_same (h : m &&& 100673344 = 100673344) : Same m s (commitSheet a0 t) ↔ Same m s t := by
  refine Same.peel ?_ h
  unfold commitSheet
  repeat' first
    | split
    | simp [Sys.modes, Svc.fuses, Svc.images]
    | intro _
    | refine (forEach_same fun _ _ => ?_).2 ?_
    | (rename_i heq; have hs := congrArg Prod.snd heq; dsimp only at hs; subst hs)

@[simp ↓] theorem calStore_same (h : m &&& 16809984 = 16809984) : Same m s (calStore a0 a1 t) ↔ Same m s t := by
  refine Same.peel ?_ h
  unfold calStore
  repeat' first
    | split
    | simp [Sys.modes, Svc.fuses, Svc.images]
    | intro _
    | refine (forEach_same fun _ _ => ?_).2 ?_
    | (rename_i heq; have hs := congrArg Prod.snd heq; dsimp only at hs; subst hs)

@[simp ↓] theorem calComputeOp_same (h : m &&& 16809984 = 16809984) : Same m s (calComputeOp a0 t) ↔ Same m s t := by
  refine Same.peel ?_ h
  unfold calComputeOp
  repeat' first
    | split
    | simp [Sys.modes, Svc.fuses, Svc.images]
    | intro _
    | refine (forEach_same fun _ _ => ?_).2 ?_
    | (rename_i heq; have hs := congrArg Prod.snd heq; dsimp only at hs; subst hs)

@[simp ↓] theorem calCommand_same (h : m &&& 16809984 = 16809984) : Same m s (calCommand a0 t) ↔ Same m s t := by
  refine Same.peel ?_ h
  unfold calCommand
  repeat' first
    | split
    | simp [Sys.modes, Svc.fuses, Svc.images]
    | intro _
    | refine (forEach_same fun _ _ => ?_).2 ?_
    | (rename_i heq; have hs := congrArg Prod.snd heq; dsimp only at hs; subst hs)

@[simp ↓] theorem coefAtBoundary_same (h : m &&& 32768 = 32768) : Same m s (coefAtBoundary a0 a1 t) ↔ Same m s t := by
  refine Same.peel ?_ h
  unfold coefAtBoundary
  repeat' first
    | split
    | simp [Sys.modes, Svc.fuses, Svc.images]
    | intro _
    | refine (forEach_same fun _ _ => ?_).2 ?_
    | (rename_i heq; have hs := congrArg Prod.snd heq; dsimp only at hs; subst hs)

@[simp ↓] theorem calDirect_same (h : m &&& 16809984 = 16809984) : Same m s (calDirect a0 a1 t) ↔ Same m s t := by
  refine Same.peel ?_ h
  unfold calDirect
  repeat' first
    | split
    | simp [Sys.modes, Svc.fuses, Svc.images]
    | intro _
    | refine (forEach_same fun _ _ => ?_).2 ?_
    | (rename_i heq; have hs := congrArg Prod.snd heq; dsimp only at hs; subst hs)

@[simp ↓] theorem calStoreEnd_same (h : m &&& 32768 = 32768) : Same m s (calStoreEnd a0 t) ↔ Same m s t := by
  refine Same.peel ?_ h
  unfold calStoreEnd
  repeat' first
    | split
    | simp [Sys.modes, Svc.fuses, Svc.images]
    | intro _
    | refine (forEach_same fun _ _ => ?_).2 ?_
    | (rename_i heq; have hs := congrArg Prod.snd heq; dsimp only at hs; subst hs)

@[simp ↓] theorem accClearOp_same (h : m &&& 65536 = 65536) : Same m s (accClearOp a0 t) ↔ Same m s t := by
  refine Same.peel ?_ h
  unfold accClearOp
  repeat' first
    | split
    | simp [Sys.modes, Svc.fuses, Svc.images]
    | intro _
    | refine (forEach_same fun _ _ => ?_).2 ?_
    | (rename_i heq; have hs := congrArg Prod.snd heq; dsimp only at hs; subst hs)

@[simp ↓] theorem trkRelease_same (h : m &&& 65536 = 65536) : Same m s (trkRelease a0 t) ↔ Same m s t := by
  refine Same.peel ?_ h
  unfold trkRelease
  repeat' first
    | split
    | simp [Sys.modes, Svc.fuses, Svc.images]
    | intro _
    | refine (forEach_same fun _ _ => ?_).2 ?_
    | (rename_i heq; have hs := congrArg Prod.snd heq; dsimp only at hs; subst hs)

@[simp ↓] theorem cnvStartOp_same (h : m &&& 32768 = 32768) : Same m s (cnvStartOp a0 t) ↔ Same m s t := by
  refine Same.peel ?_ h
  unfold cnvStartOp
  repeat' first
    | split
    | simp [Sys.modes, Svc.fuses, Svc.images]
    | intro _
    | refine (forEach_same fun _ _ => ?_).2 ?_
    | (rename_i heq; have hs := congrArg Prod.snd heq; dsimp only at hs; subst hs)

@[simp ↓] theorem ktSettle_same (h : m &&& 524288 = 524288) : Same m s (ktSettle a0 t) ↔ Same m s t := by
  refine Same.peel ?_ h
  unfold ktSettle
  repeat' first
    | split
    | simp [Sys.modes, Svc.fuses, Svc.images]
    | intro _
    | refine (forEach_same fun _ _ => ?_).2 ?_
    | (rename_i heq; have hs := congrArg Prod.snd heq; dsimp only at hs; subst hs)

@[simp ↓] theorem ktSet_same (h : m &&& 524288 = 524288) : Same m s (ktSet a0 a1 t) ↔ Same m s t := by
  refine Same.peel ?_ h
  unfold ktSet
  repeat' first
    | split
    | simp [Sys.modes, Svc.fuses, Svc.images]
    | intro _
    | refine (forEach_same fun _ _ => ?_).2 ?_
    | (rename_i heq; have hs := congrArg Prod.snd heq; dsimp only at hs; subst hs)

@[simp ↓] theorem capacityReset_same (h : m &&& 18874368 = 18874368) : Same m s (capacityReset a0 t) ↔ Same m s t := by
  refine Same.peel ?_ h
  unfold capacityReset
  repeat' first
    | split
    | simp [Sys.modes, Svc.fuses, Svc.images]
    | intro _
    | refine (forEach_same fun _ _ => ?_).2 ?_
    | (rename_i heq; have hs := congrArg Prod.snd heq; dsimp only at hs; subst hs)

@[simp ↓] theorem chemWritten_same (h : m &&& 2097152 = 2097152) : Same m s (chemWritten a0 a1 t) ↔ Same m s t := by
  refine Same.peel ?_ h
  unfold chemWritten
  repeat' first
    | split
    | simp [Sys.modes, Svc.fuses, Svc.images]
    | intro _
    | refine (forEach_same fun _ _ => ?_).2 ?_
    | (rename_i heq; have hs := congrArg Prod.snd heq; dsimp only at hs; subst hs)

@[simp ↓] theorem auditSelect_same (h : m &&& 262144 = 262144) : Same m s (auditSelect a0 t) ↔ Same m s t := by
  refine Same.peel ?_ h
  unfold auditSelect
  repeat' first
    | split
    | simp [Sys.modes, Svc.fuses, Svc.images]
    | intro _
    | refine (forEach_same fun _ _ => ?_).2 ?_
    | (rename_i heq; have hs := congrArg Prod.snd heq; dsimp only at hs; subst hs)

@[simp ↓] theorem putCursor_same (h : m &&& 512 = 512) : Same m s (putCursor a0 a1 t) ↔ Same m s t := by
  refine Same.peel ?_ h
  unfold putCursor
  repeat' first
    | split
    | simp [Sys.modes, Svc.fuses, Svc.images]
    | intro _
    | refine (forEach_same fun _ _ => ?_).2 ?_
    | (rename_i heq; have hs := congrArg Prod.snd heq; dsimp only at hs; subst hs)

@[simp ↓] theorem fileTakeover_same (h : m &&& 2549217144 = 2549217144) : Same m s (fileTakeover a0 t) ↔ Same m s t := by
  refine Same.peel ?_ h
  unfold fileTakeover
  repeat' first
    | split
    | simp [Sys.modes, Svc.fuses, Svc.images]
    | intro _
    | refine (forEach_same fun _ _ => ?_).2 ?_
    | (rename_i heq; have hs := congrArg Prod.snd heq; dsimp only at hs; subst hs)

@[simp ↓] theorem updConfirmOp_same (h : m &&& 620756992 = 620756992) : Same m s (updConfirmOp t) ↔ Same m s t := by
  refine Same.peel ?_ h
  unfold updConfirmOp
  repeat' first
    | split
    | simp [Sys.modes, Svc.fuses, Svc.images]
    | intro _
    | refine (forEach_same fun _ _ => ?_).2 ?_
    | (rename_i heq; have hs := congrArg Prod.snd heq; dsimp only at hs; subst hs)

end Sys2Proof.Machine
end

