-- ==== Sys2Proof/Laws/FrameParamWrite.lean ====
section
/-! SUPPORT. Frames of the operations of Machine/ParamWrite.lean. -/

set_option Elab.async false
set_option linter.unusedTactic false
set_option linter.unreachableTactic false
set_option linter.unnecessarySeqFocus false
set_option linter.unusedSimpArgs false

namespace Sys2Proof.Machine

@[simp ↓] theorem putItem_same (h : m &&& 16809992 = 16809992) : Same m s (putItem a0 t) ↔ Same m s t := by
  refine Same.peel ?_ h
  unfold putItem
  repeat' first
    | split
    | simp [Sys.modes, Svc.fuses, Svc.images]
    | intro _
    | refine (forEach_same fun _ _ => ?_).2 ?_
    | (rename_i heq; have hs := congrArg Prod.snd heq; dsimp only at hs; subst hs)

@[simp ↓] theorem forceItem_same (h : m &&& 393344848 = 393344848) : Same m s (forceItem a0 t) ↔ Same m s t := by
  refine Same.peel ?_ h
  unfold forceItem
  repeat' first
    | split
    | simp [Sys.modes, Svc.fuses, Svc.images]
    | intro _
    | refine (forEach_same fun _ _ => ?_).2 ?_
    | (rename_i heq; have hs := congrArg Prod.snd heq; dsimp only at hs; subst hs)

@[simp ↓] theorem fldWritten_same (h : m &&& 401610560 = 401610560) : Same m s (fldWritten a0 a1 t) ↔ Same m s t := by
  refine Same.peel ?_ h
  unfold fldWritten
  repeat' first
    | split
    | simp [Sys.modes, Svc.fuses, Svc.images]
    | intro _
    | refine (forEach_same fun _ _ => ?_).2 ?_
    | (rename_i heq; have hs := congrArg Prod.snd heq; dsimp only at hs; subst hs)

@[simp ↓] theorem ktArgKeep_same (h : m &&& 393344856 = 393344856) : Same m s (ktArgKeep a0 t) ↔ Same m s t := by
  refine Same.peel ?_ h
  unfold ktArgKeep
  repeat' first
    | split
    | simp [Sys.modes, Svc.fuses, Svc.images]
    | intro _
    | refine (forEach_same fun _ _ => ?_).2 ?_
    | (rename_i heq; have hs := congrArg Prod.snd heq; dsimp only at hs; subst hs)

@[simp ↓] theorem tmrWritten_same (h : m &&& 402257752 = 402257752) : Same m s (tmrWritten a0 a1 t) ↔ Same m s t := by
  refine Same.peel ?_ h
  unfold tmrWritten
  repeat' first
    | split
    | simp [Sys.modes, Svc.fuses, Svc.images]
    | intro _
    | refine (forEach_same fun _ _ => ?_).2 ?_
    | (rename_i heq; have hs := congrArg Prod.snd heq; dsimp only at hs; subst hs)

@[simp ↓] theorem cnvWritten_same (h : m &&& 16875520 = 16875520) : Same m s (cnvWritten a0 a1 a2 t) ↔ Same m s t := by
  refine Same.peel ?_ h
  unfold cnvWritten
  repeat' first
    | split
    | simp [Sys.modes, Svc.fuses, Svc.images]
    | intro _
    | refine (forEach_same fun _ _ => ?_).2 ?_
    | (rename_i heq; have hs := congrArg Prod.snd heq; dsimp only at hs; subst hs)

@[simp ↓] theorem batWritten_same (h : m &&& 18874368 = 18874368) : Same m s (batWritten a0 t) ↔ Same m s t := by
  refine Same.peel ?_ h
  unfold batWritten
  repeat' first
    | split
    | simp [Sys.modes, Svc.fuses, Svc.images]
    | intro _
    | refine (forEach_same fun _ _ => ?_).2 ?_
    | (rename_i heq; have hs := congrArg Prod.snd heq; dsimp only at hs; subst hs)

@[simp ↓] theorem itemHook_same (h : m &&& 939390808 = 939390808) : Same m s (itemHook a0 a1 a2 a3 t) ↔ Same m s t := by
  refine Same.peel ?_ h
  unfold itemHook
  repeat' first
    | split
    | simp [Sys.modes, Svc.fuses, Svc.images]
    | intro _
    | refine (forEach_same fun _ _ => ?_).2 ?_
    | (rename_i heq; have hs := congrArg Prod.snd heq; dsimp only at hs; subst hs)

@[simp ↓] theorem applyItems_same (h : m &&& 939390808 = 939390808) : Same m s (applyItems a0 a1 t) ↔ Same m s t := by
  refine Same.peel ?_ h
  unfold applyItems
  repeat' first
    | split
    | simp [Sys.modes, Svc.fuses, Svc.images]
    | intro _
    | refine (forEach_same fun _ _ => ?_).2 ?_
    | (rename_i heq; have hs := congrArg Prod.snd heq; dsimp only at hs; subst hs)

@[simp ↓] theorem afterWrite_same (h : m &&& 6844973048 = 6844973048) : Same m s (afterWrite a0 t) ↔ Same m s t := by
  refine Same.peel ?_ h
  unfold afterWrite
  repeat' first
    | split
    | simp [Sys.modes, Svc.fuses, Svc.images]
    | intro _
    | refine (forEach_same fun _ _ => ?_).2 ?_
    | (rename_i heq; have hs := congrArg Prod.snd heq; dsimp only at hs; subst hs)

@[simp ↓] theorem noteRefusal_same (h : m &&& 67108864 = 67108864) : Same m s (noteRefusal a0 a1 t) ↔ Same m s t := by
  refine Same.peel ?_ h
  unfold noteRefusal
  repeat' first
    | split
    | simp [Sys.modes, Svc.fuses, Svc.images]
    | intro _
    | refine (forEach_same fun _ _ => ?_).2 ?_
    | (rename_i heq; have hs := congrArg Prod.snd heq; dsimp only at hs; subst hs)

@[simp ↓] theorem writeItems_same (h : m &&& 3086874488 = 3086874488) : Same m s (writeItems a0 a1 t).2.2 ↔ Same m s t := by
  refine Same.peel ?_ h
  unfold writeItems
  repeat' first
    | split
    | simp [Sys.modes, Svc.fuses, Svc.images]
    | intro _
    | refine (forEach_same fun _ _ => ?_).2 ?_
    | (rename_i heq; have hs := congrArg Prod.snd heq; dsimp only at hs; subst hs)

@[simp ↓] theorem writeOne_same (h : m &&& 7381843960 = 7381843960) : Same m s (writeOne a0 a1 t) ↔ Same m s t := by
  refine Same.peel ?_ h
  unfold writeOne
  repeat' first
    | split
    | simp [Sys.modes, Svc.fuses, Svc.images]
    | intro _
    | refine (forEach_same fun _ _ => ?_).2 ?_
    | (rename_i heq; have hs := congrArg Prod.snd heq; dsimp only at hs; subst hs)

@[simp ↓] theorem readOne_same (h : m &&& 109577024 = 109577024) : Same m s (readOne a0 a1 t) ↔ Same m s t := by
  refine Same.peel ?_ h
  unfold readOne
  repeat' first
    | split
    | simp [Sys.modes, Svc.fuses, Svc.images]
    | intro _
    | refine (forEach_same fun _ _ => ?_).2 ?_
    | (rename_i heq; have hs := congrArg Prod.snd heq; dsimp only at hs; subst hs)

end Sys2Proof.Machine
end

