-- ==== Sys2Proof/Laws/FrameParamCmds.lean ====
section
/-! SUPPORT. Frames of the operations of Machine/ParamCmds.lean. -/

set_option Elab.async false
set_option linter.unusedTactic false
set_option linter.unreachableTactic false
set_option linter.unnecessarySeqFocus false
set_option linter.unusedSimpArgs false

namespace Sys2Proof.Machine

theorem execSfkCommit_ends (h : m &&& 7381843960 = 7381843960) : Ends m s (execSfkCommit a0 a1 s) := by
  refine Ends.mono ?_ h
  unfold execSfkCommit
  repeat' first
    | split
    | simp [Sys.modes, Svc.fuses, Svc.images]
    | intro _
    | refine (forEach_same fun _ _ => ?_).2 ?_
    | (rename_i heq; have hs := congrArg Prod.snd heq; dsimp only at hs; subst hs)

theorem execSfkDrill_ends (h : m &&& 7381843960 = 7381843960) : Ends m s (execSfkDrill a0 a1 s) := by
  refine Ends.mono ?_ h
  unfold execSfkDrill
  repeat' first
    | split
    | simp [Sys.modes, Svc.fuses, Svc.images]
    | intro _
    | refine (forEach_same fun _ _ => ?_).2 ?_
    | (rename_i heq; have hs := congrArg Prod.snd heq; dsimp only at hs; subst hs)

theorem execCnvStart_ends (h : m &&& 7381843960 = 7381843960) : Ends m s (execCnvStart a0 a1 s) := by
  refine Ends.mono ?_ h
  unfold execCnvStart
  repeat' first
    | split
    | simp [Sys.modes, Svc.fuses, Svc.images]
    | intro _
    | refine (forEach_same fun _ _ => ?_).2 ?_
    | (rename_i heq; have hs := congrArg Prod.snd heq; dsimp only at hs; subst hs)

theorem execCnvUrgent_ends (h : m &&& 7381843960 = 7381843960) : Ends m s (execCnvUrgent a0 a1 s) := by
  refine Ends.mono ?_ h
  unfold execCnvUrgent
  repeat' first
    | split
    | simp [Sys.modes, Svc.fuses, Svc.images]
    | intro _
    | refine (forEach_same fun _ _ => ?_).2 ?_
    | (rename_i heq; have hs := congrArg Prod.snd heq; dsimp only at hs; subst hs)

theorem execCalZero_ends (h : m &&& 7381843960 = 7381843960) : Ends m s (execCalZero a0 s) := by
  refine Ends.mono ?_ h
  unfold execCalZero
  repeat' first
    | split
    | simp [Sys.modes, Svc.fuses, Svc.images]
    | intro _
    | refine (forEach_same fun _ _ => ?_).2 ?_
    | (rename_i heq; have hs := congrArg Prod.snd heq; dsimp only at hs; subst hs)

theorem execCalFull_ends (h : m &&& 7381843960 = 7381843960) : Ends m s (execCalFull a0 s) := by
  refine Ends.mono ?_ h
  unfold execCalFull
  repeat' first
    | split
    | simp [Sys.modes, Svc.fuses, Svc.images]
    | intro _
    | refine (forEach_same fun _ _ => ?_).2 ?_
    | (rename_i heq; have hs := congrArg Prod.snd heq; dsimp only at hs; subst hs)

theorem execCalCompute_ends (h : m &&& 7381843960 = 7381843960) : Ends m s (execCalCompute a0 s) := by
  refine Ends.mono ?_ h
  unfold execCalCompute
  repeat' first
    | split
    | simp [Sys.modes, Svc.fuses, Svc.images]
    | intro _
    | refine (forEach_same fun _ _ => ?_).2 ?_
    | (rename_i heq; have hs := congrArg Prod.snd heq; dsimp only at hs; subst hs)

theorem execCalNominal_ends (h : m &&& 7381843960 = 7381843960) : Ends m s (execCalNominal a0 s) := by
  refine Ends.mono ?_ h
  unfold execCalNominal
  repeat' first
    | split
    | simp [Sys.modes, Svc.fuses, Svc.images]
    | intro _
    | refine (forEach_same fun _ _ => ?_).2 ?_
    | (rename_i heq; have hs := congrArg Prod.snd heq; dsimp only at hs; subst hs)

theorem execCalAbandon_ends (h : m &&& 7381843960 = 7381843960) : Ends m s (execCalAbandon a0 s) := by
  refine Ends.mono ?_ h
  unfold execCalAbandon
  repeat' first
    | split
    | simp [Sys.modes, Svc.fuses, Svc.images]
    | intro _
    | refine (forEach_same fun _ _ => ?_).2 ?_
    | (rename_i heq; have hs := congrArg Prod.snd heq; dsimp only at hs; subst hs)

theorem execCalDirectWrite_ends (h : m &&& 7381843960 = 7381843960) : Ends m s (execCalDirectWrite a0 a1 a2 s) := by
  refine Ends.mono ?_ h
  unfold execCalDirectWrite
  repeat' first
    | split
    | simp [Sys.modes, Svc.fuses, Svc.images]
    | intro _
    | refine (forEach_same fun _ _ => ?_).2 ?_
    | (rename_i heq; have hs := congrArg Prod.snd heq; dsimp only at hs; subst hs)

theorem execAccClear_ends (h : m &&& 7381843960 = 7381843960) : Ends m s (execAccClear a0 a1 s) := by
  refine Ends.mono ?_ h
  unfold execAccClear
  repeat' first
    | split
    | simp [Sys.modes, Svc.fuses, Svc.images]
    | intro _
    | refine (forEach_same fun _ _ => ?_).2 ?_
    | (rename_i heq; have hs := congrArg Prod.snd heq; dsimp only at hs; subst hs)

theorem execTrkFreeze_ends (h : m &&& 7381843960 = 7381843960) : Ends m s (execTrkFreeze a0 a1 s) := by
  refine Ends.mono ?_ h
  unfold execTrkFreeze
  repeat' first
    | split
    | simp [Sys.modes, Svc.fuses, Svc.images]
    | intro _
    | refine (forEach_same fun _ _ => ?_).2 ?_
    | (rename_i heq; have hs := congrArg Prod.snd heq; dsimp only at hs; subst hs)

theorem execTrkRelease_ends (h : m &&& 7381843960 = 7381843960) : Ends m s (execTrkRelease a0 a1 s) := by
  refine Ends.mono ?_ h
  unfold execTrkRelease
  repeat' first
    | split
    | simp [Sys.modes, Svc.fuses, Svc.images]
    | intro _
    | refine (forEach_same fun _ _ => ?_).2 ?_
    | (rename_i heq; have hs := congrArg Prod.snd heq; dsimp only at hs; subst hs)

theorem execTmrCtrlStart_ends (h : m &&& 7381843960 = 7381843960) : Ends m s (execTmrCtrlStart a0 a1 s) := by
  refine Ends.mono ?_ h
  unfold execTmrCtrlStart
  repeat' first
    | split
    | simp [Sys.modes, Svc.fuses, Svc.images]
    | intro _
    | refine (forEach_same fun _ _ => ?_).2 ?_
    | (rename_i heq; have hs := congrArg Prod.snd heq; dsimp only at hs; subst hs)

theorem execTmrCtrlStop_ends (h : m &&& 7381843960 = 7381843960) : Ends m s (execTmrCtrlStop a0 a1 s) := by
  refine Ends.mono ?_ h
  unfold execTmrCtrlStop
  repeat' first
    | split
    | simp [Sys.modes, Svc.fuses, Svc.images]
    | intro _
    | refine (forEach_same fun _ _ => ?_).2 ?_
    | (rename_i heq; have hs := congrArg Prod.snd heq; dsimp only at hs; subst hs)

theorem execTmrCtrlReset_ends (h : m &&& 7381843960 = 7381843960) : Ends m s (execTmrCtrlReset a0 a1 s) := by
  refine Ends.mono ?_ h
  unfold execTmrCtrlReset
  repeat' first
    | split
    | simp [Sys.modes, Svc.fuses, Svc.images]
    | intro _
    | refine (forEach_same fun _ _ => ?_).2 ?_
    | (rename_i heq; have hs := congrArg Prod.snd heq; dsimp only at hs; subst hs)

theorem execTmrCfgWrite_ends (h : m &&& 7381843960 = 7381843960) : Ends m s (execTmrCfgWrite a0 a1 a2 s) := by
  refine Ends.mono ?_ h
  unfold execTmrCfgWrite
  repeat' first
    | split
    | simp [Sys.modes, Svc.fuses, Svc.images]
    | intro _
    | refine (forEach_same fun _ _ => ?_).2 ?_
    | (rename_i heq; have hs := congrArg Prod.snd heq; dsimp only at hs; subst hs)

theorem execTmrPeriodWrite_ends (h : m &&& 7381843960 = 7381843960) : Ends m s (execTmrPeriodWrite a0 a1 a2 s) := by
  refine Ends.mono ?_ h
  unfold execTmrPeriodWrite
  repeat' first
    | split
    | simp [Sys.modes, Svc.fuses, Svc.images]
    | intro _
    | refine (forEach_same fun _ _ => ?_).2 ?_
    | (rename_i heq; have hs := congrArg Prod.snd heq; dsimp only at hs; subst hs)

theorem execTmrCmpWrite_ends (h : m &&& 7381843960 = 7381843960) : Ends m s (execTmrCmpWrite a0 a1 a2 s) := by
  refine Ends.mono ?_ h
  unfold execTmrCmpWrite
  repeat' first
    | split
    | simp [Sys.modes, Svc.fuses, Svc.images]
    | intro _
    | refine (forEach_same fun _ _ => ?_).2 ?_
    | (rename_i heq; have hs := congrArg Prod.snd heq; dsimp only at hs; subst hs)

theorem execTmrCntWrite_ends (h : m &&& 7381843960 = 7381843960) : Ends m s (execTmrCntWrite a0 a1 a2 s) := by
  refine Ends.mono ?_ h
  unfold execTmrCntWrite
  repeat' first
    | split
    | simp [Sys.modes, Svc.fuses, Svc.images]
    | intro _
    | refine (forEach_same fun _ _ => ?_).2 ?_
    | (rename_i heq; have hs := congrArg Prod.snd heq; dsimp only at hs; subst hs)

theorem execTmrCapcfgWrite_ends (h : m &&& 7381843960 = 7381843960) : Ends m s (execTmrCapcfgWrite a0 a1 a2 s) := by
  refine Ends.mono ?_ h
  unfold execTmrCapcfgWrite
  repeat' first
    | split
    | simp [Sys.modes, Svc.fuses, Svc.images]
    | intro _
    | refine (forEach_same fun _ _ => ?_).2 ?_
    | (rename_i heq; have hs := congrArg Prod.snd heq; dsimp only at hs; subst hs)

theorem execTmrCapRead_ends (h : m &&& 109577024 = 109577024) : Ends m s (execTmrCapRead a0 a1 s) := by
  refine Ends.mono ?_ h
  unfold execTmrCapRead
  repeat' first
    | split
    | simp [Sys.modes, Svc.fuses, Svc.images]
    | intro _
    | refine (forEach_same fun _ _ => ?_).2 ?_
    | (rename_i heq; have hs := congrArg Prod.snd heq; dsimp only at hs; subst hs)

theorem execTmrCntLowRead_ends (h : m &&& 109577024 = 109577024) : Ends m s (execTmrCntLowRead a0 a1 s) := by
  refine Ends.mono ?_ h
  unfold execTmrCntLowRead
  repeat' first
    | split
    | simp [Sys.modes, Svc.fuses, Svc.images]
    | intro _
    | refine (forEach_same fun _ _ => ?_).2 ?_
    | (rename_i heq; have hs := congrArg Prod.snd heq; dsimp only at hs; subst hs)

theorem execKtValueWrite_ends (h : m &&& 7381843960 = 7381843960) : Ends m s (execKtValueWrite a0 a1 a2 s) := by
  refine Ends.mono ?_ h
  unfold execKtValueWrite
  repeat' first
    | split
    | simp [Sys.modes, Svc.fuses, Svc.images]
    | intro _
    | refine (forEach_same fun _ _ => ?_).2 ?_
    | (rename_i heq; have hs := congrArg Prod.snd heq; dsimp only at hs; subst hs)

theorem execFlStuckMsWrite_ends (h : m &&& 7381843960 = 7381843960) : Ends m s (execFlStuckMsWrite a0 a1 a2 s) := by
  refine Ends.mono ?_ h
  unfold execFlStuckMsWrite
  repeat' first
    | split
    | simp [Sys.modes, Svc.fuses, Svc.images]
    | intro _
    | refine (forEach_same fun _ _ => ?_).2 ?_
    | (rename_i heq; have hs := congrArg Prod.snd heq; dsimp only at hs; subst hs)

theorem execUpdTakeover_ends (h : m &&& 7381843960 = 7381843960) : Ends m s (execUpdTakeover a0 a1 s) := by
  refine Ends.mono ?_ h
  unfold execUpdTakeover
  repeat' first
    | split
    | simp [Sys.modes, Svc.fuses, Svc.images]
    | intro _
    | refine (forEach_same fun _ _ => ?_).2 ?_
    | (rename_i heq; have hs := congrArg Prod.snd heq; dsimp only at hs; subst hs)

theorem execUpdConfirm_ends (h : m &&& 7381843960 = 7381843960) : Ends m s (execUpdConfirm a0 a1 s) := by
  refine Ends.mono ?_ h
  unfold execUpdConfirm
  repeat' first
    | split
    | simp [Sys.modes, Svc.fuses, Svc.images]
    | intro _
    | refine (forEach_same fun _ _ => ?_).2 ?_
    | (rename_i heq; have hs := congrArg Prod.snd heq; dsimp only at hs; subst hs)

theorem execUpdRollback_ends (h : m &&& 7381843960 = 7381843960) : Ends m s (execUpdRollback a0 a1 s) := by
  refine Ends.mono ?_ h
  unfold execUpdRollback
  repeat' first
    | split
    | simp [Sys.modes, Svc.fuses, Svc.images]
    | intro _
    | refine (forEach_same fun _ _ => ?_).2 ?_
    | (rename_i heq; have hs := congrArg Prod.snd heq; dsimp only at hs; subst hs)

theorem execMetAuditSel_ends (h : m &&& 7381843960 = 7381843960) : Ends m s (execMetAuditSel a0 a1 s) := by
  refine Ends.mono ?_ h
  unfold execMetAuditSel
  repeat' first
    | split
    | simp [Sys.modes, Svc.fuses, Svc.images]
    | intro _
    | refine (forEach_same fun _ _ => ?_).2 ?_
    | (rename_i heq; have hs := congrArg Prod.snd heq; dsimp only at hs; subst hs)

theorem execLogCursorWrite_ends (h : m &&& 7381843960 = 7381843960) : Ends m s (execLogCursorWrite a0 a1 s) := by
  refine Ends.mono ?_ h
  unfold execLogCursorWrite
  repeat' first
    | split
    | simp [Sys.modes, Svc.fuses, Svc.images]
    | intro _
    | refine (forEach_same fun _ _ => ?_).2 ?_
    | (rename_i heq; have hs := congrArg Prod.snd heq; dsimp only at hs; subst hs)

theorem execLogStateRead_ends (h : m &&& 109577024 = 109577024) : Ends m s (execLogStateRead a0 s) := by
  refine Ends.mono ?_ h
  unfold execLogStateRead
  repeat' first
    | split
    | simp [Sys.modes, Svc.fuses, Svc.images]
    | intro _
    | refine (forEach_same fun _ _ => ?_).2 ?_
    | (rename_i heq; have hs := congrArg Prod.snd heq; dsimp only at hs; subst hs)

end Sys2Proof.Machine
end

