-- ==== Sys2Proof/Laws/FrameTimers.lean ====
section
/-! SUPPORT. Frames of the operations of Machine/Timers.lean. -/

set_option Elab.async false
set_option linter.unusedTactic false
set_option linter.unreachableTactic false
set_option linter.unnecessarySeqFocus false
set_option linter.unusedSimpArgs false

namespace Sys2Proof.Machine

@[simp ↓] theorem passTo_same (h : m &&& 109708098 = 109708098) : Same m s (passTo a0 t) ↔ Same m s t := by
  refine Same.peel ?_ h
  unfold passTo
  repeat' first
    | split
    | simp [Sys.modes, Svc.fuses, Svc.images]
    | intro _
    | refine (forEach_same fun _ _ => ?_).2 ?_
    | (rename_i heq; have hs := congrArg Prod.snd heq; dsimp only at hs; subst hs)

@[simp ↓] theorem idleStep_same (h : m &&& 109708098 = 109708098) : Same m s (idleStep t) ↔ Same m s t := by
  refine Same.peel ?_ h
  unfold idleStep
  repeat' first
    | split
    | simp [Sys.modes, Svc.fuses, Svc.images]
    | intro _
    | refine (forEach_same fun _ _ => ?_).2 ?_
    | (rename_i heq; have hs := congrArg Prod.snd heq; dsimp only at hs; subst hs)

@[simp ↓] theorem matchAt_same (h : m &&& 109708098 = 109708098) : Same m s (matchAt a0 a1 t) ↔ Same m s t := by
  refine Same.peel ?_ h
  unfold matchAt
  repeat' first
    | split
    | simp [Sys.modes, Svc.fuses, Svc.images]
    | intro _
    | refine (forEach_same fun _ _ => ?_).2 ?_
    | (rename_i heq; have hs := congrArg Prod.snd heq; dsimp only at hs; subst hs)

@[simp ↓] theorem matchWithin_same (h : m &&& 109708098 = 109708098) : Same m s (matchWithin a0 a1 t) ↔ Same m s t := by
  refine Same.peel ?_ h
  unfold matchWithin
  repeat' first
    | split
    | simp [Sys.modes, Svc.fuses, Svc.images]
    | intro _
    | refine (forEach_same fun _ _ => ?_).2 ?_
    | (rename_i heq; have hs := congrArg Prod.snd heq; dsimp only at hs; subst hs)

@[simp ↓] theorem topAt_same (h : m &&& 109708098 = 109708098) : Same m s (topAt a0 a1 t) ↔ Same m s t := by
  refine Same.peel ?_ h
  unfold topAt
  repeat' first
    | split
    | simp [Sys.modes, Svc.fuses, Svc.images]
    | intro _
    | refine (forEach_same fun _ _ => ?_).2 ?_
    | (rename_i heq; have hs := congrArg Prod.snd heq; dsimp only at hs; subst hs)

@[simp ↓] theorem lapTo_same (h : m &&& 109708098 = 109708098) : Same m s (lapTo a0 t) ↔ Same m s t := by
  refine Same.peel ?_ h
  unfold lapTo
  repeat' first
    | split
    | simp [Sys.modes, Svc.fuses, Svc.images]
    | intro _
    | refine (forEach_same fun _ _ => ?_).2 ?_
    | (rename_i heq; have hs := congrArg Prod.snd heq; dsimp only at hs; subst hs)

theorem execTmrOvf_ends (h : m &&& 109708098 = 109708098) : Ends m s (execTmrOvf a0 s) := by
  refine Ends.mono ?_ h
  unfold execTmrOvf
  repeat' first
    | split
    | simp [Sys.modes, Svc.fuses, Svc.images]
    | intro _
    | refine (forEach_same fun _ _ => ?_).2 ?_
    | (rename_i heq; have hs := congrArg Prod.snd heq; dsimp only at hs; subst hs)

theorem execTmrTop_ends (h : m &&& 109708098 = 109708098) : Ends m s (execTmrTop a0 s) := by
  refine Ends.mono ?_ h
  unfold execTmrTop
  repeat' first
    | split
    | simp [Sys.modes, Svc.fuses, Svc.images]
    | intro _
    | refine (forEach_same fun _ _ => ?_).2 ?_
    | (rename_i heq; have hs := congrArg Prod.snd heq; dsimp only at hs; subst hs)

theorem execTmrMatch_ends (h : m &&& 109708098 = 109708098) : Ends m s (execTmrMatch a0 s) := by
  refine Ends.mono ?_ h
  unfold execTmrMatch
  repeat' first
    | split
    | simp [Sys.modes, Svc.fuses, Svc.images]
    | intro _
    | refine (forEach_same fun _ _ => ?_).2 ?_
    | (rename_i heq; have hs := congrArg Prod.snd heq; dsimp only at hs; subst hs)

@[simp ↓] theorem takeCapture_same (h : m &&& 524288 = 524288) : Same m s (takeCapture a0 t) ↔ Same m s t := by
  refine Same.peel ?_ h
  unfold takeCapture
  repeat' first
    | split
    | simp [Sys.modes, Svc.fuses, Svc.images]
    | intro _
    | refine (forEach_same fun _ _ => ?_).2 ?_
    | (rename_i heq; have hs := congrArg Prod.snd heq; dsimp only at hs; subst hs)

theorem execTmrCapture_ends (h : m &&& 524288 = 524288) : Ends m s (execTmrCapture a0 s) := by
  refine Ends.mono ?_ h
  unfold execTmrCapture
  repeat' first
    | split
    | simp [Sys.modes, Svc.fuses, Svc.images]
    | intro _
    | refine (forEach_same fun _ _ => ?_).2 ?_
    | (rename_i heq; have hs := congrArg Prod.snd heq; dsimp only at hs; subst hs)

theorem execTmrReject_ends (h : m &&& 524288 = 524288) : Ends m s (execTmrReject a0 s) := by
  refine Ends.mono ?_ h
  unfold execTmrReject
  repeat' first
    | split
    | simp [Sys.modes, Svc.fuses, Svc.images]
    | intro _
    | refine (forEach_same fun _ _ => ?_).2 ?_
    | (rename_i heq; have hs := congrArg Prod.snd heq; dsimp only at hs; subst hs)

theorem execTmrStartEdge_ends (h : m &&& 524288 = 524288) : Ends m s (execTmrStartEdge a0 s) := by
  refine Ends.mono ?_ h
  unfold execTmrStartEdge
  repeat' first
    | split
    | simp [Sys.modes, Svc.fuses, Svc.images]
    | intro _
    | refine (forEach_same fun _ _ => ?_).2 ?_
    | (rename_i heq; have hs := congrArg Prod.snd heq; dsimp only at hs; subst hs)

theorem execKtAlarm_ends (h : m &&& 101188416 = 101188416) : Ends m s (execKtAlarm a0 s) := by
  refine Ends.mono ?_ h
  unfold execKtAlarm
  repeat' first
    | split
    | simp [Sys.modes, Svc.fuses, Svc.images]
    | intro _
    | refine (forEach_same fun _ _ => ?_).2 ?_
    | (rename_i heq; have hs := congrArg Prod.snd heq; dsimp only at hs; subst hs)

theorem execFlLevelChange_ends (h : m &&& 401610560 = 401610560) : Ends m s (execFlLevelChange a0 a1 s) := by
  refine Ends.mono ?_ h
  unfold execFlLevelChange
  repeat' first
    | split
    | simp [Sys.modes, Svc.fuses, Svc.images]
    | intro _
    | refine (forEach_same fun _ _ => ?_).2 ?_
    | (rename_i heq; have hs := congrArg Prod.snd heq; dsimp only at hs; subst hs)

theorem execFlStuck_ends (h : m &&& 402265922 = 402265922) : Ends m s (execFlStuck a0 s) := by
  refine Ends.mono ?_ h
  unfold execFlStuck
  repeat' first
    | split
    | simp [Sys.modes, Svc.fuses, Svc.images]
    | intro _
    | refine (forEach_same fun _ _ => ?_).2 ?_
    | (rename_i heq; have hs := congrArg Prod.snd heq; dsimp only at hs; subst hs)

theorem execFlReject_ends (h : m &&& 109052736 = 109052736) : Ends m s (execFlReject a0 s) := by
  refine Ends.mono ?_ h
  unfold execFlReject
  repeat' first
    | split
    | simp [Sys.modes, Svc.fuses, Svc.images]
    | intro _
    | refine (forEach_same fun _ _ => ?_).2 ?_
    | (rename_i heq; have hs := congrArg Prod.snd heq; dsimp only at hs; subst hs)

theorem execFlOutputLimit_ends (h : m &&& 8388608 = 8388608) : Ends m s (execFlOutputLimit a0 s) := by
  refine Ends.mono ?_ h
  unfold execFlOutputLimit
  repeat' first
    | split
    | simp [Sys.modes, Svc.fuses, Svc.images]
    | intro _
    | refine (forEach_same fun _ _ => ?_).2 ?_
    | (rename_i heq; have hs := congrArg Prod.snd heq; dsimp only at hs; subst hs)

theorem execFlOutputResume_ends (h : m &&& 109708098 = 109708098) : Ends m s (execFlOutputResume a0 s) := by
  refine Ends.mono ?_ h
  unfold execFlOutputResume
  repeat' first
    | split
    | simp [Sys.modes, Svc.fuses, Svc.images]
    | intro _
    | refine (forEach_same fun _ _ => ?_).2 ?_
    | (rename_i heq; have hs := congrArg Prod.snd heq; dsimp only at hs; subst hs)

end Sys2Proof.Machine
end

