-- ==== Sys2Proof/Laws/FrameConversion.lean ====
section
/-! SUPPORT. Frames of the operations of Machine/Conversion.lean. -/

set_option Elab.async false
set_option linter.unusedTactic false
set_option linter.unreachableTactic false
set_option linter.unnecessarySeqFocus false
set_option linter.unusedSimpArgs false

namespace Sys2Proof.Machine

@[simp ↓] theorem putDelay_same (h : m &&& 32768 = 32768) : Same m s (putDelay a0 a1 a2 t) ↔ Same m s t := by
  refine Same.peel ?_ h
  unfold putDelay
  repeat' first
    | split
    | simp [Sys.modes, Svc.fuses, Svc.images]
    | intro _
    | refine (forEach_same fun _ _ => ?_).2 ?_
    | (rename_i heq; have hs := congrArg Prod.snd heq; dsimp only at hs; subst hs)

theorem execCnvTrigger_ends (h : m &&& 32768 = 32768) : Ends m s (execCnvTrigger a0 a1 a2 s) := by
  refine Ends.mono ?_ h
  unfold execCnvTrigger
  repeat' first
    | split
    | simp [Sys.modes, Svc.fuses, Svc.images]
    | intro _
    | refine (forEach_same fun _ _ => ?_).2 ?_
    | (rename_i heq; have hs := congrArg Prod.snd heq; dsimp only at hs; subst hs)

theorem execCnvTriggerDelayEnd_ends (h : m &&& 109740866 = 109740866) : Ends m s (execCnvTriggerDelayEnd a0 a1 s) := by
  refine Ends.mono ?_ h
  unfold execCnvTriggerDelayEnd
  repeat' first
    | split
    | simp [Sys.modes, Svc.fuses, Svc.images]
    | intro _
    | refine (forEach_same fun _ _ => ?_).2 ?_
    | (rename_i heq; have hs := congrArg Prod.snd heq; dsimp only at hs; subst hs)

theorem execUrgentSequenceEnd_ends (h : m &&& 32768 = 32768) : Ends m s (execUrgentSequenceEnd a0 s) := by
  refine Ends.mono ?_ h
  unfold execUrgentSequenceEnd
  repeat' first
    | split
    | simp [Sys.modes, Svc.fuses, Svc.images]
    | intro _
    | refine (forEach_same fun _ _ => ?_).2 ?_
    | (rename_i heq; have hs := congrArg Prod.snd heq; dsimp only at hs; subst hs)

theorem execFilterWindowEnd_ends (h : m &&& 109806402 = 109806402) : Ends m s (execFilterWindowEnd a0 a1 s) := by
  refine Ends.mono ?_ h
  unfold execFilterWindowEnd
  repeat' first
    | split
    | simp [Sys.modes, Svc.fuses, Svc.images]
    | intro _
    | refine (forEach_same fun _ _ => ?_).2 ?_
    | (rename_i heq; have hs := congrArg Prod.snd heq; dsimp only at hs; subst hs)

theorem execSequencerResult_ends (h : m &&& 98304 = 98304) : Ends m s (execSequencerResult a0 a1 s) := by
  refine Ends.mono ?_ h
  unfold execSequencerResult
  repeat' first
    | split
    | simp [Sys.modes, Svc.fuses, Svc.images]
    | intro _
    | refine (forEach_same fun _ _ => ?_).2 ?_
    | (rename_i heq; have hs := congrArg Prod.snd heq; dsimp only at hs; subst hs)

theorem execLpEntry_ends (h : m &&& 32768 = 32768) : Ends m s (execLpEntry a0 s) := by
  refine Ends.mono ?_ h
  unfold execLpEntry
  repeat' first
    | split
    | simp [Sys.modes, Svc.fuses, Svc.images]
    | intro _
    | refine (forEach_same fun _ _ => ?_).2 ?_
    | (rename_i heq; have hs := congrArg Prod.snd heq; dsimp only at hs; subst hs)

theorem execCalCaptureEnd_ends (h : m &&& 32768 = 32768) : Ends m s (execCalCaptureEnd a0 s) := by
  refine Ends.mono ?_ h
  unfold execCalCaptureEnd
  repeat' first
    | split
    | simp [Sys.modes, Svc.fuses, Svc.images]
    | intro _
    | refine (forEach_same fun _ _ => ?_).2 ?_
    | (rename_i heq; have hs := congrArg Prod.snd heq; dsimp only at hs; subst hs)

@[simp ↓] theorem wearStored_same (h : m &&& 67108864 = 67108864) : Same m s (wearStored a0 a1 t) ↔ Same m s t := by
  refine Same.peel ?_ h
  unfold wearStored
  repeat' first
    | split
    | simp [Sys.modes, Svc.fuses, Svc.images]
    | intro _
    | refine (forEach_same fun _ _ => ?_).2 ?_
    | (rename_i heq; have hs := congrArg Prod.snd heq; dsimp only at hs; subst hs)

@[simp ↓] theorem finishWrite_same (h : m &&& 117474112 = 117474112) : Same m s (finishWrite a0 a1 t) ↔ Same m s t := by
  refine Same.peel ?_ h
  unfold finishWrite
  repeat' first
    | split
    | simp [Sys.modes, Svc.fuses, Svc.images]
    | intro _
    | refine (forEach_same fun _ _ => ?_).2 ?_
    | (rename_i heq; have hs := congrArg Prod.snd heq; dsimp only at hs; subst hs)

theorem execCalStored_ends (h : m &&& 117474112 = 117474112) : Ends m s (execCalStored a0 s) := by
  refine Ends.mono ?_ h
  unfold execCalStored
  repeat' first
    | split
    | simp [Sys.modes, Svc.fuses, Svc.images]
    | intro _
    | refine (forEach_same fun _ _ => ?_).2 ?_
    | (rename_i heq; have hs := congrArg Prod.snd heq; dsimp only at hs; subst hs)

theorem execTrackerFreeze_ends (h : m &&& 109773634 = 109773634) : Ends m s (execTrackerFreeze a0 s) := by
  refine Ends.mono ?_ h
  unfold execTrackerFreeze
  repeat' first
    | split
    | simp [Sys.modes, Svc.fuses, Svc.images]
    | intro _
    | refine (forEach_same fun _ _ => ?_).2 ?_
    | (rename_i heq; have hs := congrArg Prod.snd heq; dsimp only at hs; subst hs)

end Sys2Proof.Machine
end

