-- ==== Sys2Proof/Laws/FrameDeolo.lean ====
section
/-! SUPPORT. Frames of the operations of Machine/Deolo.lean. -/

set_option Elab.async false
set_option linter.unusedTactic false
set_option linter.unreachableTactic false
set_option linter.unnecessarySeqFocus false
set_option linter.unusedSimpArgs false

namespace Sys2Proof.Machine

@[simp ↓] theorem dequeue_same (h : m &&& 128 = 128) : Same m s (dequeue a0 a1 t) ↔ Same m s t := by
  refine Same.peel ?_ h
  unfold dequeue
  repeat' first
    | split
    | simp [Sys.modes, Svc.fuses, Svc.images]
    | intro _
    | refine (forEach_same fun _ _ => ?_).2 ?_
    | refine (runOp_same (by decide) fun _ _ => ?_).2 ?_
    | refine (runCmd_same (by decide) fun _ _ => ?_).2 ?_
    | (rename_i heq; have hs := congrArg Prod.snd heq; dsimp only at hs; subst hs)

@[simp ↓] theorem enterTag_same (h : m &&& 512 = 512) : Same m s (enterTag a0 a1 a2 a3 t) ↔ Same m s t := by
  refine Same.peel ?_ h
  unfold enterTag
  repeat' first
    | split
    | simp [Sys.modes, Svc.fuses, Svc.images]
    | intro _
    | refine (forEach_same fun _ _ => ?_).2 ?_
    | refine (runOp_same (by decide) fun _ _ => ?_).2 ?_
    | refine (runCmd_same (by decide) fun _ _ => ?_).2 ?_
    | (rename_i heq; have hs := congrArg Prod.snd heq; dsimp only at hs; subst hs)

@[simp ↓] theorem runCmd_same (h : m &&& 67109824 = 67109824) (k : ∀ c v, Same m s (act c v) ↔ Same m s v) :
    Same m s (runCmd n sel act t) ↔ Same m s t := by
  have h1 := and_sub (j := 128) h (by decide)
  have h2 := and_sub (j := 512) h (by decide)
  have h3 := and_sub (j := 67109696) h (by decide)
  unfold runCmd
  repeat' first
    | split
    | simp [h1, h2, h3, k]
    | intro _

@[simp ↓] theorem runOp_same (h : m &&& 67109824 = 67109824) (k : ∀ c v, Same m s (act c v) ↔ Same m s v) :
    Same m s (runOp n op act t) ↔ Same m s t := by
  simp [runOp, h, k]

@[simp ↓] theorem turnSession_same (h : m &&& 339040064 = 339040064) : Same m s (turnSession a0 a1 a2 t) ↔ Same m s t := by
  refine Same.peel ?_ h
  unfold turnSession
  repeat' first
    | split
    | simp [Sys.modes, Svc.fuses, Svc.images]
    | intro _
    | refine (forEach_same fun _ _ => ?_).2 ?_
    | refine (runOp_same (by decide) fun _ _ => ?_).2 ?_
    | refine (runCmd_same (by decide) fun _ _ => ?_).2 ?_
    | (rename_i heq; have hs := congrArg Prod.snd heq; dsimp only at hs; subst hs)

@[simp ↓] theorem openSession_same (h : m &&& 339040068 = 339040068) : Same m s (openSession a0 a1 t) ↔ Same m s t := by
  refine Same.peel ?_ h
  unfold openSession
  repeat' first
    | split
    | simp [Sys.modes, Svc.fuses, Svc.images]
    | intro _
    | refine (forEach_same fun _ _ => ?_).2 ?_
    | refine (runOp_same (by decide) fun _ _ => ?_).2 ?_
    | refine (runCmd_same (by decide) fun _ _ => ?_).2 ?_
    | (rename_i heq; have hs := congrArg Prod.snd heq; dsimp only at hs; subst hs)

@[simp ↓] theorem sessionOpenOp_same (h : m &&& 339040068 = 339040068) : Same m s (sessionOpenOp a0 t) ↔ Same m s t := by
  refine Same.peel ?_ h
  unfold sessionOpenOp
  repeat' first
    | split
    | simp [Sys.modes, Svc.fuses, Svc.images]
    | intro _
    | refine (forEach_same fun _ _ => ?_).2 ?_
    | refine (runOp_same (by decide) fun _ _ => ?_).2 ?_
    | refine (runCmd_same (by decide) fun _ _ => ?_).2 ?_
    | (rename_i heq; have hs := congrArg Prod.snd heq; dsimp only at hs; subst hs)

theorem execSessionOpen_ends (h : m &&& 339040196 = 339040196) : Ends m s (execSessionOpen a0 s) := by
  refine Ends.mono ?_ h
  unfold execSessionOpen
  repeat' first
    | split
    | simp [Sys.modes, Svc.fuses, Svc.images]
    | intro _
    | refine (forEach_same fun _ _ => ?_).2 ?_
    | refine (runOp_same (by decide) fun _ _ => ?_).2 ?_
    | refine (runCmd_same (by decide) fun _ _ => ?_).2 ?_
    | (rename_i heq; have hs := congrArg Prod.snd heq; dsimp only at hs; subst hs)

@[simp ↓] theorem countAuthFail_same (h : m &&& 100664128 = 100664128) : Same m s (countAuthFail a0 t) ↔ Same m s t := by
  refine Same.peel ?_ h
  unfold countAuthFail
  repeat' first
    | split
    | simp [Sys.modes, Svc.fuses, Svc.images]
    | intro _
    | refine (forEach_same fun _ _ => ?_).2 ?_
    | refine (runOp_same (by decide) fun _ _ => ?_).2 ?_
    | refine (runCmd_same (by decide) fun _ _ => ?_).2 ?_
    | (rename_i heq; have hs := congrArg Prod.snd heq; dsimp only at hs; subst hs)

@[simp ↓] theorem sessionAuthOp_same (h : m &&& 372594496 = 372594496) : Same m s (sessionAuthOp a0 t) ↔ Same m s t := by
  refine Same.peel ?_ h
  unfold sessionAuthOp
  repeat' first
    | split
    | simp [Sys.modes, Svc.fuses, Svc.images]
    | intro _
    | refine (forEach_same fun _ _ => ?_).2 ?_
    | refine (runOp_same (by decide) fun _ _ => ?_).2 ?_
    | refine (runCmd_same (by decide) fun _ _ => ?_).2 ?_
    | (rename_i heq; have hs := congrArg Prod.snd heq; dsimp only at hs; subst hs)

theorem execSessionAuth_ends (h : m &&& 372594624 = 372594624) : Ends m s (execSessionAuth a0 s) := by
  refine Ends.mono ?_ h
  unfold execSessionAuth
  repeat' first
    | split
    | simp [Sys.modes, Svc.fuses, Svc.images]
    | intro _
    | refine (forEach_same fun _ _ => ?_).2 ?_
    | refine (runOp_same (by decide) fun _ _ => ?_).2 ?_
    | refine (runCmd_same (by decide) fun _ _ => ?_).2 ?_
    | (rename_i heq; have hs := congrArg Prod.snd heq; dsimp only at hs; subst hs)

theorem execAuthLockoutEnd_ends (h : m &&& 109708098 = 109708098) : Ends m s (execAuthLockoutEnd a0 s) := by
  refine Ends.mono ?_ h
  unfold execAuthLockoutEnd
  repeat' first
    | split
    | simp [Sys.modes, Svc.fuses, Svc.images]
    | intro _
    | refine (forEach_same fun _ _ => ?_).2 ?_
    | refine (runOp_same (by decide) fun _ _ => ?_).2 ?_
    | refine (runCmd_same (by decide) fun _ _ => ?_).2 ?_
    | (rename_i heq; have hs := congrArg Prod.snd heq; dsimp only at hs; subst hs)

@[simp ↓] theorem sessionCloseOp_same (h : m &&& 339040064 = 339040064) : Same m s (sessionCloseOp a0 t) ↔ Same m s t := by
  refine Same.peel ?_ h
  unfold sessionCloseOp
  repeat' first
    | split
    | simp [Sys.modes, Svc.fuses, Svc.images]
    | intro _
    | refine (forEach_same fun _ _ => ?_).2 ?_
    | refine (runOp_same (by decide) fun _ _ => ?_).2 ?_
    | refine (runCmd_same (by decide) fun _ _ => ?_).2 ?_
    | (rename_i heq; have hs := congrArg Prod.snd heq; dsimp only at hs; subst hs)

theorem execSessionClose_ends (h : m &&& 339040192 = 339040192) : Ends m s (execSessionClose a0 s) := by
  refine Ends.mono ?_ h
  unfold execSessionClose
  repeat' first
    | split
    | simp [Sys.modes, Svc.fuses, Svc.images]
    | intro _
    | refine (forEach_same fun _ _ => ?_).2 ?_
    | refine (runOp_same (by decide) fun _ _ => ?_).2 ?_
    | refine (runCmd_same (by decide) fun _ _ => ?_).2 ?_
    | (rename_i heq; have hs := congrArg Prod.snd heq; dsimp only at hs; subst hs)

@[simp ↓] theorem echoOp_same (h : m &&& 67109696 = 67109696) : Same m s (echoOp a0 t) ↔ Same m s t := by
  refine Same.peel ?_ h
  unfold echoOp
  repeat' first
    | split
    | simp [Sys.modes, Svc.fuses, Svc.images]
    | intro _
    | refine (forEach_same fun _ _ => ?_).2 ?_
    | refine (runOp_same (by decide) fun _ _ => ?_).2 ?_
    | refine (runCmd_same (by decide) fun _ _ => ?_).2 ?_
    | (rename_i heq; have hs := congrArg Prod.snd heq; dsimp only at hs; subst hs)

theorem execEcho_ends (h : m &&& 67109824 = 67109824) : Ends m s (execEcho a0 s) := by
  refine Ends.mono ?_ h
  unfold execEcho
  repeat' first
    | split
    | simp [Sys.modes, Svc.fuses, Svc.images]
    | intro _
    | refine (forEach_same fun _ _ => ?_).2 ?_
    | refine (runOp_same (by decide) fun _ _ => ?_).2 ?_
    | refine (runCmd_same (by decide) fun _ _ => ?_).2 ?_
    | (rename_i heq; have hs := congrArg Prod.snd heq; dsimp only at hs; subst hs)

theorem cancelBegun_same {id : Nat} {v : State} (e : cancelBegun id t = some v) (h : m &&& 393221952 = 393221952) : Same m s v ↔ Same m s t := by
  refine Same.peel ?_ h
  have q : ∀ {w}, cancelBegun.cancelOp id t = some w → Same 393221952 t w := by
    intro w e
    unfold cancelBegun.cancelOp at e
    (repeat' split at e) <;> cases e <;> simp
  unfold cancelBegun at e
  (repeat' split at e)
  · injection e with e
    subst e
    simp
  · exact q e
  · exact q e


@[simp ↓] theorem cancelOp_same (h : m &&& 393566016 = 393566016) : Same m s (cancelOp a0 t) ↔ Same m s t := by
  refine Same.peel ?_ h
  unfold cancelOp
  repeat' first
    | split
    | simp
    | refine (runOp_same (by decide) fun _ _ => ?_).2 ?_
    | refine (runCmd_same (by decide) fun _ _ => ?_).2 ?_
    | (rename_i heq; simp [cancelBegun_same heq])

theorem execCancel_ends (h : m &&& 393566144 = 393566144) : Ends m s (execCancel a0 s) := by
  refine Ends.mono ?_ h
  unfold execCancel
  repeat' first
    | split
    | simp [Sys.modes, Svc.fuses, Svc.images]
    | intro _
    | refine (forEach_same fun _ _ => ?_).2 ?_
    | refine (runOp_same (by decide) fun _ _ => ?_).2 ?_
    | refine (runCmd_same (by decide) fun _ _ => ?_).2 ?_
    | (rename_i heq; have hs := congrArg Prod.snd heq; dsimp only at hs; subst hs)

@[simp ↓] theorem subscribeOp_same (h : m &&& 67109696 = 67109696) : Same m s (subscribeOp a0 t) ↔ Same m s t := by
  refine Same.peel ?_ h
  unfold subscribeOp
  repeat' first
    | split
    | simp [Sys.modes, Svc.fuses, Svc.images]
    | intro _
    | refine (forEach_same fun _ _ => ?_).2 ?_
    | refine (runOp_same (by decide) fun _ _ => ?_).2 ?_
    | refine (runCmd_same (by decide) fun _ _ => ?_).2 ?_
    | (rename_i heq; have hs := congrArg Prod.snd heq; dsimp only at hs; subst hs)

theorem execNtfSubscribe_ends (h : m &&& 67109824 = 67109824) : Ends m s (execNtfSubscribe a0 s) := by
  refine Ends.mono ?_ h
  unfold execNtfSubscribe
  repeat' first
    | split
    | simp [Sys.modes, Svc.fuses, Svc.images]
    | intro _
    | refine (forEach_same fun _ _ => ?_).2 ?_
    | refine (runOp_same (by decide) fun _ _ => ?_).2 ?_
    | refine (runCmd_same (by decide) fun _ _ => ?_).2 ?_
    | (rename_i heq; have hs := congrArg Prod.snd heq; dsimp only at hs; subst hs)

@[simp ↓] theorem paramReadOp_same (h : m &&& 109577024 = 109577024) : Same m s (paramReadOp a0 t) ↔ Same m s t := by
  refine Same.peel ?_ h
  unfold paramReadOp
  repeat' first
    | split
    | simp [Sys.modes, Svc.fuses, Svc.images]
    | intro _
    | refine (forEach_same fun _ _ => ?_).2 ?_
    | refine (runOp_same (by decide) fun _ _ => ?_).2 ?_
    | refine (runCmd_same (by decide) fun _ _ => ?_).2 ?_
    | (rename_i heq; have hs := congrArg Prod.snd heq; dsimp only at hs; subst hs)

theorem execParamRead_ends (h : m &&& 109577152 = 109577152) : Ends m s (execParamRead a0 s) := by
  refine Ends.mono ?_ h
  unfold execParamRead
  repeat' first
    | split
    | simp [Sys.modes, Svc.fuses, Svc.images]
    | intro _
    | refine (forEach_same fun _ _ => ?_).2 ?_
    | refine (runOp_same (by decide) fun _ _ => ?_).2 ?_
    | refine (runCmd_same (by decide) fun _ _ => ?_).2 ?_
    | (rename_i heq; have hs := congrArg Prod.snd heq; dsimp only at hs; subst hs)

@[simp ↓] theorem paramWriteOp_same (h : m &&& 7381843960 = 7381843960) : Same m s (paramWriteOp a0 t) ↔ Same m s t := by
  refine Same.peel ?_ h
  unfold paramWriteOp
  repeat' first
    | split
    | simp [Sys.modes, Svc.fuses, Svc.images]
    | intro _
    | refine (forEach_same fun _ _ => ?_).2 ?_
    | refine (runOp_same (by decide) fun _ _ => ?_).2 ?_
    | refine (runCmd_same (by decide) fun _ _ => ?_).2 ?_
    | (rename_i heq; have hs := congrArg Prod.snd heq; dsimp only at hs; subst hs)

theorem execParamWrite_ends (h : m &&& 7381843960 = 7381843960) : Ends m s (execParamWrite a0 s) := by
  refine Ends.mono ?_ h
  unfold execParamWrite
  repeat' first
    | split
    | simp [Sys.modes, Svc.fuses, Svc.images]
    | intro _
    | refine (forEach_same fun _ _ => ?_).2 ?_
    | refine (runOp_same (by decide) fun _ _ => ?_).2 ?_
    | refine (runCmd_same (by decide) fun _ _ => ?_).2 ?_
    | (rename_i heq; have hs := congrArg Prod.snd heq; dsimp only at hs; subst hs)

@[simp ↓] theorem paramInfoOp_same (h : m &&& 67109696 = 67109696) : Same m s (paramInfoOp a0 t) ↔ Same m s t := by
  refine Same.peel ?_ h
  unfold paramInfoOp
  repeat' first
    | split
    | simp [Sys.modes, Svc.fuses, Svc.images]
    | intro _
    | refine (forEach_same fun _ _ => ?_).2 ?_
    | refine (runOp_same (by decide) fun _ _ => ?_).2 ?_
    | refine (runCmd_same (by decide) fun _ _ => ?_).2 ?_
    | (rename_i heq; have hs := congrArg Prod.snd heq; dsimp only at hs; subst hs)

theorem execParamInfo_ends (h : m &&& 67109824 = 67109824) : Ends m s (execParamInfo a0 s) := by
  refine Ends.mono ?_ h
  unfold execParamInfo
  repeat' first
    | split
    | simp [Sys.modes, Svc.fuses, Svc.images]
    | intro _
    | refine (forEach_same fun _ _ => ?_).2 ?_
    | refine (runOp_same (by decide) fun _ _ => ?_).2 ?_
    | refine (runCmd_same (by decide) fun _ _ => ?_).2 ?_
    | (rename_i heq; have hs := congrArg Prod.snd heq; dsimp only at hs; subst hs)

@[simp ↓] theorem paramListOp_same (h : m &&& 67109696 = 67109696) : Same m s (paramListOp a0 t) ↔ Same m s t := by
  refine Same.peel ?_ h
  unfold paramListOp
  repeat' first
    | split
    | simp [Sys.modes, Svc.fuses, Svc.images]
    | intro _
    | refine (forEach_same fun _ _ => ?_).2 ?_
    | refine (runOp_same (by decide) fun _ _ => ?_).2 ?_
    | refine (runCmd_same (by decide) fun _ _ => ?_).2 ?_
    | (rename_i heq; have hs := congrArg Prod.snd heq; dsimp only at hs; subst hs)

theorem execParamList_ends (h : m &&& 67109824 = 67109824) : Ends m s (execParamList a0 s) := by
  refine Ends.mono ?_ h
  unfold execParamList
  repeat' first
    | split
    | simp [Sys.modes, Svc.fuses, Svc.images]
    | intro _
    | refine (forEach_same fun _ _ => ?_).2 ?_
    | refine (runOp_same (by decide) fun _ _ => ?_).2 ?_
    | refine (runCmd_same (by decide) fun _ _ => ?_).2 ?_
    | (rename_i heq; have hs := congrArg Prod.snd heq; dsimp only at hs; subst hs)

theorem execUndefinedOpcode_ends (h : m &&& 67109824 = 67109824) : Ends m s (execUndefinedOpcode a0 s) := by
  refine Ends.mono ?_ h
  unfold execUndefinedOpcode
  repeat' first
    | split
    | simp [Sys.modes, Svc.fuses, Svc.images]
    | intro _
    | refine (forEach_same fun _ _ => ?_).2 ?_
    | refine (runOp_same (by decide) fun _ _ => ?_).2 ?_
    | refine (runCmd_same (by decide) fun _ _ => ?_).2 ?_
    | (rename_i heq; have hs := congrArg Prod.snd heq; dsimp only at hs; subst hs)

theorem execOutboundPlace_ends (h : m &&& 67109696 = 67109696) : Ends m s (execOutboundPlace a0 s) := by
  refine Ends.mono ?_ h
  unfold execOutboundPlace
  repeat' first
    | split
    | simp [Sys.modes, Svc.fuses, Svc.images]
    | intro _
    | refine (forEach_same fun _ _ => ?_).2 ?_
    | refine (runOp_same (by decide) fun _ _ => ?_).2 ?_
    | refine (runCmd_same (by decide) fun _ _ => ?_).2 ?_
    | (rename_i heq; have hs := congrArg Prod.snd heq; dsimp only at hs; subst hs)

theorem execFragmentTimeout_ends (h : m &&& 109708226 = 109708226) : Ends m s (execFragmentTimeout a0 s) := by
  refine Ends.mono ?_ h
  unfold execFragmentTimeout
  repeat' first
    | split
    | simp [Sys.modes, Svc.fuses, Svc.images]
    | intro _
    | refine (forEach_same fun _ _ => ?_).2 ?_
    | refine (runOp_same (by decide) fun _ _ => ?_).2 ?_
    | refine (runCmd_same (by decide) fun _ _ => ?_).2 ?_
    | (rename_i heq; have hs := congrArg Prod.snd heq; dsimp only at hs; subst hs)

theorem execInboundCollision_ends (h : m &&& 67109824 = 67109824) : Ends m s (execInboundCollision a0 s) := by
  refine Ends.mono ?_ h
  unfold execInboundCollision
  repeat' first
    | split
    | simp [Sys.modes, Svc.fuses, Svc.images]
    | intro _
    | refine (forEach_same fun _ _ => ?_).2 ?_
    | refine (runOp_same (by decide) fun _ _ => ?_).2 ?_
    | refine (runCmd_same (by decide) fun _ _ => ?_).2 ?_
    | (rename_i heq; have hs := congrArg Prod.snd heq; dsimp only at hs; subst hs)

theorem execInboundMalformed_ends (h : m &&& 67109824 = 67109824) : Ends m s (execInboundMalformed a0 s) := by
  refine Ends.mono ?_ h
  unfold execInboundMalformed
  repeat' first
    | split
    | simp [Sys.modes, Svc.fuses, Svc.images]
    | intro _
    | refine (forEach_same fun _ _ => ?_).2 ?_
    | refine (runOp_same (by decide) fun _ _ => ?_).2 ?_
    | refine (runCmd_same (by decide) fun _ _ => ?_).2 ?_
    | (rename_i heq; have hs := congrArg Prod.snd heq; dsimp only at hs; subst hs)

end Sys2Proof.Machine
end

