-- ==== Sys2Proof/Laws/FrameHostModes.lean ====
section
/-! SUPPORT. Frames of the operations of Machine/HostModes.lean. -/

set_option Elab.async false
set_option linter.unusedTactic false
set_option linter.unreachableTactic false
set_option linter.unnecessarySeqFocus false
set_option linter.unusedSimpArgs false

namespace Sys2Proof.Machine

@[simp ↓] theorem commitConfig_same (h : m &&& 16777248 = 16777248) : Same m s (commitConfig t) ↔ Same m s t := by
  refine Same.peel ?_ h
  unfold commitConfig
  repeat' first
    | split
    | simp [Sys.modes, Svc.fuses, Svc.images]
    | intro _
    | refine (forEach_same fun _ _ => ?_).2 ?_
    | refine (runOp_same (by decide) fun _ _ => ?_).2 ?_
    | refine (runCmd_same (by decide) fun _ _ => ?_).2 ?_
    | (rename_i heq; have hs := congrArg Prod.snd heq; dsimp only at hs; subst hs)

@[simp ↓] theorem abandonConfig_same (h : m &&& 393344888 = 393344888) : Same m s (abandonConfig t) ↔ Same m s t := by
  refine Same.peel ?_ h
  unfold abandonConfig
  repeat' first
    | split
    | simp [Sys.modes, Svc.fuses, Svc.images]
    | intro _
    | refine (forEach_same fun _ _ => ?_).2 ?_
    | refine (runOp_same (by decide) fun _ _ => ?_).2 ?_
    | refine (runCmd_same (by decide) fun _ _ => ?_).2 ?_
    | (rename_i heq; have hs := congrArg Prod.snd heq; dsimp only at hs; subst hs)

@[simp ↓] theorem startBlack_same (h : m &&& 2549217144 = 2549217144) : Same m s (startBlack t) ↔ Same m s t := by
  refine Same.peel ?_ h
  unfold startBlack
  repeat' first
    | split
    | simp [Sys.modes, Svc.fuses, Svc.images]
    | intro _
    | refine (forEach_same fun _ _ => ?_).2 ?_
    | refine (runOp_same (by decide) fun _ _ => ?_).2 ?_
    | refine (runCmd_same (by decide) fun _ _ => ?_).2 ?_
    | (rename_i heq; have hs := congrArg Prod.snd heq; dsimp only at hs; subst hs)

@[simp ↓] theorem requestMode_same (h : m &&& 2549217144 = 2549217144) : Same m s (requestMode a0 t) ↔ Same m s t := by
  refine Same.peel ?_ h
  unfold requestMode
  repeat' first
    | split
    | simp [Sys.modes, Svc.fuses, Svc.images]
    | intro _
    | refine (forEach_same fun _ _ => ?_).2 ?_
    | refine (runOp_same (by decide) fun _ _ => ?_).2 ?_
    | refine (runCmd_same (by decide) fun _ _ => ?_).2 ?_
    | (rename_i heq; have hs := congrArg Prod.snd heq; dsimp only at hs; subst hs)

@[simp ↓] theorem modeRequestOp_same (h : m &&& 2549217144 = 2549217144) : Same m s (modeRequestOp a0 t) ↔ Same m s t := by
  refine Same.peel ?_ h
  unfold modeRequestOp
  repeat' first
    | split
    | simp [Sys.modes, Svc.fuses, Svc.images]
    | intro _
    | refine (forEach_same fun _ _ => ?_).2 ?_
    | refine (runOp_same (by decide) fun _ _ => ?_).2 ?_
    | refine (runCmd_same (by decide) fun _ _ => ?_).2 ?_
    | (rename_i heq; have hs := congrArg Prod.snd heq; dsimp only at hs; subst hs)

@[simp ↓] theorem strobeFirst_same {f : Cmd → State → State} {c : Cmd} (h : m &&& 2549217144 = 2549217144)
    (k : ∀ c v, Same m s (f c v) ↔ Same m s v) : Same m s (strobeFirst f c t) ↔ Same m s t := by
  simp [strobeFirst, h, k]

theorem execModeRequest_ends (h : m &&& 2549217272 = 2549217272) : Ends m s (execModeRequest a0 s) := by
  refine Ends.mono ?_ h
  unfold execModeRequest
  repeat' first
    | split
    | simp [Sys.modes, Svc.fuses, Svc.images]
    | intro _
    | refine (forEach_same fun _ _ => ?_).2 ?_
    | refine (runOp_same (by decide) fun _ _ => ?_).2 ?_
    | refine (runCmd_same (by decide) fun _ _ => ?_).2 ?_
    | (rename_i heq; have hs := congrArg Prod.snd heq; dsimp only at hs; subst hs)

@[simp ↓] theorem isolateAll_same (h : m &&& 2549217144 = 2549217144) : Same m s (isolateAll a0 t) ↔ Same m s t := by
  refine Same.peel ?_ h
  unfold isolateAll
  repeat' first
    | split
    | simp [Sys.modes, Svc.fuses, Svc.images]
    | intro _
    | refine (forEach_same fun _ _ => ?_).2 ?_
    | refine (runOp_same (by decide) fun _ _ => ?_).2 ?_
    | refine (runCmd_same (by decide) fun _ _ => ?_).2 ?_
    | (rename_i heq; have hs := congrArg Prod.snd heq; dsimp only at hs; subst hs)

@[simp ↓] theorem isolateOp_same (h : m &&& 2549217144 = 2549217144) : Same m s (isolateOp a0 t) ↔ Same m s t := by
  refine Same.peel ?_ h
  unfold isolateOp
  repeat' first
    | split
    | simp [Sys.modes, Svc.fuses, Svc.images]
    | intro _
    | refine (forEach_same fun _ _ => ?_).2 ?_
    | refine (runOp_same (by decide) fun _ _ => ?_).2 ?_
    | refine (runCmd_same (by decide) fun _ _ => ?_).2 ?_
    | (rename_i heq; have hs := congrArg Prod.snd heq; dsimp only at hs; subst hs)

theorem execIsolate_ends (h : m &&& 2549217272 = 2549217272) : Ends m s (execIsolate a0 s) := by
  refine Ends.mono ?_ h
  unfold execIsolate
  repeat' first
    | split
    | simp [Sys.modes, Svc.fuses, Svc.images]
    | intro _
    | refine (forEach_same fun _ _ => ?_).2 ?_
    | refine (runOp_same (by decide) fun _ _ => ?_).2 ?_
    | refine (runCmd_same (by decide) fun _ _ => ?_).2 ?_
    | (rename_i heq; have hs := congrArg Prod.snd heq; dsimp only at hs; subst hs)

@[simp ↓] theorem restoreCh_same (h : m &&& 1024 = 1024) : Same m s (restoreCh a0 t) ↔ Same m s t := by
  refine Same.peel ?_ h
  unfold restoreCh
  repeat' first
    | split
    | simp [Sys.modes, Svc.fuses, Svc.images]
    | intro _
    | refine (forEach_same fun _ _ => ?_).2 ?_
    | refine (runOp_same (by decide) fun _ _ => ?_).2 ?_
    | refine (runCmd_same (by decide) fun _ _ => ?_).2 ?_
    | (rename_i heq; have hs := congrArg Prod.snd heq; dsimp only at hs; subst hs)

@[simp ↓] theorem restoreAll_same (h : m &&& 2549217144 = 2549217144) : Same m s (restoreAll a0 t) ↔ Same m s t := by
  refine Same.peel ?_ h
  unfold restoreAll
  repeat' first
    | split
    | simp [Sys.modes, Svc.fuses, Svc.images]
    | intro _
    | refine (forEach_same fun _ _ => ?_).2 ?_
    | refine (runOp_same (by decide) fun _ _ => ?_).2 ?_
    | refine (runCmd_same (by decide) fun _ _ => ?_).2 ?_
    | (rename_i heq; have hs := congrArg Prod.snd heq; dsimp only at hs; subst hs)

@[simp ↓] theorem restoreOp_same (h : m &&& 2549217144 = 2549217144) : Same m s (restoreOp a0 t) ↔ Same m s t := by
  refine Same.peel ?_ h
  unfold restoreOp
  repeat' first
    | split
    | simp [Sys.modes, Svc.fuses, Svc.images]
    | intro _
    | refine (forEach_same fun _ _ => ?_).2 ?_
    | refine (runOp_same (by decide) fun _ _ => ?_).2 ?_
    | refine (runCmd_same (by decide) fun _ _ => ?_).2 ?_
    | (rename_i heq; have hs := congrArg Prod.snd heq; dsimp only at hs; subst hs)

theorem execRestore_ends (h : m &&& 2549217272 = 2549217272) : Ends m s (execRestore a0 s) := by
  refine Ends.mono ?_ h
  unfold execRestore
  repeat' first
    | split
    | simp [Sys.modes, Svc.fuses, Svc.images]
    | intro _
    | refine (forEach_same fun _ _ => ?_).2 ?_
    | refine (runOp_same (by decide) fun _ _ => ?_).2 ?_
    | refine (runCmd_same (by decide) fun _ _ => ?_).2 ?_
    | (rename_i heq; have hs := congrArg Prod.snd heq; dsimp only at hs; subst hs)

@[simp ↓] theorem reloadGroups_same (h : m &&& 67111424 = 67111424) : Same m s (reloadGroups a0 a1 t) ↔ Same m s t := by
  refine Same.peel ?_ h
  unfold reloadGroups
  repeat' first
    | split
    | simp [Sys.modes, Svc.fuses, Svc.images]
    | intro _
    | refine (forEach_same fun _ _ => ?_).2 ?_
    | refine (runOp_same (by decide) fun _ _ => ?_).2 ?_
    | refine (runCmd_same (by decide) fun _ _ => ?_).2 ?_
    | (rename_i heq; have hs := congrArg Prod.snd heq; dsimp only at hs; subst hs)

@[simp ↓] theorem testGroups_same (h : m &&& 100666176 = 100666176) : Same m s (testGroups a0 a1 t) ↔ Same m s t := by
  refine Same.peel ?_ h
  unfold testGroups
  repeat' first
    | split
    | simp [Sys.modes, Svc.fuses, Svc.images]
    | intro _
    | refine (forEach_same fun _ _ => ?_).2 ?_
    | refine (runOp_same (by decide) fun _ _ => ?_).2 ?_
    | refine (runCmd_same (by decide) fun _ _ => ?_).2 ?_
    | (rename_i heq; have hs := congrArg Prod.snd heq; dsimp only at hs; subst hs)

@[simp ↓] theorem groupCtrlOp_same (h : m &&& 100666176 = 100666176) : Same m s (groupCtrlOp a0 a1 t) ↔ Same m s t := by
  refine Same.peel ?_ h
  unfold groupCtrlOp
  repeat' first
    | split
    | simp [Sys.modes, Svc.fuses, Svc.images]
    | intro _
    | refine (forEach_same fun _ _ => ?_).2 ?_
    | refine (runOp_same (by decide) fun _ _ => ?_).2 ?_
    | refine (runCmd_same (by decide) fun _ _ => ?_).2 ?_
    | (rename_i heq; have hs := congrArg Prod.snd heq; dsimp only at hs; subst hs)

theorem execGroupCtrlReload_ends (h : m &&& 100666304 = 100666304) : Ends m s (execGroupCtrlReload a0 s) := by
  refine Ends.mono ?_ h
  unfold execGroupCtrlReload
  repeat' first
    | split
    | simp [Sys.modes, Svc.fuses, Svc.images]
    | intro _
    | refine (forEach_same fun _ _ => ?_).2 ?_
    | refine (runOp_same (by decide) fun _ _ => ?_).2 ?_
    | refine (runCmd_same (by decide) fun _ _ => ?_).2 ?_
    | (rename_i heq; have hs := congrArg Prod.snd heq; dsimp only at hs; subst hs)

theorem execGroupCtrlSelftest_ends (h : m &&& 100666304 = 100666304) : Ends m s (execGroupCtrlSelftest a0 a1 s) := by
  refine Ends.mono ?_ h
  unfold execGroupCtrlSelftest
  repeat' first
    | split
    | simp [Sys.modes, Svc.fuses, Svc.images]
    | intro _
    | refine (forEach_same fun _ _ => ?_).2 ?_
    | refine (runOp_same (by decide) fun _ _ => ?_).2 ?_
    | refine (runCmd_same (by decide) fun _ _ => ?_).2 ?_
    | (rename_i heq; have hs := congrArg Prod.snd heq; dsimp only at hs; subst hs)

@[simp ↓] theorem sfkWriteOp_same (h : m &&& 67117888 = 67117888) : Same m s (sfkWriteOp a0 t) ↔ Same m s t := by
  refine Same.peel ?_ h
  unfold sfkWriteOp
  repeat' first
    | split
    | simp [Sys.modes, Svc.fuses, Svc.images]
    | intro _
    | refine (forEach_same fun _ _ => ?_).2 ?_
    | refine (runOp_same (by decide) fun _ _ => ?_).2 ?_
    | refine (runCmd_same (by decide) fun _ _ => ?_).2 ?_
    | (rename_i heq; have hs := congrArg Prod.snd heq; dsimp only at hs; subst hs)

theorem execSfkWrite_ends (h : m &&& 67118016 = 67118016) : Ends m s (execSfkWrite a0 s) := by
  refine Ends.mono ?_ h
  unfold execSfkWrite
  repeat' first
    | split
    | simp [Sys.modes, Svc.fuses, Svc.images]
    | intro _
    | refine (forEach_same fun _ _ => ?_).2 ?_
    | refine (runOp_same (by decide) fun _ _ => ?_).2 ?_
    | refine (runCmd_same (by decide) fun _ _ => ?_).2 ?_
    | (rename_i heq; have hs := congrArg Prod.snd heq; dsimp only at hs; subst hs)

end Sys2Proof.Machine
end

