-- ==== Sys2Proof/Laws/FrameChCtrl.lean ====
section
/-! SUPPORT. Frames of the operations of Machine/ChCtrl.lean. -/

set_option Elab.async false
set_option linter.unusedTactic false
set_option linter.unreachableTactic false
set_option linter.unnecessarySeqFocus false
set_option linter.unusedSimpArgs false

namespace Sys2Proof.Machine

@[simp ↓] theorem afterCtrl_same (h : m &&& 372250432 = 372250432) : Same m s (afterCtrl a0 t) ↔ Same m s t := by
  refine Same.peel ?_ h
  unfold afterCtrl
  repeat' first
    | split
    | simp [Sys.modes, Svc.fuses, Svc.images]
    | intro _
    | refine (forEach_same fun _ _ => ?_).2 ?_
    | refine (runOp_same (by decide) fun _ _ => ?_).2 ?_
    | refine (runCmd_same (by decide) fun _ _ => ?_).2 ?_
    | (rename_i heq; have hs := congrArg Prod.snd heq; dsimp only at hs; subst hs)

@[simp ↓] theorem ctrlNamed_same {id act : Nat} {c : Ch} {p : SwRun × State} (h : m &&& 2549217144 = 2549217144) : Same m s (ctrlNamed id act c p).2 ↔ Same m s p.2 := by
  refine Same.peel ?_ h
  unfold ctrlNamed
  dsimp only
  split <;> simp

@[simp ↓] theorem chCtrlOp_same (h : m &&& 2549217144 = 2549217144) : Same m s (chCtrlOp a0 a1 t) ↔ Same m s t := by
  refine Same.peel ?_ h
  unfold chCtrlOp
  repeat' first
    | split
    | simp
    | intro _

@[simp ↓] theorem chCtrlReservedOp_same (h : m &&& 67109696 = 67109696) : Same m s (chCtrlReservedOp a0 t) ↔ Same m s t := by
  refine Same.peel ?_ h
  unfold chCtrlReservedOp
  repeat' first
    | split
    | simp [Sys.modes, Svc.fuses, Svc.images]
    | intro _
    | refine (forEach_same fun _ _ => ?_).2 ?_
    | refine (runOp_same (by decide) fun _ _ => ?_).2 ?_
    | refine (runCmd_same (by decide) fun _ _ => ?_).2 ?_
    | (rename_i heq; have hs := congrArg Prod.snd heq; dsimp only at hs; subst hs)

theorem execChCtrlReservedAction_ends (h : m &&& 67109824 = 67109824) : Ends m s (execChCtrlReservedAction a0 s) := by
  refine Ends.mono ?_ h
  unfold execChCtrlReservedAction
  repeat' first
    | split
    | simp [Sys.modes, Svc.fuses, Svc.images]
    | intro _
    | refine (forEach_same fun _ _ => ?_).2 ?_
    | refine (runOp_same (by decide) fun _ _ => ?_).2 ?_
    | refine (runCmd_same (by decide) fun _ _ => ?_).2 ?_
    | (rename_i heq; have hs := congrArg Prod.snd heq; dsimp only at hs; subst hs)

theorem execChCtrlOpen_ends (h : m &&& 2549217272 = 2549217272) : Ends m s (execChCtrlOpen a0 s) := by
  refine Ends.mono ?_ h
  unfold execChCtrlOpen
  repeat' first
    | split
    | simp [Sys.modes, Svc.fuses, Svc.images]
    | intro _
    | refine (forEach_same fun _ _ => ?_).2 ?_
    | refine (runOp_same (by decide) fun _ _ => ?_).2 ?_
    | refine (runCmd_same (by decide) fun _ _ => ?_).2 ?_
    | (rename_i heq; have hs := congrArg Prod.snd heq; dsimp only at hs; subst hs)

theorem execChCtrlClose_ends (h : m &&& 2549217272 = 2549217272) : Ends m s (execChCtrlClose a0 s) := by
  refine Ends.mono ?_ h
  unfold execChCtrlClose
  repeat' first
    | split
    | simp [Sys.modes, Svc.fuses, Svc.images]
    | intro _
    | refine (forEach_same fun _ _ => ?_).2 ?_
    | refine (runOp_same (by decide) fun _ _ => ?_).2 ?_
    | refine (runCmd_same (by decide) fun _ _ => ?_).2 ?_
    | (rename_i heq; have hs := congrArg Prod.snd heq; dsimp only at hs; subst hs)

theorem execChCtrlArm_ends (h : m &&& 2549217272 = 2549217272) : Ends m s (execChCtrlArm a0 s) := by
  refine Ends.mono ?_ h
  unfold execChCtrlArm
  repeat' first
    | split
    | simp [Sys.modes, Svc.fuses, Svc.images]
    | intro _
    | refine (forEach_same fun _ _ => ?_).2 ?_
    | refine (runOp_same (by decide) fun _ _ => ?_).2 ?_
    | refine (runCmd_same (by decide) fun _ _ => ?_).2 ?_
    | (rename_i heq; have hs := congrArg Prod.snd heq; dsimp only at hs; subst hs)

theorem execChCtrlDisarm_ends (h : m &&& 2549217272 = 2549217272) : Ends m s (execChCtrlDisarm a0 s) := by
  refine Ends.mono ?_ h
  unfold execChCtrlDisarm
  repeat' first
    | split
    | simp [Sys.modes, Svc.fuses, Svc.images]
    | intro _
    | refine (forEach_same fun _ _ => ?_).2 ?_
    | refine (runOp_same (by decide) fun _ _ => ?_).2 ?_
    | refine (runCmd_same (by decide) fun _ _ => ?_).2 ?_
    | (rename_i heq; have hs := congrArg Prod.snd heq; dsimp only at hs; subst hs)

theorem execChCtrlClear_ends (h : m &&& 2549217272 = 2549217272) : Ends m s (execChCtrlClear a0 s) := by
  refine Ends.mono ?_ h
  unfold execChCtrlClear
  repeat' first
    | split
    | simp [Sys.modes, Svc.fuses, Svc.images]
    | intro _
    | refine (forEach_same fun _ _ => ?_).2 ?_
    | refine (runOp_same (by decide) fun _ _ => ?_).2 ?_
    | refine (runCmd_same (by decide) fun _ _ => ?_).2 ?_
    | (rename_i heq; have hs := congrArg Prod.snd heq; dsimp only at hs; subst hs)

theorem execChCtrlPresence_ends (h : m &&& 2549217272 = 2549217272) : Ends m s (execChCtrlPresence a0 s) := by
  refine Ends.mono ?_ h
  unfold execChCtrlPresence
  repeat' first
    | split
    | simp [Sys.modes, Svc.fuses, Svc.images]
    | intro _
    | refine (forEach_same fun _ _ => ?_).2 ?_
    | refine (runOp_same (by decide) fun _ _ => ?_).2 ?_
    | refine (runCmd_same (by decide) fun _ _ => ?_).2 ?_
    | (rename_i heq; have hs := congrArg Prod.snd heq; dsimp only at hs; subst hs)

@[simp ↓] theorem heldMoment_same (h : m &&& 16384 = 16384) : Same m s (heldMoment a0 t) ↔ Same m s t := by
  refine Same.peel ?_ h
  unfold heldMoment
  repeat' first
    | split
    | simp [Sys.modes, Svc.fuses, Svc.images]
    | intro _
    | refine (forEach_same fun _ _ => ?_).2 ?_
    | refine (runOp_same (by decide) fun _ _ => ?_).2 ?_
    | refine (runCmd_same (by decide) fun _ _ => ?_).2 ?_
    | (rename_i heq; have hs := congrArg Prod.snd heq; dsimp only at hs; subst hs)

@[simp ↓] theorem endGroupCtrl_same (h : m &&& 67111744 = 67111744) : Same m s (endGroupCtrl a0 t) ↔ Same m s t := by
  refine Same.peel ?_ h
  unfold endGroupCtrl
  repeat' first
    | split
    | simp [Sys.modes, Svc.fuses, Svc.images]
    | intro _
    | refine (forEach_same fun _ _ => ?_).2 ?_
    | refine (runOp_same (by decide) fun _ _ => ?_).2 ?_
    | refine (runCmd_same (by decide) fun _ _ => ?_).2 ?_
    | (rename_i heq; have hs := congrArg Prod.snd heq; dsimp only at hs; subst hs)

theorem execGroupReloadDone_ends (h : m &&& 6844973048 = 6844973048) : Ends m s (execGroupReloadDone a0 a1 s) := by
  refine Ends.mono ?_ h
  unfold execGroupReloadDone
  repeat' first
    | split
    | simp [Sys.modes, Svc.fuses, Svc.images]
    | intro _
    | refine (forEach_same fun _ _ => ?_).2 ?_
    | refine (runOp_same (by decide) fun _ _ => ?_).2 ?_
    | refine (runCmd_same (by decide) fun _ _ => ?_).2 ?_
    | (rename_i heq; have hs := congrArg Prod.snd heq; dsimp only at hs; subst hs)

@[simp ↓] theorem opFail_same (h : m &&& 67109696 = 67109696) : Same m s (opFail a0 a1 a2 t) ↔ Same m s t := by
  refine Same.peel ?_ h
  unfold opFail
  repeat' first
    | split
    | simp [Sys.modes, Svc.fuses, Svc.images]
    | intro _
    | refine (forEach_same fun _ _ => ?_).2 ?_
    | refine (runOp_same (by decide) fun _ _ => ?_).2 ?_
    | refine (runCmd_same (by decide) fun _ _ => ?_).2 ?_
    | (rename_i heq; have hs := congrArg Prod.snd heq; dsimp only at hs; subst hs)

@[simp ↓] theorem opStartUndefinedOp_same (h : m &&& 67109696 = 67109696) : Same m s (opStartUndefinedOp a0 t) ↔ Same m s t := by
  refine Same.peel ?_ h
  unfold opStartUndefinedOp
  repeat' first
    | split
    | simp [Sys.modes, Svc.fuses, Svc.images]
    | intro _
    | refine (forEach_same fun _ _ => ?_).2 ?_
    | refine (runOp_same (by decide) fun _ _ => ?_).2 ?_
    | refine (runCmd_same (by decide) fun _ _ => ?_).2 ?_
    | (rename_i heq; have hs := congrArg Prod.snd heq; dsimp only at hs; subst hs)

theorem execOpStartUndefinedCode_ends (h : m &&& 67109824 = 67109824) : Ends m s (execOpStartUndefinedCode a0 s) := by
  refine Ends.mono ?_ h
  unfold execOpStartUndefinedCode
  repeat' first
    | split
    | simp [Sys.modes, Svc.fuses, Svc.images]
    | intro _
    | refine (forEach_same fun _ _ => ?_).2 ?_
    | refine (runOp_same (by decide) fun _ _ => ?_).2 ?_
    | refine (runCmd_same (by decide) fun _ _ => ?_).2 ?_
    | (rename_i heq; have hs := congrArg Prod.snd heq; dsimp only at hs; subst hs)

@[simp ↓] theorem opStartOp_same (h : m &&& 67109696 = 67109696) (k : ∀ c v, Same m s (file c v) ↔ Same m s v) :
    Same m s (opStartOp code argsOk file c t) ↔ Same m s t := by
  simp [opStartOp, h, k]

@[simp ↓] theorem fileHostInrush_same (h : m &&& 372250432 = 372250432) : Same m s (fileHostInrush a0 t) ↔ Same m s t := by
  refine Same.peel ?_ h
  unfold fileHostInrush
  repeat' first
    | split
    | simp [Sys.modes, Svc.fuses, Svc.images]
    | intro _
    | refine (forEach_same fun _ _ => ?_).2 ?_
    | refine (runOp_same (by decide) fun _ _ => ?_).2 ?_
    | refine (runCmd_same (by decide) fun _ _ => ?_).2 ?_
    | (rename_i heq; have hs := congrArg Prod.snd heq; dsimp only at hs; subst hs)

theorem execOpStartInrush_ends (h : m &&& 372250560 = 372250560) : Ends m s (execOpStartInrush a0 s) := by
  refine Ends.mono ?_ h
  unfold execOpStartInrush
  repeat' first
    | split
    | simp [Sys.modes, Svc.fuses, Svc.images]
    | intro _
    | refine (forEach_same fun _ _ => ?_).2 ?_
    | refine (runOp_same (by decide) fun _ _ => ?_).2 ?_
    | refine (runCmd_same (by decide) fun _ _ => ?_).2 ?_
    | (rename_i heq; have hs := congrArg Prod.snd heq; dsimp only at hs; subst hs)

@[simp ↓] theorem fileFet_same (h : m &&& 372250432 = 372250432) : Same m s (fileFet a0 t) ↔ Same m s t := by
  refine Same.peel ?_ h
  unfold fileFet
  repeat' first
    | split
    | simp [Sys.modes, Svc.fuses, Svc.images]
    | intro _
    | refine (forEach_same fun _ _ => ?_).2 ?_
    | refine (runOp_same (by decide) fun _ _ => ?_).2 ?_
    | refine (runCmd_same (by decide) fun _ _ => ?_).2 ?_
    | (rename_i heq; have hs := congrArg Prod.snd heq; dsimp only at hs; subst hs)

theorem execOpStartFetTest_ends (h : m &&& 372250560 = 372250560) : Ends m s (execOpStartFetTest a0 s) := by
  refine Ends.mono ?_ h
  unfold execOpStartFetTest
  repeat' first
    | split
    | simp [Sys.modes, Svc.fuses, Svc.images]
    | intro _
    | refine (forEach_same fun _ _ => ?_).2 ?_
    | refine (runOp_same (by decide) fun _ _ => ?_).2 ?_
    | refine (runCmd_same (by decide) fun _ _ => ?_).2 ?_
    | (rename_i heq; have hs := congrArg Prod.snd heq; dsimp only at hs; subst hs)

@[simp ↓] theorem fileTest_same (h : m &&& 372250432 = 372250432) : Same m s (fileTest a0 a1 t) ↔ Same m s t := by
  refine Same.peel ?_ h
  unfold fileTest
  repeat' first
    | split
    | simp [Sys.modes, Svc.fuses, Svc.images]
    | intro _
    | refine (forEach_same fun _ _ => ?_).2 ?_
    | refine (runOp_same (by decide) fun _ _ => ?_).2 ?_
    | refine (runCmd_same (by decide) fun _ _ => ?_).2 ?_
    | (rename_i heq; have hs := congrArg Prod.snd heq; dsimp only at hs; subst hs)

theorem execOpStartCapTest_ends (h : m &&& 372250560 = 372250560) : Ends m s (execOpStartCapTest a0 s) := by
  refine Ends.mono ?_ h
  unfold execOpStartCapTest
  repeat' first
    | split
    | simp [Sys.modes, Svc.fuses, Svc.images]
    | intro _
    | refine (forEach_same fun _ _ => ?_).2 ?_
    | refine (runOp_same (by decide) fun _ _ => ?_).2 ?_
    | refine (runCmd_same (by decide) fun _ _ => ?_).2 ?_
    | (rename_i heq; have hs := congrArg Prod.snd heq; dsimp only at hs; subst hs)

theorem execOpStartDurTest_ends (h : m &&& 372250560 = 372250560) : Ends m s (execOpStartDurTest a0 s) := by
  refine Ends.mono ?_ h
  unfold execOpStartDurTest
  repeat' first
    | split
    | simp [Sys.modes, Svc.fuses, Svc.images]
    | intro _
    | refine (forEach_same fun _ _ => ?_).2 ?_
    | refine (runOp_same (by decide) fun _ _ => ?_).2 ?_
    | refine (runCmd_same (by decide) fun _ _ => ?_).2 ?_
    | (rename_i heq; have hs := congrArg Prod.snd heq; dsimp only at hs; subst hs)

end Sys2Proof.Machine
end

