-- ==== Sys2Proof/Laws/FrameEventLog.lean ====
section
/-! SUPPORT. Frames of the operations of Machine/EventLog.lean. -/

set_option Elab.async false
set_option linter.unusedTactic false
set_option linter.unreachableTactic false
set_option linter.unnecessarySeqFocus false
set_option linter.unusedSimpArgs false

namespace Sys2Proof.Machine

@[simp ↓] theorem evtReadOp_same (h : m &&& 67109696 = 67109696) : Same m s (evtReadOp a0 t) ↔ Same m s t := by
  refine Same.peel ?_ h
  unfold evtReadOp
  repeat' first
    | split
    | simp [Sys.modes, Svc.fuses, Svc.images]
    | intro _
    | refine (forEach_same fun _ _ => ?_).2 ?_
    | refine (runOp_same (by decide) fun _ _ => ?_).2 ?_
    | refine (runCmd_same (by decide) fun _ _ => ?_).2 ?_
    | (rename_i heq; have hs := congrArg Prod.snd heq; dsimp only at hs; subst hs)

theorem execEvtRead_ends (h : m &&& 67109824 = 67109824) : Ends m s (execEvtRead a0 s) := by
  refine Ends.mono ?_ h
  unfold execEvtRead
  repeat' first
    | split
    | simp [Sys.modes, Svc.fuses, Svc.images]
    | intro _
    | refine (forEach_same fun _ _ => ?_).2 ?_
    | refine (runOp_same (by decide) fun _ _ => ?_).2 ?_
    | refine (runCmd_same (by decide) fun _ _ => ?_).2 ?_
    | (rename_i heq; have hs := congrArg Prod.snd heq; dsimp only at hs; subst hs)

@[simp ↓] theorem evtClearOp_same (h : m &&& 100664128 = 100664128) : Same m s (evtClearOp a0 t) ↔ Same m s t := by
  refine Same.peel ?_ h
  unfold evtClearOp
  repeat' first
    | split
    | simp [Sys.modes, Svc.fuses, Svc.images]
    | intro _
    | refine (forEach_same fun _ _ => ?_).2 ?_
    | refine (runOp_same (by decide) fun _ _ => ?_).2 ?_
    | refine (runCmd_same (by decide) fun _ _ => ?_).2 ?_
    | (rename_i heq; have hs := congrArg Prod.snd heq; dsimp only at hs; subst hs)

theorem execEvtClear_ends (h : m &&& 100664256 = 100664256) : Ends m s (execEvtClear a0 s) := by
  refine Ends.mono ?_ h
  unfold execEvtClear
  repeat' first
    | split
    | simp [Sys.modes, Svc.fuses, Svc.images]
    | intro _
    | refine (forEach_same fun _ _ => ?_).2 ?_
    | refine (runOp_same (by decide) fun _ _ => ?_).2 ?_
    | refine (runCmd_same (by decide) fun _ _ => ?_).2 ?_
    | (rename_i heq; have hs := congrArg Prod.snd heq; dsimp only at hs; subst hs)

@[simp ↓] theorem writePage_same (h : m &&& 33554432 = 33554432) : Same m s (writePage a0 a1 t) ↔ Same m s t := by
  refine Same.peel ?_ h
  unfold writePage
  repeat' first
    | split
    | simp [Sys.modes, Svc.fuses, Svc.images]
    | intro _
    | refine (forEach_same fun _ _ => ?_).2 ?_
    | refine (runOp_same (by decide) fun _ _ => ?_).2 ?_
    | refine (runCmd_same (by decide) fun _ _ => ?_).2 ?_
    | (rename_i heq; have hs := congrArg Prod.snd heq; dsimp only at hs; subst hs)

@[simp ↓] theorem writeLog_same (h : m &&& 33554432 = 33554432) : Same m s (writeLog t) ↔ Same m s t := by
  refine Same.peel ?_ h
  unfold writeLog
  repeat' first
    | split
    | simp [Sys.modes, Svc.fuses, Svc.images]
    | intro _
    | refine (forEach_same fun _ _ => ?_).2 ?_
    | refine (runOp_same (by decide) fun _ _ => ?_).2 ?_
    | refine (runCmd_same (by decide) fun _ _ => ?_).2 ?_
    | (rename_i heq; have hs := congrArg Prod.snd heq; dsimp only at hs; subst hs)

@[simp ↓] theorem offerLog_same (h : m &&& 33554432 = 33554432) : Same m s (offerLog t) ↔ Same m s t := by
  refine Same.peel ?_ h
  unfold offerLog
  repeat' first
    | split
    | simp [Sys.modes, Svc.fuses, Svc.images]
    | intro _
    | refine (forEach_same fun _ _ => ?_).2 ?_
    | refine (runOp_same (by decide) fun _ _ => ?_).2 ?_
    | refine (runCmd_same (by decide) fun _ _ => ?_).2 ?_
    | (rename_i heq; have hs := congrArg Prod.snd heq; dsimp only at hs; subst hs)

theorem execLogWrite_ends (h : m &&& 109708098 = 109708098) : Ends m s (execLogWrite s) := by
  refine Ends.mono ?_ h
  unfold execLogWrite
  repeat' first
    | split
    | simp [Sys.modes, Svc.fuses, Svc.images]
    | intro _
    | refine (forEach_same fun _ _ => ?_).2 ?_
    | refine (runOp_same (by decide) fun _ _ => ?_).2 ?_
    | refine (runCmd_same (by decide) fun _ _ => ?_).2 ?_
    | (rename_i heq; have hs := congrArg Prod.snd heq; dsimp only at hs; subst hs)

theorem execRateWindowEnd_ends (h : m &&& 109708098 = 109708098) : Ends m s (execRateWindowEnd s) := by
  refine Ends.mono ?_ h
  unfold execRateWindowEnd
  repeat' first
    | split
    | simp [Sys.modes, Svc.fuses, Svc.images]
    | intro _
    | refine (forEach_same fun _ _ => ?_).2 ?_
    | refine (runOp_same (by decide) fun _ _ => ?_).2 ?_
    | refine (runCmd_same (by decide) fun _ _ => ?_).2 ?_
    | (rename_i heq; have hs := congrArg Prod.snd heq; dsimp only at hs; subst hs)

@[simp ↓] theorem enterDrops_same (h : m &&& 100664128 = 100664128) : Same m s (enterDrops a0 t) ↔ Same m s t := by
  refine Same.peel ?_ h
  induction a0 generalizing t with
  | nil => simp [enterDrops]
  | cons d l ih =>
    have ih' : ∀ v w : State, Same 100664128 v (enterDrops l w) ↔ Same 100664128 v w :=
      fun _ _ => Same.peel ih (Nat.and_self _)
    simp [enterDrops, ih']

theorem execDropSummary_ends (h : m &&& 100664128 = 100664128) : Ends m s (execDropSummary s) := by
  refine Ends.mono ?_ h
  unfold execDropSummary
  repeat' first
    | split
    | simp [Sys.modes, Svc.fuses, Svc.images]
    | intro _
    | refine (forEach_same fun _ _ => ?_).2 ?_
    | refine (runOp_same (by decide) fun _ _ => ?_).2 ?_
    | refine (runCmd_same (by decide) fun _ _ => ?_).2 ?_
    | (rename_i heq; have hs := congrArg Prod.snd heq; dsimp only at hs; subst hs)

@[simp ↓] theorem snapLatch_same (h : m &&& 67175232 = 67175232) : Same m s (snapLatch a0 t) ↔ Same m s t := by
  refine Same.peel ?_ h
  unfold snapLatch
  repeat' first
    | split
    | simp [Sys.modes, Svc.fuses, Svc.images]
    | intro _
    | refine (forEach_same fun _ _ => ?_).2 ?_
    | refine (runOp_same (by decide) fun _ _ => ?_).2 ?_
    | refine (runCmd_same (by decide) fun _ _ => ?_).2 ?_
    | (rename_i heq; have hs := congrArg Prod.snd heq; dsimp only at hs; subst hs)

@[simp ↓] theorem snapReadOp_same (h : m &&& 67175232 = 67175232) : Same m s (snapReadOp a0 a1 a2 t) ↔ Same m s t := by
  refine Same.peel ?_ h
  unfold snapReadOp
  repeat' first
    | split
    | simp [Sys.modes, Svc.fuses, Svc.images]
    | intro _
    | refine (forEach_same fun _ _ => ?_).2 ?_
    | refine (runOp_same (by decide) fun _ _ => ?_).2 ?_
    | refine (runCmd_same (by decide) fun _ _ => ?_).2 ?_
    | (rename_i heq; have hs := congrArg Prod.snd heq; dsimp only at hs; subst hs)

theorem execSnapReadAcc_ends (h : m &&& 67175360 = 67175360) : Ends m s (execSnapReadAcc a0 s) := by
  refine Ends.mono ?_ h
  unfold execSnapReadAcc
  repeat' first
    | split
    | simp [Sys.modes, Svc.fuses, Svc.images]
    | intro _
    | refine (forEach_same fun _ _ => ?_).2 ?_
    | refine (runOp_same (by decide) fun _ _ => ?_).2 ?_
    | refine (runCmd_same (by decide) fun _ _ => ?_).2 ?_
    | (rename_i heq; have hs := congrArg Prod.snd heq; dsimp only at hs; subst hs)

theorem execSnapReadTrk_ends (h : m &&& 67175360 = 67175360) : Ends m s (execSnapReadTrk a0 s) := by
  refine Ends.mono ?_ h
  unfold execSnapReadTrk
  repeat' first
    | split
    | simp [Sys.modes, Svc.fuses, Svc.images]
    | intro _
    | refine (forEach_same fun _ _ => ?_).2 ?_
    | refine (runOp_same (by decide) fun _ _ => ?_).2 ?_
    | refine (runCmd_same (by decide) fun _ _ => ?_).2 ?_
    | (rename_i heq; have hs := congrArg Prod.snd heq; dsimp only at hs; subst hs)

end Sys2Proof.Machine
end

