-- ==== Sys2Proof/Laws/FrameLink.lean ====
section
/-! SUPPORT. Frames of the operations of Machine/Link.lean. -/

set_option Elab.async false
set_option linter.unusedTactic false
set_option linter.unreachableTactic false
set_option linter.unnecessarySeqFocus false
set_option linter.unusedSimpArgs false

namespace Sys2Proof.Machine

@[simp ↓] theorem leaveSafeKeep_same (h : m &&& 6844973048 = 6844973048) : Same m s (leaveSafeKeep a0 t) ↔ Same m s t := by
  refine Same.peel ?_ h
  unfold leaveSafeKeep
  repeat' first
    | split
    | simp [Sys.modes, Svc.fuses, Svc.images]
    | intro _
    | refine (forEach_same fun _ _ => ?_).2 ?_
    | refine (runOp_same (by decide) fun _ _ => ?_).2 ?_
    | refine (runCmd_same (by decide) fun _ _ => ?_).2 ?_
    | (rename_i heq; have hs := congrArg Prod.snd heq; dsimp only at hs; subst hs)

@[simp ↓] theorem seeBootsel_same (h : m &&& 32 = 32) : Same m s (seeBootsel a0 t) ↔ Same m s t := by
  refine Same.peel ?_ h
  unfold seeBootsel
  repeat' first
    | split
    | simp [Sys.modes, Svc.fuses, Svc.images]
    | intro _
    | refine (forEach_same fun _ _ => ?_).2 ?_
    | refine (runOp_same (by decide) fun _ _ => ?_).2 ?_
    | refine (runCmd_same (by decide) fun _ _ => ?_).2 ?_
    | (rename_i heq; have hs := congrArg Prod.snd heq; dsimp only at hs; subst hs)

@[simp ↓] theorem restartBy_same (h : m &&& 6979190776 = 6979190776) : Same m s (restartBy a0 a1 t) ↔ Same m s t := by
  refine Same.peel ?_ h
  unfold restartBy
  repeat' first
    | split
    | simp [Sys.modes, Svc.fuses, Svc.images]
    | intro _
    | refine (forEach_same fun _ _ => ?_).2 ?_
    | refine (runOp_same (by decide) fun _ _ => ?_).2 ?_
    | refine (runCmd_same (by decide) fun _ _ => ?_).2 ?_
    | (rename_i heq; have hs := congrArg Prod.snd heq; dsimp only at hs; subst hs)

@[simp ↓] theorem resetKey_same (h : m &&& 6979190776 = 6979190776) : Same m s (resetKey a0 t) ↔ Same m s t := by
  refine Same.peel ?_ h
  unfold resetKey
  repeat' first
    | split
    | simp [Sys.modes, Svc.fuses, Svc.images]
    | intro _
    | refine (forEach_same fun _ _ => ?_).2 ?_
    | refine (runOp_same (by decide) fun _ _ => ?_).2 ?_
    | refine (runCmd_same (by decide) fun _ _ => ?_).2 ?_
    | (rename_i heq; have hs := congrArg Prod.snd heq; dsimp only at hs; subst hs)

@[simp ↓] theorem appendIn_same (h : m &&& 192 = 192) : Same m s (appendIn a0 t a1) ↔ Same m s t := by
  refine Same.peel ?_ h
  unfold appendIn
  repeat' first
    | split
    | simp [Sys.modes, Svc.fuses, Svc.images]
    | intro _
    | refine (forEach_same fun _ _ => ?_).2 ?_
    | refine (runOp_same (by decide) fun _ _ => ?_).2 ?_
    | refine (runCmd_same (by decide) fun _ _ => ?_).2 ?_
    | (rename_i heq; have hs := congrArg Prod.snd heq; dsimp only at hs; subst hs)

@[simp ↓] theorem offerIn_same (h : m &&& 128 = 128) : Same m s (offerIn a0 t) ↔ Same m s t := by
  refine Same.peel ?_ h
  unfold offerIn
  repeat' first
    | split
    | simp [Sys.modes, Svc.fuses, Svc.images]
    | intro _
    | refine (forEach_same fun _ _ => ?_).2 ?_
    | refine (runOp_same (by decide) fun _ _ => ?_).2 ?_
    | refine (runCmd_same (by decide) fun _ _ => ?_).2 ?_
    | (rename_i heq; have hs := congrArg Prod.snd heq; dsimp only at hs; subst hs)

@[simp ↓] theorem readLock_same (h : m &&& 64 = 64) : Same m s (readLock a0 t).2 ↔ Same m s t := by
  refine Same.peel ?_ h
  unfold readLock
  repeat' first
    | split
    | simp [Sys.modes, Svc.fuses, Svc.images]
    | intro _
    | refine (forEach_same fun _ _ => ?_).2 ?_
    | refine (runOp_same (by decide) fun _ _ => ?_).2 ?_
    | refine (runCmd_same (by decide) fun _ _ => ?_).2 ?_
    | (rename_i heq; have hs := congrArg Prod.snd heq; dsimp only at hs; subst hs)

@[simp ↓] theorem readLinkErr_same (h : m &&& 64 = 64) : Same m s (readLinkErr a0 t).2 ↔ Same m s t := by
  refine Same.peel ?_ h
  unfold readLinkErr
  repeat' first
    | split
    | simp [Sys.modes, Svc.fuses, Svc.images]
    | intro _
    | refine (forEach_same fun _ _ => ?_).2 ?_
    | refine (runOp_same (by decide) fun _ _ => ?_).2 ?_
    | refine (runCmd_same (by decide) fun _ _ => ?_).2 ?_
    | (rename_i heq; have hs := congrArg Prod.snd heq; dsimp only at hs; subst hs)

@[simp ↓] theorem readOptimeL_same (h : m &&& 64 = 64) : Same m s (readOptimeL t).2 ↔ Same m s t := by
  refine Same.peel ?_ h
  unfold readOptimeL
  repeat' first
    | split
    | simp [Sys.modes, Svc.fuses, Svc.images]
    | intro _
    | refine (forEach_same fun _ _ => ?_).2 ?_
    | refine (runOp_same (by decide) fun _ _ => ?_).2 ?_
    | refine (runCmd_same (by decide) fun _ _ => ?_).2 ?_
    | (rename_i heq; have hs := congrArg Prod.snd heq; dsimp only at hs; subst hs)

@[simp ↓] theorem readOptimeH_same (h : m &&& 64 = 64) : Same m s (readOptimeH t).2 ↔ Same m s t := by
  refine Same.peel ?_ h
  unfold readOptimeH
  repeat' first
    | split
    | simp [Sys.modes, Svc.fuses, Svc.images]
    | intro _
    | refine (forEach_same fun _ _ => ?_).2 ?_
    | refine (runOp_same (by decide) fun _ _ => ?_).2 ?_
    | refine (runCmd_same (by decide) fun _ _ => ?_).2 ?_
    | (rename_i heq; have hs := congrArg Prod.snd heq; dsimp only at hs; subst hs)

@[simp ↓] theorem readReg_same (h : m &&& 64 = 64) : Same m s (readReg a0 a1 a2 t).2 ↔ Same m s t := by
  refine Same.peel ?_ h
  unfold readReg
  repeat' first
    | split
    | simp [Sys.modes, Svc.fuses, Svc.images]
    | intro _
    | refine (forEach_same fun _ _ => ?_).2 ?_
    | refine (runOp_same (by decide) fun _ _ => ?_).2 ?_
    | refine (runCmd_same (by decide) fun _ _ => ?_).2 ?_
    | (rename_i heq; have hs := congrArg Prod.snd heq; dsimp only at hs; subst hs)

@[simp ↓] theorem clearIrq_same (h : m &&& 64 = 64) : Same m s (clearIrq a0 a1 t) ↔ Same m s t := by
  refine Same.peel ?_ h
  unfold clearIrq
  repeat' first
    | split
    | simp [Sys.modes, Svc.fuses, Svc.images]
    | intro _
    | refine (forEach_same fun _ _ => ?_).2 ?_
    | refine (runOp_same (by decide) fun _ _ => ?_).2 ?_
    | refine (runCmd_same (by decide) fun _ _ => ?_).2 ?_
    | (rename_i heq; have hs := congrArg Prod.snd heq; dsimp only at hs; subst hs)

@[simp ↓] theorem writeMask_same (h : m &&& 64 = 64) : Same m s (writeMask a0 t) ↔ Same m s t := by
  refine Same.peel ?_ h
  unfold writeMask
  repeat' first
    | split
    | simp [Sys.modes, Svc.fuses, Svc.images]
    | intro _
    | refine (forEach_same fun _ _ => ?_).2 ?_
    | refine (runOp_same (by decide) fun _ _ => ?_).2 ?_
    | refine (runCmd_same (by decide) fun _ _ => ?_).2 ?_
    | (rename_i heq; have hs := congrArg Prod.snd heq; dsimp only at hs; subst hs)

@[simp ↓] theorem clearDbOut_same (h : m &&& 64 = 64) : Same m s (clearDbOut a0 a1 a2 t) ↔ Same m s t := by
  refine Same.peel ?_ h
  unfold clearDbOut
  repeat' first
    | split
    | simp [Sys.modes, Svc.fuses, Svc.images]
    | intro _
    | refine (forEach_same fun _ _ => ?_).2 ?_
    | refine (runOp_same (by decide) fun _ _ => ?_).2 ?_
    | refine (runCmd_same (by decide) fun _ _ => ?_).2 ?_
    | (rename_i heq; have hs := congrArg Prod.snd heq; dsimp only at hs; subst hs)

@[simp ↓] theorem clearCollide_same (h : m &&& 192 = 192) : Same m s (clearCollide a0 a1 a2 t) ↔ Same m s t := by
  refine Same.peel ?_ h
  unfold clearCollide
  repeat' first
    | split
    | simp [Sys.modes, Svc.fuses, Svc.images]
    | intro _
    | refine (forEach_same fun _ _ => ?_).2 ?_
    | refine (runOp_same (by decide) fun _ _ => ?_).2 ?_
    | refine (runCmd_same (by decide) fun _ _ => ?_).2 ?_
    | (rename_i heq; have hs := congrArg Prod.snd heq; dsimp only at hs; subst hs)

@[simp ↓] theorem ringDoorbell_same (h : m &&& 128 = 128) : Same m s (ringDoorbell a0 a1 t) ↔ Same m s t := by
  refine Same.peel ?_ h
  unfold ringDoorbell
  repeat' first
    | split
    | simp [Sys.modes, Svc.fuses, Svc.images]
    | intro _
    | refine (forEach_same fun _ _ => ?_).2 ?_
    | refine (runOp_same (by decide) fun _ _ => ?_).2 ?_
    | refine (runCmd_same (by decide) fun _ _ => ?_).2 ?_
    | (rename_i heq; have hs := congrArg Prod.snd heq; dsimp only at hs; subst hs)

@[simp ↓] theorem releaseLock_same (h : m &&& 64 = 64) : Same m s (releaseLock a0 a1 t) ↔ Same m s t := by
  refine Same.peel ?_ h
  unfold releaseLock
  repeat' first
    | split
    | simp [Sys.modes, Svc.fuses, Svc.images]
    | intro _
    | refine (forEach_same fun _ _ => ?_).2 ?_
    | refine (runOp_same (by decide) fun _ _ => ?_).2 ?_
    | refine (runCmd_same (by decide) fun _ _ => ?_).2 ?_
    | (rename_i heq; have hs := congrArg Prod.snd heq; dsimp only at hs; subst hs)

@[simp ↓] theorem writeReg_same (h : m &&& 6979190776 = 6979190776) : Same m s (writeReg a0 a1 a2 a3 t) ↔ Same m s t := by
  refine Same.peel ?_ h
  unfold writeReg
  repeat' first
    | split
    | simp [Sys.modes, Svc.fuses, Svc.images]
    | intro _
    | refine (forEach_same fun _ _ => ?_).2 ?_
    | refine (runOp_same (by decide) fun _ _ => ?_).2 ?_
    | refine (runCmd_same (by decide) fun _ _ => ?_).2 ?_
    | (rename_i heq; have hs := congrArg Prod.snd heq; dsimp only at hs; subst hs)

@[simp ↓] theorem noteResult_same (h : m &&& 64 = 64) : Same m s (noteResult a0 a1 t) ↔ Same m s t := by
  refine Same.peel ?_ h
  unfold noteResult
  repeat' first
    | split
    | simp [Sys.modes, Svc.fuses, Svc.images]
    | intro _
    | refine (forEach_same fun _ _ => ?_).2 ?_
    | refine (runOp_same (by decide) fun _ _ => ?_).2 ?_
    | refine (runCmd_same (by decide) fun _ _ => ?_).2 ?_
    | (rename_i heq; have hs := congrArg Prod.snd heq; dsimp only at hs; subst hs)

@[simp ↓] theorem drive_same (h : m &&& 64 = 64) : Same m s (drive a0 a1 a2 t) ↔ Same m s t := by
  refine Same.peel ?_ h
  unfold drive
  repeat' first
    | split
    | simp [Sys.modes, Svc.fuses, Svc.images]
    | intro _
    | refine (forEach_same fun _ _ => ?_).2 ?_
    | refine (runOp_same (by decide) fun _ _ => ?_).2 ?_
    | refine (runCmd_same (by decide) fun _ _ => ?_).2 ?_
    | (rename_i heq; have hs := congrArg Prod.snd heq; dsimp only at hs; subst hs)

@[simp ↓] theorem carryWrite_same (h : m &&& 6979190776 = 6979190776) : Same m s (carryWrite a0 a1 a2 a3 a4 a5 t) ↔ Same m s t := by
  refine Same.peel ?_ h
  unfold carryWrite
  repeat' first
    | split
    | simp [Sys.modes, Svc.fuses, Svc.images]
    | intro _
    | refine (forEach_same fun _ _ => ?_).2 ?_
    | refine (runOp_same (by decide) fun _ _ => ?_).2 ?_
    | refine (runCmd_same (by decide) fun _ _ => ?_).2 ?_
    | (rename_i heq; have hs := congrArg Prod.snd heq; dsimp only at hs; subst hs)

@[simp ↓] theorem wordOr_same (h : m &&& 4 = 4) : Same m s (wordOr a0 a1 t).2 ↔ Same m s t := by
  refine Same.peel ?_ h
  unfold wordOr
  repeat' first
    | split
    | simp [Sys.modes, Svc.fuses, Svc.images]
    | intro _
    | refine (forEach_same fun _ _ => ?_).2 ?_
    | refine (runOp_same (by decide) fun _ _ => ?_).2 ?_
    | refine (runCmd_same (by decide) fun _ _ => ?_).2 ?_
    | (rename_i heq; have hs := congrArg Prod.snd heq; dsimp only at hs; subst hs)

@[simp ↓] theorem readWord_same (h : m &&& 68 = 68) : Same m s (readWord a0 a1 a2 a3 t).2 ↔ Same m s t := by
  refine Same.peel ?_ h
  unfold readWord
  repeat' first
    | split
    | simp [Sys.modes, Svc.fuses, Svc.images]
    | intro _
    | refine (forEach_same fun _ _ => ?_).2 ?_
    | refine (runOp_same (by decide) fun _ _ => ?_).2 ?_
    | refine (runCmd_same (by decide) fun _ _ => ?_).2 ?_
    | (rename_i heq; have hs := congrArg Prod.snd heq; dsimp only at hs; subst hs)

@[simp ↓] theorem readWords_same (h : m &&& 68 = 68) : Same m s (readWords a0 a1 a2 a3 a4 t).2 ↔ Same m s t := by
  refine Same.peel ?_ h
  induction a3 generalizing a4 t with
  | nil => simp [readWords]
  | cons d l ih =>
    have ih' : ∀ (n : Nat) (v w : State), Same 68 v (readWords a0 a1 a2 l n w).2 ↔ Same 68 v w :=
      fun _ _ _ => Same.peel ih (Nat.and_self _)
    simp [readWords, ih']

@[simp ↓] theorem consumeRead_same (h : m &&& 768 = 768) : Same m s (consumeRead a0 t) ↔ Same m s t := by
  refine Same.peel ?_ h
  unfold consumeRead
  repeat' first
    | split
    | simp [Sys.modes, Svc.fuses, Svc.images]
    | intro _
    | refine (forEach_same fun _ _ => ?_).2 ?_
    | refine (runOp_same (by decide) fun _ _ => ?_).2 ?_
    | refine (runCmd_same (by decide) fun _ _ => ?_).2 ?_
    | (rename_i heq; have hs := congrArg Prod.snd heq; dsimp only at hs; subst hs)

@[simp ↓] theorem readOut_same (h : m &&& 68 = 68) : Same m s (readOut a0 a1 a2 a3 a4 a5 t).2.2.2 ↔ Same m s t := by
  refine Same.peel ?_ h
  unfold readOut
  repeat' first
    | split
    | simp
    | intro _

@[simp ↓] theorem carryRead_same (h : m &&& 836 = 836) : Same m s (carryRead a0 a1 a2 a3 a4 a5 t) ↔ Same m s t := by
  refine Same.peel ?_ h
  unfold carryRead
  repeat' first
    | split
    | simp [Sys.modes, Svc.fuses, Svc.images]
    | intro _
    | refine (forEach_same fun _ _ => ?_).2 ?_
    | refine (runOp_same (by decide) fun _ _ => ?_).2 ?_
    | refine (runCmd_same (by decide) fun _ _ => ?_).2 ?_
    | (rename_i heq; have hs := congrArg Prod.snd heq; dsimp only at hs; subst hs)

@[simp ↓] theorem driveOnes_same (h : m &&& 64 = 64) : Same m s (driveOnes a0 t) ↔ Same m s t := by
  refine Same.peel ?_ h
  unfold driveOnes
  repeat' first
    | split
    | simp [Sys.modes, Svc.fuses, Svc.images]
    | intro _
    | refine (forEach_same fun _ _ => ?_).2 ?_
    | refine (runOp_same (by decide) fun _ _ => ?_).2 ?_
    | refine (runCmd_same (by decide) fun _ _ => ?_).2 ?_
    | (rename_i heq; have hs := congrArg Prod.snd heq; dsimp only at hs; subst hs)

@[simp ↓] theorem readFrame_same (h : m &&& 836 = 836) : Same m s (readFrame a0 t) ↔ Same m s t := by
  refine Same.peel ?_ h
  unfold readFrame
  repeat' first
    | split
    | simp [Sys.modes, Svc.fuses, Svc.images]
    | intro _
    | refine (forEach_same fun _ _ => ?_).2 ?_
    | refine (runOp_same (by decide) fun _ _ => ?_).2 ?_
    | refine (runCmd_same (by decide) fun _ _ => ?_).2 ?_
    | (rename_i heq; have hs := congrArg Prod.snd heq; dsimp only at hs; subst hs)

@[simp ↓] theorem writeFrame_same (h : m &&& 6979190776 = 6979190776) : Same m s (writeFrame a0 t) ↔ Same m s t := by
  refine Same.peel ?_ h
  unfold writeFrame
  repeat' first
    | split
    | simp [Sys.modes, Svc.fuses, Svc.images]
    | intro _
    | refine (forEach_same fun _ _ => ?_).2 ?_
    | refine (runOp_same (by decide) fun _ _ => ?_).2 ?_
    | refine (runCmd_same (by decide) fun _ _ => ?_).2 ?_
    | (rename_i heq; have hs := congrArg Prod.snd heq; dsimp only at hs; subst hs)

theorem execSpiWriteFrame_ends (h : m &&& 6979190780 = 6979190780) : Ends m s (execSpiWriteFrame a0 s) := by
  refine Ends.mono ?_ h
  unfold execSpiWriteFrame
  repeat' first
    | split
    | simp [Sys.modes, Svc.fuses, Svc.images]
    | intro _
    | refine (forEach_same fun _ _ => ?_).2 ?_
    | refine (runOp_same (by decide) fun _ _ => ?_).2 ?_
    | refine (runCmd_same (by decide) fun _ _ => ?_).2 ?_
    | (rename_i heq; have hs := congrArg Prod.snd heq; dsimp only at hs; subst hs)

theorem execSpiReadFrame_ends (h : m &&& 6979190780 = 6979190780) : Ends m s (execSpiReadFrame a0 s) := by
  refine Ends.mono ?_ h
  unfold execSpiReadFrame
  repeat' first
    | split
    | simp [Sys.modes, Svc.fuses, Svc.images]
    | intro _
    | refine (forEach_same fun _ _ => ?_).2 ?_
    | refine (runOp_same (by decide) fun _ _ => ?_).2 ?_
    | refine (runCmd_same (by decide) fun _ _ => ?_).2 ?_
    | (rename_i heq; have hs := congrArg Prod.snd heq; dsimp only at hs; subst hs)

theorem execDualCs_ends (h : m &&& 64 = 64) : Ends m s (execDualCs a0 s) := by
  refine Ends.mono ?_ h
  unfold execDualCs
  repeat' first
    | split
    | simp [Sys.modes, Svc.fuses, Svc.images]
    | intro _
    | refine (forEach_same fun _ _ => ?_).2 ?_
    | refine (runOp_same (by decide) fun _ _ => ?_).2 ?_
    | refine (runCmd_same (by decide) fun _ _ => ?_).2 ?_
    | (rename_i heq; have hs := congrArg Prod.snd heq; dsimp only at hs; subst hs)

@[simp ↓] theorem goodWrite_same (h : m &&& 6979190776 = 6979190776) : Same m s (goodWrite a0 a1 a2 a3 t) ↔ Same m s t := by
  refine Same.peel ?_ h
  unfold goodWrite
  repeat' first
    | split
    | simp [Sys.modes, Svc.fuses, Svc.images]
    | intro _
    | refine (forEach_same fun _ _ => ?_).2 ?_
    | refine (runOp_same (by decide) fun _ _ => ?_).2 ?_
    | refine (runCmd_same (by decide) fun _ _ => ?_).2 ?_
    | (rename_i heq; have hs := congrArg Prod.snd heq; dsimp only at hs; subst hs)

@[simp ↓] theorem goodRead_same (h : m &&& 836 = 836) : Same m s (goodRead a0 a1 a2 a3 a4 t) ↔ Same m s t := by
  refine Same.peel ?_ h
  unfold goodRead
  repeat' first
    | split
    | simp [Sys.modes, Svc.fuses, Svc.images]
    | intro _
    | refine (forEach_same fun _ _ => ?_).2 ?_
    | refine (runOp_same (by decide) fun _ _ => ?_).2 ?_
    | refine (runCmd_same (by decide) fun _ _ => ?_).2 ?_
    | (rename_i heq; have hs := congrArg Prod.snd heq; dsimp only at hs; subst hs)

@[simp ↓] theorem bridgeReg_same (h : m &&& 64 = 64) : Same m s (bridgeReg a0 t) ↔ Same m s t := by
  refine Same.peel ?_ h
  unfold bridgeReg
  repeat' first
    | split
    | simp [Sys.modes, Svc.fuses, Svc.images]
    | intro _
    | refine (forEach_same fun _ _ => ?_).2 ?_
    | refine (runOp_same (by decide) fun _ _ => ?_).2 ?_
    | refine (runCmd_same (by decide) fun _ _ => ?_).2 ?_
    | (rename_i heq; have hs := congrArg Prod.snd heq; dsimp only at hs; subst hs)

@[simp ↓] theorem readBy_same (h : m &&& 836 = 836) : Same m s (readBy a0 a1 t) ↔ Same m s t := by
  refine Same.peel ?_ h
  unfold readBy
  repeat' first
    | split
    | simp [Sys.modes, Svc.fuses, Svc.images]
    | intro _
    | refine (forEach_same fun _ _ => ?_).2 ?_
    | refine (runOp_same (by decide) fun _ _ => ?_).2 ?_
    | refine (runCmd_same (by decide) fun _ _ => ?_).2 ?_
    | (rename_i heq; have hs := congrArg Prod.snd heq; dsimp only at hs; subst hs)

theorem execHQdataWrite_ends (h : m &&& 6979190776 = 6979190776) : Ends m s (execHQdataWrite a0 a1 a2 s) := by
  refine Ends.mono ?_ h
  unfold execHQdataWrite
  repeat' first
    | split
    | simp [Sys.modes, Svc.fuses, Svc.images]
    | intro _
    | refine (forEach_same fun _ _ => ?_).2 ?_
    | refine (runOp_same (by decide) fun _ _ => ?_).2 ?_
    | refine (runCmd_same (by decide) fun _ _ => ?_).2 ?_
    | (rename_i heq; have hs := congrArg Prod.snd heq; dsimp only at hs; subst hs)

theorem execHQdataRead_ends (h : m &&& 836 = 836) : Ends m s (execHQdataRead a0 a1 a2 a3 s) := by
  refine Ends.mono ?_ h
  unfold execHQdataRead
  repeat' first
    | split
    | simp [Sys.modes, Svc.fuses, Svc.images]
    | intro _
    | refine (forEach_same fun _ _ => ?_).2 ?_
    | refine (runOp_same (by decide) fun _ _ => ?_).2 ?_
    | refine (runCmd_same (by decide) fun _ _ => ?_).2 ?_
    | (rename_i heq; have hs := congrArg Prod.snd heq; dsimp only at hs; subst hs)

theorem execHQdataRepeat_ends (h : m &&& 836 = 836) : Ends m s (execHQdataRepeat a0 a1 a2 s) := by
  refine Ends.mono ?_ h
  unfold execHQdataRepeat
  repeat' first
    | split
    | simp [Sys.modes, Svc.fuses, Svc.images]
    | intro _
    | refine (forEach_same fun _ _ => ?_).2 ?_
    | refine (runOp_same (by decide) fun _ _ => ?_).2 ?_
    | refine (runCmd_same (by decide) fun _ _ => ?_).2 ?_
    | (rename_i heq; have hs := congrArg Prod.snd heq; dsimp only at hs; subst hs)

theorem execHDoorbell_ends (h : m &&& 6979190776 = 6979190776) : Ends m s (execHDoorbell a0 a1 s) := by
  refine Ends.mono ?_ h
  unfold execHDoorbell
  repeat' first
    | split
    | simp [Sys.modes, Svc.fuses, Svc.images]
    | intro _
    | refine (forEach_same fun _ _ => ?_).2 ?_
    | refine (runOp_same (by decide) fun _ _ => ?_).2 ?_
    | refine (runCmd_same (by decide) fun _ _ => ?_).2 ?_
    | (rename_i heq; have hs := congrArg Prod.snd heq; dsimp only at hs; subst hs)

theorem execHDbOutClear_ends (h : m &&& 6979190776 = 6979190776) : Ends m s (execHDbOutClear a0 a1 a2 s) := by
  refine Ends.mono ?_ h
  unfold execHDbOutClear
  repeat' first
    | split
    | simp [Sys.modes, Svc.fuses, Svc.images]
    | intro _
    | refine (forEach_same fun _ _ => ?_).2 ?_
    | refine (runOp_same (by decide) fun _ _ => ?_).2 ?_
    | refine (runCmd_same (by decide) fun _ _ => ?_).2 ?_
    | (rename_i heq; have hs := congrArg Prod.snd heq; dsimp only at hs; subst hs)

theorem execHCollideClear_ends (h : m &&& 6979190776 = 6979190776) : Ends m s (execHCollideClear a0 a1 a2 s) := by
  refine Ends.mono ?_ h
  unfold execHCollideClear
  repeat' first
    | split
    | simp [Sys.modes, Svc.fuses, Svc.images]
    | intro _
    | refine (forEach_same fun _ _ => ?_).2 ?_
    | refine (runOp_same (by decide) fun _ _ => ?_).2 ?_
    | refine (runCmd_same (by decide) fun _ _ => ?_).2 ?_
    | (rename_i heq; have hs := congrArg Prod.snd heq; dsimp only at hs; subst hs)

theorem execHIrqStatusClear_ends (h : m &&& 6979190776 = 6979190776) : Ends m s (execHIrqStatusClear a0 a1 s) := by
  refine Ends.mono ?_ h
  unfold execHIrqStatusClear
  repeat' first
    | split
    | simp [Sys.modes, Svc.fuses, Svc.images]
    | intro _
    | refine (forEach_same fun _ _ => ?_).2 ?_
    | refine (runOp_same (by decide) fun _ _ => ?_).2 ?_
    | refine (runCmd_same (by decide) fun _ _ => ?_).2 ?_
    | (rename_i heq; have hs := congrArg Prod.snd heq; dsimp only at hs; subst hs)

theorem execHIrqMaskWrite_ends (h : m &&& 6979190776 = 6979190776) : Ends m s (execHIrqMaskWrite a0 s) := by
  refine Ends.mono ?_ h
  unfold execHIrqMaskWrite
  repeat' first
    | split
    | simp [Sys.modes, Svc.fuses, Svc.images]
    | intro _
    | refine (forEach_same fun _ _ => ?_).2 ?_
    | refine (runOp_same (by decide) fun _ _ => ?_).2 ?_
    | refine (runCmd_same (by decide) fun _ _ => ?_).2 ?_
    | (rename_i heq; have hs := congrArg Prod.snd heq; dsimp only at hs; subst hs)

@[simp ↓] theorem readLockBoth_same (h : m &&& 836 = 836) : Same m s (readLockBoth t) ↔ Same m s t := by
  refine Same.peel ?_ h
  unfold readLockBoth
  repeat' first
    | split
    | simp [Sys.modes, Svc.fuses, Svc.images]
    | intro _
    | refine (forEach_same fun _ _ => ?_).2 ?_
    | refine (runOp_same (by decide) fun _ _ => ?_).2 ?_
    | refine (runCmd_same (by decide) fun _ _ => ?_).2 ?_
    | (rename_i heq; have hs := congrArg Prod.snd heq; dsimp only at hs; subst hs)

theorem execHLockAcquire_ends (h : m &&& 836 = 836) : Ends m s (execHLockAcquire a0 s) := by
  refine Ends.mono ?_ h
  unfold execHLockAcquire
  repeat' first
    | split
    | simp [Sys.modes, Svc.fuses, Svc.images]
    | intro _
    | refine (forEach_same fun _ _ => ?_).2 ?_
    | refine (runOp_same (by decide) fun _ _ => ?_).2 ?_
    | refine (runCmd_same (by decide) fun _ _ => ?_).2 ?_
    | (rename_i heq; have hs := congrArg Prod.snd heq; dsimp only at hs; subst hs)

theorem execHLockRelease_ends (h : m &&& 6979190776 = 6979190776) : Ends m s (execHLockRelease a0 a1 s) := by
  refine Ends.mono ?_ h
  unfold execHLockRelease
  repeat' first
    | split
    | simp [Sys.modes, Svc.fuses, Svc.images]
    | intro _
    | refine (forEach_same fun _ _ => ?_).2 ?_
    | refine (runOp_same (by decide) fun _ _ => ?_).2 ?_
    | refine (runCmd_same (by decide) fun _ _ => ?_).2 ?_
    | (rename_i heq; have hs := congrArg Prod.snd heq; dsimp only at hs; subst hs)

theorem execHReset_ends (h : m &&& 6979190776 = 6979190776) : Ends m s (execHReset a0 a1 s) := by
  refine Ends.mono ?_ h
  unfold execHReset
  repeat' first
    | split
    | simp [Sys.modes, Svc.fuses, Svc.images]
    | intro _
    | refine (forEach_same fun _ _ => ?_).2 ?_
    | refine (runOp_same (by decide) fun _ _ => ?_).2 ?_
    | refine (runCmd_same (by decide) fun _ _ => ?_).2 ?_
    | (rename_i heq; have hs := congrArg Prod.snd heq; dsimp only at hs; subst hs)

theorem execHLinkErrRead_ends (h : m &&& 836 = 836) : Ends m s (execHLinkErrRead a0 s) := by
  refine Ends.mono ?_ h
  unfold execHLinkErrRead
  repeat' first
    | split
    | simp [Sys.modes, Svc.fuses, Svc.images]
    | intro _
    | refine (forEach_same fun _ _ => ?_).2 ?_
    | refine (runOp_same (by decide) fun _ _ => ?_).2 ?_
    | refine (runCmd_same (by decide) fun _ _ => ?_).2 ?_
    | (rename_i heq; have hs := congrArg Prod.snd heq; dsimp only at hs; subst hs)

theorem execHOptimeLRead_ends (h : m &&& 836 = 836) : Ends m s (execHOptimeLRead a0 s) := by
  refine Ends.mono ?_ h
  unfold execHOptimeLRead
  repeat' first
    | split
    | simp [Sys.modes, Svc.fuses, Svc.images]
    | intro _
    | refine (forEach_same fun _ _ => ?_).2 ?_
    | refine (runOp_same (by decide) fun _ _ => ?_).2 ?_
    | refine (runCmd_same (by decide) fun _ _ => ?_).2 ?_
    | (rename_i heq; have hs := congrArg Prod.snd heq; dsimp only at hs; subst hs)

theorem execHOptimeHRead_ends (h : m &&& 836 = 836) : Ends m s (execHOptimeHRead a0 s) := by
  refine Ends.mono ?_ h
  unfold execHOptimeHRead
  repeat' first
    | split
    | simp [Sys.modes, Svc.fuses, Svc.images]
    | intro _
    | refine (forEach_same fun _ _ => ?_).2 ?_
    | refine (runOp_same (by decide) fun _ _ => ?_).2 ?_
    | refine (runCmd_same (by decide) fun _ _ => ?_).2 ?_
    | (rename_i heq; have hs := congrArg Prod.snd heq; dsimp only at hs; subst hs)

theorem execHRegWrite_ends (h : m &&& 6979190776 = 6979190776) : Ends m s (execHRegWrite a0 a1 a2 s) := by
  refine Ends.mono ?_ h
  unfold execHRegWrite
  repeat' first
    | split
    | simp [Sys.modes, Svc.fuses, Svc.images]
    | intro _
    | refine (forEach_same fun _ _ => ?_).2 ?_
    | refine (runOp_same (by decide) fun _ _ => ?_).2 ?_
    | refine (runCmd_same (by decide) fun _ _ => ?_).2 ?_
    | (rename_i heq; have hs := congrArg Prod.snd heq; dsimp only at hs; subst hs)

theorem execNirqPulseEnd_ends (h : m &&& 64 = 64) : Ends m s (execNirqPulseEnd s) := by
  refine Ends.mono ?_ h
  unfold execNirqPulseEnd
  repeat' first
    | split
    | simp [Sys.modes, Svc.fuses, Svc.images]
    | intro _
    | refine (forEach_same fun _ _ => ?_).2 ?_
    | refine (runOp_same (by decide) fun _ _ => ?_).2 ?_
    | refine (runCmd_same (by decide) fun _ _ => ?_).2 ?_
    | (rename_i heq; have hs := congrArg Prod.snd heq; dsimp only at hs; subst hs)

end Sys2Proof.Machine
end

