-- ==== Sys2Proof/Laws/FrameBatOps.lean ====
section
/-! SUPPORT. Frames of the operations of Machine/BatOps.lean. -/

set_option Elab.async false
set_option linter.unusedTactic false
set_option linter.unreachableTactic false
set_option linter.unnecessarySeqFocus false
set_option linter.unusedSimpArgs false

namespace Sys2Proof.Machine

@[simp ↓] theorem modStr_same (h : m &&& 2097152 = 2097152) : Same m s (modStr a0 a1 t) ↔ Same m s t := by
  refine Same.peel ?_ h
  unfold modStr
  repeat' first
    | split
    | simp [Sys.modes, Svc.fuses, Svc.images]
    | intro _
    | refine (forEach_same fun _ _ => ?_).2 ?_
    | refine (atEntry_same (by decide) fun _ _ => ?_).2 ?_
    | refine (runOp_same (by decide) fun _ _ => ?_).2 ?_
    | refine (runCmd_same (by decide) fun _ _ => ?_).2 ?_
    | refine (forStrings_same fun _ _ _ => ?_).2 ?_
    | (rename_i heq; have hs := congrArg Prod.snd heq; dsimp only at hs; subst hs)

@[simp ↓] theorem forStrings_same (k : ∀ a c v, Same m s (f a c v) ↔ Same m s v) :
    Same m s (forStrings f t) ↔ Same m s t := by
  unfold forStrings
  refine forEach_same' fun a v => ?_
  split
  · exact k _ _ _
  · rfl

@[simp ↓] theorem writeTargets_same (h : m &&& 2097152 = 2097152) : Same m s (writeTargets t) ↔ Same m s t := by
  refine Same.peel ?_ h
  unfold writeTargets
  repeat' first
    | split
    | simp [Sys.modes, Svc.fuses, Svc.images]
    | intro _
    | refine (forEach_same fun _ _ => ?_).2 ?_
    | refine (atEntry_same (by decide) fun _ _ => ?_).2 ?_
    | refine (runOp_same (by decide) fun _ _ => ?_).2 ?_
    | refine (runCmd_same (by decide) fun _ _ => ?_).2 ?_
    | refine (forStrings_same fun _ _ _ => ?_).2 ?_
    | (rename_i heq; have hs := congrArg Prod.snd heq; dsimp only at hs; subst hs)

@[simp ↓] theorem evalPhases_same (h : m &&& 2097152 = 2097152) : Same m s (evalPhases t) ↔ Same m s t := by
  refine Same.peel ?_ h
  unfold evalPhases
  repeat' first
    | split
    | simp [Sys.modes, Svc.fuses, Svc.images]
    | intro _
    | refine (forEach_same fun _ _ => ?_).2 ?_
    | refine (atEntry_same (by decide) fun _ _ => ?_).2 ?_
    | refine (runOp_same (by decide) fun _ _ => ?_).2 ?_
    | refine (runCmd_same (by decide) fun _ _ => ?_).2 ?_
    | refine (forStrings_same fun _ _ _ => ?_).2 ?_
    | (rename_i heq; have hs := congrArg Prod.snd heq; dsimp only at hs; subst hs)

@[simp ↓] theorem trackFloat_same (h : m &&& 2097152 = 2097152) : Same m s (trackFloat t) ↔ Same m s t := by
  refine Same.peel ?_ h
  unfold trackFloat
  repeat' first
    | split
    | simp [Sys.modes, Svc.fuses, Svc.images]
    | intro _
    | refine (forEach_same fun _ _ => ?_).2 ?_
    | refine (atEntry_same (by decide) fun _ _ => ?_).2 ?_
    | refine (runOp_same (by decide) fun _ _ => ?_).2 ?_
    | refine (runCmd_same (by decide) fun _ _ => ?_).2 ?_
    | refine (forStrings_same fun _ _ _ => ?_).2 ?_
    | (rename_i heq; have hs := congrArg Prod.snd heq; dsimp only at hs; subst hs)

@[simp ↓] theorem tryFloatEnd_same (h : m &&& 2549217144 = 2549217144) : Same m s (tryFloatEnd t) ↔ Same m s t := by
  refine Same.peel ?_ h
  unfold tryFloatEnd
  repeat' first
    | split
    | simp [Sys.modes, Svc.fuses, Svc.images]
    | intro _
    | refine (forEach_same fun _ _ => ?_).2 ?_
    | refine (atEntry_same (by decide) fun _ _ => ?_).2 ?_
    | refine (runOp_same (by decide) fun _ _ => ?_).2 ?_
    | refine (runCmd_same (by decide) fun _ _ => ?_).2 ?_
    | refine (forStrings_same fun _ _ _ => ?_).2 ?_
    | (rename_i heq; have hs := congrArg Prod.snd heq; dsimp only at hs; subst hs)

@[simp ↓] theorem countCharge_same (h : m &&& 2097152 = 2097152) : Same m s (countCharge a0 t) ↔ Same m s t := by
  refine Same.peel ?_ h
  unfold countCharge
  repeat' first
    | split
    | simp [Sys.modes, Svc.fuses, Svc.images]
    | intro _
    | refine (forEach_same fun _ _ => ?_).2 ?_
    | refine (atEntry_same (by decide) fun _ _ => ?_).2 ?_
    | refine (runOp_same (by decide) fun _ _ => ?_).2 ?_
    | refine (runCmd_same (by decide) fun _ _ => ?_).2 ?_
    | refine (forStrings_same fun _ _ _ => ?_).2 ?_
    | (rename_i heq; have hs := congrArg Prod.snd heq; dsimp only at hs; subst hs)

@[simp ↓] theorem reference_same (h : m &&& 2097152 = 2097152) : Same m s (reference a0 a1 a2 a3 t) ↔ Same m s t := by
  refine Same.peel ?_ h
  unfold reference
  repeat' first
    | split
    | simp [Sys.modes, Svc.fuses, Svc.images]
    | intro _
    | refine (forEach_same fun _ _ => ?_).2 ?_
    | refine (atEntry_same (by decide) fun _ _ => ?_).2 ?_
    | refine (runOp_same (by decide) fun _ _ => ?_).2 ?_
    | refine (runCmd_same (by decide) fun _ _ => ?_).2 ?_
    | refine (forStrings_same fun _ _ _ => ?_).2 ?_
    | (rename_i heq; have hs := congrArg Prod.snd heq; dsimp only at hs; subst hs)

@[simp ↓] theorem fullRefs_same (h : m &&& 2097152 = 2097152) : Same m s (fullRefs t) ↔ Same m s t := by
  refine Same.peel ?_ h
  unfold fullRefs
  repeat' first
    | split
    | simp [Sys.modes, Svc.fuses, Svc.images]
    | intro _
    | refine (forEach_same fun _ _ => ?_).2 ?_
    | refine (atEntry_same (by decide) fun _ _ => ?_).2 ?_
    | refine (runOp_same (by decide) fun _ _ => ?_).2 ?_
    | refine (runCmd_same (by decide) fun _ _ => ?_).2 ?_
    | refine (forStrings_same fun _ _ _ => ?_).2 ?_
    | (rename_i heq; have hs := congrArg Prod.snd heq; dsimp only at hs; subst hs)

@[simp ↓] theorem trackRest_same (h : m &&& 2097152 = 2097152) : Same m s (trackRest t) ↔ Same m s t := by
  refine Same.peel ?_ h
  unfold trackRest
  repeat' first
    | split
    | simp [Sys.modes, Svc.fuses, Svc.images]
    | intro _
    | refine (forEach_same fun _ _ => ?_).2 ?_
    | refine (atEntry_same (by decide) fun _ _ => ?_).2 ?_
    | refine (runOp_same (by decide) fun _ _ => ?_).2 ?_
    | refine (runCmd_same (by decide) fun _ _ => ?_).2 ?_
    | refine (forStrings_same fun _ _ _ => ?_).2 ?_
    | (rename_i heq; have hs := congrArg Prod.snd heq; dsimp only at hs; subst hs)

@[simp ↓] theorem learn_same (h : m &&& 18874368 = 18874368) : Same m s (learn a0 a1 t) ↔ Same m s t := by
  refine Same.peel ?_ h
  unfold learn
  repeat' first
    | split
    | simp [Sys.modes, Svc.fuses, Svc.images]
    | intro _
    | refine (forEach_same fun _ _ => ?_).2 ?_
    | refine (atEntry_same (by decide) fun _ _ => ?_).2 ?_
    | refine (runOp_same (by decide) fun _ _ => ?_).2 ?_
    | refine (runCmd_same (by decide) fun _ _ => ?_).2 ?_
    | refine (forStrings_same fun _ _ _ => ?_).2 ?_
    | (rename_i heq; have hs := congrArg Prod.snd heq; dsimp only at hs; subst hs)

@[simp ↓] theorem loadRef_same (h : m &&& 2097152 = 2097152) : Same m s (loadRef a0 a1 t) ↔ Same m s t := by
  refine Same.peel ?_ h
  unfold loadRef
  repeat' first
    | split
    | simp [Sys.modes, Svc.fuses, Svc.images]
    | intro _
    | refine (forEach_same fun _ _ => ?_).2 ?_
    | refine (atEntry_same (by decide) fun _ _ => ?_).2 ?_
    | refine (runOp_same (by decide) fun _ _ => ?_).2 ?_
    | refine (runCmd_same (by decide) fun _ _ => ?_).2 ?_
    | refine (forStrings_same fun _ _ _ => ?_).2 ?_
    | (rename_i heq; have hs := congrArg Prod.snd heq; dsimp only at hs; subst hs)

@[simp ↓] theorem impedance_same (h : m &&& 2097152 = 2097152) : Same m s (impedance a0 a1 a2 t) ↔ Same m s t := by
  refine Same.peel ?_ h
  unfold impedance
  repeat' first
    | split
    | simp [Sys.modes, Svc.fuses, Svc.images]
    | intro _
    | refine (forEach_same fun _ _ => ?_).2 ?_
    | refine (atEntry_same (by decide) fun _ _ => ?_).2 ?_
    | refine (runOp_same (by decide) fun _ _ => ?_).2 ?_
    | refine (runCmd_same (by decide) fun _ _ => ?_).2 ?_
    | refine (forStrings_same fun _ _ _ => ?_).2 ?_
    | (rename_i heq; have hs := congrArg Prod.snd heq; dsimp only at hs; subst hs)

@[simp ↓] theorem measureZ_same (h : m &&& 2097152 = 2097152) : Same m s (measureZ a0 t) ↔ Same m s t := by
  refine Same.peel ?_ h
  unfold measureZ
  repeat' first
    | split
    | simp [Sys.modes, Svc.fuses, Svc.images]
    | intro _
    | refine (forEach_same fun _ _ => ?_).2 ?_
    | refine (atEntry_same (by decide) fun _ _ => ?_).2 ?_
    | refine (runOp_same (by decide) fun _ _ => ?_).2 ?_
    | refine (runCmd_same (by decide) fun _ _ => ?_).2 ?_
    | refine (forStrings_same fun _ _ _ => ?_).2 ?_
    | (rename_i heq; have hs := congrArg Prod.snd heq; dsimp only at hs; subst hs)

@[simp ↓] theorem trackEod_same (h : m &&& 2097152 = 2097152) : Same m s (trackEod t) ↔ Same m s t := by
  refine Same.peel ?_ h
  unfold trackEod
  repeat' first
    | split
    | simp [Sys.modes, Svc.fuses, Svc.images]
    | intro _
    | refine (forEach_same fun _ _ => ?_).2 ?_
    | refine (atEntry_same (by decide) fun _ _ => ?_).2 ?_
    | refine (runOp_same (by decide) fun _ _ => ?_).2 ?_
    | refine (runCmd_same (by decide) fun _ _ => ?_).2 ?_
    | refine (forStrings_same fun _ _ _ => ?_).2 ?_
    | (rename_i heq; have hs := congrArg Prod.snd heq; dsimp only at hs; subst hs)

@[simp ↓] theorem endString_same (h : m &&& 372250432 = 372250432) : Same m s (endString a0 a1 t) ↔ Same m s t := by
  refine Same.peel ?_ h
  unfold endString
  repeat' first
    | split
    | simp [Sys.modes, Svc.fuses, Svc.images]
    | intro _
    | refine (forEach_same fun _ _ => ?_).2 ?_
    | refine (atEntry_same (by decide) fun _ _ => ?_).2 ?_
    | refine (runOp_same (by decide) fun _ _ => ?_).2 ?_
    | refine (runCmd_same (by decide) fun _ _ => ?_).2 ?_
    | refine (forStrings_same fun _ _ _ => ?_).2 ?_
    | (rename_i heq; have hs := congrArg Prod.snd heq; dsimp only at hs; subst hs)

@[simp ↓] theorem reachEnd_same (h : m &&& 2549217144 = 2549217144) : Same m s (reachEnd a0 a1 t) ↔ Same m s t := by
  refine Same.peel ?_ h
  unfold reachEnd
  repeat' first
    | split
    | simp [Sys.modes, Svc.fuses, Svc.images]
    | intro _
    | refine (forEach_same fun _ _ => ?_).2 ?_
    | refine (atEntry_same (by decide) fun _ _ => ?_).2 ?_
    | refine (runOp_same (by decide) fun _ _ => ?_).2 ?_
    | refine (runCmd_same (by decide) fun _ _ => ?_).2 ?_
    | refine (forStrings_same fun _ _ _ => ?_).2 ?_
    | (rename_i heq; have hs := congrArg Prod.snd heq; dsimp only at hs; subst hs)

@[simp ↓] theorem moduleOpens_same (h : m &&& 2549217144 = 2549217144) : Same m s (moduleOpens t) ↔ Same m s t := by
  refine Same.peel ?_ h
  unfold moduleOpens
  repeat' first
    | split
    | simp [Sys.modes, Svc.fuses, Svc.images]
    | intro _
    | refine (forEach_same fun _ _ => ?_).2 ?_
    | refine (atEntry_same (by decide) fun _ _ => ?_).2 ?_
    | refine (runOp_same (by decide) fun _ _ => ?_).2 ?_
    | refine (runCmd_same (by decide) fun _ _ => ?_).2 ?_
    | refine (forStrings_same fun _ _ _ => ?_).2 ?_
    | (rename_i heq; have hs := congrArg Prod.snd heq; dsimp only at hs; subst hs)

@[simp ↓] theorem enterLow_same (h : m &&& 372250432 = 372250432) : Same m s (enterLow a0 a1 t) ↔ Same m s t := by
  refine Same.peel ?_ h
  unfold enterLow
  repeat' first
    | split
    | simp [Sys.modes, Svc.fuses, Svc.images]
    | intro _
    | refine (forEach_same fun _ _ => ?_).2 ?_
    | refine (atEntry_same (by decide) fun _ _ => ?_).2 ?_
    | refine (runOp_same (by decide) fun _ _ => ?_).2 ?_
    | refine (runCmd_same (by decide) fun _ _ => ?_).2 ?_
    | refine (forStrings_same fun _ _ _ => ?_).2 ?_
    | (rename_i heq; have hs := congrArg Prod.snd heq; dsimp only at hs; subst hs)

@[simp ↓] theorem tryRejoin_same (h : m &&& 372283200 = 372283200) : Same m s (tryRejoin a0 a1 t) ↔ Same m s t := by
  refine Same.peel ?_ h
  unfold tryRejoin
  repeat' first
    | split
    | simp [Sys.modes, Svc.fuses, Svc.images]
    | intro _
    | refine (forEach_same fun _ _ => ?_).2 ?_
    | refine (atEntry_same (by decide) fun _ _ => ?_).2 ?_
    | refine (runOp_same (by decide) fun _ _ => ?_).2 ?_
    | refine (runCmd_same (by decide) fun _ _ => ?_).2 ?_
    | refine (forStrings_same fun _ _ _ => ?_).2 ?_
    | (rename_i heq; have hs := congrArg Prod.snd heq; dsimp only at hs; subst hs)

@[simp ↓] theorem rejoinStep_same (h : m &&& 372283200 = 372283200) : Same m s (rejoinStep t) ↔ Same m s t := by
  refine Same.peel ?_ h
  unfold rejoinStep
  repeat' first
    | split
    | simp [Sys.modes, Svc.fuses, Svc.images]
    | intro _
    | refine (forEach_same fun _ _ => ?_).2 ?_
    | refine (atEntry_same (by decide) fun _ _ => ?_).2 ?_
    | refine (runOp_same (by decide) fun _ _ => ?_).2 ?_
    | refine (runCmd_same (by decide) fun _ _ => ?_).2 ?_
    | refine (forStrings_same fun _ _ _ => ?_).2 ?_
    | (rename_i heq; have hs := congrArg Prod.snd heq; dsimp only at hs; subst hs)

@[simp ↓] theorem setLimits_same (h : m &&& 6295552 = 6295552) : Same m s (setLimits t) ↔ Same m s t := by
  refine Same.peel ?_ h
  unfold setLimits
  repeat' first
    | split
    | simp [Sys.modes, Svc.fuses, Svc.images]
    | intro _
    | refine (forEach_same fun _ _ => ?_).2 ?_
    | refine (atEntry_same (by decide) fun _ _ => ?_).2 ?_
    | refine (runOp_same (by decide) fun _ _ => ?_).2 ?_
    | refine (runCmd_same (by decide) fun _ _ => ?_).2 ?_
    | refine (forStrings_same fun _ _ _ => ?_).2 ?_
    | (rename_i heq; have hs := congrArg Prod.snd heq; dsimp only at hs; subst hs)

@[simp ↓] theorem countTest_same (h : m &&& 3145728 = 3145728) : Same m s (countTest a0 t) ↔ Same m s t := by
  refine Same.peel ?_ h
  unfold countTest
  repeat' first
    | split
    | simp [Sys.modes, Svc.fuses, Svc.images]
    | intro _
    | refine (forEach_same fun _ _ => ?_).2 ?_
    | refine (atEntry_same (by decide) fun _ _ => ?_).2 ?_
    | refine (runOp_same (by decide) fun _ _ => ?_).2 ?_
    | refine (runCmd_same (by decide) fun _ _ => ?_).2 ?_
    | refine (forStrings_same fun _ _ _ => ?_).2 ?_
    | (rename_i heq; have hs := congrArg Prod.snd heq; dsimp only at hs; subst hs)

@[simp ↓] theorem emptyRef_same (h : m &&& 18874368 = 18874368) : Same m s (emptyRef a0 a1 t).1 ↔ Same m s t := by
  refine Same.peel ?_ h
  unfold emptyRef
  repeat' first
    | split
    | simp [Sys.modes, Svc.fuses, Svc.images]
    | intro _
    | refine (forEach_same fun _ _ => ?_).2 ?_
    | refine (atEntry_same (by decide) fun _ _ => ?_).2 ?_
    | refine (runOp_same (by decide) fun _ _ => ?_).2 ?_
    | refine (runCmd_same (by decide) fun _ _ => ?_).2 ?_
    | refine (forStrings_same fun _ _ _ => ?_).2 ?_
    | (rename_i heq; have hs := congrArg Prod.snd heq; dsimp only at hs; subst hs)

@[simp ↓] theorem testLow_same (h : m &&& 393221952 = 393221952) : Same m s (testLow a0 a1 t) ↔ Same m s t := by
  refine Same.peel ?_ h
  unfold testLow
  repeat' first
    | split
    | simp [Sys.modes, Svc.fuses, Svc.images]
    | intro _
    | refine (forEach_same fun _ _ => ?_).2 ?_
    | refine (atEntry_same (by decide) fun _ _ => ?_).2 ?_
    | refine (runOp_same (by decide) fun _ _ => ?_).2 ?_
    | refine (runCmd_same (by decide) fun _ _ => ?_).2 ?_
    | refine (forStrings_same fun _ _ _ => ?_).2 ?_
    | (rename_i heq; have hs := congrArg Prod.snd heq; dsimp only at hs; subst hs)

@[simp ↓] theorem testOutcome_same (h : m &&& 393221952 = 393221952) : Same m s (testOutcome t) ↔ Same m s t := by
  refine Same.peel ?_ h
  unfold testOutcome
  repeat' first
    | split
    | simp [Sys.modes, Svc.fuses, Svc.images]
    | intro _
    | refine (forEach_same fun _ _ => ?_).2 ?_
    | refine (atEntry_same (by decide) fun _ _ => ?_).2 ?_
    | refine (runOp_same (by decide) fun _ _ => ?_).2 ?_
    | refine (runCmd_same (by decide) fun _ _ => ?_).2 ?_
    | refine (forStrings_same fun _ _ _ => ?_).2 ?_
    | (rename_i heq; have hs := congrArg Prod.snd heq; dsimp only at hs; subst hs)

@[simp ↓] theorem countPeak_same (h : m &&& 1052672 = 1052672) : Same m s (countPeak a0 t) ↔ Same m s t := by
  refine Same.peel ?_ h
  unfold countPeak
  repeat' first
    | split
    | simp [Sys.modes, Svc.fuses, Svc.images]
    | intro _
    | refine (forEach_same fun _ _ => ?_).2 ?_
    | refine (atEntry_same (by decide) fun _ _ => ?_).2 ?_
    | refine (runOp_same (by decide) fun _ _ => ?_).2 ?_
    | refine (runCmd_same (by decide) fun _ _ => ?_).2 ?_
    | refine (forStrings_same fun _ _ _ => ?_).2 ?_
    | (rename_i heq; have hs := congrArg Prod.snd heq; dsimp only at hs; subst hs)

end Sys2Proof.Machine
end

