-- ==== Sys2Proof/Laws/FrameCycleMeans.lean ====
section
/-! SUPPORT. Frames of the operations of Machine/CycleMeans.lean. -/

set_option Elab.async false
set_option linter.unusedTactic false
set_option linter.unreachableTactic false
set_option linter.unnecessarySeqFocus false
set_option linter.unusedSimpArgs false

namespace Sys2Proof.Machine

@[simp ↓] theorem meanCh_same (h : m &&& 1024 = 1024) : Same m s (meanCh a0 a1 t) ↔ Same m s t := by
  refine Same.peel ?_ h
  unfold meanCh
  repeat' first
    | split
    | simp [Sys.modes, Svc.fuses, Svc.images]
    | intro _
    | refine (forEach_same fun _ _ => ?_).2 ?_
    | refine (atEntry_same (by decide) fun _ _ => ?_).2 ?_
    | refine (runOp_same (by decide) fun _ _ => ?_).2 ?_
    | refine (runCmd_same (by decide) fun _ _ => ?_).2 ?_
    | refine (forStrings_same fun _ _ _ => ?_).2 ?_
    | (rename_i heq; have hs := congrArg Prod.snd heq; dsimp only at hs; subst hs)

@[simp ↓] theorem meanBus_same (h : m &&& 134254592 = 134254592) : Same m s (meanBus a0 t) ↔ Same m s t := by
  refine Same.peel ?_ h
  unfold meanBus
  repeat' first
    | split
    | simp [Sys.modes, Svc.fuses, Svc.images]
    | intro _
    | refine (forEach_same fun _ _ => ?_).2 ?_
    | refine (atEntry_same (by decide) fun _ _ => ?_).2 ?_
    | refine (runOp_same (by decide) fun _ _ => ?_).2 ?_
    | refine (runCmd_same (by decide) fun _ _ => ?_).2 ?_
    | refine (forStrings_same fun _ _ _ => ?_).2 ?_
    | (rename_i heq; have hs := congrArg Prod.snd heq; dsimp only at hs; subst hs)

@[simp ↓] theorem lastCycle_same (h : m &&& 1024 = 1024) : Same m s (lastCycle a0 t) ↔ Same m s t := by
  refine Same.peel ?_ h
  unfold lastCycle
  refine (modCh_same (by decide) (Or.inr fun x => ?_)).2 (same_refl _ _)
  split <;> rfl

@[simp ↓] theorem cycleMeans_same (h : m &&& 134255616 = 134255616) : Same m s (cycleMeans a0 t) ↔ Same m s t := by
  refine Same.peel ?_ h
  unfold cycleMeans
  repeat' first
    | split
    | simp [Sys.modes, Svc.fuses, Svc.images]
    | intro _
    | refine (forEach_same fun _ _ => ?_).2 ?_
    | refine (atEntry_same (by decide) fun _ _ => ?_).2 ?_
    | refine (runOp_same (by decide) fun _ _ => ?_).2 ?_
    | refine (runCmd_same (by decide) fun _ _ => ?_).2 ?_
    | refine (forStrings_same fun _ _ _ => ?_).2 ?_
    | (rename_i heq; have hs := congrArg Prod.snd heq; dsimp only at hs; subst hs)

@[simp ↓] theorem ntcInvalid_same (h : m &&& 100697920 = 100697920) : Same m s (ntcInvalid a0 t) ↔ Same m s t := by
  refine Same.peel ?_ h
  unfold ntcInvalid
  repeat' first
    | split
    | simp [Sys.modes, Svc.fuses, Svc.images]
    | intro _
    | refine (forEach_same fun _ _ => ?_).2 ?_
    | refine (atEntry_same (by decide) fun _ _ => ?_).2 ?_
    | refine (runOp_same (by decide) fun _ _ => ?_).2 ?_
    | refine (runCmd_same (by decide) fun _ _ => ?_).2 ?_
    | refine (forStrings_same fun _ _ _ => ?_).2 ?_
    | (rename_i heq; have hs := congrArg Prod.snd heq; dsimp only at hs; subst hs)

@[simp ↓] theorem ntcCycle_same (h : m &&& 100697920 = 100697920) : Same m s (ntcCycle a0 a1 t) ↔ Same m s t := by
  refine Same.peel ?_ h
  unfold ntcCycle
  repeat' first
    | split
    | simp [Sys.modes, Svc.fuses, Svc.images]
    | intro _
    | refine (forEach_same fun _ _ => ?_).2 ?_
    | refine (atEntry_same (by decide) fun _ _ => ?_).2 ?_
    | refine (runOp_same (by decide) fun _ _ => ?_).2 ?_
    | refine (runCmd_same (by decide) fun _ _ => ?_).2 ?_
    | refine (forStrings_same fun _ _ _ => ?_).2 ?_
    | (rename_i heq; have hs := congrArg Prod.snd heq; dsimp only at hs; subst hs)

@[simp ↓] theorem trefCycle_same (h : m &&& 1024 = 1024) : Same m s (trefCycle a0 t) ↔ Same m s t := by
  refine Same.peel ?_ h
  unfold trefCycle
  repeat' first
    | split
    | simp [Sys.modes, Svc.fuses, Svc.images]
    | intro _
    | refine (forEach_same fun _ _ => ?_).2 ?_
    | refine (atEntry_same (by decide) fun _ _ => ?_).2 ?_
    | refine (runOp_same (by decide) fun _ _ => ?_).2 ?_
    | refine (runCmd_same (by decide) fun _ _ => ?_).2 ?_
    | refine (forStrings_same fun _ _ _ => ?_).2 ?_
    | (rename_i heq; have hs := congrArg Prod.snd heq; dsimp only at hs; subst hs)

@[simp ↓] theorem refCheck_same (h : m &&& 100698944 = 100698944) : Same m s (refCheck a0 t) ↔ Same m s t := by
  refine Same.peel ?_ h
  unfold refCheck
  repeat' first
    | split
    | simp [Sys.modes, Svc.fuses, Svc.images]
    | intro _
    | refine (forEach_same fun _ _ => ?_).2 ?_
    | refine (atEntry_same (by decide) fun _ _ => ?_).2 ?_
    | refine (runOp_same (by decide) fun _ _ => ?_).2 ?_
    | refine (runCmd_same (by decide) fun _ _ => ?_).2 ?_
    | refine (forStrings_same fun _ _ _ => ?_).2 ?_
    | (rename_i heq; have hs := congrArg Prod.snd heq; dsimp only at hs; subst hs)

@[simp ↓] theorem dieCheck_same (h : m &&& 134217728 = 134217728) : Same m s (dieCheck t) ↔ Same m s t := by
  refine Same.peel ?_ h
  unfold dieCheck
  repeat' first
    | split
    | simp [Sys.modes, Svc.fuses, Svc.images]
    | intro _
    | refine (forEach_same fun _ _ => ?_).2 ?_
    | refine (atEntry_same (by decide) fun _ _ => ?_).2 ?_
    | refine (runOp_same (by decide) fun _ _ => ?_).2 ?_
    | refine (runCmd_same (by decide) fun _ _ => ?_).2 ?_
    | refine (forStrings_same fun _ _ _ => ?_).2 ?_
    | (rename_i heq; have hs := congrArg Prod.snd heq; dsimp only at hs; subst hs)

@[simp ↓] theorem rejCycle_same (h : m &&& 100665152 = 100665152) : Same m s (rejCycle a0 t) ↔ Same m s t := by
  refine Same.peel ?_ h
  unfold rejCycle
  repeat' first
    | split
    | simp [Sys.modes, Svc.fuses, Svc.images]
    | intro _
    | refine (forEach_same fun _ _ => ?_).2 ?_
    | refine (atEntry_same (by decide) fun _ _ => ?_).2 ?_
    | refine (runOp_same (by decide) fun _ _ => ?_).2 ?_
    | refine (runCmd_same (by decide) fun _ _ => ?_).2 ?_
    | refine (forStrings_same fun _ _ _ => ?_).2 ?_
    | (rename_i heq; have hs := congrArg Prod.snd heq; dsimp only at hs; subst hs)

@[simp ↓] theorem cycleChecks_same (h : m &&& 234917696 = 234917696) : Same m s (cycleChecks a0 t) ↔ Same m s t := by
  refine Same.peel ?_ h
  unfold cycleChecks
  repeat' first
    | split
    | simp [Sys.modes, Svc.fuses, Svc.images]
    | intro _
    | refine (forEach_same fun _ _ => ?_).2 ?_
    | refine (atEntry_same (by decide) fun _ _ => ?_).2 ?_
    | refine (runOp_same (by decide) fun _ _ => ?_).2 ?_
    | refine (runCmd_same (by decide) fun _ _ => ?_).2 ?_
    | refine (forStrings_same fun _ _ _ => ?_).2 ?_
    | (rename_i heq; have hs := congrArg Prod.snd heq; dsimp only at hs; subst hs)

theorem execNtcValid_ends (h : m &&& 100696896 = 100696896) : Ends m s (execNtcValid a0 s) := by
  refine Ends.mono ?_ h
  unfold execNtcValid
  repeat' first
    | split
    | simp [Sys.modes, Svc.fuses, Svc.images]
    | intro _
    | refine (forEach_same fun _ _ => ?_).2 ?_
    | refine (atEntry_same (by decide) fun _ _ => ?_).2 ?_
    | refine (runOp_same (by decide) fun _ _ => ?_).2 ?_
    | refine (runCmd_same (by decide) fun _ _ => ?_).2 ?_
    | refine (forStrings_same fun _ _ _ => ?_).2 ?_
    | (rename_i heq; have hs := congrArg Prod.snd heq; dsimp only at hs; subst hs)

theorem execDieCool_ends (h : m &&& 134217728 = 134217728) : Ends m s (execDieCool s) := by
  refine Ends.mono ?_ h
  unfold execDieCool
  repeat' first
    | split
    | simp [Sys.modes, Svc.fuses, Svc.images]
    | intro _
    | refine (forEach_same fun _ _ => ?_).2 ?_
    | refine (atEntry_same (by decide) fun _ _ => ?_).2 ?_
    | refine (runOp_same (by decide) fun _ _ => ?_).2 ?_
    | refine (runCmd_same (by decide) fun _ _ => ?_).2 ?_
    | refine (forStrings_same fun _ _ _ => ?_).2 ?_
    | (rename_i heq; have hs := congrArg Prod.snd heq; dsimp only at hs; subst hs)

end Sys2Proof.Machine
end

