-- ==== Sys2Proof/Laws/FrameCycle.lean ====
section
/-! SUPPORT. Frames of the operations of Machine/Cycle.lean. -/

set_option Elab.async false
set_option linter.unusedTactic false
set_option linter.unreachableTactic false
set_option linter.unnecessarySeqFocus false
set_option linter.unusedSimpArgs false

namespace Sys2Proof.Machine

@[simp ↓] theorem condCheck_same (h : m &&& 100668224 = 100668224) : Same m s (condCheck t) ↔ Same m s t := by
  refine Same.peel ?_ h
  unfold condCheck
  repeat' first
    | split
    | simp [Sys.modes, Svc.fuses, Svc.images]
    | intro _
    | refine (forEach_same fun _ _ => ?_).2 ?_
    | refine (atEntry_same (by decide) fun _ _ => ?_).2 ?_
    | refine (runOp_same (by decide) fun _ _ => ?_).2 ?_
    | refine (runCmd_same (by decide) fun _ _ => ?_).2 ?_
    | refine (forStrings_same fun _ _ _ => ?_).2 ?_
    | (rename_i heq; have hs := congrArg Prod.snd heq; dsimp only at hs; subst hs)

@[simp ↓] theorem refreshAdm_same (h : m &&& 101716800 = 101716800) : Same m s (refreshAdm t) ↔ Same m s t := by
  refine Same.peel ?_ h
  unfold refreshAdm
  repeat' first
    | split
    | simp [Sys.modes, Svc.fuses, Svc.images]
    | intro _
    | refine (forEach_same fun _ _ => ?_).2 ?_
    | refine (atEntry_same (by decide) fun _ _ => ?_).2 ?_
    | refine (runOp_same (by decide) fun _ _ => ?_).2 ?_
    | refine (runCmd_same (by decide) fun _ _ => ?_).2 ?_
    | refine (forStrings_same fun _ _ _ => ?_).2 ?_
    | (rename_i heq; have hs := congrArg Prod.snd heq; dsimp only at hs; subst hs)

@[simp ↓] theorem disarmPeak_same (h : m &&& 268436480 = 268436480) : Same m s (disarmPeak t) ↔ Same m s t := by
  refine Same.peel ?_ h
  unfold disarmPeak
  repeat' first
    | split
    | simp [Sys.modes, Svc.fuses, Svc.images]
    | intro _
    | refine (forEach_same fun _ _ => ?_).2 ?_
    | refine (atEntry_same (by decide) fun _ _ => ?_).2 ?_
    | refine (runOp_same (by decide) fun _ _ => ?_).2 ?_
    | refine (runCmd_same (by decide) fun _ _ => ?_).2 ?_
    | refine (forStrings_same fun _ _ _ => ?_).2 ?_
    | (rename_i heq; have hs := congrArg Prod.snd heq; dsimp only at hs; subst hs)

@[simp ↓] theorem capStart_same (h : m &&& 372250432 = 372250432) : Same m s (capStart t) ↔ Same m s t := by
  refine Same.peel ?_ h
  unfold capStart
  repeat' first
    | split
    | simp [Sys.modes, Svc.fuses, Svc.images]
    | intro _
    | refine (forEach_same fun _ _ => ?_).2 ?_
    | refine (atEntry_same (by decide) fun _ _ => ?_).2 ?_
    | refine (runOp_same (by decide) fun _ _ => ?_).2 ?_
    | refine (runCmd_same (by decide) fun _ _ => ?_).2 ?_
    | refine (forStrings_same fun _ _ _ => ?_).2 ?_
    | (rename_i heq; have hs := congrArg Prod.snd heq; dsimp only at hs; subst hs)

@[simp ↓] theorem capEnd_same (h : m &&& 342890304 = 342890304) : Same m s (capEnd t) ↔ Same m s t := by
  refine Same.peel ?_ h
  unfold capEnd
  repeat' first
    | split
    | simp [Sys.modes, Svc.fuses, Svc.images]
    | intro _
    | refine (forEach_same fun _ _ => ?_).2 ?_
    | refine (atEntry_same (by decide) fun _ _ => ?_).2 ?_
    | refine (runOp_same (by decide) fun _ _ => ?_).2 ?_
    | refine (runCmd_same (by decide) fun _ _ => ?_).2 ?_
    | refine (forStrings_same fun _ _ _ => ?_).2 ?_
    | (rename_i heq; have hs := congrArg Prod.snd heq; dsimp only at hs; subst hs)

@[simp ↓] theorem capCycle_same (h : m &&& 376444736 = 376444736) : Same m s (capCycle t) ↔ Same m s t := by
  refine Same.peel ?_ h
  unfold capCycle
  repeat' first
    | split
    | simp [Sys.modes, Svc.fuses, Svc.images]
    | intro _
    | refine (forEach_same fun _ _ => ?_).2 ?_
    | refine (atEntry_same (by decide) fun _ _ => ?_).2 ?_
    | refine (runOp_same (by decide) fun _ _ => ?_).2 ?_
    | refine (runCmd_same (by decide) fun _ _ => ?_).2 ?_
    | refine (forStrings_same fun _ _ _ => ?_).2 ?_
    | (rename_i heq; have hs := congrArg Prod.snd heq; dsimp only at hs; subst hs)

@[simp ↓] theorem shedCycle_same (h : m &&& 372250432 = 372250432) : Same m s (shedCycle t) ↔ Same m s t := by
  refine Same.peel ?_ h
  unfold shedCycle
  repeat' first
    | split
    | simp [Sys.modes, Svc.fuses, Svc.images]
    | intro _
    | refine (forEach_same fun _ _ => ?_).2 ?_
    | refine (atEntry_same (by decide) fun _ _ => ?_).2 ?_
    | refine (runOp_same (by decide) fun _ _ => ?_).2 ?_
    | refine (runCmd_same (by decide) fun _ _ => ?_).2 ?_
    | refine (forStrings_same fun _ _ _ => ?_).2 ?_
    | (rename_i heq; have hs := congrArg Prod.snd heq; dsimp only at hs; subst hs)

@[simp ↓] theorem countMiss_same (h : m &&& 4194304 = 4194304) : Same m s (countMiss a0 t) ↔ Same m s t := by
  refine Same.peel ?_ h
  unfold countMiss
  repeat' first
    | split
    | simp [Sys.modes, Svc.fuses, Svc.images]
    | intro _
    | refine (forEach_same fun _ _ => ?_).2 ?_
    | refine (atEntry_same (by decide) fun _ _ => ?_).2 ?_
    | refine (runOp_same (by decide) fun _ _ => ?_).2 ?_
    | refine (runCmd_same (by decide) fun _ _ => ?_).2 ?_
    | refine (forStrings_same fun _ _ _ => ?_).2 ?_
    | (rename_i heq; have hs := congrArg Prod.snd heq; dsimp only at hs; subst hs)

@[simp ↓] theorem overvoltage_same (h : m &&& 104862528 = 104862528) : Same m s (overvoltage t) ↔ Same m s t := by
  refine Same.peel ?_ h
  unfold overvoltage
  repeat' first
    | split
    | simp [Sys.modes, Svc.fuses, Svc.images]
    | intro _
    | refine (forEach_same fun _ _ => ?_).2 ?_
    | refine (atEntry_same (by decide) fun _ _ => ?_).2 ?_
    | refine (runOp_same (by decide) fun _ _ => ?_).2 ?_
    | refine (runCmd_same (by decide) fun _ _ => ?_).2 ?_
    | refine (forStrings_same fun _ _ _ => ?_).2 ?_
    | (rename_i heq; have hs := congrArg Prod.snd heq; dsimp only at hs; subst hs)

@[simp ↓] theorem shareCycle_same (h : m &&& 4198400 = 4198400) : Same m s (shareCycle t) ↔ Same m s t := by
  refine Same.peel ?_ h
  unfold shareCycle
  repeat' first
    | split
    | simp [Sys.modes, Svc.fuses, Svc.images]
    | intro _
    | refine (forEach_same fun _ _ => ?_).2 ?_
    | refine (atEntry_same (by decide) fun _ _ => ?_).2 ?_
    | refine (runOp_same (by decide) fun _ _ => ?_).2 ?_
    | refine (runCmd_same (by decide) fun _ _ => ?_).2 ?_
    | refine (forStrings_same fun _ _ _ => ?_).2 ?_
    | (rename_i heq; have hs := congrArg Prod.snd heq; dsimp only at hs; subst hs)

@[simp ↓] theorem rectCycle_same (h : m &&& 376444736 = 376444736) : Same m s (rectCycle t) ↔ Same m s t := by
  refine Same.peel ?_ h
  unfold rectCycle
  repeat' first
    | split
    | simp [Sys.modes, Svc.fuses, Svc.images]
    | intro _
    | refine (forEach_same fun _ _ => ?_).2 ?_
    | refine (atEntry_same (by decide) fun _ _ => ?_).2 ?_
    | refine (runOp_same (by decide) fun _ _ => ?_).2 ?_
    | refine (runCmd_same (by decide) fun _ _ => ?_).2 ?_
    | refine (forStrings_same fun _ _ _ => ?_).2 ?_
    | (rename_i heq; have hs := congrArg Prod.snd heq; dsimp only at hs; subst hs)

@[simp ↓] theorem blackEnded_same (h : m &&& 2097152 = 2097152) : Same m s (blackEnded t) ↔ Same m s t := by
  refine Same.peel ?_ h
  unfold blackEnded
  repeat' first
    | split
    | simp [Sys.modes, Svc.fuses, Svc.images]
    | intro _
    | refine (forEach_same fun _ _ => ?_).2 ?_
    | refine (atEntry_same (by decide) fun _ _ => ?_).2 ?_
    | refine (runOp_same (by decide) fun _ _ => ?_).2 ?_
    | refine (runCmd_same (by decide) fun _ _ => ?_).2 ?_
    | refine (forStrings_same fun _ _ _ => ?_).2 ?_
    | (rename_i heq; have hs := congrArg Prod.snd heq; dsimp only at hs; subst hs)

@[simp ↓] theorem batCycle_same (h : m &&& 2549217144 = 2549217144) : Same m s (batCycle a0 a1 t) ↔ Same m s t := by
  refine Same.peel ?_ h
  unfold batCycle
  repeat' first
    | split
    | simp [Sys.modes, Svc.fuses, Svc.images]
    | intro _
    | refine (forEach_same fun _ _ => ?_).2 ?_
    | refine (atEntry_same (by decide) fun _ _ => ?_).2 ?_
    | refine (runOp_same (by decide) fun _ _ => ?_).2 ?_
    | refine (runCmd_same (by decide) fun _ _ => ?_).2 ?_
    | refine (forStrings_same fun _ _ _ => ?_).2 ?_
    | (rename_i heq; have hs := congrArg Prod.snd heq; dsimp only at hs; subst hs)

@[simp ↓] theorem holdCycle_same (h : m &&& 117441344 = 117441344) : Same m s (holdCycle t) ↔ Same m s t := by
  refine Same.peel ?_ h
  unfold holdCycle
  repeat' first
    | split
    | simp [Sys.modes, Svc.fuses, Svc.images]
    | intro _
    | refine (forEach_same fun _ _ => ?_).2 ?_
    | refine (atEntry_same (by decide) fun _ _ => ?_).2 ?_
    | refine (runOp_same (by decide) fun _ _ => ?_).2 ?_
    | refine (runCmd_same (by decide) fun _ _ => ?_).2 ?_
    | refine (forStrings_same fun _ _ _ => ?_).2 ?_
    | (rename_i heq; have hs := congrArg Prod.snd heq; dsimp only at hs; subst hs)

@[simp ↓] theorem takeCoef_same (h : m &&& 32768 = 32768) : Same m s (takeCoef a0 t) ↔ Same m s t := by
  refine Same.peel ?_ h
  unfold takeCoef
  repeat' first
    | split
    | simp [Sys.modes, Svc.fuses, Svc.images]
    | intro _
    | refine (forEach_same fun _ _ => ?_).2 ?_
    | refine (atEntry_same (by decide) fun _ _ => ?_).2 ?_
    | refine (runOp_same (by decide) fun _ _ => ?_).2 ?_
    | refine (runCmd_same (by decide) fun _ _ => ?_).2 ?_
    | refine (forStrings_same fun _ _ _ => ?_).2 ?_
    | (rename_i heq; have hs := congrArg Prod.snd heq; dsimp only at hs; subst hs)

@[simp ↓] theorem cycEffects_same (h : m &&& 393344856 = 393344856) : Same m s (cycEffects t) ↔ Same m s t := by
  refine Same.peel ?_ h
  unfold cycEffects
  repeat' first
    | split
    | simp [Sys.modes, Svc.fuses, Svc.images]
    | intro _
    | refine (forEach_same fun _ _ => ?_).2 ?_
    | refine (atEntry_same (by decide) fun _ _ => ?_).2 ?_
    | refine (runOp_same (by decide) fun _ _ => ?_).2 ?_
    | refine (runCmd_same (by decide) fun _ _ => ?_).2 ?_
    | refine (forStrings_same fun _ _ _ => ?_).2 ?_
    | (rename_i heq; have hs := congrArg Prod.snd heq; dsimp only at hs; subst hs)

@[simp ↓] theorem newCycle_same (h : m &&& 67191616 = 67191616) : Same m s (newCycle a0 a1 t) ↔ Same m s t := by
  refine Same.peel ?_ h
  unfold newCycle
  repeat' first
    | split
    | simp [Sys.modes, Svc.fuses, Svc.images]
    | intro _
    | refine (forEach_same fun _ _ => ?_).2 ?_
    | refine (atEntry_same (by decide) fun _ _ => ?_).2 ?_
    | refine (runOp_same (by decide) fun _ _ => ?_).2 ?_
    | refine (runCmd_same (by decide) fun _ _ => ?_).2 ?_
    | refine (forStrings_same fun _ _ _ => ?_).2 ?_
    | (rename_i heq; have hs := congrArg Prod.snd heq; dsimp only at hs; subst hs)

@[simp ↓] theorem xinReturn_same (h : m &&& 104866656 = 104866656) : Same m s (xinReturn t) ↔ Same m s t := by
  refine Same.peel ?_ h
  unfold xinReturn
  repeat' first
    | split
    | simp [Sys.modes, Svc.fuses, Svc.images]
    | intro _
    | refine (forEach_same fun _ _ => ?_).2 ?_
    | refine (atEntry_same (by decide) fun _ _ => ?_).2 ?_
    | refine (runOp_same (by decide) fun _ _ => ?_).2 ?_
    | refine (runCmd_same (by decide) fun _ _ => ?_).2 ?_
    | refine (forStrings_same fun _ _ _ => ?_).2 ?_
    | (rename_i heq; have hs := congrArg Prod.snd heq; dsimp only at hs; subst hs)

@[simp ↓] theorem sumModules_same (h : m &&& 4194304 = 4194304) : Same m s (sumModules t) ↔ Same m s t := by
  refine Same.peel ?_ h
  unfold sumModules
  repeat' first
    | split
    | simp [Sys.modes, Svc.fuses, Svc.images]
    | intro _
    | refine (forEach_same fun _ _ => ?_).2 ?_
    | refine (atEntry_same (by decide) fun _ _ => ?_).2 ?_
    | refine (runOp_same (by decide) fun _ _ => ?_).2 ?_
    | refine (runCmd_same (by decide) fun _ _ => ?_).2 ?_
    | refine (forStrings_same fun _ _ _ => ?_).2 ?_
    | (rename_i heq; have hs := congrArg Prod.snd heq; dsimp only at hs; subst hs)

@[simp ↓] theorem orderSent_same (h : m &&& 4194304 = 4194304) : Same m s (orderSent a0 t) ↔ Same m s t := by
  refine Same.peel ?_ h
  unfold orderSent
  repeat' first
    | split
    | simp [Sys.modes, Svc.fuses, Svc.images]
    | intro _
    | refine (forEach_same fun _ _ => ?_).2 ?_
    | refine (atEntry_same (by decide) fun _ _ => ?_).2 ?_
    | refine (runOp_same (by decide) fun _ _ => ?_).2 ?_
    | refine (runCmd_same (by decide) fun _ _ => ?_).2 ?_
    | refine (forStrings_same fun _ _ _ => ?_).2 ?_
    | (rename_i heq; have hs := congrArg Prod.snd heq; dsimp only at hs; subst hs)

@[simp ↓] theorem firmCycle_same (h : m &&& 2549217144 = 2549217144) : Same m s (firmCycle t) ↔ Same m s t := by
  refine Same.peel ?_ h
  unfold firmCycle
  repeat' first
    | split
    | simp [Sys.modes, Svc.fuses, Svc.images]
    | intro _
    | refine (forEach_same fun _ _ => ?_).2 ?_
    | refine (atEntry_same (by decide) fun _ _ => ?_).2 ?_
    | refine (runOp_same (by decide) fun _ _ => ?_).2 ?_
    | refine (runCmd_same (by decide) fun _ _ => ?_).2 ?_
    | refine (forStrings_same fun _ _ _ => ?_).2 ?_
    | (rename_i heq; have hs := congrArg Prod.snd heq; dsimp only at hs; subst hs)

@[simp ↓] theorem releaseHeld_same (h : m &&& 16384 = 16384) : Same m s (releaseHeld t) ↔ Same m s t := by
  refine Same.peel ?_ h
  unfold releaseHeld
  repeat' first
    | split
    | simp [Sys.modes, Svc.fuses, Svc.images]
    | intro _
    | refine (forEach_same fun _ _ => ?_).2 ?_
    | refine (atEntry_same (by decide) fun _ _ => ?_).2 ?_
    | refine (runOp_same (by decide) fun _ _ => ?_).2 ?_
    | refine (runCmd_same (by decide) fun _ _ => ?_).2 ?_
    | refine (forStrings_same fun _ _ _ => ?_).2 ?_
    | (rename_i heq; have hs := congrArg Prod.snd heq; dsimp only at hs; subst hs)

@[simp ↓] theorem takeoverCycle_same (h : m &&& 2549219192 = 2549219192) : Same m s (takeoverCycle t) ↔ Same m s t := by
  refine Same.peel ?_ h
  unfold takeoverCycle
  repeat' first
    | split
    | simp [Sys.modes, Svc.fuses, Svc.images]
    | intro _
    | refine (forEach_same fun _ _ => ?_).2 ?_
    | refine (atEntry_same (by decide) fun _ _ => ?_).2 ?_
    | refine (runOp_same (by decide) fun _ _ => ?_).2 ?_
    | refine (runCmd_same (by decide) fun _ _ => ?_).2 ?_
    | refine (forStrings_same fun _ _ _ => ?_).2 ?_
    | (rename_i heq; have hs := congrArg Prod.snd heq; dsimp only at hs; subst hs)

@[simp ↓] theorem crossSums_same (h : m &&& 262144 = 262144) : Same m s (crossSums t) ↔ Same m s t := by
  refine Same.peel ?_ h
  unfold crossSums
  repeat' first
    | split
    | simp [Sys.modes, Svc.fuses, Svc.images]
    | intro _
    | refine (forEach_same fun _ _ => ?_).2 ?_
    | refine (atEntry_same (by decide) fun _ _ => ?_).2 ?_
    | refine (runOp_same (by decide) fun _ _ => ?_).2 ?_
    | refine (runCmd_same (by decide) fun _ _ => ?_).2 ?_
    | refine (forStrings_same fun _ _ _ => ?_).2 ?_
    | (rename_i heq; have hs := congrArg Prod.snd heq; dsimp only at hs; subst hs)

@[simp ↓] theorem cnvCycle_same (h : m &&& 32768 = 32768) : Same m s (cnvCycle t) ↔ Same m s t := by
  refine Same.peel ?_ h
  unfold cnvCycle
  repeat' first
    | split
    | simp [Sys.modes, Svc.fuses, Svc.images]
    | intro _
    | refine (forEach_same fun _ _ => ?_).2 ?_
    | refine (atEntry_same (by decide) fun _ _ => ?_).2 ?_
    | refine (runOp_same (by decide) fun _ _ => ?_).2 ?_
    | refine (runCmd_same (by decide) fun _ _ => ?_).2 ?_
    | refine (forStrings_same fun _ _ _ => ?_).2 ?_
    | (rename_i heq; have hs := congrArg Prod.snd heq; dsimp only at hs; subst hs)

@[simp ↓] theorem noteMeans_same (h : m &&& 32 = 32) : Same m s (noteMeans t) ↔ Same m s t := by
  refine Same.peel ?_ h
  unfold noteMeans
  repeat' first
    | split
    | simp [Sys.modes, Svc.fuses, Svc.images]
    | intro _
    | refine (forEach_same fun _ _ => ?_).2 ?_
    | refine (atEntry_same (by decide) fun _ _ => ?_).2 ?_
    | refine (runOp_same (by decide) fun _ _ => ?_).2 ?_
    | refine (runCmd_same (by decide) fun _ _ => ?_).2 ?_
    | refine (forStrings_same fun _ _ _ => ?_).2 ?_
    | (rename_i heq; have hs := congrArg Prod.snd heq; dsimp only at hs; subst hs)

@[simp ↓] theorem boundary_same (h : m &&& 2684354430 = 2684354430) : Same m s (boundary a0 t) ↔ Same m s t := by
  refine Same.peel ?_ h
  unfold boundary
  extract_lets s1 due sec ofs s2 sent y s3 s4 slots s5 s6 s7 s8 s9 s10
  have h1 : Same 2684354430 t s1 := by simp [s1]
  have h2 : Same 2684354430 t s2 := by simp [s2, h1]
  clear_value s1 s2
  have h3 : Same 2684354430 t s3 := by simp [s3, h2]
  have h4 : Same 2684354430 t s4 := by simp [s4, h3]
  clear_value s3 s4
  have h5 : Same 2684354430 t s5 := by simp [s5, h4]
  have h6 : Same 2684354430 t s6 := by simp [s6, h5]
  have h7 : Same 2684354430 t s7 := by simp [s7, h6]
  clear_value s5 s6 s7
  have h8 : Same 2684354430 t s8 := by
    simp only [s8]
    repeat' first
      | split
      | simp [h7]
  have h9 : Same 2684354430 t s9 := by
    simp only [s9]
    repeat' first
      | split
      | simp [h8]
  clear_value s8 s9
  have h10 : Same 2684354430 t s10 := by
    simp only [s10]
    repeat' first
      | split
      | simp [h9]
  clear_value s10
  simp [h10]

theorem execCycleBoundary_ends (h : m &&& 2684354430 = 2684354430) : Ends m s (execCycleBoundary a0 s) := by
  refine Ends.mono ?_ h
  unfold execCycleBoundary
  repeat' first
    | split
    | simp [Sys.modes, Svc.fuses, Svc.images]
    | intro _
    | refine (forEach_same fun _ _ => ?_).2 ?_
    | refine (atEntry_same (by decide) fun _ _ => ?_).2 ?_
    | refine (runOp_same (by decide) fun _ _ => ?_).2 ?_
    | refine (runCmd_same (by decide) fun _ _ => ?_).2 ?_
    | refine (forStrings_same fun _ _ _ => ?_).2 ?_
    | (rename_i heq; have hs := congrArg Prod.snd heq; dsimp only at hs; subst hs)

end Sys2Proof.Machine
end

