-- ==== Sys2Proof/Laws/FrameService.lean ====
section
/-! SUPPORT. Frames of the operations of Machine/Service.lean. -/

set_option Elab.async false
set_option linter.unusedTactic false
set_option linter.unreachableTactic false
set_option linter.unnecessarySeqFocus false
set_option linter.unusedSimpArgs false

namespace Sys2Proof.Machine

@[simp ↓] theorem svcHeard_same (h : m &&& 67108864 = 67108864) : Same m s (svcHeard t) ↔ Same m s t := by
  refine Same.peel ?_ h
  unfold svcHeard
  repeat' first
    | split
    | simp [Sys.modes, Svc.fuses, Svc.images]
    | intro _
    | refine (forEach_same fun _ _ => ?_).2 ?_
    | refine (serve_same (by decide) fun _ => ?_).2 ?_
    | refine (debugDo_same (by decide) fun _ => ?_).2 ?_
    | refine (hear_same (by decide) fun _ => ?_).2 ?_
    | refine (atEntry_same (by decide) fun _ _ => ?_).2 ?_
    | refine (runOp_same (by decide) fun _ _ => ?_).2 ?_
    | refine (runCmd_same (by decide) fun _ _ => ?_).2 ?_
    | refine (forStrings_same fun _ _ _ => ?_).2 ?_
    | (rename_i heq; have hs := congrArg Prod.snd heq; dsimp only at hs; subst hs)

@[simp ↓] theorem serve_same (h : m &&& 67108864 = 67108864) (k : ∀ v, Same m s (act v) ↔ Same m s v) :
    Same m s (serve type seq sec inRec act t) ↔ Same m s t := by
  simp [serve, h, k]

theorem execSvcEnRise_ends (h : m &&& 67108864 = 67108864) : Ends m s (execSvcEnRise s) := by
  refine Ends.mono ?_ h
  unfold execSvcEnRise
  repeat' first
    | split
    | simp [Sys.modes, Svc.fuses, Svc.images]
    | intro _
    | refine (forEach_same fun _ _ => ?_).2 ?_
    | refine (serve_same (by decide) fun _ => ?_).2 ?_
    | refine (debugDo_same (by decide) fun _ => ?_).2 ?_
    | refine (hear_same (by decide) fun _ => ?_).2 ?_
    | refine (atEntry_same (by decide) fun _ _ => ?_).2 ?_
    | refine (runOp_same (by decide) fun _ _ => ?_).2 ?_
    | refine (runCmd_same (by decide) fun _ _ => ?_).2 ?_
    | refine (forStrings_same fun _ _ _ => ?_).2 ?_
    | (rename_i heq; have hs := congrArg Prod.snd heq; dsimp only at hs; subst hs)

@[simp ↓] theorem lockDebug_same (h : m &&& 67108864 = 67108864) : Same m s (lockDebug t) ↔ Same m s t := by
  refine Same.peel ?_ h
  unfold lockDebug
  repeat' first
    | split
    | simp [Sys.modes, Svc.fuses, Svc.images]
    | intro _
    | refine (forEach_same fun _ _ => ?_).2 ?_
    | refine (serve_same (by decide) fun _ => ?_).2 ?_
    | refine (debugDo_same (by decide) fun _ => ?_).2 ?_
    | refine (hear_same (by decide) fun _ => ?_).2 ?_
    | refine (atEntry_same (by decide) fun _ _ => ?_).2 ?_
    | refine (runOp_same (by decide) fun _ _ => ?_).2 ?_
    | refine (runCmd_same (by decide) fun _ _ => ?_).2 ?_
    | refine (forStrings_same fun _ _ _ => ?_).2 ?_
    | (rename_i heq; have hs := congrArg Prod.snd heq; dsimp only at hs; subst hs)

@[simp ↓] theorem dropAsked_same (h : m &&& 338696000 = 338696000) : Same m s (dropAsked t) ↔ Same m s t := by
  refine Same.peel ?_ h
  unfold dropAsked
  repeat' first
    | split
    | simp [Sys.modes, Svc.fuses, Svc.images]
    | intro _
    | refine (forEach_same fun _ _ => ?_).2 ?_
    | refine (serve_same (by decide) fun _ => ?_).2 ?_
    | refine (debugDo_same (by decide) fun _ => ?_).2 ?_
    | refine (hear_same (by decide) fun _ => ?_).2 ?_
    | refine (atEntry_same (by decide) fun _ _ => ?_).2 ?_
    | refine (runOp_same (by decide) fun _ _ => ?_).2 ?_
    | refine (runCmd_same (by decide) fun _ _ => ?_).2 ?_
    | refine (forStrings_same fun _ _ _ => ?_).2 ?_
    | (rename_i heq; have hs := congrArg Prod.snd heq; dsimp only at hs; subst hs)

theorem execSvcEnFall_ends (h : m &&& 339040064 = 339040064) : Ends m s (execSvcEnFall s) := by
  refine Ends.mono ?_ h
  unfold execSvcEnFall
  repeat' first
    | split
    | simp [Sys.modes, Svc.fuses, Svc.images]
    | intro _
    | refine (forEach_same fun _ _ => ?_).2 ?_
    | refine (serve_same (by decide) fun _ => ?_).2 ?_
    | refine (debugDo_same (by decide) fun _ => ?_).2 ?_
    | refine (hear_same (by decide) fun _ => ?_).2 ?_
    | refine (atEntry_same (by decide) fun _ _ => ?_).2 ?_
    | refine (runOp_same (by decide) fun _ _ => ?_).2 ?_
    | refine (runCmd_same (by decide) fun _ _ => ?_).2 ?_
    | refine (forStrings_same fun _ _ _ => ?_).2 ?_
    | (rename_i heq; have hs := congrArg Prod.snd heq; dsimp only at hs; subst hs)

theorem execSvcFrameGap_ends (h : m &&& 0 = 0) : Ends m s (execSvcFrameGap s) := by
  refine Ends.mono ?_ h
  unfold execSvcFrameGap
  repeat' first
    | split
    | simp [Sys.modes, Svc.fuses, Svc.images]
    | intro _
    | refine (forEach_same fun _ _ => ?_).2 ?_
    | refine (serve_same (by decide) fun _ => ?_).2 ?_
    | refine (debugDo_same (by decide) fun _ => ?_).2 ?_
    | refine (hear_same (by decide) fun _ => ?_).2 ?_
    | refine (atEntry_same (by decide) fun _ _ => ?_).2 ?_
    | refine (runOp_same (by decide) fun _ _ => ?_).2 ?_
    | refine (runCmd_same (by decide) fun _ _ => ?_).2 ?_
    | refine (forStrings_same fun _ _ _ => ?_).2 ?_
    | (rename_i heq; have hs := congrArg Prod.snd heq; dsimp only at hs; subst hs)

theorem execSvcFrameDiscarded_ends (h : m &&& 0 = 0) : Ends m s (execSvcFrameDiscarded s) := by
  refine Ends.mono ?_ h
  unfold execSvcFrameDiscarded
  repeat' first
    | split
    | simp [Sys.modes, Svc.fuses, Svc.images]
    | intro _
    | refine (forEach_same fun _ _ => ?_).2 ?_
    | refine (serve_same (by decide) fun _ => ?_).2 ?_
    | refine (debugDo_same (by decide) fun _ => ?_).2 ?_
    | refine (hear_same (by decide) fun _ => ?_).2 ?_
    | refine (atEntry_same (by decide) fun _ _ => ?_).2 ?_
    | refine (runOp_same (by decide) fun _ _ => ?_).2 ?_
    | refine (runCmd_same (by decide) fun _ _ => ?_).2 ?_
    | refine (forStrings_same fun _ _ _ => ?_).2 ?_
    | (rename_i heq; have hs := congrArg Prod.snd heq; dsimp only at hs; subst hs)

theorem execSvcUndefinedType_ends (h : m &&& 67108864 = 67108864) : Ends m s (execSvcUndefinedType a0 a1 s) := by
  refine Ends.mono ?_ h
  unfold execSvcUndefinedType
  repeat' first
    | split
    | simp [Sys.modes, Svc.fuses, Svc.images]
    | intro _
    | refine (forEach_same fun _ _ => ?_).2 ?_
    | refine (serve_same (by decide) fun _ => ?_).2 ?_
    | refine (debugDo_same (by decide) fun _ => ?_).2 ?_
    | refine (hear_same (by decide) fun _ => ?_).2 ?_
    | refine (atEntry_same (by decide) fun _ _ => ?_).2 ?_
    | refine (runOp_same (by decide) fun _ _ => ?_).2 ?_
    | refine (runCmd_same (by decide) fun _ _ => ?_).2 ?_
    | refine (forStrings_same fun _ _ _ => ?_).2 ?_
    | (rename_i heq; have hs := congrArg Prod.snd heq; dsimp only at hs; subst hs)

theorem execPing_ends (h : m &&& 67108864 = 67108864) : Ends m s (execPing a0 s) := by
  refine Ends.mono ?_ h
  unfold execPing
  repeat' first
    | split
    | simp [Sys.modes, Svc.fuses, Svc.images]
    | intro _
    | refine (forEach_same fun _ _ => ?_).2 ?_
    | refine (serve_same (by decide) fun _ => ?_).2 ?_
    | refine (debugDo_same (by decide) fun _ => ?_).2 ?_
    | refine (hear_same (by decide) fun _ => ?_).2 ?_
    | refine (atEntry_same (by decide) fun _ _ => ?_).2 ?_
    | refine (runOp_same (by decide) fun _ _ => ?_).2 ?_
    | refine (runCmd_same (by decide) fun _ _ => ?_).2 ?_
    | refine (forStrings_same fun _ _ _ => ?_).2 ?_
    | (rename_i heq; have hs := congrArg Prod.snd heq; dsimp only at hs; subst hs)

theorem execSetBaud_ends (h : m &&& 67108864 = 67108864) : Ends m s (execSetBaud a0 a1 s) := by
  refine Ends.mono ?_ h
  unfold execSetBaud
  repeat' first
    | split
    | simp [Sys.modes, Svc.fuses, Svc.images]
    | intro _
    | refine (forEach_same fun _ _ => ?_).2 ?_
    | refine (serve_same (by decide) fun _ => ?_).2 ?_
    | refine (debugDo_same (by decide) fun _ => ?_).2 ?_
    | refine (hear_same (by decide) fun _ => ?_).2 ?_
    | refine (atEntry_same (by decide) fun _ _ => ?_).2 ?_
    | refine (runOp_same (by decide) fun _ _ => ?_).2 ?_
    | refine (runCmd_same (by decide) fun _ _ => ?_).2 ?_
    | refine (forStrings_same fun _ _ _ => ?_).2 ?_
    | (rename_i heq; have hs := congrArg Prod.snd heq; dsimp only at hs; subst hs)

theorem execBaudFallback_ends (h : m &&& 109708098 = 109708098) : Ends m s (execBaudFallback s) := by
  refine Ends.mono ?_ h
  unfold execBaudFallback
  repeat' first
    | split
    | simp [Sys.modes, Svc.fuses, Svc.images]
    | intro _
    | refine (forEach_same fun _ _ => ?_).2 ?_
    | refine (serve_same (by decide) fun _ => ?_).2 ?_
    | refine (debugDo_same (by decide) fun _ => ?_).2 ?_
    | refine (hear_same (by decide) fun _ => ?_).2 ?_
    | refine (atEntry_same (by decide) fun _ _ => ?_).2 ?_
    | refine (runOp_same (by decide) fun _ _ => ?_).2 ?_
    | refine (runCmd_same (by decide) fun _ _ => ?_).2 ?_
    | refine (forStrings_same fun _ _ _ => ?_).2 ?_
    | (rename_i heq; have hs := congrArg Prod.snd heq; dsimp only at hs; subst hs)

@[simp ↓] theorem svcRestartNow_same (h : m &&& 6979190776 = 6979190776) : Same m s (svcRestartNow t) ↔ Same m s t := by
  refine Same.peel ?_ h
  unfold svcRestartNow
  repeat' first
    | split
    | simp [Sys.modes, Svc.fuses, Svc.images]
    | intro _
    | refine (forEach_same fun _ _ => ?_).2 ?_
    | refine (serve_same (by decide) fun _ => ?_).2 ?_
    | refine (debugDo_same (by decide) fun _ => ?_).2 ?_
    | refine (hear_same (by decide) fun _ => ?_).2 ?_
    | refine (atEntry_same (by decide) fun _ _ => ?_).2 ?_
    | refine (runOp_same (by decide) fun _ _ => ?_).2 ?_
    | refine (runCmd_same (by decide) fun _ _ => ?_).2 ?_
    | refine (forStrings_same fun _ _ _ => ?_).2 ?_
    | (rename_i heq; have hs := congrArg Prod.snd heq; dsimp only at hs; subst hs)

theorem execSvcRestart_ends (h : m &&& 6979190776 = 6979190776) : Ends m s (execSvcRestart a0 a1 s) := by
  refine Ends.mono ?_ h
  unfold execSvcRestart
  repeat' first
    | split
    | simp [Sys.modes, Svc.fuses, Svc.images]
    | intro _
    | refine (forEach_same fun _ _ => ?_).2 ?_
    | refine (serve_same (by decide) fun _ => ?_).2 ?_
    | refine (debugDo_same (by decide) fun _ => ?_).2 ?_
    | refine (hear_same (by decide) fun _ => ?_).2 ?_
    | refine (atEntry_same (by decide) fun _ _ => ?_).2 ?_
    | refine (runOp_same (by decide) fun _ _ => ?_).2 ?_
    | refine (runCmd_same (by decide) fun _ _ => ?_).2 ?_
    | refine (forStrings_same fun _ _ _ => ?_).2 ?_
    | (rename_i heq; have hs := congrArg Prod.snd heq; dsimp only at hs; subst hs)

@[simp ↓] theorem bridgeRead_same (h : m &&& 64 = 64) : Same m s (bridgeRead a0 a1 t).2 ↔ Same m s t := by
  refine Same.peel ?_ h
  induction a1 generalizing a0 t with
  | zero => simp [bridgeRead]
  | succ n ih =>
    have ih' : ∀ (b : Nat) (v w : State), Same 64 v (bridgeRead b n w).2 ↔ Same 64 v w :=
      fun _ _ _ => Same.peel ih (Nat.and_self _)
    simp [bridgeRead, ih']

theorem execRegRead_ends (h : m &&& 67108928 = 67108928) : Ends m s (execRegRead a0 a1 a2 s) := by
  refine Ends.mono ?_ h
  unfold execRegRead
  repeat' first
    | split
    | simp [Sys.modes, Svc.fuses, Svc.images]
    | intro _
    | refine (forEach_same fun _ _ => ?_).2 ?_
    | refine (serve_same (by decide) fun _ => ?_).2 ?_
    | refine (debugDo_same (by decide) fun _ => ?_).2 ?_
    | refine (hear_same (by decide) fun _ => ?_).2 ?_
    | refine (atEntry_same (by decide) fun _ _ => ?_).2 ?_
    | refine (runOp_same (by decide) fun _ _ => ?_).2 ?_
    | refine (runCmd_same (by decide) fun _ _ => ?_).2 ?_
    | refine (forStrings_same fun _ _ _ => ?_).2 ?_
    | (rename_i heq; have hs := congrArg Prod.snd heq; dsimp only at hs; subst hs)

theorem execRegWrite_ends (h : m &&& 67108928 = 67108928) : Ends m s (execRegWrite a0 a1 a2 s) := by
  refine Ends.mono ?_ h
  unfold execRegWrite
  repeat' first
    | split
    | simp [Sys.modes, Svc.fuses, Svc.images]
    | intro _
    | refine (forEach_same fun _ _ => ?_).2 ?_
    | refine (serve_same (by decide) fun _ => ?_).2 ?_
    | refine (debugDo_same (by decide) fun _ => ?_).2 ?_
    | refine (hear_same (by decide) fun _ => ?_).2 ?_
    | refine (atEntry_same (by decide) fun _ _ => ?_).2 ?_
    | refine (runOp_same (by decide) fun _ _ => ?_).2 ?_
    | refine (runCmd_same (by decide) fun _ _ => ?_).2 ?_
    | refine (forStrings_same fun _ _ _ => ?_).2 ?_
    | (rename_i heq; have hs := congrArg Prod.snd heq; dsimp only at hs; subst hs)

theorem execMbox_ends (h : m &&& 67109056 = 67109056) : Ends m s (execMbox a0 a1 s) := by
  refine Ends.mono ?_ h
  unfold execMbox
  repeat' first
    | split
    | simp [Sys.modes, Svc.fuses, Svc.images]
    | intro _
    | refine (forEach_same fun _ _ => ?_).2 ?_
    | refine (serve_same (by decide) fun _ => ?_).2 ?_
    | refine (debugDo_same (by decide) fun _ => ?_).2 ?_
    | refine (hear_same (by decide) fun _ => ?_).2 ?_
    | refine (atEntry_same (by decide) fun _ _ => ?_).2 ?_
    | refine (runOp_same (by decide) fun _ _ => ?_).2 ?_
    | refine (runCmd_same (by decide) fun _ _ => ?_).2 ?_
    | refine (forStrings_same fun _ _ _ => ?_).2 ?_
    | (rename_i heq; have hs := congrArg Prod.snd heq; dsimp only at hs; subst hs)

theorem execDbgChallenge_ends (h : m &&& 67108868 = 67108868) : Ends m s (execDbgChallenge a0 s) := by
  refine Ends.mono ?_ h
  unfold execDbgChallenge
  repeat' first
    | split
    | simp [Sys.modes, Svc.fuses, Svc.images]
    | intro _
    | refine (forEach_same fun _ _ => ?_).2 ?_
    | refine (serve_same (by decide) fun _ => ?_).2 ?_
    | refine (debugDo_same (by decide) fun _ => ?_).2 ?_
    | refine (hear_same (by decide) fun _ => ?_).2 ?_
    | refine (atEntry_same (by decide) fun _ _ => ?_).2 ?_
    | refine (runOp_same (by decide) fun _ _ => ?_).2 ?_
    | refine (runCmd_same (by decide) fun _ _ => ?_).2 ?_
    | refine (forStrings_same fun _ _ _ => ?_).2 ?_
    | (rename_i heq; have hs := congrArg Prod.snd heq; dsimp only at hs; subst hs)

theorem execDbgUnlock_ends (h : m &&& 372250432 = 372250432) : Ends m s (execDbgUnlock a0 a1 a2 s) := by
  refine Ends.mono ?_ h
  unfold execDbgUnlock
  repeat' first
    | split
    | simp [Sys.modes, Svc.fuses, Svc.images]
    | intro _
    | refine (forEach_same fun _ _ => ?_).2 ?_
    | refine (serve_same (by decide) fun _ => ?_).2 ?_
    | refine (debugDo_same (by decide) fun _ => ?_).2 ?_
    | refine (hear_same (by decide) fun _ => ?_).2 ?_
    | refine (atEntry_same (by decide) fun _ _ => ?_).2 ?_
    | refine (runOp_same (by decide) fun _ _ => ?_).2 ?_
    | refine (runCmd_same (by decide) fun _ _ => ?_).2 ?_
    | refine (forStrings_same fun _ _ _ => ?_).2 ?_
    | (rename_i heq; have hs := congrArg Prod.snd heq; dsimp only at hs; subst hs)

theorem execDbgLock_ends (h : m &&& 67108864 = 67108864) : Ends m s (execDbgLock a0 s) := by
  refine Ends.mono ?_ h
  unfold execDbgLock
  repeat' first
    | split
    | simp [Sys.modes, Svc.fuses, Svc.images]
    | intro _
    | refine (forEach_same fun _ _ => ?_).2 ?_
    | refine (serve_same (by decide) fun _ => ?_).2 ?_
    | refine (debugDo_same (by decide) fun _ => ?_).2 ?_
    | refine (hear_same (by decide) fun _ => ?_).2 ?_
    | refine (atEntry_same (by decide) fun _ _ => ?_).2 ?_
    | refine (runOp_same (by decide) fun _ _ => ?_).2 ?_
    | refine (runCmd_same (by decide) fun _ _ => ?_).2 ?_
    | refine (forStrings_same fun _ _ _ => ?_).2 ?_
    | (rename_i heq; have hs := congrArg Prod.snd heq; dsimp only at hs; subst hs)

@[simp ↓] theorem debugDo_same (h : m &&& 67108864 = 67108864) (k : ∀ v, Same m s (act v) ↔ Same m s v) :
    Same m s (debugDo seq level act t) ↔ Same m s t := by
  simp [debugDo, h, k]

@[simp ↓] theorem putDebugMem_same (h : m &&& 67108864 = 67108864) : Same m s (putDebugMem a0 a1 t) ↔ Same m s t := by
  refine Same.peel ?_ h
  unfold putDebugMem
  repeat' first
    | split
    | simp [Sys.modes, Svc.fuses, Svc.images]
    | intro _
    | refine (forEach_same fun _ _ => ?_).2 ?_
    | refine (serve_same (by decide) fun _ => ?_).2 ?_
    | refine (debugDo_same (by decide) fun _ => ?_).2 ?_
    | refine (hear_same (by decide) fun _ => ?_).2 ?_
    | refine (atEntry_same (by decide) fun _ _ => ?_).2 ?_
    | refine (runOp_same (by decide) fun _ _ => ?_).2 ?_
    | refine (runCmd_same (by decide) fun _ _ => ?_).2 ?_
    | refine (forStrings_same fun _ _ _ => ?_).2 ?_
    | (rename_i heq; have hs := congrArg Prod.snd heq; dsimp only at hs; subst hs)

@[simp ↓] theorem dropDebugMem_same (h : m &&& 67108864 = 67108864) : Same m s (dropDebugMem t) ↔ Same m s t := by
  refine Same.peel ?_ h
  unfold dropDebugMem
  repeat' first
    | split
    | simp [Sys.modes, Svc.fuses, Svc.images]
    | intro _
    | refine (forEach_same fun _ _ => ?_).2 ?_
    | refine (serve_same (by decide) fun _ => ?_).2 ?_
    | refine (debugDo_same (by decide) fun _ => ?_).2 ?_
    | refine (hear_same (by decide) fun _ => ?_).2 ?_
    | refine (atEntry_same (by decide) fun _ _ => ?_).2 ?_
    | refine (runOp_same (by decide) fun _ _ => ?_).2 ?_
    | refine (runCmd_same (by decide) fun _ _ => ?_).2 ?_
    | refine (forStrings_same fun _ _ _ => ?_).2 ?_
    | (rename_i heq; have hs := congrArg Prod.snd heq; dsimp only at hs; subst hs)

@[simp ↓] theorem debugWord_same (h : m &&& 4 = 4) : Same m s (debugWord a0 t).2 ↔ Same m s t := by
  refine Same.peel ?_ h
  unfold debugWord
  repeat' first
    | split
    | simp [Sys.modes, Svc.fuses, Svc.images]
    | intro _
    | refine (forEach_same fun _ _ => ?_).2 ?_
    | refine (serve_same (by decide) fun _ => ?_).2 ?_
    | refine (debugDo_same (by decide) fun _ => ?_).2 ?_
    | refine (hear_same (by decide) fun _ => ?_).2 ?_
    | refine (atEntry_same (by decide) fun _ _ => ?_).2 ?_
    | refine (runOp_same (by decide) fun _ _ => ?_).2 ?_
    | refine (runCmd_same (by decide) fun _ _ => ?_).2 ?_
    | refine (forStrings_same fun _ _ _ => ?_).2 ?_
    | (rename_i heq; have hs := congrArg Prod.snd heq; dsimp only at hs; subst hs)

@[simp ↓] theorem debugWords_same (h : m &&& 4 = 4) : Same m s (debugWords a0 a1 t).2 ↔ Same m s t := by
  refine Same.peel ?_ h
  induction a1 generalizing a0 t with
  | zero => simp [debugWords]
  | succ n ih =>
    have ih' : ∀ (b : Nat) (v w : State), Same 4 v (debugWords b n w).2 ↔ Same 4 v w :=
      fun _ _ _ => Same.peel ih (Nat.and_self _)
    simp [debugWords, ih']

theorem execDbgRead_ends (h : m &&& 67108868 = 67108868) : Ends m s (execDbgRead a0 a1 a2 s) := by
  refine Ends.mono ?_ h
  unfold execDbgRead
  repeat' first
    | split
    | simp [Sys.modes, Svc.fuses, Svc.images]
    | intro _
    | refine (forEach_same fun _ _ => ?_).2 ?_
    | refine (serve_same (by decide) fun _ => ?_).2 ?_
    | refine (debugDo_same (by decide) fun _ => ?_).2 ?_
    | refine (hear_same (by decide) fun _ => ?_).2 ?_
    | refine (atEntry_same (by decide) fun _ _ => ?_).2 ?_
    | refine (runOp_same (by decide) fun _ _ => ?_).2 ?_
    | refine (runCmd_same (by decide) fun _ _ => ?_).2 ?_
    | refine (forStrings_same fun _ _ _ => ?_).2 ?_
    | (rename_i heq; have hs := congrArg Prod.snd heq; dsimp only at hs; subst hs)

@[simp ↓] theorem answerPc_same (h : m &&& 67108868 = 67108868) : Same m s (answerPc a0 t) ↔ Same m s t := by
  refine Same.peel ?_ h
  unfold answerPc
  repeat' first
    | split
    | simp [Sys.modes, Svc.fuses, Svc.images]
    | intro _
    | refine (forEach_same fun _ _ => ?_).2 ?_
    | refine (serve_same (by decide) fun _ => ?_).2 ?_
    | refine (debugDo_same (by decide) fun _ => ?_).2 ?_
    | refine (hear_same (by decide) fun _ => ?_).2 ?_
    | refine (atEntry_same (by decide) fun _ _ => ?_).2 ?_
    | refine (runOp_same (by decide) fun _ _ => ?_).2 ?_
    | refine (runCmd_same (by decide) fun _ _ => ?_).2 ?_
    | refine (forStrings_same fun _ _ _ => ?_).2 ?_
    | (rename_i heq; have hs := congrArg Prod.snd heq; dsimp only at hs; subst hs)

theorem execDbgHalt_ends (h : m &&& 67108868 = 67108868) : Ends m s (execDbgHalt a0 s) := by
  refine Ends.mono ?_ h
  unfold execDbgHalt
  repeat' first
    | split
    | simp [Sys.modes, Svc.fuses, Svc.images]
    | intro _
    | refine (forEach_same fun _ _ => ?_).2 ?_
    | refine (serve_same (by decide) fun _ => ?_).2 ?_
    | refine (debugDo_same (by decide) fun _ => ?_).2 ?_
    | refine (hear_same (by decide) fun _ => ?_).2 ?_
    | refine (atEntry_same (by decide) fun _ _ => ?_).2 ?_
    | refine (runOp_same (by decide) fun _ _ => ?_).2 ?_
    | refine (runCmd_same (by decide) fun _ _ => ?_).2 ?_
    | refine (forStrings_same fun _ _ _ => ?_).2 ?_
    | (rename_i heq; have hs := congrArg Prod.snd heq; dsimp only at hs; subst hs)

theorem execDbgResume_ends (h : m &&& 67108864 = 67108864) : Ends m s (execDbgResume a0 s) := by
  refine Ends.mono ?_ h
  unfold execDbgResume
  repeat' first
    | split
    | simp [Sys.modes, Svc.fuses, Svc.images]
    | intro _
    | refine (forEach_same fun _ _ => ?_).2 ?_
    | refine (serve_same (by decide) fun _ => ?_).2 ?_
    | refine (debugDo_same (by decide) fun _ => ?_).2 ?_
    | refine (hear_same (by decide) fun _ => ?_).2 ?_
    | refine (atEntry_same (by decide) fun _ _ => ?_).2 ?_
    | refine (runOp_same (by decide) fun _ _ => ?_).2 ?_
    | refine (runCmd_same (by decide) fun _ _ => ?_).2 ?_
    | refine (forStrings_same fun _ _ _ => ?_).2 ?_
    | (rename_i heq; have hs := congrArg Prod.snd heq; dsimp only at hs; subst hs)

theorem execDbgStep_ends (h : m &&& 67108868 = 67108868) : Ends m s (execDbgStep a0 s) := by
  refine Ends.mono ?_ h
  unfold execDbgStep
  repeat' first
    | split
    | simp [Sys.modes, Svc.fuses, Svc.images]
    | intro _
    | refine (forEach_same fun _ _ => ?_).2 ?_
    | refine (serve_same (by decide) fun _ => ?_).2 ?_
    | refine (debugDo_same (by decide) fun _ => ?_).2 ?_
    | refine (hear_same (by decide) fun _ => ?_).2 ?_
    | refine (atEntry_same (by decide) fun _ _ => ?_).2 ?_
    | refine (runOp_same (by decide) fun _ _ => ?_).2 ?_
    | refine (runCmd_same (by decide) fun _ _ => ?_).2 ?_
    | refine (forStrings_same fun _ _ _ => ?_).2 ?_
    | (rename_i heq; have hs := congrArg Prod.snd heq; dsimp only at hs; subst hs)

@[simp ↓] theorem debugPut_same (h : m &&& 67108864 = 67108864) : Same m s (debugPut a0 a1 t) ↔ Same m s t := by
  refine Same.peel ?_ h
  unfold debugPut
  repeat' first
    | split
    | simp [Sys.modes, Svc.fuses, Svc.images]
    | intro _
    | refine (forEach_same fun _ _ => ?_).2 ?_
    | refine (serve_same (by decide) fun _ => ?_).2 ?_
    | refine (debugDo_same (by decide) fun _ => ?_).2 ?_
    | refine (hear_same (by decide) fun _ => ?_).2 ?_
    | refine (atEntry_same (by decide) fun _ _ => ?_).2 ?_
    | refine (runOp_same (by decide) fun _ _ => ?_).2 ?_
    | refine (runCmd_same (by decide) fun _ _ => ?_).2 ?_
    | refine (forStrings_same fun _ _ _ => ?_).2 ?_
    | (rename_i heq; have hs := congrArg Prod.snd heq; dsimp only at hs; subst hs)

theorem execDbgWrite_ends (h : m &&& 67108864 = 67108864) : Ends m s (execDbgWrite a0 a1 a2 s) := by
  refine Ends.mono ?_ h
  unfold execDbgWrite
  repeat' first
    | split
    | simp [Sys.modes, Svc.fuses, Svc.images]
    | intro _
    | refine (forEach_same fun _ _ => ?_).2 ?_
    | refine (serve_same (by decide) fun _ => ?_).2 ?_
    | refine (debugDo_same (by decide) fun _ => ?_).2 ?_
    | refine (hear_same (by decide) fun _ => ?_).2 ?_
    | refine (atEntry_same (by decide) fun _ _ => ?_).2 ?_
    | refine (runOp_same (by decide) fun _ _ => ?_).2 ?_
    | refine (runCmd_same (by decide) fun _ _ => ?_).2 ?_
    | refine (forStrings_same fun _ _ _ => ?_).2 ?_
    | (rename_i heq; have hs := congrArg Prod.snd heq; dsimp only at hs; subst hs)

theorem execWearReset_ends (h : m &&& 83887104 = 83887104) : Ends m s (execWearReset a0 a1 s) := by
  refine Ends.mono ?_ h
  unfold execWearReset
  repeat' first
    | split
    | simp [clearWear, Svc.fuses, Svc.images]
    | refine (serve_same (by decide) fun _ => ?_).2 ?_

end Sys2Proof.Machine
end

