-- ==== Sys2Proof/Laws/FrameUpdate.lean ====
section
/-! SUPPORT. Frames of the operations of Machine/Update.lean. -/

set_option Elab.async false
set_option linter.unusedTactic false
set_option linter.unreachableTactic false
set_option linter.unnecessarySeqFocus false
set_option linter.unusedSimpArgs false

namespace Sys2Proof.Machine

theorem execImgBegin_ends (h : m &&& 67108864 = 67108864) : Ends m s (execImgBegin a0 a1 a2 s) := by
  refine Ends.mono ?_ h
  unfold execImgBegin
  repeat' first
    | split
    | simp [Sys.modes, Svc.fuses, Svc.images]
    | intro _
    | refine (forEach_same fun _ _ => ?_).2 ?_
    | refine (serve_same (by decide) fun _ => ?_).2 ?_
    | refine (debugDo_same (by decide) fun _ => ?_).2 ?_
    | refine (hear_same (by decide) fun _ => ?_).2 ?_
    | refine (atEntry_same (by decide) fun _ _ => ?_).2 ?_
    | refine (runOp_same (by decide) fun _ _ => ?_).2 ?_
    | refine (runCmd_same (by decide) fun _ _ => ?_).2 ?_
    | refine (forStrings_same fun _ _ _ => ?_).2 ?_
    | (rename_i heq; have hs := congrArg Prod.snd heq; dsimp only at hs; subst hs)

theorem execImgData_ends (h : m &&& 1140850688 = 1140850688) : Ends m s (execImgData a0 a1 a2 s) := by
  refine Ends.mono ?_ h
  unfold execImgData
  repeat' first
    | split
    | simp [Sys.modes, Svc.fuses, Svc.images]
    | intro _
    | refine (forEach_same fun _ _ => ?_).2 ?_
    | refine (serve_same (by decide) fun _ => ?_).2 ?_
    | refine (debugDo_same (by decide) fun _ => ?_).2 ?_
    | refine (hear_same (by decide) fun _ => ?_).2 ?_
    | refine (atEntry_same (by decide) fun _ _ => ?_).2 ?_
    | refine (runOp_same (by decide) fun _ _ => ?_).2 ?_
    | refine (runCmd_same (by decide) fun _ _ => ?_).2 ?_
    | refine (forStrings_same fun _ _ _ => ?_).2 ?_
    | (rename_i heq; have hs := congrArg Prod.snd heq; dsimp only at hs; subst hs)

@[simp ↓] theorem passBank_same (h : m &&& 67108864 = 67108864) : Same m s (passBank a0 t) ↔ Same m s t := by
  refine Same.peel ?_ h
  unfold passBank
  repeat' first
    | split
    | simp [Sys.modes, Svc.fuses, Svc.images]
    | intro _
    | refine (forEach_same fun _ _ => ?_).2 ?_
    | refine (serve_same (by decide) fun _ => ?_).2 ?_
    | refine (debugDo_same (by decide) fun _ => ?_).2 ?_
    | refine (hear_same (by decide) fun _ => ?_).2 ?_
    | refine (atEntry_same (by decide) fun _ _ => ?_).2 ?_
    | refine (runOp_same (by decide) fun _ _ => ?_).2 ?_
    | refine (runCmd_same (by decide) fun _ _ => ?_).2 ?_
    | refine (forStrings_same fun _ _ _ => ?_).2 ?_
    | (rename_i heq; have hs := congrArg Prod.snd heq; dsimp only at hs; subst hs)

@[simp ↓] theorem failBank_same (h : m &&& 67108864 = 67108864) : Same m s (failBank a0 t) ↔ Same m s t := by
  refine Same.peel ?_ h
  unfold failBank
  repeat' first
    | split
    | simp [Sys.modes, Svc.fuses, Svc.images]
    | intro _
    | refine (forEach_same fun _ _ => ?_).2 ?_
    | refine (serve_same (by decide) fun _ => ?_).2 ?_
    | refine (debugDo_same (by decide) fun _ => ?_).2 ?_
    | refine (hear_same (by decide) fun _ => ?_).2 ?_
    | refine (atEntry_same (by decide) fun _ _ => ?_).2 ?_
    | refine (runOp_same (by decide) fun _ _ => ?_).2 ?_
    | refine (runCmd_same (by decide) fun _ _ => ?_).2 ?_
    | refine (forStrings_same fun _ _ _ => ?_).2 ?_
    | (rename_i heq; have hs := congrArg Prod.snd heq; dsimp only at hs; subst hs)

theorem execImgEnd_ends (h : m &&& 67108864 = 67108864) : Ends m s (execImgEnd a0 s) := by
  refine Ends.mono ?_ h
  unfold execImgEnd
  repeat' first
    | split
    | simp [Sys.modes, Svc.fuses, Svc.images]
    | intro _
    | refine (forEach_same fun _ _ => ?_).2 ?_
    | refine (serve_same (by decide) fun _ => ?_).2 ?_
    | refine (debugDo_same (by decide) fun _ => ?_).2 ?_
    | refine (hear_same (by decide) fun _ => ?_).2 ?_
    | refine (atEntry_same (by decide) fun _ _ => ?_).2 ?_
    | refine (runOp_same (by decide) fun _ _ => ?_).2 ?_
    | refine (runCmd_same (by decide) fun _ _ => ?_).2 ?_
    | refine (forStrings_same fun _ _ _ => ?_).2 ?_
    | (rename_i heq; have hs := congrArg Prod.snd heq; dsimp only at hs; subst hs)

theorem execTakeover_ends (h : m &&& 2549217144 = 2549217144) : Ends m s (execTakeover a0 a1 s) := by
  refine Ends.mono ?_ h
  unfold execTakeover
  repeat' first
    | split
    | simp [Sys.modes, Svc.fuses, Svc.images]
    | intro _
    | refine (forEach_same fun _ _ => ?_).2 ?_
    | refine (serve_same (by decide) fun _ => ?_).2 ?_
    | refine (debugDo_same (by decide) fun _ => ?_).2 ?_
    | refine (hear_same (by decide) fun _ => ?_).2 ?_
    | refine (atEntry_same (by decide) fun _ _ => ?_).2 ?_
    | refine (runOp_same (by decide) fun _ _ => ?_).2 ?_
    | refine (runCmd_same (by decide) fun _ _ => ?_).2 ?_
    | refine (forStrings_same fun _ _ _ => ?_).2 ?_
    | (rename_i heq; have hs := congrArg Prod.snd heq; dsimp only at hs; subst hs)

theorem execShadowBootDone_ends (h : m &&& 2549217144 = 2549217144) : Ends m s (execShadowBootDone s) := by
  refine Ends.mono ?_ h
  unfold execShadowBootDone
  repeat' first
    | split
    | simp [Sys.modes, Svc.fuses, Svc.images]
    | intro _
    | refine (forEach_same fun _ _ => ?_).2 ?_
    | refine (serve_same (by decide) fun _ => ?_).2 ?_
    | refine (debugDo_same (by decide) fun _ => ?_).2 ?_
    | refine (hear_same (by decide) fun _ => ?_).2 ?_
    | refine (atEntry_same (by decide) fun _ _ => ?_).2 ?_
    | refine (runOp_same (by decide) fun _ _ => ?_).2 ?_
    | refine (runCmd_same (by decide) fun _ _ => ?_).2 ?_
    | refine (forStrings_same fun _ _ _ => ?_).2 ?_
    | (rename_i heq; have hs := congrArg Prod.snd heq; dsimp only at hs; subst hs)

theorem execMirrorReady_ends (h : m &&& 67117088 = 67117088) : Ends m s (execMirrorReady s) := by
  refine Ends.mono ?_ h
  unfold execMirrorReady
  repeat' first
    | split
    | simp [Sys.modes, Svc.fuses, Svc.images]
    | intro _
    | refine (forEach_same fun _ _ => ?_).2 ?_
    | refine (serve_same (by decide) fun _ => ?_).2 ?_
    | refine (debugDo_same (by decide) fun _ => ?_).2 ?_
    | refine (hear_same (by decide) fun _ => ?_).2 ?_
    | refine (atEntry_same (by decide) fun _ _ => ?_).2 ?_
    | refine (runOp_same (by decide) fun _ _ => ?_).2 ?_
    | refine (runCmd_same (by decide) fun _ _ => ?_).2 ?_
    | refine (forStrings_same fun _ _ _ => ?_).2 ?_
    | (rename_i heq; have hs := congrArg Prod.snd heq; dsimp only at hs; subst hs)

theorem execSyncTimeout_ends (h : m &&& 2549872506 = 2549872506) : Ends m s (execSyncTimeout s) := by
  refine Ends.mono ?_ h
  unfold execSyncTimeout
  repeat' first
    | split
    | simp [Sys.modes, Svc.fuses, Svc.images]
    | intro _
    | refine (forEach_same fun _ _ => ?_).2 ?_
    | refine (serve_same (by decide) fun _ => ?_).2 ?_
    | refine (debugDo_same (by decide) fun _ => ?_).2 ?_
    | refine (hear_same (by decide) fun _ => ?_).2 ?_
    | refine (atEntry_same (by decide) fun _ _ => ?_).2 ?_
    | refine (runOp_same (by decide) fun _ _ => ?_).2 ?_
    | refine (runCmd_same (by decide) fun _ _ => ?_).2 ?_
    | refine (forStrings_same fun _ _ _ => ?_).2 ?_
    | (rename_i heq; have hs := congrArg Prod.snd heq; dsimp only at hs; subst hs)

theorem execTakeoverBoundary_ends (h : m &&& 6844446584 = 6844446584) : Ends m s (execTakeoverBoundary s) := by
  refine Ends.mono ?_ h
  unfold execTakeoverBoundary
  repeat' first
    | split
    | simp [Sys.modes, Svc.fuses, Svc.images]
    | intro _
    | refine (forEach_same fun _ _ => ?_).2 ?_
    | refine (serve_same (by decide) fun _ => ?_).2 ?_
    | refine (debugDo_same (by decide) fun _ => ?_).2 ?_
    | refine (hear_same (by decide) fun _ => ?_).2 ?_
    | refine (atEntry_same (by decide) fun _ _ => ?_).2 ?_
    | refine (runOp_same (by decide) fun _ _ => ?_).2 ?_
    | refine (runCmd_same (by decide) fun _ _ => ?_).2 ?_
    | refine (forStrings_same fun _ _ _ => ?_).2 ?_
    | (rename_i heq; have hs := congrArg Prod.snd heq; dsimp only at hs; subst hs)

theorem execConfirm_ends (h : m &&& 620756992 = 620756992) : Ends m s (execConfirm a0 a1 s) := by
  refine Ends.mono ?_ h
  unfold execConfirm
  repeat' first
    | split
    | simp [Sys.modes, Svc.fuses, Svc.images]
    | intro _
    | refine (forEach_same fun _ _ => ?_).2 ?_
    | refine (serve_same (by decide) fun _ => ?_).2 ?_
    | refine (debugDo_same (by decide) fun _ => ?_).2 ?_
    | refine (hear_same (by decide) fun _ => ?_).2 ?_
    | refine (atEntry_same (by decide) fun _ _ => ?_).2 ?_
    | refine (runOp_same (by decide) fun _ _ => ?_).2 ?_
    | refine (runCmd_same (by decide) fun _ _ => ?_).2 ?_
    | refine (forStrings_same fun _ _ _ => ?_).2 ?_
    | (rename_i heq; have hs := congrArg Prod.snd heq; dsimp only at hs; subst hs)

theorem execTrialTimeout_ends (h : m &&& 663356226 = 663356226) : Ends m s (execTrialTimeout s) := by
  refine Ends.mono ?_ h
  unfold execTrialTimeout
  repeat' first
    | split
    | simp [Sys.modes, Svc.fuses, Svc.images]
    | intro _
    | refine (forEach_same fun _ _ => ?_).2 ?_
    | refine (serve_same (by decide) fun _ => ?_).2 ?_
    | refine (debugDo_same (by decide) fun _ => ?_).2 ?_
    | refine (hear_same (by decide) fun _ => ?_).2 ?_
    | refine (atEntry_same (by decide) fun _ _ => ?_).2 ?_
    | refine (runOp_same (by decide) fun _ _ => ?_).2 ?_
    | refine (runCmd_same (by decide) fun _ _ => ?_).2 ?_
    | refine (forStrings_same fun _ _ _ => ?_).2 ?_
    | (rename_i heq; have hs := congrArg Prod.snd heq; dsimp only at hs; subst hs)

theorem execRollback_ends (h : m &&& 6844973048 = 6844973048) : Ends m s (execRollback a0 a1 s) := by
  refine Ends.mono ?_ h
  unfold execRollback
  repeat' first
    | split
    | simp [Sys.modes, Svc.fuses, Svc.images]
    | intro _
    | refine (forEach_same fun _ _ => ?_).2 ?_
    | refine (serve_same (by decide) fun _ => ?_).2 ?_
    | refine (debugDo_same (by decide) fun _ => ?_).2 ?_
    | refine (hear_same (by decide) fun _ => ?_).2 ?_
    | refine (atEntry_same (by decide) fun _ _ => ?_).2 ?_
    | refine (runOp_same (by decide) fun _ _ => ?_).2 ?_
    | refine (runCmd_same (by decide) fun _ _ => ?_).2 ?_
    | refine (forStrings_same fun _ _ _ => ?_).2 ?_
    | (rename_i heq; have hs := congrArg Prod.snd heq; dsimp only at hs; subst hs)

end Sys2Proof.Machine
end

