-- ==== Sys2Proof/Laws/FrameStart.lean ====
section
/-! SUPPORT. Frames of the operations of Machine/Start.lean. -/

set_option Elab.async false
set_option linter.unusedTactic false
set_option linter.unreachableTactic false
set_option linter.unnecessarySeqFocus false
set_option linter.unusedSimpArgs false

namespace Sys2Proof.Machine

theorem execPowerOn_ends (h : m &&& 6979190776 = 6979190776) : Ends m s (execPowerOn a0 a1 a2 s) := by
  refine Ends.mono ?_ h
  unfold execPowerOn
  repeat' first
    | split
    | simp [Sys.modes, Svc.fuses, Svc.images]
    | intro _
    | refine (forEach_same fun _ _ => ?_).2 ?_
    | refine (serve_same (by decide) fun _ => ?_).2 ?_
    | refine (debugDo_same (by decide) fun _ => ?_).2 ?_
    | refine (hear_same (by decide) fun _ => ?_).2 ?_
    | refine (atEntry_same (by decide) fun _ _ => ?_).2 ?_
    | refine (runOp_same (by decide) fun _ _ => ?_).2 ?_
    | refine (runCmd_same (by decide) fun _ _ => ?_).2 ?_
    | refine (forStrings_same fun _ _ _ => ?_).2 ?_
    | (rename_i heq; have hs := congrArg Prod.snd heq; dsimp only at hs; subst hs)

@[simp ↓] theorem handshake_same (h : m &&& 393230144 = 393230144) : Same m s (handshake t) ↔ Same m s t := by
  refine Same.peel ?_ h
  unfold handshake
  repeat' first
    | split
    | simp [Sys.modes, Svc.fuses, Svc.images]
    | intro _
    | refine (forEach_same fun _ _ => ?_).2 ?_
    | refine (serve_same (by decide) fun _ => ?_).2 ?_
    | refine (debugDo_same (by decide) fun _ => ?_).2 ?_
    | refine (hear_same (by decide) fun _ => ?_).2 ?_
    | refine (atEntry_same (by decide) fun _ _ => ?_).2 ?_
    | refine (runOp_same (by decide) fun _ _ => ?_).2 ?_
    | refine (runCmd_same (by decide) fun _ _ => ?_).2 ?_
    | refine (forStrings_same fun _ _ _ => ?_).2 ?_
    | (rename_i heq; have hs := congrArg Prod.snd heq; dsimp only at hs; subst hs)

theorem execTinSoldierHandshake_ends (h : m &&& 393232228 = 393232228) : Ends m s (execTinSoldierHandshake s) := by
  refine Ends.mono ?_ h
  unfold execTinSoldierHandshake
  repeat' first
    | split
    | simp [Sys.modes, Svc.fuses, Svc.images]
    | intro _
    | refine (forEach_same fun _ _ => ?_).2 ?_
    | refine (serve_same (by decide) fun _ => ?_).2 ?_
    | refine (debugDo_same (by decide) fun _ => ?_).2 ?_
    | refine (hear_same (by decide) fun _ => ?_).2 ?_
    | refine (atEntry_same (by decide) fun _ _ => ?_).2 ?_
    | refine (runOp_same (by decide) fun _ _ => ?_).2 ?_
    | refine (runCmd_same (by decide) fun _ _ => ?_).2 ?_
    | refine (forStrings_same fun _ _ _ => ?_).2 ?_
    | (rename_i heq; have hs := congrArg Prod.snd heq; dsimp only at hs; subst hs)

theorem execSimplexStartTimeout_ends (h : m &&& 393232228 = 393232228) : Ends m s (execSimplexStartTimeout s) := by
  refine Ends.mono ?_ h
  unfold execSimplexStartTimeout
  repeat' first
    | split
    | simp [Sys.modes, Svc.fuses, Svc.images]
    | intro _
    | refine (forEach_same fun _ _ => ?_).2 ?_
    | refine (serve_same (by decide) fun _ => ?_).2 ?_
    | refine (debugDo_same (by decide) fun _ => ?_).2 ?_
    | refine (hear_same (by decide) fun _ => ?_).2 ?_
    | refine (atEntry_same (by decide) fun _ _ => ?_).2 ?_
    | refine (runOp_same (by decide) fun _ _ => ?_).2 ?_
    | refine (runCmd_same (by decide) fun _ _ => ?_).2 ?_
    | refine (forStrings_same fun _ _ _ => ?_).2 ?_
    | (rename_i heq; have hs := congrArg Prod.snd heq; dsimp only at hs; subst hs)

@[simp ↓] theorem readyNow_same (h : m &&& 104858464 = 104858464) : Same m s (readyNow t) ↔ Same m s t := by
  refine Same.peel ?_ h
  unfold readyNow
  repeat' first
    | split
    | simp [Sys.modes, Svc.fuses, Svc.images]
    | intro _
    | refine (forEach_same fun _ _ => ?_).2 ?_
    | refine (serve_same (by decide) fun _ => ?_).2 ?_
    | refine (debugDo_same (by decide) fun _ => ?_).2 ?_
    | refine (hear_same (by decide) fun _ => ?_).2 ?_
    | refine (atEntry_same (by decide) fun _ _ => ?_).2 ?_
    | refine (runOp_same (by decide) fun _ _ => ?_).2 ?_
    | refine (runCmd_same (by decide) fun _ _ => ?_).2 ?_
    | refine (forStrings_same fun _ _ _ => ?_).2 ?_
    | (rename_i heq; have hs := congrArg Prod.snd heq; dsimp only at hs; subst hs)

theorem execFirmwareReady_ends (h : m &&& 2549217144 = 2549217144) : Ends m s (execFirmwareReady s) := by
  refine Ends.mono ?_ h
  unfold execFirmwareReady
  repeat' first
    | split
    | simp [Sys.modes, Svc.fuses, Svc.images]
    | intro _
    | refine (forEach_same fun _ _ => ?_).2 ?_
    | refine (serve_same (by decide) fun _ => ?_).2 ?_
    | refine (debugDo_same (by decide) fun _ => ?_).2 ?_
    | refine (hear_same (by decide) fun _ => ?_).2 ?_
    | refine (atEntry_same (by decide) fun _ _ => ?_).2 ?_
    | refine (runOp_same (by decide) fun _ _ => ?_).2 ?_
    | refine (runCmd_same (by decide) fun _ _ => ?_).2 ?_
    | refine (forStrings_same fun _ _ _ => ?_).2 ?_
    | (rename_i heq; have hs := congrArg Prod.snd heq; dsimp only at hs; subst hs)

@[simp ↓] theorem resume_same (h : m &&& 2549217144 = 2549217144) : Same m s (resume t) ↔ Same m s t := by
  refine Same.peel ?_ h
  unfold resume
  repeat' first
    | split
    | simp [Sys.modes, Svc.fuses, Svc.images]
    | intro _
    | refine (forEach_same fun _ _ => ?_).2 ?_
    | refine (serve_same (by decide) fun _ => ?_).2 ?_
    | refine (debugDo_same (by decide) fun _ => ?_).2 ?_
    | refine (hear_same (by decide) fun _ => ?_).2 ?_
    | refine (atEntry_same (by decide) fun _ _ => ?_).2 ?_
    | refine (runOp_same (by decide) fun _ _ => ?_).2 ?_
    | refine (runCmd_same (by decide) fun _ _ => ?_).2 ?_
    | refine (forStrings_same fun _ _ _ => ?_).2 ?_
    | (rename_i heq; have hs := congrArg Prod.snd heq; dsimp only at hs; subst hs)

theorem execResumption_ends (h : m &&& 2549217144 = 2549217144) : Ends m s (execResumption s) := by
  refine Ends.mono ?_ h
  unfold execResumption
  repeat' first
    | split
    | simp [Sys.modes, Svc.fuses, Svc.images]
    | intro _
    | refine (forEach_same fun _ _ => ?_).2 ?_
    | refine (serve_same (by decide) fun _ => ?_).2 ?_
    | refine (debugDo_same (by decide) fun _ => ?_).2 ?_
    | refine (hear_same (by decide) fun _ => ?_).2 ?_
    | refine (atEntry_same (by decide) fun _ _ => ?_).2 ?_
    | refine (runOp_same (by decide) fun _ _ => ?_).2 ?_
    | refine (runCmd_same (by decide) fun _ _ => ?_).2 ?_
    | refine (forStrings_same fun _ _ _ => ?_).2 ?_
    | (rename_i heq; have hs := congrArg Prod.snd heq; dsimp only at hs; subst hs)

@[simp ↓] theorem dormantWrites_same (h : m &&& 385877824 = 385877824) : Same m s (dormantWrites t) ↔ Same m s t := by
  refine Same.peel ?_ h
  unfold dormantWrites
  repeat' first
    | split
    | simp [Sys.modes, Svc.fuses, Svc.images]
    | intro _
    | refine (forEach_same fun _ _ => ?_).2 ?_
    | refine (serve_same (by decide) fun _ => ?_).2 ?_
    | refine (debugDo_same (by decide) fun _ => ?_).2 ?_
    | refine (hear_same (by decide) fun _ => ?_).2 ?_
    | refine (atEntry_same (by decide) fun _ _ => ?_).2 ?_
    | refine (runOp_same (by decide) fun _ _ => ?_).2 ?_
    | refine (runCmd_same (by decide) fun _ _ => ?_).2 ?_
    | refine (forStrings_same fun _ _ _ => ?_).2 ?_
    | (rename_i heq; have hs := congrArg Prod.snd heq; dsimp only at hs; subst hs)

@[simp ↓] theorem sleep_same (h : m &&& 13148192 = 13148192) : Same m s (sleep t) ↔ Same m s t := by
  refine Same.peel ?_ h
  unfold sleep
  repeat' first
    | split
    | simp [Sys.modes, Svc.fuses, Svc.images]
    | intro _
    | refine (forEach_same fun _ _ => ?_).2 ?_
    | refine (serve_same (by decide) fun _ => ?_).2 ?_
    | refine (debugDo_same (by decide) fun _ => ?_).2 ?_
    | refine (hear_same (by decide) fun _ => ?_).2 ?_
    | refine (atEntry_same (by decide) fun _ _ => ?_).2 ?_
    | refine (runOp_same (by decide) fun _ _ => ?_).2 ?_
    | refine (runCmd_same (by decide) fun _ _ => ?_).2 ?_
    | refine (forStrings_same fun _ _ _ => ?_).2 ?_
    | (rename_i heq; have hs := congrArg Prod.snd heq; dsimp only at hs; subst hs)

theorem execDormantEnter_ends (h : m &&& 2549741432 = 2549741432) : Ends m s (execDormantEnter s) := by
  refine Ends.mono ?_ h
  unfold execDormantEnter
  repeat' first
    | split
    | simp [Sys.modes, Svc.fuses, Svc.images]
    | intro _
    | refine (forEach_same fun _ _ => ?_).2 ?_
    | refine (serve_same (by decide) fun _ => ?_).2 ?_
    | refine (debugDo_same (by decide) fun _ => ?_).2 ?_
    | refine (hear_same (by decide) fun _ => ?_).2 ?_
    | refine (atEntry_same (by decide) fun _ _ => ?_).2 ?_
    | refine (runOp_same (by decide) fun _ _ => ?_).2 ?_
    | refine (runCmd_same (by decide) fun _ _ => ?_).2 ?_
    | refine (forStrings_same fun _ _ _ => ?_).2 ?_
    | (rename_i heq; have hs := congrArg Prod.snd heq; dsimp only at hs; subst hs)

@[simp ↓] theorem makeUp_same (h : m &&& 524288 = 524288) : Same m s (makeUp t) ↔ Same m s t := by
  refine Same.peel ?_ h
  unfold makeUp
  repeat' first
    | split
    | simp [Sys.modes, Svc.fuses, Svc.images]
    | intro _
    | refine (forEach_same fun _ _ => ?_).2 ?_
    | refine (serve_same (by decide) fun _ => ?_).2 ?_
    | refine (debugDo_same (by decide) fun _ => ?_).2 ?_
    | refine (hear_same (by decide) fun _ => ?_).2 ?_
    | refine (atEntry_same (by decide) fun _ _ => ?_).2 ?_
    | refine (runOp_same (by decide) fun _ _ => ?_).2 ?_
    | refine (runCmd_same (by decide) fun _ _ => ?_).2 ?_
    | refine (forStrings_same fun _ _ _ => ?_).2 ?_
    | (rename_i heq; have hs := congrArg Prod.snd heq; dsimp only at hs; subst hs)

@[simp ↓] theorem wakeCh_same (h : m &&& 1024 = 1024) : Same m s (wakeCh a0 a1 t) ↔ Same m s t := by
  refine Same.peel ?_ h
  unfold wakeCh
  repeat' first
    | split
    | simp [Sys.modes, Svc.fuses, Svc.images]
    | intro _
    | refine (forEach_same fun _ _ => ?_).2 ?_
    | refine (serve_same (by decide) fun _ => ?_).2 ?_
    | refine (debugDo_same (by decide) fun _ => ?_).2 ?_
    | refine (hear_same (by decide) fun _ => ?_).2 ?_
    | refine (atEntry_same (by decide) fun _ _ => ?_).2 ?_
    | refine (runOp_same (by decide) fun _ _ => ?_).2 ?_
    | refine (runCmd_same (by decide) fun _ _ => ?_).2 ?_
    | refine (forStrings_same fun _ _ _ => ?_).2 ?_
    | (rename_i heq; have hs := congrArg Prod.snd heq; dsimp only at hs; subst hs)

@[simp ↓] theorem wakeStr_same (h : m &&& 2097152 = 2097152) : Same m s (wakeStr a0 a1 t) ↔ Same m s t := by
  refine Same.peel ?_ h
  unfold wakeStr
  repeat' first
    | split
    | simp [Sys.modes, Svc.fuses, Svc.images]
    | intro _
    | refine (forEach_same fun _ _ => ?_).2 ?_
    | refine (serve_same (by decide) fun _ => ?_).2 ?_
    | refine (debugDo_same (by decide) fun _ => ?_).2 ?_
    | refine (hear_same (by decide) fun _ => ?_).2 ?_
    | refine (atEntry_same (by decide) fun _ _ => ?_).2 ?_
    | refine (runOp_same (by decide) fun _ _ => ?_).2 ?_
    | refine (runCmd_same (by decide) fun _ _ => ?_).2 ?_
    | refine (forStrings_same fun _ _ _ => ?_).2 ?_
    | (rename_i heq; have hs := congrArg Prod.snd heq; dsimp only at hs; subst hs)

@[simp ↓] theorem wakeNow_same (h : m &&& 6844973048 = 6844973048) : Same m s (wakeNow t) ↔ Same m s t := by
  refine Same.peel ?_ h
  unfold wakeNow
  repeat' first
    | split
    | simp [Sys.modes, Svc.fuses, Svc.images]
    | intro _
    | refine (forEach_same fun _ _ => ?_).2 ?_
    | refine (serve_same (by decide) fun _ => ?_).2 ?_
    | refine (debugDo_same (by decide) fun _ => ?_).2 ?_
    | refine (hear_same (by decide) fun _ => ?_).2 ?_
    | refine (atEntry_same (by decide) fun _ _ => ?_).2 ?_
    | refine (runOp_same (by decide) fun _ _ => ?_).2 ?_
    | refine (runCmd_same (by decide) fun _ _ => ?_).2 ?_
    | refine (forStrings_same fun _ _ _ => ?_).2 ?_
    | (rename_i heq; have hs := congrArg Prod.snd heq; dsimp only at hs; subst hs)

@[simp ↓] theorem cancelDormant_same (h : m &&& 67109728 = 67109728) : Same m s (cancelDormant t) ↔ Same m s t := by
  refine Same.peel ?_ h
  unfold cancelDormant
  repeat' first
    | split
    | simp [Sys.modes, Svc.fuses, Svc.images]
    | intro _
    | refine (forEach_same fun _ _ => ?_).2 ?_
    | refine (serve_same (by decide) fun _ => ?_).2 ?_
    | refine (debugDo_same (by decide) fun _ => ?_).2 ?_
    | refine (hear_same (by decide) fun _ => ?_).2 ?_
    | refine (atEntry_same (by decide) fun _ _ => ?_).2 ?_
    | refine (runOp_same (by decide) fun _ _ => ?_).2 ?_
    | refine (runCmd_same (by decide) fun _ _ => ?_).2 ?_
    | refine (forStrings_same fun _ _ _ => ?_).2 ?_
    | (rename_i heq; have hs := congrArg Prod.snd heq; dsimp only at hs; subst hs)

@[simp ↓] theorem wakeTest_same (h : m &&& 100675424 = 100675424) : Same m s (wakeTest a0 t) ↔ Same m s t := by
  refine Same.peel ?_ h
  unfold wakeTest
  repeat' first
    | split
    | simp [Sys.modes, Svc.fuses, Svc.images]
    | intro _
    | refine (forEach_same fun _ _ => ?_).2 ?_
    | refine (serve_same (by decide) fun _ => ?_).2 ?_
    | refine (debugDo_same (by decide) fun _ => ?_).2 ?_
    | refine (hear_same (by decide) fun _ => ?_).2 ?_
    | refine (atEntry_same (by decide) fun _ _ => ?_).2 ?_
    | refine (runOp_same (by decide) fun _ _ => ?_).2 ?_
    | refine (runCmd_same (by decide) fun _ _ => ?_).2 ?_
    | refine (forStrings_same fun _ _ _ => ?_).2 ?_
    | (rename_i heq; have hs := congrArg Prod.snd heq; dsimp only at hs; subst hs)

theorem execWake_ends (h : m &&& 6845104122 = 6845104122) : Ends m s (execWake a0 a1 s) := by
  refine Ends.mono ?_ h
  unfold execWake
  repeat' first
    | split
    | simp [Sys.modes, Svc.fuses, Svc.images]
    | intro _
    | refine (forEach_same fun _ _ => ?_).2 ?_
    | refine (serve_same (by decide) fun _ => ?_).2 ?_
    | refine (debugDo_same (by decide) fun _ => ?_).2 ?_
    | refine (hear_same (by decide) fun _ => ?_).2 ?_
    | refine (atEntry_same (by decide) fun _ _ => ?_).2 ?_
    | refine (runOp_same (by decide) fun _ _ => ?_).2 ?_
    | refine (runCmd_same (by decide) fun _ _ => ?_).2 ?_
    | refine (forStrings_same fun _ _ _ => ?_).2 ?_
    | (rename_i heq; have hs := congrArg Prod.snd heq; dsimp only at hs; subst hs)

@[simp ↓] theorem takeNreset_same (h : m &&& 6979190776 = 6979190776) : Same m s (takeNreset a0 t) ↔ Same m s t := by
  refine Same.peel ?_ h
  unfold takeNreset
  repeat' first
    | split
    | simp [Sys.modes, Svc.fuses, Svc.images]
    | intro _
    | refine (forEach_same fun _ _ => ?_).2 ?_
    | refine (serve_same (by decide) fun _ => ?_).2 ?_
    | refine (debugDo_same (by decide) fun _ => ?_).2 ?_
    | refine (hear_same (by decide) fun _ => ?_).2 ?_
    | refine (atEntry_same (by decide) fun _ _ => ?_).2 ?_
    | refine (runOp_same (by decide) fun _ _ => ?_).2 ?_
    | refine (runCmd_same (by decide) fun _ _ => ?_).2 ?_
    | refine (forStrings_same fun _ _ _ => ?_).2 ?_
    | (rename_i heq; have hs := congrArg Prod.snd heq; dsimp only at hs; subst hs)

theorem execNreset_ends (h : m &&& 6979190780 = 6979190780) : Ends m s (execNreset a0 s) := by
  refine Ends.mono ?_ h
  unfold execNreset
  repeat' first
    | split
    | simp [Sys.modes, Svc.fuses, Svc.images]
    | intro _
    | refine (forEach_same fun _ _ => ?_).2 ?_
    | refine (serve_same (by decide) fun _ => ?_).2 ?_
    | refine (debugDo_same (by decide) fun _ => ?_).2 ?_
    | refine (hear_same (by decide) fun _ => ?_).2 ?_
    | refine (atEntry_same (by decide) fun _ _ => ?_).2 ?_
    | refine (runOp_same (by decide) fun _ _ => ?_).2 ?_
    | refine (runCmd_same (by decide) fun _ _ => ?_).2 ?_
    | refine (forStrings_same fun _ _ _ => ?_).2 ?_
    | (rename_i heq; have hs := congrArg Prod.snd heq; dsimp only at hs; subst hs)

@[simp ↓] theorem setWarn_same (h : m &&& 134217728 = 134217728) : Same m s (setWarn t) ↔ Same m s t := by
  refine Same.peel ?_ h
  unfold setWarn
  repeat' first
    | split
    | simp [Sys.modes, Svc.fuses, Svc.images]
    | intro _
    | refine (forEach_same fun _ _ => ?_).2 ?_
    | refine (serve_same (by decide) fun _ => ?_).2 ?_
    | refine (debugDo_same (by decide) fun _ => ?_).2 ?_
    | refine (hear_same (by decide) fun _ => ?_).2 ?_
    | refine (atEntry_same (by decide) fun _ _ => ?_).2 ?_
    | refine (runOp_same (by decide) fun _ _ => ?_).2 ?_
    | refine (runCmd_same (by decide) fun _ _ => ?_).2 ?_
    | refine (forStrings_same fun _ _ _ => ?_).2 ?_
    | (rename_i heq; have hs := congrArg Prod.snd heq; dsimp only at hs; subst hs)

@[simp ↓] theorem holdAgain_same (h : m &&& 16777216 = 16777216) : Same m s (holdAgain t) ↔ Same m s t := by
  refine Same.peel ?_ h
  unfold holdAgain
  repeat' first
    | split
    | simp [Sys.modes, Svc.fuses, Svc.images]
    | intro _
    | refine (forEach_same fun _ _ => ?_).2 ?_
    | refine (serve_same (by decide) fun _ => ?_).2 ?_
    | refine (debugDo_same (by decide) fun _ => ?_).2 ?_
    | refine (hear_same (by decide) fun _ => ?_).2 ?_
    | refine (atEntry_same (by decide) fun _ _ => ?_).2 ?_
    | refine (runOp_same (by decide) fun _ _ => ?_).2 ?_
    | refine (runCmd_same (by decide) fun _ _ => ?_).2 ?_
    | refine (forStrings_same fun _ _ _ => ?_).2 ?_
    | (rename_i heq; have hs := congrArg Prod.snd heq; dsimp only at hs; subst hs)

theorem execSupplyWarning_ends (h : m &&& 150994944 = 150994944) : Ends m s (execSupplyWarning s) := by
  refine Ends.mono ?_ h
  unfold execSupplyWarning
  repeat' first
    | split
    | simp [Sys.modes, Svc.fuses, Svc.images]
    | intro _
    | refine (forEach_same fun _ _ => ?_).2 ?_
    | refine (serve_same (by decide) fun _ => ?_).2 ?_
    | refine (debugDo_same (by decide) fun _ => ?_).2 ?_
    | refine (hear_same (by decide) fun _ => ?_).2 ?_
    | refine (atEntry_same (by decide) fun _ _ => ?_).2 ?_
    | refine (runOp_same (by decide) fun _ _ => ?_).2 ?_
    | refine (runCmd_same (by decide) fun _ _ => ?_).2 ?_
    | refine (forStrings_same fun _ _ _ => ?_).2 ?_
    | (rename_i heq; have hs := congrArg Prod.snd heq; dsimp only at hs; subst hs)

theorem execSupplyWarningEnd_ends (h : m &&& 134217728 = 134217728) : Ends m s (execSupplyWarningEnd s) := by
  refine Ends.mono ?_ h
  unfold execSupplyWarningEnd
  repeat' first
    | split
    | simp [Sys.modes, Svc.fuses, Svc.images]
    | intro _
    | refine (forEach_same fun _ _ => ?_).2 ?_
    | refine (serve_same (by decide) fun _ => ?_).2 ?_
    | refine (debugDo_same (by decide) fun _ => ?_).2 ?_
    | refine (hear_same (by decide) fun _ => ?_).2 ?_
    | refine (atEntry_same (by decide) fun _ _ => ?_).2 ?_
    | refine (runOp_same (by decide) fun _ _ => ?_).2 ?_
    | refine (runCmd_same (by decide) fun _ _ => ?_).2 ?_
    | refine (forStrings_same fun _ _ _ => ?_).2 ?_
    | (rename_i heq; have hs := congrArg Prod.snd heq; dsimp only at hs; subst hs)

@[simp ↓] theorem abandonStart_same (h : m &&& 20979744 = 20979744) : Same m s (abandonStart t) ↔ Same m s t := by
  refine Same.peel ?_ h
  unfold abandonStart
  repeat' first
    | split
    | simp [Sys.modes, Svc.fuses, Svc.images]
    | intro _
    | refine (forEach_same fun _ _ => ?_).2 ?_
    | refine (serve_same (by decide) fun _ => ?_).2 ?_
    | refine (debugDo_same (by decide) fun _ => ?_).2 ?_
    | refine (hear_same (by decide) fun _ => ?_).2 ?_
    | refine (atEntry_same (by decide) fun _ _ => ?_).2 ?_
    | refine (runOp_same (by decide) fun _ _ => ?_).2 ?_
    | refine (runCmd_same (by decide) fun _ _ => ?_).2 ?_
    | refine (forStrings_same fun _ _ _ => ?_).2 ?_
    | (rename_i heq; have hs := congrArg Prod.snd heq; dsimp only at hs; subst hs)

@[simp ↓] theorem beginFlush_same (h : m &&& 16777216 = 16777216) : Same m s (beginFlush t) ↔ Same m s t := by
  refine Same.peel ?_ h
  unfold beginFlush
  repeat' first
    | split
    | simp [Sys.modes, Svc.fuses, Svc.images]
    | intro _
    | refine (forEach_same fun _ _ => ?_).2 ?_
    | refine (serve_same (by decide) fun _ => ?_).2 ?_
    | refine (debugDo_same (by decide) fun _ => ?_).2 ?_
    | refine (hear_same (by decide) fun _ => ?_).2 ?_
    | refine (atEntry_same (by decide) fun _ _ => ?_).2 ?_
    | refine (runOp_same (by decide) fun _ _ => ?_).2 ?_
    | refine (runCmd_same (by decide) fun _ _ => ?_).2 ?_
    | refine (forStrings_same fun _ _ _ => ?_).2 ?_
    | (rename_i heq; have hs := congrArg Prod.snd heq; dsimp only at hs; subst hs)

theorem execSupplyFail_ends (h : m &&& 155197472 = 155197472) : Ends m s (execSupplyFail a0 s) := by
  refine Ends.mono ?_ h
  unfold execSupplyFail
  repeat' first
    | split
    | simp [Sys.modes, Svc.fuses, Svc.images]
    | intro _
    | refine (forEach_same fun _ _ => ?_).2 ?_
    | refine (serve_same (by decide) fun _ => ?_).2 ?_
    | refine (debugDo_same (by decide) fun _ => ?_).2 ?_
    | refine (hear_same (by decide) fun _ => ?_).2 ?_
    | refine (atEntry_same (by decide) fun _ _ => ?_).2 ?_
    | refine (runOp_same (by decide) fun _ _ => ?_).2 ?_
    | refine (runCmd_same (by decide) fun _ _ => ?_).2 ?_
    | refine (forStrings_same fun _ _ _ => ?_).2 ?_
    | (rename_i heq; have hs := congrArg Prod.snd heq; dsimp only at hs; subst hs)

@[simp ↓] theorem flushWrite_same (h : m &&& 50331648 = 50331648) : Same m s (flushWrite a0 a1 t) ↔ Same m s t := by
  refine Same.peel ?_ h
  unfold flushWrite
  repeat' first
    | split
    | simp [Sys.modes, Svc.fuses, Svc.images]
    | intro _
    | refine (forEach_same fun _ _ => ?_).2 ?_
    | refine (serve_same (by decide) fun _ => ?_).2 ?_
    | refine (debugDo_same (by decide) fun _ => ?_).2 ?_
    | refine (hear_same (by decide) fun _ => ?_).2 ?_
    | refine (atEntry_same (by decide) fun _ _ => ?_).2 ?_
    | refine (runOp_same (by decide) fun _ _ => ?_).2 ?_
    | refine (runCmd_same (by decide) fun _ _ => ?_).2 ?_
    | refine (forStrings_same fun _ _ _ => ?_).2 ?_
    | (rename_i heq; have hs := congrArg Prod.snd heq; dsimp only at hs; subst hs)

@[simp ↓] theorem flushRun_same (h : m &&& 184549376 = 184549376) : Same m s (flushRun a0 a1 a2 a3 t).1 ↔ Same m s t := by
  refine Same.peel ?_ h
  induction a0 generalizing a1 a2 a3 t with
  | nil => simp [flushRun]
  | cons i l ih =>
    have ih' : ∀ (x : List Nat) (y z : Nat) (v w : State), Same 184549376 v (flushRun l x y z w).1 ↔ Same 184549376 v w :=
      fun _ _ _ _ _ => Same.peel ih (Nat.and_self _)
    unfold flushRun
    repeat' first
      | split
      | simp [ih']

theorem execFlushComplete_ends (h : m &&& 452985856 = 452985856) : Ends m s (execFlushComplete a0 s) := by
  refine Ends.mono ?_ h
  unfold execFlushComplete
  repeat' first
    | split
    | simp [Sys.modes, Svc.fuses, Svc.images]
    | intro _
    | refine (forEach_same fun _ _ => ?_).2 ?_
    | refine (serve_same (by decide) fun _ => ?_).2 ?_
    | refine (debugDo_same (by decide) fun _ => ?_).2 ?_
    | refine (hear_same (by decide) fun _ => ?_).2 ?_
    | refine (atEntry_same (by decide) fun _ _ => ?_).2 ?_
    | refine (runOp_same (by decide) fun _ _ => ?_).2 ?_
    | refine (runCmd_same (by decide) fun _ _ => ?_).2 ?_
    | refine (forStrings_same fun _ _ _ => ?_).2 ?_
    | (rename_i heq; have hs := congrArg Prod.snd heq; dsimp only at hs; subst hs)

theorem execVinReturn_ends (h : m &&& 6979190776 = 6979190776) : Ends m s (execVinReturn a0 s) := by
  refine Ends.mono ?_ h
  unfold execVinReturn
  repeat' first
    | split
    | simp [Sys.modes, Svc.fuses, Svc.images]
    | intro _
    | refine (forEach_same fun _ _ => ?_).2 ?_
    | refine (serve_same (by decide) fun _ => ?_).2 ?_
    | refine (debugDo_same (by decide) fun _ => ?_).2 ?_
    | refine (hear_same (by decide) fun _ => ?_).2 ?_
    | refine (atEntry_same (by decide) fun _ _ => ?_).2 ?_
    | refine (runOp_same (by decide) fun _ _ => ?_).2 ?_
    | refine (runCmd_same (by decide) fun _ _ => ?_).2 ?_
    | refine (forStrings_same fun _ _ _ => ?_).2 ?_
    | (rename_i heq; have hs := congrArg Prod.snd heq; dsimp only at hs; subst hs)

theorem execRailCollapse_ends (h : m &&& 6979190780 = 6979190780) : Ends m s (execRailCollapse s) := by
  refine Ends.mono ?_ h
  unfold execRailCollapse
  repeat' first
    | split
    | simp [Sys.modes, Svc.fuses, Svc.images]
    | intro _
    | refine (forEach_same fun _ _ => ?_).2 ?_
    | refine (serve_same (by decide) fun _ => ?_).2 ?_
    | refine (debugDo_same (by decide) fun _ => ?_).2 ?_
    | refine (hear_same (by decide) fun _ => ?_).2 ?_
    | refine (atEntry_same (by decide) fun _ _ => ?_).2 ?_
    | refine (runOp_same (by decide) fun _ _ => ?_).2 ?_
    | refine (runCmd_same (by decide) fun _ _ => ?_).2 ?_
    | refine (forStrings_same fun _ _ _ => ?_).2 ?_
    | (rename_i heq; have hs := congrArg Prod.snd heq; dsimp only at hs; subst hs)

end Sys2Proof.Machine
end

