-- ==== Sys2Proof/Laws/State.lean ====
section
/-! SUPPORT. What the updates of the state leave alone, field by field, and what they write. -/

namespace Sys2Proof.Machine

/-! ### Components of vectors -/

@[simp] theorem vmod_get_same {α : Type} {n : Nat} (v : Vector α n) (i : Fin n) (f : α → α) : (vmod v i f).get i = f (v.get i) := by
  show (v.set i.val _ i.isLt)[i.val] = _
  simp

theorem vmod_get_ne {α : Type} {n : Nat} (v : Vector α n) (i j : Fin n) (f : α → α) (h : j ≠ i) : (vmod v i f).get j = v.get j := by
  show (v.set i.val _ i.isLt)[j.val] = v[j.val]
  rw [Vector.getElem_set_ne]
  exact fun e => h (Fin.ext e.symm)

@[simp] theorem vput_get_same {α : Type} {n : Nat} (v : Vector α n) (i : Fin n) (x : α) : (vput v i x).get i = x := by
  show (v.set i.val _ i.isLt)[i.val] = _
  simp

theorem vput_get_ne {α : Type} {n : Nat} (v : Vector α n) (i j : Fin n) (x : α) (h : j ≠ i) : (vput v i x).get j = v.get j := by
  show (v.set i.val _ i.isLt)[j.val] = v[j.val]
  rw [Vector.getElem_set_ne]
  exact fun e => h (Fin.ext e.symm)

/-! ### What an update writes -/

@[simp] theorem chan_modCh (c : Ch) (f : Chan → Chan) (s : State) : (modCh c f s).chan c = f (s.chan c) := vmod_get_same s.ch c f

theorem chan_modCh_ne (c d : Ch) (f : Chan → Chan) (s : State) (h : d ≠ c) : (modCh c f s).chan d = s.chan d :=
  vmod_get_ne s.ch c d f h

@[simp] theorem group_modGrp (g : Grp) (f : Group → Group) (s : State) : (modGrp g f s).group g = f (s.group g) :=
  vmod_get_same s.grp g f

theorem group_modGrp_ne (g h : Grp) (f : Group → Group) (s : State) (e : h ≠ g) : (modGrp g f s).group h = s.group h :=
  vmod_get_ne s.grp g h f e

/-! ### What an update keeps -/

@[simp] theorem modCh_pending : (modCh a0 a1 t).pending = t.pending := rfl
@[simp] theorem modCh_clock : (modCh a0 a1 t).clock = t.clock := rfl
@[simp] theorem modCh_freeCtr : (modCh a0 a1 t).freeCtr = t.freeCtr := rfl
@[simp] theorem modCh_pw : (modCh a0 a1 t).pw = t.pw := rfl
@[simp] theorem modCh_pf : (modCh a0 a1 t).pf = t.pf := rfl
@[simp] theorem modCh_sys : (modCh a0 a1 t).sys = t.sys := rfl
@[simp] theorem modCh_link : (modCh a0 a1 t).link = t.link := rfl
@[simp] theorem modCh_inq : (modCh a0 a1 t).inq = t.inq := rfl
@[simp] theorem modCh_outq : (modCh a0 a1 t).outq = t.outq := rfl
@[simp] theorem modCh_deolo : (modCh a0 a1 t).deolo = t.deolo := rfl
@[simp] theorem modCh_grp : (modCh a0 a1 t).grp = t.grp := rfl
@[simp] theorem modCh_bus : (modCh a0 a1 t).bus = t.bus := rfl
@[simp] theorem modCh_tin : (modCh a0 a1 t).tin = t.tin := rfl
@[simp] theorem modCh_mb : (modCh a0 a1 t).mb = t.mb := rfl
@[simp] theorem modCh_cnv : (modCh a0 a1 t).cnv = t.cnv := rfl
@[simp] theorem modCh_acc : (modCh a0 a1 t).acc = t.acc := rfl
@[simp] theorem modCh_xam : (modCh a0 a1 t).xam = t.xam := rfl
@[simp] theorem modCh_met : (modCh a0 a1 t).met = t.met := rfl
@[simp] theorem modCh_tmr : (modCh a0 a1 t).tmr = t.tmr := rfl
@[simp] theorem modCh_adm : (modCh a0 a1 t).adm = t.adm := rfl
@[simp] theorem modCh_bat : (modCh a0 a1 t).bat = t.bat := rfl
@[simp] theorem modCh_shb : (modCh a0 a1 t).shb = t.shb := rfl
@[simp] theorem modCh_fl : (modCh a0 a1 t).fl = t.fl := rfl
@[simp] theorem modCh_nvs : (modCh a0 a1 t).nvs = t.nvs := rfl
@[simp] theorem modCh_log : (modCh a0 a1 t).log = t.log := rfl
@[simp] theorem modCh_svc : (modCh a0 a1 t).svc = t.svc := rfl
@[simp] theorem modCh_pwr : (modCh a0 a1 t).pwr = t.pwr := rfl

@[simp] theorem modGrp_pending : (modGrp a0 a1 t).pending = t.pending := rfl
@[simp] theorem modGrp_clock : (modGrp a0 a1 t).clock = t.clock := rfl
@[simp] theorem modGrp_freeCtr : (modGrp a0 a1 t).freeCtr = t.freeCtr := rfl
@[simp] theorem modGrp_pw : (modGrp a0 a1 t).pw = t.pw := rfl
@[simp] theorem modGrp_pf : (modGrp a0 a1 t).pf = t.pf := rfl
@[simp] theorem modGrp_sys : (modGrp a0 a1 t).sys = t.sys := rfl
@[simp] theorem modGrp_link : (modGrp a0 a1 t).link = t.link := rfl
@[simp] theorem modGrp_inq : (modGrp a0 a1 t).inq = t.inq := rfl
@[simp] theorem modGrp_outq : (modGrp a0 a1 t).outq = t.outq := rfl
@[simp] theorem modGrp_deolo : (modGrp a0 a1 t).deolo = t.deolo := rfl
@[simp] theorem modGrp_ch : (modGrp a0 a1 t).ch = t.ch := rfl
@[simp] theorem modGrp_bus : (modGrp a0 a1 t).bus = t.bus := rfl
@[simp] theorem modGrp_tin : (modGrp a0 a1 t).tin = t.tin := rfl
@[simp] theorem modGrp_mb : (modGrp a0 a1 t).mb = t.mb := rfl
@[simp] theorem modGrp_cnv : (modGrp a0 a1 t).cnv = t.cnv := rfl
@[simp] theorem modGrp_acc : (modGrp a0 a1 t).acc = t.acc := rfl
@[simp] theorem modGrp_xam : (modGrp a0 a1 t).xam = t.xam := rfl
@[simp] theorem modGrp_met : (modGrp a0 a1 t).met = t.met := rfl
@[simp] theorem modGrp_tmr : (modGrp a0 a1 t).tmr = t.tmr := rfl
@[simp] theorem modGrp_adm : (modGrp a0 a1 t).adm = t.adm := rfl
@[simp] theorem modGrp_bat : (modGrp a0 a1 t).bat = t.bat := rfl
@[simp] theorem modGrp_shb : (modGrp a0 a1 t).shb = t.shb := rfl
@[simp] theorem modGrp_fl : (modGrp a0 a1 t).fl = t.fl := rfl
@[simp] theorem modGrp_nvs : (modGrp a0 a1 t).nvs = t.nvs := rfl
@[simp] theorem modGrp_log : (modGrp a0 a1 t).log = t.log := rfl
@[simp] theorem modGrp_svc : (modGrp a0 a1 t).svc = t.svc := rfl
@[simp] theorem modGrp_pwr : (modGrp a0 a1 t).pwr = t.pwr := rfl

@[simp] theorem modTmr_pending : (modTmr a0 a1 t).pending = t.pending := rfl
@[simp] theorem modTmr_clock : (modTmr a0 a1 t).clock = t.clock := rfl
@[simp] theorem modTmr_freeCtr : (modTmr a0 a1 t).freeCtr = t.freeCtr := rfl
@[simp] theorem modTmr_pw : (modTmr a0 a1 t).pw = t.pw := rfl
@[simp] theorem modTmr_pf : (modTmr a0 a1 t).pf = t.pf := rfl
@[simp] theorem modTmr_sys : (modTmr a0 a1 t).sys = t.sys := rfl
@[simp] theorem modTmr_link : (modTmr a0 a1 t).link = t.link := rfl
@[simp] theorem modTmr_inq : (modTmr a0 a1 t).inq = t.inq := rfl
@[simp] theorem modTmr_outq : (modTmr a0 a1 t).outq = t.outq := rfl
@[simp] theorem modTmr_deolo : (modTmr a0 a1 t).deolo = t.deolo := rfl
@[simp] theorem modTmr_ch : (modTmr a0 a1 t).ch = t.ch := rfl
@[simp] theorem modTmr_grp : (modTmr a0 a1 t).grp = t.grp := rfl
@[simp] theorem modTmr_bus : (modTmr a0 a1 t).bus = t.bus := rfl
@[simp] theorem modTmr_tin : (modTmr a0 a1 t).tin = t.tin := rfl
@[simp] theorem modTmr_mb : (modTmr a0 a1 t).mb = t.mb := rfl
@[simp] theorem modTmr_cnv : (modTmr a0 a1 t).cnv = t.cnv := rfl
@[simp] theorem modTmr_acc : (modTmr a0 a1 t).acc = t.acc := rfl
@[simp] theorem modTmr_xam : (modTmr a0 a1 t).xam = t.xam := rfl
@[simp] theorem modTmr_met : (modTmr a0 a1 t).met = t.met := rfl
@[simp] theorem modTmr_adm : (modTmr a0 a1 t).adm = t.adm := rfl
@[simp] theorem modTmr_bat : (modTmr a0 a1 t).bat = t.bat := rfl
@[simp] theorem modTmr_shb : (modTmr a0 a1 t).shb = t.shb := rfl
@[simp] theorem modTmr_fl : (modTmr a0 a1 t).fl = t.fl := rfl
@[simp] theorem modTmr_nvs : (modTmr a0 a1 t).nvs = t.nvs := rfl
@[simp] theorem modTmr_log : (modTmr a0 a1 t).log = t.log := rfl
@[simp] theorem modTmr_svc : (modTmr a0 a1 t).svc = t.svc := rfl
@[simp] theorem modTmr_pwr : (modTmr a0 a1 t).pwr = t.pwr := rfl

@[simp] theorem modStr_pending : (modStr a0 a1 t).pending = t.pending := rfl
@[simp] theorem modStr_clock : (modStr a0 a1 t).clock = t.clock := rfl
@[simp] theorem modStr_freeCtr : (modStr a0 a1 t).freeCtr = t.freeCtr := rfl
@[simp] theorem modStr_pw : (modStr a0 a1 t).pw = t.pw := rfl
@[simp] theorem modStr_pf : (modStr a0 a1 t).pf = t.pf := rfl
@[simp] theorem modStr_sys : (modStr a0 a1 t).sys = t.sys := rfl
@[simp] theorem modStr_link : (modStr a0 a1 t).link = t.link := rfl
@[simp] theorem modStr_inq : (modStr a0 a1 t).inq = t.inq := rfl
@[simp] theorem modStr_outq : (modStr a0 a1 t).outq = t.outq := rfl
@[simp] theorem modStr_deolo : (modStr a0 a1 t).deolo = t.deolo := rfl
@[simp] theorem modStr_ch : (modStr a0 a1 t).ch = t.ch := rfl
@[simp] theorem modStr_grp : (modStr a0 a1 t).grp = t.grp := rfl
@[simp] theorem modStr_bus : (modStr a0 a1 t).bus = t.bus := rfl
@[simp] theorem modStr_tin : (modStr a0 a1 t).tin = t.tin := rfl
@[simp] theorem modStr_mb : (modStr a0 a1 t).mb = t.mb := rfl
@[simp] theorem modStr_cnv : (modStr a0 a1 t).cnv = t.cnv := rfl
@[simp] theorem modStr_acc : (modStr a0 a1 t).acc = t.acc := rfl
@[simp] theorem modStr_xam : (modStr a0 a1 t).xam = t.xam := rfl
@[simp] theorem modStr_met : (modStr a0 a1 t).met = t.met := rfl
@[simp] theorem modStr_tmr : (modStr a0 a1 t).tmr = t.tmr := rfl
@[simp] theorem modStr_adm : (modStr a0 a1 t).adm = t.adm := rfl
@[simp] theorem modStr_shb : (modStr a0 a1 t).shb = t.shb := rfl
@[simp] theorem modStr_fl : (modStr a0 a1 t).fl = t.fl := rfl
@[simp] theorem modStr_nvs : (modStr a0 a1 t).nvs = t.nvs := rfl
@[simp] theorem modStr_log : (modStr a0 a1 t).log = t.log := rfl
@[simp] theorem modStr_svc : (modStr a0 a1 t).svc = t.svc := rfl
@[simp] theorem modStr_pwr : (modStr a0 a1 t).pwr = t.pwr := rfl

@[simp] theorem modXam_pending : (modXam a0 t).pending = t.pending := rfl
@[simp] theorem modXam_clock : (modXam a0 t).clock = t.clock := rfl
@[simp] theorem modXam_freeCtr : (modXam a0 t).freeCtr = t.freeCtr := rfl
@[simp] theorem modXam_pw : (modXam a0 t).pw = t.pw := rfl
@[simp] theorem modXam_pf : (modXam a0 t).pf = t.pf := rfl
@[simp] theorem modXam_sys : (modXam a0 t).sys = t.sys := rfl
@[simp] theorem modXam_link : (modXam a0 t).link = t.link := rfl
@[simp] theorem modXam_inq : (modXam a0 t).inq = t.inq := rfl
@[simp] theorem modXam_outq : (modXam a0 t).outq = t.outq := rfl
@[simp] theorem modXam_deolo : (modXam a0 t).deolo = t.deolo := rfl
@[simp] theorem modXam_ch : (modXam a0 t).ch = t.ch := rfl
@[simp] theorem modXam_grp : (modXam a0 t).grp = t.grp := rfl
@[simp] theorem modXam_bus : (modXam a0 t).bus = t.bus := rfl
@[simp] theorem modXam_tin : (modXam a0 t).tin = t.tin := rfl
@[simp] theorem modXam_mb : (modXam a0 t).mb = t.mb := rfl
@[simp] theorem modXam_cnv : (modXam a0 t).cnv = t.cnv := rfl
@[simp] theorem modXam_acc : (modXam a0 t).acc = t.acc := rfl
@[simp] theorem modXam_met : (modXam a0 t).met = t.met := rfl
@[simp] theorem modXam_tmr : (modXam a0 t).tmr = t.tmr := rfl
@[simp] theorem modXam_adm : (modXam a0 t).adm = t.adm := rfl
@[simp] theorem modXam_bat : (modXam a0 t).bat = t.bat := rfl
@[simp] theorem modXam_shb : (modXam a0 t).shb = t.shb := rfl
@[simp] theorem modXam_fl : (modXam a0 t).fl = t.fl := rfl
@[simp] theorem modXam_nvs : (modXam a0 t).nvs = t.nvs := rfl
@[simp] theorem modXam_log : (modXam a0 t).log = t.log := rfl
@[simp] theorem modXam_svc : (modXam a0 t).svc = t.svc := rfl
@[simp] theorem modXam_pwr : (modXam a0 t).pwr = t.pwr := rfl

@[simp] theorem modSeq_pending : (modSeq a0 a1 t).pending = t.pending := rfl
@[simp] theorem modSeq_clock : (modSeq a0 a1 t).clock = t.clock := rfl
@[simp] theorem modSeq_freeCtr : (modSeq a0 a1 t).freeCtr = t.freeCtr := rfl
@[simp] theorem modSeq_pw : (modSeq a0 a1 t).pw = t.pw := rfl
@[simp] theorem modSeq_pf : (modSeq a0 a1 t).pf = t.pf := rfl
@[simp] theorem modSeq_sys : (modSeq a0 a1 t).sys = t.sys := rfl
@[simp] theorem modSeq_link : (modSeq a0 a1 t).link = t.link := rfl
@[simp] theorem modSeq_inq : (modSeq a0 a1 t).inq = t.inq := rfl
@[simp] theorem modSeq_outq : (modSeq a0 a1 t).outq = t.outq := rfl
@[simp] theorem modSeq_deolo : (modSeq a0 a1 t).deolo = t.deolo := rfl
@[simp] theorem modSeq_ch : (modSeq a0 a1 t).ch = t.ch := rfl
@[simp] theorem modSeq_grp : (modSeq a0 a1 t).grp = t.grp := rfl
@[simp] theorem modSeq_bus : (modSeq a0 a1 t).bus = t.bus := rfl
@[simp] theorem modSeq_tin : (modSeq a0 a1 t).tin = t.tin := rfl
@[simp] theorem modSeq_mb : (modSeq a0 a1 t).mb = t.mb := rfl
@[simp] theorem modSeq_acc : (modSeq a0 a1 t).acc = t.acc := rfl
@[simp] theorem modSeq_xam : (modSeq a0 a1 t).xam = t.xam := rfl
@[simp] theorem modSeq_met : (modSeq a0 a1 t).met = t.met := rfl
@[simp] theorem modSeq_tmr : (modSeq a0 a1 t).tmr = t.tmr := rfl
@[simp] theorem modSeq_adm : (modSeq a0 a1 t).adm = t.adm := rfl
@[simp] theorem modSeq_bat : (modSeq a0 a1 t).bat = t.bat := rfl
@[simp] theorem modSeq_shb : (modSeq a0 a1 t).shb = t.shb := rfl
@[simp] theorem modSeq_fl : (modSeq a0 a1 t).fl = t.fl := rfl
@[simp] theorem modSeq_nvs : (modSeq a0 a1 t).nvs = t.nvs := rfl
@[simp] theorem modSeq_log : (modSeq a0 a1 t).log = t.log := rfl
@[simp] theorem modSeq_svc : (modSeq a0 a1 t).svc = t.svc := rfl
@[simp] theorem modSeq_pwr : (modSeq a0 a1 t).pwr = t.pwr := rfl

@[simp] theorem modCal_pending : (modCal a0 t).pending = t.pending := rfl
@[simp] theorem modCal_clock : (modCal a0 t).clock = t.clock := rfl
@[simp] theorem modCal_freeCtr : (modCal a0 t).freeCtr = t.freeCtr := rfl
@[simp] theorem modCal_pw : (modCal a0 t).pw = t.pw := rfl
@[simp] theorem modCal_pf : (modCal a0 t).pf = t.pf := rfl
@[simp] theorem modCal_sys : (modCal a0 t).sys = t.sys := rfl
@[simp] theorem modCal_link : (modCal a0 t).link = t.link := rfl
@[simp] theorem modCal_inq : (modCal a0 t).inq = t.inq := rfl
@[simp] theorem modCal_outq : (modCal a0 t).outq = t.outq := rfl
@[simp] theorem modCal_deolo : (modCal a0 t).deolo = t.deolo := rfl
@[simp] theorem modCal_ch : (modCal a0 t).ch = t.ch := rfl
@[simp] theorem modCal_grp : (modCal a0 t).grp = t.grp := rfl
@[simp] theorem modCal_bus : (modCal a0 t).bus = t.bus := rfl
@[simp] theorem modCal_tin : (modCal a0 t).tin = t.tin := rfl
@[simp] theorem modCal_mb : (modCal a0 t).mb = t.mb := rfl
@[simp] theorem modCal_acc : (modCal a0 t).acc = t.acc := rfl
@[simp] theorem modCal_xam : (modCal a0 t).xam = t.xam := rfl
@[simp] theorem modCal_met : (modCal a0 t).met = t.met := rfl
@[simp] theorem modCal_tmr : (modCal a0 t).tmr = t.tmr := rfl
@[simp] theorem modCal_adm : (modCal a0 t).adm = t.adm := rfl
@[simp] theorem modCal_bat : (modCal a0 t).bat = t.bat := rfl
@[simp] theorem modCal_shb : (modCal a0 t).shb = t.shb := rfl
@[simp] theorem modCal_fl : (modCal a0 t).fl = t.fl := rfl
@[simp] theorem modCal_nvs : (modCal a0 t).nvs = t.nvs := rfl
@[simp] theorem modCal_log : (modCal a0 t).log = t.log := rfl
@[simp] theorem modCal_svc : (modCal a0 t).svc = t.svc := rfl
@[simp] theorem modCal_pwr : (modCal a0 t).pwr = t.pwr := rfl

@[simp] theorem modMetro_pending : (modMetro a0 t).pending = t.pending := rfl
@[simp] theorem modMetro_clock : (modMetro a0 t).clock = t.clock := rfl
@[simp] theorem modMetro_freeCtr : (modMetro a0 t).freeCtr = t.freeCtr := rfl
@[simp] theorem modMetro_pw : (modMetro a0 t).pw = t.pw := rfl
@[simp] theorem modMetro_pf : (modMetro a0 t).pf = t.pf := rfl
@[simp] theorem modMetro_sys : (modMetro a0 t).sys = t.sys := rfl
@[simp] theorem modMetro_link : (modMetro a0 t).link = t.link := rfl
@[simp] theorem modMetro_inq : (modMetro a0 t).inq = t.inq := rfl
@[simp] theorem modMetro_outq : (modMetro a0 t).outq = t.outq := rfl
@[simp] theorem modMetro_deolo : (modMetro a0 t).deolo = t.deolo := rfl
@[simp] theorem modMetro_ch : (modMetro a0 t).ch = t.ch := rfl
@[simp] theorem modMetro_grp : (modMetro a0 t).grp = t.grp := rfl
@[simp] theorem modMetro_bus : (modMetro a0 t).bus = t.bus := rfl
@[simp] theorem modMetro_tin : (modMetro a0 t).tin = t.tin := rfl
@[simp] theorem modMetro_mb : (modMetro a0 t).mb = t.mb := rfl
@[simp] theorem modMetro_cnv : (modMetro a0 t).cnv = t.cnv := rfl
@[simp] theorem modMetro_acc : (modMetro a0 t).acc = t.acc := rfl
@[simp] theorem modMetro_met : (modMetro a0 t).met = t.met := rfl
@[simp] theorem modMetro_tmr : (modMetro a0 t).tmr = t.tmr := rfl
@[simp] theorem modMetro_adm : (modMetro a0 t).adm = t.adm := rfl
@[simp] theorem modMetro_bat : (modMetro a0 t).bat = t.bat := rfl
@[simp] theorem modMetro_shb : (modMetro a0 t).shb = t.shb := rfl
@[simp] theorem modMetro_fl : (modMetro a0 t).fl = t.fl := rfl
@[simp] theorem modMetro_nvs : (modMetro a0 t).nvs = t.nvs := rfl
@[simp] theorem modMetro_log : (modMetro a0 t).log = t.log := rfl
@[simp] theorem modMetro_svc : (modMetro a0 t).svc = t.svc := rfl
@[simp] theorem modMetro_pwr : (modMetro a0 t).pwr = t.pwr := rfl

@[simp] theorem setIrq_pending : (setIrq a0 t).pending = t.pending := rfl
@[simp] theorem setIrq_clock : (setIrq a0 t).clock = t.clock := rfl
@[simp] theorem setIrq_freeCtr : (setIrq a0 t).freeCtr = t.freeCtr := rfl
@[simp] theorem setIrq_pw : (setIrq a0 t).pw = t.pw := rfl
@[simp] theorem setIrq_pf : (setIrq a0 t).pf = t.pf := rfl
@[simp] theorem setIrq_sys : (setIrq a0 t).sys = t.sys := rfl
@[simp] theorem setIrq_inq : (setIrq a0 t).inq = t.inq := rfl
@[simp] theorem setIrq_outq : (setIrq a0 t).outq = t.outq := rfl
@[simp] theorem setIrq_deolo : (setIrq a0 t).deolo = t.deolo := rfl
@[simp] theorem setIrq_ch : (setIrq a0 t).ch = t.ch := rfl
@[simp] theorem setIrq_grp : (setIrq a0 t).grp = t.grp := rfl
@[simp] theorem setIrq_bus : (setIrq a0 t).bus = t.bus := rfl
@[simp] theorem setIrq_tin : (setIrq a0 t).tin = t.tin := rfl
@[simp] theorem setIrq_mb : (setIrq a0 t).mb = t.mb := rfl
@[simp] theorem setIrq_cnv : (setIrq a0 t).cnv = t.cnv := rfl
@[simp] theorem setIrq_acc : (setIrq a0 t).acc = t.acc := rfl
@[simp] theorem setIrq_xam : (setIrq a0 t).xam = t.xam := rfl
@[simp] theorem setIrq_met : (setIrq a0 t).met = t.met := rfl
@[simp] theorem setIrq_tmr : (setIrq a0 t).tmr = t.tmr := rfl
@[simp] theorem setIrq_adm : (setIrq a0 t).adm = t.adm := rfl
@[simp] theorem setIrq_bat : (setIrq a0 t).bat = t.bat := rfl
@[simp] theorem setIrq_shb : (setIrq a0 t).shb = t.shb := rfl
@[simp] theorem setIrq_fl : (setIrq a0 t).fl = t.fl := rfl
@[simp] theorem setIrq_nvs : (setIrq a0 t).nvs = t.nvs := rfl
@[simp] theorem setIrq_log : (setIrq a0 t).log = t.log := rfl
@[simp] theorem setIrq_svc : (setIrq a0 t).svc = t.svc := rfl
@[simp] theorem setIrq_pwr : (setIrq a0 t).pwr = t.pwr := rfl

@[simp] theorem putSes_pending : (putSes a0 a1 t).pending = t.pending := rfl
@[simp] theorem putSes_clock : (putSes a0 a1 t).clock = t.clock := rfl
@[simp] theorem putSes_freeCtr : (putSes a0 a1 t).freeCtr = t.freeCtr := rfl
@[simp] theorem putSes_pw : (putSes a0 a1 t).pw = t.pw := rfl
@[simp] theorem putSes_pf : (putSes a0 a1 t).pf = t.pf := rfl
@[simp] theorem putSes_sys : (putSes a0 a1 t).sys = t.sys := rfl
@[simp] theorem putSes_link : (putSes a0 a1 t).link = t.link := rfl
@[simp] theorem putSes_inq : (putSes a0 a1 t).inq = t.inq := rfl
@[simp] theorem putSes_outq : (putSes a0 a1 t).outq = t.outq := rfl
@[simp] theorem putSes_ch : (putSes a0 a1 t).ch = t.ch := rfl
@[simp] theorem putSes_grp : (putSes a0 a1 t).grp = t.grp := rfl
@[simp] theorem putSes_bus : (putSes a0 a1 t).bus = t.bus := rfl
@[simp] theorem putSes_tin : (putSes a0 a1 t).tin = t.tin := rfl
@[simp] theorem putSes_mb : (putSes a0 a1 t).mb = t.mb := rfl
@[simp] theorem putSes_cnv : (putSes a0 a1 t).cnv = t.cnv := rfl
@[simp] theorem putSes_acc : (putSes a0 a1 t).acc = t.acc := rfl
@[simp] theorem putSes_xam : (putSes a0 a1 t).xam = t.xam := rfl
@[simp] theorem putSes_met : (putSes a0 a1 t).met = t.met := rfl
@[simp] theorem putSes_tmr : (putSes a0 a1 t).tmr = t.tmr := rfl
@[simp] theorem putSes_adm : (putSes a0 a1 t).adm = t.adm := rfl
@[simp] theorem putSes_bat : (putSes a0 a1 t).bat = t.bat := rfl
@[simp] theorem putSes_shb : (putSes a0 a1 t).shb = t.shb := rfl
@[simp] theorem putSes_fl : (putSes a0 a1 t).fl = t.fl := rfl
@[simp] theorem putSes_nvs : (putSes a0 a1 t).nvs = t.nvs := rfl
@[simp] theorem putSes_log : (putSes a0 a1 t).log = t.log := rfl
@[simp] theorem putSes_svc : (putSes a0 a1 t).svc = t.svc := rfl
@[simp] theorem putSes_pwr : (putSes a0 a1 t).pwr = t.pwr := rfl

@[simp] theorem modTag_pending : (modTag a0 a1 t).pending = t.pending := rfl
@[simp] theorem modTag_clock : (modTag a0 a1 t).clock = t.clock := rfl
@[simp] theorem modTag_freeCtr : (modTag a0 a1 t).freeCtr = t.freeCtr := rfl
@[simp] theorem modTag_pw : (modTag a0 a1 t).pw = t.pw := rfl
@[simp] theorem modTag_pf : (modTag a0 a1 t).pf = t.pf := rfl
@[simp] theorem modTag_sys : (modTag a0 a1 t).sys = t.sys := rfl
@[simp] theorem modTag_link : (modTag a0 a1 t).link = t.link := rfl
@[simp] theorem modTag_inq : (modTag a0 a1 t).inq = t.inq := rfl
@[simp] theorem modTag_outq : (modTag a0 a1 t).outq = t.outq := rfl
@[simp] theorem modTag_ch : (modTag a0 a1 t).ch = t.ch := rfl
@[simp] theorem modTag_grp : (modTag a0 a1 t).grp = t.grp := rfl
@[simp] theorem modTag_bus : (modTag a0 a1 t).bus = t.bus := rfl
@[simp] theorem modTag_tin : (modTag a0 a1 t).tin = t.tin := rfl
@[simp] theorem modTag_mb : (modTag a0 a1 t).mb = t.mb := rfl
@[simp] theorem modTag_cnv : (modTag a0 a1 t).cnv = t.cnv := rfl
@[simp] theorem modTag_acc : (modTag a0 a1 t).acc = t.acc := rfl
@[simp] theorem modTag_xam : (modTag a0 a1 t).xam = t.xam := rfl
@[simp] theorem modTag_met : (modTag a0 a1 t).met = t.met := rfl
@[simp] theorem modTag_tmr : (modTag a0 a1 t).tmr = t.tmr := rfl
@[simp] theorem modTag_adm : (modTag a0 a1 t).adm = t.adm := rfl
@[simp] theorem modTag_bat : (modTag a0 a1 t).bat = t.bat := rfl
@[simp] theorem modTag_shb : (modTag a0 a1 t).shb = t.shb := rfl
@[simp] theorem modTag_fl : (modTag a0 a1 t).fl = t.fl := rfl
@[simp] theorem modTag_nvs : (modTag a0 a1 t).nvs = t.nvs := rfl
@[simp] theorem modTag_log : (modTag a0 a1 t).log = t.log := rfl
@[simp] theorem modTag_svc : (modTag a0 a1 t).svc = t.svc := rfl
@[simp] theorem modTag_pwr : (modTag a0 a1 t).pwr = t.pwr := rfl

end Sys2Proof.Machine
end

