-- ==== Sys2Proof/Laws/Keep.lean ====
section
/-! SUPPORT. The fields that the operations used everywhere leave alone, each by the operation's frame. -/

namespace Sys2Proof.Machine

theorem complete_frame : Same 67109696 t (complete a0 a1 a2 t) := by simp
@[simp] theorem complete_pending : (complete a0 a1 a2 t).pending = t.pending := complete_frame.part .pending rfl
@[simp] theorem complete_clock : (complete a0 a1 a2 t).clock = t.clock := complete_frame.part .clock rfl
@[simp] theorem complete_freeCtr : (complete a0 a1 a2 t).freeCtr = t.freeCtr := complete_frame.part .freeCtr rfl
@[simp] theorem complete_pw : (complete a0 a1 a2 t).pw = t.pw := complete_frame.part .pw rfl
@[simp] theorem complete_pf : (complete a0 a1 a2 t).pf = t.pf := complete_frame.part .pf rfl
@[simp] theorem complete_sys : (complete a0 a1 a2 t).sys = t.sys := complete_frame.part .sys rfl
@[simp] theorem complete_inq : (complete a0 a1 a2 t).inq = t.inq := complete_frame.part .inq rfl
@[simp] theorem complete_ch : (complete a0 a1 a2 t).ch = t.ch := complete_frame.part .ch rfl
@[simp] theorem complete_grp : (complete a0 a1 a2 t).grp = t.grp := complete_frame.part .grp rfl
@[simp] theorem complete_bus : (complete a0 a1 a2 t).bus = t.bus := complete_frame.part .bus rfl
@[simp] theorem complete_tin : (complete a0 a1 a2 t).tin = t.tin := complete_frame.part .tin rfl
@[simp] theorem complete_mb : (complete a0 a1 a2 t).mb = t.mb := complete_frame.part .mb rfl
@[simp] theorem complete_cnv : (complete a0 a1 a2 t).cnv = t.cnv := complete_frame.part .cnv rfl
@[simp] theorem complete_acc : (complete a0 a1 a2 t).acc = t.acc := complete_frame.part .acc rfl
@[simp] theorem complete_xam : (complete a0 a1 a2 t).xam = t.xam := complete_frame.part .xam rfl
@[simp] theorem complete_met : (complete a0 a1 a2 t).met = t.met := complete_frame.part .met rfl
@[simp] theorem complete_tmr : (complete a0 a1 a2 t).tmr = t.tmr := complete_frame.part .tmr rfl
@[simp] theorem complete_adm : (complete a0 a1 a2 t).adm = t.adm := complete_frame.part .adm rfl
@[simp] theorem complete_bat : (complete a0 a1 a2 t).bat = t.bat := complete_frame.part .bat rfl
@[simp] theorem complete_shb : (complete a0 a1 a2 t).shb = t.shb := complete_frame.part .shb rfl
@[simp] theorem complete_fl : (complete a0 a1 a2 t).fl = t.fl := complete_frame.part .fl rfl
@[simp] theorem complete_nvs : (complete a0 a1 a2 t).nvs = t.nvs := complete_frame.part .nvs rfl
@[simp] theorem complete_log : (complete a0 a1 a2 t).log = t.log := complete_frame.part .log rfl
@[simp] theorem complete_pwr : (complete a0 a1 a2 t).pwr = t.pwr := complete_frame.part .pwr rfl
@[simp] theorem complete_fuses : (complete a0 a1 a2 t).svc.fuses = t.svc.fuses := complete_frame.part .fuses rfl
@[simp] theorem complete_images : (complete a0 a1 a2 t).svc.images = t.svc.images := complete_frame.part .images rfl

theorem interim_frame : Same 67109696 t (interim a0 a1 a2 t) := by simp
@[simp] theorem interim_pending : (interim a0 a1 a2 t).pending = t.pending := interim_frame.part .pending rfl
@[simp] theorem interim_clock : (interim a0 a1 a2 t).clock = t.clock := interim_frame.part .clock rfl
@[simp] theorem interim_freeCtr : (interim a0 a1 a2 t).freeCtr = t.freeCtr := interim_frame.part .freeCtr rfl
@[simp] theorem interim_pw : (interim a0 a1 a2 t).pw = t.pw := interim_frame.part .pw rfl
@[simp] theorem interim_pf : (interim a0 a1 a2 t).pf = t.pf := interim_frame.part .pf rfl
@[simp] theorem interim_sys : (interim a0 a1 a2 t).sys = t.sys := interim_frame.part .sys rfl
@[simp] theorem interim_inq : (interim a0 a1 a2 t).inq = t.inq := interim_frame.part .inq rfl
@[simp] theorem interim_ch : (interim a0 a1 a2 t).ch = t.ch := interim_frame.part .ch rfl
@[simp] theorem interim_grp : (interim a0 a1 a2 t).grp = t.grp := interim_frame.part .grp rfl
@[simp] theorem interim_bus : (interim a0 a1 a2 t).bus = t.bus := interim_frame.part .bus rfl
@[simp] theorem interim_tin : (interim a0 a1 a2 t).tin = t.tin := interim_frame.part .tin rfl
@[simp] theorem interim_mb : (interim a0 a1 a2 t).mb = t.mb := interim_frame.part .mb rfl
@[simp] theorem interim_cnv : (interim a0 a1 a2 t).cnv = t.cnv := interim_frame.part .cnv rfl
@[simp] theorem interim_acc : (interim a0 a1 a2 t).acc = t.acc := interim_frame.part .acc rfl
@[simp] theorem interim_xam : (interim a0 a1 a2 t).xam = t.xam := interim_frame.part .xam rfl
@[simp] theorem interim_met : (interim a0 a1 a2 t).met = t.met := interim_frame.part .met rfl
@[simp] theorem interim_tmr : (interim a0 a1 a2 t).tmr = t.tmr := interim_frame.part .tmr rfl
@[simp] theorem interim_adm : (interim a0 a1 a2 t).adm = t.adm := interim_frame.part .adm rfl
@[simp] theorem interim_bat : (interim a0 a1 a2 t).bat = t.bat := interim_frame.part .bat rfl
@[simp] theorem interim_shb : (interim a0 a1 a2 t).shb = t.shb := interim_frame.part .shb rfl
@[simp] theorem interim_fl : (interim a0 a1 a2 t).fl = t.fl := interim_frame.part .fl rfl
@[simp] theorem interim_nvs : (interim a0 a1 a2 t).nvs = t.nvs := interim_frame.part .nvs rfl
@[simp] theorem interim_log : (interim a0 a1 a2 t).log = t.log := interim_frame.part .log rfl
@[simp] theorem interim_pwr : (interim a0 a1 a2 t).pwr = t.pwr := interim_frame.part .pwr rfl
@[simp] theorem interim_fuses : (interim a0 a1 a2 t).svc.fuses = t.svc.fuses := interim_frame.part .fuses rfl
@[simp] theorem interim_images : (interim a0 a1 a2 t).svc.images = t.svc.images := interim_frame.part .images rfl

theorem logEvent_frame : Same 100664128 t (logEvent a0 a1 a2 a3 t) := by simp
@[simp] theorem logEvent_pending : (logEvent a0 a1 a2 a3 t).pending = t.pending := logEvent_frame.part .pending rfl
@[simp] theorem logEvent_clock : (logEvent a0 a1 a2 a3 t).clock = t.clock := logEvent_frame.part .clock rfl
@[simp] theorem logEvent_freeCtr : (logEvent a0 a1 a2 a3 t).freeCtr = t.freeCtr := logEvent_frame.part .freeCtr rfl
@[simp] theorem logEvent_pw : (logEvent a0 a1 a2 a3 t).pw = t.pw := logEvent_frame.part .pw rfl
@[simp] theorem logEvent_pf : (logEvent a0 a1 a2 a3 t).pf = t.pf := logEvent_frame.part .pf rfl
@[simp] theorem logEvent_sys : (logEvent a0 a1 a2 a3 t).sys = t.sys := logEvent_frame.part .sys rfl
@[simp] theorem logEvent_inq : (logEvent a0 a1 a2 a3 t).inq = t.inq := logEvent_frame.part .inq rfl
@[simp] theorem logEvent_ch : (logEvent a0 a1 a2 a3 t).ch = t.ch := logEvent_frame.part .ch rfl
@[simp] theorem logEvent_grp : (logEvent a0 a1 a2 a3 t).grp = t.grp := logEvent_frame.part .grp rfl
@[simp] theorem logEvent_bus : (logEvent a0 a1 a2 a3 t).bus = t.bus := logEvent_frame.part .bus rfl
@[simp] theorem logEvent_tin : (logEvent a0 a1 a2 a3 t).tin = t.tin := logEvent_frame.part .tin rfl
@[simp] theorem logEvent_mb : (logEvent a0 a1 a2 a3 t).mb = t.mb := logEvent_frame.part .mb rfl
@[simp] theorem logEvent_cnv : (logEvent a0 a1 a2 a3 t).cnv = t.cnv := logEvent_frame.part .cnv rfl
@[simp] theorem logEvent_acc : (logEvent a0 a1 a2 a3 t).acc = t.acc := logEvent_frame.part .acc rfl
@[simp] theorem logEvent_xam : (logEvent a0 a1 a2 a3 t).xam = t.xam := logEvent_frame.part .xam rfl
@[simp] theorem logEvent_met : (logEvent a0 a1 a2 a3 t).met = t.met := logEvent_frame.part .met rfl
@[simp] theorem logEvent_tmr : (logEvent a0 a1 a2 a3 t).tmr = t.tmr := logEvent_frame.part .tmr rfl
@[simp] theorem logEvent_adm : (logEvent a0 a1 a2 a3 t).adm = t.adm := logEvent_frame.part .adm rfl
@[simp] theorem logEvent_bat : (logEvent a0 a1 a2 a3 t).bat = t.bat := logEvent_frame.part .bat rfl
@[simp] theorem logEvent_shb : (logEvent a0 a1 a2 a3 t).shb = t.shb := logEvent_frame.part .shb rfl
@[simp] theorem logEvent_fl : (logEvent a0 a1 a2 a3 t).fl = t.fl := logEvent_frame.part .fl rfl
@[simp] theorem logEvent_nvs : (logEvent a0 a1 a2 a3 t).nvs = t.nvs := logEvent_frame.part .nvs rfl
@[simp] theorem logEvent_pwr : (logEvent a0 a1 a2 a3 t).pwr = t.pwr := logEvent_frame.part .pwr rfl
@[simp] theorem logEvent_fuses : (logEvent a0 a1 a2 a3 t).svc.fuses = t.svc.fuses := logEvent_frame.part .fuses rfl
@[simp] theorem logEvent_images : (logEvent a0 a1 a2 a3 t).svc.images = t.svc.images := logEvent_frame.part .images rfl

theorem svcReply_frame : Same 67108864 t (svcReply a0 a1 a2 a3 t) := by simp
@[simp] theorem svcReply_pending : (svcReply a0 a1 a2 a3 t).pending = t.pending := svcReply_frame.part .pending rfl
@[simp] theorem svcReply_clock : (svcReply a0 a1 a2 a3 t).clock = t.clock := svcReply_frame.part .clock rfl
@[simp] theorem svcReply_freeCtr : (svcReply a0 a1 a2 a3 t).freeCtr = t.freeCtr := svcReply_frame.part .freeCtr rfl
@[simp] theorem svcReply_pw : (svcReply a0 a1 a2 a3 t).pw = t.pw := svcReply_frame.part .pw rfl
@[simp] theorem svcReply_pf : (svcReply a0 a1 a2 a3 t).pf = t.pf := svcReply_frame.part .pf rfl
@[simp] theorem svcReply_sys : (svcReply a0 a1 a2 a3 t).sys = t.sys := svcReply_frame.part .sys rfl
@[simp] theorem svcReply_link : (svcReply a0 a1 a2 a3 t).link = t.link := svcReply_frame.part .link rfl
@[simp] theorem svcReply_inq : (svcReply a0 a1 a2 a3 t).inq = t.inq := svcReply_frame.part .inq rfl
@[simp] theorem svcReply_outq : (svcReply a0 a1 a2 a3 t).outq = t.outq := svcReply_frame.part .outq rfl
@[simp] theorem svcReply_deolo : (svcReply a0 a1 a2 a3 t).deolo = t.deolo := svcReply_frame.part .deolo rfl
@[simp] theorem svcReply_ch : (svcReply a0 a1 a2 a3 t).ch = t.ch := svcReply_frame.part .ch rfl
@[simp] theorem svcReply_grp : (svcReply a0 a1 a2 a3 t).grp = t.grp := svcReply_frame.part .grp rfl
@[simp] theorem svcReply_bus : (svcReply a0 a1 a2 a3 t).bus = t.bus := svcReply_frame.part .bus rfl
@[simp] theorem svcReply_tin : (svcReply a0 a1 a2 a3 t).tin = t.tin := svcReply_frame.part .tin rfl
@[simp] theorem svcReply_mb : (svcReply a0 a1 a2 a3 t).mb = t.mb := svcReply_frame.part .mb rfl
@[simp] theorem svcReply_cnv : (svcReply a0 a1 a2 a3 t).cnv = t.cnv := svcReply_frame.part .cnv rfl
@[simp] theorem svcReply_acc : (svcReply a0 a1 a2 a3 t).acc = t.acc := svcReply_frame.part .acc rfl
@[simp] theorem svcReply_xam : (svcReply a0 a1 a2 a3 t).xam = t.xam := svcReply_frame.part .xam rfl
@[simp] theorem svcReply_met : (svcReply a0 a1 a2 a3 t).met = t.met := svcReply_frame.part .met rfl
@[simp] theorem svcReply_tmr : (svcReply a0 a1 a2 a3 t).tmr = t.tmr := svcReply_frame.part .tmr rfl
@[simp] theorem svcReply_adm : (svcReply a0 a1 a2 a3 t).adm = t.adm := svcReply_frame.part .adm rfl
@[simp] theorem svcReply_bat : (svcReply a0 a1 a2 a3 t).bat = t.bat := svcReply_frame.part .bat rfl
@[simp] theorem svcReply_shb : (svcReply a0 a1 a2 a3 t).shb = t.shb := svcReply_frame.part .shb rfl
@[simp] theorem svcReply_fl : (svcReply a0 a1 a2 a3 t).fl = t.fl := svcReply_frame.part .fl rfl
@[simp] theorem svcReply_nvs : (svcReply a0 a1 a2 a3 t).nvs = t.nvs := svcReply_frame.part .nvs rfl
@[simp] theorem svcReply_log : (svcReply a0 a1 a2 a3 t).log = t.log := svcReply_frame.part .log rfl
@[simp] theorem svcReply_pwr : (svcReply a0 a1 a2 a3 t).pwr = t.pwr := svcReply_frame.part .pwr rfl
@[simp] theorem svcReply_fuses : (svcReply a0 a1 a2 a3 t).svc.fuses = t.svc.fuses := svcReply_frame.part .fuses rfl
@[simp] theorem svcReply_images : (svcReply a0 a1 a2 a3 t).svc.images = t.svc.images := svcReply_frame.part .images rfl

theorem reportCh_frame : Same 67109696 t (reportCh a0 t) := by simp
@[simp] theorem reportCh_pending : (reportCh a0 t).pending = t.pending := reportCh_frame.part .pending rfl
@[simp] theorem reportCh_clock : (reportCh a0 t).clock = t.clock := reportCh_frame.part .clock rfl
@[simp] theorem reportCh_freeCtr : (reportCh a0 t).freeCtr = t.freeCtr := reportCh_frame.part .freeCtr rfl
@[simp] theorem reportCh_pw : (reportCh a0 t).pw = t.pw := reportCh_frame.part .pw rfl
@[simp] theorem reportCh_pf : (reportCh a0 t).pf = t.pf := reportCh_frame.part .pf rfl
@[simp] theorem reportCh_sys : (reportCh a0 t).sys = t.sys := reportCh_frame.part .sys rfl
@[simp] theorem reportCh_inq : (reportCh a0 t).inq = t.inq := reportCh_frame.part .inq rfl
@[simp] theorem reportCh_ch : (reportCh a0 t).ch = t.ch := reportCh_frame.part .ch rfl
@[simp] theorem reportCh_grp : (reportCh a0 t).grp = t.grp := reportCh_frame.part .grp rfl
@[simp] theorem reportCh_bus : (reportCh a0 t).bus = t.bus := reportCh_frame.part .bus rfl
@[simp] theorem reportCh_tin : (reportCh a0 t).tin = t.tin := reportCh_frame.part .tin rfl
@[simp] theorem reportCh_mb : (reportCh a0 t).mb = t.mb := reportCh_frame.part .mb rfl
@[simp] theorem reportCh_cnv : (reportCh a0 t).cnv = t.cnv := reportCh_frame.part .cnv rfl
@[simp] theorem reportCh_acc : (reportCh a0 t).acc = t.acc := reportCh_frame.part .acc rfl
@[simp] theorem reportCh_xam : (reportCh a0 t).xam = t.xam := reportCh_frame.part .xam rfl
@[simp] theorem reportCh_met : (reportCh a0 t).met = t.met := reportCh_frame.part .met rfl
@[simp] theorem reportCh_tmr : (reportCh a0 t).tmr = t.tmr := reportCh_frame.part .tmr rfl
@[simp] theorem reportCh_adm : (reportCh a0 t).adm = t.adm := reportCh_frame.part .adm rfl
@[simp] theorem reportCh_bat : (reportCh a0 t).bat = t.bat := reportCh_frame.part .bat rfl
@[simp] theorem reportCh_shb : (reportCh a0 t).shb = t.shb := reportCh_frame.part .shb rfl
@[simp] theorem reportCh_fl : (reportCh a0 t).fl = t.fl := reportCh_frame.part .fl rfl
@[simp] theorem reportCh_nvs : (reportCh a0 t).nvs = t.nvs := reportCh_frame.part .nvs rfl
@[simp] theorem reportCh_log : (reportCh a0 t).log = t.log := reportCh_frame.part .log rfl
@[simp] theorem reportCh_pwr : (reportCh a0 t).pwr = t.pwr := reportCh_frame.part .pwr rfl
@[simp] theorem reportCh_fuses : (reportCh a0 t).svc.fuses = t.svc.fuses := reportCh_frame.part .fuses rfl
@[simp] theorem reportCh_images : (reportCh a0 t).svc.images = t.svc.images := reportCh_frame.part .images rfl

theorem passTo_frame : Same 109708098 t (passTo a0 t) := by simp
@[simp] theorem passTo_pending : (passTo a0 t).pending = t.pending := passTo_frame.part .pending rfl
@[simp] theorem passTo_freeCtr : (passTo a0 t).freeCtr = t.freeCtr := passTo_frame.part .freeCtr rfl
@[simp] theorem passTo_pw : (passTo a0 t).pw = t.pw := passTo_frame.part .pw rfl
@[simp] theorem passTo_pf : (passTo a0 t).pf = t.pf := passTo_frame.part .pf rfl
@[simp] theorem passTo_sys : (passTo a0 t).sys = t.sys := passTo_frame.part .sys rfl
@[simp] theorem passTo_inq : (passTo a0 t).inq = t.inq := passTo_frame.part .inq rfl
@[simp] theorem passTo_ch : (passTo a0 t).ch = t.ch := passTo_frame.part .ch rfl
@[simp] theorem passTo_grp : (passTo a0 t).grp = t.grp := passTo_frame.part .grp rfl
@[simp] theorem passTo_bus : (passTo a0 t).bus = t.bus := passTo_frame.part .bus rfl
@[simp] theorem passTo_tin : (passTo a0 t).tin = t.tin := passTo_frame.part .tin rfl
@[simp] theorem passTo_mb : (passTo a0 t).mb = t.mb := passTo_frame.part .mb rfl
@[simp] theorem passTo_cnv : (passTo a0 t).cnv = t.cnv := passTo_frame.part .cnv rfl
@[simp] theorem passTo_acc : (passTo a0 t).acc = t.acc := passTo_frame.part .acc rfl
@[simp] theorem passTo_met : (passTo a0 t).met = t.met := passTo_frame.part .met rfl
@[simp] theorem passTo_adm : (passTo a0 t).adm = t.adm := passTo_frame.part .adm rfl
@[simp] theorem passTo_bat : (passTo a0 t).bat = t.bat := passTo_frame.part .bat rfl
@[simp] theorem passTo_shb : (passTo a0 t).shb = t.shb := passTo_frame.part .shb rfl
@[simp] theorem passTo_nvs : (passTo a0 t).nvs = t.nvs := passTo_frame.part .nvs rfl
@[simp] theorem passTo_pwr : (passTo a0 t).pwr = t.pwr := passTo_frame.part .pwr rfl
@[simp] theorem passTo_fuses : (passTo a0 t).svc.fuses = t.svc.fuses := passTo_frame.part .fuses rfl
@[simp] theorem passTo_images : (passTo a0 t).svc.images = t.svc.images := passTo_frame.part .images rfl

theorem passOptime_frame : Same 109708098 t (passOptime a0 t) := by simp
@[simp] theorem passOptime_pending : (passOptime a0 t).pending = t.pending := passOptime_frame.part .pending rfl
@[simp] theorem passOptime_freeCtr : (passOptime a0 t).freeCtr = t.freeCtr := passOptime_frame.part .freeCtr rfl
@[simp] theorem passOptime_pw : (passOptime a0 t).pw = t.pw := passOptime_frame.part .pw rfl
@[simp] theorem passOptime_pf : (passOptime a0 t).pf = t.pf := passOptime_frame.part .pf rfl
@[simp] theorem passOptime_sys : (passOptime a0 t).sys = t.sys := passOptime_frame.part .sys rfl
@[simp] theorem passOptime_inq : (passOptime a0 t).inq = t.inq := passOptime_frame.part .inq rfl
@[simp] theorem passOptime_ch : (passOptime a0 t).ch = t.ch := passOptime_frame.part .ch rfl
@[simp] theorem passOptime_grp : (passOptime a0 t).grp = t.grp := passOptime_frame.part .grp rfl
@[simp] theorem passOptime_bus : (passOptime a0 t).bus = t.bus := passOptime_frame.part .bus rfl
@[simp] theorem passOptime_tin : (passOptime a0 t).tin = t.tin := passOptime_frame.part .tin rfl
@[simp] theorem passOptime_mb : (passOptime a0 t).mb = t.mb := passOptime_frame.part .mb rfl
@[simp] theorem passOptime_cnv : (passOptime a0 t).cnv = t.cnv := passOptime_frame.part .cnv rfl
@[simp] theorem passOptime_acc : (passOptime a0 t).acc = t.acc := passOptime_frame.part .acc rfl
@[simp] theorem passOptime_met : (passOptime a0 t).met = t.met := passOptime_frame.part .met rfl
@[simp] theorem passOptime_adm : (passOptime a0 t).adm = t.adm := passOptime_frame.part .adm rfl
@[simp] theorem passOptime_bat : (passOptime a0 t).bat = t.bat := passOptime_frame.part .bat rfl
@[simp] theorem passOptime_shb : (passOptime a0 t).shb = t.shb := passOptime_frame.part .shb rfl
@[simp] theorem passOptime_nvs : (passOptime a0 t).nvs = t.nvs := passOptime_frame.part .nvs rfl
@[simp] theorem passOptime_pwr : (passOptime a0 t).pwr = t.pwr := passOptime_frame.part .pwr rfl
@[simp] theorem passOptime_fuses : (passOptime a0 t).svc.fuses = t.svc.fuses := passOptime_frame.part .fuses rfl
@[simp] theorem passOptime_images : (passOptime a0 t).svc.images = t.svc.images := passOptime_frame.part .images rfl

theorem elapse_frame : Same 655362 t (elapse a0 t) := by simp
@[simp] theorem elapse_pending : (elapse a0 t).pending = t.pending := elapse_frame.part .pending rfl
@[simp] theorem elapse_freeCtr : (elapse a0 t).freeCtr = t.freeCtr := elapse_frame.part .freeCtr rfl
@[simp] theorem elapse_pw : (elapse a0 t).pw = t.pw := elapse_frame.part .pw rfl
@[simp] theorem elapse_pf : (elapse a0 t).pf = t.pf := elapse_frame.part .pf rfl
@[simp] theorem elapse_sys : (elapse a0 t).sys = t.sys := elapse_frame.part .sys rfl
@[simp] theorem elapse_link : (elapse a0 t).link = t.link := elapse_frame.part .link rfl
@[simp] theorem elapse_inq : (elapse a0 t).inq = t.inq := elapse_frame.part .inq rfl
@[simp] theorem elapse_outq : (elapse a0 t).outq = t.outq := elapse_frame.part .outq rfl
@[simp] theorem elapse_deolo : (elapse a0 t).deolo = t.deolo := elapse_frame.part .deolo rfl
@[simp] theorem elapse_ch : (elapse a0 t).ch = t.ch := elapse_frame.part .ch rfl
@[simp] theorem elapse_grp : (elapse a0 t).grp = t.grp := elapse_frame.part .grp rfl
@[simp] theorem elapse_bus : (elapse a0 t).bus = t.bus := elapse_frame.part .bus rfl
@[simp] theorem elapse_tin : (elapse a0 t).tin = t.tin := elapse_frame.part .tin rfl
@[simp] theorem elapse_mb : (elapse a0 t).mb = t.mb := elapse_frame.part .mb rfl
@[simp] theorem elapse_cnv : (elapse a0 t).cnv = t.cnv := elapse_frame.part .cnv rfl
@[simp] theorem elapse_acc : (elapse a0 t).acc = t.acc := elapse_frame.part .acc rfl
@[simp] theorem elapse_met : (elapse a0 t).met = t.met := elapse_frame.part .met rfl
@[simp] theorem elapse_adm : (elapse a0 t).adm = t.adm := elapse_frame.part .adm rfl
@[simp] theorem elapse_bat : (elapse a0 t).bat = t.bat := elapse_frame.part .bat rfl
@[simp] theorem elapse_shb : (elapse a0 t).shb = t.shb := elapse_frame.part .shb rfl
@[simp] theorem elapse_fl : (elapse a0 t).fl = t.fl := elapse_frame.part .fl rfl
@[simp] theorem elapse_nvs : (elapse a0 t).nvs = t.nvs := elapse_frame.part .nvs rfl
@[simp] theorem elapse_log : (elapse a0 t).log = t.log := elapse_frame.part .log rfl
@[simp] theorem elapse_svc : (elapse a0 t).svc = t.svc := elapse_frame.part .svc rfl
@[simp] theorem elapse_pwr : (elapse a0 t).pwr = t.pwr := elapse_frame.part .pwr rfl

theorem queueWrite_frame : Same 16777216 t (queueWrite a0 a1 t) := by simp
@[simp] theorem queueWrite_pending : (queueWrite a0 a1 t).pending = t.pending := queueWrite_frame.part .pending rfl
@[simp] theorem queueWrite_clock : (queueWrite a0 a1 t).clock = t.clock := queueWrite_frame.part .clock rfl
@[simp] theorem queueWrite_freeCtr : (queueWrite a0 a1 t).freeCtr = t.freeCtr := queueWrite_frame.part .freeCtr rfl
@[simp] theorem queueWrite_pw : (queueWrite a0 a1 t).pw = t.pw := queueWrite_frame.part .pw rfl
@[simp] theorem queueWrite_pf : (queueWrite a0 a1 t).pf = t.pf := queueWrite_frame.part .pf rfl
@[simp] theorem queueWrite_sys : (queueWrite a0 a1 t).sys = t.sys := queueWrite_frame.part .sys rfl
@[simp] theorem queueWrite_link : (queueWrite a0 a1 t).link = t.link := queueWrite_frame.part .link rfl
@[simp] theorem queueWrite_inq : (queueWrite a0 a1 t).inq = t.inq := queueWrite_frame.part .inq rfl
@[simp] theorem queueWrite_outq : (queueWrite a0 a1 t).outq = t.outq := queueWrite_frame.part .outq rfl
@[simp] theorem queueWrite_deolo : (queueWrite a0 a1 t).deolo = t.deolo := queueWrite_frame.part .deolo rfl
@[simp] theorem queueWrite_ch : (queueWrite a0 a1 t).ch = t.ch := queueWrite_frame.part .ch rfl
@[simp] theorem queueWrite_grp : (queueWrite a0 a1 t).grp = t.grp := queueWrite_frame.part .grp rfl
@[simp] theorem queueWrite_bus : (queueWrite a0 a1 t).bus = t.bus := queueWrite_frame.part .bus rfl
@[simp] theorem queueWrite_tin : (queueWrite a0 a1 t).tin = t.tin := queueWrite_frame.part .tin rfl
@[simp] theorem queueWrite_mb : (queueWrite a0 a1 t).mb = t.mb := queueWrite_frame.part .mb rfl
@[simp] theorem queueWrite_cnv : (queueWrite a0 a1 t).cnv = t.cnv := queueWrite_frame.part .cnv rfl
@[simp] theorem queueWrite_acc : (queueWrite a0 a1 t).acc = t.acc := queueWrite_frame.part .acc rfl
@[simp] theorem queueWrite_xam : (queueWrite a0 a1 t).xam = t.xam := queueWrite_frame.part .xam rfl
@[simp] theorem queueWrite_met : (queueWrite a0 a1 t).met = t.met := queueWrite_frame.part .met rfl
@[simp] theorem queueWrite_tmr : (queueWrite a0 a1 t).tmr = t.tmr := queueWrite_frame.part .tmr rfl
@[simp] theorem queueWrite_adm : (queueWrite a0 a1 t).adm = t.adm := queueWrite_frame.part .adm rfl
@[simp] theorem queueWrite_bat : (queueWrite a0 a1 t).bat = t.bat := queueWrite_frame.part .bat rfl
@[simp] theorem queueWrite_shb : (queueWrite a0 a1 t).shb = t.shb := queueWrite_frame.part .shb rfl
@[simp] theorem queueWrite_fl : (queueWrite a0 a1 t).fl = t.fl := queueWrite_frame.part .fl rfl
@[simp] theorem queueWrite_log : (queueWrite a0 a1 t).log = t.log := queueWrite_frame.part .log rfl
@[simp] theorem queueWrite_svc : (queueWrite a0 a1 t).svc = t.svc := queueWrite_frame.part .svc rfl
@[simp] theorem queueWrite_pwr : (queueWrite a0 a1 t).pwr = t.pwr := queueWrite_frame.part .pwr rfl

theorem commitRec_frame : Same 16777216 t (commitRec a0 a1 a2 t) := by simp
@[simp] theorem commitRec_pending : (commitRec a0 a1 a2 t).pending = t.pending := commitRec_frame.part .pending rfl
@[simp] theorem commitRec_clock : (commitRec a0 a1 a2 t).clock = t.clock := commitRec_frame.part .clock rfl
@[simp] theorem commitRec_freeCtr : (commitRec a0 a1 a2 t).freeCtr = t.freeCtr := commitRec_frame.part .freeCtr rfl
@[simp] theorem commitRec_pw : (commitRec a0 a1 a2 t).pw = t.pw := commitRec_frame.part .pw rfl
@[simp] theorem commitRec_pf : (commitRec a0 a1 a2 t).pf = t.pf := commitRec_frame.part .pf rfl
@[simp] theorem commitRec_sys : (commitRec a0 a1 a2 t).sys = t.sys := commitRec_frame.part .sys rfl
@[simp] theorem commitRec_link : (commitRec a0 a1 a2 t).link = t.link := commitRec_frame.part .link rfl
@[simp] theorem commitRec_inq : (commitRec a0 a1 a2 t).inq = t.inq := commitRec_frame.part .inq rfl
@[simp] theorem commitRec_outq : (commitRec a0 a1 a2 t).outq = t.outq := commitRec_frame.part .outq rfl
@[simp] theorem commitRec_deolo : (commitRec a0 a1 a2 t).deolo = t.deolo := commitRec_frame.part .deolo rfl
@[simp] theorem commitRec_ch : (commitRec a0 a1 a2 t).ch = t.ch := commitRec_frame.part .ch rfl
@[simp] theorem commitRec_grp : (commitRec a0 a1 a2 t).grp = t.grp := commitRec_frame.part .grp rfl
@[simp] theorem commitRec_bus : (commitRec a0 a1 a2 t).bus = t.bus := commitRec_frame.part .bus rfl
@[simp] theorem commitRec_tin : (commitRec a0 a1 a2 t).tin = t.tin := commitRec_frame.part .tin rfl
@[simp] theorem commitRec_mb : (commitRec a0 a1 a2 t).mb = t.mb := commitRec_frame.part .mb rfl
@[simp] theorem commitRec_cnv : (commitRec a0 a1 a2 t).cnv = t.cnv := commitRec_frame.part .cnv rfl
@[simp] theorem commitRec_acc : (commitRec a0 a1 a2 t).acc = t.acc := commitRec_frame.part .acc rfl
@[simp] theorem commitRec_xam : (commitRec a0 a1 a2 t).xam = t.xam := commitRec_frame.part .xam rfl
@[simp] theorem commitRec_met : (commitRec a0 a1 a2 t).met = t.met := commitRec_frame.part .met rfl
@[simp] theorem commitRec_tmr : (commitRec a0 a1 a2 t).tmr = t.tmr := commitRec_frame.part .tmr rfl
@[simp] theorem commitRec_adm : (commitRec a0 a1 a2 t).adm = t.adm := commitRec_frame.part .adm rfl
@[simp] theorem commitRec_bat : (commitRec a0 a1 a2 t).bat = t.bat := commitRec_frame.part .bat rfl
@[simp] theorem commitRec_shb : (commitRec a0 a1 a2 t).shb = t.shb := commitRec_frame.part .shb rfl
@[simp] theorem commitRec_fl : (commitRec a0 a1 a2 t).fl = t.fl := commitRec_frame.part .fl rfl
@[simp] theorem commitRec_log : (commitRec a0 a1 a2 t).log = t.log := commitRec_frame.part .log rfl
@[simp] theorem commitRec_svc : (commitRec a0 a1 a2 t).svc = t.svc := commitRec_frame.part .svc rfl
@[simp] theorem commitRec_pwr : (commitRec a0 a1 a2 t).pwr = t.pwr := commitRec_frame.part .pwr rfl

theorem begin_frame : Same 512 t (begin_ a0 t) := by simp
@[simp] theorem begin_pending : (begin_ a0 t).pending = t.pending := begin_frame.part .pending rfl
@[simp] theorem begin_clock : (begin_ a0 t).clock = t.clock := begin_frame.part .clock rfl
@[simp] theorem begin_freeCtr : (begin_ a0 t).freeCtr = t.freeCtr := begin_frame.part .freeCtr rfl
@[simp] theorem begin_pw : (begin_ a0 t).pw = t.pw := begin_frame.part .pw rfl
@[simp] theorem begin_pf : (begin_ a0 t).pf = t.pf := begin_frame.part .pf rfl
@[simp] theorem begin_sys : (begin_ a0 t).sys = t.sys := begin_frame.part .sys rfl
@[simp] theorem begin_link : (begin_ a0 t).link = t.link := begin_frame.part .link rfl
@[simp] theorem begin_inq : (begin_ a0 t).inq = t.inq := begin_frame.part .inq rfl
@[simp] theorem begin_outq : (begin_ a0 t).outq = t.outq := begin_frame.part .outq rfl
@[simp] theorem begin_ch : (begin_ a0 t).ch = t.ch := begin_frame.part .ch rfl
@[simp] theorem begin_grp : (begin_ a0 t).grp = t.grp := begin_frame.part .grp rfl
@[simp] theorem begin_bus : (begin_ a0 t).bus = t.bus := begin_frame.part .bus rfl
@[simp] theorem begin_tin : (begin_ a0 t).tin = t.tin := begin_frame.part .tin rfl
@[simp] theorem begin_mb : (begin_ a0 t).mb = t.mb := begin_frame.part .mb rfl
@[simp] theorem begin_cnv : (begin_ a0 t).cnv = t.cnv := begin_frame.part .cnv rfl
@[simp] theorem begin_acc : (begin_ a0 t).acc = t.acc := begin_frame.part .acc rfl
@[simp] theorem begin_xam : (begin_ a0 t).xam = t.xam := begin_frame.part .xam rfl
@[simp] theorem begin_met : (begin_ a0 t).met = t.met := begin_frame.part .met rfl
@[simp] theorem begin_tmr : (begin_ a0 t).tmr = t.tmr := begin_frame.part .tmr rfl
@[simp] theorem begin_adm : (begin_ a0 t).adm = t.adm := begin_frame.part .adm rfl
@[simp] theorem begin_bat : (begin_ a0 t).bat = t.bat := begin_frame.part .bat rfl
@[simp] theorem begin_shb : (begin_ a0 t).shb = t.shb := begin_frame.part .shb rfl
@[simp] theorem begin_fl : (begin_ a0 t).fl = t.fl := begin_frame.part .fl rfl
@[simp] theorem begin_nvs : (begin_ a0 t).nvs = t.nvs := begin_frame.part .nvs rfl
@[simp] theorem begin_log : (begin_ a0 t).log = t.log := begin_frame.part .log rfl
@[simp] theorem begin_svc : (begin_ a0 t).svc = t.svc := begin_frame.part .svc rfl
@[simp] theorem begin_pwr : (begin_ a0 t).pwr = t.pwr := begin_frame.part .pwr rfl

theorem notifyAll_frame : Same 67109696 t (notifyAll a0 a1 t) := by simp
@[simp] theorem notifyAll_pending : (notifyAll a0 a1 t).pending = t.pending := notifyAll_frame.part .pending rfl
@[simp] theorem notifyAll_clock : (notifyAll a0 a1 t).clock = t.clock := notifyAll_frame.part .clock rfl
@[simp] theorem notifyAll_freeCtr : (notifyAll a0 a1 t).freeCtr = t.freeCtr := notifyAll_frame.part .freeCtr rfl
@[simp] theorem notifyAll_pw : (notifyAll a0 a1 t).pw = t.pw := notifyAll_frame.part .pw rfl
@[simp] theorem notifyAll_pf : (notifyAll a0 a1 t).pf = t.pf := notifyAll_frame.part .pf rfl
@[simp] theorem notifyAll_sys : (notifyAll a0 a1 t).sys = t.sys := notifyAll_frame.part .sys rfl
@[simp] theorem notifyAll_inq : (notifyAll a0 a1 t).inq = t.inq := notifyAll_frame.part .inq rfl
@[simp] theorem notifyAll_ch : (notifyAll a0 a1 t).ch = t.ch := notifyAll_frame.part .ch rfl
@[simp] theorem notifyAll_grp : (notifyAll a0 a1 t).grp = t.grp := notifyAll_frame.part .grp rfl
@[simp] theorem notifyAll_bus : (notifyAll a0 a1 t).bus = t.bus := notifyAll_frame.part .bus rfl
@[simp] theorem notifyAll_tin : (notifyAll a0 a1 t).tin = t.tin := notifyAll_frame.part .tin rfl
@[simp] theorem notifyAll_mb : (notifyAll a0 a1 t).mb = t.mb := notifyAll_frame.part .mb rfl
@[simp] theorem notifyAll_cnv : (notifyAll a0 a1 t).cnv = t.cnv := notifyAll_frame.part .cnv rfl
@[simp] theorem notifyAll_acc : (notifyAll a0 a1 t).acc = t.acc := notifyAll_frame.part .acc rfl
@[simp] theorem notifyAll_xam : (notifyAll a0 a1 t).xam = t.xam := notifyAll_frame.part .xam rfl
@[simp] theorem notifyAll_met : (notifyAll a0 a1 t).met = t.met := notifyAll_frame.part .met rfl
@[simp] theorem notifyAll_tmr : (notifyAll a0 a1 t).tmr = t.tmr := notifyAll_frame.part .tmr rfl
@[simp] theorem notifyAll_adm : (notifyAll a0 a1 t).adm = t.adm := notifyAll_frame.part .adm rfl
@[simp] theorem notifyAll_bat : (notifyAll a0 a1 t).bat = t.bat := notifyAll_frame.part .bat rfl
@[simp] theorem notifyAll_shb : (notifyAll a0 a1 t).shb = t.shb := notifyAll_frame.part .shb rfl
@[simp] theorem notifyAll_fl : (notifyAll a0 a1 t).fl = t.fl := notifyAll_frame.part .fl rfl
@[simp] theorem notifyAll_nvs : (notifyAll a0 a1 t).nvs = t.nvs := notifyAll_frame.part .nvs rfl
@[simp] theorem notifyAll_log : (notifyAll a0 a1 t).log = t.log := notifyAll_frame.part .log rfl
@[simp] theorem notifyAll_pwr : (notifyAll a0 a1 t).pwr = t.pwr := notifyAll_frame.part .pwr rfl
@[simp] theorem notifyAll_fuses : (notifyAll a0 a1 t).svc.fuses = t.svc.fuses := notifyAll_frame.part .fuses rfl
@[simp] theorem notifyAll_images : (notifyAll a0 a1 t).svc.images = t.svc.images := notifyAll_frame.part .images rfl

theorem notifyTo_frame : Same 67109696 t (notifyTo a0 a1 a2 t) := by simp
@[simp] theorem notifyTo_pending : (notifyTo a0 a1 a2 t).pending = t.pending := notifyTo_frame.part .pending rfl
@[simp] theorem notifyTo_clock : (notifyTo a0 a1 a2 t).clock = t.clock := notifyTo_frame.part .clock rfl
@[simp] theorem notifyTo_freeCtr : (notifyTo a0 a1 a2 t).freeCtr = t.freeCtr := notifyTo_frame.part .freeCtr rfl
@[simp] theorem notifyTo_pw : (notifyTo a0 a1 a2 t).pw = t.pw := notifyTo_frame.part .pw rfl
@[simp] theorem notifyTo_pf : (notifyTo a0 a1 a2 t).pf = t.pf := notifyTo_frame.part .pf rfl
@[simp] theorem notifyTo_sys : (notifyTo a0 a1 a2 t).sys = t.sys := notifyTo_frame.part .sys rfl
@[simp] theorem notifyTo_inq : (notifyTo a0 a1 a2 t).inq = t.inq := notifyTo_frame.part .inq rfl
@[simp] theorem notifyTo_ch : (notifyTo a0 a1 a2 t).ch = t.ch := notifyTo_frame.part .ch rfl
@[simp] theorem notifyTo_grp : (notifyTo a0 a1 a2 t).grp = t.grp := notifyTo_frame.part .grp rfl
@[simp] theorem notifyTo_bus : (notifyTo a0 a1 a2 t).bus = t.bus := notifyTo_frame.part .bus rfl
@[simp] theorem notifyTo_tin : (notifyTo a0 a1 a2 t).tin = t.tin := notifyTo_frame.part .tin rfl
@[simp] theorem notifyTo_mb : (notifyTo a0 a1 a2 t).mb = t.mb := notifyTo_frame.part .mb rfl
@[simp] theorem notifyTo_cnv : (notifyTo a0 a1 a2 t).cnv = t.cnv := notifyTo_frame.part .cnv rfl
@[simp] theorem notifyTo_acc : (notifyTo a0 a1 a2 t).acc = t.acc := notifyTo_frame.part .acc rfl
@[simp] theorem notifyTo_xam : (notifyTo a0 a1 a2 t).xam = t.xam := notifyTo_frame.part .xam rfl
@[simp] theorem notifyTo_met : (notifyTo a0 a1 a2 t).met = t.met := notifyTo_frame.part .met rfl
@[simp] theorem notifyTo_tmr : (notifyTo a0 a1 a2 t).tmr = t.tmr := notifyTo_frame.part .tmr rfl
@[simp] theorem notifyTo_adm : (notifyTo a0 a1 a2 t).adm = t.adm := notifyTo_frame.part .adm rfl
@[simp] theorem notifyTo_bat : (notifyTo a0 a1 a2 t).bat = t.bat := notifyTo_frame.part .bat rfl
@[simp] theorem notifyTo_shb : (notifyTo a0 a1 a2 t).shb = t.shb := notifyTo_frame.part .shb rfl
@[simp] theorem notifyTo_fl : (notifyTo a0 a1 a2 t).fl = t.fl := notifyTo_frame.part .fl rfl
@[simp] theorem notifyTo_nvs : (notifyTo a0 a1 a2 t).nvs = t.nvs := notifyTo_frame.part .nvs rfl
@[simp] theorem notifyTo_log : (notifyTo a0 a1 a2 t).log = t.log := notifyTo_frame.part .log rfl
@[simp] theorem notifyTo_pwr : (notifyTo a0 a1 a2 t).pwr = t.pwr := notifyTo_frame.part .pwr rfl
@[simp] theorem notifyTo_fuses : (notifyTo a0 a1 a2 t).svc.fuses = t.svc.fuses := notifyTo_frame.part .fuses rfl
@[simp] theorem notifyTo_images : (notifyTo a0 a1 a2 t).svc.images = t.svc.images := notifyTo_frame.part .images rfl

theorem setProbe_frame : Same 1024 t (setProbe a0 t) := by simp
@[simp] theorem setProbe_pending : (setProbe a0 t).pending = t.pending := setProbe_frame.part .pending rfl
@[simp] theorem setProbe_clock : (setProbe a0 t).clock = t.clock := setProbe_frame.part .clock rfl
@[simp] theorem setProbe_freeCtr : (setProbe a0 t).freeCtr = t.freeCtr := setProbe_frame.part .freeCtr rfl
@[simp] theorem setProbe_pw : (setProbe a0 t).pw = t.pw := setProbe_frame.part .pw rfl
@[simp] theorem setProbe_pf : (setProbe a0 t).pf = t.pf := setProbe_frame.part .pf rfl
@[simp] theorem setProbe_sys : (setProbe a0 t).sys = t.sys := setProbe_frame.part .sys rfl
@[simp] theorem setProbe_link : (setProbe a0 t).link = t.link := setProbe_frame.part .link rfl
@[simp] theorem setProbe_inq : (setProbe a0 t).inq = t.inq := setProbe_frame.part .inq rfl
@[simp] theorem setProbe_outq : (setProbe a0 t).outq = t.outq := setProbe_frame.part .outq rfl
@[simp] theorem setProbe_deolo : (setProbe a0 t).deolo = t.deolo := setProbe_frame.part .deolo rfl
@[simp] theorem setProbe_grp : (setProbe a0 t).grp = t.grp := setProbe_frame.part .grp rfl
@[simp] theorem setProbe_bus : (setProbe a0 t).bus = t.bus := setProbe_frame.part .bus rfl
@[simp] theorem setProbe_tin : (setProbe a0 t).tin = t.tin := setProbe_frame.part .tin rfl
@[simp] theorem setProbe_mb : (setProbe a0 t).mb = t.mb := setProbe_frame.part .mb rfl
@[simp] theorem setProbe_cnv : (setProbe a0 t).cnv = t.cnv := setProbe_frame.part .cnv rfl
@[simp] theorem setProbe_acc : (setProbe a0 t).acc = t.acc := setProbe_frame.part .acc rfl
@[simp] theorem setProbe_xam : (setProbe a0 t).xam = t.xam := setProbe_frame.part .xam rfl
@[simp] theorem setProbe_met : (setProbe a0 t).met = t.met := setProbe_frame.part .met rfl
@[simp] theorem setProbe_tmr : (setProbe a0 t).tmr = t.tmr := setProbe_frame.part .tmr rfl
@[simp] theorem setProbe_adm : (setProbe a0 t).adm = t.adm := setProbe_frame.part .adm rfl
@[simp] theorem setProbe_bat : (setProbe a0 t).bat = t.bat := setProbe_frame.part .bat rfl
@[simp] theorem setProbe_shb : (setProbe a0 t).shb = t.shb := setProbe_frame.part .shb rfl
@[simp] theorem setProbe_fl : (setProbe a0 t).fl = t.fl := setProbe_frame.part .fl rfl
@[simp] theorem setProbe_nvs : (setProbe a0 t).nvs = t.nvs := setProbe_frame.part .nvs rfl
@[simp] theorem setProbe_log : (setProbe a0 t).log = t.log := setProbe_frame.part .log rfl
@[simp] theorem setProbe_svc : (setProbe a0 t).svc = t.svc := setProbe_frame.part .svc rfl
@[simp] theorem setProbe_pwr : (setProbe a0 t).pwr = t.pwr := setProbe_frame.part .pwr rfl
@[simp] theorem setProbe_gates : (setProbe a0 t).gates = t.gates := setProbe_frame.part .gates rfl

theorem openTo_frame : Same 372250432 t (openTo a0 a1 a2 t) := by simp
@[simp] theorem openTo_pending : (openTo a0 a1 a2 t).pending = t.pending := openTo_frame.part .pending rfl
@[simp] theorem openTo_clock : (openTo a0 a1 a2 t).clock = t.clock := openTo_frame.part .clock rfl
@[simp] theorem openTo_freeCtr : (openTo a0 a1 a2 t).freeCtr = t.freeCtr := openTo_frame.part .freeCtr rfl
@[simp] theorem openTo_pw : (openTo a0 a1 a2 t).pw = t.pw := openTo_frame.part .pw rfl
@[simp] theorem openTo_pf : (openTo a0 a1 a2 t).pf = t.pf := openTo_frame.part .pf rfl
@[simp] theorem openTo_sys : (openTo a0 a1 a2 t).sys = t.sys := openTo_frame.part .sys rfl
@[simp] theorem openTo_inq : (openTo a0 a1 a2 t).inq = t.inq := openTo_frame.part .inq rfl
@[simp] theorem openTo_grp : (openTo a0 a1 a2 t).grp = t.grp := openTo_frame.part .grp rfl
@[simp] theorem openTo_tin : (openTo a0 a1 a2 t).tin = t.tin := openTo_frame.part .tin rfl
@[simp] theorem openTo_mb : (openTo a0 a1 a2 t).mb = t.mb := openTo_frame.part .mb rfl
@[simp] theorem openTo_cnv : (openTo a0 a1 a2 t).cnv = t.cnv := openTo_frame.part .cnv rfl
@[simp] theorem openTo_acc : (openTo a0 a1 a2 t).acc = t.acc := openTo_frame.part .acc rfl
@[simp] theorem openTo_xam : (openTo a0 a1 a2 t).xam = t.xam := openTo_frame.part .xam rfl
@[simp] theorem openTo_met : (openTo a0 a1 a2 t).met = t.met := openTo_frame.part .met rfl
@[simp] theorem openTo_tmr : (openTo a0 a1 a2 t).tmr = t.tmr := openTo_frame.part .tmr rfl
@[simp] theorem openTo_shb : (openTo a0 a1 a2 t).shb = t.shb := openTo_frame.part .shb rfl
@[simp] theorem openTo_fl : (openTo a0 a1 a2 t).fl = t.fl := openTo_frame.part .fl rfl
@[simp] theorem openTo_nvs : (openTo a0 a1 a2 t).nvs = t.nvs := openTo_frame.part .nvs rfl
@[simp] theorem openTo_pwr : (openTo a0 a1 a2 t).pwr = t.pwr := openTo_frame.part .pwr rfl
@[simp] theorem openTo_fuses : (openTo a0 a1 a2 t).svc.fuses = t.svc.fuses := openTo_frame.part .fuses rfl
@[simp] theorem openTo_images : (openTo a0 a1 a2 t).svc.images = t.svc.images := openTo_frame.part .images rfl

theorem closeCh_frame : Same 268469248 t (closeCh a0 a1 t) := by simp
@[simp] theorem closeCh_pending : (closeCh a0 a1 t).pending = t.pending := closeCh_frame.part .pending rfl
@[simp] theorem closeCh_clock : (closeCh a0 a1 t).clock = t.clock := closeCh_frame.part .clock rfl
@[simp] theorem closeCh_freeCtr : (closeCh a0 a1 t).freeCtr = t.freeCtr := closeCh_frame.part .freeCtr rfl
@[simp] theorem closeCh_pw : (closeCh a0 a1 t).pw = t.pw := closeCh_frame.part .pw rfl
@[simp] theorem closeCh_pf : (closeCh a0 a1 t).pf = t.pf := closeCh_frame.part .pf rfl
@[simp] theorem closeCh_sys : (closeCh a0 a1 t).sys = t.sys := closeCh_frame.part .sys rfl
@[simp] theorem closeCh_link : (closeCh a0 a1 t).link = t.link := closeCh_frame.part .link rfl
@[simp] theorem closeCh_inq : (closeCh a0 a1 t).inq = t.inq := closeCh_frame.part .inq rfl
@[simp] theorem closeCh_outq : (closeCh a0 a1 t).outq = t.outq := closeCh_frame.part .outq rfl
@[simp] theorem closeCh_deolo : (closeCh a0 a1 t).deolo = t.deolo := closeCh_frame.part .deolo rfl
@[simp] theorem closeCh_grp : (closeCh a0 a1 t).grp = t.grp := closeCh_frame.part .grp rfl
@[simp] theorem closeCh_bus : (closeCh a0 a1 t).bus = t.bus := closeCh_frame.part .bus rfl
@[simp] theorem closeCh_tin : (closeCh a0 a1 t).tin = t.tin := closeCh_frame.part .tin rfl
@[simp] theorem closeCh_mb : (closeCh a0 a1 t).mb = t.mb := closeCh_frame.part .mb rfl
@[simp] theorem closeCh_acc : (closeCh a0 a1 t).acc = t.acc := closeCh_frame.part .acc rfl
@[simp] theorem closeCh_xam : (closeCh a0 a1 t).xam = t.xam := closeCh_frame.part .xam rfl
@[simp] theorem closeCh_met : (closeCh a0 a1 t).met = t.met := closeCh_frame.part .met rfl
@[simp] theorem closeCh_tmr : (closeCh a0 a1 t).tmr = t.tmr := closeCh_frame.part .tmr rfl
@[simp] theorem closeCh_adm : (closeCh a0 a1 t).adm = t.adm := closeCh_frame.part .adm rfl
@[simp] theorem closeCh_bat : (closeCh a0 a1 t).bat = t.bat := closeCh_frame.part .bat rfl
@[simp] theorem closeCh_shb : (closeCh a0 a1 t).shb = t.shb := closeCh_frame.part .shb rfl
@[simp] theorem closeCh_fl : (closeCh a0 a1 t).fl = t.fl := closeCh_frame.part .fl rfl
@[simp] theorem closeCh_nvs : (closeCh a0 a1 t).nvs = t.nvs := closeCh_frame.part .nvs rfl
@[simp] theorem closeCh_log : (closeCh a0 a1 t).log = t.log := closeCh_frame.part .log rfl
@[simp] theorem closeCh_svc : (closeCh a0 a1 t).svc = t.svc := closeCh_frame.part .svc rfl
@[simp] theorem closeCh_pwr : (closeCh a0 a1 t).pwr = t.pwr := closeCh_frame.part .pwr rfl

theorem rejudge_frame : Same 338696000 t (rejudge t) := by simp
@[simp] theorem rejudge_pending : (rejudge t).pending = t.pending := rejudge_frame.part .pending rfl
@[simp] theorem rejudge_clock : (rejudge t).clock = t.clock := rejudge_frame.part .clock rfl
@[simp] theorem rejudge_freeCtr : (rejudge t).freeCtr = t.freeCtr := rejudge_frame.part .freeCtr rfl
@[simp] theorem rejudge_pw : (rejudge t).pw = t.pw := rejudge_frame.part .pw rfl
@[simp] theorem rejudge_pf : (rejudge t).pf = t.pf := rejudge_frame.part .pf rfl
@[simp] theorem rejudge_sys : (rejudge t).sys = t.sys := rejudge_frame.part .sys rfl
@[simp] theorem rejudge_inq : (rejudge t).inq = t.inq := rejudge_frame.part .inq rfl
@[simp] theorem rejudge_grp : (rejudge t).grp = t.grp := rejudge_frame.part .grp rfl
@[simp] theorem rejudge_tin : (rejudge t).tin = t.tin := rejudge_frame.part .tin rfl
@[simp] theorem rejudge_mb : (rejudge t).mb = t.mb := rejudge_frame.part .mb rfl
@[simp] theorem rejudge_cnv : (rejudge t).cnv = t.cnv := rejudge_frame.part .cnv rfl
@[simp] theorem rejudge_acc : (rejudge t).acc = t.acc := rejudge_frame.part .acc rfl
@[simp] theorem rejudge_xam : (rejudge t).xam = t.xam := rejudge_frame.part .xam rfl
@[simp] theorem rejudge_met : (rejudge t).met = t.met := rejudge_frame.part .met rfl
@[simp] theorem rejudge_tmr : (rejudge t).tmr = t.tmr := rejudge_frame.part .tmr rfl
@[simp] theorem rejudge_shb : (rejudge t).shb = t.shb := rejudge_frame.part .shb rfl
@[simp] theorem rejudge_fl : (rejudge t).fl = t.fl := rejudge_frame.part .fl rfl
@[simp] theorem rejudge_nvs : (rejudge t).nvs = t.nvs := rejudge_frame.part .nvs rfl
@[simp] theorem rejudge_log : (rejudge t).log = t.log := rejudge_frame.part .log rfl
@[simp] theorem rejudge_pwr : (rejudge t).pwr = t.pwr := rejudge_frame.part .pwr rfl
@[simp] theorem rejudge_fuses : (rejudge t).svc.fuses = t.svc.fuses := rejudge_frame.part .fuses rfl
@[simp] theorem rejudge_images : (rejudge t).svc.images = t.svc.images := rejudge_frame.part .images rfl

theorem cancelWait_frame : Same 338696000 t (cancelWait a0 a1 t) := by simp
@[simp] theorem cancelWait_pending : (cancelWait a0 a1 t).pending = t.pending := cancelWait_frame.part .pending rfl
@[simp] theorem cancelWait_clock : (cancelWait a0 a1 t).clock = t.clock := cancelWait_frame.part .clock rfl
@[simp] theorem cancelWait_freeCtr : (cancelWait a0 a1 t).freeCtr = t.freeCtr := cancelWait_frame.part .freeCtr rfl
@[simp] theorem cancelWait_pw : (cancelWait a0 a1 t).pw = t.pw := cancelWait_frame.part .pw rfl
@[simp] theorem cancelWait_pf : (cancelWait a0 a1 t).pf = t.pf := cancelWait_frame.part .pf rfl
@[simp] theorem cancelWait_sys : (cancelWait a0 a1 t).sys = t.sys := cancelWait_frame.part .sys rfl
@[simp] theorem cancelWait_inq : (cancelWait a0 a1 t).inq = t.inq := cancelWait_frame.part .inq rfl
@[simp] theorem cancelWait_grp : (cancelWait a0 a1 t).grp = t.grp := cancelWait_frame.part .grp rfl
@[simp] theorem cancelWait_tin : (cancelWait a0 a1 t).tin = t.tin := cancelWait_frame.part .tin rfl
@[simp] theorem cancelWait_mb : (cancelWait a0 a1 t).mb = t.mb := cancelWait_frame.part .mb rfl
@[simp] theorem cancelWait_cnv : (cancelWait a0 a1 t).cnv = t.cnv := cancelWait_frame.part .cnv rfl
@[simp] theorem cancelWait_acc : (cancelWait a0 a1 t).acc = t.acc := cancelWait_frame.part .acc rfl
@[simp] theorem cancelWait_xam : (cancelWait a0 a1 t).xam = t.xam := cancelWait_frame.part .xam rfl
@[simp] theorem cancelWait_met : (cancelWait a0 a1 t).met = t.met := cancelWait_frame.part .met rfl
@[simp] theorem cancelWait_tmr : (cancelWait a0 a1 t).tmr = t.tmr := cancelWait_frame.part .tmr rfl
@[simp] theorem cancelWait_shb : (cancelWait a0 a1 t).shb = t.shb := cancelWait_frame.part .shb rfl
@[simp] theorem cancelWait_fl : (cancelWait a0 a1 t).fl = t.fl := cancelWait_frame.part .fl rfl
@[simp] theorem cancelWait_nvs : (cancelWait a0 a1 t).nvs = t.nvs := cancelWait_frame.part .nvs rfl
@[simp] theorem cancelWait_log : (cancelWait a0 a1 t).log = t.log := cancelWait_frame.part .log rfl
@[simp] theorem cancelWait_pwr : (cancelWait a0 a1 t).pwr = t.pwr := cancelWait_frame.part .pwr rfl
@[simp] theorem cancelWait_fuses : (cancelWait a0 a1 t).svc.fuses = t.svc.fuses := cancelWait_frame.part .fuses rfl
@[simp] theorem cancelWait_images : (cancelWait a0 a1 t).svc.images = t.svc.images := cancelWait_frame.part .images rfl

theorem withdrawOp_frame : Same 68163392 t (withdrawOp a0 a1 t) := by simp
@[simp] theorem withdrawOp_pending : (withdrawOp a0 a1 t).pending = t.pending := withdrawOp_frame.part .pending rfl
@[simp] theorem withdrawOp_clock : (withdrawOp a0 a1 t).clock = t.clock := withdrawOp_frame.part .clock rfl
@[simp] theorem withdrawOp_freeCtr : (withdrawOp a0 a1 t).freeCtr = t.freeCtr := withdrawOp_frame.part .freeCtr rfl
@[simp] theorem withdrawOp_pw : (withdrawOp a0 a1 t).pw = t.pw := withdrawOp_frame.part .pw rfl
@[simp] theorem withdrawOp_pf : (withdrawOp a0 a1 t).pf = t.pf := withdrawOp_frame.part .pf rfl
@[simp] theorem withdrawOp_sys : (withdrawOp a0 a1 t).sys = t.sys := withdrawOp_frame.part .sys rfl
@[simp] theorem withdrawOp_inq : (withdrawOp a0 a1 t).inq = t.inq := withdrawOp_frame.part .inq rfl
@[simp] theorem withdrawOp_grp : (withdrawOp a0 a1 t).grp = t.grp := withdrawOp_frame.part .grp rfl
@[simp] theorem withdrawOp_tin : (withdrawOp a0 a1 t).tin = t.tin := withdrawOp_frame.part .tin rfl
@[simp] theorem withdrawOp_mb : (withdrawOp a0 a1 t).mb = t.mb := withdrawOp_frame.part .mb rfl
@[simp] theorem withdrawOp_cnv : (withdrawOp a0 a1 t).cnv = t.cnv := withdrawOp_frame.part .cnv rfl
@[simp] theorem withdrawOp_acc : (withdrawOp a0 a1 t).acc = t.acc := withdrawOp_frame.part .acc rfl
@[simp] theorem withdrawOp_xam : (withdrawOp a0 a1 t).xam = t.xam := withdrawOp_frame.part .xam rfl
@[simp] theorem withdrawOp_met : (withdrawOp a0 a1 t).met = t.met := withdrawOp_frame.part .met rfl
@[simp] theorem withdrawOp_tmr : (withdrawOp a0 a1 t).tmr = t.tmr := withdrawOp_frame.part .tmr rfl
@[simp] theorem withdrawOp_bat : (withdrawOp a0 a1 t).bat = t.bat := withdrawOp_frame.part .bat rfl
@[simp] theorem withdrawOp_shb : (withdrawOp a0 a1 t).shb = t.shb := withdrawOp_frame.part .shb rfl
@[simp] theorem withdrawOp_fl : (withdrawOp a0 a1 t).fl = t.fl := withdrawOp_frame.part .fl rfl
@[simp] theorem withdrawOp_nvs : (withdrawOp a0 a1 t).nvs = t.nvs := withdrawOp_frame.part .nvs rfl
@[simp] theorem withdrawOp_log : (withdrawOp a0 a1 t).log = t.log := withdrawOp_frame.part .log rfl
@[simp] theorem withdrawOp_pwr : (withdrawOp a0 a1 t).pwr = t.pwr := withdrawOp_frame.part .pwr rfl
@[simp] theorem withdrawOp_gates : (withdrawOp a0 a1 t).gates = t.gates := withdrawOp_frame.part .gates rfl
@[simp] theorem withdrawOp_fuses : (withdrawOp a0 a1 t).svc.fuses = t.svc.fuses := withdrawOp_frame.part .fuses rfl
@[simp] theorem withdrawOp_images : (withdrawOp a0 a1 t).svc.images = t.svc.images := withdrawOp_frame.part .images rfl

theorem fileOp_frame : Same 372250432 t (fileOp a0 t) := by simp
@[simp] theorem fileOp_pending : (fileOp a0 t).pending = t.pending := fileOp_frame.part .pending rfl
@[simp] theorem fileOp_clock : (fileOp a0 t).clock = t.clock := fileOp_frame.part .clock rfl
@[simp] theorem fileOp_freeCtr : (fileOp a0 t).freeCtr = t.freeCtr := fileOp_frame.part .freeCtr rfl
@[simp] theorem fileOp_pw : (fileOp a0 t).pw = t.pw := fileOp_frame.part .pw rfl
@[simp] theorem fileOp_pf : (fileOp a0 t).pf = t.pf := fileOp_frame.part .pf rfl
@[simp] theorem fileOp_sys : (fileOp a0 t).sys = t.sys := fileOp_frame.part .sys rfl
@[simp] theorem fileOp_inq : (fileOp a0 t).inq = t.inq := fileOp_frame.part .inq rfl
@[simp] theorem fileOp_grp : (fileOp a0 t).grp = t.grp := fileOp_frame.part .grp rfl
@[simp] theorem fileOp_tin : (fileOp a0 t).tin = t.tin := fileOp_frame.part .tin rfl
@[simp] theorem fileOp_mb : (fileOp a0 t).mb = t.mb := fileOp_frame.part .mb rfl
@[simp] theorem fileOp_cnv : (fileOp a0 t).cnv = t.cnv := fileOp_frame.part .cnv rfl
@[simp] theorem fileOp_acc : (fileOp a0 t).acc = t.acc := fileOp_frame.part .acc rfl
@[simp] theorem fileOp_xam : (fileOp a0 t).xam = t.xam := fileOp_frame.part .xam rfl
@[simp] theorem fileOp_met : (fileOp a0 t).met = t.met := fileOp_frame.part .met rfl
@[simp] theorem fileOp_tmr : (fileOp a0 t).tmr = t.tmr := fileOp_frame.part .tmr rfl
@[simp] theorem fileOp_shb : (fileOp a0 t).shb = t.shb := fileOp_frame.part .shb rfl
@[simp] theorem fileOp_fl : (fileOp a0 t).fl = t.fl := fileOp_frame.part .fl rfl
@[simp] theorem fileOp_nvs : (fileOp a0 t).nvs = t.nvs := fileOp_frame.part .nvs rfl
@[simp] theorem fileOp_pwr : (fileOp a0 t).pwr = t.pwr := fileOp_frame.part .pwr rfl
@[simp] theorem fileOp_fuses : (fileOp a0 t).svc.fuses = t.svc.fuses := fileOp_frame.part .fuses rfl
@[simp] theorem fileOp_images : (fileOp a0 t).svc.images = t.svc.images := fileOp_frame.part .images rfl

theorem refuseOp_frame : Same 101717824 t (refuseOp a0 a1 t) := by simp
@[simp] theorem refuseOp_pending : (refuseOp a0 a1 t).pending = t.pending := refuseOp_frame.part .pending rfl
@[simp] theorem refuseOp_clock : (refuseOp a0 a1 t).clock = t.clock := refuseOp_frame.part .clock rfl
@[simp] theorem refuseOp_freeCtr : (refuseOp a0 a1 t).freeCtr = t.freeCtr := refuseOp_frame.part .freeCtr rfl
@[simp] theorem refuseOp_pw : (refuseOp a0 a1 t).pw = t.pw := refuseOp_frame.part .pw rfl
@[simp] theorem refuseOp_pf : (refuseOp a0 a1 t).pf = t.pf := refuseOp_frame.part .pf rfl
@[simp] theorem refuseOp_sys : (refuseOp a0 a1 t).sys = t.sys := refuseOp_frame.part .sys rfl
@[simp] theorem refuseOp_inq : (refuseOp a0 a1 t).inq = t.inq := refuseOp_frame.part .inq rfl
@[simp] theorem refuseOp_grp : (refuseOp a0 a1 t).grp = t.grp := refuseOp_frame.part .grp rfl
@[simp] theorem refuseOp_tin : (refuseOp a0 a1 t).tin = t.tin := refuseOp_frame.part .tin rfl
@[simp] theorem refuseOp_mb : (refuseOp a0 a1 t).mb = t.mb := refuseOp_frame.part .mb rfl
@[simp] theorem refuseOp_cnv : (refuseOp a0 a1 t).cnv = t.cnv := refuseOp_frame.part .cnv rfl
@[simp] theorem refuseOp_acc : (refuseOp a0 a1 t).acc = t.acc := refuseOp_frame.part .acc rfl
@[simp] theorem refuseOp_xam : (refuseOp a0 a1 t).xam = t.xam := refuseOp_frame.part .xam rfl
@[simp] theorem refuseOp_met : (refuseOp a0 a1 t).met = t.met := refuseOp_frame.part .met rfl
@[simp] theorem refuseOp_tmr : (refuseOp a0 a1 t).tmr = t.tmr := refuseOp_frame.part .tmr rfl
@[simp] theorem refuseOp_bat : (refuseOp a0 a1 t).bat = t.bat := refuseOp_frame.part .bat rfl
@[simp] theorem refuseOp_shb : (refuseOp a0 a1 t).shb = t.shb := refuseOp_frame.part .shb rfl
@[simp] theorem refuseOp_fl : (refuseOp a0 a1 t).fl = t.fl := refuseOp_frame.part .fl rfl
@[simp] theorem refuseOp_nvs : (refuseOp a0 a1 t).nvs = t.nvs := refuseOp_frame.part .nvs rfl
@[simp] theorem refuseOp_pwr : (refuseOp a0 a1 t).pwr = t.pwr := refuseOp_frame.part .pwr rfl
@[simp] theorem refuseOp_gates : (refuseOp a0 a1 t).gates = t.gates := refuseOp_frame.part .gates rfl
@[simp] theorem refuseOp_fuses : (refuseOp a0 a1 t).svc.fuses = t.svc.fuses := refuseOp_frame.part .fuses rfl
@[simp] theorem refuseOp_images : (refuseOp a0 a1 t).svc.images = t.svc.images := refuseOp_frame.part .images rfl

theorem driveOutputs_frame : Same 8388608 t (driveOutputs t) := by simp
@[simp] theorem driveOutputs_pending : (driveOutputs t).pending = t.pending := driveOutputs_frame.part .pending rfl
@[simp] theorem driveOutputs_clock : (driveOutputs t).clock = t.clock := driveOutputs_frame.part .clock rfl
@[simp] theorem driveOutputs_freeCtr : (driveOutputs t).freeCtr = t.freeCtr := driveOutputs_frame.part .freeCtr rfl
@[simp] theorem driveOutputs_pw : (driveOutputs t).pw = t.pw := driveOutputs_frame.part .pw rfl
@[simp] theorem driveOutputs_pf : (driveOutputs t).pf = t.pf := driveOutputs_frame.part .pf rfl
@[simp] theorem driveOutputs_sys : (driveOutputs t).sys = t.sys := driveOutputs_frame.part .sys rfl
@[simp] theorem driveOutputs_link : (driveOutputs t).link = t.link := driveOutputs_frame.part .link rfl
@[simp] theorem driveOutputs_inq : (driveOutputs t).inq = t.inq := driveOutputs_frame.part .inq rfl
@[simp] theorem driveOutputs_outq : (driveOutputs t).outq = t.outq := driveOutputs_frame.part .outq rfl
@[simp] theorem driveOutputs_deolo : (driveOutputs t).deolo = t.deolo := driveOutputs_frame.part .deolo rfl
@[simp] theorem driveOutputs_ch : (driveOutputs t).ch = t.ch := driveOutputs_frame.part .ch rfl
@[simp] theorem driveOutputs_grp : (driveOutputs t).grp = t.grp := driveOutputs_frame.part .grp rfl
@[simp] theorem driveOutputs_bus : (driveOutputs t).bus = t.bus := driveOutputs_frame.part .bus rfl
@[simp] theorem driveOutputs_tin : (driveOutputs t).tin = t.tin := driveOutputs_frame.part .tin rfl
@[simp] theorem driveOutputs_mb : (driveOutputs t).mb = t.mb := driveOutputs_frame.part .mb rfl
@[simp] theorem driveOutputs_cnv : (driveOutputs t).cnv = t.cnv := driveOutputs_frame.part .cnv rfl
@[simp] theorem driveOutputs_acc : (driveOutputs t).acc = t.acc := driveOutputs_frame.part .acc rfl
@[simp] theorem driveOutputs_xam : (driveOutputs t).xam = t.xam := driveOutputs_frame.part .xam rfl
@[simp] theorem driveOutputs_met : (driveOutputs t).met = t.met := driveOutputs_frame.part .met rfl
@[simp] theorem driveOutputs_tmr : (driveOutputs t).tmr = t.tmr := driveOutputs_frame.part .tmr rfl
@[simp] theorem driveOutputs_adm : (driveOutputs t).adm = t.adm := driveOutputs_frame.part .adm rfl
@[simp] theorem driveOutputs_bat : (driveOutputs t).bat = t.bat := driveOutputs_frame.part .bat rfl
@[simp] theorem driveOutputs_shb : (driveOutputs t).shb = t.shb := driveOutputs_frame.part .shb rfl
@[simp] theorem driveOutputs_nvs : (driveOutputs t).nvs = t.nvs := driveOutputs_frame.part .nvs rfl
@[simp] theorem driveOutputs_log : (driveOutputs t).log = t.log := driveOutputs_frame.part .log rfl
@[simp] theorem driveOutputs_svc : (driveOutputs t).svc = t.svc := driveOutputs_frame.part .svc rfl
@[simp] theorem driveOutputs_pwr : (driveOutputs t).pwr = t.pwr := driveOutputs_frame.part .pwr rfl

theorem sendAnnounce_frame : Same 104858432 t (sendAnnounce t) := by simp
@[simp] theorem sendAnnounce_pending : (sendAnnounce t).pending = t.pending := sendAnnounce_frame.part .pending rfl
@[simp] theorem sendAnnounce_clock : (sendAnnounce t).clock = t.clock := sendAnnounce_frame.part .clock rfl
@[simp] theorem sendAnnounce_freeCtr : (sendAnnounce t).freeCtr = t.freeCtr := sendAnnounce_frame.part .freeCtr rfl
@[simp] theorem sendAnnounce_pw : (sendAnnounce t).pw = t.pw := sendAnnounce_frame.part .pw rfl
@[simp] theorem sendAnnounce_pf : (sendAnnounce t).pf = t.pf := sendAnnounce_frame.part .pf rfl
@[simp] theorem sendAnnounce_sys : (sendAnnounce t).sys = t.sys := sendAnnounce_frame.part .sys rfl
@[simp] theorem sendAnnounce_inq : (sendAnnounce t).inq = t.inq := sendAnnounce_frame.part .inq rfl
@[simp] theorem sendAnnounce_ch : (sendAnnounce t).ch = t.ch := sendAnnounce_frame.part .ch rfl
@[simp] theorem sendAnnounce_grp : (sendAnnounce t).grp = t.grp := sendAnnounce_frame.part .grp rfl
@[simp] theorem sendAnnounce_bus : (sendAnnounce t).bus = t.bus := sendAnnounce_frame.part .bus rfl
@[simp] theorem sendAnnounce_tin : (sendAnnounce t).tin = t.tin := sendAnnounce_frame.part .tin rfl
@[simp] theorem sendAnnounce_mb : (sendAnnounce t).mb = t.mb := sendAnnounce_frame.part .mb rfl
@[simp] theorem sendAnnounce_cnv : (sendAnnounce t).cnv = t.cnv := sendAnnounce_frame.part .cnv rfl
@[simp] theorem sendAnnounce_acc : (sendAnnounce t).acc = t.acc := sendAnnounce_frame.part .acc rfl
@[simp] theorem sendAnnounce_xam : (sendAnnounce t).xam = t.xam := sendAnnounce_frame.part .xam rfl
@[simp] theorem sendAnnounce_met : (sendAnnounce t).met = t.met := sendAnnounce_frame.part .met rfl
@[simp] theorem sendAnnounce_tmr : (sendAnnounce t).tmr = t.tmr := sendAnnounce_frame.part .tmr rfl
@[simp] theorem sendAnnounce_adm : (sendAnnounce t).adm = t.adm := sendAnnounce_frame.part .adm rfl
@[simp] theorem sendAnnounce_bat : (sendAnnounce t).bat = t.bat := sendAnnounce_frame.part .bat rfl
@[simp] theorem sendAnnounce_fl : (sendAnnounce t).fl = t.fl := sendAnnounce_frame.part .fl rfl
@[simp] theorem sendAnnounce_nvs : (sendAnnounce t).nvs = t.nvs := sendAnnounce_frame.part .nvs rfl
@[simp] theorem sendAnnounce_pwr : (sendAnnounce t).pwr = t.pwr := sendAnnounce_frame.part .pwr rfl
@[simp] theorem sendAnnounce_fuses : (sendAnnounce t).svc.fuses = t.svc.fuses := sendAnnounce_frame.part .fuses rfl
@[simp] theorem sendAnnounce_images : (sendAnnounce t).svc.images = t.svc.images := sendAnnounce_frame.part .images rfl

theorem settleLines_frame : Same 109052736 t (settleLines t) := by simp
@[simp] theorem settleLines_pending : (settleLines t).pending = t.pending := settleLines_frame.part .pending rfl
@[simp] theorem settleLines_clock : (settleLines t).clock = t.clock := settleLines_frame.part .clock rfl
@[simp] theorem settleLines_freeCtr : (settleLines t).freeCtr = t.freeCtr := settleLines_frame.part .freeCtr rfl
@[simp] theorem settleLines_pw : (settleLines t).pw = t.pw := settleLines_frame.part .pw rfl
@[simp] theorem settleLines_pf : (settleLines t).pf = t.pf := settleLines_frame.part .pf rfl
@[simp] theorem settleLines_sys : (settleLines t).sys = t.sys := settleLines_frame.part .sys rfl
@[simp] theorem settleLines_inq : (settleLines t).inq = t.inq := settleLines_frame.part .inq rfl
@[simp] theorem settleLines_ch : (settleLines t).ch = t.ch := settleLines_frame.part .ch rfl
@[simp] theorem settleLines_grp : (settleLines t).grp = t.grp := settleLines_frame.part .grp rfl
@[simp] theorem settleLines_bus : (settleLines t).bus = t.bus := settleLines_frame.part .bus rfl
@[simp] theorem settleLines_tin : (settleLines t).tin = t.tin := settleLines_frame.part .tin rfl
@[simp] theorem settleLines_mb : (settleLines t).mb = t.mb := settleLines_frame.part .mb rfl
@[simp] theorem settleLines_cnv : (settleLines t).cnv = t.cnv := settleLines_frame.part .cnv rfl
@[simp] theorem settleLines_acc : (settleLines t).acc = t.acc := settleLines_frame.part .acc rfl
@[simp] theorem settleLines_xam : (settleLines t).xam = t.xam := settleLines_frame.part .xam rfl
@[simp] theorem settleLines_met : (settleLines t).met = t.met := settleLines_frame.part .met rfl
@[simp] theorem settleLines_tmr : (settleLines t).tmr = t.tmr := settleLines_frame.part .tmr rfl
@[simp] theorem settleLines_adm : (settleLines t).adm = t.adm := settleLines_frame.part .adm rfl
@[simp] theorem settleLines_bat : (settleLines t).bat = t.bat := settleLines_frame.part .bat rfl
@[simp] theorem settleLines_shb : (settleLines t).shb = t.shb := settleLines_frame.part .shb rfl
@[simp] theorem settleLines_nvs : (settleLines t).nvs = t.nvs := settleLines_frame.part .nvs rfl
@[simp] theorem settleLines_pwr : (settleLines t).pwr = t.pwr := settleLines_frame.part .pwr rfl
@[simp] theorem settleLines_fuses : (settleLines t).svc.fuses = t.svc.fuses := settleLines_frame.part .fuses rfl
@[simp] theorem settleLines_images : (settleLines t).svc.images = t.svc.images := settleLines_frame.part .images rfl

theorem sendFrame_frame : Same 4194304 t (sendFrame a0 a1 a2 a3 a4 t) := by simp
@[simp] theorem sendFrame_pending : (sendFrame a0 a1 a2 a3 a4 t).pending = t.pending := sendFrame_frame.part .pending rfl
@[simp] theorem sendFrame_clock : (sendFrame a0 a1 a2 a3 a4 t).clock = t.clock := sendFrame_frame.part .clock rfl
@[simp] theorem sendFrame_freeCtr : (sendFrame a0 a1 a2 a3 a4 t).freeCtr = t.freeCtr := sendFrame_frame.part .freeCtr rfl
@[simp] theorem sendFrame_pw : (sendFrame a0 a1 a2 a3 a4 t).pw = t.pw := sendFrame_frame.part .pw rfl
@[simp] theorem sendFrame_pf : (sendFrame a0 a1 a2 a3 a4 t).pf = t.pf := sendFrame_frame.part .pf rfl
@[simp] theorem sendFrame_sys : (sendFrame a0 a1 a2 a3 a4 t).sys = t.sys := sendFrame_frame.part .sys rfl
@[simp] theorem sendFrame_link : (sendFrame a0 a1 a2 a3 a4 t).link = t.link := sendFrame_frame.part .link rfl
@[simp] theorem sendFrame_inq : (sendFrame a0 a1 a2 a3 a4 t).inq = t.inq := sendFrame_frame.part .inq rfl
@[simp] theorem sendFrame_outq : (sendFrame a0 a1 a2 a3 a4 t).outq = t.outq := sendFrame_frame.part .outq rfl
@[simp] theorem sendFrame_deolo : (sendFrame a0 a1 a2 a3 a4 t).deolo = t.deolo := sendFrame_frame.part .deolo rfl
@[simp] theorem sendFrame_ch : (sendFrame a0 a1 a2 a3 a4 t).ch = t.ch := sendFrame_frame.part .ch rfl
@[simp] theorem sendFrame_grp : (sendFrame a0 a1 a2 a3 a4 t).grp = t.grp := sendFrame_frame.part .grp rfl
@[simp] theorem sendFrame_bus : (sendFrame a0 a1 a2 a3 a4 t).bus = t.bus := sendFrame_frame.part .bus rfl
@[simp] theorem sendFrame_tin : (sendFrame a0 a1 a2 a3 a4 t).tin = t.tin := sendFrame_frame.part .tin rfl
@[simp] theorem sendFrame_mb : (sendFrame a0 a1 a2 a3 a4 t).mb = t.mb := sendFrame_frame.part .mb rfl
@[simp] theorem sendFrame_cnv : (sendFrame a0 a1 a2 a3 a4 t).cnv = t.cnv := sendFrame_frame.part .cnv rfl
@[simp] theorem sendFrame_acc : (sendFrame a0 a1 a2 a3 a4 t).acc = t.acc := sendFrame_frame.part .acc rfl
@[simp] theorem sendFrame_xam : (sendFrame a0 a1 a2 a3 a4 t).xam = t.xam := sendFrame_frame.part .xam rfl
@[simp] theorem sendFrame_met : (sendFrame a0 a1 a2 a3 a4 t).met = t.met := sendFrame_frame.part .met rfl
@[simp] theorem sendFrame_tmr : (sendFrame a0 a1 a2 a3 a4 t).tmr = t.tmr := sendFrame_frame.part .tmr rfl
@[simp] theorem sendFrame_adm : (sendFrame a0 a1 a2 a3 a4 t).adm = t.adm := sendFrame_frame.part .adm rfl
@[simp] theorem sendFrame_bat : (sendFrame a0 a1 a2 a3 a4 t).bat = t.bat := sendFrame_frame.part .bat rfl
@[simp] theorem sendFrame_fl : (sendFrame a0 a1 a2 a3 a4 t).fl = t.fl := sendFrame_frame.part .fl rfl
@[simp] theorem sendFrame_nvs : (sendFrame a0 a1 a2 a3 a4 t).nvs = t.nvs := sendFrame_frame.part .nvs rfl
@[simp] theorem sendFrame_log : (sendFrame a0 a1 a2 a3 a4 t).log = t.log := sendFrame_frame.part .log rfl
@[simp] theorem sendFrame_svc : (sendFrame a0 a1 a2 a3 a4 t).svc = t.svc := sendFrame_frame.part .svc rfl
@[simp] theorem sendFrame_pwr : (sendFrame a0 a1 a2 a3 a4 t).pwr = t.pwr := sendFrame_frame.part .pwr rfl

theorem enterMode_frame : Same 2549217144 t (enterMode a0 a1 t) := by simp
@[simp] theorem enterMode_pending : (enterMode a0 a1 t).pending = t.pending := enterMode_frame.part .pending rfl
@[simp] theorem enterMode_clock : (enterMode a0 a1 t).clock = t.clock := enterMode_frame.part .clock rfl
@[simp] theorem enterMode_freeCtr : (enterMode a0 a1 t).freeCtr = t.freeCtr := enterMode_frame.part .freeCtr rfl
@[simp] theorem enterMode_inq : (enterMode a0 a1 t).inq = t.inq := enterMode_frame.part .inq rfl
@[simp] theorem enterMode_grp : (enterMode a0 a1 t).grp = t.grp := enterMode_frame.part .grp rfl
@[simp] theorem enterMode_xam : (enterMode a0 a1 t).xam = t.xam := enterMode_frame.part .xam rfl
@[simp] theorem enterMode_met : (enterMode a0 a1 t).met = t.met := enterMode_frame.part .met rfl
@[simp] theorem enterMode_tmr : (enterMode a0 a1 t).tmr = t.tmr := enterMode_frame.part .tmr rfl
@[simp] theorem enterMode_pwr : (enterMode a0 a1 t).pwr = t.pwr := enterMode_frame.part .pwr rfl
@[simp] theorem enterMode_fuses : (enterMode a0 a1 t).svc.fuses = t.svc.fuses := enterMode_frame.part .fuses rfl
@[simp] theorem enterMode_images : (enterMode a0 a1 t).svc.images = t.svc.images := enterMode_frame.part .images rfl
@[simp] theorem enterMode_token : (enterMode a0 a1 t).sys.active = t.sys.active := enterMode_frame.part .token rfl

theorem changeMode_frame : Same 2549217144 t (changeMode a0 a1 t) := by simp
@[simp] theorem changeMode_pending : (changeMode a0 a1 t).pending = t.pending := changeMode_frame.part .pending rfl
@[simp] theorem changeMode_clock : (changeMode a0 a1 t).clock = t.clock := changeMode_frame.part .clock rfl
@[simp] theorem changeMode_freeCtr : (changeMode a0 a1 t).freeCtr = t.freeCtr := changeMode_frame.part .freeCtr rfl
@[simp] theorem changeMode_inq : (changeMode a0 a1 t).inq = t.inq := changeMode_frame.part .inq rfl
@[simp] theorem changeMode_grp : (changeMode a0 a1 t).grp = t.grp := changeMode_frame.part .grp rfl
@[simp] theorem changeMode_xam : (changeMode a0 a1 t).xam = t.xam := changeMode_frame.part .xam rfl
@[simp] theorem changeMode_met : (changeMode a0 a1 t).met = t.met := changeMode_frame.part .met rfl
@[simp] theorem changeMode_tmr : (changeMode a0 a1 t).tmr = t.tmr := changeMode_frame.part .tmr rfl
@[simp] theorem changeMode_pwr : (changeMode a0 a1 t).pwr = t.pwr := changeMode_frame.part .pwr rfl
@[simp] theorem changeMode_fuses : (changeMode a0 a1 t).svc.fuses = t.svc.fuses := changeMode_frame.part .fuses rfl
@[simp] theorem changeMode_images : (changeMode a0 a1 t).svc.images = t.svc.images := changeMode_frame.part .images rfl
@[simp] theorem changeMode_token : (changeMode a0 a1 t).sys.active = t.sys.active := changeMode_frame.part .token rfl

theorem endTest_frame : Same 393221952 t (endTest a0 a1 t) := by simp
@[simp] theorem endTest_pending : (endTest a0 a1 t).pending = t.pending := endTest_frame.part .pending rfl
@[simp] theorem endTest_clock : (endTest a0 a1 t).clock = t.clock := endTest_frame.part .clock rfl
@[simp] theorem endTest_freeCtr : (endTest a0 a1 t).freeCtr = t.freeCtr := endTest_frame.part .freeCtr rfl
@[simp] theorem endTest_pw : (endTest a0 a1 t).pw = t.pw := endTest_frame.part .pw rfl
@[simp] theorem endTest_pf : (endTest a0 a1 t).pf = t.pf := endTest_frame.part .pf rfl
@[simp] theorem endTest_sys : (endTest a0 a1 t).sys = t.sys := endTest_frame.part .sys rfl
@[simp] theorem endTest_inq : (endTest a0 a1 t).inq = t.inq := endTest_frame.part .inq rfl
@[simp] theorem endTest_grp : (endTest a0 a1 t).grp = t.grp := endTest_frame.part .grp rfl
@[simp] theorem endTest_tin : (endTest a0 a1 t).tin = t.tin := endTest_frame.part .tin rfl
@[simp] theorem endTest_mb : (endTest a0 a1 t).mb = t.mb := endTest_frame.part .mb rfl
@[simp] theorem endTest_cnv : (endTest a0 a1 t).cnv = t.cnv := endTest_frame.part .cnv rfl
@[simp] theorem endTest_acc : (endTest a0 a1 t).acc = t.acc := endTest_frame.part .acc rfl
@[simp] theorem endTest_xam : (endTest a0 a1 t).xam = t.xam := endTest_frame.part .xam rfl
@[simp] theorem endTest_met : (endTest a0 a1 t).met = t.met := endTest_frame.part .met rfl
@[simp] theorem endTest_tmr : (endTest a0 a1 t).tmr = t.tmr := endTest_frame.part .tmr rfl
@[simp] theorem endTest_fl : (endTest a0 a1 t).fl = t.fl := endTest_frame.part .fl rfl
@[simp] theorem endTest_pwr : (endTest a0 a1 t).pwr = t.pwr := endTest_frame.part .pwr rfl
@[simp] theorem endTest_fuses : (endTest a0 a1 t).svc.fuses = t.svc.fuses := endTest_frame.part .fuses rfl
@[simp] theorem endTest_images : (endTest a0 a1 t).svc.images = t.svc.images := endTest_frame.part .images rfl

theorem setCollide_frame : Same 64 t (setCollide a0 t) := by simp
@[simp] theorem setCollide_pending : (setCollide a0 t).pending = t.pending := setCollide_frame.part .pending rfl
@[simp] theorem setCollide_clock : (setCollide a0 t).clock = t.clock := setCollide_frame.part .clock rfl
@[simp] theorem setCollide_freeCtr : (setCollide a0 t).freeCtr = t.freeCtr := setCollide_frame.part .freeCtr rfl
@[simp] theorem setCollide_pw : (setCollide a0 t).pw = t.pw := setCollide_frame.part .pw rfl
@[simp] theorem setCollide_pf : (setCollide a0 t).pf = t.pf := setCollide_frame.part .pf rfl
@[simp] theorem setCollide_sys : (setCollide a0 t).sys = t.sys := setCollide_frame.part .sys rfl
@[simp] theorem setCollide_inq : (setCollide a0 t).inq = t.inq := setCollide_frame.part .inq rfl
@[simp] theorem setCollide_outq : (setCollide a0 t).outq = t.outq := setCollide_frame.part .outq rfl
@[simp] theorem setCollide_deolo : (setCollide a0 t).deolo = t.deolo := setCollide_frame.part .deolo rfl
@[simp] theorem setCollide_ch : (setCollide a0 t).ch = t.ch := setCollide_frame.part .ch rfl
@[simp] theorem setCollide_grp : (setCollide a0 t).grp = t.grp := setCollide_frame.part .grp rfl
@[simp] theorem setCollide_bus : (setCollide a0 t).bus = t.bus := setCollide_frame.part .bus rfl
@[simp] theorem setCollide_tin : (setCollide a0 t).tin = t.tin := setCollide_frame.part .tin rfl
@[simp] theorem setCollide_mb : (setCollide a0 t).mb = t.mb := setCollide_frame.part .mb rfl
@[simp] theorem setCollide_cnv : (setCollide a0 t).cnv = t.cnv := setCollide_frame.part .cnv rfl
@[simp] theorem setCollide_acc : (setCollide a0 t).acc = t.acc := setCollide_frame.part .acc rfl
@[simp] theorem setCollide_xam : (setCollide a0 t).xam = t.xam := setCollide_frame.part .xam rfl
@[simp] theorem setCollide_met : (setCollide a0 t).met = t.met := setCollide_frame.part .met rfl
@[simp] theorem setCollide_tmr : (setCollide a0 t).tmr = t.tmr := setCollide_frame.part .tmr rfl
@[simp] theorem setCollide_adm : (setCollide a0 t).adm = t.adm := setCollide_frame.part .adm rfl
@[simp] theorem setCollide_bat : (setCollide a0 t).bat = t.bat := setCollide_frame.part .bat rfl
@[simp] theorem setCollide_shb : (setCollide a0 t).shb = t.shb := setCollide_frame.part .shb rfl
@[simp] theorem setCollide_fl : (setCollide a0 t).fl = t.fl := setCollide_frame.part .fl rfl
@[simp] theorem setCollide_nvs : (setCollide a0 t).nvs = t.nvs := setCollide_frame.part .nvs rfl
@[simp] theorem setCollide_log : (setCollide a0 t).log = t.log := setCollide_frame.part .log rfl
@[simp] theorem setCollide_svc : (setCollide a0 t).svc = t.svc := setCollide_frame.part .svc rfl
@[simp] theorem setCollide_pwr : (setCollide a0 t).pwr = t.pwr := setCollide_frame.part .pwr rfl

theorem endSession_frame : Same 339040064 t (endSession a0 a1 t) := by simp
@[simp] theorem endSession_pending : (endSession a0 a1 t).pending = t.pending := endSession_frame.part .pending rfl
@[simp] theorem endSession_clock : (endSession a0 a1 t).clock = t.clock := endSession_frame.part .clock rfl
@[simp] theorem endSession_freeCtr : (endSession a0 a1 t).freeCtr = t.freeCtr := endSession_frame.part .freeCtr rfl
@[simp] theorem endSession_pw : (endSession a0 a1 t).pw = t.pw := endSession_frame.part .pw rfl
@[simp] theorem endSession_pf : (endSession a0 a1 t).pf = t.pf := endSession_frame.part .pf rfl
@[simp] theorem endSession_sys : (endSession a0 a1 t).sys = t.sys := endSession_frame.part .sys rfl
@[simp] theorem endSession_inq : (endSession a0 a1 t).inq = t.inq := endSession_frame.part .inq rfl
@[simp] theorem endSession_grp : (endSession a0 a1 t).grp = t.grp := endSession_frame.part .grp rfl
@[simp] theorem endSession_tin : (endSession a0 a1 t).tin = t.tin := endSession_frame.part .tin rfl
@[simp] theorem endSession_cnv : (endSession a0 a1 t).cnv = t.cnv := endSession_frame.part .cnv rfl
@[simp] theorem endSession_xam : (endSession a0 a1 t).xam = t.xam := endSession_frame.part .xam rfl
@[simp] theorem endSession_tmr : (endSession a0 a1 t).tmr = t.tmr := endSession_frame.part .tmr rfl
@[simp] theorem endSession_shb : (endSession a0 a1 t).shb = t.shb := endSession_frame.part .shb rfl
@[simp] theorem endSession_fl : (endSession a0 a1 t).fl = t.fl := endSession_frame.part .fl rfl
@[simp] theorem endSession_nvs : (endSession a0 a1 t).nvs = t.nvs := endSession_frame.part .nvs rfl
@[simp] theorem endSession_log : (endSession a0 a1 t).log = t.log := endSession_frame.part .log rfl
@[simp] theorem endSession_pwr : (endSession a0 a1 t).pwr = t.pwr := endSession_frame.part .pwr rfl
@[simp] theorem endSession_fuses : (endSession a0 a1 t).svc.fuses = t.svc.fuses := endSession_frame.part .fuses rfl
@[simp] theorem endSession_images : (endSession a0 a1 t).svc.images = t.svc.images := endSession_frame.part .images rfl

end Sys2Proof.Machine
end

