-- ==== Sys2Proof/Laws/Link.lean ====
section
/-! SUPPORT. What a frame of one register does: the shared operations of the host link, each said once. -/

namespace Sys2Proof.Machine

/-- A good write frame of one word to a register that is no data window and that the select may write. -/
theorem goodWrite_one {cs : Cs} {a : Nat} {v w : Word} {s : State} (hl : linkUp s = true)
    (hd : deniedAddr (cs == .s) false (a % 64) = false) (hq : isQdata (a % 64) = false) (ha : a < 64) :
    goodWrite cs a [v] w s = noteResult 0 a (writeReg (cs == .s) a v w (drive [statusWord s] none (writeBits 1) s)) := by
  have e : a % 64 = a := Nat.mod_eq_of_lt ha
  rw [e] at hd hq
  simp [goodWrite, hl, carryWrite, frameAddrs, hd, downAddr, hq, forEach, List.range_succ]

/-- A good write frame to a register that the select may not write. -/
theorem goodWrite_denied {cs : Cs} {a : Nat} {v w : Word} {s : State} (hl : linkUp s = true)
    (hd : deniedAddr (cs == .s) false a = true) :
    goodWrite cs a [v] w s = noteResult Res.DENIED a (drive [statusWord s] none (writeBits 1) s) := by
  simp [goodWrite, hl, carryWrite, frameAddrs, hd, List.range_succ]

/-- A clean read frame of one register that is no data window and that the select may read. -/
theorem goodRead_one {cs : Cs} {a : Nat} {s : State} (hl : linkUp s = true)
    (hd : deniedAddr (cs == .s) true a = false) (hq : isQdata a = false)
    (hn : (notReadyAddr a && !s.sys.fwReady) = false) :
    goodRead cs false a 1 true s =
      noteResult 0 a (drive [statusWord s, (readReg .spi (cs == .s) a s).1]
        (some (crc16 (wordsBytes [(readReg .spi (cs == .s) a s).1.toNat]))) 112 (readReg .spi (cs == .s) a s).2) := by
  have e : ∀ n : Mb, (a == 0x20 + n.val) = false := by
    intro n
    simp only [isQdata, decide_eq_false_iff_not] at hq
    have := n.isLt
    simp
    omega
  have e2 : ∀ n : Mb, (0x20 + n.val = a) = False := by
    intro n
    have := e n
    simp at this
    simp
    omega
  simp only [goodRead, carryRead, readOut, crcWithin, frameAddrs, hl]
  simp [hd, hq, downAddr, begunWords, wholeWords, readWords, readWord, consumeRead, List.range_succ, hn, e2]
  simp [forEach]

@[simp] theorem noteResult_ok (a : Nat) (s : State) :
    noteResult 0 a s = { s with link := { s.link with result := 0 } } := rfl

/-! ### Bits -/

theorem bit_getLsbD (v : Word) (k : Nat) : v.bit k = v.getLsbD k := rfl

/-- The bits left of a W1C register: those that the write does not clear, or that something sets in the same cycle. -/
theorem keepMask_testBit (v w : Word) {k : Nat} (hk : k < 32) :
    (~~~(v &&& ~~~w)).toNat.testBit k = (w.bit k || !v.bit k) := by
  rw [BitVec.testBit_toNat, BitVec.getLsbD_not, BitVec.getLsbD_and, BitVec.getLsbD_not]
  simp only [bit_getLsbD, hk, decide_true, Bool.true_and]
  cases v.getLsbD k <;> cases w.getLsbD k <;> rfl

theorem setIrq_testBit (j k : Nat) (s : State) :
    (setIrq j s).link.irqStatus.testBit k = (s.link.irqStatus.testBit k || decide (j = k)) := by
  simp [setIrq, Nat.testBit_or, Nat.testBit_two_pow]

theorem forEach_setIrq (l : List Nat) (k : Nat) (s : State) :
    (forEach l setIrq s).link.irqStatus.testBit k = (s.link.irqStatus.testBit k || decide (k ∈ l)) := by
  induction l generalizing s with
  | nil => simp [forEach]
  | cons j l ih =>
    rw [forEach, ih, setIrq_testBit]
    by_cases h : j = k
    · simp [h]
    · have : ¬ k = j := fun e => h e.symm
      simp [h, this]

theorem setDbOut_testBit (n : Mb) (k : Nat) (s : State) :
    (setDbOut n s).link.dbOut.testBit k = (s.link.dbOut.testBit k || decide (n.val = k)) := by
  unfold setDbOut
  split
  · by_cases h : n.val = k
    · subst h
      simp_all
    · simp [h]
  · simp [setIrq, Nat.testBit_or, Nat.testBit_two_pow]

theorem forEach_setDbOut (l : List Mb) (k : Nat) (s : State) :
    (forEach l setDbOut s).link.dbOut.testBit k = (s.link.dbOut.testBit k || decide (∃ n ∈ l, n.val = k)) := by
  induction l generalizing s with
  | nil => simp [forEach]
  | cons j l ih =>
    rw [forEach, ih, setDbOut_testBit]
    by_cases h : j.val = k
    · simp [h]
    · simp [h]

theorem setCollide_testBit (j k : Nat) (s : State) :
    (setCollide j s).link.collide.testBit k = (s.link.collide.testBit k || decide (j = k)) := by
  unfold setCollide
  split
  · by_cases h : j = k
    · subst h
      simp_all
    · simp [h]
  · simp [setIrq, Nat.testBit_or, Nat.testBit_two_pow]

theorem forEach_setCollide (l : List Nat) (k : Nat) (s : State) :
    (forEach l setCollide s).link.collide.testBit k = (s.link.collide.testBit k || decide (k ∈ l)) := by
  induction l generalizing s with
  | nil => simp [forEach]
  | cons j l ih =>
    rw [forEach, ih, setCollide_testBit]
    by_cases h : j = k
    · simp [h]
    · have : ¬ k = j := fun e => h e.symm
      simp [h, this]

end Sys2Proof.Machine
end

