-- ==== Sys2Proof/Laws/Memory.lean ====
section
/-! SUPPORT. The laws of the byte memories of the image banks: every operation keeps the canonical form, a read after a
write gives what was written, and a write leaves every other byte alone. -/

namespace Sys2Proof.Machine

/-- Every listed address lies above a bound. -/
def Memory.above (n : Nat) (m : List Host.Cell) : Prop := ∀ c ∈ m, n < c.1

theorem Memory.wf_cons (c : Host.Cell) (m : List Host.Cell) :
    Memory.wf (c :: m) = true ↔ c.2 ≠ blankByte ∧ Memory.above c.1 m ∧ Memory.wf m = true := by
  induction m generalizing c with
  | nil => simp [Memory.wf, Memory.above]
  | cons d t ih =>
    rw [show Memory.wf (c :: d :: t) = (c.2 != blankByte && decide (c.1 < d.1) && Memory.wf (d :: t)) from rfl,
      Bool.and_eq_true, Bool.and_eq_true, ih d]
    constructor
    · rintro ⟨⟨h1, h2⟩, h3, h4, h5⟩
      simp only [bne_iff_ne, decide_eq_true_eq] at h1 h2
      refine ⟨h1, ?_, h3, h4, h5⟩
      intro x hx
      rcases List.mem_cons.mp hx with rfl | hx
      · exact h2
      · exact Nat.lt_trans h2 (h4 x hx)
    · rintro ⟨h1, h2, h3, h4, h5⟩
      exact ⟨⟨by simpa using h1, by simpa using h2 d (by simp)⟩, h3, h4, h5⟩

theorem Memory.byteAt_above {n a : Nat} {m : List Host.Cell} (h : Memory.above n m) (ha : a ≤ n) : byteAt m a = blankByte := by
  induction m with
  | nil => rfl
  | cons c t ih =>
    have hc : c.1 ≠ a := by have := h c (by simp); omega
    simp only [byteAt, if_neg hc]
    exact ih fun x hx => h x (by simp [hx])

theorem Memory.above_putByte {n a : Nat} (v : Byte) {m : List Host.Cell} (h : Memory.above n m) (ha : n < a) :
    Memory.above n (putByte m a v) := by
  induction m with
  | nil =>
    unfold putByte
    split
    · exact h
    · intro c hc; obtain rfl := List.mem_singleton.mp hc; exact ha
  | cons c t ih =>
    have ht : Memory.above n t := fun x hx => h x (by simp [hx])
    have hr : Memory.above n (if c.1 = a then t else c :: t) := by split <;> assumption
    rw [putByte]
    split
    · intro x hx
      rcases List.mem_cons.mp hx with rfl | hx
      · exact h _ (by simp)
      · exact ih ht x hx
    · dsimp only
      split
      · exact hr
      · intro x hx
        rcases List.mem_cons.mp hx with rfl | hx
        · exact ha
        · exact hr x hx

/-- A write keeps the canonical form. -/
theorem putByte_wf (m : List Host.Cell) (a : Nat) (v : Byte) (h : Memory.wf m = true) : Memory.wf (putByte m a v) = true := by
  induction m with
  | nil =>
    unfold putByte
    split
    · rfl
    · simpa [Memory.wf] using ‹¬v = blankByte›
  | cons c t ih =>
    obtain ⟨h1, h2, h3⟩ := (Memory.wf_cons c t).mp h
    rw [putByte]
    split
    · exact (Memory.wf_cons _ _).mpr ⟨h1, Memory.above_putByte v h2 ‹_›, ih h3⟩
    · have hr : Memory.wf (if c.1 = a then t else c :: t) = true := by split <;> assumption
      have hb : Memory.above a (if c.1 = a then t else c :: t) := by
        split
        · subst a; exact h2
        · intro x hx
          rcases List.mem_cons.mp hx with rfl | hx
          · omega
          · have := h2 x hx; omega
      dsimp only
      split
      · exact hr
      · exact (Memory.wf_cons _ _).mpr ⟨‹_›, hb, hr⟩

/-- Writes of bytes in a row keep the canonical form. -/
theorem putBytes_wf (m : List Host.Cell) (a : Nat) (l : List Byte) (h : Memory.wf m = true) :
    Memory.wf (putBytes m a l) = true := by
  induction l generalizing m a with
  | nil => exact h
  | cons v t ih => exact ih _ _ (putByte_wf m a v h)

/-- A read after a write: the byte written at its address, and at every other what stood there. -/
theorem byteAt_putByte (m : List Host.Cell) (a b : Nat) (v : Byte) (h : Memory.wf m = true) :
    byteAt (putByte m a v) b = if b = a then v else byteAt m b := by
  induction m with
  | nil =>
    unfold putByte
    by_cases hv : v = blankByte
    · rw [if_pos hv, hv]; split <;> rfl
    · rw [if_neg hv]
      by_cases hb : b = a
      · rw [if_pos hb, byteAt, if_pos hb.symm]
      · rw [if_neg hb]; exact if_neg (Ne.symm hb)
  | cons c t ih =>
    obtain ⟨-, h2, h3⟩ := (Memory.wf_cons c t).mp h
    rw [putByte]
    split
    · rename_i hc
      by_cases hb : c.1 = b
      · simp only [byteAt, if_pos hb]; rw [if_neg (by omega)]
      · simp only [byteAt, if_neg hb]; exact ih h3
    · rename_i hc
      have hn : ∀ r : List Host.Cell, r = (if c.1 = a then t else c :: t) →
          byteAt r b = if b = a then blankByte else byteAt (c :: t) b := by
        rintro r rfl
        by_cases ha : c.1 = a
        · rw [if_pos ha]
          by_cases hb : b = a
          · rw [if_pos hb]; exact Memory.byteAt_above h2 (by omega)
          · rw [if_neg hb, byteAt, if_neg (by omega)]
        · rw [if_neg ha]
          by_cases hb : b = a
          · rw [if_pos hb, byteAt, if_neg (by omega)]; exact Memory.byteAt_above h2 (by omega)
          · rw [if_neg hb]
      dsimp only
      split
      · rename_i hv; rw [hn _ rfl, hv]
      · by_cases hb : b = a
        · simp [byteAt, hb]
        · rw [byteAt, if_neg (Ne.symm hb), hn _ rfl, if_neg hb, if_neg hb]

/-- Bytes outside those written stay. -/
theorem byteAt_putBytes_other (m : List Host.Cell) (a b : Nat) (l : List Byte) (h : Memory.wf m = true)
    (hb : b < a ∨ a + l.length ≤ b) : byteAt (putBytes m a l) b = byteAt m b := by
  induction l generalizing m a with
  | nil => rfl
  | cons v t ih =>
    simp only [List.length_cons] at hb
    rw [putBytes, ih _ _ (putByte_wf m a v h) (by omega), byteAt_putByte m a b v h, if_neg (by omega)]

/-- The bytes written read back. -/
theorem byteAt_putBytes (m : List Host.Cell) (a : Nat) (l : List Byte) (h : Memory.wf m = true) (i : Nat) (hi : i < l.length) :
    byteAt (putBytes m a l) (a + i) = l[i] := by
  induction l generalizing m a i with
  | nil => exact absurd hi (by simp)
  | cons v t ih =>
    rw [putBytes]
    cases i with
    | zero =>
      rw [byteAt_putBytes_other _ _ _ _ (putByte_wf m a v h) (by omega), byteAt_putByte m a _ v h]
      simp
    | succ j =>
      have := ih (putByte m a v) (a + 1) (putByte_wf m a v h) j (by simpa using hi)
      rw [show a + (j + 1) = a + 1 + j by omega, this]
      rfl

/-- Reset's image memories are in canonical form. -/
theorem reset_images_wf :
    Memory.wf State.reset.svc.bankA.bytes = true ∧ Memory.wf State.reset.svc.bankB.bytes = true := ⟨rfl, rfl⟩

end Sys2Proof.Machine
end

