-- ==== Sys2Proof/Laws/Modes.lean ====
section
/-! SUPPORT. What a change of mode, an entry into SAFE-KEEP and a start leave in the registers that say so. -/

namespace Sys2Proof.Machine

variable {s : State} {m : Mode} {c code : Nat} {b : Bool} {x : SelfTest}

theorem changeMode_modes (h : s.sys.mode ≠ m) : (changeMode m c s).sys.modes = (m, s.sys.mode) := by
  have : Same (2549217144 - 2 ^ 31) { s with sys := { s.sys with mode := m, prevMode := s.sys.mode } } (changeMode m c s) := by
    simp [changeMode, h]
  exact this.part .mode rfl

theorem changeMode_tin (h : m = .safeKeep ∨ m = .boot) : (changeMode m c s).tin = s.tin := by
  have : Same (2549217144 - 2 ^ 13) s (changeMode m c s) := by simp [changeMode, h]
  exact this.part .tin rfl

theorem enterMode_modes (h : s.sys.mode ≠ m) : (enterMode m c s).sys.modes = (m, s.sys.mode) := by
  have hb : (beforeMode m s).sys = s.sys := (show Same 393221952 s (beforeMode m s) by simp).part .sys rfl
  have hm : (beforeMode m s).sys.mode ≠ m := by rw [hb]; exact h
  have : Same 6442450943 (changeMode m c (beforeMode m s)) (enterMode m c s) := by simp [enterMode, h]
  rw [show (enterMode m c s).sys.modes = (changeMode m c (beforeMode m s)).sys.modes from this.part .mode rfl,
    changeMode_modes hm, hb]

theorem enterMode_tin (h : s.sys.mode ≠ m) (hm : m = .safeKeep ∨ m = .boot) :
    (enterMode m c s).tin = s.tin := by
  have hb : (beforeMode m s).tin = s.tin := (show Same 393221952 s (beforeMode m s) by simp).part .tin rfl
  have : Same 8589926399 (changeMode m c (beforeMode m s)) (enterMode m c s) := by 
    rcases hm with rfl | rfl <;> simp [enterMode, h]
  rw [show (enterMode m c s).tin = (changeMode m c (beforeMode m s)).tin from this.part .tin rfl, changeMode_tin hm, hb]

theorem seize_tin : (seize s).tin = { s.tin with token := false, override := true, window := false } := rfl
theorem seize_modes : (seize s).sys.modes = s.sys.modes := rfl
theorem tellEntry_live (o : State) : (tellEntry o s).shb.live = false := by
  have : Same 6438248447 { setIrq Irq.SAFE_KEEP s with shb := { s.shb with live := false } } (tellEntry o s) := by
    unfold tellEntry
    dsimp only
    rw [reportCh_same (by decide)]
    split
    · exact (logEvent_same (by decide)).2 (same_refl _ _)
    · exact (forEach_same fun _ _ => by simp).2 ((logEvent_same (by decide)).2 (same_refl _ _))
  exact congrArg Shb.live (this.part .shb rfl)

/-- The registers that an entry into SAFE-KEEP by a cause leaves (R250, R267, R268). -/
theorem enterSafeKeep_marks (h : tinActs s = true) :
    ((enterSafeKeep code s).sys.modes = (.safeKeep, s.sys.mode)) ∧ (enterSafeKeep code s).tin.cause = code ∧
    (enterSafeKeep code s).tin.token = false ∧ (enterSafeKeep code s).tin.override = true ∧
    (enterSafeKeep code s).tin.window = false ∧ (enterSafeKeep code s).shb.live = false ∧
    (enterSafeKeep code s).tin.entryCount = sat32 (s.tin.entryCount + 1) := by
  rw [enterSafeKeep, if_neg (by simp [h])]
  have hb : s.sys.mode ≠ .safeKeep := by
    simp only [tinActs, inSafeKeep, Bool.and_eq_true, Bool.not_eq_true', beq_eq_false_iff_ne] at h
    exact h.2
  have ht := seize_tin (s := s)
  have hm := seize_modes (s := s)
  generalize seize s = a at *
  have h4 := (show Same 6442442751 a (ceaseAll a) by simp)
  generalize ceaseAll a = b at *
  have h7 := (show Same 6442442751 (countEntry code b) (entryTaken (countEntry code b)) by simp)
  generalize entryTaken (countEntry code b) = d at *
  have m7 : d.sys.modes = s.sys.modes := (h7.part .mode rfl).trans ((h4.part .mode rfl).trans hm)
  have hd : d.sys.mode = s.sys.mode := congrArg Prod.fst m7
  have t7 : d.tin = (countEntry code b).tin := h7.part .tin rfl
  have t4 : b.tin = a.tin := h4.part .tin rfl
  have m8 := enterMode_modes (s := d) (c := Cause.tinSoldier) (m := .safeKeep) (by rw [hd]; exact hb)
  have t8 := enterMode_tin (s := d) (c := Cause.tinSoldier) (m := .safeKeep) (by rw [hd]; exact hb) (.inl rfl)
  generalize enterMode Mode.safeKeep Cause.tinSoldier d = e at *
  have h9 := (show Same 6442442751 e (tellEntry s e) by simp)
  have l9 := tellEntry_live (s := e) s
  generalize tellEntry s e = f at *
  have t9 : f.tin = (countEntry code b).tin := (h9.part .tin rfl).trans (t8.trans t7)
  have m9 : f.sys.modes = e.sys.modes := h9.part .mode rfl
  rw [m9, m8, t9, l9, hd]
  simp [countEntry, t4, ht]
end Sys2Proof.Machine
end

