-- ==== Sys2Proof/Laws/Writes.lean ====
section
/-! SUPPORT. What a one-item write does once its checks pass, said once for the rows that are such writes. -/

namespace Sys2Proof.Machine

variable {s : State} {n : Mb} {x : Item} {id : Nat} {v : Int}

@[simp] theorem itemOf_id : (itemOf id v).id = id := by
  unfold itemOf; split <;> rfl

/-- An item is written, comes into force, and has the effect of its row. -/
def takeItem (n : Mb) (x : Item) (s : State) : State :=
  itemHook s n (latestAfter s [x]) x (forceItem x (putItem x s))

theorem writeOne_takes (h : Takes n [x] s) (ht : x.id ≠ Prm.UPD_TAKEOVER) (hd : x.id ≠ Prm.SFK_DRILL)
    (hr : x.id ≠ Prm.UPD_ROLLBACK) :
    writeOne n [x] s = { takeItem n x s with deolo := { (takeItem n x s).deolo with lastStatus := St.OK } } := by
  have h1 : names [x] Prm.UPD_TAKEOVER = none := by simp [names, ht]
  simp [writeOne, h.firm, h.open_, writeItems, h.sound, h1, applyItems, forEach, afterWrite, hd, hr, takeItem]

theorem readOne_takes (hf : firmwareTakes s = true) (ho : sessionStatus s n = St.OK) :
    readOne n id s = { (readParam n id s).2 with deolo := { (readParam n id s).2.deolo with
      lastStatus := St.OK, lastRead := (readParam n id s).1 } } := by
  simp [readOne, hf, ho]

/-- A parameter that is not stored is not written: its row acts on the state as it stands. -/
theorem takeItem_live (hs : isStored x.id = false) (hc : x.id ≠ Prm.CNV_CAL_INPUT) :
    takeItem n x s = itemHook s n (latestAfter s [x]) x s := by
  simp [takeItem, forceItem, putItem, hs, hc]

/-- The status of the write stands for the row's reader. -/
def State.told (s : State) : State := { s with deolo := { s.deolo with lastStatus := St.OK } }

@[simp] theorem told_lastStatus : s.told.deolo.lastStatus = St.OK := rfl
@[simp] theorem told_pending : s.told.pending = s.pending := rfl
@[simp] theorem told_clock : s.told.clock = s.clock := rfl
@[simp] theorem told_freeCtr : s.told.freeCtr = s.freeCtr := rfl
@[simp] theorem told_pw : s.told.pw = s.pw := rfl
@[simp] theorem told_pf : s.told.pf = s.pf := rfl
@[simp] theorem told_sys : s.told.sys = s.sys := rfl
@[simp] theorem told_link : s.told.link = s.link := rfl
@[simp] theorem told_inq : s.told.inq = s.inq := rfl
@[simp] theorem told_outq : s.told.outq = s.outq := rfl
@[simp] theorem told_ch : s.told.ch = s.ch := rfl
@[simp] theorem told_grp : s.told.grp = s.grp := rfl
@[simp] theorem told_bus : s.told.bus = s.bus := rfl
@[simp] theorem told_tin : s.told.tin = s.tin := rfl
@[simp] theorem told_mb : s.told.mb = s.mb := rfl
@[simp] theorem told_cnv : s.told.cnv = s.cnv := rfl
@[simp] theorem told_acc : s.told.acc = s.acc := rfl
@[simp] theorem told_xam : s.told.xam = s.xam := rfl
@[simp] theorem told_met : s.told.met = s.met := rfl
@[simp] theorem told_tmr : s.told.tmr = s.tmr := rfl
@[simp] theorem told_adm : s.told.adm = s.adm := rfl
@[simp] theorem told_bat : s.told.bat = s.bat := rfl
@[simp] theorem told_shb : s.told.shb = s.shb := rfl
@[simp] theorem told_fl : s.told.fl = s.fl := rfl
@[simp] theorem told_nvs : s.told.nvs = s.nvs := rfl
@[simp] theorem told_log : s.told.log = s.log := rfl
@[simp] theorem told_svc : s.told.svc = s.svc := rfl
@[simp] theorem told_pwr : s.told.pwr = s.pwr := rfl
@[simp] theorem told_ses : s.told.deolo.ses = s.deolo.ses := rfl
@[simp ↓] theorem told_same {m : Nat} {u : State} (h : m &&& 512 = 512) : Same m u s.told ↔ Same m u s := same_deolo h

/-- A write of a parameter that is not stored has the effect of its row on the state as it stands. -/
theorem writeOne_live (h : Takes n [itemOf id v] s) (hs : isStored id = false) (hc : id ≠ Prm.CNV_CAL_INPUT)
    (ht : id ≠ Prm.UPD_TAKEOVER) (hd : id ≠ Prm.SFK_DRILL) (hr : id ≠ Prm.UPD_ROLLBACK) :
    writeOne n [itemOf id v] s = (itemHook s n (latestAfter s [itemOf id v]) (itemOf id v) s).told := by
  rw [writeOne_takes h (by simpa) (by simpa) (by simpa), takeItem_live (by simpa) (by simpa)]; rfl


end Sys2Proof.Machine
end

