-- ==== Sys2Proof/Tests/Slice0.lean ====
section
/-! SUPPORT. Tests: an ill-formed term for each check of WellFormed, a state that meets the hypotheses of each clause of
each statement, and single steps whose results the spec states. -/

namespace Sys2Proof.Tests

open Sys2Proof Sys2Proof.Machine

set_option Elab.async false

/-! ### Small states -/

/-- A Puppeteer that runs, beats and is in step. -/
def pupUp : Pupp := { Pupp.reset with up := true, alive := true, watched := true, inStep := true }

/-- A Hatan that runs in a mode, its firmware ready. -/
def run (m : Mode) : State :=
  let r := State.reset
  { r with
    sys := { r.sys with phase := .run, mode := m, prevMode := .standby, fwReady := true, pupA := pupUp, pupB := pupUp }
    tin := { r.tin with armed := true, everArmed := true, checked := true, token := true }
    cnv := { r.cnv with on := true }
    nvs := { r.nvs with ready := true }
    log := { r.log with ready := true }
    pwr := { r.pwr with vin := true }
    shb := { r.shb with live := true }
    svc := { r.svc with en := true } }

/-- The parameters given stand as written and in force. -/
def par (l : List (Nat × Int)) (s : State) : State := { s with pw := l, pf := l }

/-- The Hatan in BOOT, its window open. -/
def boot (warm : Bool) : State :=
  let s := run .boot
  { s with sys := { s.sys with phase := .boot, warm := warm, fwReady := false }, tin := { s.tin with window := true } }

/-- A channel changed. -/
def chan (c : Ch) (f : Chan → Chan) (s : State) : State := modCh c f s

/-- The header of a command without a status. -/
def hdr (op tag len : Nat) : Word := BitVec.ofNat 32 (op * 2 ^ 24 + tag * 2 ^ 15 + len * 2 ^ 10)

/-- A secure session of version 2.3. -/
def ses : Session :=
  { ver := 0x0203, secure := true, nonce := none, key := some (List.replicate 32 0), isOpen := true, mask := 0xFFFF, ntf := 0, lost := 0, lostMap := 0,
    heldMode := none, heldCh := none, cursor := 0, since := 0 }

/-- The words given wait in an inbound queue, all of them offered. -/
def queued (n : Mb) (l : List Word) (s : State) : State :=
  { s with inq := vput s.inq n { words := l, offered := l.length, cons := 0, damaged := false, sound := 0, fragAt := none } }

/-- A session stands on a channel. -/
def opened (n : Mb) (x : Option Session) (s : State) : State := { s with deolo := { s.deolo with ses := vput s.deolo.ses n x } }

/-- One command waits on a channel that has a session. -/
def told (n : Mb) (op tag : Nat) (body : List Word) (s : State) : State :=
  opened n (some ses) (queued n (hdr op tag body.length :: body) s)

/-- `Calm`, from one decision over a concrete state. -/
theorem calm_mk {n : Mb} {op tag : Nat} {body : List Word} {s : State}
    (H : (n.val < 14 ∧ headMsg s n = some (hdr op tag body.length, body) ∧ (hdr op tag body.length).field 24 8 = op ∧
      (hdr op tag body.length).field 15 9 = tag ∧ (hdr op tag body.length).field 8 2 = 0 ∧
      (hdr op tag body.length).field 0 8 = 0) ∧ domainDown s n = false ∧ firmwareTakes s = true ∧
      s.sys.mode ≠ .recovery ∧ s.deolo.tags = [] ∧ s.deolo.sesDue.get n = none ∧ (s.outq.get n).words = [] ∧ (oldSession s n = true → tag ≤ 63)) :
    Calm n op tag body s := by
  obtain ⟨⟨h1, h2, h3, h4, h5, h6⟩, h7, h8, h9, h10, h11, h12, h13⟩ := H
  exact ⟨h1, ⟨_, h2, h3, h4, h5, h6⟩, h7, h8, h9, h10, h11, h12, h13⟩

/-- `Still`, from one decision over a concrete state. -/
theorem still_mk {c : Ch} {s : State}
    (H : (s.chan c).inr = none ∧ s.bus.walk.get c = .out ∧ s.adm.queue = [] ∧ s.bat.test = none ∧
      (s.group (groupOf c)).reloading = false ∧ s.mb.held = [] ∧ (pn s Prm.DRM_SWITCH_SYNC).testBit c.val = false) :
    Still c s := by
  obtain ⟨h1, h2, h3, h4, h5, h6, h7⟩ := H
  exact ⟨h1, h2, h3, h4, h5, h6, h7⟩

/-- `Alone`, from one decision over a concrete state. -/
theorem alone_mk {c : Ch} {s : State}
    (H : ((s.chan c).inr = none ∧ s.bus.walk.get c = .out ∧ s.adm.queue = [] ∧ s.bat.test = none ∧
      (s.group (groupOf c)).reloading = false ∧ s.mb.held = [] ∧ (pn s Prm.DRM_SWITCH_SYNC).testBit c.val = false) ∧
      s.tin.override = false ∧ s.sys.blackStart = false ∧ s.svc.op = none) : Alone c s :=
  { still_mk H.1 with override := H.2.1, black := H.2.2.1, takeover := H.2.2.2 }

/-- `Takes`, from one decision over a concrete state. -/
theorem takes_mk {n : Mb} {l : List Item} {s : State}
    (H : firmwareTakes s = true ∧ sessionStatus s n = St.OK ∧ writeFault s n l = none) : Takes n l s := ⟨H.1, H.2.1, H.2.2⟩

/-! ### The host link -/

theorem wit_RegisterWritesTakeEffect : linkUp (run .online) = true := by decide +kernel

/-- A read frame of one word. -/
def reads (h : Word) : SpiRead := { cs := .s, header := h, bits := 112, mode12 := false }

theorem wit_ReservedAddressesReadZero :
    linkUp (run .online) = true ∧ headerBad (reads 0xB7009A95).header false = false ∧
      (reads 0xB7009A95).header.bit 31 = true ∧ (reads 0xB7009A95).header.bit 30 = false ∧
      (reads 0xB7009A95).header.field 24 6 = 0x37 ∧ (reads 0xB7009A95).header.field 16 7 = 0 := by decide +kernel

theorem wit_LockAndReadsWithASideEffect :
    linkUp (run .online) = true ∧ bridgeUp (run .online) = true ∧ (run .online).link.lock = none ∧
      (run .online).sys.fwReady = true := by decide +kernel

theorem wit_MailboxWindowsMoveWords :
    let s := { run .online with outq := vput (run .online).outq 12 { words := [7, 8], cons := 0, burst := some [5] } }
    linkUp s = true ∧ domainDown s 12 = false ∧ (12 : Mb).val ≠ 14 ∧ (12 : Mb).val ≠ 15 ∧
      (s.inq.get 12).words.length + ([7] : List Word).length ≤ 64 ∧ 2 ≤ (s.outq.get 12).words.length ∧
      (s.outq.get 12).burst = some [5] := by decide +kernel

theorem wit_SpiFramesCommitWholeOrNotAtAll :
    linkUp (run .online) = true ∧ headerBad (0x3600B23C : Word) false = false ∧ (0x3600B23C : Word).bit 31 = false ∧
      (0x3600B23C : Word).bit 30 = false ∧ (0x3600B23C : Word).bit 23 = false ∧ (0x3600B23C : Word).field 16 7 = 0 ∧
      crc16 (wordsBytes [7]) = 62503 ∧ crc16 (wordsBytes [7]) ≠ 0 := by decide +kernel

theorem wit_SpiFramesCommitWholeOrNotAtAll_read :
    headerBad (0xB600A9A4 : Word) false = false ∧ (0xB600A9A4 : Word).bit 31 = true ∧ (0xB600A9A4 : Word).bit 30 = false ∧
      (0xB600A9A4 : Word).field 24 6 = 0x36 ∧ (0xB600A9A4 : Word).field 16 7 = 0 := by decide +kernel

/-! ### Supply, start and modes -/

/-- The Hatan whose VIN has gone. -/
def unfed (s : State) : State := { s with pwr := { s.pwr with vin := false } }

theorem wit_PowerOnStartsAndRestartsRestartTheHatan :
    let x := { State.reset with sys := { State.reset.sys with phase := .abandoned } }
    let i := { run .online with tin := { (run .online).tin with keyIgnored := true } }
    let f := { unfed (run .online) with nvs := { (run .online).nvs with flushing := true } }
    State.reset.sys.phase = .off ∧ x.sys.phase = .abandoned ∧ (boot false).sys.phase = .boot ∧
      ((run .online).sys.phase = .run ∧ (run .online).sys.mode = .online) ∧ (run .safeKeep).sys.mode = .safeKeep ∧
      (run .recovery).sys.mode = .recovery ∧ (run .online).tin.keyIgnored = false ∧ i.tin.keyIgnored = true ∧
      (f.pwr.vin = false ∧ f.nvs.flushing = true) ∧
      ((unfed (run .online)).pwr.vin = false ∧ (unfed (run .online)).nvs.flushing = false) := by decide +kernel

theorem wit_DormantIsEnteredAndLeft :
    let d := fun s : State => { s with sys := { s.sys with dormDue := true } }
    let w := par [(Prm.SYS_WAKE_SOURCES, 0xFFFF), (ktId 0 Ktp.CFG, 16), (ktId 0 Ktp.ALARM, 5)] (run .dormant)
    let t := d (par [(Prm.SYS_WAKE_SOURCES, 0xFFFF)] (run .standby))
    ((d (run .standby)).sys.dormDue = true ∧ fwActs (d (run .standby)) = true ∧ (d (run .standby)).sys.mode = .standby ∧
      ∀ c, conducts (d (run .standby)) c = false) ∧
    ((d (run .cutoff)).sys.dormDue = true ∧ fwActs (d (run .cutoff)) = true ∧ (d (run .cutoff)).sys.mode = .cutoff) ∧
    (w.sys.mode = .dormant ∧ wakeEnabled w (.mains 20000000) = true ∧ wakeEnabled w (.mains 10000000) = false ∧
      wakeEnabled w .keepingTimer = true ∧ ktWakeIn w ≠ none) ∧
    (wakeEnabled t (.mains 20000000) = true ∧ t.sys.mode ≠ .dormant ∧ t.sys.dormDue = true) ∧
    (w.sys.phase ≠ .off ∧ w.sys.phase ≠ .abandoned) := by decide +kernel

theorem wit_TheSupplyWarnsFailsFlushesAndCollapses :
    let s := run .online
    let f := { s with nvs := { s.nvs with flushing := true } }
    (mainUp s = true ∧ s.pwr.fail = false ∧ { s with pwr := { s.pwr with fail := true } }.pwr.fail = true ∧
      mainUp State.reset = false) ∧
    (s.pwr.vin = true ∧ s.sys.mode ≠ .dormant ∧ s.sys.phase = .run ∧ s.sys.mode ≠ .recovery ∧ anyPup s = true ∧
      s.svc.halted = false) ∧
    ((boot false).pwr.vin = true ∧ (boot false).sys.mode ≠ .dormant ∧ (boot false).sys.phase = .boot ∧
      (boot false).sys.warm = false) ∧
    ((run .dormant).pwr.vin = true ∧ (run .dormant).sys.mode = .dormant ∧ (run .dormant).sys.phase = .run) ∧
    (f.nvs.flushing = true ∧ anyPup f = true) ∧
    ((unfed s).sys.phase ≠ .off ∧ (unfed s).pwr.vin = false ∧ (unfed s).nvs.queue = []) := by decide +kernel

/-- The state with a string bound to channel 3, which conducts. -/
def strungBoot (s : State) : State :=
  par [(chId 3 Chp.ROLE, 2), (chId 3 Chp.BAT_STRING, 0)] (chan 3 (fun x => { x with st := .on }) s)

theorem wit_ABootEndsInTheModeThatItsRuleNames :
    let s := boot false
    let t := { s with sys := { s.sys with pupB := { pupUp with alive := false } } }
    let d := { s with sys := { s.sys with tested := true } }
    let v := { s with sys := { s.sys with configValid := true } }
    let w := { v with sys := { v.sys with warm := true }, mb := { v.mb with mains := true } }
    let m := { strungBoot w with sys := { w.sys with keptMode := .online } }
    (awaitsHandshake s = true ∧ s.sys.pupA.alive = true ∧ s.sys.pupB.alive = true ∧ s.sys.tested = false ∧
      awaitsHandshake d = true ∧ d.sys.tested = true) ∧
    (awaitsHandshake t = true ∧ (t.sys.pup t.sys.active).alive = true ∧
      ((t.sys.pup (otherPup t.sys.active)).alive && (t.sys.pup (otherPup t.sys.active)).inStep) = false) ∧
    (bootDone s = true ∧ s.sys.warm = false ∧ s.sys.configValid = false) ∧
    (bootDone v = true ∧ v.sys.configValid = true ∧ pget v Prm.SYS_START_MODE ≠ 1 ∧ ∀ c, conducts v c = false) ∧
    (bootDone (boot true) = true ∧ (boot true).sys.warm = true ∧ awaitsMeans (boot true) = false) ∧
    (bootDone m = true ∧ m.sys.warm = true ∧ awaitsMeans m = true) := by decide +kernel

/-! ### The Tin Soldier and the Puppeteers -/

theorem wit_TheTinSoldierTakesTheHatanToSafeKeep :
    let s := run .online
    let t := { s with tin := { s.tin with watch := 1 } }
    let b := boot true
    let c := { b with tin := { b.tin with override := true } }
    tinActs s = true ∧ tinRuns s = true ∧ (s.sys.pup s.sys.active).up = true ∧ twoFlags (setWatch Watch.CLK_DISAGREE s) = false ∧
      twoFlags (setWatch Watch.CORE_RAIL s) = false ∧ twoFlags (setWatch Watch.MAR_SILENT s) = false ∧ s.cnv.on = true ∧
      (s.group 0).reloading = false ∧ tinActs t = true ∧ tinRuns t = true ∧
      twoFlags (setWatch Watch.CLK_DISAGREE t) = true ∧ twoFlags (setWatch Watch.CORE_RAIL t) = true ∧
      twoFlags (setWatch Watch.MAR_SILENT t) = true ∧ tinActs b = true ∧ b.tin.window = true ∧ b.tin.override = false ∧
      tinActs c = true ∧ tinRuns c = true ∧ c.tin.window = true ∧ c.tin.override = true := by decide +kernel

theorem wit_HeartbeatsSuperviseThePuppeteers :
    let s := run .online
    let t := { s with sys := { s.sys with pupB := { pupUp with inStep := false } } }
    let r := { s with sys := { s.sys with pupB := { Pupp.reset with restarting := true } } }
    tinRuns s = true ∧ (s.sys.pup .b).up = true ∧ (s.sys.pup .b).restarting = false ∧
      (1 : BitVec 4).toNat = ((s.sys.pup .b).seq + 1) % 16 ∧ (2 : BitVec 4).toNat ≠ ((s.sys.pup .b).seq + 1) % 16 ∧
      (s.sys.pup .b).watched = true ∧ s.svc.halted = false ∧ s.sys.active = .a ∧
      twoFlags (setWatch (pupFlag .b) s) = false ∧ tinActs t = true ∧ (t.sys.pup .a).watched = true ∧
      shadowReady (setWatch (pupFlag .a) t) .a = false ∧ shadowReady (setWatch (pupFlag .a) s) .a = true ∧
      twoFlags (setWatch (pupFlag .a) s) = false ∧ (runBank s).st ≠ Bst.TRIAL ∧
      (r.sys.pup .b).restarting = true := by decide +kernel

theorem wit_ErrorsOfMemoriesAndClocksAreTakenAsTheirRulesSay :
    let s := run .online
    let f := { s with sys := { s.sys with clkFault := true } }
    let k := chan 3 (fun x => { x with keep := true, st := .on }) { run .safeKeep with
      tin := { s.tin with override := true, keep := vput s.tin.keep 3 { Keep.none with keep := true, uv := 20000 } } }
    tinRuns s = true ∧ tinActs s = true ∧ (s.sys.pup s.sys.active).up = true ∧ s.sys.active = .a ∧
      s.sys.pupB.up = true ∧ s.cnv.on = true ∧ s.sys.clkFault = false ∧ twoFlags (setWatch Watch.XIN_LOST s) = false ∧
      tinRuns f = true ∧ f.sys.clkFault = true ∧ s.tin.checked = true ∧ s.tin.silent = false ∧
      tinRuns k = true ∧ k.tin.override = true ∧ (k.chan 3).keep = true ∧ (k.chan 3).st.conducts = true ∧
      (k.tin.keep.get 3).uv ≠ 0 ∧ (k.chan 3).inr = none ∧ k.adm.queue ++ k.adm.grants = [] := by decide +kernel

/-! ### The commands of the host -/

/-- A channel above 9 with a nonce that has been sent, its session not yet proved. -/
def proving : State :=
  opened 10 (some { ses with secure := false, isOpen := false, nonce := some [0, 0, 0, 0] })
    { run .online with deolo := { (run .online).deolo with keySet := true } }

/-- The MAC of that nonce under a key of zeros. -/
def macWords : List Word :=
  [0xA3565DD9, 0x346AC316, 0x7B2219FF, 0xF43EE1CE, 0x7A6D0A1E, 0x758455AB, 0x647F0AF6, 0xF257D7C6]

/-- A state in which a command waits and no session stands. -/
def asked (n : Mb) (op tag : Nat) (body : List Word) (s : State) : State := queued n (hdr op tag body.length :: body) s

theorem wit_SessionsOpenAreProvedAndEnd_open :
    let s := asked 2 0x01 5 [0x01000203] (run .online)
    let v := asked 2 0x01 5 [0x03000400] (run .online)
    let l := { s with deolo := { s.deolo with lockout := vput s.deolo.lockout 2 true } }
    let k := asked 10 0x01 5 [0x01000203] { run .online with deolo := { (run .online).deolo with keySet := true } }
    (Calm 2 0x01 5 [0x01000203] s ∧ sessionGate s 2 0x01 = none ∧ (0x0203 ∈ versions ∧
      (0x01000203 : Word).field 16 16 ≤ 0x0203 ∧ 0x0203 ≤ (0x01000203 : Word).field 0 16) ∧
      s.deolo.lockout.get 2 = false) ∧
    (Calm 2 0x01 5 [0x03000400] v ∧ session? v 2 = none ∧
      ∀ u ∈ versions, (0x03000400 : Word).field 16 16 ≤ u → (0x03000400 : Word).field 0 16 < u) ∧
    (Calm 2 0x01 5 [0x01000203] l ∧ session? l 2 = none ∧ l.deolo.lockout.get 2 = true) ∧
    (Calm 10 0x01 5 [0x01000203] k ∧ sessionGate k 10 0x01 = none ∧ k.deolo.lockout.get 10 = false ∧
      k.deolo.keySet = true) :=
  ⟨⟨calm_mk (by decide +kernel), by decide +kernel⟩, ⟨calm_mk (by decide +kernel), by decide +kernel⟩, ⟨calm_mk (by decide +kernel), by decide +kernel⟩,
    ⟨calm_mk (by decide +kernel), by decide +kernel⟩⟩

theorem wit_SessionsOpenAreProvedAndEnd_auth :
    let s := asked 10 0x02 5 macWords proving
    let t := asked 10 0x02 5 [0, 0, 0, 0, 0, 0, 0, 0] proving
    (Calm 10 0x02 5 macWords s ∧ sessionGate s 10 0x02 = none ∧ macWords.length = 8 ∧
      (∃ x, session? s 10 = some x ∧ x.nonce = some [0, 0, 0, 0] ∧ x.key = some (List.replicate 32 0) ∧
        wordsBytes (macWords.map BitVec.toNat) = authMac (List.replicate 32 0) 10 [0, 0, 0, 0] x.ver)) ∧
    (Calm 10 0x02 5 [0, 0, 0, 0, 0, 0, 0, 0] t ∧ sessionGate t 10 0x02 = none ∧
      wordsBytes (([0, 0, 0, 0, 0, 0, 0, 0] : List Word).map BitVec.toNat) ≠
        authMac (List.replicate 32 0) 10 [0, 0, 0, 0] 0x0203) :=
  ⟨⟨calm_mk (by decide +kernel), by decide +kernel, by decide +kernel,
    ⟨{ ses with secure := false, isOpen := false, nonce := some [0, 0, 0, 0] }, by decide +kernel⟩⟩,
    ⟨calm_mk (by decide +kernel), by decide +kernel⟩⟩

/-- A command of tag 9 in flight whose effect has not begun. -/
def inFlight : TagEnt :=
  { id := 0, chan := 2, tag := 9, op := 0x50, heldBack := false, begun := false, done := false, out := [], left := none }

theorem wit_SessionsOpenAreProvedAndEnd_rest :
    let s := told 2 0x05 5 [9] (run .online)
    let t := { s with deolo := { s.deolo with tags := [inFlight], nextId := 1 } }
    (Calm 2 0x03 5 [] (told 2 0x03 5 [] (run .online)) ∧ sessionGate (told 2 0x03 5 [] (run .online)) 2 0x03 = none) ∧
    (Calm 2 0x06 5 [7] (told 2 0x06 5 [7] (run .online)) ∧ sessionGate (told 2 0x06 5 [7] (run .online)) 2 0x06 = none ∧
      session? (told 2 0x06 5 [7] (run .online)) 2 = some ses) ∧
    (Calm 2 0x05 5 [9] { t with deolo := { t.deolo with tags := [] } } ∧ sessionGate t 2 0x05 = none ∧
      session? t 2 = some ses ∧ t.deolo.tags = [inFlight] ∧ inFlight.tag = (9 : Word).field 0 9 ∧ t.adm.queue = []) :=
  ⟨⟨calm_mk (by decide +kernel), by decide +kernel⟩, ⟨calm_mk (by decide +kernel), by decide +kernel⟩,
    ⟨calm_mk (by decide +kernel), by decide +kernel⟩⟩

/-- `Calm` and the gate of the session, for a command told to a running Hatan. -/
abbrev Ready (n : Mb) (op tag : Nat) (body : List Word) (s : State) : Prop :=
  Calm n op tag body (told n op tag body s) ∧ sessionGate (told n op tag body s) n op = none

theorem wit_QueriesAndBadCommandsAreAnsweredAtOnce :
    let s := run .online
    Ready 2 0x04 5 [7] s ∧ Ready 2 0x12 5 [0x00010000] s ∧ Ready 2 0x13 5 [0] s ∧
    (Ready 2 0x10 5 [0xFFF00000] s ∧ (0xFFF00000 : Word).field 0 4 = 0 ∧ paramRow ((0xFFF00000 : Word).field 16 16) = none) ∧
    (Ready 2 0x10 5 [0x00120000] s ∧ paramRow ((0x00120000 : Word).field 16 16) ≠ none) ∧
    (Ready 2 0x11 5 [] s ∧ writeItemsOf [] = none) ∧
    (Ready 2 0x11 5 [0x04010411, 1] s ∧ writeItemsOf [0x04010411, 1] = some [itemOf 0x0401 1] ∧
      ((paramRow 0x0401).map fun r => decide (r.eff = .cyc)) = some true ∧ isStored 0x0401 = true ∧
      writeFault (told 2 0x11 5 [0x04010411, 1] s) 2 [itemOf 0x0401 1] = none) ∧
    (Calm 2 0x7F 5 [] (told 2 0x7F 5 [] s) ∧ opDefined (told 2 0x7F 5 [] s) 2 0x7F = false) ∧
    (Ready 2 0x60 5 [0] s ∧ (0 : Word).field 24 8 = 0) ∧ (Ready 2 0x30 5 [0x05000000] s ∧ 4 < (0x05000000 : Word).field 24 8) ∧
    s.sys.mode ∈ [Mode.commission, .standby, .online, .recharge, .maintain, .bridge, .cutoff] :=
  ⟨⟨calm_mk (by decide +kernel), by decide +kernel⟩, ⟨calm_mk (by decide +kernel), by decide +kernel⟩,
    ⟨calm_mk (by decide +kernel), by decide +kernel⟩, ⟨⟨calm_mk (by decide +kernel), by decide +kernel⟩, by decide +kernel⟩,
    ⟨⟨calm_mk (by decide +kernel), by decide +kernel⟩, by decide +kernel⟩,
    ⟨⟨calm_mk (by decide +kernel), by decide +kernel⟩, by decide +kernel⟩,
    ⟨⟨calm_mk (by decide +kernel), by decide +kernel⟩, by decide +kernel⟩,
    ⟨calm_mk (by decide +kernel), by decide +kernel⟩,
    ⟨⟨calm_mk (by decide +kernel), by decide +kernel⟩, by decide +kernel⟩,
    ⟨⟨calm_mk (by decide +kernel), by decide +kernel⟩, by decide +kernel⟩, by decide +kernel⟩

theorem wit_DamagedInboundWordsAreDroppedAndReported :
    let s := run .online
    let q := queued 2 [hdr 0x04 5 2, 7] s
    let f := { q with inq := vput q.inq 2 { q.inq.get 2 with fragAt := some 0 } }
    let m := queued 2 [hdr 0x04 5 1 ||| 1, 7] s
    let d := { s with
      link := { s.link with collide := 4 }
      inq := vput s.inq 2 { words := [hdr 0x04 5 1, 7], offered := 2, cons := 0, damaged := true, sound := 1, fragAt := none } }
    let o := { s with deolo := { s.deolo with tags := [{ inFlight with done := true, out := [[1, 2]] }] } }
    (firmwareTakes s = true ∧ domainDown s 2 = false ∧ (2 : Mb) ≠ 15 ∧ (2 : Mb) ≠ 14) ∧
    ((f.inq.get 2).words = [hdr 0x04 5 2, 7] ∧ (f.inq.get 2).fragAt ≠ none ∧ 0 < takeable (f.inq.get 2) ∧
      takeable (f.inq.get 2) < (hdr 0x04 5 2).field 10 5 + 1 ∧ firmwareTakes f = true) ∧
    ((d.inq.get 2).damaged = true ∧ d.link.collide.testBit (2 : Mb).val = true ∧
      messageAt 64 (d.inq.get 2).words 0 (d.inq.get 2).sound = some (hdr 0x04 5 1, 0)) ∧
    (headMsg m 2 = some (hdr 0x04 5 1 ||| 1, [7]) ∧ (hdr 0x04 5 1 ||| 1).field 0 8 ≠ 0) ∧
    (session? o 2 = none ∧ (o.outq.get 2).words = [] ∧ inFlight.left = none) := by decide +kernel

/-- A mode as the body of MODE_REQUEST. -/
def modeWord (m : Mode) : Word := BitVec.ofNat 32 m.code

theorem wit_TheHostChangesModesAndIsolates_mode :
    let s := run .standby
    let b := par [(Prm.SYS_BLACK_START, 1), (chId 0 Chp.ROLE, 2)] (chan 0 (fun x => { x with present := true }) s)
    (Ready 10 0x20 5 [modeWord .commission] s ∧ secureOn (told 10 0x20 5 [modeWord .commission] s) 10 = true ∧
      requestHolds s ((modeWord .commission).field 0 4) = true ∧ s.sys.mode ≠ .handover ∧ s.bus.strobe = false ∧
      requestSecure s ((modeWord .standby).field 0 4) = false ∧ standbyWaits s = false ∧
      (modeWord .commission).field 0 4 ≠ Mode.bridge.code ∧ (modeWord .commission).field 0 4 ≠ Mode.dormant.code) ∧
    (Ready 10 0x20 5 [modeWord .dormant] s ∧ requestHolds s ((modeWord .dormant).field 0 4) = true ∧
      (modeWord .dormant).field 0 4 = Mode.dormant.code) ∧
    (Ready 10 0x20 5 [modeWord .bridge] b ∧ requestHolds b ((modeWord .bridge).field 0 4) = true ∧
      (modeWord .bridge).field 0 4 = Mode.bridge.code) ∧
    (Ready 10 0x20 5 [modeWord .recharge] s ∧ requestHolds s ((modeWord .recharge).field 0 4) = false ∧
      requestSecure s ((modeWord .recharge).field 0 4) = false) ∧
    (Ready 10 0x20 5 [modeWord .standby] (run .handover) ∧ (run .handover).sys.mode = .handover) :=
  ⟨⟨⟨calm_mk (by decide +kernel), by decide +kernel⟩, by decide +kernel⟩,
    ⟨⟨calm_mk (by decide +kernel), by decide +kernel⟩, by decide +kernel⟩,
    ⟨⟨calm_mk (by decide +kernel), by decide +kernel⟩, by decide +kernel⟩,
    ⟨⟨calm_mk (by decide +kernel), by decide +kernel⟩, by decide +kernel⟩,
    ⟨⟨calm_mk (by decide +kernel), by decide +kernel⟩, by decide +kernel⟩⟩

theorem wit_TheHostChangesModesAndIsolates_rest :
    let s := run .online
    let o := chan 3 (fun x => { x with st := .opened }) s
    let l : List Word := List.replicate 30 0
    (Ready 10 0x21 5 [8] o ∧ (8 : Word).bit 31 = false ∧ fireOn o = false ∧ (8 : Word).bit (3 : Ch).val = true ∧
      (o.chan 3).st ≠ .disabled) ∧
    (Ready 10 0x22 5 [8] s ∧ s.sys.mode = .online) ∧
    (Ready 10 0x23 5 [0x10000002] s ∧ (0x10000002 : Word).field 28 4 = 1 ∧
      grpNamed ((0x10000002 : Word).field 0 4) = [1] ∧ s.svc.reloads = [] ∧
      ∀ k, (s.group k).reloading = false ∧ (s.group k).ctrl = none) ∧
    (Ready 10 0x23 5 [0x20000002] s ∧ (0x20000002 : Word).field 28 4 = 2 ∧
      grpNamed ((0x20000002 : Word).field 0 4) = [1]) ∧
    (Ready 10 0x70 5 (0x00010000 :: l) (run .commission) ∧ secureOn (told 10 0x70 5 (0x00010000 :: l) (run .commission)) 10 = true ∧
      (0x00010000 : Word).field 16 16 = (1 : Fin 3).val ∧ l.length = 30) :=
  ⟨⟨⟨calm_mk (by decide +kernel), by decide +kernel⟩, by decide +kernel⟩,
    ⟨⟨calm_mk (by decide +kernel), by decide +kernel⟩, by decide +kernel⟩,
    ⟨⟨calm_mk (by decide +kernel), by decide +kernel⟩, by decide +kernel⟩,
    ⟨⟨calm_mk (by decide +kernel), by decide +kernel⟩, by decide +kernel⟩,
    ⟨⟨calm_mk (by decide +kernel), by decide +kernel⟩, by decide +kernel⟩⟩

/-- A CH_CTRL command for channel 3 waits; the channel has a role and stands in a state. -/
def ctrl (act : Nat) (role : Int) (st : ChSt) : State :=
  told 10 0x60 5 [BitVec.ofNat 32 (act * 2 ^ 24 + 8)] (par [(chId 3 Chp.ROLE, role)]
    (chan 3 (fun x => { x with st := st, present := true, equal := true }) (run .online)))

/-- What every clause on CH_CTRL asks. -/
abbrev CtrlReady (act : Nat) (s : State) : Prop :=
  let w : Word := BitVec.ofNat 32 (act * 2 ^ 24 + 8)
  (Calm 10 0x60 5 [w] s ∧ Still 3 s) ∧ sessionGate s 10 0x60 = none ∧ w.field 24 8 = act ∧ chNamed (chWord w) = [3] ∧
    isolated s 3 = false ∧ ctrlModes act s.sys.mode = true ∧ chn s 3 Chp.INRUSH_AUTO ≠ 1

theorem wit_ChannelsActOnlyFromTheStatesOfTheirRow_ctrl :
    (CtrlReady Act.OPEN (ctrl Act.OPEN 3 .on) ∧ ((ctrl Act.OPEN 3 .on).chan 3).st.conducts = true ∧
      secureOn (ctrl Act.OPEN 3 .on) 10 = true) ∧
    (CtrlReady Act.CLOSE (ctrl Act.CLOSE 3 .opened) ∧ ((ctrl Act.CLOSE 3 .opened).chan 3).present = true ∧
      ((ctrl Act.CLOSE 3 .opened).chan 3).equal = true ∧ ((ctrl Act.CLOSE 3 .opened).chan 3).shed = false ∧
      shedWaits (ctrl Act.CLOSE 3 .opened) 3 = false ∧
      roleOf (ctrl Act.CLOSE 3 .opened) 3 ≠ .source) ∧
    (CtrlReady Act.ARM (ctrl Act.ARM 2 .on) ∧ roleOf (ctrl Act.ARM 2 .on) 3 = .battery) ∧
    (CtrlReady Act.DISARM (ctrl Act.DISARM 2 .armed) ∧ roleOf (ctrl Act.DISARM 2 .armed) 3 = .battery) ∧
    (CtrlReady Act.CLEAR (ctrl Act.CLEAR 3 .latched) ∧ clearAccepted (ctrl Act.CLEAR 3 .latched) 3 = true) ∧
    CtrlReady Act.PRESENCE (ctrl Act.PRESENCE 3 .opened) :=
  ⟨⟨⟨⟨calm_mk (by decide +kernel), still_mk (by decide +kernel)⟩, by decide +kernel⟩, by decide +kernel⟩,
    ⟨⟨⟨calm_mk (by decide +kernel), still_mk (by decide +kernel)⟩, by decide +kernel⟩, by decide +kernel⟩,
    ⟨⟨⟨calm_mk (by decide +kernel), still_mk (by decide +kernel)⟩, by decide +kernel⟩, by decide +kernel⟩,
    ⟨⟨⟨calm_mk (by decide +kernel), still_mk (by decide +kernel)⟩, by decide +kernel⟩, by decide +kernel⟩,
    ⟨⟨⟨calm_mk (by decide +kernel), still_mk (by decide +kernel)⟩, by decide +kernel⟩, by decide +kernel⟩,
    ⟨⟨calm_mk (by decide +kernel), still_mk (by decide +kernel)⟩, by decide +kernel⟩⟩

theorem wit_ChannelsActOnlyFromTheStatesOfTheirRow_refused :
    let s := chan 3 (fun x => { x with causes := 512 }) (ctrl Act.CLEAR 3 .latched)
    CtrlReady Act.CLEAR s ∧ (s.chan 3).st = .latched ∧ clearAccepted s 3 = false :=
  ⟨⟨⟨calm_mk (by decide +kernel), still_mk (by decide +kernel)⟩, by decide +kernel⟩, by decide +kernel⟩

/-- A running Hatan whose channel 3 carries string 0. -/
def strung (st : ChSt) (m : Mode) : State :=
  par [(chId 3 Chp.ROLE, 2), (chId 3 Chp.BAT_STRING, 0)] (chan 3 (fun x => { x with st := st }) (run m))

theorem wit_ChannelsActOnlyFromTheStatesOfTheirRow_op :
    let s := strung .opened .online
    let a := strung .armed .online
    (Ready 10 0x30 5 [0x01000008] s ∧ chNamed (chWord 0x01000008) = [3] ∧ isolated s 3 = false ∧ s.svc.debug = 0 ∧
      (s.chan 3).st = .opened ∧ (0x01000008 : Word).field 24 8 = Opn.INRUSH ∧ ∀ id, inrushModes s 3 (.host id) = true) ∧
    (Ready 10 0x30 5 [0x02000008, 0x0010000A] s ∧ (0x02000008 : Word).field 24 8 = Opn.FET_TEST ∧
      opModes Opn.FET_TEST s.sys.mode = true ∧ 1 ≤ (0x0010000A : Word).field 16 16 ∧ (0x0010000A : Word).field 16 16 ≤ 1000 ∧
      10 ≤ (0x0010000A : Word).field 0 16 ∧ chQueued s 3 = none ∧ (s.chan 3).grant = none) ∧
    (Ready 10 0x30 5 [0x03000008, 0x000107D0, 100] a ∧ testMapOk a (chWord 0x03000008) = true ∧
      opModes Opn.CAP_TEST a.sys.mode = true ∧ (0x03000008 : Word).field 24 8 = Opn.CAP_TEST ∧
      testArgsOk Opn.CAP_TEST (0x000107D0 : Word).toNat (100 : Word).toNat = true ∧
      ∀ k ∈ chNamed (chWord 0x03000008), isolated a k = false) ∧
    (Ready 10 0x30 5 [0x04000008, 60, 2000] a ∧ (0x04000008 : Word).field 24 8 = Opn.DUR_TEST ∧
      testArgsOk Opn.DUR_TEST (60 : Word).toNat (2000 : Word).toNat = true) :=
  ⟨⟨⟨calm_mk (by decide +kernel), by decide +kernel⟩, by decide +kernel, by decide +kernel, by decide +kernel,
      by decide +kernel, by decide +kernel, fun _ => rfl⟩,
    ⟨⟨calm_mk (by decide +kernel), by decide +kernel⟩, by decide +kernel⟩,
    ⟨⟨calm_mk (by decide +kernel), by decide +kernel⟩, by decide +kernel⟩,
    ⟨⟨calm_mk (by decide +kernel), by decide +kernel⟩, by decide +kernel⟩⟩

/-! ### Writes of parameters -/

/-- A running Hatan with a secure session on channel 10. -/
def spoken (m : Mode) : State := opened 10 (some ses) (run m)

theorem wit_ConverterAndTrackerWritesActAtOnce :
    let s := par [(Prm.ACC_TRKCFG0, 4), (Prm.CNV_URG0, 0x1000)] (spoken .online)
    let b := { s with cnv := { s.cnv with seq := vput s.cnv.seq 0 ({ s.cnv.seq.get 0 with run := some (startRun (s.cnv.seq.get 0) 1 1) }) } }
    (Takes 10 [itemOf Prm.CNV_START 0x203] s ∧ s.cnv.on = true ∧ fieldOf (itemOf Prm.CNV_START 0x203).value.toNat 8 2 = 2 ∧
      (s.cnv.seq.get 2).run = none) ∧
    (Takes 10 [itemOf Prm.CNV_START 0x003] b ∧ (b.cnv.seq.get 0).run ≠ none) ∧
    (Takes 10 [itemOf Prm.CNV_URGENT 1] s ∧
      ((pn s (Prm.CNV_URG0 + (0 : Grp).val)).testBit 12 && (itemOf Prm.CNV_URGENT 1).value.toNat.testBit (0 : Grp).val) = true) ∧
    Takes 10 [itemOf Prm.ACC_CLEAR 0x01000001] s ∧ Takes 10 [itemOf Prm.ACC_CLEAR 0x01050200] s ∧
    (Takes 10 [itemOf Prm.ACC_CLEAR 0x02050200] s ∧ fieldOf (itemOf Prm.ACC_CLEAR 0x02050200).value.toNat 24 8 = 2) ∧
    (Takes 10 [itemOf Prm.ACC_TRK_FREEZE 1] s ∧
      ((pn s (Prm.ACC_TRKCFG0 + (0 : Fin 12).val)).testBit 2 &&
        (itemOf Prm.ACC_TRK_FREEZE 1).value.toNat.testBit (0 : Fin 12).val) = true) ∧
    (Takes 10 [itemOf Prm.ACC_TRK_REL 1] s ∧ (itemOf Prm.ACC_TRK_REL 1).value.toNat.testBit (0 : Fin 12).val = true) :=
  ⟨⟨takes_mk (by decide +kernel), by decide +kernel⟩, ⟨takes_mk (by decide +kernel), by decide +kernel⟩,
    ⟨takes_mk (by decide +kernel), by decide +kernel⟩, takes_mk (by decide +kernel), takes_mk (by decide +kernel),
    ⟨takes_mk (by decide +kernel), by decide +kernel⟩, ⟨takes_mk (by decide +kernel), by decide +kernel⟩,
    ⟨takes_mk (by decide +kernel), by decide +kernel⟩⟩

theorem wit_CalibrationGoesThroughItsSteps :
    let s := par [(Prm.CNV_CAL_F, 1000)] (spoken .commission)
    let t := { s with cnv := { s.cnv with cal := { s.cnv.cal with step := 2, zero := some (0, 0, 0) } } }
    let u := { s with cnv := { s.cnv with cal := { s.cnv.cal with step := 4, zero := some (0, 0, 0), full := some (0, 1000, 100) } } }
    let v := { s with cnv := { s.cnv with cal := { s.cnv.cal with step := 4, zero := some (0, 0, 0), full := some (0, 1000, 20000) } } }
    Takes 10 [itemOf Prm.CNV_CAL_CMD 1] s ∧ Takes 10 [itemOf Prm.CNV_CAL_CMD 2] t ∧
    (Takes 10 [itemOf Prm.CNV_CAL_CMD 3] u ∧ ((100 : Int) - 0).natAbs < 16384) ∧
    (Takes 10 [itemOf Prm.CNV_CAL_CMD 3] v ∧ 16384 ≤ ((20000 : Int) - 0).natAbs) ∧
    Takes 10 [itemOf Prm.CNV_CAL_CMD 4] s ∧ Takes 10 [itemOf Prm.CNV_CAL_CMD 5] s ∧
    Takes 10 [itemOf Prm.CNV_CAL_OFS 0, itemOf Prm.CNV_CAL_GAIN 1310720000] s :=
  ⟨takes_mk (by decide +kernel), takes_mk (by decide +kernel), ⟨takes_mk (by decide +kernel), by decide +kernel⟩,
    ⟨takes_mk (by decide +kernel), by decide +kernel⟩, takes_mk (by decide +kernel), takes_mk (by decide +kernel),
    takes_mk (by decide +kernel)⟩

theorem wit_TimerRegistersTakeTheirWritesAndReads :
    let s := spoken .online
    let p := { s with tmr := { s.tmr with t := vput s.tmr.t 0 { s.tmr1 0 with cfg := 0x80000000 } } }
    let r := { s with tmr := { s.tmr with t := vput s.tmr.t 0 { s.tmr1 0 with cfg := 0x10000, run := true } } }
    (tLow s 0 = 0 ∧ (s.tmr1 0).frozen = false ∧ tLow r 0 = 0 ∧ (r.tmr1 0).frozen = false ∧ (s.tmr1 0).run = false ∧
      (r.tmr1 0).run = true ∧ fieldOf (r.tmr1 0).cfg 16 2 = 1 ∧ fieldOf (s.tmr1 0).cfg 16 2 ≠ 1 ∧ tUpDown (s.tmr1 0) = false) ∧
    Takes 10 [itemOf (tmrId 0 Tmrp.CTRL) 1] s ∧ Takes 10 [itemOf (tmrId 0 Tmrp.CTRL) 2] s ∧
    Takes 10 [itemOf (tmrId 0 Tmrp.CTRL) 4] s ∧
    (Takes 10 [itemOf (tmrId 0 Tmrp.CFG) 0x4000000] s ∧
      fieldOf (s.tmr1 0).cfg 26 4 ≠ fieldOf (itemOf (tmrId 0 Tmrp.CFG) 0x4000000).value.toNat 26 4) ∧
    Takes 10 [itemOf (tmrId 0 Tmrp.PERIOD) 1000] r ∧ Takes 10 [itemOf (tmrId 0 Tmrp.PERIOD) 1000] s ∧
    Takes 10 [itemOf (tmrId 0 Tmrp.CMP) 500] r ∧ Takes 10 [itemOf (tmrId 0 Tmrp.CMP) 500] s ∧
    Takes 10 [itemOf (tmrId 0 Tmrp.CNT) 7] (spoken .commission) ∧
    Takes 10 [itemOf (tmrId 0 Tmrp.CAPCFG) 0x10001] (spoken .commission) ∧
    (firmwareTakes p = true ∧ sessionStatus p 10 = St.OK ∧ tPaired p 0 = true) ∧
    Takes 10 [itemOf (ktId 1 Ktp.VALUE) 7] (spoken .commission) ∧
    Takes 10 [itemOf Prm.TMR_FL0_STUCK_MS 100] (spoken .commission) := by
  refine ⟨?_, takes_mk ?_, takes_mk ?_, takes_mk ?_, ⟨takes_mk ?_, ?_⟩, takes_mk ?_, takes_mk ?_, takes_mk ?_, takes_mk ?_,
    takes_mk ?_, takes_mk ?_, ?_, takes_mk ?_, takes_mk ?_⟩ <;> decide +kernel

/-- Data of a SAFE-KEEP sheet: the magic, the layout and zeros. -/
def sheetWords : List Word := [0x5A48534B, 0x00010003] ++ List.replicate 76 0

set_option maxRecDepth 65536 in
theorem wit_SheetUpdateMeterAndLogWritesTakeEffect :
    let s := spoken .commission
    let c := { s with tin := { s.tin with staged := .ofFn fun i => some ((sheetWords.drop (26 * i.val)).take 26) } }
    let a := { spoken .standby with svc := { s.svc with bankB := { s.svc.bankB with st := Bst.STAGED } } }
    let b := { spoken .standby with svc := { s.svc with bankB := { s.svc.bankB with st := Bst.TRIAL } } }
    let m := { s with xam := { s.xam with fitted := true }, met := { s.met with st := 2 } }
    (Takes 10 [itemOf Prm.SFK_COMMIT 407323051] c ∧ stagedData c = some sheetWords) ∧
    (Takes 10 [itemOf Prm.SFK_DRILL 0x5AFE] s ∧ tinActs s = true) ∧
    Takes 10 [itemOf Prm.UPD_TAKEOVER 0x5A0B] a ∧ (Takes 10 [itemOf Prm.UPD_CONFIRM 0x5A0B] b ∧ b.svc.bankB.st = Bst.TRIAL) ∧
    Takes 10 [itemOf Prm.UPD_ROLLBACK 0x5A0B] b ∧ (Takes 10 [itemOf Prm.MET_AUDIT_SEL 1] m ∧ meterPresent m = true) ∧
    (Takes 10 [itemOf Prm.LOG_CURSOR 0xFFFFFF] s ∧ session? s 10 = some ses) ∧
    (firmwareTakes s = true ∧ sessionStatus s 10 = St.OK) := by
  refine ⟨⟨takes_mk ?_, ?_⟩, ⟨takes_mk ?_, ?_⟩, takes_mk ?_, ⟨takes_mk ?_, ?_⟩, takes_mk ?_, ⟨takes_mk ?_, ?_⟩,
    ⟨takes_mk ?_, ?_⟩, ?_⟩ <;> decide +kernel

/-- A frame of the log. -/
def frame1 : Frame := { seq := 1, code := 0x0101, sev := 2, obj := 3, time := 0, data := [7] }

/-- A summary that waits for room. -/
def summ1 : Summ := Summ.mk 0x0101 3 2 2 5 0 0 0 0 []

theorem wit_TheEventLogIsReadClearedWrittenAndSummed :
    let s := { run .online with log := { (run .online).log with buf := [frame1], nextSeq := 2 } }
    let h := { s with
      pwr := { s.pwr with warn := true }
      nvs := { s.nvs with flushUs := 100, holdT := 10 } }
    let d := { s with log := { s.log with summs := [summ1] } }
    let e := told 2 0x40 5 [4] s
    let a := told 2 0x50 5 [0x01000002, 3] s
    let r := told 2 0x50 5 [0x02000000, 2] s
    (Ready 2 0x40 5 [4] s ∧ session? e 2 = some ses ∧ (4 : Word).field 0 16 ≠ 0 ∧ framesAfter e ses.cursor 4 ≠ [] ∧
      (segments 0x40 5 0 (packSegs ((framesAfter e ses.cursor 4).map Frame.words) []) ++
          [message 0x40 5 1 St.OK [wd (framesAfter e ses.cursor 4).length]]).flatten.length ≤ 64) ∧
    (Ready 2 0x41 5 [5] s ∧ newer ((5 : Word).field 0 24) (lastSeq s) = true) ∧
    (Ready 2 0x41 5 [1] s ∧ newer ((1 : Word).field 0 24) (lastSeq s) = false) ∧
    (Ready 2 0x50 5 [0x01000002, 3] s ∧ (0x01000002 : Word).field 24 8 = 1 ∧ (3 : Word).bit 30 = false ∧
      (snapSegs a 1 2 3).length = 1) ∧
    (Ready 2 0x50 5 [0x01000002, 0xC0000003] s ∧ (0xC0000003 : Word).bit 30 = true ∧ (0xC0000003 : Word).field 0 8 = 3) ∧
    (Ready 2 0x50 5 [0x02000000, 2] s ∧ (snapSegs r 2 0 2).length = 1) ∧
    (Ready 2 0x50 5 [0x02000000, 0x40000002] s ∧ (0x40000002 : Word).bit 31 = false) ∧
    (s.log.ready = true ∧ anyPup s = true ∧ s.log.buf = [frame1] ∧ frame1.sev < 4 ∧ frame1.bytes ≤ 1000 ∧
      writeDue s = true ∧ holdOk s (tw50 frame1.bytes) = true ∧ writeDue h = true ∧ holdOk h (tw50 frame1.bytes) = false) ∧
    ((d.log.summs.filter fun y => y.reason == 2) = [summ1] ∧ bufUsed d + 44 ≤ 65536 ∧ summ1.sev ≠ 0) := by
  refine ⟨⟨⟨calm_mk ?_, ?_⟩, ?_⟩, ⟨⟨calm_mk ?_, ?_⟩, ?_⟩, ⟨⟨calm_mk ?_, ?_⟩, ?_⟩, ⟨⟨calm_mk ?_, ?_⟩, ?_⟩,
    ⟨⟨calm_mk ?_, ?_⟩, ?_⟩, ⟨⟨calm_mk ?_, ?_⟩, ?_⟩, ⟨⟨calm_mk ?_, ?_⟩, ?_⟩, ?_, ?_⟩ <;> decide +kernel

/-- A running Hatan whose channel 3 has a role and a state. -/
def stood (role : Int) (st : ChSt) (m : Mode) : State :=
  par [(chId 3 Chp.ROLE, role)] (chan 3 (fun x => { x with st := st }) (run m))

theorem wit_ReflexesAndTicksOfTheMarionettes :
    let s := chan 3 (fun x => { x with lRole := .source, lRc := 5 }) (stood 1 .on .online)
    let l := chan 3 (fun x => { x with lRole := .load, lRc := 5 }) (stood 3 .on .online)
    let g := { s with grp := vput s.grp 0 { s.group 0 with reloading := true } }
    let b := chan 3 (fun x => { x with lRole := .battery, lSt := .armed, lRc := 5 }) (stood 2 .armed .online)
    let k := { chan 3 (fun x => { x with keep := true }) s with tin := { s.tin with override := true } }
    (s.cnv.on = true ∧ s.sys.standbyDue = none ∧ s.sys.mode ≠ .bridge ∧ s.sys.mode ≠ .cutoff ∧ s.sys.blackStart = false ∧ s.svc.op = none ∧
      s.adm.queue = [] ∧ roleOf s 3 ≠ .disabled) ∧
    (reflexLive s 3 = true ∧ (s.chan 3).st.conducts = true ∧ Alone 3 s ∧ actionIn (roleOf s 3) (s.chan 3).lRules 1 = some 1 ∧
      rcCause (s.chan 3).lRole = some 3 ∧ (s.chan 3).lRc ≠ 0 ∧ actionIn (roleOf s 3) (s.chan 3).lRules 3 = some 2) ∧
    (reflexLive l 3 = true ∧ Alone 3 l ∧ rcCause (l.chan 3).lRole = some 2 ∧ (l.chan 3).lRc ≠ 0 ∧
      actionIn (roleOf l 3) (l.chan 3).lRules 2 = some 3) ∧
    (reflexLive k 3 = true ∧ (k.chan 3).st.conducts = true ∧ k.tin.override = true) ∧
    (reflexLive g 3 = true ∧ (g.chan 3).st.conducts = true ∧ (g.group (groupOf 3)).reloading = true ∧
      g.tin.override = false ∧ g.sys.blackStart = false ∧ g.svc.op = none) ∧
    (reflexLive b 3 = true ∧ (b.chan 3).st.conducts = true ∧ (b.chan 3).lRole = .battery ∧ (b.chan 3).lSt = .armed ∧
      (b.chan 3).lRc ≠ 0 ∧ (b.chan 3).reflexed = false ∧ (b.chan 3).st = .armed) := by
  refine ⟨?_, ⟨?_, ?_, alone_mk ?_, ?_⟩, ⟨?_, alone_mk ?_, ?_⟩, ?_, ?_, ?_⟩ <;> decide +kernel

/-- An inrush in a phase. -/
def inr1 (phase : Nat) (fet : Option Fet) : Inr :=
  { phase := phase, outward := true, ticks := 0, sum16 := 0, dv0 := 0, charge16 := 0, peak := 0, granted := 0,
    filer := .auto, followed := false, fet := fet }

/-- A running load on channel 3 in its inrush. -/
def inrushing (phase : Nat) (fet : Option Fet) : State :=
  chan 3 (fun x => { x with inr := some (inr1 phase fet) }) (par [(chId 3 Chp.ROLE, 3), (chId 3 Chp.INRUSH_AUTO, 0)]
    (chan 3 (fun x => { x with st := .inrush }) (run .online)))

theorem wit_ChannelsInrushTestAndWear :
    let p := fun s : State => (s.adm.queue = [] ∧ s.bus.walk.get 3 = .out ∧ s.bat.test = none ∧ s.sys.blackStart = false ∧
      s.svc.op = none ∧ runs s 3 = true)
    let f := some (Fet.mk 1 10 0 0)
    let l := par [(chId 3 Chp.ROLE, 3), (chId 3 Chp.INRUSH_AUTO, 0), (chId 3 Chp.PRES_MODE, 1), (chId 3 Chp.PRES_MV, 20000)]
      (chan 3 (fun x => { x with gateA := .lowFull, gateB := .lowFull, st := .wait }) (run .online))
    let a := par [(chId 3 Chp.ROLE, 3), (chId 3 Chp.INRUSH_AUTO, 1)]
      (chan 3 (fun x => { x with st := .opened, present := true }) (run .online))
    (p (inrushing 1 none) ∧ ((inrushing 1 none).chan 3).inr = some (inr1 1 none)) ∧
    (p (inrushing 2 none) ∧ ((inrushing 2 none).chan 3).inr = some (inr1 2 none) ∧ ((inrushing 2 none).chan 3).st = .inrush ∧
      roleOf (inrushing 2 none) 3 ≠ .source ∧ actionOf (inrushing 2 none) 3 7 = some 1) ∧
    (p (inrushing 2 f) ∧ ((inrushing 2 f).chan 3).inr = some (inr1 2 f) ∧ chn (inrushing 2 f) 3 Chp.INRUSH_AUTO ≠ 1) ∧
    (l.cnv.on = true ∧ (l.chan 3).low = true ∧ chn l 3 Chp.PRES_MODE = 1 ∧ chn l 3 Chp.INRUSH_AUTO ≠ 1 ∧ Alone 3 l ∧
      presLevel l 3 (16 * 20000) = some (!(l.chan 3).present) ∧ presLevel l 3 (16 * 19999) = none ∧
      presLevel l 3 (16 * 18999) = some false ∧ (l.chan 3).present = false) ∧
    (autoReady l 3 = false ∧ autoReady a 3 = true ∧ a.adm.queue = [] ∧ (a.group (groupOf 3)).reloading = false ∧
      firmRefuses a 3 = false) ∧
    (a.sys.phase = .run ∧ anyPup a = true) := by
  refine ⟨?_, ?_, ?_, ⟨?_, ?_, ?_, ?_, alone_mk ?_, ?_⟩, ?_, ?_⟩ <;> decide +kernel

/-- A tripped load on channel 3 whose yo-yo stands so. -/
def tripped (y : Yoyo) (f : Chan → Chan) : State :=
  chan 3 (fun x => f { x with yoyo := y }) (par [(chId 3 Chp.ROLE, 3), (chId 3 Chp.INRUSH_AUTO, 0)]
    (chan 3 (fun x => { x with st := .tripped }) (run .online)))

theorem wit_TripsAndRetriesOfAChannel :
    let s := par [(chId 3 Chp.ROLE, 3), (chId 3 Chp.UV_MV, 5000), (chId 3 Chp.OL_MA, 100), (chId 3 Chp.TRIP_RULES, 0xFFF11FFF)]
      (chan 3 (fun x => { x with st := .on }) (run .online))
    let d := tripped (.delay 0) id
    let e := tripped (.delay 0) fun x => { x with shed := true }
    let w := tripped .waiting id
    let v := tripped .waiting fun x => { x with shed := true }
    let u := fun s => modCh 3 (fun x => { x with fUv := false, uvRun := 0, clearRun := max x.clearRun (chn s 3 Chp.UV_FILT_US) }) s
    let p := fun s : State => (s.cnv.on = true ∧ roleOf s 3 ≠ .disabled ∧ chn s 3 Chp.INRUSH_AUTO ≠ 1 ∧
      (s.chan 3).st = .tripped ∧ firmRefuses s 3 = false)
    (Alone 3 s ∧ s.cnv.on = true ∧ roleOf s 3 ≠ .disabled ∧ (s.chan 3).st.conducts = true ∧ chn s 3 Chp.UV_MV / 50 ≠ 0 ∧
      actionOf s 3 (uvCause s 3) = some 1 ∧ chn s 3 Chp.OL_MA ≠ 0 ∧ actionOf s 3 5 = some 1 ∧ driveLeft (s.chan 3) .pump ≠ none ∧
      (s.chan 3).st = .on) ∧
    (Alone 3 d ∧ p d ∧ (d.chan 3).yoyo = .delay 0 ∧ attemptReady d 3 = true) ∧
    (Alone 3 e ∧ p e ∧ (e.chan 3).yoyo = .delay 0 ∧ attemptReady e 3 = false) ∧
    (Alone 3 w ∧ p w ∧ (w.chan 3).yoyo = .waiting ∧ waitClear (u w) 3 = true ∧ attemptReady (u w) 3 = true) ∧
    (Alone 3 v ∧ p v ∧ (v.chan 3).yoyo = .waiting ∧ attemptReady (u v) 3 = false) := by
  refine ⟨⟨alone_mk ?_, ?_⟩, ⟨alone_mk ?_, ?_⟩, ⟨alone_mk ?_, ?_⟩, ⟨alone_mk ?_, ?_⟩, ⟨alone_mk ?_, ?_⟩⟩ <;> decide +kernel

theorem wit_ACycleBoundaryEndsOneCycleAndBeginsTheNext :
    let s := run .online
    let b := { s with cnv := { s.cnv with refBad := vput s.cnv.refBad 1 1 } }
    let k := fun (l : Lock) (n : Nat) => { s with mb := { s.mb with lock := l, holdCnt := n, lastRef := 1 } }
    scanRuns s = true ∧ (0 : Fin 4).val = pn s Prm.BUS_SENSE % 4 ∧
    (scanRuns b = true ∧ refIn 1206001 = false ∧ 1 ≤ b.cnv.refBad.get 1) ∧
    (mbRuns s = true ∧ s.mb.srcNew = false ∧ dueIds .cyc s = []) ∧ (s.mb.lock = .free) ∧
    (∀ x : Lock × Nat, x ∈ [(Lock.holdover, 0), (Lock.holdover, 1), (Lock.slew, 0), (Lock.locked, 0)] →
      scanRuns (k x.1 x.2) = true ∧ mbRuns (k x.1 x.2) = true ∧ (k x.1 x.2).mb.srcNew = false ∧ dueIds .cyc (k x.1 x.2) = [] ∧
        (k x.1 x.2).mb.lastRef ≠ 0) := by decide +kernel

theorem wit_ReadingsRecoverAndAGroupComesBack :
    let s := run .online
    let n := { s with cnv := { s.cnv with ntc := vput s.cnv.ntc 2 { s.cnv.ntc.get 2 with good := 3 } } }
    let v := par [(Prm.CNV_NTC_EN, 4)] n
    let d := { s with pwr := { s.pwr with dieHot := true, coolCnt := 10 } }
    let g := { s with grp := vput s.grp 1 { s.group 1 with reloading := true } }
    (scanRuns v = true ∧ (v.cnv.ntc.get 2).st ≠ .valid ∧ 3 ≤ (v.cnv.ntc.get 2).good ∧
      (pn v Prm.CNV_NTC_EN).testBit (2 : Ntc).val = true) ∧
    (d.pwr.dieHot = true ∧ 10 ≤ d.pwr.coolCnt) ∧
    ((g.group 1).reloading = true ∧ anyPup g = true ∧ g.svc.phase ≠ 7 ∧ g.svc.reloads = [] ∧ (g.group 1).ctrl = none ∧
      g.mb.held = []) := by decide +kernel

theorem wit_TheBusTheArbiterAndTheModesFollowTheirEvents :
    let s := run .online
    let b := { s with bus := { s.bus with strobe := true } }
    let a := par [(Prm.SYS_AUTO_ONLINE, 1), (chId 3 Chp.ROLE, 1)]
      (chan 3 (fun x => { x with present := true, vs := 54000, st := .opened }) { run .standby with mb := { s.mb with mains := true, lock := .locked } })
    let z := par [(Prm.SYS_AUTO_ONLINE, 1)] (run .standby)
    let c := par [(Prm.SYS_CUTOFF_DORMANT_S, 60)] (run .cutoff)
    let e := { s with bus := { s.bus with capState := 1, capLow := 10 } }
    let p := { s with bus := { s.bus with peakAt := some 0, peakOp := some 4 } }
    let r := { s with shb := { s.shb with dev := vput s.shb.dev 5 { s.shb.dev.get 5 with miss := 3 } } }
    let w := { s with bus := { s.bus with walk := vput s.bus.walk 5 .queued } }
    let w0 := par [(Prm.ADM_WALKIN_PAR, 0)] w
    let x := { s with bus := { s.bus with walk := vput s.bus.walk 5 (.ramp 0) } }
    let o := { s with adm := { s.adm with queue := [Op.blank Opn.PEAK] } }
    (fwActs b = true ∧ b.bus.strobe = true ∧ b.sys.mode ∈ [Mode.online, .recharge, .maintain] ∧ b.svc.newOn = none) ∧
    (fwActs a = true ∧ a.sys.mode = .standby ∧ pb a Prm.SYS_AUTO_ONLINE = true ∧ a.bus.strobe = false ∧
      requestHolds a Mode.online.code = true) ∧
    (fwActs z = true ∧ z.sys.mode = .standby ∧ pb z Prm.SYS_AUTO_ONLINE = true ∧ z.bus.strobe = false ∧
      requestHolds z Mode.online.code = false) ∧
    (fwActs c = true ∧ c.sys.mode = .cutoff ∧ c.mb.mains = false ∧ pn c Prm.SYS_CUTOFF_DORMANT_S ≠ 0 ∧ c.sys.dormDue = false) ∧
    (fwActs e = true ∧ e.bus.capState ≠ 0 ∧ 10 ≤ e.bus.capLow) ∧
    (fwActs p = true ∧ p.bus.peakAt = some 0 ∧ p.bus.peakOp = some 4 ∧ p.adm.queue = []) ∧
    (fwActs r = true ∧ 3 ≤ (r.shb.dev.get 5).miss ∧ (r.shb.dev.get 5).left = false) ∧
    (fwActs w = true ∧ w.adm.queue = [] ∧ w.bus.walk.get 5 = .queued ∧ opModes Opn.WALKIN w.sys.mode = true ∧
      w.adm.grants = [] ∧ walkins w < pn w Prm.ADM_WALKIN_PAR ∧ w0.bus.walk.get 5 = .queued ∧
      pn w0 Prm.ADM_WALKIN_PAR ≤ walkins w0) ∧
    (fwActs x = true ∧ x.adm.queue = [] ∧ x.bus.walk.get 5 = .ramp 0) ∧
    (fwActs o = true ∧ o.adm.queue = [Op.blank Opn.PEAK] ∧ (Op.blank Opn.PEAK).code ≠ Opn.HANDOVER) := by decide +kernel

/-- A running Hatan whose channel 3 carries string 0, the string changed. -/
def stringed (st : ChSt) (m : Mode) (f : Strg → Strg) (g : Chan → Chan) : State :=
  let s := chan 3 g (strung st m)
  { s with bat := { s.bat with s := vput s.bat.s 0 (f (s.bat.s.get 0)) } }

theorem wit_StringsFloatEndRestAndRejoin :
    let f := fun m => stringed .on m (fun x => { x with floatFrom := some 0 }) id
    let e := stringed .on .bridge id fun x => { x with vfar := 1000 }
    let e2 := par (e.pf ++ [(chId 4 Chp.ROLE, 2), (chId 4 Chp.BAT_STRING, 1)])
      (chan 4 (fun x => { x with st := .on, vfar := 60000 }) { e with
        bat := { e.bat with s := vput e.bat.s 1 { e.bat.s.get 1 with qInt := 1000000000 } } })
    let n := stringed .on .bridge (fun x => { x with qInt := 1000000000 }) fun x => { x with vfar := 60000 }
    let r := stringed .on .online (fun x => { x with restFrom := some 0 }) fun x => { x with vfar := 50000 }
    let j := stringed .opened .online (fun x => { x with rejoinFrom := some 0, ended := true }) id
    let c := { strung .opened .cutoff with bat := { (strung .opened .cutoff).bat with cutoffDue := true } }
    let t := TestRun.mk 5 Opn.DUR_TEST none 1 [0] 0 0 0 60 0 (.replicate 4 0) (.replicate 4 0) (.replicate 4 0) 0
      (.replicate 4 none)
    let d := { strung .on .online with bat := { (strung .on .online).bat with test := some t } }
    (∀ m, m = .online ∨ m = .recharge → fwActs (f m) = true ∧ boundCh (f m) 0 = some 3 ∧ ((f m).str 0).floatFrom = some 0 ∧
      ((f m).str 0).floatOk = false ∧ (f m).bus.strobe = false ∧ ((f m).group (groupOf 3)).reloading = false ∧
      boundStr (f m) = [0]) ∧
    (fwActs e = true ∧ boundCh e 0 = some 3 ∧ conducts e 3 = true ∧ e.sys.mode = .bridge ∧ eodNow e 0 3 = true ∧
      otherCarries e 0 = false) ∧
    (fwActs e2 = true ∧ boundCh e2 0 = some 3 ∧ conducts e2 3 = true ∧ e2.sys.mode = .bridge ∧ eodNow e2 0 3 = true ∧
      otherCarries e2 0 = true) ∧
    (fwActs n = true ∧ boundCh n 0 = some 3 ∧ conducts n 3 = true ∧ eodNow n 0 3 = false ∧ (n.str 0).eodFrom = none) ∧
    (fwActs r = true ∧ boundCh r 0 = some 3 ∧ (r.str 0).restFrom = some 0 ∧
      (restSoc r 0 ((r.chan 3).vfar : Rat)).isSome = true ∧ (r.str 0).fromFull = false) ∧
    (fwActs j = true ∧ boundCh j 0 = some 3 ∧ (j.str 0).rejoinFrom = some 0 ∧ rejoinMode j = true ∧ (j.str 0).ended = true) ∧
    (fwActs c = true ∧ c.sys.mode = .cutoff ∧ c.bat.cutoffDue = true) ∧
    (fwActs d = true ∧ d.bat.test = some t ∧ t.code = Opn.DUR_TEST ∧ d.adm.queue = []) ∧
    (fwActs (run .commission) = true ∧ stringKinds (run .commission) = false ∧ stringKinds j = true) := by
  refine ⟨?_, ?_, ?_, ?_, ?_, ?_, ?_, ?_, ?_⟩
  · rintro m (rfl | rfl) <;> decide +kernel
  all_goals decide +kernel

/-- The first entry of the drum at pin 100 in every cycle, with an action and its argument. -/
def drummed (a arg : Nat) (s : State) : State := par (((Prm.DRM_PAIR0, (((100 * 2 ^ 20 + a * 2 ^ 17 + arg) * 2 ^ 32 : Nat) : Int))) :: s.pf) s

/-- The first entry acts as the only one up to its place, and its word has the action and argument given. -/
def Acts (a arg : Nat) (s : State) : Prop :=
  mbRuns s = true ∧ entryActs s 0 = true ∧ drumAction (drumWord s 0) = a ∧ drumArg (drumWord s 0) = arg ∧
    drumPin (drumWord s 0) = 100 ∧ entriesTo s (entryKey s 0) = [0]

theorem wit_TheDrumsEntriesActAtTheirPins :
    let s := run .online
    let i := { s with mb := { s.mb with skip := [0] } }
    let p := { s with mb := { s.mb with pat := vput s.mb.pat 1 1 } }
    let b := { s with bus := { s.bus with shareDue := true } }
    let h := { s with bus := { s.bus with stepPending := true } }
    let w := chan 3 (fun x => { x with st := .on }) (par [(chId 3 Chp.ROLE, 3), (chId 3 Chp.INRUSH_AUTO, 0)]
      { s with mb := { s.mb with held := [HeldSw.mk 3 Act.OPEN false 0] } })
    let r := { s with bus := { s.bus with restore := some 4, stage := 2 } }
    let m := { s with bus := { s.bus with stepNow := some 2 } }
    (mbRuns (drummed 1 37 i) = true ∧ entryActs (drummed 1 37 i) 0 = false) ∧
    (Acts 1 37 (drummed 1 37 s) ∧ (1 : Grp).val = 37 / 32 % 4 ∧ (5 : Fin 32).val = 37 % 32 ∧
      ((drummed 1 37 s).cnv.seq.get 1).run = none ∧ ((drummed 1 37 s).cnv.seq.get 1).urgent = false) ∧
    Acts 2 1 (drummed 2 1 s) ∧
    (∀ o ∈ [0, 1, 2, 3], Acts 3 (4 * o + 1) (drummed 3 (4 * o + 1) p) ∧ fieldOf (4 * o + 1) 2 2 = o) ∧
    ((drummed 3 1 p).mb.pat.get 1 ≠ 0 ∧ Acts 3 1 (drummed 3 1 s) ∧ (drummed 3 1 s).mb.pat.get 1 = 0) ∧
    (Acts 4 1 (drummed 4 1 b) ∧ pinEntries (drummed 4 1 b) 100 = [0] ∧ fwActs (drummed 4 1 b) = true ∧ b.bus.shareDue = true) ∧
    (Acts 5 1 (drummed 5 1 h) ∧ h.bus.stepPending = true ∧ h.bus.stepAt = none ∧ h.bus.stepNow = none ∧ h.bus.stage < 4) ∧
    (Acts 6 3 (drummed 6 3 w) ∧ 3 % 32 < 24 ∧ (drummed 6 3 w).mb.held = [HeldSw.mk 3 Act.OPEN false 0]) ∧
    (mbRuns m = true ∧ m.bus.stepNow = some 2 ∧ m.bus.stage < 2 ∧ m.bus.restoreNow = false ∧ m.tin.override = false ∧
      m.sys.blackStart = false ∧ m.sys.standbyDue = none ∧ (∀ g, (m.group g).strobe = false) ∧
      m.sys.mode ∈ [Mode.online, .maintain, .recharge]) ∧
    Acts 7 9 (drummed 7 9 s) ∧ s.bus.restore = none ∧
    (r.bus.restore = some 4 ∧ r.tin.override = false ∧ stageChs r r.bus.stage = [] ∧ r.adm.grants = []) := by
  unfold Acts
  refine ⟨?_, ?_, ?_, ?_, ?_, ?_, ?_, ?_, ?_, ?_, ?_, ?_⟩ <;> decide +kernel

theorem wit_TheReferencesQualifyAndAreLost :
    let s := run .online
    let m := { s with mb := { s.mb with mains := true } }
    let y := { s with mb := { s.mb with ref := 2, sync := { s.mb.sync with ok := true } } }
    let b := { m with mb := { m.mb with ac := { m.mb.ac with bad := 100 } } }
    (scanRuns s = true ∧ crossingValid s 0 0 = false ∧ crossingValid s (-90000) 90000 = true ∧ s.mb.mains = false) ∧
    (crossingValid b (-90000) 90000 = true ∧ b.mb.mains = true ∧ b.svc.newOn = none ∧
      pn b Prm.DRM_LOCK_CYC ≤ (b.mb.ac.edge (pn b Prm.DRM_LOCK_CYC) 5 (edgeTime b b.mb.ac 5)).bad ∧
      b.sys.mode ∈ [Mode.online, .recharge, .maintain]) ∧
    (edgeValid s 0 0 = false ∧ edgeValid s 10000000 10000000 = true) ∧
    (b.mb.mains = true ∧ pn b Prm.DRM_LOCK_CYC ≤ b.mb.ac.bad ∧ LossCause.amplitude 4096 ≠ .frequency) ∧
    s.mb.mains = false ∧ s.mb.ac.bad < pn s Prm.DRM_LOCK_CYC ∧
        (scanRuns y = true ∧ y.mb.sync.ok = true ∧ y.mb.ref = 2 ∧ y.mb.ac.ok = false) := by decide +kernel

/-- A running Hatan whose first sequencer is changed. -/
def seqd (f : Seqr → Seqr) : State :=
  let s := run .online
  { s with cnv := { s.cnv with seq := vput s.cnv.seq 1 (f (s.cnv.seq.get 1)) } }

/-- A running entry that converts input 0 into slot 5 and no tracker, with two results owed. -/
def run5 : SeqRun := { entry := 3, first := 3, word := 5 * 2 ^ 19 + 127 * 2 ^ 12, owed := 2 }

/-- That entry runs, on an input with coefficients; its slot is changed. -/
def slotted (f : AccSlot → AccSlot) : State :=
  let s := seqd fun q => { q with run := some run5 }
  { s with
    cnv := { s.cnv with coefs := [(0, 0, 2 ^ 20)] }
    acc := { s.acc with slot := vput s.acc.slot 5 (f (s.acc.slot.get 5)) } }

theorem wit_ConvertersTrackersAndCalibrationFollowTheirEvents :
    let s := run .online
    let t := fun v : Int => par [(Prm.CNV_TRIGA0 + 2, v)] s
    let h := par [(Prm.CNV_TRIGA0 + 2, 0x40050000)] { s with tmr := { s.tmr with t := vput s.tmr.t 0 { s.tmr1 0 with out := true } } }
    let c := fun n (k : Cal → Cal) => { s with cnv := { s.cnv with cal := k { s.cnv.cal with step := n } } }
    let p := Pending.mk RT.CAL 7 (.history 0) false none
    let v := c 5 fun x => { x with storing := some (7, none) }
    let v := { v with nvs := { v.nvs with queue := [p] } }
    let l := par [(Prm.CNV_LP_MAP, 2)] { s with ch := .replicate 24 { s.chan 0 with gateA := .lowFull, gateB := .lowFull, st := .opened } }
    let l := { l with cnv := { l.cnv with seq := vput l.cnv.seq 1 { l.cnv.seq.get 1 with lowWhole := true } } }
    let b := { s with acc := { s.acc with bank := vput s.acc.bank 2 { s.acc.bank.get 2 with post := true } } }
    let x := fun y => slotted y |>.acc.slot.get 5
    let y := fun f => (x f).add (slotSign (slotted f) (x f)) (sampleValue (slotted f) (seqInput run5.word) 100)
    (s.cnv.on = true ∧ (s.cnv.seq.get 1).run = none ∧ (s.cnv.seq.get 1).urgent = false ∧ seqHalted s = false ∧
      h.cnv.on = true ∧ (5 : Fin 32).val = fieldOf (trigCfg h 1 false) 16 5 % 32 ∧
      trigLevel h (fieldOf (trigCfg h 1 false) 24 6) = true ∧ (trigCfg h 1 false).testBit 30 = true ∧
      fieldOf (trigCfg h 1 false) 0 16 = 0 ∧ trigLevel (t 0x80050009) (fieldOf (trigCfg (t 0x80050009) 1 false) 24 6) = false ∧
      (5 : Fin 32).val = fieldOf (trigCfg (t 0x80050009) 1 false) 16 5 % 32 ∧
      (trigCfg (t 0x80050009) 1 false).testBit 31 = true ∧ fieldOf (trigCfg (t 0x80050009) 1 false) 0 16 ≠ 0) ∧
    (∀ q ∈ [seqd fun q => { q with delayA := some (4, 90), delayB := some (5, 7) }], q.cnv.on = true ∧ seqHalted q = false ∧ (q.cnv.seq.get 1).run = none ∧
      (q.cnv.seq.get 1).urgent = false ∧ (q.cnv.seq.get 1).delayA = some (4, 90) ∧ (q.cnv.seq.get 1).delayB = some (5, 7)) ∧
    (∀ q ∈ [seqd fun q => { q with urgent := true, urgHeld := true }], (q.cnv.seq.get 1).urgent = true ∧
      (q.cnv.seq.get 1).run = none ∧ (q.cnv.seq.get 1).urgHeld = true) ∧
    (∀ q ∈ [seqd fun q => { q with urgent := true, pre := some run5 }], (q.cnv.seq.get 1).urgent = true ∧
      (q.cnv.seq.get 1).run = none ∧ (q.cnv.seq.get 1).urgHeld = false ∧ (q.cnv.seq.get 1).pre = some run5) ∧
    (((slotted id).cnv.seq.get 1).run = some run5 ∧ seqOrder run5.word = 0 ∧ seqAcc run5.word = (5 : Fin 192).val ∧
      96 ≤ seqTrk run5.word ∧ 1 < run5.owed ∧ (x id).ovf = false ∧ slotSign (slotted id) (x id) ≠ 0 ∧ (y id).isSome = true) ∧
    ((x fun z => { z with count := 2 ^ 32 - 1 }).ovf = false ∧
      slotSign (slotted fun z => { z with count := 2 ^ 32 - 1 }) (x fun z => { z with count := 2 ^ 32 - 1 }) ≠ 0 ∧
      y (fun z => { z with count := 2 ^ 32 - 1 }) = none) ∧
    (x fun z => { z with ovf := true }).ovf = true ∧
    (∀ q ∈ [seqd fun q => { q with table := vput q.table 3 (2 ^ 38) }], seqHalted q = false ∧
      seqOrder ((q.cnv.seq.get 1).table.get 3) = 2) ∧
    ((1 : Grp).val ≠ 0 ∧ (pn l Prm.CNV_LP_MAP).testBit (1 : Grp).val = true ∧ groupLow l 1 = true ∧
      (l.cnv.seq.get 1).lowWhole = true ∧ (l.cnv.seq.get 1).urgent = false) ∧
    ((c 1 id).cnv.cal.left = 0 ∧ (c 1 id).cnv.cal.step = 1 ∧ (c 3 id).cnv.cal.left = 0 ∧ (c 3 id).cnv.cal.step = 3 ∧ (1024 : Int) < 2000 - 0 ∧ (2000 - 1900 : Int) ≤ 1024) ∧
    (v.cnv.cal.storing = some (7, none) ∧ v.cnv.cal.step = 5 ∧
      v.nvs.queue.find? (fun p => p.rtype == RT.CAL && p.inst == 7) = some p ∧ p.toJournal = false) ∧
    (b.acc.bank.get 2).post = true := by
  refine ⟨?_, ?_, ?_, ?_, ?_, ?_, ?_, ?_, ?_, ?_, ?_, ?_⟩ <;> decide +kernel

/-- A running Hatan whose first timer is changed. -/
def timed (f : GTmr → GTmr) : State :=
  let s := run .online
  { s with tmr := { s.tmr with t := vput s.tmr.t 0 (f { s.tmr1 0 with run := true, period := 100 }) } }

theorem wit_TheTimersCountMatchOverflowAndCapture :
    let o := timed id
    let p := timed fun x => { x with cfg := 0x30 }
    let u := timed fun x => { x with cfg := 0x10000000 }
    let m := timed fun x => { x with cmp := 50 }
    let c := par [(tmrId 0 Tmrp.CAPCFG, 0x01010001)] (timed fun x => { x with run := false })
    let d := par [(tmrId 0 Tmrp.CAPCFG, 0x01010001)] (timed fun x => { x with cfg := 0x80000000 })
    let a := par [(ktId 1 Ktp.CFG, 16)] o
    let b := par [(ktId 1 Ktp.CFG, 16), (ktId 1 Ktp.ALARM, 5)] o
    (tRuns o 0 = true ∧ tPaired o 0 = false ∧ tUpDown (o.tmr1 0) = false ∧ toMatch o 0 = none ∧
      fieldOf (o.tmr1 0).cfg 10 2 = 0 ∧ fieldOf (o.tmr1 0).cfg 4 2 = 0 ∧ toTop o 0 = none) ∧
    (tRuns p 0 = true ∧ tPaired p 0 = false ∧ tUpDown (p.tmr1 0) = false ∧ toMatch p 0 = none ∧
      fieldOf (p.tmr1 0).cfg 10 2 = 0 ∧ fieldOf (p.tmr1 0).cfg 4 2 = 3 ∧ fieldOf (p.tmr1 0).cfg 0 4 = (0 : Tmr).val) ∧
    (tRuns u 0 = true ∧ tPaired u 0 = false ∧ toTop u 0 = some 100 ∧ toMatch u 0 = none) ∧
    (tRuns m 0 = true ∧ tPaired m 0 = false ∧ toMatch m 0 = some 50 ∧ fieldOf (m.tmr1 0).cfg 10 2 = 0) ∧
    (capLive c 0 = true ∧ fieldOf (capCfg c 0) 24 2 ≠ 0 ∧
      noteEdge c (fieldOf (capCfg c 0) 26 6) (fieldOf (capCfg c 0) 24 2) = true ∧ tClk (c.tmr1 0) ≠ 3 ∧ fieldOf (capCfg c 0) 0 2 ≠ 0 ∧
      noteEdge c (fieldOf (capCfg c 0) 2 6) (fieldOf (capCfg c 0) 0 2) = true ∧
      (c.tmr1 0).run = false ∧ (c.tmr1 0).acts = []) ∧
    (capLive d 0 = true ∧ fieldOf (capCfg d 0) 24 2 ≠ 0 ∧
      noteEdge d (fieldOf (capCfg d 0) 26 6) (fieldOf (capCfg d 0) 24 2) = true ∧ tClk (d.tmr1 0) ≠ 3 ∧ tPaired d 0 = true) ∧
    (a.sys.mode ≠ .dormant ∧ (pn a (ktId 1 Ktp.CFG)).testBit 4 = true ∧ a.tmr.ktDue.get 1 = false ∧
      pget a (ktId 1 Ktp.ALARM) ≤ (a.tmr.kt.get 1 : Int)) ∧
    ((pn b (ktId 1 Ktp.CFG)).testBit 4 = true ∧ (b.tmr.kt.get 1 : Int) < pget b (ktId 1 Ktp.ALARM)) := by
  refine ⟨?_, ?_, ?_, ?_, ?_, ?_, ?_, ?_⟩ <;> decide +kernel

theorem wit_TheFieldLinesFollowTheirLevels :
    let s := run .online
    let f := par [(Prm.FLD_CFG0 + 2, 0x700000)] s
    let a := par [(Prm.TMR_FL0_STUCK_MS + 2, 100)]
      { s with fl := vput s.fl 2 { s.fl.get 2 with level := true, since := some 0 } }
    let o := par [(Prm.FLD_CFG0 + 2, 0x80000000)] { s with fl := vput s.fl 2 { s.fl.get 2 with out := true } }
    let r := { s with fl := vput s.fl 2 { s.fl.get 2 with limited := true } }
    let g := par [(Prm.FLD_CFG0 + 2, 0x700010)] s
    (s.fl.get 2).level = false ∧ 3 < flFilt g 2 ∧ linesLive g = true ∧ flIsOut g 2 = false ∧
    (linesLive f = true ∧ flIsOut f 2 = false ∧ (f.fl.get 2).level ≠ true ∧ flFilt f 2 ≤ 0 ∧ (f.fl.get 2).stuck = false ∧
      flFunc f 2 = 7 ∧ true ≠ (flCfg f 2).testBit 30 ∧ anyPup f = true ∧ f.adm.queue = []) ∧
    (linesLive a = true ∧ flIsOut a 2 = false ∧ (a.fl.get 2).since = some 0 ∧ flRaw a 2 = true ∧ (a.fl.get 2).stuck = false ∧
      stuckClocks a 2 ≠ 0) ∧
    (flIsOut o 2 = true ∧ (o.fl.get 2).out = true ∧ (o.fl.get 2).limited = false) ∧ (r.fl.get 2).limited = true := by
  decide +kernel

/-- A running Hatan with a powered Xamir that answers, changed. -/
def metered (f : Xam → Xam) : State :=
  let s := run .online
  { s with
    xam := f { s.xam with fitted := true, powered := true }
    met := { s.met with st := 2 } }

/-- A Xamir that counts channel 3 with gains of 1/16 and no threshold. -/
def counting (x : Xam) : Xam :=
  { x with cal := {
      coef := .replicate 28 (some (0, 2 ^ 20)), enabled := vput x.cal.enabled 3 true
      vmap := .replicate 24 0, noLoad := .replicate 24 (some 0) } }

/-- Samples of one current in every current input and one voltage. -/
def samples (i v : Int) : XamirSamples :=
  { i := .replicate 24 i, v := .replicate 4 v, rangeEnd := .replicate 24 false }

theorem wit_XamirCountsStoresAndSeals :
    let s := metered counting
    let w := metered fun x => { x with snapWait := some (8, 5) }
    let v := metered fun x => { counting x with vLow := vput x.vLow 0 (some 9) }
    let o := metered fun x => { x with osc := true, sealOpen := true, metro := { x.metro with staged := [.enable 3 true] } }
    let d := metered fun x => { x with powered := false, recNew := some x.record }
    (s.xam.fitted = true ∧ s.xam.powered = true ∧ s.xam.cal.enabled.get 2 = false ∧ s.xam.cal.enabled.get 3 = true ∧
      0 < s.xam.powerOf (samples 100 100) 3 ∧ s.xam.powerOf (samples (-100) 100) 3 < 0 ∧ v.xam.cal.enabled.get 3 = true ∧
      v.xam.cal.vmap.get 3 = 0 ∧ v.xam.vLow.get 0 = some 9 ∧ v.xam.vmiss.get 0 = false ∧ s.xam.osc = false ∧ s.xam.sealOpen = false ∧ s.xam.sealCount < 65534) ∧
    w.xam.snapWait = some (8, 5) ∧ (o.xam.osc = true ∧ o.xam.sealOpen = true ∧ o.xam.metro.staged ≠ []) ∧
    (metered fun x => { x with sealCount := 65535 }).xam.sealCount = 65535 ∧
    ((metered fun x => { x with sealOpen := true }).xam.sealOpen = true ∧
      (metered fun x => { x with sealOpen := true }).xam.metro.staged = []) ∧
    (d.xam.powered = false ∧ d.xam.recNew.isSome = true ∧ ((d.xam.recNew.map XRec.sealCnt).getD 65534) < 65534) := by
  refine ⟨?_, ?_, ?_, ?_, ?_, ?_⟩ <;> decide +kernel

theorem wit_XamirAnswersOnItsPort :
    let s := metered id
    let p : XSnap := { map := 8, body := [1, 2, 3] }
    let g := metered fun x => { x with signing := some p }
    let f := metered fun x => { x with snap := some (List.replicate 64 7) }
    let m := { s with met := { s.met with mirror := { s.met.mirror with chmap := 8 } } }
    (xamUp s = true ∧ s.xam.busy = false ∧ s.xam.fetchWords = none ∧ 0x100 + (3 : Fin 64).val + 1 ≤ 0x980 ∧
      0x980 < 0x97F + (3 : Fin 64).val + 1) ∧
    (xamUp g = true ∧ g.xam.busy = true ∧ g.xam.signing = some p ∧ g.met.running = none) ∧
    (xamUp f = true ∧ (f.xam.fetchWords.map fun l => decide (2 + (3 : Fin 64).val + 1 ≤ l.length)) = some true) ∧
    (Ready 2 0x50 5 [0x03000008, 7] (run .online) ∧ meterPresent (run .online) = false ∧ (0x03000008 : Word).field 24 8 = 3) ∧
    (Ready 2 0x50 5 [0x03000008, 7] s ∧ meterPresent s = true ∧ (0x03000008 : Word).bit (3 : Ch).val = true ∧
      s.met.mirror.chmap.testBit (3 : Ch).val = false) ∧
    (Ready 2 0x50 5 [0x03000008, 7] m ∧ meterPresent m = true ∧
      (∀ k : Ch, (0x03000008 : Word).bit k.val = true → m.met.mirror.chmap.testBit k.val = true) ∧
      (0x03000008 : Word).field 0 24 ≠ 0 ∧ m.met.running = none ∧ m.met.waiting = [] ∧ m.xam.busy = false) := by
  refine ⟨?_, ?_, ?_, ⟨⟨calm_mk ?_, ?_⟩, ?_⟩, ⟨⟨calm_mk ?_, ?_⟩, ?_⟩, ⟨⟨calm_mk ?_, ?_⟩, ?_⟩⟩ <;> decide +kernel

theorem wit_TheMetrologyPortReadsStagesAndCaptures :
    let s := metered fun x => { x with metro := { x.metro with on := true, prog := true } }
    let o := metered fun x => { x with sealOpen := true, metro := { x.metro with on := true, prog := true } }
    let c := metered fun x => { x with metro := { x.metro with capture := some (curInput 3, false, 5) } }
    (xamUp s = true ∧ s.xam.metro.on = true ∧ s.xam.metro.prog = true ∧ s.xam.sealOpen = false ∧ s.xam.metro.capture = none ∧
      metroValue s.xam .sealCount = some 0 ∧ metroValue s.xam .abandon = none) ∧
    (xamUp o = true ∧ o.xam.metro.on = true ∧ o.xam.metro.prog = true ∧ o.xam.sealOpen = true ∧ o.xam.metro.capture = none) ∧
    (xamUp c = true ∧ c.xam.metro.capture = some (curInput 3, false, 5)) := by decide +kernel

theorem wit_TheMeterIsMirroredPolledAndCompared :
    let s := metered id
    let h := { s with met := { s.met with mirror := { s.met.mirror with imp := vput s.met.mirror.imp 3 7 } } }
    let q := { s with met := { s.met with st := 1 } }
    let f := { s with met := { s.met with fails := 2 } }
    let d := { s with met := { s.met with
      nMin := 1, differ := vput s.met.differ 3 9
      mirror := { s.met.mirror with chmap := 8, p := vput s.met.mirror.p 3 1000000 } } }
    (metActs s = true ∧ s.xam.powered = true ∧ s.met.st = 2 ∧ s.met.fails < 2 ∧ s.met.nMin = 0 ∧
      ∀ c : Ch, s.met.mirror.imp.get c ≤ s.xam.shadow.imp.get c ∧ s.met.mirror.exp.get c ≤ s.xam.shadow.exp.get c) ∧
    (metActs h = true ∧ h.met.st = 2 ∧ h.xam.shadow.imp.get 3 < h.met.mirror.imp.get 3) ∧
    (metActs q = true ∧ q.xam.powered = true ∧ q.met.st = 1) ∧ (metActs f = true ∧ 2 ≤ f.met.fails ∧ f.met.st = 2) ∧
    (metActs d = true ∧ d.met.nMin ≠ 0 ∧ d.met.mirror.chmap.testBit (3 : Ch).val = true ∧ (crossDiffers d 3).2 = true ∧
      9 ≤ d.met.differ.get 3) := by
  refine ⟨?_, ?_, ?_, ?_, ?_⟩ <;> decide +kernel

/-! ### The Share Bus -/

/-- A running Hatan whose image speaks the generations 1 to 3 on the Share Bus. -/
def shared : State :=
  let s := run .online
  { s with svc := { s.svc with
      bankA := { s.svc.bankA with bytes := [(28, 0x13)] }
      bankB := { s.svc.bankB with bytes := [(28, 0x13)] } } }

/-- A frame of generation 1 on port 0 with 16 bytes. -/
def frameOf (type dst src : Nat) (rest : List Byte) : ShbFrame :=
  { port := 0, good := true, prio := 1, type := type, dst := dst, src := src
    bytes := [64, 5] ++ rest ++ List.replicate (14 - rest.length) 0 }

/-- What every clause on a frame asks. -/
def Heard (f : ShbFrame) (s : State) : Prop :=
  portHears s f.port = true ∧ frameRepeats s f = false ∧ frameKnown s f = true ∧ portFits s f = true

theorem wit_StatusAndReserveOfPeersAreOnlyRecorded :
    ∀ t ∈ [Shm.STATUS, Shm.RESERVE], Heard (frameOf t 0xFF 3 []) shared ∧ sender (frameOf t 0xFF 3 []) = some 3 ∧
      (3 : Fin 8) ≠ ownNode shared ∧ (frameOf t 0xFF 3 []).type = t := by
  unfold Heard; decide +kernel

theorem wit_FramesOfPeersAndDevicesAreTaken :
    let s := { shared with shb := { shared.shb with peer := vput shared.shb.peer 3 { shared.shb.peer.get 3 with
      present := true, lo := 1, hi := 3 } } }
    let d := par [(Prm.SHB_DEV0 + 5, 0x21), (Prm.SHB_MOD0, 0x8104)] shared
    (Heard (frameOf Shm.ANNOUNCE 0xFF 3 [0, 0x13]) s ∧ sender (frameOf Shm.ANNOUNCE 0xFF 3 [0, 0x13]) = some 3 ∧
      (3 : Fin 8) ≠ ownNode s ∧ fByte (frameOf Shm.ANNOUNCE 0xFF 3 [0, 0x13]) 2 = 0) ∧
    (Heard (frameOf Shm.CLOCK 0xFF 3 []) s ∧ sender (frameOf Shm.CLOCK 0xFF 3 []) = some 3 ∧ clockMaster s = some 3) ∧
    (Heard (frameOf Shm.RECT_SET 0x21 3 []) d ∧ sender (frameOf Shm.RECT_SET 0x21 3 []) = some 3 ∧ (3 : Fin 8) ≠ ownNode d ∧
      devWith d (frameOf Shm.RECT_SET 0x21 3 []).dst = some 5) ∧
    (Heard (frameOf Shm.ANNOUNCE 0xFF 0x21 [1, 0x13]) d ∧ 8 ≤ (frameOf Shm.ANNOUNCE 0xFF 0x21 [1, 0x13]).src ∧
      fByte (frameOf Shm.ANNOUNCE 0xFF 0x21 [1, 0x13]) 2 = 1 ∧
      devWith d (frameOf Shm.ANNOUNCE 0xFF 0x21 [1, 0x13]).src = some 5) ∧
    (Heard (frameOf Shm.RECT_STAT 0 0x21 [9]) d ∧ (frameOf Shm.RECT_STAT 0 0x21 [9]).dst = (ownNode d).val ∧
      devWith d (frameOf Shm.RECT_STAT 0 0x21 [9]).src = some 5) ∧
    (Heard (frameOf Shm.BMOD_STAT 0xFF 0x82 []) d ∧ modWith d (frameOf Shm.BMOD_STAT 0xFF 0x82 []).src = some (0, 1)) := by
  unfold Heard; decide +kernel

theorem wit_FramesThatAreNotActedOn :
    let f := frameOf Shm.STATUS 0xFF 3 []
    let r := par [(Prm.SHB_PORT_MODE, 1)] { shared with shb := { shared.shb with seen := [(3, Shm.STATUS, 5, 0)] } }
    let p := par [(Prm.SHB_PORT_MODE, 2)] shared
    portHears shared { f with port := 1 }.port = false ∧ frameRepeats r f = true ∧
    (portHears shared f.port = true ∧ frameRepeats shared { f with good := false } = false ∧
      frameKnown shared { f with good := false } = false) ∧
    (portHears p { f with port := 1 }.port = true ∧ frameRepeats p { f with port := 1 } = false ∧
      portFits p { f with port := 1 } = false) ∧
    (portHears shared f.port = true ∧ frameRepeats shared { f with src := 0 } = false ∧
      frameKnown shared { f with src := 0 } = true ∧ portFits shared { f with src := 0 } = true ∧ sender { f with src := 0 } = some (ownNode shared)) := by decide +kernel

theorem wit_TimersAndBusOffOfTheShareBus :
    let d := par [(Prm.SHB_MOD0, 0x8104)] shared
    let p := { shared with shb := { shared.shb with
      gen := 3, rise := some 3
      peer := vput (vput shared.shb.peer 3 { shared.shb.peer.get 3 with present := true }) 0 { shared.shb.peer.get 0 with
        present := true, lo := 1, hi := 3 }
      dev := vput shared.shb.dev 5 { shared.shb.dev.get 5 with rating := 9 }
      port := vput shared.shb.port 1 { shared.shb.port.get 1 with off := true } } }
    let c := { shared with sys := { shared.sys with clkFault := true } }
    shbRuns (boot false) = false ∧ (shbRuns c = true ∧ ∀ t ∈ [Shm.ANNOUNCE, Shm.STATUS, Shm.RESERVE, Shm.CLOCK], canSend c t = false) ∧ (shbRuns shared = true ∧ shared.shb.gen < 2) ∧
    (shbRuns p = true ∧ (∀ t ∈ [Shm.ANNOUNCE, Shm.STATUS, Shm.RESERVE, Shm.CLOCK], canSend p t = true) ∧ p.shb.listen = false ∧ fullShb p.sys.mode = true ∧ p.shb.gen = 3 ∧
      clockMaster p = some (ownNode p) ∧ (p.shb.peer.get 3).present = true ∧ (3 : Fin 8) ≠ ownNode p ∧
      (p.shb.dev.get 5).rating ≠ 0 ∧ p.shb.rise = some 3 ∧ (p.shb.port.get 1).off = true) ∧
    (modWith d 0x82 = some (0, 1) ∧ ((d.shb.mod.get 0).get 1).absent = false) ∧ portHears shared 0 = true := by decide +kernel

/-! ### The store -/

/-- The running image lists one record format: WEAR in format 2, readable from 1. -/
def listed (s : State) : State :=
  let b : List Host.Cell := [(45, 1), (49, 0x21), (50, 2), (51, 1)]
  { s with svc := { s.svc with
      bankA := { s.svc.bankA with bytes := b }
      bankB := { s.svc.bankB with bytes := b } } }

theorem wit_RecordWritesComeIntoForceOrFail :
    let p := fun i k => Pending.mk RT.WEAR 3 (.history 0) i k
    let s := fun i k => { run .online with nvs := { (run .online).nvs with queue := [p i k] } }
    let l := { unfed (s false none) with pwr := { (unfed (s false none)).pwr with holdMv := 11999 } }
    (run .online).nvs.queue = [] ∧ writesBegin l = false ∧
      (∀ i, writesBegin (s i none) = true ∧ nextWrite (s i none) = some (p i none) ∧ (p i none).intent = i ∧
        (p i none).clears = none ∧ (p i none).toJournal = i) ∧
      (writesBegin (s false (some 4)) = true ∧ nextWrite (s false (some 4)) = some (p false (some 4)) ∧
        (p false (some 4)).clears = some 4) := by decide +kernel

theorem wit_TheScrubberActsOnWhatItFinds :
    let x : Slot := { seq := 5, fmt := 1, body := .history 0 }
    let r : Record := { rtype := RT.WEAR, inst := 3, lo := some x, hi := some { x with seq := 4 } }
    let s := { run .online with nvs := { (run .online).nvs with recs := [r] } }
    let b := { s with nvs := { s.nvs with scrubPos := 8 } }
    scrubs (run .dormant) = false ∧ 4 < b.nvs.scrubPos ∧ (scrubs s = true ∧ s.nvs.scrubPos = 0) ∧
      (findRec s RT.WEAR 3 = some r ∧ r.inForce = some x ∧ r.spare = some { x with seq := 4 }) ∧
      (∀ a ∈ [0, 0x17FFFC, 0x180000, 0x2FFFFC, 0x300000, 0x3FFFFC, 0x400000, 0x408000, 0x410000, 0x4FFFFC, 0x500000,
        0x50FFFC, 0x5FFFFC], a % 4 = 0 ∧ a < 0x600000) := by decide +kernel

theorem wit_RecordsAreWrittenOnTimeAndMigrated :
    let x : Slot := { seq := 5, fmt := 1, body := .history 0 }
    let r : Record := { rtype := RT.WEAR, inst := 3, lo := some x, hi := none }
    let s := run .online
    let d := { s with nvs := { s.nvs with dirty := [2] } }
    let m := listed { s with
      nvs := { s.nvs with recs := [r] }
      adm := { s.adm with grants := [migrateOp] } }
    shbRuns (boot false) = false ∧ allKinds (run .bridge) = false ∧ (shbRuns s = true ∧ allKinds s = true) ∧ (shbRuns d = true ∧ d.sys.mode ≠ .commission ∧ 2 ∈ d.nvs.dirty) ∧
      (run .commission).sys.mode = .commission ∧ olderRecs s = [] ∧
      (olderRecs m = [(RT.WEAR, 3, x)] ∧ shbRuns m = true ∧ opModes Opn.MIGRATE m.sys.mode = true ∧ m.adm.queue = [] ∧
        m.adm.grants = [migrateOp] ∧ migrateOp.code = Opn.MIGRATE) := by decide +kernel

/-! ### The service port -/

/-- RECOVERY, its port open. -/
def jack : State :=
  let s := run .recovery
  { s with sys := { s.sys with pupA := Pupp.reset, pupB := Pupp.reset } }

/-- A running Hatan whose service port has a secure session. -/
def served (m : Mode) : State := opened 14 (some ses) (run m)

theorem wit_ThePortServesOnlyWhatItMayServe :
    let b := { run .online with svc := { (run .online).svc with asker := some (.service 4) } }
    (jackAnswers State.reset = false ∧ firmAnswers State.reset = false) ∧ (firmAnswers b = true ∧ svcBusy b = true) ∧
    (jackAnswers jack = true ∧ svcBusy jack = false ∧ secureOn jack 14 = false) ∧
    (jackAnswers (run .online) = false ∧ firmAnswers (run .online) = true ∧ svcBusy (run .online) = false ∧
      secureOn (run .online) 14 = false) := by decide +kernel

theorem wit_ARestartFrameRestartsByItsMode :
    (jackAnswers jack = true ∧ svcBusy jack = false ∧ jack.sys.mode = .recovery ∧ imageAccepted jack = false) ∧
    (firmAnswers (run .safeKeep) = true ∧ svcBusy (run .safeKeep) = false ∧ (run .safeKeep).sys.mode = .safeKeep) ∧
    (firmAnswers (run .online) = true ∧ svcBusy (run .online) = false ∧ (run .online).sys.mode ≠ .recovery ∧
      (run .online).sys.mode ≠ .safeKeep) := by decide +kernel

theorem wit_ThePinTheFramesAndTheBridge :
    let s := run .online
    let n := { s with svc := { s.svc with baudNew := true } }
    (s.svc.en = true ∧ s.svc.baudNew = false ∧ State.reset.svc.en = false) ∧ (n.svc.en = true ∧ n.svc.baudNew = true) ∧
    (firmAnswers s = true ∧ svcBusy s = false ∧ (0x7F : Byte).toNat ∉ svcTypes ∧ bridgeRange 0 4 = true ∧
      bridgeRange 0x20 1 = false ∧ (s.inq.get 14).words.length + ([7] : List Word).length ≤ 64) := by decide +kernel

theorem wit_DebugAccessIsUnlockedUsedAndLocked :
    let s := served .standby
    let d := { s with svc := { s.svc with debug := 2 } }
    (jackAnswers s = false ∧ firmAnswers s = true ∧ svcBusy s = false ∧ secureOn s 14 = true ∧ unlockOk s 1 [] = false ∧
      s.svc.debug < 1) ∧ (jackAnswers d = false ∧ firmAnswers d = true ∧ svcBusy d = false ∧ 2 ≤ d.svc.debug) := by
  decide +kernel

/-- The clause on a granted unlock, under the open signature check. -/
theorem wit_DebugAccessIsUnlockedUsedAndLocked_open (hv : ∀ k d g, Config.verifies k d g = true) :
    let s := served .standby
    let s := { s with svc := { s.svc with nonce := some ([1, 2, 3, 4], 0) } }
    unlockOk s 1 [] = true := by
  simp only [unlockOk, hv, Bool.and_true]
  decide +kernel

/-- The clauses on mapped words: the first two of a Puppeteer's local memory, wherever it lies. -/
theorem wit_DebugAccessIsUnlockedUsedAndLocked_mapped : debugMapped Config.localBase 2 = true := by
  simp [debugMapped, debugPlace, List.range, List.range.loop]

theorem wit_AWearResetClearsAndIsAnswered :
    let s := served .online
    let o := chan 3 (fun x => { x with st := .on }) s
    let w := { o with
      svc := { o.svc with wear := some (7, 3) }
      nvs := { o.nvs with queue := [Pending.mk RT.WEAR 3 (.history 0) false none] } }
    (jackAnswers s = false ∧ firmAnswers s = true ∧ svcBusy s = false ∧ secureOn s 14 = true ∧ wearFree s 3 = true) ∧
    (firmAnswers o = true ∧ svcBusy o = false ∧ secureOn o 14 = true ∧ wearFree o 3 = false) ∧
    (writesBegin w = true ∧ w.svc.wear = some ((7 : Byte).toNat, 3) ∧ w.svc.en = true ∧
      nextWrite w = some (Pending.mk RT.WEAR 3 (.history 0) false none)) := by decide +kernel

/-! ### Updates -/

/-- An image of four zero bytes: its header, its digest, every byte received. -/
def image : Bank :=
  let put := fun (at_ : Nat) (l : List Nat) (m : List Host.Cell) => putBytes m at_ (l.map (BitVec.ofNat 8))
  let m := put 176 (sha256 [0, 0, 0, 0]) (put 20 [0x24, 0x60] (put 12 [0, 0, 0, 4] (put 6 [2, 0]
    (put 0 [0x55, 0x4D, 0x4C, 0x53, 1] []))))
  { State.reset.svc.bankA with st := Bst.PREVIOUS, bytes := m, total := 516, got := [(0, 516)] }

/-- The image passes its checks where its signature does. -/
theorem image_passes (hv : ∀ k d g, Config.verifies k d g = true) (s : State) (hr : s.svc.revoked = 0)
    (hf : s.svc.svnFloor = 0) : imgCheck s image = none := by
  have h1 : imgHeaderOk image = true := by decide +kernel
  have h2 : imgField image 20 2 = 0x2460 ∧ imgField image 22 1 = 0 := by decide +kernel
  have h3 : received image = 512 + imgLen image := by decide +kernel
  have h4 : image.bad = false ∧ sha256 (imgBytes image 512 (imgLen image)) = imgBytes image 176 32 := by decide +kernel
  have h5 : imgField image 208 1 = 0 ∧ imgSvn image = 0 := by decide +kernel
  simp [imgCheck, h1, h2, h3, h4, h5, hv, hr, hf]

/-- The clause on a RESTART out of RECOVERY, under the open signature check. -/
theorem wit_ARestartFrameRestartsByItsMode_open (hv : ∀ k d g, Config.verifies k d g = true) :
    let s := { jack with svc := { jack.svc with bankB := image } }
    jackAnswers s = true ∧ svcBusy s = false ∧ s.sys.mode = .recovery ∧ imageAccepted s = true := by
  refine ⟨by decide +kernel, by decide +kernel, rfl, ?_⟩
  have h : bankPasses { jack with svc := { jack.svc with bankB := image } } true = true := by
    show (imgCheck _ image).isNone = true
    rw [image_passes hv _ (by decide +kernel) (by decide +kernel)]
    rfl
  simp only [imageAccepted, h, Bool.or_true]

theorem wit_AnImageIsLoadedAndChecked :
    let s := run .online
    let l := { s with svc := { s.svc with loading := some true, bankB := { s.svc.bankB with st := Bst.LOADING, total := 64 } } }
    (firmAnswers s = true ∧ svcBusy s = false ∧ beginBank s 7 = none ∧ s.svc.loading = none) ∧
    (beginBank s 0 = some false ∧ beginBarred s false = true) ∧ (beginBank s 1 = some true ∧ beginBarred s true = false) ∧
    (firmAnswers l = true ∧ svcBusy l = false ∧ l.svc.loading = some true ∧
      (Memory.wf l.svc.bankA.bytes = true ∧ Memory.wf l.svc.bankB.bytes = true) ∧
      60 + ([1, 2, 3, 4] : List Byte).length ≤ (bankOf l true).total ∧ holdOk l (tw50 4) = true ∧
      loadFault l (bankOf l true) = some 1) := by decide +kernel

/-- The clause on an image that passes, under the open signature check. -/
theorem wit_AnImageIsLoadedAndChecked_open (hv : ∀ k d g, Config.verifies k d g = true) :
    let l := { jack with svc := { jack.svc with loading := some true, bankB := image } }
    jackAnswers l = true ∧ svcBusy l = false ∧ l.svc.loading = some true ∧
      (Memory.wf l.svc.bankA.bytes = true ∧ Memory.wf l.svc.bankB.bytes = true) ∧ loadFault l (bankOf l true) = none := by
  have h : jackAnswers jack = true := by decide +kernel
  refine ⟨by decide +kernel, by decide +kernel, rfl, by decide +kernel, ?_⟩
  unfold loadFault
  rw [show bankOf { jack with svc := { jack.svc with loading := some true, bankB := image } } true = image from rfl,
    image_passes hv _ (by decide +kernel) (by decide +kernel)]
  exact if_neg (by decide +kernel)

/-- A handover in a phase, the new image on Puppeteer B. -/
def handing (phase : Nat) : State :=
  let s := served .handover
  { s with
    sys := { s.sys with handoverFrom := .online }
    svc := { s.svc with newOn := some .b, phase := phase, asker := some .param } }

theorem wit_ATakeoverRunsItsStepsOrIsAborted :
    let p := fun s => (jackAnswers s = false ∧ firmAnswers s = true ∧ svcBusy s = false ∧ secureOn s 14 = true)
    let s := served .standby
    let a := { s with svc := { s.svc with bankB := { s.svc.bankB with st := Bst.STAGED } } }
    (p s ∧ (7 : Word) ≠ updKey ∧ opAdmitted s takeoverOp = true ∧ takeoverFault s = some 10 ∧ s.svc.newOn = none ∧
      s.svc.phase ≠ 5) ∧
    (p (served .bridge) ∧ opAdmitted (served .bridge) takeoverOp = false) ∧
    (p a ∧ opAdmitted a takeoverOp = true ∧ takeoverFault a = none ∧ a.adm.queue = []) ∧
    (∀ n ∈ [3, 4, 5], (handing n).svc.newOn = some .b ∧ (handing n).svc.phase = n ∧ (handing n).sys.mode = .handover ∧
      (handing n).sys.handoverFrom ≠ .handover ∧ (handing n).svc.lead = 0 ∧ (handing n).svc.asker ≠ none) ∧
    imgCheck (handing 3) (idleBank (handing 3)) = some 1 := by decide +kernel

/-- The clause on a staged bank that passes, under the open signature check. -/
theorem wit_ATakeoverRunsItsStepsOrIsAborted_open (hv : ∀ k d g, Config.verifies k d g = true) :
    let s := { handing 3 with svc := { (handing 3).svc with bankB := image } }
    s.svc.newOn = some .b ∧ s.svc.phase = 3 ∧ imgCheck s (idleBank s) = none := by
  refine ⟨rfl, rfl, ?_⟩
  rw [show idleBank { handing 3 with svc := { (handing 3).svc with bankB := image } } = image from rfl]
  exact image_passes hv _ (by decide +kernel) (by decide +kernel)

theorem wit_ATrialIsConfirmedOrRolledBack :
    let p := fun s => (jackAnswers s = false ∧ firmAnswers s = true ∧ svcBusy s = false ∧ secureOn s 14 = true)
    let s := served .standby
    let b := { s with svc := { s.svc with
      bankA := { s.svc.bankA with st := Bst.PREVIOUS }
      bankB := { s.svc.bankB with st := Bst.TRIAL } } }
    let t := { s with svc := { s.svc with bankA := { s.svc.bankA with st := Bst.TRIAL } } }
    (p s ∧ (7 : Word) ≠ updKey ∧ trialBank s = false ∧ canRollback s = false ∧ (runBank s).st ≠ Bst.TRIAL) ∧
    (p b ∧ (bankOf b true).st = Bst.TRIAL ∧ (bankOf b (!true)).st = Bst.PREVIOUS ∧ (bankOf b (!true)).st ≠ Bst.TRIAL ∧
      bankPasses b (!true) = false) ∧
    (shbRuns t = true ∧ (runBank t).st = Bst.TRIAL ∧ (idleBank t).st ≠ Bst.TRIAL ∧ pn t Prm.UPD_TRIAL_S ≠ 0) ∧
    (shbRuns (par [(Prm.UPD_TRIAL_S, 0)] t) = true ∧ (runBank (par [(Prm.UPD_TRIAL_S, 0)] t)).st = Bst.TRIAL ∧
      pn (par [(Prm.UPD_TRIAL_S, 0)] t) Prm.UPD_TRIAL_S = 0) := by decide +kernel

/-- The clause on a former bank that passes, under the open signature check. -/
theorem wit_ATrialIsConfirmedOrRolledBack_open (hv : ∀ k d g, Config.verifies k d g = true) :
    let s := served .standby
    let b := { s with svc := { s.svc with bankA := image, bankB := { s.svc.bankB with st := Bst.TRIAL } } }
    bankPasses b (!true) = true := by
  show (imgCheck _ image).isNone = true
  rw [image_passes hv _ (by decide +kernel) (by decide +kernel)]
  rfl

/-! ### The whole machine -/

theorem wit_AnEmptyQueueLetsTimePass :
    (run .online).pending = [] ∧ (run .online).sys.phase ≠ .off ∧ (run .online).sys.phase ≠ .abandoned ∧
      (run .online).sys.mode ≠ .dormant ∧ (run .dormant).pending = [] ∧ (run .dormant).sys.mode = .dormant := by
  decide +kernel

theorem wit_ACommandChangesOnlyTheParts : ∃ t, exec (.bridgeStrobeInterrupt) (run .online) = .next t := ⟨_, rfl⟩

theorem wit_StepsKeepTheImagesCanonical :
    (Memory.wf (listed (run .online)).svc.bankA.bytes = true ∧ Memory.wf (listed (run .online)).svc.bankB.bytes = true) ∧
      (Memory.wf (run .online).tin.lower.cells = true ∧ Memory.wf (run .online).tin.upper.cells = true) ∧ ∃ t, step (listed (run .online)) = .next t := ⟨by decide +kernel, by decide +kernel, _, rfl⟩

theorem wit_FusesAndTheClockOnlyRise : ∃ t, step (run .online) = .next t := ⟨_, rfl⟩

/-! ### Ill-formed terms that the checks refuse -/

/-- Nothing failed. -/
def clear : SelfTest := { chFail := 0, grpFail := 0, memFail := false, handshakeFail := false, xamirAnswers := false }

theorem test_wf_refuses :
    ∀ i ∈ [Instr.powerOn false 65536 clear, .powerOn false 0 { clear with chFail := 2 ^ 24 },
      .powerOn false 0 { clear with grpFail := 16 }, .supplyFail 65536, .flushComplete [65536], .vinReturn 65536,
      .wake (.mains 20000000) { clear with chFail := 2 ^ 24 },
      .spiWriteFrame { cs := .s, header := 0, words := [], dcrc := 0, bits := 0, mode12 := false },
      .hQdataWrite .s 1 [], .hQdataWrite .s 1 (List.replicate 65 0), .hQdataRead .s 1 0 true, .hQdataRepeat .s 1 65,
      .groupCtrlSelftest 1 (2 ^ 24), .eccDouble .localA 0x40000 true, .eccDouble .shared 2 true, .microcodeParity 1 4096,
      .xamirRead 4096 0 0, .snapReq (2 ^ 24) 0 0, .snapFetch 4096 0 0, .vmiss 1 65536, .metroSignOn 10,
      .announce (frameOf Shm.STATUS 0xFF 3 []), .status { frameOf Shm.STATUS 0xFF 3 [] with src := 256 },
      .reserve (frameOf Shm.CLOCK 0xFF 3 []), .clock { frameOf Shm.CLOCK 0xFF 3 [] with prio := 8 },
      .rectSet (frameOf Shm.RECT_STAT 0xFF 3 []), .rectStat (frameOf Shm.RECT_SET 0xFF 3 []),
      .bmodStat (frameOf Shm.RECT_SET 0xFF 3 []), .shbRxIgnored { frameOf 5 0xFF 3 [] with bytes := List.replicate 65 0 },
      .moduleAbsent 0 0x7F, .scrub 0x600000 .clean, .scrub 2 .clean, .configRecordWrite 256, .setBaud 0 256,
      .regRead 0 256 1, .regWrite 0 256 0, .mbox 0 [], .imgBegin 0 0 (2 ^ 32), .imgData 0 0 [1, 2, 3], .imgData 0 0 [],
      .dbgUnlock 0 1 [], .dbgRead 0 (2 ^ 32) 1, .dbgWrite 0 0 [], .wearReset 0 256, .xamirFrameRejected (.badCmd 3) 0,
      .xamirFrameRejected (.badCmd 16) 0],
      i.wf = false := by decide +kernel

/-- A channel that senses nothing. -/
def senseless : ChSense :=
  { i16 := 0, vs := 0, drop16 := 0, csn := 0, pump := 0, gateA := 0, gateB := 0 }

theorem test_wf_refuses_samples :
    (Instr.marionetteTick { ch := .replicate 24 { senseless with pump := 65536 }, busMv16 := 0, dropEnd := .replicate 24 false }).wf = false := by decide +kernel

theorem test_wf_admits :
    ∀ i ∈ [Instr.powerOn true 12000 clear, .hQdataWrite .s 1 [7], .status (frameOf Shm.STATUS 0xFF 3 []), .scrub 4 .clean,
      .mbox 0 [7], .imgData 0 0 [1, 2, 3, 4], .dbgRead 0 0 1, .xamirFrameRejected (.badCmd 4) 0, .ping 0], i.wf = true := by
  decide +kernel

/-! ### Results that the spec writes out -/

/-- The next state of a command. -/
def after (i : Instr) (s : State) : State :=
  match exec i s with
  | .next t => t
  | .fault _ => State.reset
  | .refused _ => State.reset

/-- R66 and the example after Table 3.3: the CRC of the bytes 0x83 and 0x00. -/
theorem test_crc16 : crc16 [0x83] = 0x401B ∧ crc16 [0x83, 0x00] = 0x53C4 := by decide +kernel

/-- R259: the CRC of the ASCII string 123456789. -/
theorem test_crc32 : crc32 [0x31, 0x32, 0x33, 0x34, 0x35, 0x36, 0x37, 0x38, 0x39] = 0xCBF43926 := by decide +kernel

/-- The digest of the message abc in FIPS 180-4, which R106 and R523 use. -/
theorem test_sha256 : (sha256 [0x61, 0x62, 0x63]).take 4 = [0xBA, 0x78, 0x16, 0xBF] := by decide +kernel

/-- The example of chapter 0: CH7 at offset 0x05 has ID 0x11C5. -/
theorem test_parameter_id : chId 7 5 = 0x11C5 := by decide

/-- The example of chapter 3: H_MODE in ONLINE, entered from STANDBY, answers 0x00000304 after the turnaround word. -/
theorem test_read_h_mode : (after (.spiReadFrame (reads 0x830053C4)) (run .online)).link.miso.drop 1 = [0x00000304] := by
  decide +kernel

/-- The example of chapter 4: the PARAM_READ of tag 5 on channel 2 and its completion. -/
theorem test_param_read :
    let s := run .online
    let s := { s with sys := { s.sys with failoverCount := 2 } }
    ((after (.paramRead 2) (told 2 0x10 5 [0x00110000, 0x001B0000] s)).outq.get 2).words =
      [0x10029100, 0x00110011, 1, 0x001B0041, 2] := by decide +kernel

/-- Table 5.12: the PARAM_WRITE for CH6 in COMMISSION. -/
def writeCh6 : State :=
  after (.paramWrite 10) (told 10 0x11 9 [0x11800011, 2, 0x11880011, 1, 0x11890041, 0x249F0, 0x118A0041, 0x7D0, 0x118D0041,
    0x9C40, 0x11910041, 0xDAC0] (run .commission))

/-- The example at Table 5.12: ST_OK with 0xFFFF0000; at gain 1, CH6.OC_EFF_MA is 150 000 and CH6.RC_EFF_MA is 5 000. -/
theorem test_write_ch6 :
    (writeCh6.outq.get 10).words.getLast? = some 0xFFFF0000 ∧ ocEff writeCh6 6 = 150000 ∧ rcEff writeCh6 6 = 5000 := by
  decide +kernel

/-- The same example at gain 4: CH6.OC_EFF_MA is 150 000 and CH6.RC_EFF_MA is 1 992. -/
theorem test_thresholds_gain4 :
    let s := { writeCh6 with pf := writeCh6.pw }
    ocEff s 6 = 150000 ∧ rcEff s 6 = 1992 := by decide +kernel

/-- Samples of a channel at 54 V whose gates stand at 10 V. -/
def full : ChSense := { senseless with vs := 864000, csn := 864000, pump := 12000, gateA := 10000, gateB := 10000 }

/-- The end of that example: CLOSE closes a channel of string role into ARMED, and the completion word is its bit, once the
gates have reached 10 V (R158). -/
theorem test_close_into_armed :
    let s := chan 6 (fun x => { x with present := true, equal := true, st := .opened }) (par [(chId 6 Chp.ROLE, 2)] (run .online))
    let t := after (.chCtrlClose 10) (told 10 0x60 10 [0x02000040] s)
    let u := after (.marionetteTick { ch := .replicate 24 full, busMv16 := 864000, dropEnd := .replicate 24 false }) t
    (t.chan 6).st = .armed ∧ (t.outq.get 10).words.drop 3 = [] ∧
      (u.outq.get 10).words.drop 3 = [0x60050500, 0x00000040] := by decide +kernel

/-- The example of chapter 11: M_z = 37 and M_f = -32 928 for 0 mA and -40 000 mA give GAIN = 325 721 773 and OFS = 37. -/
theorem test_calibration : calGain 0 (-40000) 37 (-32928) = 325721773 ∧ calOfs 0 37 325721773 = 37 := by decide +kernel

/-- The example of chapter 14: the low half of a pair reads 0xFFFFFFFF and latches 5 for the high half. -/
theorem test_pair_latches :
    let x := (run .online).tmr1 0
    let s := run .online
    let s := { s with tmr := { s.tmr with
      t := vput (vput s.tmr.t 0 { x with cfg := 0x80000000, cnt := 0xFFFFFFFF }) 1 { x with cnt := 5 } } }
    let t := after (.tmrCntLowRead 2 0) (opened 2 (some ses) s)
    t.deolo.lastRead = 0xFFFFFFFF ∧ (t.tmr.hi.map HiLatch.value) = [5] := by decide +kernel

/-- Table 2.2 and R59: the bridge strobe takes ONLINE to BRIDGE. -/
theorem test_strobe :
    let s := run .online
    (after .bridgeStrobeInterrupt { s with bus := { s.bus with strobe := true } }).sys.mode = .bridge := by decide +kernel

/-- The example of chapter 4 with 30 words in queue 3: a word beyond the 64th replaces the word in slot 64, so slot 64 holds the last of 40 more. -/
theorem test_full_queue :
    let s := queued 3 (List.replicate 30 0) (run .online)
    let t := after (.hQdataWrite .s 3 ((List.range 40).map fun k => BitVec.ofNat 32 (k + 1))) s
    (t.inq.get 3).words.length = 64 ∧ (t.inq.get 3).words.getLast? = some 40 ∧ t.link.collide.testBit 3 = true := by
  decide +kernel

/-- A step runs the command in front and leaves the others. -/
theorem test_step : (match step { run .online with pending := [.hIrqMaskWrite 0x1FFF, .nirqPulseEnd] } with
    | .next t => some (t.pending, t.link.irqMask)
    | .fault _ => none
    | .refused _ => none) = some ([.nirqPulseEnd], 0x1FFF) := by decide +kernel

end Sys2Proof.Tests
end

section
/-! The frame of all commands at once: the frame of each command, collected along the dispatch. -/

namespace Sys2Proof.Machine

/-- Every command goes on, and changes no part that its row of the frame table does not name. -/
theorem exec_ends (c : Instr) (s : State) : Ends (maskOf c.touches) s (exec c s) := by
  cases c <;> dsimp only [Instr.touches, exec]
  case powerOn => exact execPowerOn_ends rfl
  case bootWindowExpiry => exact execBootWindowExpiry_ends rfl
  case tinSoldierHandshake => exact execTinSoldierHandshake_ends rfl
  case simplexStartTimeout => exact execSimplexStartTimeout_ends rfl
  case firmwareReady => exact execFirmwareReady_ends rfl
  case resumption => exact execResumption_ends rfl
  case nreset => exact execNreset_ends rfl
  case supplyWarning => exact execSupplyWarning_ends rfl
  case supplyFail => exact execSupplyFail_ends rfl
  case flushComplete => exact execFlushComplete_ends rfl
  case vinReturn => exact execVinReturn_ends rfl
  case railCollapse => exact execRailCollapse_ends rfl
  case dormantEnter => exact execDormantEnter_ends rfl
  case wake => exact execWake_ends rfl
  case spiWriteFrame => exact execSpiWriteFrame_ends rfl
  case spiReadFrame => exact execSpiReadFrame_ends rfl
  case dualCs => exact execDualCs_ends rfl
  case hQdataWrite => exact execHQdataWrite_ends rfl
  case hQdataRead => exact execHQdataRead_ends rfl
  case hQdataRepeat => exact execHQdataRepeat_ends rfl
  case hDoorbell => exact execHDoorbell_ends rfl
  case hDbOutClear => exact execHDbOutClear_ends rfl
  case hCollideClear => exact execHCollideClear_ends rfl
  case hIrqStatusClear => exact execHIrqStatusClear_ends rfl
  case hIrqMaskWrite => exact execHIrqMaskWrite_ends rfl
  case hLockAcquire => exact execHLockAcquire_ends rfl
  case hLockRelease => exact execHLockRelease_ends rfl
  case hReset => exact execHReset_ends rfl
  case hLinkErrRead => exact execHLinkErrRead_ends rfl
  case hOptimeLRead => exact execHOptimeLRead_ends rfl
  case hOptimeHRead => exact execHOptimeHRead_ends rfl
  case hRegWrite => exact execHRegWrite_ends rfl
  case nirqPulseEnd => exact execNirqPulseEnd_ends rfl
  case outboundPlace => exact execOutboundPlace_ends rfl
  case fragmentTimeout => exact execFragmentTimeout_ends rfl
  case inboundCollision => exact execInboundCollision_ends rfl
  case inboundMalformed => exact execInboundMalformed_ends rfl
  case sessionOpen => exact execSessionOpen_ends rfl
  case sessionAuth => exact execSessionAuth_ends rfl
  case sessionClose => exact execSessionClose_ends rfl
  case echo => exact execEcho_ends rfl
  case cancel => exact execCancel_ends rfl
  case ntfSubscribe => exact execNtfSubscribe_ends rfl
  case paramRead => exact execParamRead_ends rfl
  case paramWrite => exact execParamWrite_ends rfl
  case paramInfo => exact execParamInfo_ends rfl
  case paramList => exact execParamList_ends rfl
  case modeRequest => exact execModeRequest_ends rfl
  case isolate => exact execIsolate_ends rfl
  case restore => exact execRestore_ends rfl
  case groupCtrlReload => exact execGroupCtrlReload_ends rfl
  case groupCtrlSelftest => exact execGroupCtrlSelftest_ends rfl
  case opStartInrush => exact execOpStartInrush_ends rfl
  case opStartFetTest => exact execOpStartFetTest_ends rfl
  case opStartCapTest => exact execOpStartCapTest_ends rfl
  case opStartDurTest => exact execOpStartDurTest_ends rfl
  case evtRead => exact execEvtRead_ends rfl
  case evtClear => exact execEvtClear_ends rfl
  case snapReadAcc => exact execSnapReadAcc_ends rfl
  case snapReadTrk => exact execSnapReadTrk_ends rfl
  case snapReadXamir => exact execSnapReadXamir_ends rfl
  case chCtrlOpen => exact execChCtrlOpen_ends rfl
  case chCtrlClose => exact execChCtrlClose_ends rfl
  case chCtrlArm => exact execChCtrlArm_ends rfl
  case chCtrlDisarm => exact execChCtrlDisarm_ends rfl
  case chCtrlClear => exact execChCtrlClear_ends rfl
  case chCtrlPresence => exact execChCtrlPresence_ends rfl
  case sfkWrite => exact execSfkWrite_ends rfl
  case authLockoutEnd => exact execAuthLockoutEnd_ends rfl
  case sfkCommit => exact execSfkCommit_ends rfl
  case sfkDrill => exact execSfkDrill_ends rfl
  case cnvStart => exact execCnvStart_ends rfl
  case cnvUrgent => exact execCnvUrgent_ends rfl
  case calZero => exact execCalZero_ends rfl
  case calFull => exact execCalFull_ends rfl
  case calCompute => exact execCalCompute_ends rfl
  case calNominal => exact execCalNominal_ends rfl
  case calAbandon => exact execCalAbandon_ends rfl
  case calDirectWrite => exact execCalDirectWrite_ends rfl
  case accClear => exact execAccClear_ends rfl
  case trkFreeze => exact execTrkFreeze_ends rfl
  case trkRelease => exact execTrkRelease_ends rfl
  case tmrCtrlStart => exact execTmrCtrlStart_ends rfl
  case tmrCtrlStop => exact execTmrCtrlStop_ends rfl
  case tmrCtrlReset => exact execTmrCtrlReset_ends rfl
  case tmrCfgWrite => exact execTmrCfgWrite_ends rfl
  case tmrPeriodWrite => exact execTmrPeriodWrite_ends rfl
  case tmrCmpWrite => exact execTmrCmpWrite_ends rfl
  case tmrCntWrite => exact execTmrCntWrite_ends rfl
  case tmrCapcfgWrite => exact execTmrCapcfgWrite_ends rfl
  case tmrCapRead => exact execTmrCapRead_ends rfl
  case tmrCntLowRead => exact execTmrCntLowRead_ends rfl
  case ktValueWrite => exact execKtValueWrite_ends rfl
  case flStuckMsWrite => exact execFlStuckMsWrite_ends rfl
  case updTakeover => exact execUpdTakeover_ends rfl
  case updConfirm => exact execUpdConfirm_ends rfl
  case updRollback => exact execUpdRollback_ends rfl
  case metAuditSel => exact execMetAuditSel_ends rfl
  case logCursorWrite => exact execLogCursorWrite_ends rfl
  case logStateRead => exact execLogStateRead_ends rfl
  case bridgeStrobeInterrupt => exact execBridgeStrobeInterrupt_ends rfl
  case acCrossing => exact execAcCrossing_ends rfl
  case syncEdge => exact execSyncEdge_ends rfl
  case mainsLost => exact execMainsLost_ends rfl
  case syncLost => exact execSyncLost_ends rfl
  case autoOnline => exact execAutoOnline_ends rfl
  case cutoffDormantTimeout => exact execCutoffDormantTimeout_ends rfl
  case floatCriteriaMet => exact execFloatCriteriaMet_ends rfl
  case endOfDischarge => exact execEndOfDischarge_ends rfl
  case cutoffBatteryOpen => exact execCutoffBatteryOpen_ends rfl
  case heartbeat => exact execHeartbeat_ends rfl
  case heartbeatTimeout => exact execHeartbeatTimeout_ends rfl
  case puppeteerRestartDone => exact execPuppeteerRestartDone_ends rfl
  case surrender => exact execSurrender_ends rfl
  case clkDisagree => exact execClkDisagree_ends rfl
  case coreRail => exact execCoreRail_ends rfl
  case marSilent => exact execMarSilent_ends rfl
  case keepUvOpen => exact execKeepUvOpen_ends rfl
  case safeOkSilent => exact execSafeOkSilent_ends rfl
  case xinLost => exact execXinLost_ends rfl
  case xinReturned => exact execXinReturned_ends rfl
  case eccSingle => exact execEccSingle_ends rfl
  case eccDouble => exact execEccDouble_ends rfl
  case microcodeParity => exact execMicrocodeParity_ends rfl
  case drumParity => exact execDrumParity_ends rfl
  case groupReloadDone => exact execGroupReloadDone_ends rfl
  case marionetteTick => exact execMarionetteTick_ends rfl
  case ocReflex => exact execOcReflex_ends rfl
  case rcReflex => exact execRcReflex_ends rfl
  case armedReflex => exact execArmedReflex_ends rfl
  case presenceFilter => exact execPresenceFilter_ends rfl
  case autoInrushFile => exact execAutoInrushFile_ends rfl
  case inrushFollowDone => exact execInrushFollowDone_ends rfl
  case inrushComplete => exact execInrushComplete_ends rfl
  case inrushTimeout => exact execInrushTimeout_ends rfl
  case fetTestEnd => exact execFetTestEnd_ends rfl
  case lifeLeftDaily => exact execLifeLeftDaily_ends rfl
  case uvFilterExpiry => exact execUvFilterExpiry_ends rfl
  case overloadExpiry => exact execOverloadExpiry_ends rfl
  case driveFault => exact execDriveFault_ends rfl
  case retryAttempt => exact execRetryAttempt_ends rfl
  case waitCleared => exact execWaitCleared_ends rfl
  case retryCountReset => exact execRetryCountReset_ends rfl
  case cycleBoundary => exact execCycleBoundary_ends rfl
  case ntcValid => exact execNtcValid_ends rfl
  case dieCool => exact execDieCool_ends rfl
  case cappingEnd => exact execCappingEnd_ends rfl
  case peakSupportTimeout => exact execPeakSupportTimeout_ends rfl
  case rectLeftSet => exact execRectLeftSet_ends rfl
  case shedRestore => exact execShedRestore_ends rfl
  case walkin => exact execWalkin_ends rfl
  case walkinEnd => exact execWalkinEnd_ends rfl
  case restReference => exact execRestReference_ends rfl
  case rejoinTimeout => exact execRejoinTimeout_ends rfl
  case stringStateWrite => exact execStringStateWrite_ends rfl
  case durTestTimeout => exact execDurTestTimeout_ends rfl
  case drumConvert => exact execDrumConvert_ends rfl
  case drumTrack => exact execDrumTrack_ends rfl
  case drumProbe => exact execDrumProbe_ends rfl
  case drumSetpoint => exact execDrumSetpoint_ends rfl
  case drumShed => exact execDrumShed_ends rfl
  case drumSwitch => exact execDrumSwitch_ends rfl
  case drumNotify => exact execDrumNotify_ends rfl
  case cnvTrigger => exact execCnvTrigger_ends rfl
  case cnvTriggerDelayEnd => exact execCnvTriggerDelayEnd_ends rfl
  case urgentSequenceEnd => exact execUrgentSequenceEnd_ends rfl
  case filterWindowEnd => exact execFilterWindowEnd_ends rfl
  case lpEntry => exact execLpEntry_ends rfl
  case calCaptureEnd => exact execCalCaptureEnd_ends rfl
  case calStored => exact execCalStored_ends rfl
  case trackerFreeze => exact execTrackerFreeze_ends rfl
  case xamirRead => exact execXamirRead_ends rfl
  case snapReq => exact execSnapReq_ends rfl
  case snapFetch => exact execSnapFetch_ends rfl
  case snapshotSigned => exact execSnapshotSigned_ends rfl
  case xamirRefresh => exact execXamirRefresh_ends rfl
  case xamirStore => exact execXamirStore_ends rfl
  case xamirPowerFail => exact execXamirPowerFail_ends rfl
  case xamirPowerUp => exact execXamirPowerUp_ends rfl
  case xamirRefLost => exact execXamirRefLost_ends rfl
  case xamirRefReturn => exact execXamirRefReturn_ends rfl
  case vmiss => exact execVmiss_ends rfl
  case sealOpen => exact execSealOpen_ends rfl
  case sealClose => exact execSealClose_ends rfl
  case metroSignOn => exact execMetroSignOn_ends rfl
  case metroP1 => exact execMetroP1_ends rfl
  case metroR1Read => exact execMetroR1Read_ends rfl
  case metroW1Write => exact execMetroW1Write_ends rfl
  case metroCaptureEnd => exact execMetroCaptureEnd_ends rfl
  case metroTimeout => exact execMetroTimeout_ends rfl
  case metCopy => exact execMetCopy_ends rfl
  case metPoll => exact execMetPoll_ends rfl
  case metCrossCheck => exact execMetCrossCheck_ends rfl
  case tmrOvf => exact execTmrOvf_ends rfl
  case tmrTop => exact execTmrTop_ends rfl
  case tmrMatch => exact execTmrMatch_ends rfl
  case tmrCapture => exact execTmrCapture_ends rfl
  case tmrReject => exact execTmrReject_ends rfl
  case tmrStartEdge => exact execTmrStartEdge_ends rfl
  case ktAlarm => exact execKtAlarm_ends rfl
  case flLevelChange => exact execFlLevelChange_ends rfl
  case flStuck => exact execFlStuck_ends rfl
  case flReject => exact execFlReject_ends rfl
  case flOutputLimit => exact execFlOutputLimit_ends rfl
  case flOutputResume => exact execFlOutputResume_ends rfl
  case admWaitTimeout => exact execAdmWaitTimeout_ends rfl
  case announce => exact execAnnounce_ends rfl
  case status => exact execStatus_ends rfl
  case reserve => exact execReserve_ends rfl
  case clock => exact execClock_ends rfl
  case rectSet => exact execRectSet_ends rfl
  case rectStat => exact execRectStat_ends rfl
  case bmodStat => exact execBmodStat_ends rfl
  case announceTimer => exact execAnnounceTimer_ends rfl
  case statusTimer => exact execStatusTimer_ends rfl
  case reserveTimer => exact execReserveTimer_ends rfl
  case clockTimer => exact execClockTimer_ends rfl
  case peerTimeout => exact execPeerTimeout_ends rfl
  case rectRatingTimeout => exact execRectRatingTimeout_ends rfl
  case moduleAbsent => exact execModuleAbsent_ends rfl
  case genBusRise => exact execGenBusRise_ends rfl
  case busOff => exact execBusOff_ends rfl
  case busOffRecovery => exact execBusOffRecovery_ends rfl
  case recordWrite => exact execRecordWrite_ends rfl
  case scrub => exact execScrub_ends rfl
  case powerRecordTimer => exact execPowerRecordTimer_ends rfl
  case wearRecordTimer => exact execWearRecordTimer_ends rfl
  case configRecordWrite => exact execConfigRecordWrite_ends rfl
  case migrate => exact execMigrate_ends rfl
  case logWrite => exact execLogWrite_ends rfl
  case rateWindowEnd => exact execRateWindowEnd_ends rfl
  case dropSummary => exact execDropSummary_ends rfl
  case svcEnRise => exact execSvcEnRise_ends rfl
  case svcEnFall => exact execSvcEnFall_ends rfl
  case svcFrameGap => exact execSvcFrameGap_ends rfl
  case ping => exact execPing_ends rfl
  case setBaud => exact execSetBaud_ends rfl
  case baudFallback => exact execBaudFallback_ends rfl
  case svcRestart => exact execSvcRestart_ends rfl
  case regRead => exact execRegRead_ends rfl
  case regWrite => exact execRegWrite_ends rfl
  case mbox => exact execMbox_ends rfl
  case imgBegin => exact execImgBegin_ends rfl
  case imgData => exact execImgData_ends rfl
  case imgEnd => exact execImgEnd_ends rfl
  case takeover => exact execTakeover_ends rfl
  case shadowBootDone => exact execShadowBootDone_ends rfl
  case mirrorReady => exact execMirrorReady_ends rfl
  case syncTimeout => exact execSyncTimeout_ends rfl
  case takeoverBoundary => exact execTakeoverBoundary_ends rfl
  case confirm => exact execConfirm_ends rfl
  case trialTimeout => exact execTrialTimeout_ends rfl
  case rollback => exact execRollback_ends rfl
  case dbgChallenge => exact execDbgChallenge_ends rfl
  case dbgUnlock => exact execDbgUnlock_ends rfl
  case dbgLock => exact execDbgLock_ends rfl
  case dbgRead => exact execDbgRead_ends rfl
  case dbgHalt => exact execDbgHalt_ends rfl
  case dbgResume => exact execDbgResume_ends rfl
  case dbgStep => exact execDbgStep_ends rfl
  case dbgWrite => exact execDbgWrite_ends rfl
  case wearReset => exact execWearReset_ends rfl
  case supplyWarningEnd => exact execSupplyWarningEnd_ends rfl
  case coreRailInWindow => exact execCoreRailInWindow_ends rfl
  case xamirSample => exact execXamirSample_ends rfl
  case xamirFrameRejected => exact execXamirFrameRejected_ends rfl
  case sequencerResult => exact execSequencerResult_ends rfl
  case shbRxIgnored => exact execShbRxIgnored_ends rfl
  case svcFrameDiscarded => exact execSvcFrameDiscarded_ends rfl
  case svcUndefinedType => exact execSvcUndefinedType_ends rfl
  case undefinedOpcode => exact execUndefinedOpcode_ends rfl
  case chCtrlReservedAction => exact execChCtrlReservedAction_ends rfl
  case opStartUndefinedCode => exact execOpStartUndefinedCode_ends rfl

/-- A command that ends in a next state leaves every part outside its row as it was. -/
theorem exec_sameBut {c : Instr} {s t : State} (h : exec c s = .next t) : SameBut c.touches s t := by
  obtain ⟨u, hu, hs⟩ := exec_ends c s
  cases hu.symm.trans h
  exact (sameBut_iff _ _ _).2 hs

/-- Settles O57, by the frame of each command. -/
theorem aCommandChangesOnlyTheParts : Obligations.ACommandChangesOnlyTheParts :=
  fun _ _ _ => exec_sameBut

end Sys2Proof.Machine
end

section
/-! Fuses and the clock only rise: most commands touch neither, and those that do let time pass first. -/

namespace Sys2Proof.Machine

variable {m k n : Nat} {s t u v : State} {o : Host.Outcome State Fault Refusal}

/-- No fuse is cleared, and the clock does not fall. -/
def Rises (s t : State) : Prop := FusesKept s t ∧ s.clock ≤ t.clock

theorem Rises.refl (s : State) : Rises s s := ⟨⟨le_rfl, fun _ h => h⟩, le_rfl⟩

theorem Rises.trans (h : Rises s t) (k : Rises t u) : Rises s u :=
  ⟨⟨h.1.1.trans k.1.1, fun i x => k.1.2 i (h.1.2 i x)⟩, h.2.trans k.2⟩

/-- States that agree in the clock and the fuses; the mask holds every other part. -/
abbrev Level (s t : State) : Prop := Same 8053063677 s t

theorem Same.level (h : Same m s t) (hm : 8053063677 &&& m = m) : Level s t := h.mono hm

/-- The fuses that stand as they did are kept. -/
theorem rises_of_fuses (hf : t.svc.fuses = s.svc.fuses) (hc : s.clock ≤ t.clock) : Rises s t := by
  obtain ⟨h1, h2⟩ := Prod.mk.inj hf
  exact ⟨⟨h1.ge, fun i x => h2 ▸ x⟩, hc⟩

theorem SameBut.rises {l : List Part} (h : SameBut l s t) (hc : .clock ∉ l) (hf : .fuses ∉ l) : Rises s t :=
  rises_of_fuses (h .fuses hf) (h .clock hc).ge

theorem Level.rises (h : Level s t) : Rises s t := rises_of_fuses (h.part .fuses rfl) (h.part .clock rfl).ge

/-- The form in which `simp` carries a rise through the operations that touch neither clock nor fuses. -/
theorem rises_iff : Rises s t ↔ ∀ v, Level v t → Rises s v :=
  ⟨fun h _ hv => h.trans (Level.rises (Same.symm hv)), fun h => h t (same_refl _ _)⟩

/-- A command that goes on, and turns nothing back. -/
def EndsUp (s : State) (o : Host.Outcome State Fault Refusal) : Prop := ∃ t, o = .next t ∧ Rises s t

@[simp ↓] theorem endsUp_next : EndsUp s (.next t) ↔ ∀ v, Level v t → Rises s v :=
  Iff.trans ⟨fun ⟨_, e, h⟩ => by cases e; exact h, fun h => ⟨t, rfl, h⟩⟩ rises_iff

@[simp ↓] theorem endsUp_ite {c : Prop} [Decidable c] {a b : Host.Outcome State Fault Refusal} :
    EndsUp s (if c then a else b) ↔ if c then EndsUp s a else EndsUp s b := by
  split <;> rfl

/-! ### The passing of time -/

@[simp] theorem rises_self (s : State) : Rises s s := .refl s

@[simp] theorem elapse_clock (d : Nat) (s : State) : (elapse d s).clock = s.clock + d := by
  have h : (ktOutputs ((s.clock + d) / clkKt - s.clock / clkKt) s).clock = s.clock := by
    unfold ktOutputs; split_ifs <;> rfl
  rw [elapse, h]

theorem elapse_rises (d : Nat) (s : State) : Rises s (elapse d s) :=
  rises_of_fuses (elapse_frame.part .fuses rfl) (elapse_clock d s ▸ Nat.le_add_right _ _)

theorem passTo_rises (d : Nat) (s : State) : Rises s (passTo d s) :=
  (elapse_rises (d - s.clock) s).trans (Level.rises (by simp [passTo, elapseTo]))

@[simp] theorem up_self : (∀ v, Level v s → Rises s v) ↔ True := iff_true_intro fun _ h => Level.rises (Same.symm h)

@[simp] theorem up_elapse (h : Rises s t) : (∀ v, Level v (elapse n t) → Rises s v) ↔ True :=
  iff_true_intro (rises_iff.1 (h.trans (elapse_rises n t)))

@[simp] theorem up_passTo (h : Rises s t) : (∀ v, Level v (passTo n t) → Rises s v) ↔ True :=
  iff_true_intro (rises_iff.1 (h.trans (passTo_rises n t)))

@[simp] theorem up_elapseTo (h : Rises s t) : (∀ v, Level v (elapseTo n t) → Rises s v) ↔ True := up_elapse h

@[simp] theorem up_passOptime (h : Rises s t) : (∀ v, Level v (passOptime n t) → Rises s v) ↔ True := up_passTo h

/-! ### Commands that let time pass -/

theorem execPresenceFilter_endsUp (c : Ch) (vsMv : Int) : EndsUp s (execPresenceFilter c vsMv s) := by
  unfold execPresenceFilter
  simp

theorem execInrushTimeout_endsUp (c : Ch) : EndsUp s (execInrushTimeout c s) := by
  unfold execInrushTimeout
  split <;> simp

theorem execFetTestEnd_endsUp (c : Ch) : EndsUp s (execFetTestEnd c s) := by
  unfold execFetTestEnd
  split
  · split <;> simp
  · simp

theorem execLifeLeftDaily_endsUp : EndsUp s (execLifeLeftDaily s) := by
  unfold execLifeLeftDaily
  simp

theorem execUvFilterExpiry_endsUp (c : Ch) : EndsUp s (execUvFilterExpiry c s) := by
  unfold execUvFilterExpiry
  simp

theorem execOverloadExpiry_endsUp (c : Ch) : EndsUp s (execOverloadExpiry c s) := by
  unfold execOverloadExpiry
  simp

theorem execWaitCleared_endsUp (c : Ch) : EndsUp s (execWaitCleared c s) := by
  unfold execWaitCleared
  simp

theorem execRetryCountReset_endsUp (c : Ch) : EndsUp s (execRetryCountReset c s) := by
  unfold execRetryCountReset
  simp

theorem execFlStuck_endsUp (l : Line) : EndsUp s (execFlStuck l s) := by
  unfold execFlStuck
  split <;> simp

theorem execFlOutputResume_endsUp (l : Line) : EndsUp s (execFlOutputResume l s) := by
  unfold execFlOutputResume
  simp

theorem execCnvTriggerDelayEnd_endsUp (k : Grp) (second : Bool) : EndsUp s (execCnvTriggerDelayEnd k second s) := by
  unfold execCnvTriggerDelayEnd
  dsimp only
  split <;> simp

theorem execFilterWindowEnd_endsUp (k : Grp) (e : Fin 32) : EndsUp s (execFilterWindowEnd k e s) := by
  unfold execFilterWindowEnd
  simp

theorem execTrackerFreeze_endsUp (b : Fin 12) : EndsUp s (execTrackerFreeze b s) := by
  unfold execTrackerFreeze
  simp

theorem execAuthLockoutEnd_endsUp (n : Mb) : EndsUp s (execAuthLockoutEnd n s) := by
  unfold execAuthLockoutEnd
  simp

theorem execFragmentTimeout_endsUp (n : Mb) : EndsUp s (execFragmentTimeout n s) := by
  unfold execFragmentTimeout
  dsimp only
  split
  · simp
  · split <;> simp

theorem execLogWrite_endsUp : EndsUp s (execLogWrite s) := by
  unfold execLogWrite
  split
  · simp
  · split <;> simp

theorem execRateWindowEnd_endsUp : EndsUp s (execRateWindowEnd s) := by
  unfold execRateWindowEnd
  simp

theorem execAcCrossing_endsUp (x : Crossing) : EndsUp s (execAcCrossing x s) := by
  unfold execAcCrossing
  simp

theorem execSyncEdge_endsUp (x : SyncRise) : EndsUp s (execSyncEdge x s) := by
  unfold execSyncEdge
  simp

theorem execMainsLost_endsUp (cause : LossCause) : EndsUp s (execMainsLost cause s) := by
  unfold execMainsLost
  split
  · simp
  · split <;> simp

theorem execSyncLost_endsUp : EndsUp s (execSyncLost s) := by
  unfold execSyncLost
  simp

theorem execCutoffDormantTimeout_endsUp : EndsUp s (execCutoffDormantTimeout s) := by
  unfold execCutoffDormantTimeout
  simp

theorem execPeakSupportTimeout_endsUp : EndsUp s (execPeakSupportTimeout s) := by
  unfold execPeakSupportTimeout
  split <;> simp

theorem execAdmWaitTimeout_endsUp (pos : Nat) : EndsUp s (execAdmWaitTimeout pos s) := by
  unfold execAdmWaitTimeout
  split <;> simp

theorem execFloatCriteriaMet_endsUp (k : Str) : EndsUp s (execFloatCriteriaMet k s) := by
  unfold execFloatCriteriaMet
  split <;> simp

theorem execCutoffBatteryOpen_endsUp : EndsUp s (execCutoffBatteryOpen s) := by
  unfold execCutoffBatteryOpen
  simp

theorem execRestReference_endsUp (k : Str) : EndsUp s (execRestReference k s) := by
  unfold execRestReference
  split
  · split <;> simp
  · simp

theorem execRejoinTimeout_endsUp (k : Str) : EndsUp s (execRejoinTimeout k s) := by
  unfold execRejoinTimeout
  split <;> simp

theorem execStringStateWrite_endsUp : EndsUp s (execStringStateWrite s) := by
  unfold execStringStateWrite
  simp

theorem execDurTestTimeout_endsUp : EndsUp s (execDurTestTimeout s) := by
  unfold execDurTestTimeout
  split <;> simp

theorem execXamirSample_endsUp (m : XamirSamples) : EndsUp s (execXamirSample m s) := by
  unfold execXamirSample
  simp

theorem execVmiss_endsUp (k : Fin 4) (meanMv : Nat) : EndsUp s (execVmiss k meanMv s) := by
  unfold execVmiss
  split <;> simp

theorem execXamirRefresh_endsUp : EndsUp s (execXamirRefresh s) := by
  unfold execXamirRefresh
  simp

theorem execXamirStore_endsUp (ok : Bool) : EndsUp s (execXamirStore ok s) := by
  unfold execXamirStore
  simp

theorem execXamirRefReturn_endsUp : EndsUp s (execXamirRefReturn s) := by
  unfold execXamirRefReturn
  simp

theorem execMetroTimeout_endsUp : EndsUp s (execMetroTimeout s) := by
  unfold execMetroTimeout
  simp

theorem execMetCopy_endsUp : EndsUp s (execMetCopy s) := by
  unfold execMetCopy
  simp

theorem execMetPoll_endsUp (answered : Bool) : EndsUp s (execMetPoll answered s) := by
  unfold execMetPoll
  simp

theorem execMetCrossCheck_endsUp : EndsUp s (execMetCrossCheck s) := by
  unfold execMetCrossCheck
  simp

theorem execAnnounceTimer_endsUp : EndsUp s (execAnnounceTimer s) := by
  unfold execAnnounceTimer
  simp

theorem execStatusTimer_endsUp : EndsUp s (execStatusTimer s) := by
  unfold execStatusTimer
  simp

theorem execReserveTimer_endsUp : EndsUp s (execReserveTimer s) := by
  unfold execReserveTimer
  simp

theorem execClockTimer_endsUp : EndsUp s (execClockTimer s) := by
  unfold execClockTimer
  simp

theorem execPeerTimeout_endsUp (k : Fin 8) : EndsUp s (execPeerTimeout k s) := by
  unfold execPeerTimeout
  simp

theorem execRectRatingTimeout_endsUp (c : Ch) : EndsUp s (execRectRatingTimeout c s) := by
  unfold execRectRatingTimeout
  simp

theorem execModuleAbsent_endsUp (k : Str) (addr : Nat) : EndsUp s (execModuleAbsent k addr s) := by
  unfold execModuleAbsent
  split <;> simp

theorem execGenBusRise_endsUp : EndsUp s (execGenBusRise s) := by
  unfold execGenBusRise
  split <;> simp

theorem execPowerRecordTimer_endsUp : EndsUp s (execPowerRecordTimer s) := by
  unfold execPowerRecordTimer
  simp

theorem execWearRecordTimer_endsUp : EndsUp s (execWearRecordTimer s) := by
  unfold execWearRecordTimer
  simp

theorem execBaudFallback_endsUp : EndsUp s (execBaudFallback s) := by
  unfold execBaudFallback
  simp [Svc.fuses, Svc.images]

theorem execSyncTimeout_endsUp : EndsUp s (execSyncTimeout s) := by
  unfold execSyncTimeout
  simp

theorem execDriveFault_endsUp (fail : DriveFail) : EndsUp s (execDriveFault fail s) := by
  unfold execDriveFault
  dsimp only
  split
  · split <;> simp
  · simp

theorem execRetryAttempt_endsUp (c : Ch) : EndsUp s (execRetryAttempt c s) := by
  unfold execRetryAttempt
  dsimp only
  split
  · split <;> simp
  · simp

theorem execWalkinEnd_endsUp (c : Ch) : EndsUp s (execWalkinEnd c s) := by
  unfold execWalkinEnd
  split
  · dsimp only
    split <;> simp
  all_goals simp

theorem reachEnd_endsUp {k : Str} {c : Ch} (h : Rises s t) :
    EndsUp s (.next (if eodMet t k c then reportCh s (reachEnd k c t) else s)) := by
  split
  · simpa using rises_iff.1 h
  · simp

theorem execEndOfDischarge_endsUp (k : Str) : EndsUp s (execEndOfDischarge k s) := by
  unfold execEndOfDischarge
  split
  · simp
  · split
    · simp
    · refine reachEnd_endsUp ?_
      split
      · split
        · exact .refl s
        · exact passTo_rises _ s
      · exact .refl s

theorem execMetroCaptureEnd_endsUp (mean : Int) (steady : Bool) : EndsUp s (execMetroCaptureEnd mean steady s) := by
  unfold execMetroCaptureEnd
  split
  · simp
  · split
    · simp
    · dsimp only
      split
      · simp
      · split
        · simp
        · split
          · simp
          · split <;> simp

theorem execWake_endsUp (src : WakeSrc) (test : SelfTest) : EndsUp s (execWake src test s) := by
  unfold execWake
  split
  · simp
  · split
    · simp
    · split
      · split <;> simp
      all_goals simp

/-! ### Entries of the drum, boundaries, ticks and timers -/

theorem forEach_rises {α : Type} {f : α → State → State} (h : ∀ a t, Rises t (f a t)) (l : List α) (s : State) :
    Rises s (forEach l f s) := by
  induction l generalizing s with
  | nil => exact .refl s
  | cons a l ih => exact (h a s).trans (ih _)

theorem runEntry_rises (e : Fin 256) (s : State) : Rises s (runEntry e s) := by
  rw [rises_iff, runEntry]
  simp

@[simp] theorem dispatchTo_rises (key : Nat) (s : State) : Rises s (dispatchTo key s) := by
  unfold dispatchTo
  split
  · exact forEach_rises runEntry_rises _ s
  · exact .refl s

theorem atEntry_rises (e : Fin 256) (action : Nat) (s : State) : Rises s (atEntry e action s) := by
  unfold atEntry
  split
  · exact dispatchTo_rises _ s
  · exact .refl s

theorem tick_rises (inp : TickIn) (s : State) : Rises s (tick inp s) := by
  rw [rises_iff]
  unfold tick
  simp

theorem boundary_rises (inp : BoundaryIn) (s : State) : Rises s (boundary inp s) := by
  rw [rises_iff]
  unfold boundary
  simp

theorem execCycleBoundary_endsUp (inp : BoundaryIn) : EndsUp s (execCycleBoundary inp s) := by
  unfold execCycleBoundary
  split
  · exact ⟨_, rfl, boundary_rises inp s⟩
  · exact ⟨_, rfl, .refl s⟩

theorem matchAt_rises (k : Tmr) (m : Nat) (s : State) : Rises s (matchAt k m s) := by
  rw [rises_iff, matchAt]
  simp

theorem matchWithin_rises (k : Tmr) (m : Nat) (s : State) : Rises s (matchWithin k m s) := by
  unfold matchWithin
  split
  · split
    · exact matchAt_rises k _ s
    · exact .refl s
  · exact .refl s

theorem topAt_rises (k : Tmr) (m : Nat) (s : State) : Rises s (topAt k m s) := by
  rw [rises_iff, topAt]
  simp

@[simp] theorem lapTo_rises (k : Tmr) (s : State) : Rises s (lapTo k s) := by
  unfold lapTo
  split
  · exact (matchWithin_rises k _ s).trans (topAt_rises k _ _)
  · exact matchWithin_rises k _ s

theorem execTmrOvf_endsUp (k : Tmr) : EndsUp s (execTmrOvf k s) := by
  unfold execTmrOvf
  split <;> simp

theorem execTmrTop_endsUp (k : Tmr) : EndsUp s (execTmrTop k s) := by
  unfold execTmrTop
  split
  · exact ⟨_, rfl, .refl s⟩
  · exact ⟨_, rfl, lapTo_rises k s⟩

theorem execTmrMatch_endsUp (k : Tmr) : EndsUp s (execTmrMatch k s) := by
  unfold execTmrMatch
  split
  · exact ⟨_, rfl, .refl s⟩
  · split
    · exact ⟨_, rfl, matchAt_rises k _ s⟩
    · exact ⟨_, rfl, .refl s⟩

/-! ### The fuses -/

/-- A confirmation raises the count of SVN fuses to the image's, or leaves it (R531). -/
theorem confirmTrial_rises (s : State) : Rises s (confirmTrial s) := by
  unfold confirmTrial
  dsimp only
  split
  · exact .refl s
  · split
    · refine ⟨⟨?_, ?_⟩, ?_⟩ <;> simp [modBank] <;> split <;> simp
    · exact Level.rises (by simp [Svc.fuses, Svc.images])

theorem updConfirmOp_rises (s : State) : Rises s (updConfirmOp s) :=
  (confirmTrial_rises s).trans (Level.rises (by simp [updConfirmOp]))

/-- Of all hooks, that of UPD.CONFIRM alone reaches the fuses. -/
theorem itemHook_rises (s0 : State) (n : Mb) (g : Latest) (x : Item) (s : State) : Rises s (itemHook s0 n g x s) := by
  unfold itemHook
  dsimp only
  split
  case h_11 =>
    split
    · exact updConfirmOp_rises s
    · exact .refl s
  case h_12 =>
    split
    · split
      · exact Level.rises (by simp)
      · exact .refl s
    · exact .refl s
  case h_9 =>
    split
    · exact Level.rises (by simp)
    · exact Level.rises (by simp)
  all_goals exact Level.rises (by simp)

theorem applyItems_rises (n : Mb) (l : List Item) (s : State) : Rises s (applyItems n l s) := by
  have h : Level s (forEach l forceItem (forEach l putItem s)) := by simp
  exact h.rises.trans (forEach_rises (itemHook_rises s n _) l _)

theorem writeItems_rises (n : Mb) (l : List Item) (s : State) : Rises s (writeItems n l s).2.2 := by
  unfold writeItems
  split
  · exact Level.rises (by simp)
  · split
    · exact applyItems_rises n l s
    · dsimp only
      split
      · exact Rises.trans (t := fileTakeover .param s) (Level.rises (by simp)) (applyItems_rises n l _)
      · exact Level.rises (by simp)

theorem writeOne_rises (n : Mb) (l : List Item) (s : State) : Rises s (writeOne n l s) := by
  have h := writeItems_rises n l s
  unfold writeOne
  split
  · exact .refl s
  · split
    · exact Level.rises (by simp)
    · refine h.trans (Level.rises ?_)
      simp

theorem writeOne_endsUp (n : Mb) (l : List Item) : EndsUp s (.next (writeOne n l s)) := ⟨_, rfl, writeOne_rises n l s⟩

theorem paramWriteOp_rises (c : Cmd) (s : State) : Rises s (paramWriteOp c s) := by
  unfold paramWriteOp
  split
  · exact Level.rises (by simp)
  · next l _ =>
    split
    · split
      · exact Level.rises (by simp)
      · exact Level.rises (by simp)
    · have h := writeItems_rises c.chan l (begin_ c.id s)
      exact (Level.rises (by simp)).trans (h.trans (Level.rises (by simp)))

/-- A command of the firmware turns nothing back when its act does not. -/
theorem runCmd_rises {n : Mb} {sel : Nat → List Word → Bool} {act : Cmd → State → State}
    (h : ∀ c t, Rises t (act c t)) (s : State) : Rises s (runCmd n sel act s) := by
  unfold runCmd
  split
  · exact .refl s
  · dsimp only
    split
    · exact .refl s
    · split
      · exact .refl s
      · split
        · exact .refl s
        · split
          · exact Level.rises (by simp)
          · split
            · exact Level.rises (by simp)
            · split
              · exact Level.rises (by simp)
              · exact Rises.trans (Level.rises (by simp)) (h _ _)

/-- A frame of the service port turns nothing back when its act does not. -/
theorem serve_rises {type seq : Nat} {sec inRec : Bool} {act : State → State} (h : ∀ t, Rises t (act t)) (s : State) :
    Rises s (serve type seq sec inRec act s) := by
  have hs : Rises s (svcHeard s) := Level.rises (by simp)
  unfold serve
  split
  · exact .refl s
  · dsimp only
    split
    · exact hs.trans (svcReply_frame.level rfl).rises
    · split
      · exact hs.trans (svcReply_frame.level rfl).rises
      · split
        · exact hs.trans (svcReply_frame.level rfl).rises
        · exact hs.trans (h _)

theorem execConfirm_endsUp (seq : Byte) (key : Word) : EndsUp s (execConfirm seq key s) := by
  refine ⟨_, rfl, serve_rises (fun t => ?_) s⟩
  split
  · exact Level.rises (by simp)
  · split
    · exact Level.rises (by simp)
    · exact (confirmTrial_rises t).trans (Level.rises (by simp))

theorem execTrialTimeout_endsUp : EndsUp s (execTrialTimeout s) := by
  unfold execTrialTimeout
  dsimp only
  split
  · exact ⟨_, rfl, (passTo_rises _ s).trans (confirmTrial_rises _)⟩
  · exact ⟨_, rfl, .refl s⟩

/-! ### Every command -/

theorem idleStep_rises (s : State) : Rises s (idleStep s) :=
  (elapse_rises clkKt s).trans (Level.rises (by simp [idleStep, idle]))

/-- A command whose row names neither clock nor fuses is done by its frame; the others let time pass, or confirm a trial. -/
theorem exec_endsUp (c : Instr) (s : State) : EndsUp s (exec c s) := by
  by_cases hc : .clock ∉ c.touches ∧ .fuses ∉ c.touches
  · obtain ⟨t, ht, -⟩ := exec_ends c s
    exact ⟨t, ht, (exec_sameBut ht).rises hc.1 hc.2⟩
  cases c <;> dsimp only [Instr.touches, exec] at hc ⊢
  case wake => exact execWake_endsUp _ _
  case fragmentTimeout => exact execFragmentTimeout_endsUp _
  case paramWrite => exact ⟨_, rfl, runCmd_rises paramWriteOp_rises s⟩
  case authLockoutEnd => exact execAuthLockoutEnd_endsUp _
  case sfkCommit => exact writeOne_endsUp _ _
  case sfkDrill => exact writeOne_endsUp _ _
  case cnvStart => exact writeOne_endsUp _ _
  case cnvUrgent => exact writeOne_endsUp _ _
  case calZero => exact writeOne_endsUp _ _
  case calFull => exact writeOne_endsUp _ _
  case calCompute => exact writeOne_endsUp _ _
  case calNominal => exact writeOne_endsUp _ _
  case calAbandon => exact writeOne_endsUp _ _
  case calDirectWrite => exact writeOne_endsUp _ _
  case accClear => exact writeOne_endsUp _ _
  case trkFreeze => exact writeOne_endsUp _ _
  case trkRelease => exact writeOne_endsUp _ _
  case tmrCtrlStart => exact writeOne_endsUp _ _
  case tmrCtrlStop => exact writeOne_endsUp _ _
  case tmrCtrlReset => exact writeOne_endsUp _ _
  case tmrCfgWrite => exact writeOne_endsUp _ _
  case tmrPeriodWrite => exact writeOne_endsUp _ _
  case tmrCmpWrite => exact writeOne_endsUp _ _
  case tmrCntWrite => exact writeOne_endsUp _ _
  case tmrCapcfgWrite => exact writeOne_endsUp _ _
  case ktValueWrite => exact writeOne_endsUp _ _
  case flStuckMsWrite => exact writeOne_endsUp _ _
  case updTakeover => exact writeOne_endsUp _ _
  case updConfirm => exact writeOne_endsUp _ _
  case updRollback => exact writeOne_endsUp _ _
  case metAuditSel => exact writeOne_endsUp _ _
  case logCursorWrite => exact writeOne_endsUp _ _
  case acCrossing => exact execAcCrossing_endsUp _
  case syncEdge => exact execSyncEdge_endsUp _
  case mainsLost => exact execMainsLost_endsUp _
  case syncLost => exact execSyncLost_endsUp
  case cutoffDormantTimeout => exact execCutoffDormantTimeout_endsUp
  case floatCriteriaMet => exact execFloatCriteriaMet_endsUp _
  case endOfDischarge => exact execEndOfDischarge_endsUp _
  case cutoffBatteryOpen => exact execCutoffBatteryOpen_endsUp
  case marionetteTick => exact ⟨_, rfl, tick_rises _ s⟩
  case presenceFilter => exact execPresenceFilter_endsUp _ _
  case inrushTimeout => exact execInrushTimeout_endsUp _
  case fetTestEnd => exact execFetTestEnd_endsUp _
  case lifeLeftDaily => exact execLifeLeftDaily_endsUp
  case uvFilterExpiry => exact execUvFilterExpiry_endsUp _
  case overloadExpiry => exact execOverloadExpiry_endsUp _
  case driveFault => exact execDriveFault_endsUp _
  case retryAttempt => exact execRetryAttempt_endsUp _
  case waitCleared => exact execWaitCleared_endsUp _
  case retryCountReset => exact execRetryCountReset_endsUp _
  case cycleBoundary => exact execCycleBoundary_endsUp _
  case peakSupportTimeout => exact execPeakSupportTimeout_endsUp
  case walkinEnd => exact execWalkinEnd_endsUp _
  case restReference => exact execRestReference_endsUp _
  case rejoinTimeout => exact execRejoinTimeout_endsUp _
  case stringStateWrite => exact execStringStateWrite_endsUp
  case durTestTimeout => exact execDurTestTimeout_endsUp
  case drumConvert => exact ⟨_, rfl, atEntry_rises _ _ s⟩
  case drumTrack => exact ⟨_, rfl, atEntry_rises _ _ s⟩
  case drumProbe => exact ⟨_, rfl, atEntry_rises _ _ s⟩
  case drumSetpoint => exact ⟨_, rfl, atEntry_rises _ _ s⟩
  case drumShed => exact ⟨_, rfl, atEntry_rises _ _ s⟩
  case drumSwitch => exact ⟨_, rfl, atEntry_rises _ _ s⟩
  case drumNotify => exact ⟨_, rfl, atEntry_rises _ _ s⟩
  case cnvTriggerDelayEnd => exact execCnvTriggerDelayEnd_endsUp _ _
  case filterWindowEnd => exact execFilterWindowEnd_endsUp _ _
  case trackerFreeze => exact execTrackerFreeze_endsUp _
  case xamirRefresh => exact execXamirRefresh_endsUp
  case xamirStore => exact execXamirStore_endsUp _
  case xamirRefReturn => exact execXamirRefReturn_endsUp
  case vmiss => exact execVmiss_endsUp _ _
  case metroCaptureEnd => exact execMetroCaptureEnd_endsUp _ _
  case metroTimeout => exact execMetroTimeout_endsUp
  case metCopy => exact execMetCopy_endsUp
  case metPoll => exact execMetPoll_endsUp _
  case metCrossCheck => exact execMetCrossCheck_endsUp
  case tmrOvf => exact execTmrOvf_endsUp _
  case tmrTop => exact execTmrTop_endsUp _
  case tmrMatch => exact execTmrMatch_endsUp _
  case flStuck => exact execFlStuck_endsUp _
  case flOutputResume => exact execFlOutputResume_endsUp _
  case admWaitTimeout => exact execAdmWaitTimeout_endsUp _
  case announceTimer => exact execAnnounceTimer_endsUp
  case statusTimer => exact execStatusTimer_endsUp
  case reserveTimer => exact execReserveTimer_endsUp
  case clockTimer => exact execClockTimer_endsUp
  case peerTimeout => exact execPeerTimeout_endsUp _
  case rectRatingTimeout => exact execRectRatingTimeout_endsUp _
  case moduleAbsent => exact execModuleAbsent_endsUp _ _
  case genBusRise => exact execGenBusRise_endsUp
  case powerRecordTimer => exact execPowerRecordTimer_endsUp
  case wearRecordTimer => exact execWearRecordTimer_endsUp
  case logWrite => exact execLogWrite_endsUp
  case rateWindowEnd => exact execRateWindowEnd_endsUp
  case baudFallback => exact execBaudFallback_endsUp
  case syncTimeout => exact execSyncTimeout_endsUp
  case confirm => exact execConfirm_endsUp _ _
  case trialTimeout => exact execTrialTimeout_endsUp
  case xamirSample => exact execXamirSample_endsUp _
  all_goals exact absurd (by decide) hc

/-- Settles O59: time only passes, and a confirmation only raises the SVN floor. -/
theorem fusesAndTheClockOnlyRise : Obligations.FusesAndTheClockOnlyRise := by
  intro s t h
  unfold step at h
  split at h
  · cases h
    exact idleStep_rises s
  · next c rest _ =>
    obtain ⟨u, hu, hr⟩ := exec_endsUp c { s with pending := rest }
    cases hu.symm.trans h
    exact hr

end Sys2Proof.Machine
end

section
/-! What the supervision of the Puppeteers does to their records and to the flags of Table 9.1. -/

namespace Sys2Proof.Machine

variable {p : Pup} {k : Nat} {s : State} {f : Pupp → Pupp}

/-! ### The record of a Puppeteer -/

@[simp] theorem otherPup_ne (p : Pup) : otherPup p ≠ p := by cases p <;> decide

@[simp] theorem otherPup_otherPup (p : Pup) : otherPup (otherPup p) = p := by cases p <;> rfl

theorem eq_otherPup {q : Pup} (h : p ≠ q) : q = otherPup p := by
  cases p <;> cases q <;> simp_all [otherPup]

@[simp] theorem pup_modPup (p : Pup) (f : Pupp → Pupp) (s : State) : (modPup p f s).sys.pup p = f (s.sys.pup p) := by
  cases p <;> rfl

@[simp] theorem pup_modPup_other (p : Pup) (f : Pupp → Pupp) (s : State) :
    (modPup p f s).sys.pup (otherPup p) = s.sys.pup (otherPup p) := by
  cases p <;> rfl

@[simp] theorem modPup_modPup (p : Pup) (f g : Pupp → Pupp) (s : State) :
    modPup p f (modPup p g s) = modPup p (fun x => f (g x)) s := by
  cases p <;> rfl

/-- Of the registers of chapter 2 a change of a Puppeteer's record keeps all but that record. -/
@[simp] theorem modPup_modes : (modPup p f s).sys.modes = s.sys.modes := by cases p <;> rfl
@[simp] theorem modPup_mode : (modPup p f s).sys.mode = s.sys.mode := by cases p <;> rfl
@[simp] theorem modPup_phase : (modPup p f s).sys.phase = s.sys.phase := by cases p <;> rfl
@[simp] theorem modPup_active : (modPup p f s).sys.active = s.sys.active := by cases p <;> rfl
@[simp] theorem modPup_failoverCount : (modPup p f s).sys.failoverCount = s.sys.failoverCount := by cases p <;> rfl
@[simp] theorem modPup_tin : (modPup p f s).tin = s.tin := by cases p <;> rfl
@[simp] theorem modPup_svc : (modPup p f s).svc = s.svc := by cases p <;> rfl

@[simp] theorem settleSimplex_pup (q : Pup) : (settleSimplex s).sys.pup q = s.sys.pup q := by cases q <;> rfl

/-- The simplex bit, said from either Puppeteer's side. -/
theorem settleSimplex_simplex (p : Pup) (s : State) :
    (settleSimplex s).sys.simplex = !((s.sys.pup p).up && (s.sys.pup (otherPup p)).up) := by
  cases p
  · rfl
  · exact congrArg (!·) (Bool.and_comm _ _)

/-! ### The flags of Table 9.1 -/

@[simp] theorem setWatch_sys : (setWatch k s).sys = s.sys := rfl

@[simp] theorem setWatch_testBit (k : Nat) (s : State) : (setWatch k s).tin.watch.testBit k = true := by
  simp [setWatch, Nat.testBit_or]

theorem testBit_sub_two_pow {n k : Nat} (h : n.testBit k = true) : (n - 2 ^ k).testBit k = false := by
  rw [Nat.testBit_eq_decide_div_mod_eq, decide_eq_true_eq] at h
  have e := Nat.sub_mul_div n (2 ^ k) 1
  rw [Nat.mul_one] at e
  rw [Nat.testBit_eq_decide_div_mod_eq, e, decide_eq_false_iff_not]
  omega

@[simp] theorem clearWatch_testBit (k : Nat) (s : State) : (clearWatch k s).tin.watch.testBit k = false := by
  unfold clearWatch
  split
  · exact testBit_sub_two_pow ‹_›
  · exact Bool.eq_false_iff.2 ‹_›

@[simp] theorem clearWatch_sys : (clearWatch k s).sys = s.sys := by unfold clearWatch; split <;> rfl

theorem diag15_frame (code sev : Nat) (s : State) : Same 67109696 s (diag15 code sev s) := by simp

@[simp] theorem diag15_sys (code sev : Nat) (s : State) : (diag15 code sev s).sys = s.sys :=
  (diag15_frame code sev s).part .sys rfl

@[simp] theorem diag15_tin (code sev : Nat) (s : State) : (diag15 code sev s).tin = s.tin :=
  (diag15_frame code sev s).part .tin rfl

/-! ### Beats -/

/-- What a good beat writes in the record of its Puppeteer (R247). -/
def Pupp.beat (armed inStep : Bool) (x : Pupp) : Pupp := { x with alive := true, inStep := inStep, watched := x.watched || armed }

theorem takeBeat_sys (p : Pup) (b : Bool) (s : State) :
    (takeBeat p b s).sys = (modPup p (Pupp.beat s.tin.armed b) s).sys := by
  unfold takeBeat Pupp.beat
  cases b <;> simp <;> split_ifs <;> simp

theorem takeBeat_watch (p : Pup) (s : State) : (takeBeat p true s).tin.watch.testBit (pupFlag p) = false := by
  unfold takeBeat
  simp
  split_ifs <;> simp

theorem takeBeat_frame (p : Pup) (b : Bool) (s : State) : Same 67117920 s (takeBeat p b s) := by simp

/-- A Puppeteer that is the shadow again has its record's marks of a restart cleared (R51). -/
theorem restartDone_pup (p : Pup) (s : State) :
    (restartDone p s).sys.pup p = { s.sys.pup p with up := true, restarting := false } := by
  simp [restartDone]

@[simp] theorem restartDone_active : (restartDone p s).sys.active = s.sys.active := by
  simp [restartDone, settleSimplex]

@[simp] theorem restartDone_tin : (restartDone p s).tin = s.tin := by
  simp [restartDone, settleSimplex]

theorem restartDone_simplex (p : Pup) (s : State) :
    (restartDone p s).sys.simplex = !(s.sys.pup (otherPup p)).up := by
  simp [restartDone, settleSimplex_simplex p]

/-- What a beat writes in the record of its Puppeteer before it is judged: its SEQ, and the writes to the configuration window
that were discarded for want of the token (R22). -/
def heardBeat (s : State) (p : Pup) (seq : BitVec 4) (writes : Nat) (x : Pupp) : Pupp :=
  { x with
    seq := seq.toNat
    discarded := if holdsToken s p = true then x.discarded else sat32 (x.discarded + writes) }

theorem heardBeat_eq (p : Pup) (seq : BitVec 4) (writes : Nat) (s : State) :
    modPup p (fun x => { x with seq := seq.toNat }) (windowWrites p writes s) = modPup p (heardBeat s p seq writes) s := by
  unfold windowWrites heardBeat
  split <;> simp_all

theorem goodBeat_iff {x : Pupp} {seq : BitVec 4} {dt : Nat} :
    goodBeat x seq dt = true ↔ seq.toNat = (x.seq + 1) % 16 ∧ 25000 ≤ dt ∧ dt ≤ 150000 := decide_eq_true_iff

section
variable {seq : BitVec 4} {inStep : Bool} {dt writes : Nat}

theorem heartbeat_good (ht : tinRuns s = true) (hu : (s.sys.pup p).up = true) (hr : (s.sys.pup p).restarting = false)
    (hg : goodBeat (s.sys.pup p) seq dt = true) :
    exec (.heartbeat p seq inStep ⟨dt, writes⟩) s = .next (takeBeat p inStep (modPup p (heardBeat s p seq writes) s)) := by
  simp [exec, execHeartbeat, heardBeat_eq, ht, hu, hr, hg]

theorem heartbeat_restarting (ht : tinRuns s = true) (hr : (s.sys.pup p).restarting = true)
    (hg : goodBeat (s.sys.pup p) seq dt = true) :
    exec (.heartbeat p seq true ⟨dt, writes⟩) s =
      .next (restartDone p (takeBeat p true (modPup p (heardBeat s p seq writes) s))) := by
  simp [exec, execHeartbeat, heardBeat_eq, ht, hr, hg]

theorem heartbeat_bad (ht : tinRuns s = true) (hu : (s.sys.pup p).up = true)
    (hg : goodBeat (s.sys.pup p) seq dt = false) :
    exec (.heartbeat p seq inStep ⟨dt, writes⟩) s =
      exec (.heartbeatTimeout p) (modPup p (fun x => { x with seq := seq.toNat }) (windowWrites p writes s)) := by
  have h' : tinRuns (modPup p (heardBeat s p seq writes) s) = true := by
    simpa [tinRuns] using ht
  simp [exec, execHeartbeat, execHeartbeatTimeout, heardBeat_eq, ht, hu, hg, h']

/-- A good beat keeps its Puppeteer supervised and takes its IN_STEP (R22, R247, R249). -/
theorem heartbeat_good_effect (ht : tinRuns s = true) (hu : (s.sys.pup p).up = true)
    (hr : (s.sys.pup p).restarting = false) (hg : goodBeat (s.sys.pup p) seq dt = true) :
    ∃ t, exec (.heartbeat p seq inStep ⟨dt, writes⟩) s = .next t ∧ (t.sys.pup p).alive = true ∧
      (t.sys.pup p).inStep = inStep ∧ (t.sys.pup p).seq = seq.toNat ∧
      (t.sys.pup p).watched = ((s.sys.pup p).watched || s.tin.armed) ∧
      (t.sys.pup p).discarded = (if holdsToken s p = true then (s.sys.pup p).discarded
        else sat32 ((s.sys.pup p).discarded + writes)) ∧
      (inStep = true → t.tin.watch.testBit (pupFlag p) = false) ∧ SameBut ([.sys, .tin] ++ logging) s t := by
  refine ⟨_, heartbeat_good ht hu hr hg, ?_⟩
  have hw : inStep = true → (takeBeat p inStep (modPup p (heardBeat s p seq writes) s)).tin.watch.testBit (pupFlag p) = false := by
    rintro rfl; exact takeBeat_watch _ _
  have hs : Same 67117920 s (takeBeat p inStep (modPup p (heardBeat s p seq writes) s)) := by simp
  rw [takeBeat_sys]
  refine ⟨?_, ?_, ?_, ?_, ?_, hw, hs.sameBut rfl⟩ <;> simp [Pupp.beat, heardBeat]

/-- A good beat in step makes a restarting Puppeteer the shadow again (R51). -/
theorem heartbeat_restarting_effect (ht : tinRuns s = true) (hr : (s.sys.pup p).restarting = true)
    (hg : goodBeat (s.sys.pup p) seq dt = true) :
    ∃ t, exec (.heartbeat p seq true ⟨dt, writes⟩) s = .next t ∧ (t.sys.pup p).up = true ∧
      (t.sys.pup p).restarting = false ∧ (t.sys.pup p).inStep = true ∧ t.tin.watch.testBit (pupFlag p) = false ∧
      t.sys.active = s.sys.active ∧ SameBut ([.sys, .tin] ++ logging) s t := by
  refine ⟨_, heartbeat_restarting ht hr hg, ?_⟩
  have hs : Same 67117920 s (restartDone p (takeBeat p true (modPup p (heardBeat s p seq writes) s))) := by simp
  rw [restartDone_pup, restartDone_active, restartDone_tin, takeBeat_sys]
  refine ⟨rfl, rfl, ?_, takeBeat_watch _ _, ?_, hs.sameBut rfl⟩ <;> simp [Pupp.beat]

end

/-- The mirror's report makes a restarting Puppeteer the shadow again (R51). -/
theorem puppeteerRestartDone_effect (ht : tinRuns s = true) (hr : (s.sys.pup p).restarting = true) :
    ∃ t, exec (.puppeteerRestartDone p) s = .next t ∧ SameBut (.sys :: logging) s t ∧ t.sys.active = s.sys.active ∧
      (t.sys.pup p).up = true ∧ (t.sys.pup p).restarting = false ∧ (t.sys.pup p).inStep = true ∧
      (t.sys.pup p).watched = (s.sys.pup p).watched ∧ t.sys.simplex = !(s.sys.pup (otherPup p)).up := by
  refine ⟨restartDone p (modPup p (fun x => { x with inStep := true }) s), by
    simp [exec, execPuppeteerRestartDone, ht, hr], ?_⟩
  have hs : Same 67109728 s (restartDone p (modPup p (fun x => { x with inStep := true }) s)) := by simp
  rw [restartDone_active, restartDone_pup, restartDone_simplex]
  exact ⟨hs.sameBut rfl, by simp, rfl, rfl, by simp, by simp, by simp⟩

/-! ### The banks through a failover

What a failover sends changes the service port's queue of frames, and what it withdraws the grant of a takeover, but no bank. -/

/-- The two banks and which of them runs (R519, R520). -/
def Svc.banks (v : Svc) : Bank × Bank × Bool := (v.bankA, v.bankB, v.runB)

theorem runBank_congr {s t : State} (h : t.svc.banks = s.svc.banks) : runBank t = runBank s := by
  obtain ⟨ha, h⟩ := Prod.mk.inj h
  obtain ⟨hb, hr⟩ := Prod.mk.inj h
  simp [runBank, bankOf, ha, hb, hr]

section
variable {n : Mb} {id : Nat} {code sev obj : Nat} {data : List Nat} {g : TagEnt → TagEnt}

@[simp] theorem setDbOut_svc : (setDbOut n s).svc = s.svc := by unfold setDbOut; split <;> rfl

@[simp] theorem putMsg_banks (n : Mb) (l : List Word) (s : State) : (putMsg n l s).svc.banks = s.svc.banks := by
  unfold putMsg
  split <;> simp [Svc.banks]

@[simp] theorem placeAll_banks (n : Mb) (l : List (List Word)) (s : State) :
    (placeAll n l s).2.svc.banks = s.svc.banks := by
  induction l generalizing s with
  | nil => rfl
  | cons a l ih =>
    unfold placeAll
    split
    · rw [ih, putMsg_banks]
    · rfl

@[simp] theorem flushTags_banks (n : Mb) (ord : Bool) (l : List TagEnt) (s : State) :
    (flushTags n ord l s).2.svc.banks = s.svc.banks := by
  induction l generalizing s with
  | nil => rfl
  | cons e l ih =>
    unfold flushTags
    dsimp only
    split_ifs <;> simp [ih]

@[simp] theorem flushOut_banks (n : Mb) (s : State) : (flushOut n s).svc.banks = s.svc.banks := by
  simp [flushOut]

@[simp] theorem placeLost_banks (n : Mb) (s : State) : (placeLost n s).svc.banks = s.svc.banks := by
  unfold placeLost
  split
  · rfl
  · split <;> simp

@[simp] theorem placeHeldMode_banks (n : Mb) (s : State) : (placeHeldMode n s).svc.banks = s.svc.banks := by
  unfold placeHeldMode
  split
  · rfl
  · split
    · rfl
    · split <;> simp

@[simp] theorem placeHeldCh_banks (n : Mb) (s : State) : (placeHeldCh n s).svc.banks = s.svc.banks := by
  unfold placeHeldCh
  split
  · rfl
  · split
    · rfl
    · split <;> simp

@[simp] theorem ntfMiss_banks (n : Mb) (op : Nat) (msg : List Word) (x : Session) (s : State) :
    (ntfMiss n op msg x s).svc.banks = s.svc.banks := by
  unfold ntfMiss
  dsimp only
  split_ifs <;> simp

@[simp] theorem notifyTo_banks (op : Nat) (body : List Word) (n : Mb) (s : State) :
    (notifyTo op body n s).svc.banks = s.svc.banks := by
  have h : (ntfFlush n s).svc.banks = s.svc.banks := by simp [ntfFlush]
  unfold notifyTo
  split
  · rfl
  · dsimp only
    split
    · exact h
    · split_ifs <;> simp [h]

theorem forEach_banks {α : Type} {g : α → State → State} (h : ∀ a t, (g a t).svc.banks = t.svc.banks) (l : List α)
    (s : State) : (forEach l g s).svc.banks = s.svc.banks := by
  induction l generalizing s with
  | nil => rfl
  | cons a l ih => rw [forEach, ih, h]

@[simp] theorem notifyAll_banks (op : Nat) (body : List Word) (s : State) :
    (notifyAll op body s).svc.banks = s.svc.banks :=
  forEach_banks (fun n t => notifyTo_banks op body n t) _ s

@[simp] theorem finish_banks (e : TagEnt) (st : Nat) (body : List Word) (s : State) :
    (finish e st body s).svc.banks = s.svc.banks := by
  simp [finish]

@[simp] theorem settleSession_banks (n : Mb) (s : State) : (settleSession n s).svc.banks = s.svc.banks := by
  unfold settleSession
  split
  · rfl
  · split
    · rfl
    · dsimp only
      split
      · split
        · split <;> simp
        · split <;> simp
      · split <;> simp

@[simp] theorem complete_banks (id st : Nat) (body : List Word) (s : State) :
    (complete id st body s).svc.banks = s.svc.banks := by
  unfold complete
  split
  · rfl
  · split <;> simp

@[simp] theorem appendFrame_banks (code sev obj : Nat) (data : List Nat) (s : State) :
    (appendFrame code sev obj data s).svc.banks = s.svc.banks := by
  unfold appendFrame
  dsimp only
  split_ifs <;> simp

theorem dropRecord_frame (code obj sev : Nat) (data : List Nat) (s : State) :
    Same 33554432 s (dropRecord code obj sev data s) := by simp

theorem makeRoom_frame (sev need fuel : Nat) (s : State) : Same 33554432 s (makeRoom sev need fuel s) := by simp

@[simp] theorem enterRecord_banks (code sev obj : Nat) (data : List Nat) (s : State) :
    (enterRecord code sev obj data s).svc.banks = s.svc.banks := by
  unfold enterRecord
  dsimp only
  split
  · simp
  · split
    · rw [appendFrame_banks, (makeRoom_frame _ _ _ s).part .svc rfl]
    · rw [(dropRecord_frame code obj sev data s).part .svc rfl]

@[simp] theorem syncWindow_banks (s : State) : (syncWindow s).svc.banks = s.svc.banks := by
  unfold syncWindow
  split
  · rfl
  · exact forEach_banks (fun x t => by unfold enterSummary; split <;> simp) _ _

theorem collect_frame (code obj sev reason : Nat) (data : List Nat) (s : State) :
    Same 33554432 s (collect code obj sev reason data s) := by simp

@[simp] theorem logEvent_banks (code sev obj : Nat) (data : List Nat) (s : State) :
    (logEvent code sev obj data s).svc.banks = s.svc.banks := by
  unfold logEvent
  split
  · rfl
  · split
    · rfl
    · dsimp only
      split
      · simp
      · split
        · rw [(collect_frame _ _ _ _ _ _).part .svc rfl]
          simp
        · simp [countPair]

theorem unwait_frame (c : Ch) (s : State) : Same 1024 s (unwait c s) := by simp

@[simp] theorem dropOp_banks (o : Op) (s : State) : (dropOp o s).svc.banks = s.svc.banks := by
  unfold dropOp
  split
  · split
    · exact congrArg Svc.banks ((unwait_frame _ s).part .svc rfl)
    · rfl
  · split <;> rfl
  · rfl
  · rfl

@[simp] theorem loseTag_banks (e : TagEnt) (s : State) : (loseTag e s).svc.banks = s.svc.banks := by
  unfold loseTag
  dsimp only
  split
  · rfl
  · rw [complete_banks]
    refine forEach_banks (fun o t => ?_) _ _
    exact dropOp_banks o _

end

/-! ### Failures -/

/-- The failures within the last 10 min, the present one first (R52). -/
def Pupp.recentFails (now : Nat) (x : Pupp) : List Nat :=
  (now :: x.failTimes).filter fun t => decide (now < t + 600 * clkS)

/-- The Puppeteer's record after its failure: it is reset, and restarts unless it is barred, as its third failure within 10 min
bars it (R51, R52). -/
def Pupp.fail (times : List Nat) (x : Pupp) : Pupp :=
  { Pupp.reset with
    failTimes := times, discarded := x.discarded, barred := x.barred || decide (3 ≤ times.length)
    restarting := !(x.barred || decide (3 ≤ times.length)) }

/-- A Puppeteer restarts at its first and second failure within 10 min. -/
theorem fail_restarting (now : Nat) (x : Pupp) :
    (x.fail (x.recentFails now)).restarting = true ↔
      x.barred = false ∧ (x.failTimes.filter fun u => now < u + 600 * clkS).length < 2 := by
  have h : decide (now < now + 600 * clkS) = true := by simp
  simp only [Pupp.fail, Pupp.recentFails, List.filter_cons, h, if_true, List.length_cons, Bool.not_eq_true',
    Bool.or_eq_false_iff, decide_eq_false_iff_not]
  exact and_congr_right fun _ => by omega

/-- The state in which a Puppeteer has failed, before the record of its third failure. -/
def failed (p : Pup) (s : State) : State :=
  settleSimplex (modPup p (Pupp.fail ((s.sys.pup p).recentFails s.clock)) s)

theorem failPup_eq (p : Pup) (s : State) :
    failPup p s = failed p s ∨ ∃ w, failPup p s = logEvent Evt.PUP_REPEAT_FAIL 3 objNone w (failed p s) := by
  unfold failPup
  dsimp only
  split
  · exact .inr ⟨_, rfl⟩
  · exact .inl rfl

theorem failPup_sys (p : Pup) (s : State) : (failPup p s).sys = (failed p s).sys := by
  obtain h | ⟨w, h⟩ := failPup_eq p s
  · rw [h]
  · rw [h, logEvent_sys]

theorem failPup_frame (p : Pup) (s : State) : Same 100664160 s (failPup p s) := by simp

theorem failPup_pup (p : Pup) (s : State) :
    (failPup p s).sys.pup p = (s.sys.pup p).fail ((s.sys.pup p).recentFails s.clock) := by
  rw [failPup_sys, failed, settleSimplex_pup, pup_modPup]

theorem failPup_simplex (p : Pup) (s : State) : (failPup p s).sys.simplex = true := by
  rw [failPup_sys, failed, settleSimplex_simplex p, pup_modPup]
  rfl

@[simp] theorem settleSimplex_failoverCount : (settleSimplex s).sys.failoverCount = s.sys.failoverCount := rfl

@[simp] theorem settleSimplex_svc : (settleSimplex s).svc = s.svc := rfl

theorem failPup_failoverCount (p : Pup) (s : State) : (failPup p s).sys.failoverCount = s.sys.failoverCount := by
  rw [failPup_sys, failed, settleSimplex_failoverCount, modPup_failoverCount]

theorem failPup_banks (p : Pup) (s : State) : (failPup p s).svc.banks = s.svc.banks := by
  have h : (failed p s).svc.banks = s.svc.banks := by rw [failed, settleSimplex_svc, modPup_svc]
  obtain e | ⟨w, e⟩ := failPup_eq p s
  · rw [e, h]
  · rw [e, logEvent_banks, h]

/-- The flags of Table 9.1 stand in the Tin Soldier alone. -/
theorem twoFlags_congr {s t : State} (h : t.tin = s.tin) : twoFlags t = twoFlags s := by
  simp [twoFlags, h]

/-- A supervised Puppeteer whose heartbeat fails has its flag raised, and is lost as what it was (R247, R248). -/
theorem heartbeatTimeout_lost (ht : tinRuns s = true) (hu : (s.sys.pup p).up = true)
    (hw : (s.sys.pup p).watched = true) (hh : s.svc.halted = false) (hm : s.sys.mode ≠ .safeKeep) :
    exec (.heartbeatTimeout p) s = .next (if p = s.sys.active then loseActive p (setWatch (pupFlag p) s)
      else loseShadow p (setWatch (pupFlag p) s)) := by
  have hk : inSafeKeep (setWatch (pupFlag p) s) = false := by simpa [inSafeKeep] using hm
  have h : (!((s.sys.pup p).up || (s.sys.pup p).restarting) || !(s.sys.pup p).watched ||
      (s.svc.halted && p == s.sys.active)) = false := by simp [hu, hw, hh]
  dsimp only [exec]
  rw [execHeartbeatTimeout, if_pos ht, pupFails]
  dsimp only
  rw [if_neg (by rw [h]; decide), if_neg (by rw [hk]; decide)]
  rfl

/-- The failover that is counted, before the failed Puppeteer is reset. -/
def countFailover (s : State) : State :=
  { s with sys := { s.sys with failoverCount := sat32 (s.sys.failoverCount + 1) } }

/-- A failure of the shadow outside HANDOVER and without a second flag. -/
theorem loseShadow_plain (hm : s.sys.mode ≠ .handover) (h2 : twoFlags s = false) :
    loseShadow p s = failPup p (countFailover s) := by
  have h : twoFlags (failPup p (countFailover s)) = false :=
    (twoFlags_congr ((failPup_frame p (countFailover s)).part .tin rfl)).trans h2
  unfold loseShadow
  rw [if_neg hm]
  exact if_neg (by rw [← countFailover, h]; decide)

/-- A failed shadow is reset, and the other Puppeteer commands in simplex (R51, R52, R248). -/
theorem heartbeatTimeout_shadow (ht : tinRuns s = true) (hu : (s.sys.pup p).up = true)
    (hw : (s.sys.pup p).watched = true) (hh : s.svc.halted = false) (hm : s.sys.mode ≠ .safeKeep)
    (ha : p ≠ s.sys.active) (ho : s.sys.mode ≠ .handover) (h2 : twoFlags (setWatch (pupFlag p) s) = false) :
    ∃ t, exec (.heartbeatTimeout p) s = .next t ∧ SameBut ([.sys, .tin] ++ logging) s t ∧ t.sys.active = s.sys.active ∧
      t.sys.modes = s.sys.modes ∧ (t.sys.pup p).up = false ∧ t.sys.simplex = true ∧
      t.sys.failoverCount = sat32 (s.sys.failoverCount + 1) ∧
      t.tin.watch.testBit (pupFlag p) = true ∧
      ((t.sys.pup p).restarting = true ↔
        (s.sys.pup p).barred = false ∧ ((s.sys.pup p).failTimes.filter fun u => s.clock < u + 600 * clkS).length < 2) := by
  refine ⟨_, heartbeatTimeout_lost ht hu hw hh hm, ?_⟩
  rw [if_neg ha, loseShadow_plain (s := setWatch (pupFlag p) s) ho h2]
  have hu' : Same 8224 s (countFailover (setWatch (pupFlag p) s)) := by simp [countFailover, Sys.modes]
  have hp : (countFailover (setWatch (pupFlag p) s)).sys.pup p = s.sys.pup p := by cases p <;> rfl
  have hc : (countFailover (setWatch (pupFlag p) s)).clock = s.clock := rfl
  have hn : (countFailover (setWatch (pupFlag p) s)).sys.failoverCount = sat32 (s.sys.failoverCount + 1) := rfl
  have hf : (countFailover (setWatch (pupFlag p) s)).tin.watch.testBit (pupFlag p) = true := setWatch_testBit _ s
  generalize countFailover (setWatch (pupFlag p) s) = u at *
  have hs : Same 100672352 s (failPup p u) := (hu'.mono rfl).trans ((failPup_frame p u).mono rfl)
  refine ⟨hs.sameBut rfl, hs.part .token rfl, hs.part .mode rfl, ?_, failPup_simplex p u, ?_, ?_, ?_⟩
  · rw [failPup_pup]; rfl
  · rw [failPup_failoverCount, hn]
  · rw [(failPup_frame p u).part .tin rfl, hf]
  · rw [failPup_pup, fail_restarting, hp, hc]

/-- A failed active Puppeteer without a shadow in step is the loss of supervision (R250). -/
theorem heartbeatTimeout_alone (ht : tinRuns s = true) (hu : (s.sys.pup p).up = true)
    (hw : (s.sys.pup p).watched = true) (hh : s.svc.halted = false) (hm : s.sys.mode ≠ .safeKeep)
    (ha : p = s.sys.active) (hact : tinActs s = true) (hr : shadowReady (setWatch (pupFlag p) s) p = false) :
    ∃ t, exec (.heartbeatTimeout p) s = .next t ∧ SafeKeepBy SfkCause.SUPERVISION_LOST s t := by
  refine ⟨_, heartbeatTimeout_lost ht hu hw hh hm, ?_⟩
  rw [if_pos ha, loseActive, if_pos (by rw [hr]; rfl)]
  exact enterSafeKeep_marks (s := setWatch (pupFlag p) s) hact

/-- The failover that is counted and has passed the token, before the failed Puppeteer is reset (R23). -/
def passToken (p : Pup) (s : State) : State :=
  { s with sys := { s.sys with active := otherPup p, failoverCount := sat32 (s.sys.failoverCount + 1) } }

theorem failover_eq (p : Pup) (s : State) :
    failover p s = forEach (setIrq Irq.FAILOVER (failPup p (passToken p s))).deolo.tags loseTag
      (setIrq Irq.FAILOVER (failPup p (passToken p s))) := rfl

theorem loseTag_frame (e : TagEnt) (s : State) : Same 68245316 s (loseTag e s) := by simp

/-- What the loss of the commands in flight leaves alone at a failover. -/
theorem failover_frame (p : Pup) (s : State) :
    Same 68245316 (setIrq Irq.FAILOVER (failPup p (passToken p s))) (failover p s) := by
  rw [failover_eq]
  exact (forEach_same loseTag_frame).2 (same_refl _ _)

theorem failover_sys (p : Pup) (s : State) : (failover p s).sys = (failPup p (passToken p s)).sys :=
  ((failover_frame p s).part .sys rfl).trans setIrq_sys

theorem failover_tin (p : Pup) (s : State) : (failover p s).tin = s.tin := by
  rw [(failover_frame p s).part .tin rfl, setIrq_tin, (failPup_frame p _).part .tin rfl]
  rfl

theorem failover_banks (p : Pup) (s : State) : (failover p s).svc.banks = s.svc.banks := by
  rw [failover_eq, forEach_banks fun e t => loseTag_banks e t, setIrq_svc, failPup_banks]
  rfl

/-- A failed active Puppeteer hands the token to a shadow in step (R23, R51, R248). -/
theorem heartbeatTimeout_failover (ht : tinRuns s = true) (hu : (s.sys.pup p).up = true)
    (hw : (s.sys.pup p).watched = true) (hh : s.svc.halted = false) (hm : s.sys.mode ≠ .safeKeep)
    (ha : p = s.sys.active) (ho : s.sys.mode ≠ .handover) (hr : shadowReady (setWatch (pupFlag p) s) p = true)
    (h2 : twoFlags (setWatch (pupFlag p) s) = false) (hb : (runBank s).st ≠ Bst.TRIAL) :
    ∃ t, exec (.heartbeatTimeout p) s = .next t ∧ t.sys.active = otherPup p ∧ t.sys.modes = s.sys.modes ∧
      t.sys.failoverCount = sat32 (s.sys.failoverCount + 1) ∧ t.tin.watch.testBit (pupFlag p) = true := by
  refine ⟨_, heartbeatTimeout_lost ht hu hw hh hm, ?_⟩
  have h2' : twoFlags (failover p (setWatch (pupFlag p) s)) = false := (twoFlags_congr (failover_tin p _)).trans h2
  have hb' : runBank (failover p (setWatch (pupFlag p) s)) = runBank s := runBank_congr (failover_banks p _)
  have h : loseActive p (setWatch (pupFlag p) s) = failover p (setWatch (pupFlag p) s) := by
    rw [loseActive, if_neg (by rw [hr]; decide), if_neg (by exact ho)]
    dsimp only
    rw [if_neg (by rw [h2']; decide), countTrialFailover, if_pos (by rwa [hb'])]
  rw [if_pos ha, h, failover_sys, failover_tin]
  refine ⟨?_, ?_, ?_, setWatch_testBit _ s⟩
  · exact (failPup_frame p _).part .token rfl
  · exact (failPup_frame p _).part .mode rfl
  · rw [failPup_failoverCount]; rfl

/-- Settles O11: beats, their loss, and the return of a restarted Puppeteer, each by its own lemma. -/
theorem heartbeatsSuperviseThePuppeteers : Obligations.HeartbeatsSuperviseThePuppeteers := by
  intro s p ht
  refine ⟨?_, ?_, ?_, ?_, puppeteerRestartDone_effect ht⟩
  · intro seq inStep dt writes hu hr hq h1 h2
    exact heartbeat_good_effect ht hu hr (goodBeat_iff.2 ⟨hq, h1, h2⟩)
  · intro seq dt writes hr hq h1 h2
    exact heartbeat_restarting_effect ht hr (goodBeat_iff.2 ⟨hq, h1, h2⟩)
  · intro seq inStep dt writes hu hbad
    exact heartbeat_bad ht hu (Bool.eq_false_iff.2 fun h => hbad (goodBeat_iff.1 h))
  · intro hu hw hh hm
    exact ⟨heartbeatTimeout_shadow ht hu hw hh hm, heartbeatTimeout_alone ht hu hw hh hm,
      heartbeatTimeout_failover ht hu hw hh hm⟩

end Sys2Proof.Machine
end

section
/-! Errors of the memories and of the clocks, and the opening of a kept channel. -/

namespace Sys2Proof.Machine

variable {s : State} {c : Ch} {p : Pup} {k : Nat}

/-- The Tin Soldier runs only while the main domain is neither off nor in an abandoned start. -/
theorem phase_of_tinRuns (h : tinRuns s = true) : s.sys.phase ≠ .off ∧ s.sys.phase ≠ .abandoned := by
  constructor <;> intro e <;> simp [tinRuns, e] at h

/-! ### Errors of the memories (R30, R31) -/

theorem eccSingle_counts (h : tinRuns s = true) (m : EccMem) :
    exec (.eccSingle m) s = .next { s with sys := match m with
      | .localA => { s.sys with eccA := sat32 (s.sys.eccA + 1) }
      | .localB => { s.sys with eccB := sat32 (s.sys.eccB + 1) }
      | .shared => { s.sys with eccShared := sat32 (s.sys.eccShared + 1) } } := by
  obtain ⟨h1, h2⟩ := phase_of_tinRuns h
  cases m <;> simp [exec, execEccSingle, h1, h2]

theorem eccDouble_rebuilt (h : tinRuns s = true) (offset : Nat) :
    ∃ t, exec (.eccDouble .shared offset true) s = .next t ∧ SameBut logging s t := by
  refine ⟨logEvent Evt.SRAM_DOUBLE 3 objNone [offset] s, by simp [exec, execEccDouble, h], ?_⟩
  exact logEvent_frame.sameBut rfl

/-- A record leaves alone what an entry into SAFE-KEEP starts from. -/
theorem safeKeepBy_logEvent {code ev sev obj : Nat} {data : List Nat} (h : tinActs s = true) :
    SafeKeepBy code s (enterSafeKeep code (logEvent ev sev obj data s)) := by
  have h' : tinActs (logEvent ev sev obj data s) = true := by simpa [tinActs, inSafeKeep] using h
  simpa [SafeKeepBy] using enterSafeKeep_marks (code := code) h'

theorem eccDouble_surrender (h : tinRuns s = true) (ha : tinActs s = true) (hu : (s.sys.pup s.sys.active).up = true)
    (offset : Nat) :
    ∃ t, exec (.eccDouble .shared offset false) s = .next t ∧ SafeKeepBy SfkCause.SURRENDER s t := by
  refine ⟨enterSafeKeep SfkCause.SURRENDER (logEvent Evt.SRAM_DOUBLE 3 objNone [offset] s), ?_, safeKeepBy_logEvent ha⟩
  simp [exec, execEccDouble, h, hu]

theorem eccDouble_shadow (h : tinRuns s = true) (ha : s.sys.active = .a) (hu : s.sys.pupB.up = true)
    (hm : s.sys.mode ≠ .handover) (offset : Nat) (r : Bool) :
    ∃ t, exec (.eccDouble .localB offset r) s = .next t ∧ SameBut [.sys] s t ∧ t.sys.active = .a ∧
      t.sys.pupB.up = false ∧ t.sys.pupB.restarting = !s.sys.pupB.barred ∧ t.sys.simplex = true := by
  refine ⟨settleSimplex (restartPup .b s), by simp [exec, execEccDouble, eccLocal, Sys.pup, h, ha, hu, hm], ?_⟩
  have hs : Same 32 s (settleSimplex (restartPup .b s)) := by simp
  exact ⟨hs.sameBut rfl, ha, rfl, rfl, by simp [settleSimplex, restartPup, modPup, Pupp.reset]⟩

theorem microcodeParity_reloads (h : tinRuns s = true) (hc : s.cnv.on = true) (g : Grp) (word : Nat) :
    ∃ t, exec (.microcodeParity g word) s = .next t ∧ SameBut (.grp :: logging) s t ∧ (t.group g).reloading = true ∧
      (t.group g).parity = sat32 ((s.group g).parity + 1) ∧ ∀ h, h ≠ g → t.group h = s.group h := by
  let u := modGrp g (fun x => { x with parity := sat32 (x.parity + 1), reloading := true }) s
  refine ⟨logEvent Evt.PARITY 2 (objGrp g) [word] u, by simp [exec, execMicrocodeParity, h, hc, u], ?_⟩
  have hs : Same 100666176 s (logEvent Evt.PARITY 2 (objGrp g) [word] u) := by simp [u]
  have hg : ∀ i, (logEvent Evt.PARITY 2 (objGrp g) [word] u).group i = u.group i := fun i => by simp [State.group]
  refine ⟨hs.sameBut rfl, ?_, ?_, fun i hi => ?_⟩
  · rw [hg, group_modGrp]
  · rw [hg, group_modGrp]
  · rw [hg, group_modGrp_ne _ _ _ _ hi]

theorem drumParity_skips (h : tinRuns s = true) (hc : s.cnv.on = true) (e : Fin 256) :
    ∃ t, exec (.drumParity e) s = .next t ∧ SameBut (.mb :: logging) s t ∧ e ∈ t.mb.skip ∧
      t.mb.parityCount = sat32 (s.mb.parityCount + 1) ∧ ∀ f ∈ s.mb.skip, f ∈ t.mb.skip := by
  let skip := if s.mb.skip.contains e then s.mb.skip else s.mb.skip ++ [e]
  let u := { s with mb := { s.mb with skip := skip, parityCount := sat32 (s.mb.parityCount + 1) } }
  refine ⟨logEvent Evt.PARITY 2 objNone [e.val] u, by simp [exec, execDrumParity, h, hc, u, skip], ?_⟩
  have hs : Same 100680512 s (logEvent Evt.PARITY 2 objNone [e.val] u) := by simp [u]
  rw [logEvent_mb]
  refine ⟨hs.sameBut rfl, ?_, rfl, fun f hf => ?_⟩ <;> dsimp only [u, skip] <;> split <;> simp_all

/-! ### The clocks and the safety output (R27, R256) -/

theorem xinLost_noted (h : tinRuns s = true) (hc : s.sys.clkFault = false)
    (h2 : twoFlags (setWatch Watch.XIN_LOST s) = false) :
    ∃ t, exec .xinLost s = .next t ∧ SameBut ([.sys, .tin] ++ logging) s t ∧ t.sys.clkFault = true ∧
      t.tin.watch = s.tin.watch ||| 4 := by
  let u := logEvent Evt.XIN_LOST 2 objNone [] (setIrq Irq.CLK_FAULT
    { s with sys := { s.sys with clkFault := true, xinBack := false } })
  have h2' : twoFlags (setWatch Watch.XIN_LOST u) = false := by
    rw [twoFlags_congr (s := setWatch Watch.XIN_LOST s) (by simp [u, setWatch]), h2]
  refine ⟨setWatch Watch.XIN_LOST u, ?_, ?_⟩
  · simp only [exec, execXinLost, h, hc, raiseFlag]
    simp [u, h2']
  · have hs : Same 100672352 s (setWatch Watch.XIN_LOST u) := by simp [u, Sys.modes]
    exact ⟨hs.sameBut rfl, by simp [u], by simp [u, setWatch, Watch.XIN_LOST]⟩

theorem safeOkSilent_marked (hc : s.tin.checked = true) (ht : s.tin.token = true)
    (hu : (s.sys.pup s.sys.active).up = true) (hs : s.tin.silent = false) :
    ∃ t, exec .safeOkSilent s = .next t ∧ SameBut ([.tin, .fl] ++ logging) s t ∧ t.tin = { s.tin with silent := true } := by
  let u := driveOutputs (logEvent Evt.SAFE_OK_SILENT 3 objNone [] { s with tin := { s.tin with silent := true } })
  refine ⟨u, by simp [exec, execSafeOkSilent, hc, ht, hu, hs, u], ?_, by simp [u]⟩
  have hu : Same 109060928 s u := by simp [u]
  exact hu.sameBut rfl

/-! ### A kept channel opens (R253) -/

/-- No walk-in of the channel waits at the arbiter or is granted. -/
def NoWalkin (c : Ch) (s : State) : Prop := ∀ o ∈ s.adm.queue ++ s.adm.grants, ¬(o.code = Opn.WALKIN ∧ o.ch = some c)

theorem leaveSet_ch (h : NoWalkin c s) : (leaveSet c s).ch = s.ch := by
  have hf : (s.adm.queue ++ s.adm.grants).filter (fun o => o.code == Opn.WALKIN && o.ch == some c) = [] :=
    List.filter_eq_nil_iff.2 fun o ho => by simpa using h o ho
  unfold leaveSet
  split
  · rfl
  · rw [hf]; rfl

/-- A channel without an inrush and a walk-in opens alone: its record as `toLow` leaves it, its probe apart (R128). -/
theorem openTo_chan (hi : (s.chan c).inr = none) (hw : NoWalkin c s) (st : ChSt) (g : Gate) :
    ∃ b, (openTo c st g s).chan c = { (s.chan c).toLow st g with probe := b } := by
  have he : endInrush c false s = s := by simp [endInrush, hi]
  have hl : (leaveSet c (modCh c (fun x => x.toLow st g) s)).chan c = (s.chan c).toLow st g := by
    rw [State.chan, leaveSet_ch (s := modCh c (fun x => x.toLow st g) s) hw]
    exact chan_modCh _ _ _
  unfold openTo
  dsimp only
  rw [he, setProbe, chan_modCh, hl]
  exact ⟨_, rfl⟩

theorem sheetGate_isLow (c : Ch) (s : State) : (sheetGate s c).isLow = true := by
  unfold sheetGate
  split <;> rfl

theorem keepUvOpen_opens (ho : s.tin.override = true) (hk : (s.chan c).keep = true)
    (hs : (s.chan c).st.conducts = true) (hu : (s.tin.keep.get c).uv ≠ 0) (hi : (s.chan c).inr = none)
    (hw : NoWalkin c s) :
    ∃ t, exec (.keepUvOpen c) s = .next t ∧ (t.chan c).keep = false ∧ conducts t c = false ∧
      (t.chan c).gateA.isLow = true := by
  let u := modCh c (fun x => { x with fUv := true }) s
  have hx : exec (.keepUvOpen c) s = .next (reportCh s (modCh c (fun x => { x with keep := false })
      (openTo c .opened (sheetGate s c) u))) := by simp [exec, execKeepUvOpen, ho, hk, hs, hu, u]
  obtain ⟨b, hb⟩ := openTo_chan (s := u) (c := c) (by simpa [u] using hi) hw .opened (sheetGate s c)
  refine ⟨_, hx, ?_⟩
  have ht : (reportCh s (modCh c (fun x => { x with keep := false }) (openTo c .opened (sheetGate s c) u))).chan c =
      { (u.chan c).toLow .opened (sheetGate s c) with probe := b, keep := false } := by
    rw [State.chan, reportCh_ch, ← State.chan, chan_modCh, hb]
  rw [conducts, ht]
  exact ⟨rfl, rfl, sheetGate_isLow c s⟩

/-- Settles O12: each error and each fault by its own lemma. -/
theorem errorsOfMemoriesAndClocksAreTakenAsTheirRulesSay :
    Obligations.ErrorsOfMemoriesAndClocksAreTakenAsTheirRulesSay := by
  intro s h
  refine ⟨⟨_, eccSingle_counts h .localA, rfl⟩, ⟨_, eccSingle_counts h .localB, rfl⟩,
    ⟨_, eccSingle_counts h .shared, rfl⟩, fun offset => ?_, fun hc => ?_, fun hc h2 => xinLost_noted h hc h2,
    fun hc => ⟨_, ?_, rfl⟩, safeOkSilent_marked, fun c => keepUvOpen_opens⟩
  · exact ⟨eccDouble_rebuilt h offset, fun ha hu => eccDouble_surrender h ha hu offset,
      fun ha hu hm r => eccDouble_shadow h ha hu hm offset r⟩
  · exact ⟨microcodeParity_reloads h hc, drumParity_skips h hc⟩
  · simp [exec, execXinReturned, hc]

end Sys2Proof.Machine
end

section
/-! A reflex under the overrides of SAFE-KEEP while a takeover waits for its grant. -/

namespace Sys2Proof.Machine

/-- Channel 0 conducts as a BATTERY and is to become a SOURCE at the next change of mode (R12); the overrides of SAFE-KEEP stand
in ONLINE, and a takeover has been granted whose mode HANDOVER has not yet been entered (R529). -/
def overriddenTakeover : State :=
  { State.reset with
    pf := [(chId 0 Chp.ROLE, 2)], pw := [(chId 0 Chp.ROLE, 1)]
    sys := { Sys.reset with mode := .online }
    ch := vput State.reset.ch 0 { Chan.reset with st := .on, lRole := .battery }
    cnv := { Cnv.reset with on := true }
    tin := { Tin.reset with override := true }
    svc := { Svc.reset with op := some 0 } }

/-- The hypotheses of the clause on the overrides hold of it. -/
theorem overriddenTakeover_reflexes :
    reflexLive overriddenTakeover 0 = true ∧ (overriddenTakeover.chan 0).st.conducts = true ∧
      overriddenTakeover.tin.override = true := by
  decide +kernel

/-- The trip itself takes the channel to TRIPPED. -/
theorem overriddenTakeover_trips :
    ((reflexOff 0 [1] overriddenTakeover).chan 0).st = .tripped := by
  decide +kernel

/-- The reflex's step goes on to HANDOVER, at whose entry the new role comes into force and ends the trip state (R155). -/
theorem overriddenTakeover_opens :
    let t := afterEvents overriddenTakeover (reflexOff 0 [1] overriddenTakeover)
    t.sys.mode = .handover ∧ (t.chan 0).st = .opened := by
  decide +kernel

/-- Refutes O23: its clause on the overrides leaves out that no black start and no takeover goes on in the same step, as the
clause on the reload after it says. -/
theorem not_reflexesAndTicksOfTheMarionettes : ¬ Obligations.ReflexesAndTicksOfTheMarionettes := by
  unfold Obligations.ReflexesAndTicksOfTheMarionettes
  intro h
  obtain ⟨hlive, hon, hover⟩ := overriddenTakeover_reflexes
  obtain ⟨-, hreflex⟩ := h overriddenTakeover
  obtain ⟨-, hclause, -⟩ := hreflex 0 hlive hon
  obtain ⟨t, ht, htripped, -⟩ := hclause hover
  have ht' : t = afterEvents overriddenTakeover (reflexOff 0 [1] overriddenTakeover) := by
    simpa [exec, execOcReflex, hlive, eq_comm] using ht
  rw [ht', overriddenTakeover_opens.2] at htripped
  exact absurd htripped (by decide)

end Sys2Proof.Machine
end

section
/-! The state before the first supply. -/

namespace Sys2Proof.Machine

/-- Refutes O60: H_IRQ_MASK leaves reset as 0x43, with FW_READY, MODE_CHG and SAFE_KEEP enabled (Table 3.4), and not as 0. -/
theorem not_theStateAfterReset : ¬ Obligations.TheStateAfterReset := by
  unfold Obligations.TheStateAfterReset
  rintro ⟨-, -, -, -, -, -, -, -, hmask, -⟩
  have hreset : State.reset.link.irqMask = 0x43 := rfl
  rw [hreset] at hmask
  exact absurd hmask (by decide)
end Sys2Proof.Machine
end

section
/-! The service port turns away what it may not serve. -/

namespace Sys2Proof.Machine
variable {s : State} {c : Instr} {type seq : Nat} {sec inRec : Bool}

/-- A command is a request of the service port: of its type, in the secure set or not, marked for RECOVERY or not (Table 20.3). -/
def IsRequest (c : Instr) (type seq : Nat) (sec inRec : Bool) : Prop :=
  ∃ act : State → State, ∀ s, exec c s = .next (serve type seq sec inRec act s)

/-- Nobody answers the port: nothing happens. -/
theorem IsRequest.unheard (h : IsRequest c type seq sec inRec) (hj : jackAnswers s = false) (hf : firmAnswers s = false) :
    exec c s = .next s := by
  obtain ⟨act, hact⟩ := h
  simp [hact, serve, hj, hf]

/-- What a request that is heard is turned away with, in the order of R514. -/
theorem IsRequest.heard (h : IsRequest c type seq sec inRec) (ha : jackAnswers s = true ∨ firmAnswers s = true) :
    ∃ act : State → State, exec c s = .next
      (if svcBusy s then svcReply type seq St.BUSY [] (svcHeard s)
      else if jackAnswers s && !inRec then svcReply type seq St.MODE [] (svcHeard s)
      else if sec && !secureOn s 14 then svcReply type seq St.AUTH [] (svcHeard s)
      else act (svcHeard s)) := by
  obtain ⟨act, hact⟩ := h
  refine ⟨act, ?_⟩
  have hn : ¬(!jackAnswers s && !firmAnswers s) = true := by rcases ha with h | h <;> simp [h]
  rw [hact, serve, if_neg hn]
  rfl

/-- The three refusals of R514. -/
theorem IsRequest.refused (h : IsRequest c type seq sec inRec) (ha : jackAnswers s = true ∨ firmAnswers s = true) :
    (svcBusy s = true → exec c s = .next (svcReply type seq St.BUSY [] (svcHeard s))) ∧
    (svcBusy s = false → jackAnswers s = true → inRec = false →
      exec c s = .next (svcReply type seq St.MODE [] (svcHeard s))) ∧
    (svcBusy s = false → jackAnswers s = false ∨ inRec = true → sec = true → secureOn s 14 = false →
      exec c s = .next (svcReply type seq St.AUTH [] (svcHeard s))) := by
  obtain ⟨act, hact⟩ := h.heard ha
  rw [hact]
  refine ⟨fun hb => ?_, fun hb hj hr => ?_, fun hb hj hs ho => ?_⟩
  · rw [if_pos hb]
  · rw [if_neg (by simp [hb]), if_pos (by simp [hj, hr])]
  · rw [if_neg (by simp [hb]), if_neg (by rcases hj with h | h <;> simp [h]), if_pos (by simp [hs, ho])]

/-- Settles O46: each command of the list is a request of its row, and a request that may not be served is turned away. -/
theorem thePortServesOnlyWhatItMayServe : Obligations.ThePortServesOnlyWhatItMayServe := by
  intro s q b n a w ws bs pin r hr
  have h : IsRequest r.1 r.2.1 q.toNat r.2.2.1 r.2.2.2 := by
    simp only [List.mem_cons, List.not_mem_nil, or_false] at hr
    rcases hr with rfl | rfl | rfl | rfl | rfl | rfl | rfl | rfl | rfl | rfl | rfl | rfl | rfl | rfl | rfl | rfl | rfl | rfl |
      rfl | rfl | rfl <;> exact ⟨_, fun _ => rfl⟩
  exact ⟨h.unheard, h.refused⟩
end Sys2Proof.Machine
end

section
/-! A thermistor that is valid again, a die that has cooled, and the end of a reload. -/

namespace Sys2Proof.Machine
variable {s t : State} {g : Grp} {k : Ntc}

/-- Channels as they were have nothing to report (R154). -/
theorem reportCh_unchanged (h : t.ch = s.ch) : reportCh s t = t := by
  have hc : ∀ c, t.chan c = s.chan c := fun c => by rw [State.chan, h, State.chan]
  have hon : chOn t = chOn s := congrArg chMap (funext fun c => by simp [conducts, hc])
  have hfault : chFault t = chFault s := by simp [chFault, hc]
  have hnew : (allCh.any fun c => (t.chan c).st == .latched && !((s.chan c).st == .latched)) = false := by
    simp [hc]
  simp [reportCh, hnew, hon, hfault]

/-- A thermistor that three cycles have found good is valid with its mean (R302). -/
theorem ntcValid_valid (hr : scanRuns s = true) (hv : (s.cnv.ntc.get k).st ≠ .valid) (hg : 3 ≤ (s.cnv.ntc.get k).good)
    (he : (pn s Prm.CNV_NTC_EN).testBit k.val = true) :
    ∃ t, exec (.ntcValid k) s = .next t ∧ SameBut (.cnv :: logging) s t ∧ (t.cnv.ntc.get k).st = .valid ∧
      (t.cnv.ntc.get k).last = some (s.cnv.ntc.get k).t ∧ ∀ j, j ≠ k → t.cnv.ntc.get j = s.cnv.ntc.get j := by
  let u := { s with cnv := { s.cnv with ntc := vmod s.cnv.ntc k fun x => { x with st := .valid, last := some x.t } } }
  refine ⟨logEvent Evt.NTC 1 (objNtc k) [0] u, by simp [exec, execNtcValid, hr, hv, hg, he, u], ?_⟩
  have hs : Same 100696896 s (logEvent Evt.NTC 1 (objNtc k) [0] u) := by simp [u]
  rw [logEvent_cnv]
  exact ⟨hs.sameBut rfl, by simp [u], by simp [u], fun j hj => vmod_get_ne _ _ _ _ hj⟩

/-- Ten cool cycles clear DIE_HOT (R559). -/
theorem dieCool_clears (hh : s.pwr.dieHot = true) (hc : 10 ≤ s.pwr.coolCnt) :
    ∃ t, exec .dieCool s = .next t ∧ SameBut [.pwr] s t ∧ t.pwr.dieHot = false := by
  refine ⟨{ s with pwr := { s.pwr with dieHot := false } }, by simp [exec, execDieCool, hh, hc], ?_, rfl⟩
  exact (show Same 134217728 s _ by simp).sameBut rfl

/-- The group as the end of a reload leaves it (R46). -/
def Group.reloaded (s : State) (g : Grp) (x : Group) : Group :=
  { x with reloading := false, reloads := sat32 (x.reloads + 1), mc := sectionBytes (runBank s) g.val }

theorem beginReloads_nil (h : t.svc.reloads = []) : beginReloads [] t = t := by
  have hv : ({ t.svc with reloads := [] } : Svc) = t.svc := by rw [← h]
  rw [beginReloads, hv]

/-- A reload that no other follows, and that no command and no takeover awaits, changes its group alone (R46). -/
theorem groupReloadDone_last (hg : (s.group g).reloading = true) (hp : anyPup s = true) (h7 : s.svc.phase ≠ 7)
    (hl : s.svc.reloads = []) (hc : (s.group g).ctrl = none) :
    exec (.groupReloadDone g true) s = .next (modGrp g (Group.reloaded s g) s) := by
  simp [exec, execGroupReloadDone, hg, hp, hc, hl, h7, beginReloads_nil]
  exact reportCh_unchanged rfl

/-- A reload whose CRC fails goes on (R46, log 50). -/
theorem groupReloadDone_failed (h7 : s.svc.phase ≠ 7) : exec (.groupReloadDone g false) s = .next s := by
  simp [exec, execGroupReloadDone, h7]

theorem groupReloadDone_effect (hg : (s.group g).reloading = true) (hp : anyPup s = true) (h7 : s.svc.phase ≠ 7)
    (hl : s.svc.reloads = []) (hc : (s.group g).ctrl = none) :
    ∃ t, exec (.groupReloadDone g true) s = .next t ∧ SameBut [.grp] s t ∧ (t.group g).reloading = false ∧
      (t.group g).reloads = sat32 ((s.group g).reloads + 1) ∧ ∀ k, k ≠ g → t.group k = s.group k := by
  refine ⟨_, groupReloadDone_last hg hp h7 hl hc, ?_, ?_, ?_, fun k hk => group_modGrp_ne _ _ _ _ hk⟩
  · exact (show Same 2048 s _ by simp).sameBut rfl
  · rw [group_modGrp]; rfl
  · rw [group_modGrp]; rfl

/-- Settles O27: each of the three events by its own lemma. -/
theorem readingsRecoverAndAGroupComesBack : Obligations.ReadingsRecoverAndAGroupComesBack := by
  intro s
  refine ⟨fun k => ntcValid_valid, dieCool_clears, fun g hg hp h7 hl hc => ⟨groupReloadDone_effect hg hp h7 hl hc, ?_⟩⟩
  exact groupReloadDone_failed h7
end Sys2Proof.Machine
end

section
/-! How the Tin Soldier takes the Hatan to SAFE-KEEP: by a surrender, by the end of the boot window, and by a second flag. -/

namespace Sys2Proof.Machine

variable {s : State} {g : Grp} {k : Nat}

/-- The Tin Soldier acts outside SAFE-KEEP only. -/
theorem tinActs_mode (h : tinActs s = true) : s.sys.mode ≠ .safeKeep := by
  simp only [tinActs, inSafeKeep, Bool.and_eq_true, Bool.not_eq_true', beq_eq_false_iff_ne] at h
  exact h.2

/-! ### The flags of Table 9.1 -/

theorem raiseFlag_alone (h : twoFlags (setWatch k s) = false) : raiseFlag k s = setWatch k s := by
  simp [raiseFlag, h]

/-- A second flag at the same time is cause 3 (R249, R250). -/
theorem raiseFlag_second (ha : tinActs s = true) (h : twoFlags (setWatch k s) = true) :
    SafeKeepBy SfkCause.SECOND_FAULT s (raiseFlag k s) := by
  rw [raiseFlag, if_pos h]
  exact enterSafeKeep_marks (s := setWatch k s) ha

theorem raiseFlag_pwr (k : Nat) (s : State) : (raiseFlag k s).pwr = s.pwr :=
  (show Same 2549479288 s (raiseFlag k s) by simp).part .pwr rfl

/-! ### The surrender and the flags, row by row -/

theorem surrender_safeKeep (ha : tinActs s = true) (hu : (s.sys.pup s.sys.active).up = true) :
    ∃ t, exec .surrender s = .next t ∧ SafeKeepBy SfkCause.SURRENDER s t :=
  ⟨enterSafeKeep SfkCause.SURRENDER s, by simp [exec, execSurrender, hu], enterSafeKeep_marks ha⟩

theorem clkDisagree_raises (hr : tinRuns s = true) : exec (.clkDisagree true) s = .next (raiseFlag Watch.CLK_DISAGREE s) := by
  simp [exec, execClkDisagree, hr]

theorem clkDisagree_ends (hr : tinRuns s = true) :
    ∃ t, exec (.clkDisagree false) s = .next t ∧ SameBut [.tin] s t ∧ t.tin.watch.testBit Watch.CLK_DISAGREE = false :=
  ⟨clearWatch Watch.CLK_DISAGREE s, by simp [exec, execClkDisagree, hr],
    (show Same 8192 s (clearWatch Watch.CLK_DISAGREE s) by simp).sameBut rfl, clearWatch_testBit _ s⟩

/-- The core rail outside its window, as the Tin Soldier sees it. -/
def railOut (s : State) : State := { s with pwr := { s.pwr with coreWin := true } }

theorem coreRail_raises (hr : tinRuns s = true) : exec .coreRail s = .next (raiseFlag Watch.CORE_RAIL (railOut s)) := by
  simp [exec, execCoreRail, hr, railOut]

theorem twoFlags_railOut : twoFlags (setWatch k (railOut s)) = twoFlags (setWatch k s) :=
  twoFlags_congr (t := setWatch k (railOut s)) rfl

theorem coreRail_alone (hr : tinRuns s = true) (h : twoFlags (setWatch Watch.CORE_RAIL s) = false) :
    ∃ t, exec .coreRail s = .next t ∧ SameBut [.tin, .pwr] s t ∧ t.tin.watch = s.tin.watch ||| 16 ∧ t.pwr.coreWin = true := by
  refine ⟨_, coreRail_raises hr, ?_⟩
  rw [raiseFlag_alone (twoFlags_railOut.trans h)]
  have hs : Same 134225920 s (setWatch Watch.CORE_RAIL (railOut s)) := by simp [railOut]
  exact ⟨hs.sameBut rfl, rfl, rfl⟩

theorem coreRail_second (ha : tinActs s = true) (hr : tinRuns s = true)
    (h : twoFlags (setWatch Watch.CORE_RAIL s) = true) :
    ∃ t, exec .coreRail s = .next t ∧ SafeKeepBy SfkCause.SECOND_FAULT s t ∧ t.pwr.coreWin = true := by
  refine ⟨_, coreRail_raises hr, raiseFlag_second (s := railOut s) ha (twoFlags_railOut.trans h), ?_⟩
  rw [raiseFlag_pwr]
  rfl

theorem coreRailInWindow_clears :
    ∃ t, exec .coreRailInWindow s = .next t ∧ SameBut [.tin, .pwr] s t ∧ t.pwr.coreWin = false ∧
      t.tin.watch.testBit Watch.CORE_RAIL = false := by
  let u := { s with pwr := { s.pwr with coreWin := false } }
  have hu : Same 8192 u (clearWatch Watch.CORE_RAIL u) := by simp
  have hs : Same 134225920 s (clearWatch Watch.CORE_RAIL u) := by simp [u]
  exact ⟨clearWatch Watch.CORE_RAIL u, rfl, hs.sameBut rfl, congrArg Pwr.coreWin (hu.part .pwr rfl), clearWatch_testBit _ u⟩

theorem marSilent_raises (hr : tinRuns s = true) (hc : s.cnv.on = true) (hg : (s.group g).reloading = false) :
    exec (.marSilent g) s = .next (raiseFlag Watch.MAR_SILENT s) := by
  simp [exec, execMarSilent, hr, hc, hg]

/-! ### The boot window (R44, R50, R266) -/

theorem bootWindowExpiry_safeKeep (ha : tinActs s = true) (hr : tinRuns s = true) (hw : s.tin.window = true)
    (ho : s.tin.override = false) :
    ∃ t, exec .bootWindowExpiry s = .next t ∧ SafeKeepBy SfkCause.BOOT_WINDOW s t :=
  ⟨enterSafeKeep SfkCause.BOOT_WINDOW s, by simp [exec, execBootWindowExpiry, hw, hr, ho], enterSafeKeep_marks ha⟩

/-- The end of the window of a restart out of SAFE-KEEP, before the mode changes. -/
def windowEnded (s : State) : State :=
  settleSimplex { s with
    sys := { s.sys with fwReady := false, pupA := witnessPup s .a s.sys.pupA, pupB := witnessPup s .b s.sys.pupB }
    tin := { s.tin with window := false, token := false, cause := SfkCause.BOOT_WINDOW } }

/-- A change into SAFE-KEEP, as such, reaches no gate. -/
theorem changeMode_safeKeep_gates (c : Nat) (s : State) : (changeMode .safeKeep c s).gates = s.gates :=
  (show Same (2549217144 - 2 ^ 28 - 2 ^ 10) s (changeMode .safeKeep c s) by simp [changeMode]).part .gates rfl

/-- The window of a restart out of SAFE-KEEP goes back to it without a release (R266). -/
theorem bootWindowExpiry_returns (ha : tinActs s = true) (hr : tinRuns s = true) (hw : s.tin.window = true)
    (ho : s.tin.override = true) :
    ∃ t, exec .bootWindowExpiry s = .next t ∧ t.sys.mode = .safeKeep ∧ t.tin.cause = SfkCause.BOOT_WINDOW ∧
      t.tin.window = false ∧ t.gates = s.gates := by
  let u := if (windowEnded s).svc.trialRestart then rollBanks (windowEnded s) else windowEnded s
  have hu : Same 67108864 (windowEnded s) u := by unfold u; split <;> simp
  have hx : exec .bootWindowExpiry s = .next (changeMode .safeKeep Cause.tinSoldier u) := by
    simp [exec, execBootWindowExpiry, hw, hr, ho, u, windowEnded]
  have hm : u.sys.mode = s.sys.mode := congrArg Prod.fst (hu.part .mode rfl)
  have htin : u.tin = (windowEnded s).tin := hu.part .tin rfl
  have hgates : u.gates = s.gates := hu.part .gates rfl
  refine ⟨_, hx, ?_, ?_, ?_, ?_⟩
  · exact congrArg Prod.fst (changeMode_modes (by rw [hm]; exact tinActs_mode ha))
  · rw [changeMode_tin (.inl rfl), htin]; rfl
  · rw [changeMode_tin (.inl rfl), htin]; rfl
  · rw [changeMode_safeKeep_gates, hgates]

/-- Settles O10: each row's event by its own lemma. -/
theorem theTinSoldierTakesTheHatanToSafeKeep : Obligations.TheTinSoldierTakesTheHatanToSafeKeep := by
  intro s ha hr
  refine ⟨surrender_safeKeep ha, bootWindowExpiry_safeKeep ha hr, bootWindowExpiry_returns ha hr, fun h => ?_, fun h => ?_,
    clkDisagree_ends hr, coreRail_alone hr, coreRail_second ha hr, coreRailInWindow_clears, fun g hc hg => ⟨fun h => ?_, fun h => ?_⟩⟩
  · rw [clkDisagree_raises hr, raiseFlag_alone h]; rfl
  · exact ⟨_, clkDisagree_raises hr, raiseFlag_second ha h⟩
  · rw [marSilent_raises hr hc hg, raiseFlag_alone h]; rfl
  · exact ⟨_, marSilent_raises hr hc hg, raiseFlag_second ha h⟩

end Sys2Proof.Machine
end

section
/-! What a change of mode leaves of the registers of chapter 2, field by field. -/

namespace Sys2Proof.Machine

variable {s : State} {m old : Mode} {c : Nat}

/-- The registers of chapter 2 after a change of mode as such: the mode codes, and the waiting entries that it ends (R37, R61). -/
def Sys.changed (m : Mode) (y : Sys) : Sys :=
  { y with
    mode := m, prevMode := y.mode, dormDue := y.dormDue && m == .dormant
    dormReq := if y.dormDue && m != .dormant then none else y.dormReq
    standbyDue := if m = .standby then y.standbyDue else none }

/-- The same after the entry of a mode: leaving BRIDGE ends a black start besides (R585). -/
def Sys.entered (m : Mode) (y : Sys) : Sys :=
  if y.mode = .bridge then { y.changed m with blackStart := false, blackTried := [], blackClosed := false } else y.changed m

theorem dropDormant_sys (m : Mode) (s : State) :
    (dropDormant m s).sys =
      { s.sys with dormDue := s.sys.dormDue && m == .dormant,
                   dormReq := if s.sys.dormDue && m != .dormant then none else s.sys.dormReq } := by
  by_cases h : (!s.sys.dormDue || m == .dormant) = true
  · have hdue : (s.sys.dormDue && m == .dormant) = s.sys.dormDue := by revert h; cases s.sys.dormDue <;> simp
    have hreq : (if s.sys.dormDue && m != .dormant then none else s.sys.dormReq) = s.sys.dormReq :=
      if_neg (by revert h; cases s.sys.dormDue <;> simp)
    rw [dropDormant, if_pos h, hdue, hreq]
  · simp only [Bool.or_eq_true, Bool.not_eq_true', beq_iff_eq, not_or, Bool.not_eq_false] at h
    cases hr : s.sys.dormReq <;> simp [dropDormant, h, hr]

theorem dropStandby_sys (m : Mode) (s : State) :
    (dropStandby m s).sys = { s.sys with standbyDue := if m = .standby then s.sys.standbyDue else none } := by
  unfold dropStandby
  split
  · next h =>
    have hd : (if m = .standby then s.sys.standbyDue else none) = s.sys.standbyDue := by rw [h, ite_self]
    rw [hd]
  · split
    · rfl
    · rw [complete_sys]

/-- A change of mode, as such, in the registers of chapter 2. -/
theorem changeMode_sys (h : s.sys.mode ≠ m) : (changeMode m c s).sys = s.sys.changed m := by
  let u := { s with sys := { s.sys with mode := m, prevMode := s.sys.mode } }
  have hcal : (calCaptureLost u).sys = u.sys := (show Same 32768 u (calCaptureLost u) by simp).part .sys rfl
  have hs : Same (6442450943 - 32 + 2 ^ 31) (dropStandby m (dropDormant m (calCaptureLost u))) (changeMode m c s) := by
    simp [changeMode, h, u]
  rw [hs.part .sys rfl, dropStandby_sys, dropDormant_sys, hcal]
  rfl

theorem leaveMode_sys (old m : Mode) (s : State) :
    (leaveMode old m s).sys =
      if old = .bridge then { s.sys with blackStart := false, blackTried := [], blackClosed := false } else s.sys := by
  unfold leaveMode
  extract_lets _ s1 _ _ s2 y s3 s4 _
  have h1 : s1.sys = s.sys := by unfold s1; split <;> rfl
  have h2 : s2.sys = s1.sys := by unfold s2; split <;> rfl
  have h3 : s3.sys = if old = .bridge then { s.sys with blackStart := false, blackTried := [], blackClosed := false }
      else s.sys := by
    unfold s3
    split
    · rw [← h1, ← h2]
    · rw [h2, h1]
  have h4 : s4.sys = s3.sys := by
    unfold s4
    split
    · exact ((forEach_same (m := 16777216) fun _ _ => by simp).2 (same_refl _ _) :
        Same 16777216 s3 (forEach (boundStr s3) (fun k s => queueWrite RT.BAT_HISTORY k.val s) s3)).part .sys rfl
    · rfl
  rw [← h3, ← h4]
  split <;> rfl

/-- The entry of a mode in the registers of chapter 2. -/
theorem enterMode_sys (h : s.sys.mode ≠ m) : (enterMode m c s).sys = s.sys.entered m := by
  have hb : (beforeMode m s).sys = s.sys := (show Same 393221952 s (beforeMode m s) by simp).part .sys rfl
  have hs : Same (8589934591 - 32) (leaveMode s.sys.mode m (changeMode m c (beforeMode m s))) (enterMode m c s) := by
    simp [enterMode, h]
  rw [hs.part .sys rfl, leaveMode_sys, changeMode_sys (by rwa [hb]), hb]
  rfl

@[simp] theorem entered_mode (m : Mode) (y : Sys) : (y.entered m).mode = m := by unfold Sys.entered; split <;> rfl
@[simp] theorem entered_prevMode (m : Mode) (y : Sys) : (y.entered m).prevMode = y.mode := by unfold Sys.entered; split <;> rfl
@[simp] theorem entered_fwReady (m : Mode) (y : Sys) : (y.entered m).fwReady = y.fwReady := by unfold Sys.entered; split <;> rfl
@[simp] theorem entered_simplex (m : Mode) (y : Sys) : (y.entered m).simplex = y.simplex := by unfold Sys.entered; split <;> rfl
@[simp] theorem entered_isoCh (m : Mode) (y : Sys) : (y.entered m).isoCh = y.isoCh := by unfold Sys.entered; split <;> rfl
@[simp] theorem entered_isoGrp (m : Mode) (y : Sys) : (y.entered m).isoGrp = y.isoGrp := by unfold Sys.entered; split <;> rfl
@[simp] theorem entered_handoverFrom (m : Mode) (y : Sys) : (y.entered m).handoverFrom = y.handoverFrom := by
  unfold Sys.entered; split <;> rfl
theorem entered_dormDue (m : Mode) (y : Sys) : (y.entered m).dormDue = (y.dormDue && m == .dormant) := by
  unfold Sys.entered; split <;> rfl

end Sys2Proof.Machine
end

section
/-! What a restart and a self-test leave of the registers of chapter 2. -/

namespace Sys2Proof.Machine

variable {s : State} {cause : Nat} {b : Bool} {test : SelfTest}

/-- The registers that say which start is under way: the mode, SYS.RESET_CAUSE, and whether it is a warm restart (R46, R54). -/
def Sys.start (y : Sys) : Mode × Nat × Bool := (y.mode, y.resetCause, y.warm)

/-! ### The self-test (R42) -/

theorem selfTest_sys (test : SelfTest) (s : State) :
    (selfTest test s).sys = { s.sys with tested := true, bootStuck := test.memFail || test.handshakeFail } := by
  unfold selfTest
  extract_lets s1 s2 s3 s4 s5 s6 s7 s8
  have h1 : s1.sys = s.sys := by unfold s1; split <;> simp
  have h2 : s2.sys = s1.sys := (show Same 100664128 s1 s2 from (forEach_same fun _ _ => by simp).2 (same_refl _ _)).part .sys rfl
  have h3 : s3.sys = s2.sys := (show Same 2048 s2 s3 from (forEach_same fun _ _ => by simp).2 (same_refl _ _)).part .sys rfl
  have h4 : s4.sys = s3.sys := (show Same 100664128 s3 s4 from (forEach_same fun _ _ => by simp).2 (same_refl _ _)).part .sys rfl
  have h5 : s5.sys = s4.sys := (show Same 268436480 s4 s5 from (forEach_same fun _ _ => by simp).2 (same_refl _ _)).part .sys rfl
  have h6 : s6.sys = s5.sys := by unfold s6; split <;> simp
  have h7 : s7.sys = s6.sys := by unfold s7; split <;> simp
  have h8 : s8.sys = s7.sys := by unfold s8; split <;> simp
  have h : s8.sys = s.sys := by rw [h8, h7, h6, h5, h4, h3, h2, h1]
  exact congrArg (fun y : Sys => { y with tested := true, bootStuck := test.memFail || test.handshakeFail }) h

theorem runTest_start (test : SelfTest) (s : State) : (runTest test s).sys.start = s.sys.start := by
  unfold runTest
  split
  · rfl
  · rw [selfTest_sys]; rfl

/-! ### A warm restart (R46 to R50) -/

theorem changeMode_start_of_sys {y : Sys} {c : Nat} (h : s.sys = y) :
    (changeMode .boot c s).sys.start = (.boot, y.resetCause, y.warm) := by
  subst h
  by_cases hm : s.sys.mode = .boot
  · rw [changeMode, if_pos hm, Sys.start, hm]
  · rw [changeMode_sys hm]; rfl

theorem startPups_start (b : Bool) (s : State) : (startPups b s).sys.start = s.sys.start := rfl

theorem stopMain_start (cause : Nat) (s : State) : (stopMain cause s).sys.start = (.boot, cause, true) := by
  unfold stopMain enterBoot
  exact changeMode_start_of_sys rfl

theorem loadVals_start (s : State) : (loadVals s).sys.start = s.sys.start := by
  unfold loadVals
  extract_lets vals _ _ s1
  have put : ∀ (e : Nat × Int) (t : State), Same 8 t (putW e.1 e.2 t) := fun e t => by simp
  have h := (forEach_same (l := vals.filter fun e => e.1 != Prm.HIF_HOST_KEY_SET && (paramRow e.1).isSome) put).2
    (same_refl 8 s1)
  rw [h.part .sys rfl]
  rfl

theorem loadIsolation_start (s : State) : (loadIsolation s).sys.start = s.sys.start := by
  unfold loadIsolation
  split <;> rfl

theorem warmConfig_start (s : State) : (warmConfig s).sys.start = s.sys.start := by
  unfold warmConfig
  extract_lets s1 s2 _ _ s3 s4 s5
  have h1 : s1.sys = (loadIsolation (loadVals s)).sys := (show Same 393221952 _ s1 by simp [s1]).part .sys rfl
  have h2 : s2.sys = s1.sys := (show Same (6442450943 - 32) s1 s2 by simp [s2]).part .sys rfl
  clear_value s2
  have h3 : s3.sys.start = s2.sys.start := rfl
  clear_value s3
  have h4 : s4.sys = s3.sys := (show Same 2097152 s3 s4 from (forEach_same fun _ _ => by simp).2 (same_refl _ _)).part .sys rfl
  have h5 : s5.sys = s4.sys := (show Same (6442450943 - 32) s4 s5 by simp [s5]).part .sys rfl
  show s5.sys.start = _
  rw [h5, h4, h3, h2, h1, loadIsolation_start, loadVals_start]

/-- The start of an image leaves open which start is under way. -/
theorem startImage_start (b limits : Bool) (from_ : Option Mode) (s : State) :
    (startImage b limits from_ s).sys.start = s.sys.start := by
  unfold startImage
  extract_lets _ s1 s2
  have h1 : s1.sys.start = s.sys.start := startPups_start _ _
  clear_value s1
  have h2 : s2.sys = (warmConfig (startStore from_ s1)).sys :=
    (show Same 67110912 _ s2 by simp [s2]).part .sys rfl
  have h3 : (startStore from_ s1).sys = s1.sys := (show Same (6442450943 - 32) s1 _ by simp).part .sys rfl
  have h4 : s2.sys.start = s.sys.start := by rw [h2, warmConfig_start, h3, h1]
  split
  · rw [logEvent_sys, h4]
  · exact h4

/-- A restart of the main domain is in BOOT, with its cause, and is warm (R46, R54). -/
theorem warmFrom_start (bank : Option Bool) (cause : Nat) (s : State) :
    (warmFrom bank cause s).sys.start = (.boot, cause, true) := by
  cases bank with
  | none =>
    have noImage : ∀ t : State, { t with sys := { t.sys with noImage := true } }.sys.start = t.sys.start := fun _ => rfl
    exact (noImage _).trans (stopMain_start cause s)
  | some b =>
    rw [warmFrom]
    exact (startImage_start _ _ _ _).trans (stopMain_start cause s)

end Sys2Proof.Machine
end

section
/-! The obligation on DORMANT: its entry, its wake, and the entry that is cancelled. -/

namespace Sys2Proof.Machine

variable {s : State} {c : Nat}

/-! ### The entry (R56, R61) -/

theorem sleep_sys (s : State) :
    (sleep s).sys = { s.sys with
      fwReady := false
      pupA := { Pupp.reset with discarded := s.sys.pupA.discarded }
      pupB := { Pupp.reset with discarded := s.sys.pupB.discarded } } := rfl

/-- The entry of DORMANT, once its writes have completed and nothing waits any more. -/
theorem sleep_enterMode_dormant {y : Sys} (hs : s.sys = { y with dormDue := false, dormReq := none })
    (hm : y.mode ≠ .dormant) :
    let t := sleep (enterMode .dormant c s)
    t.sys.mode = .dormant ∧ t.sys.prevMode = y.mode ∧ t.sys.dormDue = false ∧ t.sys.fwReady = false ∧
      t.sys.pupA.up = false ∧ t.sys.pupB.up = false ∧ t.tmr.span = 0 ∧ t.shb.live = false := by
  intro t
  have hsys : (enterMode .dormant c s).sys = s.sys.entered .dormant := enterMode_sys (by rw [hs]; exact hm)
  have hmode : t.sys.mode = .dormant := by rw [sleep_sys, hsys]; exact entered_mode _ _
  have hprev : t.sys.prevMode = y.mode := by rw [sleep_sys, hsys]; exact (entered_prevMode _ _).trans (by rw [hs])
  have hdue : t.sys.dormDue = false := by
    rw [sleep_sys, hsys]
    exact (entered_dormDue _ _).trans (by rw [hs]; rfl)
  exact ⟨hmode, hprev, hdue, rfl, rfl, rfl, rfl, rfl⟩

/-- DORMANT_ENTER where its entry is due and its conditions hold. -/
theorem dormantEnter_enters (hdue : s.sys.dormDue = true) (hfw : fwActs s = true)
    (hm : s.sys.mode = .cutoff ∨ s.sys.mode = .standby ∧ ∀ c, conducts s c = false) :
    ∃ t, exec .dormantEnter s = .next t ∧ t.sys.mode = .dormant ∧ t.sys.prevMode = s.sys.mode ∧ t.sys.dormDue = false ∧
      t.sys.fwReady = false ∧ t.sys.pupA.up = false ∧ t.sys.pupB.up = false ∧ t.tmr.span = 0 ∧ t.shb.live = false := by
  have hopen : (s.sys.mode == .cutoff || (s.sys.mode == .standby && !allCh.any (conducts s))) = true := by
    rcases hm with h | ⟨h, hc⟩
    · simp [h]
    · simp [h, List.any_eq_false, hc]
  have hne : s.sys.mode ≠ .dormant := by
    rcases hm with h | ⟨h, -⟩ <;> simp [h]
  show ∃ t, execDormantEnter s = .next t ∧ _
  unfold execDormantEnter
  extract_lets m t u cause
  rw [if_neg (by simp [hdue, hfw, m, hopen])]
  have ht : t.sys = s.sys := (show Same (8589934591 - 32) s t by simp [t]).part .sys rfl
  have hu : u.sys = s.sys := by
    unfold u
    split
    · rw [complete_sys, ht]
    · exact ht
  exact ⟨_, rfl, sleep_enterMode_dormant (congrArg (fun y : Sys => { y with dormDue := false, dormReq := none }) hu) hne⟩

/-! ### The wake (R60) -/

theorem wakeTest_start (test : SelfTest) (s : State) : (wakeTest test s).sys.start = s.sys.start := by
  unfold wakeTest
  split
  · exact runTest_start test s
  · rfl

/-- A wake is a start with the cause 0x07 after the sequence of a warm restart. -/
theorem wakeNow_start (s : State) : (wakeNow s).sys.start = (.boot, 7, true) := by
  unfold wakeNow
  extract_lets span _ _ t0 t1 t2 t3
  have h0 : t0.sys.start = (.boot, 7, true) := warmFrom_start _ _ _
  have h1 : t1.sys = t0.sys := (show Same (8589934591 - 32) t0 t1 by simp [t1]).part .sys rfl
  have h2 : t2.sys = t1.sys := (show Same (8589934591 - 32) t1 t2 by simp [t2]).part .sys rfl
  have h3 : t3.sys = t2.sys := (show Same (8589934591 - 32) t2 t3 by simp [t3]).part .sys rfl
  clear_value t3
  show t3.sys.start = _
  rw [h3, h2, h1, h0]

theorem start_eq {y : Sys} {m : Mode} {cause : Nat} {w : Bool} :
    y.start = (m, cause, w) ↔ y.mode = m ∧ y.resetCause = cause ∧ y.warm = w := by
  simp [Sys.start]

theorem wake_disabled {src : WakeSrc} (test : SelfTest) (h : wakeEnabled s src = false) :
    exec (.wake src test) s = .next s := if_pos (by rw [h]; rfl)

theorem wake_awake {src : WakeSrc} (test : SelfTest) (h : wakeEnabled s src = true) (hm : s.sys.mode ≠ .dormant) :
    exec (.wake src test) s = .next (if s.sys.dormDue then cancelDormant s else s) := by
  show execWake src test s = _
  unfold execWake
  rw [if_neg (by simp [h]), if_pos hm]

/-- An enabled source in DORMANT starts the Hatan; a keeping timer needs an alarm to come. -/
theorem wake_dormant {src : WakeSrc} (test : SelfTest) (h : wakeEnabled s src = true) (hm : s.sys.mode = .dormant)
    (hk : src = .keepingTimer → ktWakeIn s ≠ none) :
    ∃ u, exec (.wake src test) s = .next (wakeTest test (wakeNow u)) := by
  show ∃ u, execWake src test s = _
  unfold execWake
  rw [if_neg (by simp [h]), if_neg (by simp [hm])]
  cases src with
  | keepingTimer =>
    cases hd : ktWakeIn s with
    | some d => exact ⟨passTo (s.clock + d * clkKt) s, rfl⟩
    | none => exact absurd hd (hk rfl)
  | mains _ => exact ⟨_, rfl⟩
  | svc => exact ⟨_, rfl⟩
  | fieldLine => exact ⟨_, rfl⟩

theorem cancelDormant_sys (s : State) : (cancelDormant s).sys = { s.sys with dormDue := false, dormReq := none } := by
  unfold cancelDormant
  extract_lets t
  split
  · rw [complete_sys]
  · rfl

theorem nreset_dormant (h0 : s.sys.phase ≠ .off) (h1 : s.sys.phase ≠ .abandoned) (hm : s.sys.mode = .dormant)
    {lowNs : Nat} (b : Bool) (hlow : 1000 ≤ lowNs) :
    exec (.nreset ⟨lowNs, b⟩) s = .next (wakeNow (seeBootsel b s)) := by
  show execNreset ⟨lowNs, b⟩ s = _
  rw [execNreset, if_neg (by simp [h0, h1]; omega), if_pos hlow, takeNreset, if_pos hm]

/-- Settles O7, from the registers of chapter 2 after a change of mode and after the sequence of a warm restart. -/
theorem dormantIsEnteredAndLeft : Obligations.DormantIsEnteredAndLeft := by
  intro s
  refine ⟨dormantEnter_enters, fun src test => ⟨wake_disabled test, fun hen => ⟨fun hm hk => ?_, fun hm hdue => ?_,
    fun hm hdue => ?_⟩⟩, fun h0 h1 hm lowNs b hlow => ⟨_, nreset_dormant h0 h1 hm b hlow, ?_⟩⟩
  · obtain ⟨u, hu⟩ := wake_dormant test hen hm hk
    exact ⟨_, hu, start_eq.1 ((wakeTest_start test _).trans (wakeNow_start u))⟩
  · refine ⟨_, (wake_awake test hen hm).trans (by rw [if_pos hdue]), ?_⟩
    rw [cancelDormant_sys]
    exact ⟨rfl, rfl, rfl⟩
  · rw [wake_awake test hen hm, hdue]
    rfl
  · obtain ⟨hmode, hcause, -⟩ := start_eq.1 (wakeNow_start (seeBootsel b s))
    exact ⟨hmode, hcause⟩

end Sys2Proof.Machine
end

section
/-! The obligation on the supply: its warning, its fail with the flush, and the collapse of the rails. -/

namespace Sys2Proof.Machine

variable {s : State} {mv : Nat}

/-! ### The warning (R539, R540, R546) -/

/-- PWR's registers once a supply warning stands. -/
def Pwr.warned (p : Pwr) : Pwr :=
  { p with warn := true, warnCount := if p.warn = true then p.warnCount else sat32 (p.warnCount + 1) }

theorem setWarn_eq (s : State) : setWarn s = { s with pwr := s.pwr.warned } := by
  unfold setWarn
  split
  · next h =>
    have hp : s.pwr.warned = s.pwr := by rw [Pwr.warned, if_pos h, ← h]
    rw [hp]
  · next h => rw [Pwr.warned, if_neg h]

theorem supplyWarning_up (h : mainUp s = true) :
    exec .supplyWarning s = .next { s with
      pwr := s.pwr.warned, nvs := { s.nvs with holdT := holdTime s s.pwr.holdMv, flushUs := flushTime s } } := by
  show Host.Outcome.next (if mainUp s then holdAgain (setWarn s) else s) = _
  rw [if_pos h, setWarn_eq]
  rfl

theorem supplyWarning_down (h : mainUp s = false) : exec .supplyWarning s = .next s := by
  show Host.Outcome.next (if mainUp s then holdAgain (setWarn s) else s) = _
  rw [h]
  rfl

theorem supplyWarningEnd_clears (h : mainUp s = true) (hf : s.pwr.fail = false) :
    exec .supplyWarningEnd s = .next { s with pwr := { s.pwr with warn := false } } := if_pos (by simp [h, hf])

theorem supplyWarningEnd_keeps (h : mainUp s = false ∨ s.pwr.fail = true) : exec .supplyWarningEnd s = .next s :=
  if_neg (by rcases h with h | h <;> simp [h])

/-! ### The supply fail (R45, R481, R482) -/

/-- PWR's registers at a supply fail. -/
def Pwr.failed (p : Pwr) (mv : Nat) : Pwr :=
  { p.warned with vin := false, fail := true, failCount := sat32 (p.failCount + 1), holdMv := mv }

/-- What a supply fail does in a powered main domain: a start is abandoned, and a Puppeteer begins the flush. -/
theorem supplyFail_powered (hv : s.pwr.vin = true) (h0 : s.sys.phase ≠ .off) (h1 : s.sys.phase ≠ .abandoned)
    (hm : s.sys.mode ≠ .dormant) :
    exec (.supplyFail mv) s =
      if (s.sys.phase = .boot ∧ !s.sys.warm) ∨ s.sys.mode = .recovery then
        .next (abandonStart { s with pwr := s.pwr.failed mv })
      else if anyPup s && !s.svc.halted then .next (beginFlush { s with pwr := s.pwr.failed mv })
      else .next { s with pwr := s.pwr.failed mv } := by
  show execSupplyFail mv s = _
  unfold execSupplyFail
  rw [if_neg (by simp [hv, h0, h1]), if_neg hm, setWarn_eq]
  rfl

theorem beginFlush_held {p : Pending} (h : p ∈ (beginFlush s).nvs.held) : (p.rtype, p.inst) ∉ flushItems s := by
  have hp := List.of_mem_filter (show p ∈ List.filter (fun p => !(flushItems s).contains (p.rtype, p.inst))
    (s.nvs.held ++ s.nvs.queue.filter fun p => !p.toJournal) from h)
  simpa using hp

theorem supplyFail_flushes (hv : s.pwr.vin = true) (hm : s.sys.mode ≠ .dormant) (hp : s.sys.phase = .run)
    (hr : s.sys.mode ≠ .recovery) (ha : anyPup s = true) (hh : s.svc.halted = false) :
    ∃ t, exec (.supplyFail mv) s = .next t ∧ SameBut [.nvs, .pwr] s t ∧ t.pwr.vin = false ∧ t.pwr.fail = true ∧
      t.pwr.holdMv = mv ∧ t.pwr.failCount = sat32 (s.pwr.failCount + 1) ∧ t.nvs.flushing = true ∧ t.nvs.queue = [] ∧
      t.nvs.recs = s.nvs.recs ∧ ∀ p ∈ t.nvs.held, (p.rtype, p.inst) ∉ flushItems s := by
  refine ⟨beginFlush { s with pwr := s.pwr.failed mv }, ?_, ?_, rfl, rfl, rfl, rfl, rfl, rfl, rfl, ?_⟩
  · rw [supplyFail_powered hv (by simp [hp]) (by simp [hp]) hm]
    simp [hp, hr, ha, hh]
  · exact (show Same 150994944 s _ by simp).sameBut rfl
  · intro p hp'
    exact beginFlush_held hp'

theorem supplyFail_abandons (hv : s.pwr.vin = true) (hm : s.sys.mode ≠ .dormant) (hp : s.sys.phase = .boot)
    (hw : s.sys.warm = false) :
    ∃ t, exec (.supplyFail mv) s = .next t ∧ SameBut [.sys, .tin, .shb, .nvs, .pwr] s t ∧ t.sys.phase = .abandoned ∧
      t.sys.pupA.up = false ∧ t.sys.pupB.up = false ∧ t.nvs.queue = [] ∧ t.nvs.recs = s.nvs.recs := by
  refine ⟨abandonStart { s with pwr := s.pwr.failed mv }, ?_, ?_, rfl, rfl, rfl, rfl, rfl⟩
  · rw [supplyFail_powered hv (by simp [hp]) (by simp [hp]) hm]
    simp [hp, hw]
  · exact (show Same 155197472 s _ by simp [Sys.modes]).sameBut rfl

theorem supplyFail_dormant (hv : s.pwr.vin = true) (hm : s.sys.mode = .dormant) (hp : s.sys.phase = .run) :
    exec (.supplyFail mv) s = .next { s with pwr := { s.pwr with vin := false } } := by
  show execSupplyFail mv s = _
  rw [execSupplyFail, if_neg (by simp [hv, hp]), if_pos hm]

/-! ### The end of the flush (R482, R485) -/

theorem countLeft_gates (model : Nat) (l : List Int) (x : Chan) :
    ((countLeft model l x).gateA, (countLeft model l x).gateB) = (x.gateA, x.gateB) := by
  induction l generalizing x with
  | nil => rfl
  | cons a l ih =>
    cases l with
    | nil => rfl
    | cons b l =>
      rw [countLeft, ih, Chan.countRange]
      split <;> rfl

theorem emptyStack_same (l : List Ch) (s : State) :
    Same 1024 s (forEach l (fun c s => modCh c (emptyStack s c) s) s) := by
  have one : ∀ (c : Ch) (t : State), Same 1024 t (modCh c (emptyStack t c) t) := fun c t =>
    (modCh_same (m := 1024) (f := emptyStack t c) rfl (Or.inr fun x => countLeft_gates _ _ x)).2 (same_refl _ _)
  exact (forEach_same one).2 (same_refl _ _)

/-- A flush that no item has ended has written FLUSH, its last item. -/
theorem flushRun_newer {l : List FlushItem} {mvs : List Nat} {n : Nat}
    (h : (flushRun (l ++ [.last]) mvs mv n s).2 = none) :
    let t := (flushRun (l ++ [.last]) mvs mv n s).1
    t.nvs.flushNewer = true ∧ t.nvs.lastFlush = optime s := by
  induction l generalizing mvs mv n s with
  | nil =>
    rw [List.nil_append, flushRun] at h ⊢
    split at h
    · exact absurd h (by simp)
    · next hw =>
      rw [if_neg hw]
      exact ⟨rfl, rfl⟩
  | cons i l ih =>
    rw [List.cons_append, flushRun] at h ⊢
    split at h
    · exact absurd h (by simp)
    · next hw =>
      rw [if_neg hw]
      obtain ⟨hnewer, hlast⟩ := ih h
      refine ⟨hnewer, hlast.trans ?_⟩
      have ht := (show Same 184549376 s (flushWrite n i { s with pwr := { s.pwr with holdMv := mvs.head?.getD mv } }) by
        simp).part .tmr rfl
      exact congrArg (fun v : Timers => v.kt.get 0) ht

theorem flushComplete_ends {mvs : List Nat} (hf : s.nvs.flushing = true) (ha : anyPup s = true) :
    ∃ t, exec (.flushComplete mvs) s = .next t ∧ SameBut [.ch, .nvs, .log, .pwr] s t ∧ t.nvs.flushing = false ∧
      (t.nvs.flushBegun = none → t.nvs.flushNewer = true ∧ t.nvs.lastFlush = optime s) := by
  show ∃ t, execFlushComplete mvs s = .next t ∧ _
  unfold execFlushComplete
  rw [if_neg (by simp [hf, ha])]
  extract_lets t r
  have ht : Same 1024 s t := emptyStack_same _ _
  have hr : Same 184549376 t r.1 := by simp [r]
  refine ⟨_, rfl, ?_, rfl, fun hnone => ?_⟩
  · exact (show Same 184550400 s _ from (ht.mono rfl).trans (by simpa using hr.mono rfl)).sameBut rfl
  · have hopt : optime t = optime s := congrArg (fun v : Timers => v.kt.get 0) (ht.part .tmr rfl)
    have hlist : flushList t = ((flushItems t).map (fun i => .rec_ i.1 i.2) ++ [.log]) ++ [.last] := by
      rw [flushList, List.append_assoc]; rfl
    have hdone : (flushRun (flushList t) mvs s.pwr.holdMv 0 t).2 = none := hnone
    rw [hlist] at hdone
    obtain ⟨hnewer, hlast⟩ := flushRun_newer hdone
    rw [← hlist] at hnewer hlast
    exact ⟨hnewer, hlast.trans hopt⟩

/-! ### The collapse of the rails (R541) -/

theorem railCollapse_wipes (h0 : s.sys.phase ≠ .off) (hv : s.pwr.vin = false) :
    exec .railCollapse s = .next (wiped (cutWrite s)) := if_neg (by simp [h0, hv])

theorem cutWrite_empty (hq : s.nvs.queue = []) : cutWrite s = s := by
  rw [cutWrite, nextWrite, hq]
  rfl

theorem wiped_gates (s : State) : (wiped s).gates = List.replicate 24 (.lowFull, .lowFull) := by
  show State.reset.gates = _
  decide

/-- Settles O8, event by event. -/
theorem theSupplyWarnsFailsFlushesAndCollapses : Obligations.TheSupplyWarnsFailsFlushesAndCollapses := by
  refine ⟨fun s => ⟨fun hup => ⟨⟨_, supplyWarning_up hup, ?_, rfl, rfl, rfl⟩, fun hf => ⟨_, supplyWarningEnd_clears hup hf, ?_, rfl⟩,
    fun hf => supplyWarningEnd_keeps (.inr hf)⟩, fun hdown => ⟨supplyWarning_down hdown, supplyWarningEnd_keeps (.inl hdown)⟩⟩,
    fun s => ⟨fun mv hv => ⟨supplyFail_flushes hv, supplyFail_abandons hv, supplyFail_dormant hv⟩,
    fun mvs hf ha => flushComplete_ends hf ha, fun h0 hv hq => ?_, fun h0 hv => ?_⟩⟩
  · exact ((same_nvs (m := 150994944) (t := { s with pwr := s.pwr.warned }) rfl).2 (by simp)).sameBut rfl
  · exact (show Same 134217728 s _ by simp).sameBut rfl
  · refine ⟨_, railCollapse_wipes h0 hv, rfl, wiped_gates _, ?_⟩
    rw [cutWrite_empty hq]
    exact ⟨rfl, rfl, rfl, rfl, rfl⟩
  · exact ⟨_, railCollapse_wipes h0 hv, rfl, wiped_gates _, (show Same 117441348 s (cutWrite s) by simp).part .xam rfl⟩

end Sys2Proof.Machine
end

section
/-! What the arbiter's steps leave in its registers, and the laws of the clock that other proofs share. -/

namespace Sys2Proof.Machine

variable {s : State} {o : Op} {c : Ch}

/-! ### Time passes up to a clock -/

@[simp] theorem passTo_clock (t : Nat) (s : State) : (passTo t s).clock = max s.clock t := by
  rw [passTo, settleLines_clock, elapseTo, elapse_clock]
  omega

/-! ### The queue is judged again -/

/-- With nothing in the queue a judgement changes nothing (R411). -/
theorem rejudge_nil (h : s.adm.queue = []) : rejudge s = s := by rw [rejudge, h, rejudgeList]

theorem returnOp_nil {id : Nat} (h : s.adm.queue = []) :
    returnOp id s = { s with adm := { s.adm with grants := s.adm.grants.filter fun o => o.id != id } } := by
  unfold returnOp
  exact rejudge_nil h

/-! ### Decisions (R413) -/

/-- A decision, field by field: ADM.LAST alone, and perhaps the interrupt bit. -/
theorem decide_adm (o : Op) (budget dec : Nat) (s : State) :
    (decide_ o budget dec s).adm =
      { s.adm with lastOp := o.code, lastBudget := budget, lastDecision := dec, lastCh := chField o } := by
  unfold decide_
  split <;> rfl

theorem decide_frame (o : Op) (budget dec : Nat) (s : State) : Same 1048640 s (decide_ o budget dec s) := by
  unfold decide_
  split <;> simp

/-- The end of a request without a grant keeps the queue, the counts and ADM.LAST. -/
theorem dropOp_adm (o : Op) (s : State) : ∃ g, (dropOp o s).adm = { s.adm with grants := g } := by
  have withGrants : ∀ {a b : Adm} {g : List Op}, a = b → { a with grants := g } = { b with grants := g } := fun h => h ▸ rfl
  unfold dropOp
  split
  · split
    · next c _ =>
      have h := (show Same (8589934591 - 2 ^ 20) s (unwait c s) by simp).part .adm rfl
      exact ⟨_, withGrants h⟩
    · exact ⟨_, rfl⟩
  · split <;> exact ⟨_, rfl⟩
  · exact ⟨_, rfl⟩
  · exact ⟨_, rfl⟩

/-- The request of the firmware itself that asks for no amount: it waits for a place among the walk-ins or is granted (R238). -/
theorem judge_walkin (hcode : o.code = Opn.WALKIN) (hbus : o.bus = 0) (hsrc : o.src = 0) (hbat : o.bat = 0)
    (hself : o.self = 0) (htherm : o.therm = 0) :
    judge s [] o = if pn s Prm.ADM_WALKIN_PAR ≤ walkins s then .wait 0 else .grant (min 0 (busFree s)).toNat := by
  simp [judge, hcode, hbus, hsrc, hbat, hself, htherm, Opn.WALKIN, Opn.CAP_TEST, Opn.DUR_TEST, Opn.FET_TEST]

end Sys2Proof.Machine
end

section
/-! The obligation on the events of the bus, of the arbiter, and of the modes. -/

namespace Sys2Proof.Machine

variable {s : State} {c : Ch}

/-! ### The strobe and the modes by themselves (R59, R61, R139, R140, Table 2.2) -/

/-- Outside HANDOVER the return from it changes nothing of the registers of chapter 2. -/
theorem leaveHandover_sys_other (h : s.sys.mode ≠ .handover) : (leaveHandover s).sys = s.sys := by
  unfold leaveHandover
  extract_lets op _ s1 s2
  have h2 : s2.sys = s.sys := by
    unfold s2
    rw [if_neg h]
  clear_value op
  cases op with
  | some id => exact ((show Same 338696000 s2 (returnOp id s2) by simp).part .sys rfl).trans h2
  | none => exact h2

/-- The return from HANDOVER is the entry of the mode that it came from (R530). -/
theorem leaveHandover_sys (h : s.sys.mode = .handover) (hf : s.sys.handoverFrom ≠ .handover) :
    (leaveHandover s).sys = s.sys.entered s.sys.handoverFrom := by
  unfold leaveHandover
  extract_lets op _ s1 s2
  have h2 : s2.sys = s.sys.entered s.sys.handoverFrom := by
    unfold s2
    rw [if_pos h]
    exact enterMode_sys (s := s1) (by rw [h]; exact hf.symm)
  clear_value op
  cases op with
  | some id => exact ((show Same 338696000 s2 (returnOp id s2) by simp).part .sys rfl).trans h2
  | none => exact h2

/-- An abort outside HANDOVER leaves the mode: it restarts the shadow and tells the asker (R530). -/
theorem abortTakeover_modes {result : Nat} (h : s.sys.mode ≠ .handover) : (abortTakeover result s).sys.modes = s.sys.modes := by
  unfold abortTakeover
  split
  · rfl
  · extract_lets staged s1 phase s2
    have h1 : s1.sys = s.sys := (show Same 67108864 s s1 by simp [s1]).part .sys rfl
    have h2 : s2.sys.modes = s.sys.modes := modPup_modes.trans (congrArg Sys.modes h1)
    have hm : s2.sys.mode ≠ .handover := fun e => h ((congrArg Prod.fst h2).symm.trans e)
    rw [sendAnnounce_sys, leaveHandover_sys_other hm, h2]

theorem takeStrobe_modes (hst : s.bus.strobe = true) (hm : s.sys.mode ∈ [Mode.online, .recharge, .maintain]) :
    (takeStrobe s).sys.modes = (.bridge, s.sys.mode) := by
  have hrow : s.sys.mode = .online ∨ s.sys.mode = .maintain ∨ s.sys.mode = .recharge ∨ s.sys.mode = .handover := by
    simp only [List.mem_cons, List.not_mem_nil, or_false] at hm
    tauto
  have hne : s.sys.mode ≠ .bridge := by
    rcases hrow with h | h | h | h <;> simp [h]
  have hb : (enterBridge s).sys.modes = (.bridge, s.sys.mode) := by
    rw [enterBridge, if_pos hrow]
    simp only [hst, if_true]
    exact enterMode_modes hne
  have hbm : (enterBridge s).sys.mode = .bridge := congrArg Prod.fst hb
  have hl : (loseMains s).sys.modes = (.bridge, s.sys.mode) := by
    rw [loseMains, if_pos hbm, abortTakeover_modes (by simp [hbm]), hb]
  unfold takeStrobe
  rw [if_neg (by simp [hst])]
  exact hl

theorem takeStrobe_taken (hst : s.bus.strobe = true) : (takeStrobe s).bus.strobe = false ∧ (takeStrobe s).adm.srcCap = 0 := by
  unfold takeStrobe
  rw [if_neg (by simp [hst])]
  exact ⟨rfl, rfl⟩

theorem takeStrobe_idle (h : s.bus.strobe = false) : takeStrobe s = s := if_pos (by rw [h]; rfl)

theorem bridgeStrobeInterrupt_bridges (hfw : fwActs s = true) (hst : s.bus.strobe = true)
    (hm : s.sys.mode ∈ [Mode.online, .recharge, .maintain]) :
    ∃ t, exec .bridgeStrobeInterrupt s = .next t ∧ t.sys.modes = (.bridge, s.sys.mode) ∧ t.bus.strobe = false ∧
      t.adm.srcCap = 0 := by
  refine ⟨reportCh s (takeStrobe s), if_neg (by simp [hst, hfw]), ?_⟩
  rw [reportCh_sys, reportCh_bus, reportCh_adm]
  exact ⟨takeStrobe_modes hst hm, takeStrobe_taken hst⟩

theorem autoOnline_of (hfw : fwActs s = true) (hm : s.sys.mode = .standby) (ha : pb s Prm.SYS_AUTO_ONLINE = true)
    (hst : s.bus.strobe = false) :
    exec .autoOnline s =
      if requestHolds s Mode.online.code then .next (enterMode .online Cause.firmware s) else .next s := by
  show execAutoOnline s = _
  unfold execAutoOnline
  rw [takeStrobe_idle hst, ite_self]
  simp only [hfw, hm, ha, beq_self_eq_true, Bool.true_and]

theorem cutoffDormantTimeout_asks (hfw : fwActs s = true) (hm : s.sys.mode = .cutoff) (hmb : s.mb.mains = false)
    (hsec : pn s Prm.SYS_CUTOFF_DORMANT_S ≠ 0) (hdue : s.sys.dormDue = false) :
    ∃ t, exec .cutoffDormantTimeout s = .next t ∧ SameBut (.sys :: passing) s t ∧ t.sys.dormDue = true ∧
      t.sys.modes = s.sys.modes ∧
      t.clock = max s.clock (max s.bat.cutoffAt s.mb.lostAt + pn s Prm.SYS_CUTOFF_DORMANT_S * clkS) := by
  show ∃ t, execCutoffDormantTimeout s = .next t ∧ _
  unfold execCutoffDormantTimeout
  extract_lets sec t
  rw [if_pos (by simp [hfw, hm, hmb, hdue, sec, hsec])]
  have ht : t.sys = s.sys := passTo_sys
  have hs : Same 109708130 s t := by simp [t]
  refine ⟨_, rfl, ?_, rfl, ?_, passTo_clock _ _⟩
  · refine Same.sameBut (k := 109708130) ?_ rfl
    exact (same_sys rfl (Or.inr (by rfl)) (Or.inr (by rfl))).2 hs
  · show t.sys.modes = _
    rw [ht]

/-! ### Capping and peak support (R241, R242) -/

theorem sendRectSet_bus {mv : Int} {l : Option Nat} {cmd : Nat} : (sendRectSet c mv l cmd s).bus = s.bus :=
  (show Same (8589934591 - 2 ^ 12) s (sendRectSet c mv l cmd s) by simp).part .bus rfl

/-- A component replaced by itself. -/
theorem vput_self {α : Type} {n : Nat} (v : Vector α n) (i : Fin n) : vput v i (v.get i) = v :=
  Vector.set_getElem_self i.isLt

/-- A RECT_SET changes on the bus only whether its rectifier is told to be off. -/
theorem sendSet_bus (c : Ch) (s : State) : ∃ r, (sendSet c s).bus = { s.bus with rectOff := r } := by
  have withRectOff : ∀ {a b : Bus} {r}, a = b → { a with rectOff := r } = { b with rectOff := r } := fun h => h ▸ rfl
  unfold sendSet
  extract_lets cmd t
  have ht : t.bus = s.bus := sendRectSet_bus
  split
  · exact ⟨_, withRectOff ht⟩
  · exact ⟨s.bus.rectOff, ht⟩

/-- A limit that is put changes on the bus that limit, and whether its rectifier is told to be off. -/
theorem putLimit_bus (c : Ch) (l : Option Nat) (s : State) :
    ∃ r, (putLimit c l s).bus = { s.bus with limit := vput s.bus.limit c l, rectOff := r } := by
  unfold putLimit
  split
  · next h =>
    have hl : vput s.bus.limit c l = s.bus.limit := by
      rw [← h]
      exact vput_self s.bus.limit c
    exact ⟨s.bus.rectOff, by rw [hl]⟩
  · exact sendSet_bus c _

/-- Every limit of a list of channels is lifted; the cap's registers stay. -/
theorem forEach_putLimit_none (l : List Ch) {s : State} {b : Bus}
    (hb : (forEach l (fun c s => putLimit c none s) s).bus = b) :
    b.capState = s.bus.capState ∧ b.capLow = s.bus.capLow ∧
      ∀ c, (c ∈ l ∨ s.bus.limit.get c = none) → b.limit.get c = none := by
  induction l generalizing s with
  | nil =>
    subst hb
    exact ⟨rfl, rfl, fun c h => h.resolve_left (by simp)⟩
  | cons d l ih =>
    obtain ⟨r, hr⟩ := putLimit_bus d none s
    obtain ⟨hstate, hlow, hlim⟩ := ih hb
    rw [hr] at hstate hlow hlim
    refine ⟨hstate, hlow, fun c h => hlim c ?_⟩
    by_cases hc : c = d
    · exact .inr (by rw [hc]; exact vput_get_same _ _ _)
    · refine h.imp (fun hm => (List.mem_cons.1 hm).resolve_left hc) fun hn => ?_
      exact (vput_get_ne _ _ _ _ hc).trans hn

theorem liftAll_lifts (s : State) :
    (liftAll s).bus.capState = s.bus.capState ∧ (liftAll s).bus.capLow = s.bus.capLow ∧
      ∀ c : Ch, (liftAll s).bus.limit.get c = none := by
  obtain ⟨hstate, hlow, hlim⟩ := forEach_putLimit_none allCh (s := { s with bat := { s.bat with iB := none } })
    (b := (liftAll s).bus) (by unfold liftAll; rfl)
  exact ⟨hstate, hlow, fun c => hlim c (.inl (List.mem_finRange c))⟩

theorem capEnd_lifts (s : State) :
    (capEnd s).bus.capState = 0 ∧ (capEnd s).bus.capLow = 0 ∧ ∀ c : Ch, (capEnd s).bus.limit.get c = none := by
  unfold capEnd liftLimits
  exact liftAll_lifts _

theorem cappingEnd_ends (hfw : fwActs s = true) (hcap : s.bus.capState ≠ 0) (hlow : 10 ≤ s.bus.capLow) :
    exec .cappingEnd s = .next (capEnd s) := if_pos (by simp [hfw, hcap, hlow])

/-- Peak support that ends by itself: its grant is gone, and nothing that waits is judged where nothing waits. -/
theorem endPeak_returns {id : Nat} (hop : s.bus.peakOp = some id) (hq : s.adm.queue = []) :
    (endPeak false s).bus.peakOp = none ∧ ∀ o ∈ (endPeak false s).adm.grants, o.id ≠ id := by
  let u := { s with bus := { s.bus with peakOp := none, peakAt := none } }
  have hu : endPeak false s = match s.adm.grants.find? fun o => o.id == id with
      | none => u
      | some _ => returnOp id u := by
    unfold endPeak
    rw [hop] <;> rfl
  rw [hu]
  cases hf : s.adm.grants.find? fun o => o.id == id with
  | none => exact ⟨rfl, fun o ho => by simpa using List.find?_eq_none.1 hf o ho⟩
  | some o =>
    show (returnOp id u).bus.peakOp = none ∧ ∀ o ∈ (returnOp id u).adm.grants, o.id ≠ id
    rw [returnOp_nil (s := u) hq]
    exact ⟨rfl, fun o ho => by simpa using List.of_mem_filter ho⟩

theorem peakSupportTimeout_returns {at_ id : Nat} (hfw : fwActs s = true) (hat : s.bus.peakAt = some at_)
    (hop : s.bus.peakOp = some id) (hq : s.adm.queue = []) :
    ∃ t, exec .peakSupportTimeout s = .next t ∧ t.bus.capState = 2 ∧ t.bus.peakOp = none ∧ ∀ o ∈ t.adm.grants, o.id ≠ id := by
  let u := passTo (at_ + pn s Prm.BUS_PEAK_MAX_S * clkS) s
  obtain ⟨hnone, hgrants⟩ := endPeak_returns (s := u) (id := id) (by rw [passTo_bus]; exact hop) (by rw [passTo_adm]; exact hq)
  refine ⟨{ endPeak false u with bus := { (endPeak false u).bus with capState := 2 } }, ?_, rfl, hnone, hgrants⟩
  show execPeakSupportTimeout s = _
  unfold execPeakSupportTimeout
  rw [hat]
  exact if_neg (by simp [hfw])

theorem rectLeftSet_leaves (hfw : fwActs s = true) (hmiss : 3 ≤ (s.shb.dev.get c).miss)
    (hleft : (s.shb.dev.get c).left = false) :
    ∃ t, exec (.rectLeftSet c) s = .next t ∧ SameBut (.shb :: logging) s t ∧ (t.shb.dev.get c).left = true := by
  let u := { s with shb := { s.shb with dev := vmod s.shb.dev c fun d => { d with left := true } } }
  refine ⟨logEvent Evt.RECT_LEFT_SET 1 c.val [] u, if_pos (by simp [hfw, hmiss, hleft]), ?_, ?_⟩
  · exact (show Same (100664128 + 2 ^ 22) s _ by simp [u]).sameBut rfl
  · rw [logEvent_shb]
    exact congrArg Dev.left (vmod_get_same s.shb.dev c _)

/-! ### The arbiter (R238, R411, R413) -/

theorem walkin_files (hfw : fwActs s = true) (hq : s.adm.queue = []) (hw : s.bus.walk.get c = .queued)
    (hm : opModes Opn.WALKIN s.sys.mode = true) (hg : ∀ o ∈ s.adm.grants, ¬(o.code = Opn.WALKIN ∧ o.ch = some c)) :
    exec (.walkin c) s = .next (fileOp { Op.blank Opn.WALKIN with ch := some c, map := 2 ^ c.val, prio := 1 } s) := by
  have hfile : (s.bus.walk.get c = .queued && opModes Opn.WALKIN s.sys.mode &&
      !(s.adm.queue ++ s.adm.grants).any (fun o => o.code == Opn.WALKIN && o.ch == some c)) = true := by
    simp [hw, hm, hq]
    intro o ho hcode hch
    exact hg o ho ⟨hcode, hch⟩
  show execWalkin c s = _
  rw [execWalkin, if_pos hfw, fileWalkin, if_pos hfile]

theorem startOp_walkin {o : Op} {mc : Nat} (hcode : o.code = Opn.WALKIN) (hch : o.ch = some c) :
    startOp o mc s = { s with bus := { s.bus with walk := vput s.bus.walk c (.ramp s.clock) } } := by
  unfold startOp
  rw [hcode]
  show (match o.ch with | some c => _ | none => s) = _
  rw [hch]

/-- The grant of a walk-in that the firmware filed: the ramp begins. -/
theorem grantOp_walkin {o : Op} {mc : Nat} (hcode : o.code = Opn.WALKIN) (hch : o.ch = some c) (htag : o.tag = none) :
    let t := grantOp o mc false s
    t.bus.walk.get c = .ramp s.clock ∧ t.adm.lastOp = Opn.WALKIN ∧ t.adm.lastDecision = 1 := by
  unfold grantOp
  extract_lets p _ u d e f t
  have hf : f = d := by
    show (match p.tag with | some id => _ | none => d) = d
    rw [show p.tag = none from htag]
  have hadm : d.adm = { u.adm with lastOp := p.code, lastBudget := 0, lastDecision := 1, lastCh := chField p } :=
    decide_adm _ _ _ _
  have hclock : d.clock = s.clock := (decide_frame p 0 1 u).part .clock rfl
  have ht : t = { d with bus := { d.bus with walk := vput d.bus.walk c (.ramp d.clock) } } := by
    rw [← hf]
    exact startOp_walkin hcode hch
  rw [ht]
  refine ⟨?_, ?_, ?_⟩
  · exact (vput_get_same _ _ _).trans (by rw [hclock])
  · show d.adm.lastOp = _
    rw [hadm]
    exact hcode
  · show d.adm.lastDecision = _
    rw [hadm]

/-- A request of the firmware that is queued leaves the bus as it is. -/
theorem queueOp_untold {o : Op} {budget : Nat} (htag : o.tag = none) :
    (queueOp o budget s).bus = s.bus ∧ (queueOp o budget s).adm.lastOp = o.code ∧ (queueOp o budget s).adm.lastDecision = 2 := by
  unfold queueOp
  extract_lets p _ u d
  have hadm : d.adm = { u.adm with lastOp := p.code, lastBudget := budget, lastDecision := 2, lastCh := chField p } :=
    decide_adm _ _ _ _
  have hbus : d.bus = s.bus := (decide_frame p budget 2 u).part .bus rfl
  show (match p.tag with | some id => _ | none => d).bus = s.bus ∧ (match p.tag with | some id => _ | none => d).adm.lastOp = _ ∧
    (match p.tag with | some id => _ | none => d).adm.lastDecision = 2
  rw [show p.tag = none from htag]
  exact ⟨hbus, congrArg Adm.lastOp hadm, congrArg Adm.lastDecision hadm⟩

theorem walkin_judged (hfw : fwActs s = true) (hq : s.adm.queue = []) (hw : s.bus.walk.get c = .queued)
    (hm : opModes Opn.WALKIN s.sys.mode = true) (hg : ∀ o ∈ s.adm.grants, ¬(o.code = Opn.WALKIN ∧ o.ch = some c)) :
    ∃ t, exec (.walkin c) s = .next t ∧ SameBut switching s t ∧ t.adm.lastOp = Opn.WALKIN ∧
      (walkins s < pn s Prm.ADM_WALKIN_PAR → t.bus.walk.get c = .ramp s.clock ∧ t.adm.lastDecision = 1) ∧
      (pn s Prm.ADM_WALKIN_PAR ≤ walkins s → t.bus.walk.get c = .queued ∧ t.adm.lastDecision = 2) := by
  refine ⟨_, walkin_files hfw hq hw hm hg, (show Same 372250432 s _ by simp).sameBut rfl, ?_⟩
  unfold fileOp
  extract_lets _ o _ u
  have hblocked : blockedBy u o = [] := by rw [blockedBy, show u.adm.queue = [] from hq]; rfl
  rw [hblocked, judge_walkin rfl rfl rfl rfl rfl rfl]
  by_cases hpar : pn s Prm.ADM_WALKIN_PAR ≤ walkins s
  · obtain ⟨hbus, hop, hdec⟩ := queueOp_untold (s := u) (o := o) (budget := 0) rfl
    rw [if_pos (show pn u Prm.ADM_WALKIN_PAR ≤ walkins u from hpar)]
    simp only [show u.adm.queue.length < 32 by rw [show u.adm.queue = [] from hq]; decide, if_true]
    refine ⟨hop, fun h => absurd h (by omega), fun _ => ⟨?_, hdec⟩⟩
    rw [hbus]
    exact hw
  · obtain ⟨hwalk, hop, hdec⟩ := grantOp_walkin (s := u) (o := o) (c := c) (mc := (min 0 (busFree u)).toNat) rfl rfl rfl
    rw [if_neg (show ¬ pn u Prm.ADM_WALKIN_PAR ≤ walkins u from hpar)]
    exact ⟨hop, fun _ => ⟨hwalk, hdec⟩, fun h => absurd h hpar⟩

theorem walkinEnd_ends {at_ : Nat} (hq : s.adm.queue = []) (hw : s.bus.walk.get c = .ramp at_) :
    ∃ t, exec (.walkinEnd c) s = .next t ∧ t.bus.walk.get c = .full ∧
      t.clock = max s.clock (at_ + pn s Prm.BUS_WALKIN_MS * clkMs) := by
  let u := passTo (at_ + pn s Prm.BUS_WALKIN_MS * clkMs) s
  let v := { u with bus := { u.bus with walk := vput u.bus.walk c .full } }
  have hx : exec (.walkinEnd c) s = match v.adm.grants.find? (fun o => o.code == Opn.WALKIN && o.ch == some c) with
      | some o => .next (returnOp o.id v)
      | none => .next v := by
    show execWalkinEnd c s = _
    unfold execWalkinEnd
    rw [hw] <;> rfl
  rw [hx]
  have hv : v.bus.walk.get c = .full := vput_get_same _ _ _
  have hclock : v.clock = max s.clock (at_ + pn s Prm.BUS_WALKIN_MS * clkMs) := passTo_clock _ _
  have hvq : v.adm.queue = [] := (congrArg Adm.queue (passTo_adm : u.adm = s.adm)).trans hq
  split
  · refine ⟨_, rfl, ?_⟩
    rw [returnOp_nil hvq]
    exact ⟨hv, hclock⟩
  · exact ⟨v, rfl, hv, hclock⟩

/-- What the arbiter's registers say once the only request that waits has waited too long. -/
theorem admWaitTimeout_leaves {o : Op} (hfw : fwActs s = true) (hq : s.adm.queue = [o]) :
    ∃ t, exec (.admWaitTimeout 1) s = .next t ∧ t.adm.queue = [] ∧ t.adm.timeouts = sat32 (s.adm.timeouts + 1) ∧
      t.adm.lastOp = o.code ∧ t.adm.lastDecision = 4 ∧ t.adm.lastBudget = o.waitOn := by
  let u := passTo (o.since + pn s Prm.ADM_WAIT_MAX_MS * clkMs) s
  let v := { u with adm := { u.adm with queue := u.adm.queue.filter (fun p => p.id != o.id), timeouts := sat32 (u.adm.timeouts + 1) } }
  let d := decide_ o o.waitOn 4 v
  let e := ntfAdmit o o.waitOn d
  let f := opComplete o St.REFUSED o.waitOn [] (failEvent o o.waitOn (dropOp o e))
  have hx : exec (.admWaitTimeout 1) s = .next (reportCh s (rejudge f)) := by
    show execAdmWaitTimeout 1 s = _
    unfold execAdmWaitTimeout
    rw [show s.adm.queue[1 - 1]? = some o by rw [hq]; rfl]
    exact if_neg (by simp [hfw])
  obtain ⟨g, hg⟩ := dropOp_adm o e
  have hu : u.adm = s.adm := passTo_adm
  have hd : d.adm = { v.adm with lastOp := o.code, lastBudget := o.waitOn, lastDecision := 4, lastCh := chField o } :=
    decide_adm _ _ _ _
  have he : e.adm = d.adm := (show Same 67109696 d e by simp [e]).part .adm rfl
  have hf : f.adm = (dropOp o e).adm := (show Same 100664128 (dropOp o e) f by simp [f]).part .adm rfl
  have hfq : f.adm.queue = [] := by
    rw [hf, hg, he, hd]
    show u.adm.queue.filter (fun p => p.id != o.id) = []
    rw [hu, hq]
    simp
  refine ⟨_, hx, ?_⟩
  rw [reportCh_adm, rejudge_nil hfq, hf, hg, he, hd]
  refine ⟨?_, ?_, rfl, rfl, rfl⟩
  · rw [← hfq, hf, hg, he, hd]
  · show sat32 (u.adm.timeouts + 1) = _
    rw [hu]

/-- Settles O28, event by event. -/
theorem theBusTheArbiterAndTheModesFollowTheirEvents : Obligations.TheBusTheArbiterAndTheModesFollowTheirEvents := by
  intro s hfw
  refine ⟨fun hst hm _ => bridgeStrobeInterrupt_bridges hfw hst hm, fun hm ha hst => ⟨fun hreq => ?_, fun hreq => ?_⟩,
    cutoffDormantTimeout_asks hfw, fun hcap hlow => ⟨_, cappingEnd_ends hfw hcap hlow, capEnd_lifts s⟩,
    fun at_ id hat hop hq => peakSupportTimeout_returns hfw hat hop hq, fun c hmiss hleft => rectLeftSet_leaves hfw hmiss hleft,
    fun c hq => ⟨walkin_judged hfw hq, fun at_ hw => walkinEnd_ends hq hw⟩, fun o hq _ => admWaitTimeout_leaves hfw hq⟩
  · refine ⟨_, (autoOnline_of hfw hm ha hst).trans (if_pos hreq), ?_⟩
    rw [enterMode_modes (by simp [hm]), hm]
  · rw [autoOnline_of hfw hm ha hst, hreq]
    rfl

end Sys2Proof.Machine
end

section
/-! The obligation on the end of BOOT: the handshake, the self-test before it, and the mode in which a start ends. -/

namespace Sys2Proof.Machine

variable {s : State} {test : SelfTest}

/-! ### The self-test before the handshake (R42) -/

theorem drawTest_frame (s : State) : Same 4 s (drawTest s).2 := by simp

/-- Of the Tin Soldier's registers a self-test changes only whether the handshake's hardware is checked. -/
theorem selfTest_tin (test : SelfTest) (s : State) :
    (selfTest test s).tin = { s.tin with checked := s.tin.checked || !test.handshakeFail } := by
  unfold selfTest
  extract_lets s1 s2 s3 s4 s5 s6 s7 s8
  have h1 : s1.tin = s.tin := by unfold s1; split <;> simp
  have h2 : s2.tin = s1.tin := (show Same 100664128 s1 s2 from (forEach_same fun _ _ => by simp).2 (same_refl _ _)).part .tin rfl
  have h3 : s3.tin = s2.tin := (show Same 2048 s2 s3 from (forEach_same fun _ _ => by simp).2 (same_refl _ _)).part .tin rfl
  have h4 : s4.tin = s3.tin := (show Same 100664128 s3 s4 from (forEach_same fun _ _ => by simp).2 (same_refl _ _)).part .tin rfl
  have h5 : s5.tin = s4.tin := (show Same 268436480 s4 s5 from (forEach_same fun _ _ => by simp).2 (same_refl _ _)).part .tin rfl
  have h6 : s6.tin = s5.tin := by unfold s6; split <;> simp
  have h7 : s7.tin = s6.tin := by unfold s7; split <;> simp
  have h8 : s8.tin = s7.tin := by unfold s8; split <;> simp
  have h : s8.tin = s.tin := by rw [h8, h7, h6, h5, h4, h3, h2, h1]
  exact congrArg (fun v : Tin => { v with checked := v.checked || !test.handshakeFail }) h

theorem openTest_tested (h : s.sys.tested = true) : openTest s = s := if_pos h

theorem openTest_untested (h : s.sys.tested = false) : openTest s = selfTest (drawTest s).1 (drawTest s).2 :=
  if_neg (by simp [h])

theorem openTest_untested_sys (h : s.sys.tested = false) :
    (openTest s).sys =
      { s.sys with tested := true, bootStuck := (drawTest s).1.memFail || (drawTest s).1.handshakeFail } := by
  rw [openTest_untested h, selfTest_sys]
  exact congrArg (fun y : Sys => { y with
    tested := true, bootStuck := (drawTest s).1.memFail || (drawTest s).1.handshakeFail }) ((drawTest_frame s).part .sys rfl)

/-- The self-test step leaves the armed bit, the window and the overrides of the Tin Soldier. -/
theorem openTest_tin (s : State) :
    (openTest s).tin.armed = s.tin.armed ∧ (openTest s).tin.window = s.tin.window ∧
      (openTest s).tin.override = s.tin.override := by
  cases h : s.sys.tested with
  | true => rw [openTest_tested h]; exact ⟨rfl, rfl, rfl⟩
  | false =>
    have hd : (drawTest s).2.tin = s.tin := (drawTest_frame s).part .tin rfl
    rw [openTest_untested h, selfTest_tin, ← hd]
    exact ⟨rfl, rfl, rfl⟩

/-! ### The handshake (R264, R266) -/

theorem handshake_sys (s : State) : (handshake s).sys = s.sys :=
  (show Same 393230144 s (handshake s) by simp).part .sys rfl

theorem releaseOverrides_override (s : State) : (releaseOverrides s).tin.override = false := by
  unfold releaseOverrides
  split
  · next h => simpa using h
  · extract_lets _ u
    have hs : Same (8589934591 - 8192) u
        (rescheduleAll (forEach allCh (fun c s => modCh c (fun x => { x with keep := false }) s) u)) := by
      rw [rescheduleAll_same rfl]
      exact (forEach_same fun _ _ => by simp).2 (same_refl _ _)
    exact congrArg Tin.override (hs.part .tin rfl)

theorem latchSheet_override (s : State) : (latchSheet s).tin.override = s.tin.override := by
  unfold latchSheet
  split
  · rfl
  · extract_lets _
    rw [(show Same 100665152 _ (sheetDiff (gainDiff { s with tin := { s.tin with keep := sheetKeeps s } })) from
      (sheetDiff_same rfl).2 (same_refl _ _)).part .tin rfl]
    rfl

/-- What the handshake leaves in the Tin Soldier and on the Share Bus. -/
theorem handshake_arms (s : State) :
    (handshake s).tin.armed = true ∧ (handshake s).tin.window = false ∧ (handshake s).tin.override = false ∧
      (handshake s).tin.token = true ∧ (handshake s).shb.live = true := by
  refine ⟨rfl, rfl, ?_, rfl, rfl⟩
  show (latchSheet (isolateRecorded (releaseOverrides s))).tin.override = false
  have hiso : (isolateRecorded (releaseOverrides s)).tin = (releaseOverrides s).tin :=
    (show Same 393221952 _ (isolateRecorded (releaseOverrides s)) from (isolateRecorded_same rfl).2 (same_refl _ _)).part .tin rfl
  rw [latchSheet_override, hiso, releaseOverrides_override]

theorem awaitsHandshake_unstuck (h : awaitsHandshake s = true) : s.sys.bootStuck = false := by
  revert h
  simp only [awaitsHandshake, Bool.and_eq_true, Bool.not_eq_true']
  exact fun h => h.1.2

theorem tinSoldierHandshake_runs (h : awaitsHandshake s = true) (ha : s.sys.pupA.alive = true) (hb : s.sys.pupB.alive = true) :
    exec .tinSoldierHandshake s =
      .next (if (openTest s).sys.bootStuck then openTest s else reportCh s (handshake (openTest s))) := if_pos (by simp [h, ha, hb])

theorem tinSoldierHandshake_stuck (h : awaitsHandshake s = true) (ha : s.sys.pupA.alive = true) (hb : s.sys.pupB.alive = true)
    (hst : (openTest s).sys.bootStuck = true) : exec .tinSoldierHandshake s = .next (openTest s) := by
  rw [tinSoldierHandshake_runs h ha hb, if_pos hst]

theorem tinSoldierHandshake_arms (h : awaitsHandshake s = true) (ha : s.sys.pupA.alive = true) (hb : s.sys.pupB.alive = true)
    (hst : (openTest s).sys.bootStuck = false) :
    exec .tinSoldierHandshake s = .next (reportCh s (handshake (openTest s))) := by
  rw [tinSoldierHandshake_runs h ha hb, if_neg (by simp [hst])]

/-- What the end of a handshake shows, whose report changes none of it. -/
theorem reportCh_handshake_arms (s u : State) :
    (reportCh s (handshake u)).tin.armed = true ∧ (reportCh s (handshake u)).tin.window = false ∧
      (reportCh s (handshake u)).tin.override = false ∧ (reportCh s (handshake u)).tin.token = true ∧
      (reportCh s (handshake u)).shb.live = true := by
  rw [reportCh_tin, reportCh_shb]
  exact handshake_arms u

theorem simplexStartTimeout_runs (h : awaitsHandshake s = true) (ha : (s.sys.pup s.sys.active).alive = true)
    (hb : ((s.sys.pup (otherPup s.sys.active)).alive && (s.sys.pup (otherPup s.sys.active)).inStep) = false) :
    exec .simplexStartTimeout s =
      .next (if (openTest s).sys.bootStuck then openTest s
        else reportCh s (handshake (failPup (otherPup s.sys.active) (openTest s)))) := by
  show execSimplexStartTimeout s = _
  unfold execSimplexStartTimeout
  extract_lets sh t
  rw [if_pos (by simp only [h, ha, Bool.true_and]; exact congrArg (!·) hb)]

theorem failPup_bootStuck (p : Pup) (s : State) : (failPup p s).sys.bootStuck = s.sys.bootStuck := by
  rw [failPup_sys, failed]
  cases p <;> rfl

theorem failPup_active (p : Pup) (s : State) : (failPup p s).sys.active = s.sys.active := by
  rw [failPup_sys, failed]
  cases p <;> rfl

/-- The handshake with the active Puppeteer alone: the shadow has failed, and the machine is in simplex (R264). -/
theorem simplex_handshake (s u : State) (p : Pup) :
    let t := reportCh s (handshake (failPup p u))
    t.sys.active = u.sys.active ∧ t.sys.failoverCount = u.sys.failoverCount ∧ t.sys.bootStuck = u.sys.bootStuck ∧
      t.sys.simplex = true ∧ (t.sys.pup p).up = false := by
  intro t
  have ht : t.sys = (failPup p u).sys := by rw [reportCh_sys, handshake_sys]
  rw [ht]
  refine ⟨failPup_active p u, failPup_failoverCount p u, failPup_bootStuck p u, failPup_simplex p u, ?_⟩
  rw [failPup_pup]
  rfl

/-- The self-test step keeps who is active and what is counted. -/
theorem openTest_kept (s : State) :
    (openTest s).sys.active = s.sys.active ∧ (openTest s).sys.failoverCount = s.sys.failoverCount := by
  cases h : s.sys.tested with
  | true => rw [openTest_tested h]; exact ⟨rfl, rfl⟩
  | false => rw [openTest_untested_sys h]; exact ⟨rfl, rfl⟩

/-! ### The end of BOOT (R40, R49) -/

theorem readyNow_sys (s : State) : (readyNow s).sys = { s.sys with phase := .run, fwReady := true } := by
  unfold readyNow
  rw [sendAnnounce_sys, setIrq_sys]

/-- The mode that ends BOOT, with the firmware ready. -/
theorem enterMode_readyNow {m : Mode} {cause : Nat} (hb : s.sys.mode = .boot) (hm : m ≠ .boot) :
    (enterMode m cause (readyNow s)).sys.mode = m ∧ (enterMode m cause (readyNow s)).sys.prevMode = .boot ∧
      (enterMode m cause (readyNow s)).sys.fwReady = true := by
  have hmode : (readyNow s).sys.mode = .boot := by rw [readyNow_sys]; exact hb
  rw [enterMode_sys (by rw [hmode]; exact hm.symm), entered_mode, entered_prevMode, entered_fwReady, hmode, readyNow_sys]
  exact ⟨rfl, rfl, rfl⟩

theorem bootDone_mode (h : bootDone s = true) : s.sys.mode = .boot := by
  simp only [bootDone, Bool.and_eq_true, beq_iff_eq] at h
  obtain ⟨⟨⟨⟨-, hmode⟩, -⟩, -⟩, -⟩ := h
  exact hmode

theorem firmwareReady_commissions (h : bootDone s = true) (hw : s.sys.warm = false)
    (hc : s.sys.configValid = false ∨ pget s Prm.SYS_START_MODE = 1) :
    exec .firmwareReady s = .next (enterMode .commission Cause.firmware (readyNow s)) := by
  show execFirmwareReady s = _
  rw [execFirmwareReady, if_neg (by simp [h, hw]), if_pos (by simpa using hc)]

theorem firmwareReady_stands (h : bootDone s = true) (hw : s.sys.warm = false) (hc : s.sys.configValid = true)
    (hst : pget s Prm.SYS_START_MODE ≠ 1) (ho : ∀ c, conducts s c = false) :
    exec .firmwareReady s = .next (enterMode .standby Cause.firmware (readyNow s)) := by
  show execFirmwareReady s = _
  rw [execFirmwareReady, if_neg (by simp [h, hw]), if_neg (by simp [hc, hst]), if_neg (by simp [ho])]

/-- The list of R49, with its conditions said of the channels. -/
theorem resumeMode_eq (s : State) :
    resumeMode s =
      if s.sys.keptMode = .commission ∨ s.sys.configValid = false then .commission
      else if s.sys.keptMode = .dormant then .standby
      else if s.bus.strobe = true ∨ s.mb.mains = false ∧ (∃ c, roleOf s c = .battery ∧ conducts s c = true) then .bridge
      else if s.mb.mains = true ∧ failsFloat s = true then .recharge
      else if anyIso s = true then .maintain
      else if ∃ c, conducts s c = true then .online
      else .standby := by
  have hbat : batteryConducts s = true ↔ ∃ c, roleOf s c = .battery ∧ conducts s c = true := by
    simp [batteryConducts, allCh]
  have hany : allCh.any (conducts s) = true ↔ ∃ c, conducts s c = true := by simp [allCh]
  unfold resumeMode resumeEarly
  simp only [Bool.not_eq_true', Bool.or_eq_true, Bool.and_eq_true, hbat, hany]
  by_cases h1 : s.sys.keptMode = .commission ∨ s.sys.configValid = false
  · simp [h1]
  · by_cases h2 : s.sys.keptMode = .dormant
    · simp only [if_neg h1, if_pos h2]
    · by_cases h3 : s.bus.strobe = true ∨ s.mb.mains = false ∧ ∃ c, roleOf s c = .battery ∧ conducts s c = true
      · simp only [if_neg h1, if_neg h2, if_pos h3]
      · simp only [if_neg h1, if_neg h2, if_neg h3]

theorem resumeMode_ne_boot (s : State) : resumeMode s ≠ .boot := by
  rw [resumeMode_eq]
  split_ifs <;> decide

/-- A resumption's own part after the entry of its mode touches no register of chapter 2. -/
theorem resume_sys (s : State) : (resume s).sys = (enterMode (resumeMode s) Cause.warm (readyNow s)).sys := by
  unfold resume
  extract_lets m strobe t
  split
  · rfl
  · split
    · rfl
    · rw [(show Same 4096 t (stepTo t.bus.stageEff t) by simp).part .sys rfl]

/-- The handshake of both Puppeteers after the self-test that it has run. -/
theorem tinSoldierHandshake_tests (h : awaitsHandshake s = true) (ha : s.sys.pupA.alive = true) (hb : s.sys.pupB.alive = true)
    (ht : s.sys.tested = false) :
    ∃ t, exec .tinSoldierHandshake s = .next t ∧
      t.sys = { s.sys with tested := true, bootStuck := (drawTest s).1.memFail || (drawTest s).1.handshakeFail } ∧
      (t.sys.bootStuck = true → t.tin.armed = s.tin.armed ∧ t.tin.window = s.tin.window ∧ t.tin.override = s.tin.override) ∧
      (t.sys.bootStuck = false → t.tin.armed = true ∧ t.tin.window = false ∧ t.tin.override = false ∧
        t.tin.token = true ∧ t.shb.live = true) := by
  have hsys := openTest_untested_sys ht
  cases hst : (openTest s).sys.bootStuck with
  | true => exact ⟨_, tinSoldierHandshake_stuck h ha hb hst, hsys, fun _ => openTest_tin s,
      fun hno => Bool.noConfusion (hst.symm.trans hno)⟩
  | false =>
    have hend : (reportCh s (handshake (openTest s))).sys = (openTest s).sys := by rw [reportCh_sys, handshake_sys]
    refine ⟨_, tinSoldierHandshake_arms h ha hb hst, hend.trans hsys, fun hyes => ?_, fun _ => reportCh_handshake_arms s _⟩
    rw [hend, hst] at hyes
    exact Bool.noConfusion hyes

/-- The handshake with the active Puppeteer alone, after the self-test where it has not run yet. -/
theorem simplexStartTimeout_ends (h : awaitsHandshake s = true) (ha : (s.sys.pup s.sys.active).alive = true)
    (hb : ((s.sys.pup (otherPup s.sys.active)).alive && (s.sys.pup (otherPup s.sys.active)).inStep) = false) :
    ∃ t, exec .simplexStartTimeout s = .next t ∧ t.sys.active = s.sys.active ∧ t.sys.failoverCount = s.sys.failoverCount ∧
      (s.sys.tested = true → t.sys.bootStuck = false) ∧
      (t.sys.bootStuck = true → t.tin.armed = s.tin.armed ∧ t.tin.window = s.tin.window) ∧
      (t.sys.bootStuck = false → t.tin.armed = true ∧ t.tin.window = false ∧ t.tin.token = true ∧
        t.sys.simplex = true ∧ (t.sys.pup (otherPup s.sys.active)).up = false) := by
  obtain ⟨harmed, hwin, -⟩ := openTest_tin s
  obtain ⟨hactive, hcount⟩ := openTest_kept s
  have hunstuck : s.sys.tested = true → (openTest s).sys.bootStuck = false := fun ht => by
    rw [openTest_tested ht, awaitsHandshake_unstuck h]
  have hrun := simplexStartTimeout_runs h ha hb
  cases hst : (openTest s).sys.bootStuck with
  | true =>
    rw [if_pos hst] at hrun
    exact ⟨_, hrun, hactive, hcount, hunstuck, fun _ => ⟨harmed, hwin⟩, fun hno => Bool.noConfusion (hst.symm.trans hno)⟩
  | false =>
    rw [if_neg (by simp [hst])] at hrun
    obtain ⟨ea, ec, eb, es, eu⟩ := simplex_handshake s (openTest s) (otherPup s.sys.active)
    obtain ⟨ta, tw, -, tt, -⟩ := reportCh_handshake_arms s (failPup (otherPup s.sys.active) (openTest s))
    exact ⟨_, hrun, ea.trans hactive, ec.trans hcount, fun ht => eb.trans (hunstuck ht),
      fun hyes => Bool.noConfusion (hyes.symm.trans (eb.trans hst)), fun _ => ⟨ta, tw, tt, es, eu⟩⟩

theorem resumption_resumes (h : bootDone s = true) (hw : s.sys.warm = true) (hm : awaitsMeans s = false) :
    exec .resumption s = .next (resume s) := if_pos (by simp [h, hw, hm])

/-- Settles O9: the handshakes and their self-test, the end of a cold BOOT, and the list of R49. -/
theorem aBootEndsInTheModeThatItsRuleNames : Obligations.ABootEndsInTheModeThatItsRuleNames := by
  refine fun s => ⟨fun h ha hb => ⟨fun ht => ?_, tinSoldierHandshake_tests h ha hb⟩, simplexStartTimeout_ends,
    fun h hw => ⟨fun hc => ?_, fun hc hst ho => ?_⟩, fun h hw => ⟨fun hm => ?_, fun hm => ?_⟩⟩
  · have hrun := tinSoldierHandshake_arms h ha hb (by rw [openTest_tested ht, awaitsHandshake_unstuck h])
    rw [openTest_tested ht] at hrun
    obtain ⟨harmed, hwin, hover, htoken, hlive⟩ := reportCh_handshake_arms s s
    exact ⟨_, hrun, harmed, hwin, hover, htoken, hlive, by rw [reportCh_sys, handshake_sys]⟩
  · exact ⟨_, firmwareReady_commissions h hw hc, enterMode_readyNow (bootDone_mode h) (by decide)⟩
  · exact ⟨_, firmwareReady_stands h hw hc hst ho, enterMode_readyNow (bootDone_mode h) (by decide)⟩
  · exact if_neg (by simp [hm])
  · obtain ⟨hmode, hprev, hready⟩ := enterMode_readyNow (cause := Cause.warm) (bootDone_mode h) (resumeMode_ne_boot s)
    refine ⟨_, resumption_resumes h hw hm, ?_⟩
    rw [resume_sys]
    exact ⟨hprev, hready, hmode.trans (resumeMode_eq s)⟩

end Sys2Proof.Machine
end

section
/-! What the machine keeps of the service port's registers while it tells the host, judges what waits, changes its mode and
starts: everything but the frames on the wire and the number of the takeover's request. And the interrupt bit that says that
the token has passed stands as it stood. One law for each operation, of the shape of the laws of `Same`. -/

namespace Sys2Proof.Machine

variable {s t u : State} {n : Mb} {keep : Bool}

/-- The service port's registers without the frames that wait on its line, and without the request of a takeover unless `keep`. -/
def Svc.rest (keep : Bool) (v : Svc) : Svc := { v with tx := [], op := if keep then v.op else none }

/-- H_IRQ_STATUS[9]: the active token has moved (Table 3.5). -/
def Link.failover (l : Link) : Bool := l.irqStatus.testBit Irq.FAILOVER

/-- Two states agree in the rest of the service port's registers, and in H_IRQ_STATUS[9]. -/
structure Quiet keep (s t : State) : Prop where
  svc : t.svc.rest keep = s.svc.rest keep
  irq : t.link.failover = s.link.failover

@[simp] theorem quiet_refl (s : State) : Quiet keep s s := ⟨rfl, rfl⟩

theorem Quiet.trans (h : Quiet keep s t) (k : Quiet keep t u) : Quiet keep s u := ⟨k.svc.trans h.svc, k.irq.trans h.irq⟩

theorem Quiet.symm (h : Quiet keep s t) : Quiet keep t s := ⟨h.svc.symm, h.irq.symm⟩

/-- The form in which `simp` peels an operation off. -/
theorem Quiet.peel (h : Quiet keep t u) : Quiet keep s u ↔ Quiet keep s t := ⟨fun x => x.trans h.symm, fun x => x.trans h⟩

theorem quiet_of_same (h : Same (2 ^ 33 - 1 - 2 ^ 26 - 2 ^ 6) t u) : Quiet keep s u ↔ Quiet keep s t :=
  Quiet.peel ⟨congrArg (Svc.rest keep) (h.part .svc rfl), congrArg Link.failover (h.part .link rfl)⟩

/-- An update of other parts alone. -/
@[simp ↓] theorem quiet_mk {a b c d e f g h i j k l m o p q r v w x y z a' b' c' d'} :
    Quiet keep s ⟨a, b, c, d, e, f, u.link, g, h, i, j, k, l, m, o, p, q, r, v, w, x, y, z, a', b', c', u.svc, d'⟩ ↔
      Quiet keep s u := Quiet.peel ⟨rfl, rfl⟩

@[simp ↓] theorem quiet_ite {c : Prop} [Decidable c] {a b : State} :
    Quiet keep s (if c then a else b) ↔ if c then Quiet keep s a else Quiet keep s b := by split <;> rfl

@[simp ↓] theorem forEach_quiet {α : Type} {f : α → State → State} (l : List α) (k : ∀ a v, Quiet keep s (f a v) ↔ Quiet keep s v) :
    
    Quiet keep s (forEach l f u) ↔ Quiet keep s u := by
  induction l generalizing u with
  | nil => rfl
  | cons a l ih => rw [forEach, ih, k]

/-! ### Interrupt bits -/

theorem setIrq_quiet {k : Nat} (h : k ≠ Irq.FAILOVER) : Quiet keep s (setIrq k u) ↔ Quiet keep s u := by
  refine Quiet.peel ⟨rfl, ?_⟩
  show (u.link.irqStatus ||| 2 ^ k).testBit Irq.FAILOVER = _
  rw [Nat.testBit_or, Nat.testBit_two_pow_of_ne h, Bool.or_false]
  rfl

@[simp ↓] theorem setDbOut_quiet (n : Mb) (u : State) : Quiet keep s (setDbOut n u) ↔ Quiet keep s u := by
  unfold setDbOut
  split
  · rfl
  · rw [setIrq_quiet (by decide)]
    exact Quiet.peel ⟨rfl, rfl⟩

@[simp ↓] theorem setCollide_quiet (k : Nat) (u : State) : Quiet keep s (setCollide k u) ↔ Quiet keep s u := by
  unfold setCollide
  split
  · rfl
  · rw [setIrq_quiet (by decide)]
    exact Quiet.peel ⟨rfl, rfl⟩

/-! ### Messages and notifications (R94, R97, R112, R113) -/

@[simp ↓] theorem elapseTo_quiet (d : Nat) (u : State) : Quiet keep s (elapseTo d u) ↔ Quiet keep s u := quiet_of_same (by simp)
@[simp ↓] theorem idle_quiet (u : State) : Quiet keep s (idle u) ↔ Quiet keep s u := quiet_of_same (by simp)
@[simp ↓] theorem collect_quiet (code obj sev reason : Nat) (data : List Nat) (u : State) :
    Quiet keep s (collect code obj sev reason data u) ↔ Quiet keep s u := quiet_of_same (by simp)
@[simp ↓] theorem dropRecord_quiet (code obj sev : Nat) (data : List Nat) (u : State) :
    Quiet keep s (dropRecord code obj sev data u) ↔ Quiet keep s u := quiet_of_same (by simp)
@[simp ↓] theorem countPair_quiet (code obj : Nat) (u : State) :
    Quiet keep s (countPair code obj u) ↔ Quiet keep s u := quiet_of_same (by simp)

@[simp ↓] theorem putSes_quiet (n : Mb) (x : Option Session) (u : State) :
    Quiet keep s (putSes n x u) ↔ Quiet keep s u := Quiet.peel ⟨rfl, rfl⟩

@[simp ↓] theorem modTag_quiet (id : Nat) (f : TagEnt → TagEnt) (u : State) :
    Quiet keep s (modTag id f u) ↔ Quiet keep s u := Quiet.peel ⟨rfl, rfl⟩

@[simp ↓] theorem begin_quiet (id : Nat) (u : State) : Quiet keep s (begin_ id u) ↔ Quiet keep s u := Quiet.peel ⟨rfl, rfl⟩

@[simp ↓] theorem modCh_quiet (c : Ch) (f : Chan → Chan) (u : State) :
    Quiet keep s (modCh c f u) ↔ Quiet keep s u := Quiet.peel ⟨rfl, rfl⟩

@[simp ↓] theorem modGrp_quiet (g : Grp) (f : Group → Group) (u : State) :
    Quiet keep s (modGrp g f u) ↔ Quiet keep s u := Quiet.peel ⟨rfl, rfl⟩

@[simp ↓] theorem putMsg_quiet (n : Mb) (msg : List Word) (u : State) : Quiet keep s (putMsg n msg u) ↔ Quiet keep s u := by
  unfold putMsg
  split
  · rw [setDbOut_quiet]
    exact Quiet.peel ⟨rfl, rfl⟩
  · simp

@[simp ↓] theorem placeAll_quiet (n : Mb) (l : List (List Word)) (u : State) :
    Quiet keep s (placeAll n l u).2 ↔ Quiet keep s u := by
  induction l generalizing u with
  | nil => rfl
  | cons a l ih =>
    unfold placeAll
    split
    · rw [ih, putMsg_quiet]
    · rfl

@[simp ↓] theorem flushTags_quiet (n : Mb) (ord : Bool) (l : List TagEnt) (u : State) :
    Quiet keep s (flushTags n ord l u).2 ↔ Quiet keep s u := by
  induction l generalizing u with
  | nil => rfl
  | cons e l ih =>
    unfold flushTags
    dsimp only
    split_ifs <;> simp [ih]

@[simp ↓] theorem flushOut_quiet (n : Mb) (u : State) : Quiet keep s (flushOut n u) ↔ Quiet keep s u := by simp [flushOut]

@[simp ↓] theorem placeLost_quiet (n : Mb) (u : State) : Quiet keep s (placeLost n u) ↔ Quiet keep s u := by
  unfold placeLost
  split <;> simp

@[simp ↓] theorem placeHeldMode_quiet (n : Mb) (u : State) : Quiet keep s (placeHeldMode n u) ↔ Quiet keep s u := by
  unfold placeHeldMode
  split
  · rfl
  · split <;> simp

@[simp ↓] theorem placeHeldCh_quiet (n : Mb) (u : State) : Quiet keep s (placeHeldCh n u) ↔ Quiet keep s u := by
  unfold placeHeldCh
  split
  · rfl
  · split <;> simp

@[simp ↓] theorem ntfFlush_quiet (n : Mb) (u : State) : Quiet keep s (ntfFlush n u) ↔ Quiet keep s u := by simp [ntfFlush]

@[simp ↓] theorem ntfMiss_quiet (n : Mb) (op : Nat) (msg : List Word) (x : Session) (u : State) :
    Quiet keep s (ntfMiss n op msg x u) ↔ Quiet keep s u := by
  unfold ntfMiss
  simp

@[simp ↓] theorem notifyTo_quiet (op : Nat) (body : List Word) (n : Mb) (u : State) :
    Quiet keep s (notifyTo op body n u) ↔ Quiet keep s u := by
  unfold notifyTo
  split
  · rfl
  · extract_lets v
    split <;> simp [v]

@[simp ↓] theorem notifyAll_quiet (op : Nat) (body : List Word) (u : State) :
    Quiet keep s (notifyAll op body u) ↔ Quiet keep s u := by
  simp [notifyAll]

@[simp ↓] theorem finish_quiet (e : TagEnt) (st : Nat) (body : List Word) (u : State) :
    Quiet keep s (finish e st body u) ↔ Quiet keep s u := by simp [finish]

@[simp ↓] theorem settleSession_quiet (n : Mb) (u : State) : Quiet keep s (settleSession n u) ↔ Quiet keep s u := by
  unfold settleSession
  split
  · rfl
  · split
    · rfl
    · extract_lets _ v w
      have hw : Quiet keep s w ↔ Quiet keep s u := by
        unfold w
        split <;> simp [v]
      split
      · split
        · rw [notifyTo_quiet, hw]
        · exact hw
      · exact hw

@[simp ↓] theorem complete_quiet (id st : Nat) (body : List Word) (u : State) :
    Quiet keep s (complete id st body u) ↔ Quiet keep s u := by
  unfold complete
  split <;> simp

@[simp ↓] theorem interim_quiet (id st : Nat) (body : List Word) (u : State) :
    Quiet keep s (interim id st body u) ↔ Quiet keep s u := by
  unfold interim
  split <;> simp

@[simp ↓] theorem reportCh_quiet (old u : State) : Quiet keep s (reportCh old u) ↔ Quiet keep s u := by
  unfold reportCh
  simp [setIrq_quiet (show Irq.FAULT ≠ Irq.FAILOVER by decide)]

/-! ### Event records (R492 to R499) -/

@[simp ↓] theorem makeRoom_quiet (sev need fuel : Nat) (u : State) : Quiet keep s (makeRoom sev need fuel u) ↔ Quiet keep s u :=
  quiet_of_same (by simp)

@[simp ↓] theorem appendFrame_quiet (code sev obj : Nat) (data : List Nat) (u : State) :
    Quiet keep s (appendFrame code sev obj data u) ↔ Quiet keep s u := by
  unfold appendFrame
  simp [setIrq_quiet (show Irq.EVENT ≠ Irq.FAILOVER by decide)]

@[simp ↓] theorem enterRecord_quiet (code sev obj : Nat) (data : List Nat) (u : State) :
    Quiet keep s (enterRecord code sev obj data u) ↔ Quiet keep s u := by
  unfold enterRecord
  simp

@[simp ↓] theorem enterSummary_quiet (x : Summ) (u : State) :
    Quiet keep s (enterSummary x u) ↔ Quiet keep s u := by simp [enterSummary]

@[simp ↓] theorem syncWindow_quiet (u : State) : Quiet keep s (syncWindow u) ↔ Quiet keep s u := by simp [syncWindow, endWindow]

@[simp ↓] theorem logEvent_quiet (code sev obj : Nat) (data : List Nat) (u : State) :
    Quiet keep s (logEvent code sev obj data u) ↔ Quiet keep s u := by
  unfold logEvent
  simp

@[simp ↓] theorem settleLine_quiet (l : Line) (u : State) : Quiet keep s (settleLine l u) ↔ Quiet keep s u := by
  unfold settleLine
  simp

@[simp ↓] theorem settleLines_quiet (u : State) : Quiet keep s (settleLines u) ↔ Quiet keep s u := by simp [settleLines]

@[simp ↓] theorem passTo_quiet (d : Nat) (u : State) : Quiet keep s (passTo d u) ↔ Quiet keep s u := by simp [passTo]

end Sys2Proof.Machine
end

section
/-! The arbiter, the channels' openings and the changes of mode, in the same shape. -/

namespace Sys2Proof.Machine

variable {s u : State} {keep : Bool}

@[simp ↓] theorem putF_quiet (id : Nat) (v : Int) (u : State) : Quiet false s (putF id v u) ↔ Quiet false s u :=
  quiet_of_same (by simp)

@[simp ↓] theorem queueWrite_quiet (rtype inst : Nat) (u : State) : Quiet false s (queueWrite rtype inst u) ↔ Quiet false s u :=
  quiet_of_same (by simp)

@[simp ↓] theorem setProbe_quiet (c : Ch) (u : State) :
    Quiet false s (setProbe c u) ↔ Quiet false s u := quiet_of_same (by simp)

@[simp ↓] theorem putGrant_quiet (c : Ch) (g : Option (Nat × Nat)) (u : State) :
    Quiet false s (putGrant c g u) ↔ Quiet false s u :=
  quiet_of_same (by simp)

@[simp ↓] theorem putOff_quiet (a : ChAct) (c : Ch) (u : State) : Quiet false s (putOff a c u) ↔ Quiet false s u :=
  quiet_of_same (by simp)

@[simp ↓] theorem unwait_quiet (c : Ch) (u : State) : Quiet false s (unwait c u) ↔ Quiet false s u := quiet_of_same (by simp)

@[simp ↓] theorem beginTest_quiet (o : Op) (u : State) : Quiet false s (beginTest o u) ↔ Quiet false s u :=
  quiet_of_same (by simp)

@[simp ↓] theorem waitNow_quiet (c : Ch) (u : State) : Quiet false s (waitNow c u) ↔ Quiet false s u := quiet_of_same (by simp)

@[simp ↓] theorem sendFrame_quiet (prio type dst gen : Nat) (rest : List Nat) (u : State) :
    Quiet keep s (sendFrame prio type dst gen rest u) ↔ Quiet keep s u :=
  quiet_of_same (by simp)

@[simp ↓] theorem liftAll_quiet (u : State) : Quiet false s (liftAll u) ↔ Quiet false s u := quiet_of_same (by simp)

@[simp ↓] theorem gainDiff_quiet (u : State) : Quiet false s (gainDiff u) ↔ Quiet false s u := quiet_of_same (by simp)

@[simp ↓] theorem seqHook_quiet (k : Grp) (e : Fin 32) (w : Nat) (u : State) :
    Quiet false s (seqHook k e w u) ↔ Quiet false s u :=
  quiet_of_same (by simp)

@[simp ↓] theorem slotsHook_quiet (g : Fin 48) (w : Nat) (u : State) : Quiet false s (slotsHook g w u) ↔ Quiet false s u :=
  quiet_of_same (by simp)

@[simp ↓] theorem dropCoef_quiet (c : Ch) (u : State) :
    Quiet false s (dropCoef c u) ↔ Quiet false s u := quiet_of_same (by simp)

@[simp ↓] theorem bindHook_quiet (c : Ch) (u : State) :
    Quiet false s (bindHook c u) ↔ Quiet false s u := quiet_of_same (by simp)

@[simp ↓] theorem modHook_quiet (k : Str) (u : State) : Quiet false s (modHook k u) ↔ Quiet false s u := quiet_of_same (by simp)

@[simp ↓] theorem ntcEnable_quiet (old new : Nat) (u : State) : Quiet false s (ntcEnable old new u) ↔ Quiet false s u :=
  quiet_of_same (by simp)

@[simp ↓] theorem chemHook_quiet (k : Str) (u : State) :
    Quiet false s (chemHook k u) ↔ Quiet false s u := quiet_of_same (by simp)

@[simp ↓] theorem refreshGen_quiet (u : State) : Quiet keep s (refreshGen u) ↔ Quiet keep s u := quiet_of_same (by simp)

@[simp ↓] theorem refreshClock_quiet (u : State) : Quiet keep s (refreshClock u) ↔ Quiet keep s u := quiet_of_same (by simp)

@[simp ↓] theorem sendStatus_quiet (u : State) : Quiet keep s (sendStatus u) ↔ Quiet keep s u := quiet_of_same (by simp)

@[simp ↓] theorem driveOutputs_quiet (u : State) : Quiet false s (driveOutputs u) ↔ Quiet false s u := quiet_of_same (by simp)

@[simp ↓] theorem liftLimits_quiet (u : State) : Quiet false s (liftLimits u) ↔ Quiet false s u := quiet_of_same (by simp)

@[simp ↓] theorem calCaptureLost_quiet (u : State) :
    Quiet false s (calCaptureLost u) ↔ Quiet false s u := quiet_of_same (by simp)

@[simp ↓] theorem leaveMode_quiet (old m : Mode) (u : State) : Quiet false s (leaveMode old m u) ↔ Quiet false s u :=
  quiet_of_same (by simp)

/-! ### The arbiter (R402, R408 to R415) -/

@[simp ↓] theorem svcReply_quiet (type seq st : Nat) (payload : List Nat) (u : State) :
    Quiet keep s (svcReply type seq st payload u) ↔ Quiet keep s u := by
  exact Quiet.peel ⟨rfl, rfl⟩

@[simp ↓] theorem decide_quiet (o : Op) (budget dec : Nat) (u : State) :
    Quiet keep s (decide_ o budget dec u) ↔ Quiet keep s u := by
  unfold decide_
  simp [setIrq_quiet (show Irq.ADMIT ≠ Irq.FAILOVER by decide)]

@[simp ↓] theorem ntfAdmit_quiet (o : Op) (budget : Nat) (u : State) : Quiet keep s (ntfAdmit o budget u) ↔ Quiet keep s u := by
  unfold ntfAdmit
  split <;> simp

/-- Only the request of a takeover answers whoever asked for it (R528). -/
theorem opComplete_quiet {o : Op} (h : o.code ≠ Opn.HANDOVER) (st budget : Nat) (more : List Word) :
    Quiet false s (opComplete o st budget more u) ↔ Quiet false s u := by
  unfold opComplete
  rw [if_neg h]
  split <;> simp

@[simp ↓] theorem startOp_quiet (o : Op) (mc : Nat) (u : State) : Quiet false s (startOp o mc u) ↔ Quiet false s u := by
  unfold startOp
  split
  · split <;> simp
  · split <;> simp
  · simp
  · simp
  · split <;> simp
  · simp
  · simp
  · exact Quiet.peel ⟨rfl, rfl⟩
  · rfl

@[simp ↓] theorem grantOp_quiet (o : Op) (mc : Nat) (queued : Bool) (u : State) :
    Quiet false s (grantOp o mc queued u) ↔ Quiet false s u := by
  unfold grantOp
  extract_lets p _ v d e f
  have he : Quiet false s e ↔ Quiet false s u := by
    unfold e
    split <;> simp [d, v]
  simp [f, he]

@[simp ↓] theorem dropOp_quiet (o : Op) (u : State) : Quiet false s (dropOp o u) ↔ Quiet false s u := by
  unfold dropOp
  split
  · split <;> simp
  · split <;> simp
  · exact Quiet.peel ⟨rfl, rfl⟩
  · rfl

@[simp ↓] theorem failEvent_quiet (o : Op) (budget : Nat) (u : State) :
    Quiet keep s (failEvent o budget u) ↔ Quiet keep s u := by
  unfold failEvent
  simp

theorem refuseOp_quiet {o : Op} (h : o.code ≠ Opn.HANDOVER) (budget : Nat) :
    Quiet false s (refuseOp o budget u) ↔ Quiet false s u := by
  simp [refuseOp, opComplete_quiet h]

@[simp ↓] theorem queueOp_quiet (o : Op) (budget : Nat) (u : State) : Quiet false s (queueOp o budget u) ↔ Quiet false s u := by
  unfold queueOp
  extract_lets p _ v d
  have hd : Quiet false s d ↔ Quiet false s u := by simp [d, v]
  split <;> simp [hd]

theorem fileOp_quiet {o : Op} (h : o.code ≠ Opn.HANDOVER) : Quiet false s (fileOp o u) ↔ Quiet false s u := by
  unfold fileOp
  extract_lets p _ v
  have hp : p.code ≠ Opn.HANDOVER := h
  split
  · simp [refuseOp_quiet hp, v]
  · simp [v]
  · simp [refuseOp_quiet hp, v]

@[simp ↓] theorem rejudgeList_quiet (l : List Op) (blocked : List Nat) (u : State) :
    Quiet false s (rejudgeList l blocked u) ↔ Quiet false s u := by
  induction l generalizing blocked u with
  | nil => rfl
  | cons o l ih =>
    unfold rejudgeList
    split
    · split <;> simp [ih]
    · rw [ih]

@[simp ↓] theorem rejudge_quiet (u : State) : Quiet false s (rejudge u) ↔ Quiet false s u := by
  simp [rejudge]

@[simp ↓] theorem returnOp_quiet (id : Nat) (u : State) : Quiet false s (returnOp id u) ↔ Quiet false s u := by
  simp [returnOp]

theorem withdrawOp_quiet {o : Op} (h : o.code ≠ Opn.HANDOVER) (dec : Nat) :
    Quiet false s (withdrawOp o dec u) ↔ Quiet false s u := by
  unfold withdrawOp
  extract_lets _ v d e f
  have hf : Quiet false s f ↔ Quiet false s u := by
    unfold f
    split <;> simp [e, d, v]
  simp [opComplete_quiet h, hf]

/-! ### The channels -/

/-- What a channel has queued, or holds as its token, is an inrush or a FET test. -/
theorem chOp_code {o : Op} {c : Ch} {l : List Op}
    (h : l.find? (fun o => o.ch == some c && (o.code == Opn.INRUSH || o.code == Opn.FET_TEST)) = some o) :
    o.code ≠ Opn.HANDOVER := by
  have hp := List.find?_some h
  simp only [Bool.and_eq_true, Bool.or_eq_true, beq_iff_eq] at hp
  rcases hp.2 with e | e <;> rw [e] <;> decide

@[simp ↓] theorem withdrawCh_quiet (c : Ch) (dec : Nat) (u : State) : Quiet false s (withdrawCh c dec u) ↔ Quiet false s u := by
  unfold withdrawCh
  extract_lets v
  have hv : Quiet false s v ↔ Quiet false s u := by
    unfold v
    split
    · next h => exact withdrawOp_quiet (chOp_code h) dec
    · rfl
  split
  · next h => simp [withdrawOp_quiet (chOp_code h), hv]
  · exact hv

@[simp ↓] theorem fileInrush_quiet (c : Ch) (f : Filer) (tag : Option Nat) (u : State) :
    Quiet false s (fileInrush c f tag u) ↔ Quiet false s u := by
  unfold fileInrush
  extract_lets o v
  have ho : o.code ≠ Opn.HANDOVER := show Opn.INRUSH ≠ Opn.HANDOVER by decide
  simp [refuseOp_quiet ho, fileOp_quiet ho, v]

@[simp ↓] theorem autoFile_quiet (c : Ch) (u : State) : Quiet false s (autoFile c u) ↔ Quiet false s u := by
  simp [autoFile]

@[simp ↓] theorem autoFileAll_quiet (u : State) : Quiet false s (autoFileAll u) ↔ Quiet false s u := by
  simp [autoFileAll]

@[simp ↓] theorem noteLowDev_quiet (c : Ch) (u : State) : Quiet false s (noteLowDev c u) ↔ Quiet false s u := by
  simp [noteLowDev]

@[simp ↓] theorem endTest_quiet (outcome learned : Nat) (u : State) :
    Quiet false s (endTest outcome learned u) ↔ Quiet false s u := by
  unfold endTest
  split
  · rfl
  · extract_lets w st sev obj _ v v1 v2 v3 v4 v5
    have h3 : Quiet false s v3 ↔ Quiet false s u := by
      unfold v3
      split <;> simp [v2, v1, v]
    simp [v5, v4, h3]

@[simp ↓] theorem endTestOf_quiet (c : Ch) (u : State) : Quiet false s (endTestOf c u) ↔ Quiet false s u := by
  unfold endTestOf
  split <;> simp

@[simp ↓] theorem leaveSet_quiet (c : Ch) (u : State) : Quiet false s (leaveSet c u) ↔ Quiet false s u := by
  unfold leaveSet
  split
  · rfl
  · extract_lets ops _ v
    split
    · next o h =>
      have hmem := List.mem_filter.1 (List.mem_of_mem_head? h)
      have hcode : o.code ≠ Opn.HANDOVER := by
        have hp := hmem.2
        simp only [Bool.and_eq_true, beq_iff_eq] at hp
        rw [hp.1]
        decide
      simp [withdrawOp_quiet hcode, v]
    · simp [v]

@[simp ↓] theorem endRestores_quiet (u : State) : Quiet false s (endRestores u) ↔ Quiet false s u := by
  unfold endRestores
  split <;> simp

@[simp ↓] theorem endInrush_quiet (c : Ch) (ok : Bool) (u : State) : Quiet false s (endInrush c ok u) ↔ Quiet false s u := by
  unfold endInrush
  split
  · rfl
  · extract_lets x w far op v drop id _ v1 st v2
    have h2 : Quiet false s v2 ↔ Quiet false s u := by
      unfold v2
      split <;> simp [v1, v]
    simp [h2]

@[simp ↓] theorem openTo_quiet (c : Ch) (st : ChSt) (g : Gate) (u : State) :
    Quiet false s (openTo c st g u) ↔ Quiet false s u := by
  simp [openTo]

@[simp ↓] theorem shutCh_quiet (c : Ch) (st : ChSt) (g : Gate) (u : State) :
    Quiet false s (shutCh c st g u) ↔ Quiet false s u := by
  simp [shutCh]

@[simp ↓] theorem cancelWait_quiet (c : Ch) (dec : Nat) (u : State) : Quiet false s (cancelWait c dec u) ↔ Quiet false s u := by
  simp [cancelWait]

@[simp ↓] theorem sheetDiff_quiet (u : State) : Quiet false s (sheetDiff u) ↔ Quiet false s u := by
  simp [sheetDiff]

@[simp ↓] theorem roleNow_quiet (c : Ch) (u : State) : Quiet false s (roleNow c u) ↔ Quiet false s u := by
  unfold roleNow
  simp

@[simp ↓] theorem roleHook_quiet (c : Ch) (u : State) : Quiet false s (roleHook c u) ↔ Quiet false s u := by
  simp [roleHook]

@[simp ↓] theorem trefHook_quiet (c : Ch) (u : State) : Quiet false s (trefHook c u) ↔ Quiet false s u := by
  unfold trefHook
  split <;> simp

@[simp ↓] theorem chHook_quiet (c : Ch) (off : Nat) (u : State) : Quiet false s (chHook c off u) ↔ Quiet false s u := by
  unfold chHook
  simp

@[simp ↓] theorem forceHook_quiet (id : Nat) (u : State) : Quiet false s (forceHook id u) ↔ Quiet false s u := by
  unfold forceHook
  split
  · simp
  · split_ifs <;> simp

@[simp ↓] theorem takeForce_quiet (id : Nat) (u : State) : Quiet false s (takeForce id u) ↔ Quiet false s u := by
  unfold takeForce
  simp

@[simp ↓] theorem forceAll_quiet (e : PEff) (u : State) : Quiet false s (forceAll e u) ↔ Quiet false s u := by
  unfold forceAll
  simp

/-! ### The modes -/

@[simp ↓] theorem refreshLow_quiet (u : State) : Quiet false s (refreshLow u) ↔ Quiet false s u := by
  simp [refreshLow]

@[simp ↓] theorem refreshPeers_quiet (u : State) : Quiet false s (refreshPeers u) ↔ Quiet false s u := by
  simp [refreshPeers]

@[simp ↓] theorem putPeer_quiet (k : Fin 8) (f : Peer → Peer) (u : State) :
    Quiet false s (putPeer k f u) ↔ Quiet false s u := by
  unfold putPeer
  simp [setIrq_quiet (show Irq.SHB ≠ Irq.FAILOVER by decide)]

@[simp ↓] theorem sendAnnounce_quiet (u : State) : Quiet false s (sendAnnounce u) ↔ Quiet false s u := by
  unfold sendAnnounce
  simp

@[simp ↓] theorem endPeak_quiet (withdrawn : Bool) (u : State) : Quiet false s (endPeak withdrawn u) ↔ Quiet false s u := by
  unfold endPeak
  split
  · rfl
  · extract_lets op _ v
    clear_value op
    cases op <;> simp [v]

@[simp ↓] theorem openAll_quiet (u : State) : Quiet false s (openAll u) ↔ Quiet false s u := by
  simp [openAll]

@[simp ↓] theorem openTests_quiet (u : State) : Quiet false s (openTests u) ↔ Quiet false s u := by
  simp [openTests]

@[simp ↓] theorem fileWalkin_quiet (c : Ch) (u : State) : Quiet false s (fileWalkin c u) ↔ Quiet false s u := by
  unfold fileWalkin
  split
  · exact fileOp_quiet (show Opn.WALKIN ≠ Opn.HANDOVER by decide)
  · rfl

@[simp ↓] theorem fileWalkins_quiet (u : State) : Quiet false s (fileWalkins u) ↔ Quiet false s u := by
  simp [fileWalkins]

@[simp ↓] theorem dropDormant_quiet (m : Mode) (u : State) : Quiet false s (dropDormant m u) ↔ Quiet false s u := by
  unfold dropDormant
  split
  · rfl
  · extract_lets tag _ v
    clear_value tag
    cases tag <;> simp [v]

@[simp ↓] theorem dropStandby_quiet (m : Mode) (u : State) : Quiet false s (dropStandby m u) ↔ Quiet false s u := by
  unfold dropStandby
  split <;> simp

@[simp ↓] theorem changeMode_quiet (m : Mode) (cause : Nat) (u : State) :
    Quiet false s (changeMode m cause u) ↔ Quiet false s u := by
  unfold changeMode
  simp [setIrq_quiet (show Irq.MODE_CHG ≠ Irq.FAILOVER by decide)]

@[simp ↓] theorem beforeMode_quiet (m : Mode) (u : State) : Quiet false s (beforeMode m u) ↔ Quiet false s u := by
  simp [beforeMode]

@[simp ↓] theorem enterMode_quiet (m : Mode) (cause : Nat) (u : State) :
    Quiet false s (enterMode m cause u) ↔ Quiet false s u := by
  simp [enterMode]

end Sys2Proof.Machine
end

section
/-! A command that the firmware takes under `Calm`: what it hands to the operation, and what its completion places. -/

namespace Sys2Proof.Machine

variable {s t u : State} {n : Mb} {op tag st : Nat} {body : List Word} {e : TagEnt}

/-! ### The taking of a command (R91, R96, R100) -/

/-- The command as `runCmd` hands it to its operation. -/
def calmCmd (n : Mb) (tag : Nat) (body : List Word) (s : State) : Cmd :=
  { id := s.deolo.nextId, chan := n, tag := tag, tagOk := true, body := body }

/-- The state with the command taken off its queue and entered in the tag table. -/
def calmTaken (n : Mb) (op tag : Nat) (body : List Word) (s : State) : State :=
  enterTag n tag op false (dequeue n (body.length + 1) s)

theorem recoveryAnswers_no (h : s.sys.mode ≠ .recovery) : recoveryAnswers s = false := by simp [recoveryAnswers, h]

theorem tagRoom_free (h : s.deolo.tags = []) : tagRoom s n = some false := by
  have hmax : 16 < inflightMax s := by unfold inflightMax; split <;> decide
  simp [tagRoom, h, hmax]

theorem tagInFlight_free (h : s.deolo.tags = []) : tagInFlight s n tag = false := by
  unfold tagInFlight
  split <;> simp [h]

/-- Under `Calm` the firmware takes the command and its operation carries it out. -/
theorem runCmd_calm {sel : Nat → List Word → Bool} {act : Cmd → State → State} (h : Calm n op tag body s)
    (hg : sessionGate s n op = none) (hsel : sel op body = true) :
    runCmd n sel act s = act (calmCmd n tag body s) (calmTaken n op tag body s) := by
  obtain ⟨w, hw, hop, htag, hcls, hst⟩ := h.head
  have hrec := recoveryAnswers_no h.mode
  have hn : n ≠ 15 := fun e => absurd (e ▸ h.chan) (by decide)
  have hok : (!oldSession s n || decide (tag ≤ 63)) = true := by
    cases ho : oldSession s n with
    | false => rfl
    | true => simpa [ho] using h.range ho
  unfold runCmd
  rw [hw]
  simp only [hop, htag, hcls, hst, hsel, hn, hrec, h.up, h.takes, h.idle, tagRoom_free h.free, tagInFlight_free h.free, hg, hok]
  simp [calmCmd, calmTaken]

theorem runOp_calm {act : Cmd → State → State} (h : Calm n op tag body s) (hg : sessionGate s n op = none) :
    runOp n op act s = act (calmCmd n tag body s) (calmTaken n op tag body s) := runCmd_calm h hg (by simp)

/-- A command that looks at the bridge strobe first, with none latched. -/
theorem runOp_strobeFirst_calm {act : Cmd → State → State} (h : Calm n op tag body s) (hg : sessionGate s n op = none)
    (hst : s.bus.strobe = false) :
    runOp n op (strobeFirst act) s = act (calmCmd n tag body s) (calmTaken n op tag body s) := by
  rw [runOp_calm h hg, strobeFirst, takeStrobe_idle (s := calmTaken n op tag body s) hst]

theorem calmTaken_frame (n : Mb) (op tag : Nat) (body : List Word) (s : State) : Same 640 s (calmTaken n op tag body s) := by
  simp [calmTaken]

/-! ### Its completion (R94, R97, R98) -/

/-- One command is in hand, of a channel with an empty queue: its entry is the only one, and nothing of it waits. -/
structure InHand (e : TagEnt) (s : State) : Prop where
  tags : s.deolo.tags = [e]
  done : e.done = false
  out : e.out = []
  left : e.left = none
  chan : e.chan.val < 14
  up : domainDown s e.chan = false
  idle : s.deolo.sesDue.get e.chan = none
  empty : (s.outq.get e.chan).words = []

/-- The entry of the tag table under which a command stands. -/
def calmEntry (n : Mb) (op tag : Nat) (s : State) : TagEnt :=
  { id := s.deolo.nextId, chan := n, tag := tag, op := op, heldBack := false, begun := false, done := false, out := [], left := none }

theorem domainDown_congr (hs : t.sys = s.sys) (hv : t.svc = s.svc) : domainDown t n = domainDown s n := by
  simp [domainDown, supervisionDown, anyPup, hs, hv]

theorem inHand_calmTaken (h : Calm n op tag body s) : InHand (calmEntry n op tag s) (calmTaken n op tag body s) where
  tags := by
    show s.deolo.tags ++ [_] = _
    rw [h.free]
    rfl
  done := rfl
  out := rfl
  left := rfl
  chan := h.chan
  up := (domainDown_congr rfl rfl).trans h.up
  idle := h.idle
  empty := h.empty

theorem putMsg_words {msg : List Word} (hn : n.val < 14) :
    ((putMsg n msg s).outq.get n).words = (s.outq.get n).words ++ msg := by
  have hq : (putMsg n msg s).outq = vmod s.outq n fun q => { q with words := q.words ++ msg } := by
    unfold putMsg
    rw [if_neg (by omega)]
    exact (show Same 64 _ (setDbOut n { s with outq := vmod s.outq n fun q => { q with words := q.words ++ msg } }) from
      (setDbOut_same rfl).2 (same_refl _ _)).part .outq rfl
  rw [hq, vmod_get_same]

theorem putMsg_frame {msg : List Word} (hn : n.val < 14) : Same (2 ^ 6 + 2 ^ 8) s (putMsg n msg s) := by
  unfold putMsg
  rw [if_neg (by omega)]
  exact (setDbOut_same rfl).2 ((same_outq rfl).2 (same_refl _ _))

/-- The only entry of the table, done, with one message that fits: the message is placed. -/
theorem flushOut_one {msg : List Word} (ht : s.deolo.tags = [e]) (hd : e.done = true) (ho : e.out = [msg]) (hl : e.left = none)
    (hn : e.chan.val < 14) (hfit : msg.length ≤ roomOut s e.chan) :
    ∃ l, flushOut e.chan s =
      { putMsg e.chan msg s with deolo := { (putMsg e.chan msg s).deolo with tags := l } } := by
  have hplace : placeAll e.chan e.out s = ([], putMsg e.chan msg s) := by simp [ho, placeAll, hfit]
  have hflush : ∃ l, flushTags e.chan (ordered s e.chan) [e] s = (l, putMsg e.chan msg s) := by
    rw [flushTags]
    simp only [hl, hplace, hd, flushTags]
    simp [show e.chan.val ≠ 14 by omega]
  obtain ⟨l, hl⟩ := hflush
  exact ⟨l, by rw [flushOut, ht, hl]⟩

/-- What a completion in hand leaves: its message in the queue of its channel, and no other part of the machine touched. -/
theorem complete_inHand (h : InHand e s) (hlen : body.length < 64) :
    ((complete e.id st body s).outq.get e.chan).words = message e.op e.tag 1 st body ∧
      Same (2 ^ 6 + 2 ^ 8 + 2 ^ 9) s (complete e.id st body s) := by
  let msg := message e.op e.tag 1 st body
  let f := fun (e : TagEnt) => { e with done := true, out := e.out ++ [message e.op e.tag 1 st body] }
  let u := modTag e.id f s
  have hentry : entry? s e.id = some e := by simp [entry?, h.tags]
  have htags : u.deolo.tags = [f e] := by
    show s.deolo.tags.map _ = _
    simp [h.tags]
  have hfit : msg.length ≤ roomOut u e.chan := by
    show body.length + 1 ≤ 64 - (s.outq.get e.chan).words.length
    rw [h.empty]
    exact hlen
  obtain ⟨l, hl⟩ := flushOut_one (e := f e) (msg := msg) htags rfl (by simp [f, h.out, msg]) h.left h.chan hfit
  have hput := putMsg_frame (s := u) (msg := msg) h.chan
  have hc : complete e.id st body s =
      settleSession e.chan { putMsg e.chan msg u with deolo := { (putMsg e.chan msg u).deolo with tags := l } } := by
    rw [complete, hentry]
    simp only [h.done, h.up]
    exact congrArg (settleSession e.chan) hl
  have hidle : ({ putMsg e.chan msg u with deolo := { (putMsg e.chan msg u).deolo with tags := l } } : State).deolo.sesDue.get e.chan
      = none := (congrArg (fun d : Deolo => d.sesDue.get e.chan) (hput.part .deolo rfl)).trans h.idle
  rw [hc, settleSession, hidle]
  have hu : Same (2 ^ 6 + 2 ^ 8 + 2 ^ 9) s u := (modTag_same rfl).2 (same_refl _ _)
  refine ⟨?_, (same_deolo rfl).2 (hu.trans (hput.mono rfl))⟩
  exact (putMsg_words h.chan).trans (by rw [show (u.outq.get e.chan).words = [] from h.empty]; rfl)

end Sys2Proof.Machine
end

section
/-! The obligation on the host's changes of mode, its isolations, and its commands to groups and to the sheet. -/

namespace Sys2Proof.Machine

variable {s u : State} {n : Mb} {tag target : Nat} {w : Word}

/-! ### MODE_REQUEST (R34, Table 2.2) -/

/-- The rows of Table 2.2 that a request may name. -/
theorem requestRow_cases (h : requestRow s target = true) :
    s.sys.mode = .commission ∧ target = Mode.standby.code ∨
    s.sys.mode = .standby ∧ (target = Mode.commission.code ∨ target = Mode.online.code ∨ target = Mode.bridge.code ∨
      target = Mode.dormant.code) ∨
    (s.sys.mode = .online ∨ s.sys.mode = .maintain) ∧ target = Mode.standby.code ∨
    s.sys.mode = .cutoff ∧ target = Mode.dormant.code := by
  unfold requestRow at h
  cases hm : s.sys.mode <;> simp_all

theorem requestHolds_row (h : requestHolds s target = true) : requestRow s target = true := by
  simp only [requestHolds, Bool.and_eq_true] at h
  obtain ⟨⟨⟨⟨hrow, -⟩, -⟩, -⟩, -⟩ := h
  exact hrow

/-- The entry of STANDBY from COMMISSION, whether its configuration is committed or abandoned. -/
theorem requestMode_commission (h : s.sys.mode = .commission) : (requestMode target s).sys.modes = (.standby, .commission) := by
  unfold requestMode
  rw [if_pos h]
  have hmode : ∀ v : State, v.sys.modes = s.sys.modes → (enterMode .standby Cause.host v).sys.modes = (.standby, .commission) := by
    intro v hv
    have hm : v.sys.mode = .commission := (congrArg Prod.fst hv).trans h
    rw [enterMode_modes (by rw [hm]; decide), hm]
  split
  · exact hmode _ ((show Same 16777248 s (commitConfig s) by simp).part .mode rfl)
  · exact hmode _ ((show Same 393344888 s (abandonConfig s) by simp).part .mode rfl)

theorem enterStandby_now (h : s.sys.mode ≠ .standby) : (enterStandby none s).sys.modes = (.standby, s.sys.mode) := by
  have ho : (openAll s).sys = s.sys := (show Same 372250432 s (openAll s) by simp).part .sys rfl
  have he : enterStandby none s = enterMode .standby Cause.host (openAll s) := by
    unfold enterStandby
    rw [if_neg (by simp)]
  rw [he, enterMode_modes (by rw [ho]; exact h), ho]

/-- A request that is carried out at once, but for a black start, ends in the mode that it names. -/
theorem requestMode_modes (h : requestRow s target = true) (hb : target ≠ Mode.bridge.code) (hd : target ≠ Mode.dormant.code) :
    (requestMode target s).sys.mode.code = target ∧ (requestMode target s).sys.prevMode = s.sys.mode := by
  have hmodes : ∀ {m : Mode}, m.code = target → (requestMode target s).sys.modes = (m, s.sys.mode) →
      (requestMode target s).sys.mode.code = target ∧ (requestMode target s).sys.prevMode = s.sys.mode := by
    intro m hm he
    obtain ⟨h1, h2⟩ := Prod.mk.inj he
    exact ⟨by rw [h1, hm], h2⟩
  rcases requestRow_cases h with ⟨hm, rfl⟩ | ⟨hm, rfl | rfl | rfl | rfl⟩ | ⟨hm, rfl⟩ | ⟨hm, rfl⟩
  · exact hmodes rfl (hm ▸ requestMode_commission hm)
  · refine hmodes (m := .commission) rfl ?_
    rw [requestMode, if_neg (by simp [hm]), if_neg (by decide), if_pos rfl, enterMode_modes (by simp [hm])]
  · refine hmodes (m := .online) rfl ?_
    rw [requestMode, if_neg (by simp [hm]), if_neg (by decide), if_neg (by decide), if_pos rfl, enterMode_modes (by simp [hm])]
  · exact absurd rfl hb
  · exact absurd rfl hd
  · refine hmodes (m := .standby) rfl ?_
    have hne : s.sys.mode ≠ .commission ∧ s.sys.mode ≠ .standby := by rcases hm with e | e <;> simp [e]
    rw [requestMode, if_neg hne.1, if_pos rfl, enterStandby_now hne.2]
  · exact absurd rfl hd

theorem enterCutoff_mode (h : s.sys.mode = .bridge) : (enterCutoff s).sys.mode = .cutoff := by
  unfold enterCutoff
  rw [if_pos h]
  extract_lets v _
  have hv : v.sys.modes = (.cutoff, s.sys.mode) := enterMode_modes (by simp [h])
  rw [(show Same 4096 _ (stepTo 4 _) from (stepTo_same rfl).2 (same_refl _ _)).part .sys rfl]
  exact congrArg Prod.fst hv

theorem markBlack_mode (c : Ch) (s : State) : (markBlack c s).sys.mode = s.sys.mode := by
  unfold markBlack
  split <;> rfl

/-- A black start stays in BRIDGE while a channel is left to try, and ends in CUTOFF with none (R585). -/
theorem blackNext_mode (fuel : Nat) (h : s.sys.mode = .bridge) :
    (blackNext fuel s).sys.mode = .bridge ∨ (blackNext fuel s).sys.mode = .cutoff := by
  induction fuel generalizing s with
  | zero => exact .inl h
  | succ fuel ih =>
    unfold blackNext
    split
    · exact .inl h
    · split
      · exact .inr (enterCutoff_mode h)
      · next c _ =>
        extract_lets _ v
        split
        · refine .inl ?_
          rw [markBlack_mode, closeCh_sys]
          exact h
        · refine ih ?_
          rw [(show Same 372250432 v (fileInrush c .black none v) by simp).part .sys rfl]
          exact h

theorem startBlack_mode (h : s.sys.mode ≠ .bridge) :
    (startBlack s).sys.mode = .bridge ∨ (startBlack s).sys.mode = .cutoff := by
  unfold startBlack
  extract_lets v
  exact blackNext_mode 24 (congrArg Prod.fst (enterMode_modes (c := Cause.host) h))

theorem requestMode_bridge (h : s.sys.mode = .standby) : requestMode Mode.bridge.code s = startBlack s := by
  rw [requestMode, if_neg (by simp [h]), if_neg (by decide), if_neg (by decide), if_neg (by decide)]

/-! ### The command MODE_REQUEST under `Calm` -/

theorem modeRequest_calm (h : Calm n 0x20 tag [w] s) (hg : sessionGate s n 0x20 = none) (hst : s.bus.strobe = false) :
    exec (.modeRequest n) s = .next (modeRequestOp (calmCmd n tag [w] s) (calmTaken n 0x20 tag [w] s)) :=
  congrArg Host.Outcome.next (runOp_strobeFirst_calm h hg hst)

/-- A request of one word that no missing security turns away. -/
theorem modeRequest_secure (hsec : requestSecure s (w.field 0 4) = false ∨ secureOn s n = true) :
    ¬ ((calmCmd n tag [w] s).body.length == 1 && requestSecure (calmTaken n 0x20 tag [w] s) ((calmCmd n tag [w] s).w 0 |>.field 0 4)
      && !secureOn (calmTaken n 0x20 tag [w] s) (calmCmd n tag [w] s).chan) = true := by
  show ¬ (true && requestSecure s (w.field 0 4) && !secureOn s n) = true
  rcases hsec with e | e <;> simp [e]

/-- In HANDOVER a request is answered ST_BUSY, even one that calls for a secure channel there: HANDOVER has no row. -/
theorem modeRequestOp_busy (hm : s.sys.mode = .handover) :
    modeRequestOp (calmCmd n tag [w] s) (calmTaken n 0x20 tag [w] s) =
      complete s.deolo.nextId St.BUSY [wd (8 * 16 + 8)] (calmTaken n 0x20 tag [w] s) := by
  have hsec : requestSecure s (w.field 0 4) = false := by simp [requestSecure, requestRow, hm]
  unfold modeRequestOp
  extract_lets m target sized
  have hmode : m = .handover := hm
  rw [if_neg (modeRequest_secure (.inl hsec)), if_pos hmode, hmode]
  rfl

theorem modeRequestOp_refused (hsec : requestSecure s (w.field 0 4) = false ∨ secureOn s n = true) (hm : s.sys.mode ≠ .handover)
    (hno : requestHolds s (w.field 0 4) = false) :
    modeRequestOp (calmCmd n tag [w] s) (calmTaken n 0x20 tag [w] s) =
      complete s.deolo.nextId St.MODE [wd (s.sys.mode.code * 16 + s.sys.mode.code)] (calmTaken n 0x20 tag [w] s) := by
  unfold modeRequestOp
  extract_lets m target sized
  have h1 : m ≠ .handover := hm
  have h2 : (sized && !requestHolds (calmTaken n 0x20 tag [w] s) target) = true :=
    show (true && !requestHolds s (w.field 0 4)) = true by rw [hno]; rfl
  rw [if_neg (modeRequest_secure hsec), if_neg h1, if_pos h2]
  rfl

theorem modeRequestOp_waits (hsec : requestSecure s (w.field 0 4) = false ∨ secureOn s n = true) (hm : s.sys.mode ≠ .handover)
    (hyes : requestHolds s (w.field 0 4) = true) (hd : w.field 0 4 = Mode.dormant.code) :
    modeRequestOp (calmCmd n tag [w] s) (calmTaken n 0x20 tag [w] s) =
      begin_ s.deolo.nextId { calmTaken n 0x20 tag [w] s with
        sys := { s.sys with dormDue := true, dormReq := some s.deolo.nextId } } := by
  unfold modeRequestOp
  extract_lets m target sized
  have h1 : m ≠ .handover := hm
  have h2 : ¬ (sized && !requestHolds (calmTaken n 0x20 tag [w] s) target) = true :=
    show ¬ (true && !requestHolds s (w.field 0 4)) = true by rw [hyes]; decide
  have h3 : ¬ (!(calmCmd n tag [w] s).lenOk 1) = true := show ¬ (!true) = true by decide
  have h4 : target = Mode.dormant.code := hd
  rw [if_neg (modeRequest_secure hsec), if_neg h1, if_neg h2, if_neg h3, if_pos h4]
  rfl

theorem modeRequestOp_now (hsec : requestSecure s (w.field 0 4) = false ∨ secureOn s n = true) (hm : s.sys.mode ≠ .handover)
    (hyes : requestHolds s (w.field 0 4) = true) (hd : w.field 0 4 ≠ Mode.dormant.code)
    (hw : s.sys.mode = .commission ∨ w.field 0 4 ≠ Mode.standby.code ∨ standbyWaits s = false) :
    ∃ body, modeRequestOp (calmCmd n tag [w] s) (calmTaken n 0x20 tag [w] s) =
      complete s.deolo.nextId St.OK body (reportCh (calmTaken n 0x20 tag [w] s)
        (requestMode (w.field 0 4) (begin_ s.deolo.nextId (calmTaken n 0x20 tag [w] s)))) := by
  have hnow : ¬ (s.sys.mode ≠ .commission ∧ w.field 0 4 = Mode.standby.code ∧ standbyWaits s = true) := by
    rintro ⟨h1, h2, h3⟩
    rcases hw with e | e | e
    · exact h1 e
    · exact e h2
    · rw [e] at h3; cases h3
  unfold modeRequestOp
  extract_lets m target sized
  have h1 : m ≠ .handover := hm
  have h2 : ¬ (sized && !requestHolds (calmTaken n 0x20 tag [w] s) target) = true :=
    show ¬ (true && !requestHolds s (w.field 0 4)) = true by rw [hyes]; decide
  have h3 : ¬ (!(calmCmd n tag [w] s).lenOk 1) = true := show ¬ (!true) = true by decide
  have h4 : target ≠ Mode.dormant.code := hd
  have h5 : ¬ (m ≠ .commission ∧ target = Mode.standby.code ∧ standbyWaits (calmTaken n 0x20 tag [w] s) = true) := hnow
  rw [if_neg (modeRequest_secure hsec), if_neg h1, if_neg h2, if_neg h3, if_neg h4, if_neg h5]
  exact ⟨_, rfl⟩

/-- A refused or busy answer: the message stands in the queue, and nothing else has changed. -/
theorem complete_calm {op : Nat} {body l : List Word} {st : Nat} (h : Calm n op tag body s) (hlen : l.length < 64) :
    let t := complete s.deolo.nextId st l (calmTaken n op tag body s)
    SameBut [.inq, .outq, .deolo, .link] s t ∧ (t.outq.get n).words = message op tag 1 st l := by
  obtain ⟨hwords, hsame⟩ := complete_inHand (st := st) (inHand_calmTaken h) hlen
  exact ⟨(((calmTaken_frame n op tag body s).mono rfl).trans (hsame.mono (m := 960) rfl)).sameBut rfl, hwords⟩

theorem modeRequest_modes (h : Calm n 0x20 tag [w] s) (hg : sessionGate s n 0x20 = none) (hst : s.bus.strobe = false)
    (hm : s.sys.mode ≠ .handover) (hsec : requestSecure s (w.field 0 4) = false ∨ secureOn s n = true)
    (hyes : requestHolds s (w.field 0 4) = true) (hd : w.field 0 4 ≠ Mode.dormant.code)
    (hw : s.sys.mode = .commission ∨ w.field 0 4 ≠ Mode.standby.code ∨ standbyWaits s = false) :
    ∃ t, exec (.modeRequest n) s = .next t ∧
      t.sys = (requestMode (w.field 0 4) (begin_ s.deolo.nextId (calmTaken n 0x20 tag [w] s))).sys := by
  obtain ⟨body, hb⟩ := modeRequestOp_now (n := n) (tag := tag) hsec hm hyes hd hw
  exact ⟨_, (modeRequest_calm h hg hst).trans (congrArg Host.Outcome.next hb), by rw [complete_sys, reportCh_sys]⟩

theorem modeRequest_waits (h : Calm n 0x20 tag [w] s) (hg : sessionGate s n 0x20 = none) (hst : s.bus.strobe = false)
    (hm : s.sys.mode ≠ .handover) (hsec : requestSecure s (w.field 0 4) = false ∨ secureOn s n = true)
    (hyes : requestHolds s (w.field 0 4) = true) (hd : w.field 0 4 = Mode.dormant.code) :
    ∃ t, exec (.modeRequest n) s = .next t ∧ t.sys.dormDue = true ∧ t.sys.modes = s.sys.modes ∧
      SameBut [.inq, .deolo, .sys] s t := by
  refine ⟨_, (modeRequest_calm h hg hst).trans (congrArg Host.Outcome.next (modeRequestOp_waits hsec hm hyes hd)), rfl, rfl, ?_⟩
  refine Same.sameBut (k := 672) ?_ rfl
  refine (calmTaken_frame n 0x20 tag [w] s |>.mono rfl).trans ?_
  exact (modTag_same rfl).2 ((same_sys rfl (Or.inr (by rfl)) (Or.inr (by rfl))).2 (same_refl _ _))

/-! ### ISOLATE and RESTORE (R35, R212, R586) -/

theorem isoGroups_channels (hw : w.bit 31 = false) : isoGroups w = [] := by simp [isoGroups, byGroups, hw]

theorem mem_isoChannels (hw : w.bit 31 = false) (c : Ch) : c ∈ isoChannels w ↔ w.bit c.val = true := by
  have hbit : (chWord w).testBit c.val = w.bit c.val := by
    show ((w.toNat >>> 0) % 2 ^ 24).testBit c.val = w.getLsbD c.val
    rw [Nat.testBit_mod_two_pow, decide_eq_true c.isLt, Bool.true_and]
    rfl
  simp [isoChannels, byGroups, hw, chNamed, allCh, hbit]

/-- The change of mode that an isolation brings keeps the set of isolations (Table 2.2). -/
theorem isoMode_iso (s : State) : (isoMode s).sys.isoCh = s.sys.isoCh ∧ (isoMode s).sys.isoGrp = s.sys.isoGrp := by
  unfold isoMode
  split
  · next h =>
    rw [enterMode_sys (by rw [h.1]; decide), entered_isoCh, entered_isoGrp]
    exact ⟨rfl, rfl⟩
  · split
    · next h =>
      rw [enterMode_sys (by rw [h.1]; decide), entered_isoCh, entered_isoGrp]
      exact ⟨rfl, rfl⟩
    · exact ⟨rfl, rfl⟩

theorem isoMode_maintain (hm : s.sys.mode = .online ∨ s.sys.mode = .maintain) (hi : anyIso s = true) :
    (isoMode s).sys.mode = .maintain := by
  unfold isoMode
  rcases hm with hm | hm
  · rw [if_pos ⟨hm, hi⟩, enterMode_sys (by rw [hm]; decide), entered_mode]
  · rw [if_neg (by simp [hm]), if_neg (by simp [hi]), hm]

/-- What an isolation of channels leaves in the registers of chapter 2, before the mode follows. -/
theorem isolateAll_sys (w : Word) (s : State) :
    ∃ v : State, (isolateAll w s).sys = (isoMode v).sys ∧ v.sys = { s.sys with
      isoCh := allCh.filter fun c => s.sys.isoCh.contains c || ((isoChannels w).filter fun c => (s.chan c).st != .disabled).contains c
      isoGrp := allGrp.filter fun g => s.sys.isoGrp.contains g || (isoGroups w).contains g } := by
  unfold isolateAll
  extract_lets gs cs _ v1 v2
  refine ⟨_, rfl, ?_⟩
  rw [queueWrite_sys]
  have h2 : Same 393221952 v1 v2 :=
    (forEach_same fun _ _ => by simp).2 ((forEach_same fun _ _ => by simp).2 (same_refl _ _))
  rw [h2.part .sys rfl]

theorem isolate_calm (h : Calm n 0x21 tag [w] s) (hg : sessionGate s n 0x21 = none) (hst : s.bus.strobe = false)
    (hw : w.bit 31 = false) (hm : s.sys.mode = .online ∨ s.sys.mode = .maintain) (hf : fireOn s = false) :
    ∃ t, exec (.isolate n) s = .next t ∧
      t.sys = (isolateAll w (begin_ s.deolo.nextId (calmTaken n 0x21 tag [w] s))).sys := by
  have hbar : isolateBarred w (calmTaken n 0x21 tag [w] s) = false := by
    show ((s.sys.mode != .online && s.sys.mode != .maintain) || fireOn s || (byGroups w && !s.sys.service)) = false
    rcases hm with e | e <;> simp [e, hf, byGroups, hw]
  have hop : ∃ body, isolateOp (calmCmd n tag [w] s) (calmTaken n 0x21 tag [w] s) =
      complete s.deolo.nextId St.OK body (reportCh (calmTaken n 0x21 tag [w] s)
        (isolateAll w (begin_ s.deolo.nextId (calmTaken n 0x21 tag [w] s)))) := by
    unfold isolateOp
    extract_lets v
    have hno : ¬ isolateBarred v (calmTaken n 0x21 tag [w] s) = true := fun e => Bool.noConfusion (hbar.symm.trans e)
    rw [if_neg hno, if_neg (show ¬ (!(calmCmd n tag [w] s).lenOk 1) = true from show ¬ (!true) = true by decide)]
    exact ⟨_, rfl⟩
  obtain ⟨body, hb⟩ := hop
  exact ⟨_, congrArg Host.Outcome.next ((runOp_strobeFirst_calm h hg hst).trans hb), by rw [complete_sys, reportCh_sys]⟩

theorem isolate_maintains (h : Calm n 0x21 tag [w] s) (hg : sessionGate s n 0x21 = none) (hst : s.bus.strobe = false)
    (hw : w.bit 31 = false) (hm : s.sys.mode = .online ∨ s.sys.mode = .maintain) (hf : fireOn s = false)
    (hc : ∃ c : Ch, w.bit c.val = true ∧ (s.chan c).st ≠ .disabled) :
    ∃ t, exec (.isolate n) s = .next t ∧ t.sys.mode = .maintain ∧ (∀ g, g ∈ t.sys.isoGrp ↔ g ∈ s.sys.isoGrp) ∧
      ∀ c : Ch, c ∈ t.sys.isoCh ↔ c ∈ s.sys.isoCh ∨ w.bit c.val = true ∧ (s.chan c).st ≠ .disabled := by
  obtain ⟨t, ht, hsys⟩ := isolate_calm h hg hst hw hm hf
  obtain ⟨v, hv, hvs⟩ := isolateAll_sys w (begin_ s.deolo.nextId (calmTaken n 0x21 tag [w] s))
  obtain ⟨hich, higrp⟩ := isoMode_iso v
  have hcs : ∀ c : Ch, c ∈ v.sys.isoCh ↔ c ∈ s.sys.isoCh ∨ w.bit c.val = true ∧ (s.chan c).st ≠ .disabled := by
    intro c
    rw [hvs]
    show c ∈ allCh.filter (fun c => s.sys.isoCh.contains c || ((isoChannels w).filter fun c => (s.chan c).st != .disabled).contains c) ↔ _
    simp [allCh, mem_isoChannels hw]
  have hgs : ∀ g, g ∈ v.sys.isoGrp ↔ g ∈ s.sys.isoGrp := by
    intro g
    rw [hvs]
    show g ∈ allGrp.filter (fun g => s.sys.isoGrp.contains g || (isoGroups w).contains g) ↔ _
    simp [allGrp, isoGroups_channels hw]
  have hany : anyIso v = true := by
    obtain ⟨c, hc⟩ := hc
    have hmem := (hcs c).2 (.inr hc)
    cases hl : v.sys.isoCh with
    | nil => rw [hl] at hmem; cases hmem
    | cons a l => simp [anyIso, hl]
  have hvm : v.sys.mode = s.sys.mode := by rw [hvs]; rfl
  refine ⟨t, ht, ?_, ?_, ?_⟩
  · rw [hsys, hv]
    exact isoMode_maintain (by rw [hvm]; exact hm) hany
  · rw [hsys, hv, higrp]
    exact hgs
  · rw [hsys, hv, hich]
    exact hcs

/-- What a restoration leaves of the set of isolations. -/
theorem restoreAll_iso (w : Word) (s : State) :
    (restoreAll w s).sys.isoCh = s.sys.isoCh.filter (fun c => !(isoChannels w).contains c) ∧
      (restoreAll w s).sys.isoGrp = s.sys.isoGrp.filter (fun g => !(isoGroups w).contains g) := by
  unfold restoreAll
  extract_lets gs cs _ v1 free v2 v3
  have h2 : v2.sys = v1.sys := by
    have hs : Same (393344848 ||| 1024) v1 v2 := by
      refine (forceRestored_same rfl).2 ?_
      exact (forEach_same fun _ _ => by simp).2 (same_refl _ _)
    exact hs.part .sys rfl
  obtain ⟨hch, hgrp⟩ := isoMode_iso (queueWrite RT.ISOLATION 0 v2)
  have h3 : ∀ l, (forEach l autoFile v3).sys = v3.sys := fun l =>
    (show Same 372250432 v3 _ from (forEach_same fun _ _ => by simp).2 (same_refl _ _)).part .sys rfl
  rw [h3, show v3.sys.isoCh = _ from hch, show v3.sys.isoGrp = _ from hgrp, queueWrite_sys, h2]
  exact ⟨rfl, rfl⟩

theorem restore_calm (h : Calm n 0x22 tag [w] s) (hg : sessionGate s n 0x22 = none) (hst : s.bus.strobe = false)
    (hm : s.sys.mode ∈ [Mode.online, .maintain, .standby, .commission]) :
    ∃ t, exec (.restore n) s = .next t ∧
      t.sys = (restoreAll w (begin_ s.deolo.nextId (calmTaken n 0x22 tag [w] s))).sys := by
  have hbar : ¬ restoreBarred (calmTaken n 0x22 tag [w] s) = true := by
    show ¬ (!([Mode.online, .maintain, .standby, .commission].contains s.sys.mode)) = true
    rw [List.contains_iff_mem.2 hm]
    decide
  have hop : ∃ body, restoreOp (calmCmd n tag [w] s) (calmTaken n 0x22 tag [w] s) =
      complete s.deolo.nextId St.OK body (reportCh (calmTaken n 0x22 tag [w] s)
        (restoreAll w (begin_ s.deolo.nextId (calmTaken n 0x22 tag [w] s)))) := by
    unfold restoreOp
    rw [if_neg hbar, if_neg (show ¬ (!(calmCmd n tag [w] s).lenOk 1) = true from show ¬ (!true) = true by decide)]
    exact ⟨_, rfl⟩
  obtain ⟨body, hb⟩ := hop
  exact ⟨_, congrArg Host.Outcome.next ((runOp_strobeFirst_calm h hg hst).trans hb), by rw [complete_sys, reportCh_sys]⟩

theorem restore_takes (h : Calm n 0x22 tag [w] s) (hg : sessionGate s n 0x22 = none) (hst : s.bus.strobe = false)
    (hw : w.bit 31 = false) (hm : s.sys.mode ∈ [Mode.online, .maintain, .standby, .commission]) :
    ∃ t, exec (.restore n) s = .next t ∧ t.sys.isoGrp = s.sys.isoGrp ∧
      ∀ c : Ch, c ∈ t.sys.isoCh ↔ c ∈ s.sys.isoCh ∧ w.bit c.val = false := by
  obtain ⟨t, ht, hsys⟩ := restore_calm h hg hst hm
  obtain ⟨hch, hgrp⟩ := restoreAll_iso w (begin_ s.deolo.nextId (calmTaken n 0x22 tag [w] s))
  refine ⟨t, ht, ?_, fun c => ?_⟩
  · rw [hsys, hgrp, isoGroups_channels hw]
    show s.sys.isoGrp.filter (fun g => !([] : List Grp).contains g) = s.sys.isoGrp
    simp
  · rw [hsys, hch]
    show c ∈ s.sys.isoCh.filter (fun c => !(isoChannels w).contains c) ↔ _
    simp [mem_isoChannels hw]

/-! ### GROUP_CTRL and SFK_WRITE (R42, R46, R262) -/

/-- The reload of one group, with none under way: it alone reloads, in or out of service as it was. -/
theorem reloadGroups_one {id : Nat} {g : Grp} (hr : ∀ k, (s.group k).reloading = false) (hq : s.svc.reloads = []) :
    let t := reloadGroups id [g] s
    (t.group g).reloading = true ∧ (t.group g).oos = (s.group g).oos ∧ ∀ k, k ≠ g → t.group k = s.group k := by
  let v := modGrp g (fun x => { x with ctrl := some id }) (begin_ id s)
  have hv : ∀ k, (v.group k).reloading = false := by
    intro k
    by_cases hk : k = g
    · rw [hk]
      exact (congrArg Group.reloading (group_modGrp g _ _)).trans (hr g)
    · exact (congrArg Group.reloading (group_modGrp_ne g k _ _ hk)).trans (hr k)
  have hvo : (v.group g).oos = (s.group g).oos := by
    show ((modGrp g _ (begin_ id s)).group g).oos = _
    rw [group_modGrp]
    rfl
  have ht : reloadGroups id [g] s = modGrp g (fun x => { x with reloading := true }) { v with svc := { v.svc with reloads := [] } } := by
    show (if allGrp.any fun k => (v.group k).reloading then _ else beginReloads (s.svc.reloads ++ [g]) v) = _
    rw [if_neg (by simp [hv]), hq]
    rfl
  intro t
  rw [show t = _ from ht]
  refine ⟨?_, ?_, fun k hk => ?_⟩
  · rw [group_modGrp]
  · rw [group_modGrp]
    exact hvo
  · rw [group_modGrp_ne _ _ _ _ hk]
    exact group_modGrp_ne _ _ _ (begin_ id s) hk

/-- The self-test of one group: it is out of service where it failed, and no other group is touched (R42). -/
theorem testGroups_one {failed : Nat} {g : Grp} (s : State) :
    let t := testGroups failed [g] s
    (t.group g).oos = failed.testBit g.val ∧ (∀ k, (t.group k).reloading = (s.group k).reloading) ∧
      (∀ k, k ≠ g → t.group k = s.group k) ∧ t.svc.reloads = s.svc.reloads := by
  let v := modGrp g (fun x => { x with oos := failed.testBit g.val }) s
  have hv : (v.group g).oos = failed.testBit g.val := congrArg Group.oos (group_modGrp g _ s)
  have hr : ∀ k, (v.group k).reloading = (s.group k).reloading := by
    intro k
    by_cases hk : k = g
    · rw [hk]
      show ((modGrp g _ s).group g).reloading = _
      rw [group_modGrp]
    · exact congrArg Group.reloading (group_modGrp_ne g k _ s hk)
  have hk : ∀ k, k ≠ g → v.group k = s.group k := fun k hk => group_modGrp_ne g k _ s hk
  show let t := if failed.testBit g.val then logEvent Evt.SELFTEST_FAIL 2 (objGrp g) [10] v else v
    (t.group g).oos = failed.testBit g.val ∧ (∀ k, (t.group k).reloading = (s.group k).reloading) ∧
      (∀ k, k ≠ g → t.group k = s.group k) ∧ t.svc.reloads = s.svc.reloads
  intro t
  have hgrp : ∀ k, t.group k = v.group k := by
    intro k
    unfold t
    split
    · exact congrArg (fun x : Vector Group 4 => x.get k) logEvent_grp
    · rfl
  have hquiet : Quiet false v t := by
    unfold t
    split <;> simp
  refine ⟨by rw [hgrp, hv], fun k => by rw [hgrp, hr], fun k hne => by rw [hgrp, hk k hne], ?_⟩
  have hrest : (t.svc.rest false).reloads = (v.svc.rest false).reloads := congrArg Svc.reloads hquiet.svc
  exact hrest

/-- GROUP_CTRL of one idle group under `Calm`: its test, where there is one, and the reload. -/
theorem groupCtrlOp_calm {g : Grp} (test : Option Nat) (hgs : grpNamed (w.field 0 4) = [g]) (hm : s.sys.mode ≠ .handover)
    (hk : s.sys.mode ≠ .safeKeep) (hq : s.svc.reloads = []) (hf : ∀ k, (s.group k).reloading = false ∧ (s.group k).ctrl = none)
    (ha : w.field 28 4 = 1 ∨ w.field 28 4 = 2) :
    groupCtrlOp test (calmCmd n tag [w] s) (calmTaken n 0x23 tag [w] s) =
      reloadGroups s.deolo.nextId [g] (match test with
        | some failed => testGroups failed [g] (calmTaken n 0x23 tag [w] s)
        | none => calmTaken n 0x23 tag [w] s) := by
  have hact : ¬ (!(calmCmd n tag [w] s).lenOk 1 || !(((calmCmd n tag [w] s).w 0).field 28 4 == 1 ||
      ((calmCmd n tag [w] s).w 0).field 28 4 == 2)) = true := by
    show ¬ (!true || !(w.field 28 4 == 1 || w.field 28 4 == 2)) = true
    rcases ha with e | e <;> simp [e]
  have hbusy : ¬ [g].any (groupBusy (calmTaken n 0x23 tag [w] s)) = true := by
    show ¬ ((s.group g).reloading || s.svc.reloads.contains g || (s.group g).ctrl.isSome || false) = true
    simp [hf g, hq]
  unfold groupCtrlOp
  extract_lets gs action v
  have h1 : ¬ ((calmTaken n 0x23 tag [w] s).sys.mode = .handover ∨ (calmTaken n 0x23 tag [w] s).sys.mode = .safeKeep) :=
    fun e => e.elim hm hk
  have h2 : gs = [g] := hgs
  have h3 : ¬ gs.any (groupBusy (calmTaken n 0x23 tag [w] s)) = true := by rw [h2]; exact hbusy
  rw [if_neg h1, if_neg hact, if_neg h3, if_neg (by rw [h2]; exact Bool.noConfusion), h2]
  cases test with
  | none => rfl
  | some failed =>
    show reloadGroups _ [g] (testGroups failed gs _) = _
    rw [h2]
    rfl

theorem groupCtrlReload_reloads {g : Grp} (h : Calm n 0x23 tag [w] s) (hg : sessionGate s n 0x23 = none)
    (hgs : grpNamed (w.field 0 4) = [g]) (hm : s.sys.mode ≠ .handover) (hk : s.sys.mode ≠ .safeKeep) (hq : s.svc.reloads = [])
    (hf : ∀ k, (s.group k).reloading = false ∧ (s.group k).ctrl = none) (ha : w.field 28 4 = 1) :
    ∃ t, exec (.groupCtrlReload n) s = .next t ∧ SameBut [.inq, .deolo, .grp, .svc] s t ∧
      (t.group g).reloading = true ∧ (t.group g).oos = (s.group g).oos ∧ ∀ k, k ≠ g → t.group k = s.group k := by
  have hrun := runCmd_calm (act := groupCtrlOp none) (sel := fun op b => op == 0x23 && (b.getD 0 0).field 28 4 != 2) h hg
    (by simp [ha])
  rw [groupCtrlOp_calm none hgs hm hk hq hf (.inl ha)] at hrun
  refine ⟨_, congrArg Host.Outcome.next hrun, ?_, ?_⟩
  · refine Same.sameBut (k := 67111424 ||| 640) ?_ rfl
    exact ((calmTaken_frame n 0x23 tag [w] s).mono rfl).trans ((reloadGroups_same rfl).2 (same_refl _ _))
  · exact reloadGroups_one (s := calmTaken n 0x23 tag [w] s) (fun k => (hf k).1) hq

theorem groupCtrlSelftest_tests {g : Grp} {failed : Nat} (h : Calm n 0x23 tag [w] s) (hg : sessionGate s n 0x23 = none)
    (hgs : grpNamed (w.field 0 4) = [g]) (hm : s.sys.mode ≠ .handover) (hk : s.sys.mode ≠ .safeKeep) (hq : s.svc.reloads = [])
    (hf : ∀ k, (s.group k).reloading = false ∧ (s.group k).ctrl = none) (ha : w.field 28 4 = 2) :
    ∃ t, exec (.groupCtrlSelftest n failed) s = .next t ∧ SameBut ([.inq, .grp] ++ logging) s t ∧
      (t.group g).reloading = true ∧ (t.group g).oos = failed.testBit g.val ∧ ∀ k, k ≠ g → t.group k = s.group k := by
  have hrun := runCmd_calm (act := groupCtrlOp (some failed)) (sel := fun op b => op == 0x23 && (b.getD 0 0).field 28 4 == 2) h hg
    (by simp [ha])
  rw [groupCtrlOp_calm (some failed) hgs hm hk hq hf (.inr ha)] at hrun
  obtain ⟨toos, treload, tkeep, tq⟩ := testGroups_one (failed := failed) (g := g) (calmTaken n 0x23 tag [w] s)
  obtain ⟨rreload, roos, rkeep⟩ := reloadGroups_one (id := s.deolo.nextId) (g := g)
    (s := testGroups failed [g] (calmTaken n 0x23 tag [w] s)) (fun k => (treload k).trans (hf k).1) (tq.trans hq)
  refine ⟨_, congrArg Host.Outcome.next hrun, ?_, rreload, roos.trans toos, fun k hk => (rkeep k hk).trans (tkeep k hk)⟩
  refine Same.sameBut (k := 100666176 ||| 640) ?_ rfl
  exact ((calmTaken_frame n 0x23 tag [w] s).mono rfl).trans
    ((reloadGroups_same rfl).2 ((testGroups_same rfl).2 (same_refl _ _)))

/-- SFK_WRITE of a whole unit on a secure session in COMMISSION stages it (R262). -/
theorem sfkWriteOp_stages {l : List Word} (x : Fin 3) (hs : secureOn s n = true) (hm : s.sys.mode = .commission)
    (hx : w.field 16 16 = x.val) (hl : l.length = 30) :
    sfkWriteOp (calmCmd n tag (w :: l) s) (calmTaken n 0x70 tag (w :: l) s) =
      complete s.deolo.nextId St.OK [] { calmTaken n 0x70 tag (w :: l) s with
        tin := { s.tin with staged := vput s.tin.staged x (some l) } } := by
  have hlen : (calmCmd n tag (w :: l) s).lenOk 31 = true := by
    show ((w :: l).length == 31 && true) = true
    simp [hl]
  unfold sfkWriteOp
  extract_lets unit
  have hu : unit = x.val := hx
  have h1 : ¬ (!secureOn (calmTaken n 0x70 tag (w :: l) s) (calmCmd n tag (w :: l) s).chan) = true := by
    show ¬ (!secureOn s n) = true
    rw [hs]
    decide
  have h2 : ¬ (calmTaken n 0x70 tag (w :: l) s).sys.mode ≠ .commission := not_not_intro hm
  rw [if_neg h1, if_neg h2]
  split
  · have hset : s.tin.staged.set unit (some l) (by omega) = vput s.tin.staged x (some l) := by
      simp only [hu]
      rfl
    exact congrArg (fun v => complete s.deolo.nextId St.OK [] { calmTaken n 0x70 tag (w :: l) s with
      tin := { s.tin with staged := v } }) hset
  · next hno => exact absurd ⟨hu ▸ x.isLt, hlen⟩ hno

theorem sfkWrite_stages {l : List Word} (x : Fin 3) (h : Calm n 0x70 tag (w :: l) s) (hg : sessionGate s n 0x70 = none)
    (hs : secureOn s n = true) (hm : s.sys.mode = .commission) (hx : w.field 16 16 = x.val) (hl : l.length = 30) :
    ∃ t, exec (.sfkWrite n) s = .next t ∧ SameBut [.inq, .outq, .deolo, .link, .tin] s t ∧ t.tin.staged.get x = some l ∧
      (t.outq.get n).words = message 0x70 tag 1 St.OK [] := by
  let v := { calmTaken n 0x70 tag (w :: l) s with tin := { s.tin with staged := vput s.tin.staged x (some l) } }
  have hin : InHand (calmEntry n 0x70 tag s) v := by
    obtain ⟨htags, hdone, hout, hleft, hchan, hup, hidle, hempty⟩ := inHand_calmTaken h
    exact ⟨htags, hdone, hout, hleft, hchan, hup, hidle, hempty⟩
  obtain ⟨hwords, hsame⟩ := complete_inHand (st := St.OK) (body := []) hin (by decide)
  refine ⟨_, congrArg Host.Outcome.next ((runOp_calm h hg).trans (sfkWriteOp_stages x hs hm hx hl)), ?_, ?_, hwords⟩
  · refine Same.sameBut (k := 9152) ?_ rfl
    exact ((calmTaken_frame n 0x70 tag (w :: l) s).mono rfl).trans (((same_tin rfl).2 (same_refl _ _)).trans (hsame.mono rfl))
  · exact (congrArg (fun y : Tin => y.staged.get x) (hsame.part .tin rfl)).trans (vput_get_same _ _ _)

/-- Settles O16, command by command, each taken under `Calm`. -/
theorem theHostChangesModesAndIsolates : Obligations.TheHostChangesModesAndIsolates := by
  intro s n tag w hst
  refine ⟨fun h hg hm hsec => ⟨fun hyes => ⟨fun hb hd hw => ?_, fun hb => ?_, fun hd => modeRequest_waits h hg hst hm hsec hyes hd⟩,
    fun hno => ?_⟩, fun h hg hm => ?_, fun h hg hw hm hf hc => isolate_maintains h hg hst hw hm hf hc,
    fun h hg hw hm => restore_takes h hg hst hw hm, fun g failed h hg hgs hm hk hq hf =>
    ⟨groupCtrlReload_reloads h hg hgs hm hk hq hf, groupCtrlSelftest_tests h hg hgs hm hk hq hf⟩,
    fun x l h hg hs hm hx hl => sfkWrite_stages x h hg hs hm hx hl⟩
  · obtain ⟨t, ht, hsys⟩ := modeRequest_modes h hg hst hm hsec hyes hd (hw.imp_right .inr)
    obtain ⟨hmode, hprev⟩ := requestMode_modes (s := begin_ s.deolo.nextId (calmTaken n 0x20 tag [w] s)) (requestHolds_row hyes) hb hd
    exact ⟨t, ht, by rw [hsys, hmode], by rw [hsys, hprev]; rfl⟩
  · obtain ⟨t, ht, hsys⟩ := modeRequest_modes h hg hst hm hsec hyes (by rw [hb]; decide) (.inr (.inl (by rw [hb]; decide)))
    have hstandby : s.sys.mode = .standby := by
      rcases requestRow_cases (requestHolds_row hyes) with ⟨-, e⟩ | ⟨e, -⟩ | ⟨-, e⟩ | ⟨-, e⟩
      · exact absurd (hb.symm.trans e) (by decide)
      · exact e
      · exact absurd (hb.symm.trans e) (by decide)
      · exact absurd (hb.symm.trans e) (by decide)
    rw [hb, requestMode_bridge (s := begin_ s.deolo.nextId (calmTaken n 0x20 tag [w] s)) hstandby] at hsys
    refine ⟨t, ht, ?_⟩
    rw [hsys]
    exact startBlack_mode (s := begin_ s.deolo.nextId (calmTaken n 0x20 tag [w] s)) (show s.sys.mode ≠ .bridge by rw [hstandby]; decide)
  · exact ⟨_, (modeRequest_calm h hg hst).trans (congrArg Host.Outcome.next (modeRequestOp_refused hsec hm hno)),
      complete_calm h (by simp)⟩
  · exact ⟨_, (modeRequest_calm h hg hst).trans (congrArg Host.Outcome.next (modeRequestOp_busy hm)), complete_calm h (by simp)⟩

end Sys2Proof.Machine
end

section
/-! What a start keeps of the service port's registers: the images, their states, and the counts of the update manager. -/

namespace Sys2Proof.Machine

variable {s u : State}

@[simp ↓] theorem writeEntry_quiet (what : Intent ⊕ Nat) (u : State) : Quiet false s (writeEntry what u) ↔ Quiet false s u :=
  quiet_of_same (by simp)

@[simp ↓] theorem migrateRec_quiet (rtype inst : Nat) (x : Slot) (u : State) :
    Quiet false s (migrateRec rtype inst x u) ↔ Quiet false s u :=
  quiet_of_same (by simp)

@[simp ↓] theorem loadVals_quiet (u : State) : Quiet false s (loadVals u) ↔ Quiet false s u := quiet_of_same (by simp)

@[simp ↓] theorem loadIsolation_quiet (u : State) : Quiet false s (loadIsolation u) ↔ Quiet false s u := quiet_of_same (by simp)

@[simp ↓] theorem loadString_quiet (lower : Nat) (k : Str) (u : State) :
    Quiet false s (loadString lower k u) ↔ Quiet false s u :=
  quiet_of_same (by simp)

@[simp ↓] theorem loadCoefs_quiet (u : State) : Quiet false s (loadCoefs u) ↔ Quiet false s u := quiet_of_same (by simp)

@[simp ↓] theorem settleNtc_quiet (u : State) : Quiet false s (settleNtc u) ↔ Quiet false s u := quiet_of_same (by simp)

@[simp ↓] theorem restartLines_quiet (u : State) : Quiet false s (restartLines u) ↔ Quiet false s u := quiet_of_same (by simp)

@[simp ↓] theorem loadMicrocode_quiet (g : Grp) (u : State) :
    Quiet false s (loadMicrocode g u) ↔ Quiet false s u := quiet_of_same (by simp)

@[simp ↓] theorem startPower_quiet (u : State) : Quiet false s (startPower u) ↔ Quiet false s u := quiet_of_same (by simp)

/-! ### The store and the log at a start -/

@[simp ↓] theorem readLog_quiet (from_ : Option Mode) (u : State) : Quiet false s (readLog from_ u) ↔ Quiet false s u := by
  unfold readLog
  cases from_ <;> simp

@[simp ↓] theorem resolveJournal_quiet (u : State) : Quiet false s (resolveJournal u) ↔ Quiet false s u := by
  unfold resolveJournal
  simp

@[simp ↓] theorem settleRec_quiet (rtype inst : Nat) (u : State) :
    Quiet false s (settleRec rtype inst u) ↔ Quiet false s u := by
  unfold settleRec
  split <;> simp

@[simp ↓] theorem settleRecords_quiet (u : State) : Quiet false s (settleRecords u) ↔ Quiet false s u := by
  unfold settleRecords
  simp

@[simp ↓] theorem storeEvents_quiet (u : State) : Quiet false s (storeEvents u) ↔ Quiet false s u := by
  unfold storeEvents
  cases u.nvs.flushBegun <;> simp

@[simp ↓] theorem startStore_quiet (from_ : Option Mode) (u : State) :
    Quiet false s (startStore from_ u) ↔ Quiet false s u := by
  unfold startStore
  simp

/-! ### The isolations at a start -/

@[simp ↓] theorem isolateCh_quiet (gate : State → Ch → Gate) (c : Ch) (u : State) :
    Quiet false s (isolateCh gate c u) ↔ Quiet false s u := by
  unfold isolateCh
  simp

@[simp ↓] theorem isolateRecorded_quiet (u : State) : Quiet false s (isolateRecorded u) ↔ Quiet false s u := by
  unfold isolateRecorded
  simp

/-! ### The image that runs -/

/-- The update manager's records that no start of an image changes, but for the bank that runs. -/
def Svc.books (v : Svc) : Bank × Bank × Nat := (v.bankA, v.bankB, v.rollbacks)

theorem Quiet.books (h : Quiet false s u) : u.svc.books = s.svc.books := by
  have e : (u.svc.rest false).books = (s.svc.rest false).books := congrArg Svc.books h.svc
  exact e

theorem Quiet.runB (h : Quiet false s u) : u.svc.runB = s.svc.runB := by
  have e : (u.svc.rest false).runB = (s.svc.rest false).runB := congrArg Svc.runB h.svc
  exact e

theorem warmConfig_books (s : State) :
    (warmConfig s).svc.books = s.svc.books ∧ (warmConfig s).svc.runB = s.svc.runB := by
  unfold warmConfig
  extract_lets s1 s2 _ _ s3 s4 s5
  have h : Quiet false s s5 := by simp [s5, s4, s3, s2, s1]
  clear_value s5
  exact ⟨h.books, h.runB⟩

theorem beginReloads_books (gs : List Grp) (s : State) :
    (beginReloads gs s).svc.books = s.svc.books ∧ (beginReloads gs s).svc.runB = s.svc.runB := by
  cases gs <;> exact ⟨rfl, rfl⟩

theorem startPups_books (b : Bool) (s : State) : (startPups b s).svc.books = s.svc.books ∧ (startPups b s).svc.runB = b :=
  ⟨rfl, rfl⟩

theorem startImage_books (b limits : Bool) (from_ : Option Mode) (s : State) :
    (startImage b limits from_ s).svc.books = s.svc.books ∧ (startImage b limits from_ s).svc.runB = b := by
  unfold startImage
  extract_lets _ s1 s2
  obtain ⟨hb0, hr0⟩ := startPups_books b { s with svc := { s.svc with runB := b } }
  have h1 : Quiet false s1 (startStore from_ s1) := by simp
  obtain ⟨hb1, hr1⟩ := warmConfig_books (startStore from_ s1)
  obtain ⟨hb2, hr2⟩ := beginReloads_books allGrp (warmConfig (startStore from_ s1))
  have hb : s2.svc.books = s.svc.books := hb2.trans (hb1.trans (h1.books.trans hb0))
  have hr : s2.svc.runB = b := hr2.trans (hr1.trans (h1.runB.trans hr0))
  clear_value s2
  split
  · have h3 : Quiet false s2 (logEvent Evt.LIMITS_LIFTED 2 objNone [] s2) := by simp
    exact ⟨h3.books.trans hb, h3.runB.trans hr⟩
  · exact ⟨hb, hr⟩

theorem dropRam_books (s : State) : (dropRam s).svc.books = s.svc.books := by
  unfold dropRam
  extract_lets t
  have ht : t.svc = s.svc := (show Same (896 ||| 33792 ||| 1048576) s t by simp [t]).part .svc rfl
  have hb : t.svc.books = s.svc.books := congrArg Svc.books ht
  clear_value t
  exact hb

theorem stopMain_books (cause : Nat) (s : State) : (stopMain cause s).svc.books = s.svc.books := by
  have hd := dropRam_books s
  unfold stopMain enterBoot
  extract_lets t
  have hq : ∀ v : State, v.svc = t.svc → (changeMode .boot Cause.warm v).svc.books = s.svc.books := by
    intro v hv
    have h : Quiet false v (changeMode .boot Cause.warm v) := by simp
    exact h.books.trans ((congrArg Svc.books hv).trans hd)
  exact hq _ rfl

/-- A restart keeps the banks and the counts, and runs the bank that it is given (R48). -/
theorem warmFrom_books (bank : Option Bool) (cause : Nat) (s : State) : (warmFrom bank cause s).svc.books = s.svc.books := by
  cases bank with
  | none =>
    have noImage : ∀ t : State, { t with sys := { t.sys with noImage := true } }.svc.books = t.svc.books := fun _ => rfl
    exact (noImage _).trans (stopMain_books cause s)
  | some b =>
    rw [warmFrom]
    exact (startImage_books _ _ _ _).1.trans (stopMain_books cause s)

theorem warmFrom_runB (b : Bool) (cause : Nat) (s : State) : (warmFrom (some b) cause s).svc.runB = b := by
  rw [warmFrom]
  exact (startImage_books _ _ _ _).2

theorem warmFrom_noImage (cause : Nat) (s : State) : (warmFrom none cause s).sys.noImage = true := by
  rw [warmFrom]

end Sys2Proof.Machine
end

section
/-! The obligation on the end of a trial: its confirmation, by frame or by time, and its rollback. -/

namespace Sys2Proof.Machine

variable {s : State} {b : Bool} {q : Byte} {w : Word}

/-! ### The banks -/

theorem bankOf_modBank (b : Bool) (f : Bank → Bank) (s : State) : bankOf (modBank b f s) b = f (bankOf s b) := by
  cases b <;> rfl

theorem bankOf_modBank_not (b : Bool) (f : Bank → Bank) (s : State) : bankOf (modBank (!b) f s) b = bankOf s b := by
  cases b <;> rfl

theorem bankOf_books {t : State} (h : t.svc.books = s.svc.books) (b : Bool) : bankOf t b = bankOf s b := by
  obtain ⟨ha, h⟩ := Prod.mk.inj h
  obtain ⟨hb, -⟩ := Prod.mk.inj h
  cases b
  · exact ha
  · exact hb

/-! ### The confirmation (R489, R531) -/

/-- Which bank is in TRIAL, where one alone is. -/
theorem trial_bankB (h : (bankOf s b).st = Bst.TRIAL) (h' : (bankOf s (!b)).st ≠ Bst.TRIAL) :
    (s.svc.bankB.st == Bst.TRIAL) = b := by
  cases b
  · exact beq_false_of_ne h'
  · exact beq_iff_eq.2 h

/-- The bank in TRIAL as its confirmation leaves it, with the copies of the migration space freed. -/
def trialFreed (b : Bool) (s : State) : State :=
  let t := modBank b (fun x => { x with st := Bst.CONFIRMED, confirmedAt := optime s }) s
  { t with nvs := { t.nvs with copies := [], rollbackCopy := false }
           svc := { t.svc with phase := if t.svc.phase = 6 then 0 else t.svc.phase, trialRestart := false } }

theorem confirmTrial_eq (h : (bankOf s b).st = Bst.TRIAL) (h' : (bankOf s (!b)).st ≠ Bst.TRIAL) :
    confirmTrial s =
      if imgRaise (bankOf s b) then
        let floor := max s.svc.svnFloor (imgSvn (bankOf s b))
        modBank (!b) (fun x => if x.st = Bst.PREVIOUS ∧ x.svn < floor then { x with st := Bst.REJECTED } else x)
          { trialFreed b s with svc := { (trialFreed b s).svc with svnFloor := floor } }
      else trialFreed b s := by
  unfold confirmTrial
  rw [trial_bankB h h']
  cases b <;> exact if_neg (not_not_intro h)

/-- What a confirmation leaves. -/
theorem confirmTrial_confirms (h : (bankOf s b).st = Bst.TRIAL) (h' : (bankOf s (!b)).st ≠ Bst.TRIAL) :
    (bankOf (confirmTrial s) b).st = Bst.CONFIRMED ∧ (confirmTrial s).nvs.copies = [] ∧
      (confirmTrial s).svc.revoked = s.svc.revoked ∧ (confirmTrial s).svc.runB = s.svc.runB ∧
      (confirmTrial s).svc.svnFloor =
        (if imgRaise (bankOf s b) = true then max s.svc.svnFloor (imgSvn (bankOf s b)) else s.svc.svnFloor) := by
  rw [confirmTrial_eq h h']
  split
  · cases b <;> exact ⟨rfl, rfl, rfl, rfl, rfl⟩
  · cases b <;> exact ⟨rfl, rfl, rfl, rfl, rfl⟩

/-! ### The rollback (R48, R532) -/

/-- The bank in TRIAL is rejected, the one before it is in service again. -/
theorem rollBanks_swaps (h : (bankOf s b).st = Bst.TRIAL) (h' : (bankOf s (!b)).st = Bst.PREVIOUS) :
    bankOf (rollBanks s) b = { bankOf s b with st := Bst.REJECTED } ∧
      bankOf (rollBanks s) (!b) = { bankOf s (!b) with st := Bst.CONFIRMED } := by
  cases b
  · have hA : s.svc.bankA.st = Bst.TRIAL := h
    have hB : s.svc.bankB.st = Bst.PREVIOUS := h'
    simp [rollBanks, bankOf, hA, hB]
  · have hA : s.svc.bankA.st = Bst.PREVIOUS := h'
    have hB : s.svc.bankB.st = Bst.TRIAL := h
    simp [rollBanks, bankOf, hA, hB]

theorem rollBanks_passes (h : (bankOf s b).st = Bst.TRIAL) (h' : (bankOf s (!b)).st = Bst.PREVIOUS) :
    bankPasses (rollBanks s) (!b) = bankPasses s (!b) := by
  rw [bankPasses, (rollBanks_swaps h h').2]
  rfl

/-- The restart of a rollback: from the former PREVIOUS bank when it passes its check, else from none. -/
theorem rollback_eq (h : (bankOf s b).st = Bst.TRIAL) (h' : (bankOf s (!b)).st = Bst.PREVIOUS) :
    rollback s = warmFrom (if bankPasses s (!b) then some (!b) else none) (if inSafeKeep s then 6 else 9) (rollBanks s) := by
  have hpass := rollBanks_passes h h'
  cases b
  · have hA : s.svc.bankA.st = Bst.TRIAL := h
    have hB : s.svc.bankB.st = Bst.PREVIOUS := h'
    have hpass : bankPasses (rollBanks s) true = bankPasses s true := hpass
    simp [rollback, hA, hB, hpass]
  · have hA : s.svc.bankA.st = Bst.PREVIOUS := h'
    have hB : s.svc.bankB.st = Bst.TRIAL := h
    have hpass : bankPasses (rollBanks s) false = bankPasses s false := hpass
    simp [rollback, hA, hB, hpass]

theorem rollback_restarts (h : (bankOf s b).st = Bst.TRIAL) (h' : (bankOf s (!b)).st = Bst.PREVIOUS) :
    (bankOf (rollback s) b).st = Bst.REJECTED ∧ (bankOf (rollback s) (!b)).st = Bst.CONFIRMED ∧
      (rollback s).svc.rollbacks = sat32 (s.svc.rollbacks + 1) ∧ (rollback s).sys.warm = true ∧ (rollback s).sys.mode = .boot ∧
      (rollback s).sys.resetCause = (if s.sys.mode = .safeKeep then 6 else 9) ∧
      (bankPasses s (!b) = true → (rollback s).svc.runB = !b) ∧ (bankPasses s (!b) = false → (rollback s).sys.noImage = true) := by
  have hr := rollback_eq h h'
  obtain ⟨hswap, hswap'⟩ := rollBanks_swaps h h'
  have hbooks : (rollback s).svc.books = (rollBanks s).svc.books := by rw [hr, warmFrom_books]
  obtain ⟨hmode, hcause, hwarm⟩ := start_eq.1 ((congrArg (fun t : State => t.sys.start) hr).trans (warmFrom_start _ _ _))
  refine ⟨?_, ?_, ?_, hwarm, hmode, ?_, fun hp => ?_, fun hp => ?_⟩
  · rw [bankOf_books hbooks, hswap]
  · rw [bankOf_books hbooks, hswap']
  · exact congrArg (fun x : Bank × Bank × Nat => x.2.2) hbooks
  · rw [hcause]
    simp [inSafeKeep]
  · rw [hr, hp, if_pos rfl, warmFrom_runB]
  · rw [hr, hp]
    exact warmFrom_noImage _ _

/-! ### The frames of the service port (R514) -/

/-- A request of the secure set that the firmware may serve. -/
theorem serve_served {type seq : Nat} {act : State → State} (hj : jackAnswers s = false) (hf : firmAnswers s = true)
    (hb : svcBusy s = false) (hs : secureOn s 14 = true) : serve type seq true false act s = act (svcHeard s) := by
  have h1 : svcBusy (svcHeard s) = false := hb
  have h2 : jackAnswers (svcHeard s) = false := hj
  have h3 : secureOn (svcHeard s) 14 = true := hs
  simp [serve, hj, hf, h1, h2, h3]

section
variable (hj : jackAnswers s = false) (hf : firmAnswers s = true) (hb : svcBusy s = false) (hs : secureOn s 14 = true)
include hj hf hb hs

theorem confirm_unkeyed (hw : w ≠ updKey) :
    exec (.confirm q w) s = .next (svcReply 0x34 q.toNat St.RANGE [] (svcHeard s)) := by
  show Host.Outcome.next (serve _ _ _ _ _ s) = _
  rw [serve_served hj hf hb hs, if_pos hw]

theorem rollback_unkeyed (hw : w ≠ updKey) :
    exec (.rollback q w) s = .next (svcReply 0x35 q.toNat St.RANGE [] (svcHeard s)) := by
  show Host.Outcome.next (serve _ _ _ _ _ s) = _
  rw [serve_served hj hf hb hs, if_pos hw]

theorem confirm_refused (ht : trialBank s = false) :
    exec (.confirm q updKey) s = .next (svcReply 0x34 q.toNat St.REFUSED [] (putLast 0x34 10 0 (svcHeard s))) := by
  have h : (!trialBank (svcHeard s)) = true := by rw [show trialBank (svcHeard s) = false from ht]; rfl
  show Host.Outcome.next (serve _ _ _ _ _ s) = _
  rw [serve_served hj hf hb hs, if_neg (not_not_intro rfl), if_pos h]

theorem rollback_refused (ht : canRollback s = false) :
    exec (.rollback q updKey) s = .next (svcReply 0x35 q.toNat St.REFUSED [] (putLast 0x35 10 0 (svcHeard s))) := by
  have h : (!canRollback (svcHeard s)) = true := by rw [show canRollback (svcHeard s) = false from ht]; rfl
  show Host.Outcome.next (serve _ _ _ _ _ s) = _
  rw [serve_served hj hf hb hs, if_neg (not_not_intro rfl), if_pos h]

theorem confirm_served (ht : trialBank s = true) :
    exec (.confirm q updKey) s = .next (svcReply 0x34 q.toNat St.OK [] (putLast 0x34 0 0 (confirmTrial (svcHeard s)))) := by
  have h : ¬ (!trialBank (svcHeard s)) = true := by rw [show trialBank (svcHeard s) = true from ht]; decide
  show Host.Outcome.next (serve _ _ _ _ _ s) = _
  rw [serve_served hj hf hb hs, if_neg (not_not_intro rfl), if_neg h]

theorem rollback_served (ht : canRollback s = true) :
    exec (.rollback q updKey) s = .next (rollback (putLast 0x35 0 0 (svcReply 0x35 q.toNat St.OK [] (svcHeard s)))) := by
  have h : ¬ (!canRollback (svcHeard s)) = true := by rw [show canRollback (svcHeard s) = true from ht]; decide
  show Host.Outcome.next (serve _ _ _ _ _ s) = _
  rw [serve_served hj hf hb hs, if_neg (not_not_intro rfl), if_neg h]

end

/-- A frame on the service port's line changes no other part of the machine. -/
theorem svcReply_putLast_frame (type seq st result budget : Nat) (s : State) :
    Same 67108864 s (svcReply type seq st [] (putLast type result budget (svcHeard s))) := by simp

theorem confirmTrial_frame (s : State) : Same 620756992 s (confirmTrial s) := by simp

theorem trialBank_of (h : (bankOf s b).st = Bst.TRIAL) : trialBank s = true := by
  cases b
  · exact Bool.or_eq_true _ _ ▸ .inl (beq_iff_eq.2 h)
  · exact Bool.or_eq_true _ _ ▸ .inr (beq_iff_eq.2 h)

theorem canRollback_of (h : (bankOf s b).st = Bst.TRIAL) : canRollback s = true := by
  have ht := trialBank_of h
  unfold trialBank at ht
  unfold canRollback
  simp only [ht, Bool.true_or]

/-! ### The end of a trial by time (R531) -/

theorem passOptime_clock (t : Nat) (s : State) : (passOptime t s).clock = s.clock + (t - optime s) * clkKt := by
  rw [passOptime, passTo_clock]
  omega

theorem passOptime_quiet (t : Nat) (s : State) : Quiet false s (passOptime t s) := by simp [passOptime]

theorem trialTimeout_idle (h : (runBank s).st ≠ Bst.TRIAL ∨ pn s Prm.UPD_TRIAL_S = 0) : exec .trialTimeout s = .next s := by
  show execTrialTimeout s = _
  unfold execTrialTimeout
  extract_lets sec
  refine if_neg fun hc => ?_
  simp only [Bool.and_eq_true, beq_iff_eq, decide_eq_true_eq] at hc
  obtain ⟨⟨-, ht⟩, hsec⟩ := hc
  exact h.elim (fun e => e ht) hsec

theorem trialTimeout_confirms (hr : shbRuns s = true) (ht : (runBank s).st = Bst.TRIAL) (hi : (idleBank s).st ≠ Bst.TRIAL)
    (hsec : pn s Prm.UPD_TRIAL_S ≠ 0) :
    ∃ t, exec .trialTimeout s = .next t ∧ SameBut (passing ++ [.nvs, .fuses]) s t ∧
      t.clock = s.clock + (s.svc.trialAt + pn s Prm.UPD_TRIAL_S * 1024 - optime s) * clkKt ∧ (runBank t).st = Bst.CONFIRMED ∧
      t.nvs.copies = [] ∧ t.svc.svnFloor = if imgRaise (runBank s) = true then max s.svc.svnFloor (imgSvn (runBank s))
        else s.svc.svnFloor := by
  let u := passOptime (s.svc.trialAt + pn s Prm.UPD_TRIAL_S * 1024) s
  have hq : Quiet false s u := passOptime_quiet _ s
  have hrun : u.svc.runB = s.svc.runB := hq.runB
  have hbank : ∀ b, bankOf u b = bankOf s b := bankOf_books hq.books
  have hfloor : u.svc.svnFloor = s.svc.svnFloor := by
    have e : (u.svc.rest false).svnFloor = (s.svc.rest false).svnFloor := congrArg Svc.svnFloor hq.svc
    exact e
  have ht' : (bankOf u s.svc.runB).st = Bst.TRIAL := by rw [hbank]; exact ht
  have hi' : (bankOf u (!s.svc.runB)).st ≠ Bst.TRIAL := by rw [hbank]; exact hi
  obtain ⟨hst, hcopies, -, hrunB, hsvn⟩ := confirmTrial_confirms ht' hi'
  have hframe := confirmTrial_frame u
  have hx : exec .trialTimeout s = .next (confirmTrial u) := by
    have hb : trialBank s = true := trialBank_of ht
    show execTrialTimeout s = _
    unfold execTrialTimeout
    rw [hr, hb, show (bankOf s s.svc.runB).st = Bst.TRIAL from ht]
    exact if_pos (by simpa using hsec)
  refine ⟨_, hx, ?_, ?_, ?_, hcopies, ?_⟩
  · refine Same.sameBut (k := 620756992 ||| 109708098) ?_ rfl
    exact (show Same _ s u by simp [u]).trans (hframe.mono rfl)
  · exact (hframe.part .clock rfl).trans (passOptime_clock _ s)
  · rw [runBank, hrunB, hrun, hst]
  · rw [hsvn, hbank, hfloor]
    rfl

/-- A refused frame of the secure set leaves the banks. -/
theorem refused_banks (type seq : Nat) (s : State) :
    let t := svcReply type seq St.REFUSED [] (putLast type 10 0 (svcHeard s))
    SameBut [.svc] s t ∧ t.svc.bankA = s.svc.bankA ∧ t.svc.bankB = s.svc.bankB ∧ t.svc.lastResult = 10 :=
  ⟨(svcReply_putLast_frame _ _ _ _ _ _).sameBut rfl, rfl, rfl, rfl⟩

/-- The answer to a frame leaves the memories and the books of the service port. -/
theorem svcReply_putLast_keeps (type seq st result budget : Nat) (u : State) :
    let t := svcReply type seq st [] (putLast type result budget u)
    t.nvs = u.nvs ∧ t.svc.books = u.svc.books ∧ t.svc.revoked = u.svc.revoked ∧ t.svc.svnFloor = u.svc.svnFloor :=
  ⟨rfl, rfl, rfl, rfl⟩

theorem confirm_confirms (hj : jackAnswers s = false) (hf : firmAnswers s = true) (hb : svcBusy s = false)
    (hs : secureOn s 14 = true) (h : (bankOf s b).st = Bst.TRIAL) (h' : (bankOf s (!b)).st ≠ Bst.TRIAL) :
    ∃ t, exec (.confirm q updKey) s = .next t ∧ SameBut [.nvs, .svc, .fuses] s t ∧ (bankOf t b).st = Bst.CONFIRMED ∧
      t.nvs.copies = [] ∧ t.svc.lastResult = 0 ∧ t.svc.revoked = s.svc.revoked ∧
      t.svc.svnFloor = (if imgRaise (bankOf s b) = true then max s.svc.svnFloor (imgSvn (bankOf s b)) else s.svc.svnFloor) := by
  obtain ⟨hst, hcopies, hrevoked, -, hsvn⟩ := confirmTrial_confirms (s := svcHeard s) (b := b) h h'
  obtain ⟨envs, ebooks, erevoked, efloor⟩ := svcReply_putLast_keeps 0x34 q.toNat St.OK 0 0 (confirmTrial (svcHeard s))
  refine ⟨_, confirm_served hj hf hb hs (trialBank_of h), ?_, (congrArg Bank.st (bankOf_books ebooks b)).trans hst,
    (congrArg Store.copies envs).trans hcopies, rfl, erevoked.trans hrevoked, efloor.trans hsvn⟩
  refine Same.sameBut (k := 620756992) ?_ rfl
  exact (show Same 620756992 s (svcHeard s) by simp).trans
    ((confirmTrial_frame (svcHeard s)).trans ((svcReply_same rfl).2 ((putLast_same rfl).2 (same_refl _ _))))

/-- Settles O53: the confirmation by frame and by time, and the rollback. -/
theorem aTrialIsConfirmedOrRolledBack : Obligations.ATrialIsConfirmedOrRolledBack := by
  refine fun s q => ⟨fun hj hf hb hs => ⟨fun w hw => ⟨confirm_unkeyed hj hf hb hs hw, rollback_unkeyed hj hf hb hs hw⟩,
    fun ht => ⟨_, confirm_refused hj hf hb hs ht, refused_banks _ _ s⟩, fun b h h' => confirm_confirms hj hf hb hs h h',
    fun ht => ⟨_, rollback_refused hj hf hb hs ht, refused_banks _ _ s⟩, fun b h h' => ?_⟩,
    fun hr ht hi => ⟨fun h0 => trialTimeout_idle (.inr h0), trialTimeout_confirms hr ht hi⟩, fun ht => trialTimeout_idle (.inl ht)⟩
  exact ⟨_, rollback_served hj hf hb hs (canRollback_of h),
    rollback_restarts (s := putLast 0x35 0 0 (svcReply 0x35 q.toNat St.OK [] (svcHeard s))) (b := b) h h'⟩

end Sys2Proof.Machine
end

section
/-! The request of a takeover: its filing at the arbiter, its grant, which enters HANDOVER, and its refusal (R528). -/

namespace Sys2Proof.Machine

variable {s t : State} {q st result budget : Nat}

/-- A register that stands. -/
theorem Quiet.eq {keep : Bool} {α : Type} (h : Quiet keep s t) (f : Svc → α) (hf : ∀ v : Svc, f (v.rest keep) = f v) :
    f t.svc = f s.svc := (hf _).symm.trans ((congrArg f h.svc).trans (hf _))

/-! ### The answer to whoever asked -/

/-- The service port's registers without the asker, the frames on its line, UPD.LAST and the request at the arbiter. -/
def Svc.apart (v : Svc) : Svc := { v with tx := [], op := none, asker := none, lastType := 0, lastResult := 0, lastBudget := 0 }

theorem answerTakeover_none (h : s.svc.asker = none) : answerTakeover st result budget s = s := by
  rw [answerTakeover, h]

/-- The answer to the frame, where a Puppeteer runs to give it. -/
theorem answerTakeover_service (h : s.svc.asker = some (.service q)) (hf : (s.svc.en && anyPup s) = true) :
    answerTakeover st result budget s =
      let t := putLast 0x33 result budget { s with svc := { s.svc with asker := none } }
      svcReply 0x33 q st [updLast t] t := by
  rw [answerTakeover, h]
  exact if_pos hf

/-- Nobody waits any more, UPD.LAST has the result for whoever did, and the other registers stand. -/
theorem answerTakeover_ends (st result budget : Nat) (s : State) :
    (answerTakeover st result budget s).svc.asker = none ∧
      (s.svc.asker ≠ none → (answerTakeover st result budget s).svc.lastResult = result) ∧
      (answerTakeover st result budget s).svc.apart = s.svc.apart := by
  cases h : s.svc.asker with
  | none =>
    rw [answerTakeover_none h]
    exact ⟨h, fun hne => absurd rfl hne, rfl⟩
  | some a =>
    rw [answerTakeover, h]
    cases a with
    | service q =>
      dsimp only
      split <;> exact ⟨rfl, fun _ => rfl, rfl⟩
    | param => exact ⟨rfl, fun _ => rfl, rfl⟩

/-! ### The filing (R411, R528) -/

/-- The request as it is filed: with its number and the clock. -/
def Op.filed (s : State) (o : Op) : Op := { o with id := s.adm.next, since := s.clock }

/-- The number of a request is taken. -/
def numbered (s : State) : State := { s with adm := { s.adm with next := s.adm.next + 1 } }

/-- The arbiter grants a request, queues it, or refuses it. -/
theorem fileOp_judged (o : Op) (s : State) :
    (∃ mc, fileOp o s = grantOp (o.filed s) mc false (numbered s)) ∨ (∃ b, fileOp o s = queueOp (o.filed s) b (numbered s)) ∨
      ∃ b, fileOp o s = refuseOp (o.filed s) b (numbered s) := by
  unfold fileOp
  dsimp only
  split
  · exact .inr (.inr ⟨_, rfl⟩)
  · exact .inl ⟨_, rfl⟩
  · split
    · exact .inr (.inl ⟨_, rfl⟩)
    · exact .inr (.inr ⟨_, rfl⟩)

/-- A request joins the queue. -/
theorem mem_insOp (o : Op) (l : List Op) : o ∈ insOp o l := by
  induction l with
  | nil => exact List.mem_singleton_self o
  | cons p l ih =>
    unfold insOp
    split
    · exact List.mem_cons_of_mem p ih
    · exact List.mem_cons_self

/-! ### The entry of HANDOVER (R529 step 1) -/

/-- Without a grant nothing is entered. -/
theorem handoverEntry_none (h : s.svc.op = none) : handoverEntry s = s := by
  rw [handoverEntry, h]
  exact if_neg fun e => absurd e.1 (by decide)

/-- A grant in hand enters HANDOVER, with the shadow taken for the new image. -/
theorem handoverEntry_enters (hop : s.svc.op.isSome) (hnew : s.svc.newOn = none)
    (hm : s.sys.mode = .standby ∨ s.sys.mode = .online ∨ s.sys.mode = .maintain) :
    (handoverEntry s).sys.mode = .handover ∧ (handoverEntry s).sys.handoverFrom = s.sys.mode ∧
      (handoverEntry s).svc.newOn = some (otherPup s.sys.active) ∧ (handoverEntry s).svc.phase = 3 ∧
      (handoverEntry s).svc.asker = s.svc.asker := by
  have hnone : s.svc.newOn.isNone = true := by rw [hnew]; rfl
  unfold handoverEntry
  extract_lets m sh _ v _ _ w
  rw [if_pos ⟨hop, hnone, hm⟩]
  have hmode : w.sys.mode ≠ .handover := by
    have e : w.sys.mode = s.sys.mode := congrArg Prod.fst (modPup_modes (s := s) (p := sh))
    rw [e]
    rcases hm with e | e | e <;> simp [e]
  have hsys : (sendAnnounce (enterMode .handover Cause.firmware w)).sys = w.sys.entered .handover := by
    rw [sendAnnounce_sys, enterMode_sys hmode]
  have hq : Quiet false w (sendAnnounce (enterMode .handover Cause.firmware w)) := by simp
  have hv : v.svc = s.svc := ((modPup_same rfl).2 (same_refl 32 s)).part .svc rfl
  have hasker : w.svc.asker = s.svc.asker := (congrArg Svc.asker hv :)
  refine ⟨?_, ?_, hq.eq Svc.newOn fun _ => rfl, hq.eq Svc.phase fun _ => rfl, (hq.eq Svc.asker fun _ => rfl).trans hasker⟩
  · rw [hsys, entered_mode]
  · rw [hsys, entered_handoverFrom]

/-! ### What the arbiter's answer leads to -/

section
variable {o : Op} (hcode : o.code = Opn.HANDOVER)
include hcode

/-- A grant puts the number of the request into the update manager. -/
theorem grantOp_takeover (mc : Nat) (s : State) : (grantOp o mc false s).svc.op = some o.id := by
  unfold grantOp
  extract_lets p _ v d e f
  have hp : p.code = 0x13 := hcode
  have hpid : p.id = o.id := rfl
  clear_value p f
  rw [startOp, hp]
  exact congrArg some hpid

variable (htag : o.tag = none)
include htag

/-- A request that waits leaves the service port as it is. -/
theorem queueOp_takeover (b : Nat) (s : State) :
    (queueOp o b s).svc = s.svc ∧ ∃ p ∈ (queueOp o b s).adm.queue, p.code = Opn.HANDOVER := by
  unfold queueOp
  extract_lets p _ v d
  have hp : p.tag = none := htag
  have hd : d.adm.queue = v.adm.queue := (congrArg Adm.queue (decide_adm p b 2 v) :)
  have hds : d.svc = v.svc := (decide_frame p b 2 v).part .svc rfl
  rw [hp]
  exact ⟨hds, p, hd ▸ mem_insOp p _, hcode⟩

/-- A refusal answers whoever asked, with result 12, and no request is left (R528). -/
theorem refuseOp_takeover (b : Nat) (h : s.svc.asker = some (.service q)) (hf : (s.svc.en && anyPup s) = true) :
    (refuseOp o b s).svc.op = none ∧ (refuseOp o b s).svc.asker = none ∧ (refuseOp o b s).svc.lastResult = 12 ∧
      ∃ f ∈ (refuseOp o b s).svc.tx, f.type = 0xB3 ∧ f.seq = q ∧ f.status = St.REFUSED := by
  unfold refuseOp
  extract_lets _ v d w
  have hd : d.svc = { s.svc with op := none } ∧ d.sys = s.sys := by
    have hv : v.svc = s.svc ∧ v.sys = s.sys := ⟨(decide_frame _ _ _ _).part .svc rfl, (decide_frame _ _ _ _).part .sys rfl⟩
    obtain ⟨hsvc, hsys⟩ := hv
    rw [← hsvc, ← hsys]
    clear_value v
    unfold d dropOp
    rw [show o.code = 0x13 from hcode]
    exact ⟨rfl, rfl⟩
  obtain ⟨hsvc, hsys⟩ := hd
  have hq : Quiet true d w := by simp [w]
  have hwsys : w.sys = s.sys := ((failEvent_same rfl).2 (same_refl 100664128 d) |>.part .sys rfl).trans hsys
  have hop : w.svc.op = none := (hq.eq Svc.op fun _ => rfl).trans (congrArg Svc.op hsvc :)
  have hasker : w.svc.asker = some (.service q) :=
    (hq.eq Svc.asker fun _ => rfl).trans ((congrArg Svc.asker hsvc :).trans h)
  have hen : (w.svc.en && anyPup w) = true := by
    rw [show w.svc.en = s.svc.en from (hq.eq Svc.en fun _ => rfl).trans (congrArg Svc.en hsvc :), anyPup, hwsys]
    exact hf
  clear_value w
  have hc : opComplete o St.REFUSED b [] w = answerTakeover St.REFUSED 12 b w := by
    rw [opComplete, if_pos hcode, htag]
  rw [hc, answerTakeover_service hasker hen]
  exact ⟨hop, rfl, rfl, _, List.mem_append_right _ (List.mem_singleton_self _), rfl, rfl, rfl⟩

end

/-- An accepted takeover enters HANDOVER, waits at the arbiter, or is refused with result 12 (R528, R529). -/
theorem fileTakeover_outcomes (q : Nat) (hf : (s.svc.en && anyPup s) = true) (hop : s.svc.op = none) (hnew : s.svc.newOn = none)
    (hm : s.sys.mode = .standby ∨ s.sys.mode = .online ∨ s.sys.mode = .maintain) :
    let t := fileTakeover (.service q) s
    t.sys.mode = .handover ∧ t.sys.handoverFrom = s.sys.mode ∧ t.svc.newOn = some (otherPup s.sys.active) ∧ t.svc.phase = 3 ∧
        t.svc.asker = some (.service q) ∨
      t.sys = s.sys ∧ t.svc.asker = some (.service q) ∧ (∃ o ∈ t.adm.queue, o.code = Opn.HANDOVER) ∨
      t.sys = s.sys ∧ t.svc.asker = none ∧ t.svc.lastResult = 12 ∧
        ∃ f ∈ t.svc.tx, f.type = 0xB3 ∧ f.seq = q ∧ f.status = St.REFUSED := by
  let v : State := { s with svc := { s.svc with asker := some (.service q) } }
  intro t
  have ht : t = handoverEntry (fileOp takeoverOp v) := rfl
  clear_value t
  obtain ⟨mc, e⟩ | ⟨b, e⟩ | ⟨b, e⟩ := fileOp_judged takeoverOp v
  · have hq : Quiet false (numbered v) (grantOp (takeoverOp.filed v) mc false (numbered v)) := by simp
    have hgop := grantOp_takeover (o := takeoverOp.filed v) rfl mc (numbered v)
    have hsys : (grantOp (takeoverOp.filed v) mc false (numbered v)).sys = s.sys :=
      ((grantOp_same rfl).2 (same_refl 338696000 (numbered v))).part .sys rfl
    have hgnew := (hq.eq Svc.newOn fun _ => rfl).trans hnew
    have hgasker := hq.eq Svc.asker fun _ => rfl
    rw [← e] at hgop hsys hgnew hgasker
    have h := handoverEntry_enters (by rw [hgop]; rfl) hgnew (by rwa [hsys])
    rw [← ht, hsys, hgasker] at h
    exact .inl h
  · obtain ⟨hsvc, o, ho, hcode⟩ := queueOp_takeover (o := takeoverOp.filed v) rfl rfl b (numbered v)
    have hsys : (queueOp (takeoverOp.filed v) b (numbered v)).sys = s.sys :=
      ((queueOp_same rfl).2 (same_refl 68158272 (numbered v))).part .sys rfl
    rw [← e] at hsvc ho hsys
    rw [handoverEntry_none ((congrArg Svc.op hsvc :).trans hop)] at ht
    rw [ht]
    exact .inr (.inl ⟨hsys, congrArg Svc.asker hsvc, o, ho, hcode⟩)
  · obtain ⟨hrop, h⟩ := refuseOp_takeover (s := numbered v) (o := takeoverOp.filed v) rfl rfl b rfl hf
    have hsys : (refuseOp (takeoverOp.filed v) b (numbered v)).sys = s.sys := refuseOp_sys
    rw [← e] at hrop h hsys
    rw [handoverEntry_none hrop] at ht
    rw [ht]
    exact .inr (.inr ⟨hsys, h⟩)

/-! ### The frame TAKEOVER (R528) -/

theorem firmAnswers_any (h : firmAnswers s = true) : (s.svc.en && anyPup s) = true := by
  simp only [firmAnswers, Bool.and_eq_true] at h ⊢
  obtain ⟨⟨⟨hen, -⟩, hany⟩, -⟩ := h
  exact ⟨hen, hany⟩

/-- The modes of Table 15.2 that admit a takeover. -/
theorem takeover_modes (h : opAdmitted s takeoverOp = true) :
    s.sys.mode = .standby ∨ s.sys.mode = .online ∨ s.sys.mode = .maintain := by
  have hm : (opModes Opn.HANDOVER s.sys.mode && !(takeoverOp.code == Opn.HANDOVER && !s.sys.isoGrp.isEmpty)) = true := h
  obtain ⟨hm, -⟩ := Bool.and_eq_true_iff.1 hm
  simpa [opModes, Opn.HANDOVER, or_assoc] using hm

/-- Without a failing condition no takeover is under way. -/
theorem takeoverFault_none (h : takeoverFault s = none) : s.svc.op = none ∧ s.svc.newOn = none := by
  have hlast : (s.svc.asker.isSome || s.svc.op.isSome || s.svc.newOn.isSome) = false := by
    unfold takeoverFault at h
    split_ifs at h with _ _ _ _ h5
    simpa using h5
  simp only [Bool.or_eq_false_iff, Option.isSome_eq_false_iff, Option.isNone_iff_eq_none] at hlast
  exact ⟨hlast.1.2, hlast.2⟩

theorem opAdmitted_heard {a : Bool} {o : Op} (ha : opAdmitted s o = a) : opAdmitted (svcHeard s) o = a := ha

section
variable {x : Byte} {w : Word} {r : Nat} (hj : jackAnswers s = false) (hf : firmAnswers s = true) (hb : svcBusy s = false)
  (hs : secureOn s 14 = true)
include hj hf hb hs

theorem takeover_unkeyed (hw : w ≠ updKey) :
    exec (.takeover x w) s = .next (svcReply 0x33 x.toNat St.RANGE [updLast s] (svcHeard s)) := by
  show Host.Outcome.next (serve _ _ _ _ _ s) = _
  rw [serve_served hj hf hb hs, if_pos hw]
  rfl

theorem takeover_notAdmitted (ha : opAdmitted s takeoverOp = false) :
    exec (.takeover x updKey) s = .next (svcReply 0x33 x.toNat (modeStatus s) [updLast s] (svcHeard s)) := by
  show Host.Outcome.next (serve _ _ _ _ _ s) = _
  rw [serve_served hj hf hb hs, if_neg (not_not_intro rfl), if_pos (by rw [opAdmitted_heard ha]; rfl)]
  rfl

/-- The first condition of R528 that fails is the result. -/
theorem takeover_faulted (ha : opAdmitted s takeoverOp = true) (hr : takeoverFault s = some r) :
    ∃ t, exec (.takeover x updKey) s = .next t ∧ SameBut [.svc] s t ∧ t.svc.lastType = 0x33 ∧ t.svc.lastResult = r ∧
      t.svc.tx = s.svc.tx ++ [SvcFrame.mk 0xB3 x.toNat St.REFUSED [updLast t]] := by
  let t := putLast 0x33 r 0 (svcHeard s)
  have hx : exec (.takeover x updKey) s = .next (svcReply 0x33 x.toNat St.REFUSED [updLast t] t) := by
    show Host.Outcome.next (serve _ _ _ _ _ s) = _
    rw [serve_served hj hf hb hs, if_neg (not_not_intro rfl), if_neg (by rw [opAdmitted_heard ha]; decide),
      show takeoverFault (svcHeard s) = some r from hr]
  refine ⟨_, hx, ?_, rfl, rfl, rfl⟩
  exact ((svcReply_same rfl).2 ((putLast_same rfl).2 ((svcHeard_same rfl).2 (same_refl 67108864 s)))).sameBut rfl

theorem takeover_filed (ha : opAdmitted s takeoverOp = true) (hr : takeoverFault s = none) :
    exec (.takeover x updKey) s = .next (fileTakeover (.service x.toNat) (svcHeard s)) := by
  show Host.Outcome.next (serve _ _ _ _ _ s) = _
  rw [serve_served hj hf hb hs, if_neg (not_not_intro rfl), if_neg (by rw [opAdmitted_heard ha]; decide),
    show takeoverFault (svcHeard s) = none from hr]

end

end Sys2Proof.Machine
end

section
/-! The obligation on the takeover: its steps, its aborts, and the boundary at which the token passes (R529, R530). -/

namespace Sys2Proof.Machine

variable {s u : State} {p : Pup} {r : Nat}

/-! ### Sessions that end when nobody waits for a takeover (R103, R111) -/

theorem opComplete_unasked (h : u.svc.asker = none) (o : Op) (st budget : Nat) (more : List Word) :
    Quiet false u (opComplete o st budget more u) := by
  unfold opComplete
  rw [answerTakeover_none h, ite_self]
  split <;> simp

theorem withdrawOp_unasked (h : u.svc.asker = none) (o : Op) (dec : Nat) : Quiet false u (withdrawOp o dec u) := by
  unfold withdrawOp
  extract_lets _ v d e f
  have hf : Quiet false u (dropOp o f) := by
    unfold f
    split <;> simp [e, d, v]
  exact hf.trans (opComplete_unasked ((hf.eq Svc.asker fun _ => rfl).trans h) o _ _ _)

theorem abortTag_unasked (h : u.svc.asker = none) (id : Nat) : Quiet false u (abortTag id u) := by
  unfold abortTag
  split
  · next o _ => simpa using withdrawOp_unasked h o 5
  · simp

theorem forEach_unasked {α : Type} {f : α → State → State} (k : ∀ a v, v.svc.asker = none → Quiet false v (f a v)) (l : List α)
    (h : u.svc.asker = none) : Quiet false u (forEach l f u) := by
  induction l generalizing u with
  | nil => exact quiet_refl u
  | cons a l ih =>
    have ha := k a u h
    exact ha.trans (ih ((ha.eq Svc.asker fun _ => rfl).trans h))

theorem endSession_unasked (h : u.svc.asker = none) (n : Mb) (reason : Nat) : Quiet false u (endSession n reason u) := by
  unfold endSession
  split
  · exact quiet_refl u
  · let v := notifyTo Opc.NTF_SESSION_END [wd reason] n u
    have hv : Quiet false u v := by simp [v]
    have hl := forEach_unasked (fun id w hw => abortTag_unasked hw id) (notBegun v n) ((hv.eq Svc.asker fun _ => rfl).trans h)
    unfold closeSession
    rw [putSes_quiet]
    exact hv.trans hl

theorem endOldSessions_unasked (h : u.svc.asker = none) : Quiet false u (endOldSessions u) := by
  unfold endOldSessions
  refine forEach_unasked (fun n v hv => ?_) _ h
  split
  · split
    · exact endSession_unasked hv n 3
    · exact quiet_refl v
  · exact quiet_refl v

/-! ### The return from HANDOVER (R529, R530) -/

/-- The update manager with the takeover's grant, its shadow and its count taken away. -/
def takeoverLeft (s : State) : State := { s with svc := { s.svc with op := none, newOn := none, lead := 0 } }

theorem leaveHandover_quiet (s : State) : Quiet false (takeoverLeft s) (leaveHandover s) := by
  unfold leaveHandover
  extract_lets op _ v w
  have hw : Quiet false (takeoverLeft s) w := by
    have hv : v = takeoverLeft s := rfl
    clear_value v
    subst hv
    simp [w]
  clear_value op w
  cases op <;> simpa using hw

theorem takeoverLeft_quiet (h : Quiet false s u) : Quiet false (takeoverLeft s) (takeoverLeft u) :=
  ⟨congrArg (fun v : Svc => { v with newOn := none, lead := 0 }) h.svc, h.irq⟩

/-- The return to the former mode, and what stands of the update manager. -/
theorem takeover_leaves (h : s.sys.mode = .handover) (hf : s.sys.handoverFrom ≠ .handover) :
    Quiet false (takeoverLeft s) (sendAnnounce (leaveHandover s)) ∧
      (sendAnnounce (leaveHandover s)).sys = s.sys.entered s.sys.handoverFrom := by
  rw [sendAnnounce_quiet, sendAnnounce_sys, leaveHandover_sys h hf]
  exact ⟨leaveHandover_quiet s, rfl⟩

@[simp] theorem entered_active (m : Mode) (y : Sys) : (y.entered m).active = y.active := by unfold Sys.entered; split <;> rfl

/-- The registers of chapter 2 that say which Puppeteer is active and where HANDOVER returns to. -/
def Sys.role (y : Sys) : Mode × Mode × Pup × Bool := (y.mode, y.handoverFrom, y.active, y.simplex)

theorem restartPup_role (p : Pup) (s : State) : (restartPup p s).sys.role = s.sys.role := by cases p <;> rfl

theorem restartPup_svc (p : Pup) (s : State) : (restartPup p s).svc = s.svc := modPup_svc

/-! ### An abort (R530) -/

/-- The asker told, and the phase as the staged bank leaves it. -/
def takeoverAborted (r : Nat) (s : State) : State :=
  let a := answerTakeover St.ABORTED r 0 s
  { a with svc := { a.svc with phase := if (idleBank s).st == Bst.STAGED then 2 else 0 } }

theorem abortTakeover_eq (hp : s.svc.newOn = some p) (r : Nat) :
    abortTakeover r s = sendAnnounce (leaveHandover (restartPup p (takeoverAborted r s))) := by
  rw [abortTakeover, hp]
  rfl

theorem abortTakeover_ends (hp : s.svc.newOn = some p) (hm : s.sys.mode = .handover) (hf : s.sys.handoverFrom ≠ .handover) (r : Nat) :
    
    let t := abortTakeover r s
    t.svc.newOn = none ∧ t.svc.phase = (if (idleBank s).st == Bst.STAGED then 2 else 0) ∧ t.svc.asker = none ∧
      (s.svc.asker ≠ none → t.svc.lastResult = r) ∧ t.svc.books = s.svc.books ∧ t.svc.runB = s.svc.runB ∧
      t.sys.mode = s.sys.handoverFrom ∧ t.sys.active = s.sys.active := by
  obtain ⟨hasker, hlast, hapart⟩ := answerTakeover_ends St.ABORTED r 0 s
  have hasys : (answerTakeover St.ABORTED r 0 s).sys = s.sys := ((answerTakeover_same rfl).2 (same_refl 67108864 s)).part .sys rfl
  let v := restartPup p (takeoverAborted r s)
  have hrole : v.sys.role = s.sys.role := (restartPup_role p _).trans (congrArg Sys.role hasys :)
  have hsvc : v.svc = (takeoverAborted r s).svc := restartPup_svc p _
  have hb : v.svc.books = s.svc.books := (congrArg Svc.books hsvc :).trans (congrArg Svc.books hapart :)
  have hrunB : v.svc.runB = s.svc.runB := (congrArg Svc.runB hsvc :).trans (congrArg Svc.runB hapart :)
  have hphase : v.svc.phase = if (idleBank s).st == Bst.STAGED then 2 else 0 := (congrArg Svc.phase hsvc :)
  have hvasker : v.svc.asker = none := (congrArg Svc.asker hsvc :).trans hasker
  have hvlast : s.svc.asker ≠ none → v.svc.lastResult = r := fun h => (congrArg Svc.lastResult hsvc :).trans (hlast h)
  simp only [Sys.role, Prod.mk.injEq] at hrole
  obtain ⟨hvm, hvf, hva, -⟩ := hrole
  obtain ⟨hq, hsys⟩ := takeover_leaves (hvm.trans hm) (hvf ▸ hf)
  rw [abortTakeover_eq hp]
  refine ⟨hq.eq Svc.newOn fun _ => rfl, (hq.eq Svc.phase fun _ => rfl).trans hphase,
    (hq.eq Svc.asker fun _ => rfl).trans hvasker, fun h => (hq.eq Svc.lastResult fun _ => rfl).trans (hvlast h),
    hq.books.trans hb, hq.runB.trans hrunB, ?_, ?_⟩
  · rw [hsys, entered_mode, hvf]
  · rw [hsys, entered_active, hva]

/-! ### The boundary (R529 steps 5 to 7) -/

/-- The bank that ran is PREVIOUS, the other in TRIAL. -/
def takeoverBanks (s : State) : State :=
  modBank (!s.svc.runB) (fun x => { x with st := Bst.TRIAL, trials := 0 }) (modBank s.svc.runB (fun x => { x with st := Bst.PREVIOUS }) s)

/-- The token has passed to the new image. -/
def tokenPassed (p : Pup) (s : State) : State :=
  let v := takeoverBanks s
  setIrq Irq.FAILOVER { v with
    sys := { v.sys with active := p, simplex := true }
    svc := { v.svc with
      runB := !s.svc.runB, handovers := sat32 (v.svc.handovers + 1), trialAt := optime v, trialFailovers := 0
      trialRestart := false, phase := 6 } }

/-- The old Puppeteer restarts from the new bank, and the groups whose microcode differs are marked. -/
def newImageRuns (p : Pup) (s : State) : State :=
  let v := restartPup s.sys.active (tokenPassed p s)
  if microcodeDiffers v then { v with svc := { v.svc with phase := 7, reloads := allGrp } } else v

theorem completeTakeover_eq (hp : s.svc.newOn = some p) :
    completeTakeover s = sendAnnounce (leaveHandover (endOldSessions (answerTakeover St.OK 0 0 (newImageRuns p s)))) := by
  rw [completeTakeover, hp]
  rfl

theorem modBank_keeps (b : Bool) (f : Bank → Bank) (s : State) :
    (modBank b f s).svc.asker = s.svc.asker ∧ (modBank b f s).svc.handovers = s.svc.handovers ∧
      (modBank b f s).svc.runB = s.svc.runB ∧ (modBank b f s).svc.newOn = s.svc.newOn ∧ (modBank b f s).sys = s.sys := by
  cases b <;> exact ⟨rfl, rfl, rfl, rfl, rfl⟩

theorem takeoverBanks_states (s : State) :
    (bankOf (takeoverBanks s) (!s.svc.runB)).st = Bst.TRIAL ∧ (bankOf (takeoverBanks s) s.svc.runB).st = Bst.PREVIOUS := by
  unfold takeoverBanks
  rw [bankOf_modBank, bankOf_modBank_not, bankOf_modBank]
  exact ⟨rfl, rfl⟩

/-- The registers that tell of the boundary. -/
def tokenRegs (s : State) : (Bank × Bank × Nat) × Bool × Option Asker × Nat × (Mode × Mode × Pup × Bool) × Bool :=
  (s.svc.books, s.svc.runB, s.svc.asker, s.svc.handovers, s.sys.role, s.link.failover)

theorem tokenPassed_regs (p : Pup) (s : State) :
    tokenRegs (tokenPassed p s) = ((takeoverBanks s).svc.books, !s.svc.runB, s.svc.asker, sat32 (s.svc.handovers + 1),
      (s.sys.mode, s.sys.handoverFrom, p, true), true) := by
  obtain ⟨hasker, hhand, -, -, hsys⟩ := modBank_keeps s.svc.runB (fun x => { x with st := Bst.PREVIOUS }) s
  obtain ⟨hasker', hhand', -, -, hsys'⟩ := modBank_keeps (!s.svc.runB) (fun x => { x with st := Bst.TRIAL, trials := 0 })
    (modBank s.svc.runB (fun x => { x with st := Bst.PREVIOUS }) s)
  have hs : (takeoverBanks s).sys = s.sys := hsys'.trans hsys
  have hh : (takeoverBanks s).svc.handovers = s.svc.handovers := hhand'.trans hhand
  have ha : (takeoverBanks s).svc.asker = s.svc.asker := hasker'.trans hasker
  have hbit : (tokenPassed p s).link.failover = true := by
    show ((takeoverBanks s).link.irqStatus ||| 2 ^ Irq.FAILOVER).testBit Irq.FAILOVER = true
    rw [Nat.testBit_or, Nat.testBit_two_pow_self, Bool.or_true]
  rw [tokenRegs, hbit, ← hs, ← hh, ← ha]
  rfl

/-- The restart of the old Puppeteer and the marking of the groups touch none of them. -/
theorem newImageRuns_regs (p : Pup) (s : State) : tokenRegs (newImageRuns p s) = tokenRegs (tokenPassed p s) := by
  unfold newImageRuns
  extract_lets v
  have hsvc : v.svc = (tokenPassed p s).svc := restartPup_svc _ _
  have hrole : v.sys.role = (tokenPassed p s).sys.role := restartPup_role _ _
  have hlink : v.link = (tokenPassed p s).link := ((restartPup_same rfl).2 (same_refl 32 (tokenPassed p s))).part .link rfl
  have hv : tokenRegs v = tokenRegs (tokenPassed p s) := by rw [tokenRegs, hsvc, hrole, hlink, tokenRegs]
  rw [← hv]
  clear_value v
  split <;> rfl

/-- The token has passed, the former mode returns, and whoever asked has the result 0. -/
theorem completeTakeover_passes (hp : s.svc.newOn = some p) (hm : s.sys.mode = .handover) (hf : s.sys.handoverFrom ≠ .handover) :
    
    let t := completeTakeover s
    t.sys.active = p ∧ t.sys.simplex = true ∧ t.sys.mode = s.sys.handoverFrom ∧ t.svc.runB = (!s.svc.runB) ∧
      (runBank t).st = Bst.TRIAL ∧ (idleBank t).st = Bst.PREVIOUS ∧ t.svc.handovers = sat32 (s.svc.handovers + 1) ∧
      t.svc.newOn = none ∧ t.link.irqStatus.testBit Irq.FAILOVER = true ∧ t.svc.asker = none ∧
      (s.svc.asker ≠ none → t.svc.lastResult = 0) := by
  have hregs := (newImageRuns_regs p s).trans (tokenPassed_regs p s)
  rw [completeTakeover_eq hp]
  generalize newImageRuns p s = n at hregs ⊢
  simp only [tokenRegs, Sys.role, Prod.mk.injEq] at hregs
  obtain ⟨hbooks, hrunB, hasker, hhand, ⟨hmode, hfrom, hactive, hsimplex⟩, hirq⟩ := hregs
  obtain ⟨hgone, hlast, hapart⟩ := answerTakeover_ends St.OK 0 0 n
  have ha : Same 67108864 n (answerTakeover St.OK 0 0 n) := (answerTakeover_same rfl).2 (same_refl _ _)
  have hsys : (endOldSessions (answerTakeover St.OK 0 0 n)).sys = n.sys :=
    ((endOldSessions_same rfl).2 (ha.mono rfl) : Same 339040064 n _).part .sys rfl
  have hq := endOldSessions_unasked hgone
  have hbit := (congrArg Link.failover (ha.part .link rfl) :).trans hirq
  generalize answerTakeover St.OK 0 0 n = a at *
  generalize endOldSessions a = e at *
  obtain ⟨hleft, hentered⟩ := takeover_leaves (s := e) (by rw [hsys, hmode, hm]) (by rw [hsys, hfrom]; exact hf)
  have hall := (takeoverLeft_quiet hq).trans hleft
  generalize sendAnnounce (leaveHandover e) = t at *
  have hb : t.svc.books = (takeoverBanks s).svc.books := hall.books.trans ((congrArg Svc.books hapart :).trans hbooks)
  have hr : t.svc.runB = !s.svc.runB := hall.runB.trans ((congrArg Svc.runB hapart :).trans hrunB)
  have hh := (hall.eq Svc.handovers fun _ => rfl).trans ((congrArg Svc.handovers hapart :).trans hhand)
  obtain ⟨htrial, hprevious⟩ := takeoverBanks_states s
  refine ⟨?_, ?_, ?_, hr, ?_, ?_, hh, hall.eq Svc.newOn fun _ => rfl, ?_, (hall.eq Svc.asker fun _ => rfl).trans hgone, fun h => ?_⟩
  · rw [hentered, entered_active, hsys, hactive]
  · rw [hentered, entered_simplex, hsys, hsimplex]
  · rw [hentered, entered_mode, hsys, hfrom]
  · rw [runBank, hr, bankOf_books hb, htrial]
  · rw [idleBank, hr, bankOf_books hb, Bool.not_not, hprevious]
  · exact hall.irq.trans hbit
  · exact (hall.eq Svc.lastResult fun _ => rfl).trans (hlast (hasker ▸ h))

/-! ### The steps -/

theorem shadowBootDone_starts (hp : s.svc.newOn = some p) (h3 : s.svc.phase = 3) (hi : imgCheck s (idleBank s) = none) :
    ∃ t, exec .shadowBootDone s = .next t ∧ SameBut [.sys, .svc] s t ∧ t.svc.phase = 4 ∧ t.svc.syncAt = s.clock ∧
      (t.sys.pup p).up = true := by
  let u := modPup p (fun x => { x with up := true, alive := false, watched := false, inStep := false }) s
  have hx : exec .shadowBootDone s = .next { u with svc := { u.svc with phase := 4, syncAt := u.clock } } := by
    show execShadowBootDone s = _
    rw [execShadowBootDone, hp]
    simp only [h3, hi, ne_eq, not_true_eq_false, if_false]
    rfl
  refine ⟨_, hx, ?_, rfl, ?_, ?_⟩
  · refine Same.sameBut (k := 67108896) ?_ rfl
    exact (same_svc (m := 67108896) (t := u) rfl (.inr (by rfl)) (.inr (by rfl))).2 ((modPup_same rfl).2 (same_refl _ s))
  · exact ((modPup_same rfl).2 (same_refl 32 s) : Same 32 s u).part .clock rfl
  · cases p <;> rfl

theorem shadowBootDone_aborts (hp : s.svc.newOn = some p) (h3 : s.svc.phase = 3) (hm : s.sys.mode = .handover)
    (hf : s.sys.handoverFrom ≠ .handover) (hi : imgCheck s (idleBank s) = some r) :
    ∃ t, exec .shadowBootDone s = .next t ∧ t.svc.newOn = none ∧ (idleBank t).st = Bst.REJECTED ∧ t.svc.phase = 0 ∧
      t.svc.asker = none ∧ (s.svc.asker ≠ none → t.svc.lastResult = r) ∧ t.sys.mode = s.sys.handoverFrom ∧
      t.svc.runB = s.svc.runB ∧ t.sys.active = s.sys.active := by
  let v := modBank (!s.svc.runB) (fun k => { k with st := Bst.REJECTED }) s
  have hx : exec .shadowBootDone s = .next (abortTakeover r v) := by
    show execShadowBootDone s = _
    rw [execShadowBootDone, hp]
    simp only [h3, hi, ne_eq, not_true_eq_false, if_false]
    rfl
  obtain ⟨hasker, -, hrunB, hnew, hsys⟩ := modBank_keeps (!s.svc.runB) (fun k => { k with st := Bst.REJECTED }) s
  have hbank : (bankOf v (!s.svc.runB)).st = Bst.REJECTED := congrArg Bank.st (bankOf_modBank _ _ s)
  obtain ⟨anew, aphase, aasker, alast, abooks, arunB, amode, aactive⟩ :=
    abortTakeover_ends (s := v) (hnew.trans hp) (by rw [hsys]; exact hm) (by rw [hsys]; exact hf) r
  have hst : (idleBank v).st = Bst.REJECTED := by rw [idleBank, hrunB, hbank]
  refine ⟨_, hx, anew, ?_, ?_, aasker, fun h => alast (hasker ▸ h), amode.trans (congrArg Sys.handoverFrom hsys), arunB.trans hrunB,
    aactive.trans (congrArg Sys.active hsys)⟩
  · rw [idleBank, arunB, bankOf_books abooks]
    exact hst
  · rw [aphase, hst]
    rfl

theorem mirrorReady_leads (hp : s.svc.newOn = some p) (h4 : s.svc.phase = 4) :
    ∃ t, exec .mirrorReady s = .next t ∧ SameBut [.sys, .tin, .svc] s t ∧ t.svc.phase = 5 ∧
      t.svc.lead = pn s Prm.UPD_LEAD_CYC ∧ (t.sys.pup p).alive = true ∧ (t.sys.pup p).inStep = true := by
  let v := modPup p (fun x => { x with alive := true, watched := true, inStep := true }) s
  let u := clearWatch (pupFlag p) v
  have hx : exec .mirrorReady s = .next { u with svc := { u.svc with phase := 5, lead := pn u Prm.UPD_LEAD_CYC } } := by
    show execMirrorReady s = _
    rw [execMirrorReady, hp]
    simp only [h4, ne_eq, not_true_eq_false, if_false]
    rfl
  have hv : Same 32 s v := (modPup_same rfl).2 (same_refl _ s)
  have hu : Same 8192 v u := (clearWatch_same rfl).2 (same_refl _ v)
  have hsu : Same 8224 s u := (hv.mono rfl).trans (hu.mono rfl)
  refine ⟨_, hx, ?_, rfl, ?_, ?_⟩
  · refine Same.sameBut (k := 67117088) ?_ rfl
    exact (same_svc (m := 67117088) (t := u) rfl (.inr (by rfl)) (.inr (by rfl))).2 (hsu.mono rfl)
  · show pn u _ = pn s _
    rw [pn, pget, hsu.part .pf rfl]
    rfl
  · show (u.sys.pup p).alive = true ∧ (u.sys.pup p).inStep = true
    rw [hu.part .sys rfl]
    cases p <;> exact ⟨rfl, rfl⟩

/-- A mirror that is late aborts the takeover with result 11, at the end of its time (R530). -/
theorem syncTimeout_aborts (hp : s.svc.newOn = some p) (h4 : s.svc.phase = 4) (hm : s.sys.mode = .handover)
    (hf : s.sys.handoverFrom ≠ .handover) :
    ∃ t, exec .syncTimeout s = .next t ∧ t.clock = max s.clock (s.svc.syncAt + pn s Prm.UPD_SYNC_MAX_MS * clkMs) ∧
      t.svc.newOn = none ∧ (idleBank t).st = (idleBank s).st ∧ t.svc.asker = none ∧
      (s.svc.asker ≠ none → t.svc.lastResult = 11) ∧ t.sys.mode = s.sys.handoverFrom ∧ t.svc.runB = s.svc.runB := by
  let v := passTo (s.svc.syncAt + pn s Prm.UPD_SYNC_MAX_MS * clkMs) s
  have hx : exec .syncTimeout s = .next (abortTakeover 11 v) := if_pos ⟨h4, by rw [hp]; rfl⟩
  have hq : Quiet false s v := by simp [v]
  have hsys : v.sys = s.sys := ((passTo_same rfl).2 (same_refl 109708098 s)).part .sys rfl
  have hasker := hq.eq Svc.asker fun _ => rfl
  obtain ⟨anew, -, aasker, alast, abooks, arunB, amode, -⟩ := abortTakeover_ends (s := v) ((hq.eq Svc.newOn fun _ => rfl).trans hp)
    (by rw [hsys]; exact hm) (by rw [hsys]; exact hf) 11
  refine ⟨_, hx, ?_, anew, ?_, aasker, fun h => alast (hasker ▸ h), amode.trans (congrArg Sys.handoverFrom hsys), arunB.trans hq.runB⟩
  · exact (((abortTakeover_same rfl).2 (same_refl 2549217144 v)).part .clock rfl).trans (passTo_clock _ s)
  · rw [idleBank, arunB, hq.runB, bankOf_books (abooks.trans hq.books), idleBank]

/-- Without a shadow on the new image its steps are not awaited. -/
theorem steps_none (h : s.svc.newOn = none) :
    exec .shadowBootDone s = .next s ∧ exec .mirrorReady s = .next s ∧ exec .syncTimeout s = .next s := by
  refine ⟨?_, ?_, if_neg fun e => ?_⟩
  · show execShadowBootDone s = _
    rw [execShadowBootDone, h]
  · show execMirrorReady s = _
    rw [execMirrorReady, h]
  · obtain ⟨-, e⟩ := e
    rw [h] at e
    exact absurd e (by decide)

/-- Settles O52: the frame, each step with its abort, and the boundary. -/
theorem aTakeoverRunsItsStepsOrIsAborted : Obligations.ATakeoverRunsItsStepsOrIsAborted := by
  refine fun s q => ⟨fun hj hf hb hs => ⟨fun w hw => takeover_unkeyed hj hf hb hs hw, takeover_notAdmitted hj hf hb hs,
    fun ha r hr => takeover_faulted hj hf hb hs ha hr, fun ha hr _ => ⟨_, takeover_filed hj hf hb hs ha hr, ?_⟩⟩, steps_none,
    fun h => if_neg fun ⟨h5, h0⟩ => h.elim (absurd h5) (absurd h0), fun p hp => ⟨shadowBootDone_starts hp, mirrorReady_leads hp,
      fun hm hf => ⟨fun h3 r hi => shadowBootDone_aborts hp h3 hm hf hi, fun h4 => syncTimeout_aborts hp h4 hm hf,
        fun h5 h0 => ⟨_, if_pos ⟨h5, h0⟩, completeTakeover_passes hp hm hf⟩⟩⟩⟩
  obtain ⟨hop, hnew⟩ := takeoverFault_none hr
  exact fileTakeover_outcomes (s := svcHeard s) q.toNat (firmAnswers_any hf) hop hnew (takeover_modes ha)

end Sys2Proof.Machine
end

section
/-! Every command: the front one runs, it completes, and the others wait. -/

namespace Sys2Proof.Machine

/-- No row of the frame table names the queue of waiting commands. -/
theorem touches_pending (c : Instr) : (maskOf c.touches).testBit Part.pending.idx = false := by
  rw [maskOf_testBit]
  cases c <;> rfl

/-- Settles O54: the definition of a step on a queue that is not empty. -/
theorem aStepRunsTheFrontCommand : Obligations.AStepRunsTheFrontCommand := fun _ _ _ => rfl

/-- Settles O56, by the frame of each command, none of which names the queue. -/
theorem everyCommandCompletes : Obligations.EveryCommandCompletes := by
  intro c s
  obtain ⟨t, ht, hs⟩ := exec_ends c s
  exact ⟨t, ht, hs.part .pending (touches_pending c)⟩

end Sys2Proof.Machine
end

section
/-! What a write of a direct register does. -/

namespace Sys2Proof.Machine

variable {s : State} {cs : Cs} {secure read : Bool} {a k : Nat} {v w : Word}

/-! ### Frames of one word -/

/-- A register that both selects reach: no queue level, no data window, and not H_RESET (R72, Table 3.4). -/
abbrev OpenReg (a : Nat) : Prop := a < 0x40 ∧ (a < 0x10 ∨ 0x30 ≤ a) ∧ a ≠ 0x07

theorem deniedAddr_open (ha : OpenReg a) : deniedAddr secure read a = false := by
  obtain ⟨-, hwindow, hreset⟩ := ha
  simp [deniedAddr]
  omega

theorem isQdata_open (ha : OpenReg a) : isQdata a = false := by
  obtain ⟨-, hwindow, -⟩ := ha
  simp [isQdata]
  omega

/-- What a write frame of one word drives, before the register is written. -/
abbrev driven (s : State) : State := drive [statusWord s] none (writeBits 1) s

theorem goodWrite_open (hl : linkUp s = true) (ha : OpenReg a) :
    goodWrite cs a [v] w s = noteResult 0 a (writeReg (cs == .s) a v w (driven s)) := by
  have e : a % 64 = a := Nat.mod_eq_of_lt ha.1
  exact goodWrite_one hl (by rw [e, deniedAddr_open ha]) (by rw [e, isQdata_open ha]) ha.1

theorem sameBut_link {t : State} (h : Same 64 s t) : SameBut [.link] s t := h.sameBut rfl

theorem sameBut_link_inq {t : State} (h : Same 192 s t) : SameBut [.link, .inq] s t := h.sameBut rfl

/-! ### W1C registers (R81, R93, R94) -/

/-- A bit of a W1C register, after what sets bits in the same cycle and then the write: the set wins. -/
theorem w1c_testBit {r r' : Nat} (hk : k < 32) (h : r'.testBit k = (r.testBit k || w.bit k)) :
    (r' &&& (~~~(v &&& ~~~w)).toNat).testBit k = (w.bit k || (r.testBit k && !v.bit k)) := by
  rw [Nat.testBit_and, keepMask_testBit v w hk, h, Bool.or_comm (r.testBit k), ← Bool.or_and_distrib_left]

theorem mem_bitsOf {n : Nat} (hk : k < n) : decide (k ∈ (List.range n).filter fun j => w.bit j) = w.bit k := by
  simp [hk]

theorem exists_boxNamed {p : Mb → Bool} (hk : k < 16) :
    decide (∃ n ∈ (List.finRange 16).filter p, n.val = k) = p ⟨k, hk⟩ := by
  rw [Bool.eq_iff_iff, decide_eq_true_iff]
  constructor
  · rintro ⟨n, hn, rfl⟩
    exact (List.mem_filter.1 hn).2
  · exact fun h => ⟨⟨k, hk⟩, List.mem_filter.2 ⟨List.mem_finRange _, h⟩, rfl⟩

/-- The bits of channels 10 to 13, in either half of a register. -/
theorem nsBits_bit : ∀ k < 32, nsBits.bit k = !(k % 16 < 10 || 13 < k % 16) := by decide

/-- The bits of a word that a select reaches. -/
theorem seen_bit (hk : k < 32) : (seen secure v).bit k = (v.bit k && (secure || k % 16 < 10 || 13 < k % 16)) := by
  cases secure
  · have h : (v &&& ~~~nsBits).bit k = (v.bit k && !nsBits.bit k) := by
      simp [bit_getLsbD, hk]
    rw [seen, if_neg (by decide), h, nsBits_bit k hk, Bool.not_not, Bool.false_or]
  · simp [seen]

theorem clearIrq_testBit (hk : k < 13) :
    (clearIrq v w s).link.irqStatus.testBit k = (w.bit k || (s.link.irqStatus.testBit k && !v.bit k)) := by
  exact w1c_testBit (by omega) (by rw [forEach_setIrq, mem_bitsOf hk])

theorem clearDbOut_testBit (hk : k < 16) :
    (clearDbOut secure v w s).link.dbOut.testBit k =
      (w.bit k || (s.link.dbOut.testBit k && !(v.bit k && (secure || k < 10 || 13 < k)))) := by
  have hs : (seen secure v).bit k = (v.bit k && (secure || k < 10 || 13 < k)) := by
    rw [seen_bit (by omega), Nat.mod_eq_of_lt hk]
  rw [← hs]
  exact w1c_testBit (by omega) (by rw [forEach_setDbOut, exists_boxNamed hk])

/-- Ending what the firmware owes to inbound queues touches no register. -/
theorem forEach_undamaged_link (l : List Mb) (s : State) :
    (forEach l (fun n s => { s with inq := vmod s.inq n fun q => { q with damaged := false } }) s).link = s.link :=
  ((forEach_same (m := 128) fun _ _ => by simp).2 (same_refl _ _)).part .link rfl

theorem clearCollide_testBit (hk : k < 32) :
    (clearCollide secure v w s).link.collide.testBit k =
      (w.bit k || (s.link.collide.testBit k && !(v.bit k && (secure || k % 16 < 10 || 13 < k % 16)))) := by
  rw [← seen_bit hk, clearCollide]
  dsimp only
  rw [forEach_undamaged_link]
  exact w1c_testBit hk (by rw [forEach_setCollide, mem_bitsOf hk])

/-! ### The doorbell (R91) -/

theorem offerIn_words (m n : Mb) : ((offerIn m s).inq.get n).words = (s.inq.get n).words := by
  by_cases h : n = m
  · subst h
    simp [offerIn]
  · simp [offerIn, vmod_get_ne _ _ _ _ h]

theorem offerIn_offered (m n : Mb) :
    ((offerIn m s).inq.get n).offered = if n = m then (s.inq.get n).words.length else (s.inq.get n).offered := by
  by_cases h : n = m
  · subst h
    simp [offerIn]
  · simp [offerIn, vmod_get_ne _ _ _ _ h, h]

/-- Every word of each queue of a list is offered, and no other. -/
theorem forEach_offerIn (l : List Mb) (s : State) (n : Mb) :
    ((forEach l offerIn s).inq.get n).words = (s.inq.get n).words ∧
      ((forEach l offerIn s).inq.get n).offered = if n ∈ l then (s.inq.get n).words.length else (s.inq.get n).offered := by
  induction l generalizing s with
  | nil => simp [forEach]
  | cons m l ih =>
    obtain ⟨hwords, hoffered⟩ := ih (offerIn m s)
    rw [forEach, hwords, hoffered, offerIn_words, offerIn_offered]
    refine ⟨rfl, ?_⟩
    by_cases hn : n = m <;> by_cases hm : n ∈ l <;> simp [hn, hm]

theorem ringDoorbell_offers (cs : Cs) (n : Mb) :
    ((ringDoorbell (cs == .s) v s).inq.get n).words = (s.inq.get n).words ∧
      ((ringDoorbell (cs == .s) v s).inq.get n).offered =
        if v.bit n.val = true ∧ n.val < 14 ∧ (cs = .s ∨ n.val < 10) then (s.inq.get n).words.length
        else (s.inq.get n).offered := by
  have hn : n ∈ (List.finRange 16).filter (fun m => (seen (cs == .s) v).bit m.val && decide (m.val < 14)) ↔
      v.bit n.val = true ∧ n.val < 14 ∧ (cs = .s ∨ n.val < 10) := by
    have h16 : n.val % 16 = n.val := Nat.mod_eq_of_lt n.isLt
    by_cases h : n.val < 14
    · simp [seen_bit (show n.val < 32 by omega), h16, h, show ¬ 13 < n.val by omega]
    · simp [h]
  obtain ⟨hwords, hoffered⟩ := forEach_offerIn
    ((List.finRange 16).filter fun m => (seen (cs == .s) v).bit m.val && decide (m.val < 14)) s n
  refine ⟨hwords, hoffered.trans ?_⟩
  simp only [hn]

/-- The outcome of a command that is a good write frame of one word to an open register. -/
theorem next_goodWrite (hl : linkUp s = true) (ha : OpenReg a) :
    (Host.Outcome.next (goodWrite cs a [v] w s) : Host.Outcome State Fault Refusal) =
      .next (noteResult 0 a (writeReg (cs == .s) a v w (driven s))) := congrArg _ (goodWrite_open hl ha)

/-- Settles O1, register by register. -/
theorem registerWritesTakeEffect : Obligations.RegisterWritesTakeEffect := by
  refine fun s hl => ⟨fun v w => ?_, fun v => ?_, fun cs v => ?_, fun cs v w => ?_, fun cs v w => ?_, fun cs v => ?_, fun cs v => ?_,
    ⟨_, rfl, rfl⟩⟩
  · exact ⟨_, next_goodWrite hl (by decide), sameBut_link (by simp [writeReg]), rfl, fun k => clearIrq_testBit⟩
  · exact ⟨_, next_goodWrite hl (by decide), sameBut_link (by simp [writeReg]), rfl, rfl⟩
  · exact ⟨_, next_goodWrite hl (by decide), sameBut_link_inq (by simp [writeReg]), ringDoorbell_offers cs⟩
  · exact ⟨_, next_goodWrite hl (by decide), sameBut_link (by simp [writeReg]), fun k => clearDbOut_testBit⟩
  · exact ⟨_, next_goodWrite hl (by decide), sameBut_link_inq (by simp [writeReg]), fun k => clearCollide_testBit⟩
  · exact ⟨_, next_goodWrite hl (by decide), sameBut_link (by simp [writeReg]), rfl⟩
  · exact ⟨_, next_goodWrite hl (by decide), sameBut_link (by simp [writeReg]), rfl⟩

end Sys2Proof.Machine
end

section
/-! What a read frame of one register returns, and the frames as they are clocked in. -/

namespace Sys2Proof.Machine

variable {s : State} {cs : Cs} {secure rpt inc : Bool} {a bits : Nat} {v w : Word} {r : Reader}

/-! ### Reads of a register -/

/-- What a good read frame of one register leaves: the status word, the register's word with its CRC, and the read's effect. -/
def readsOne (secure : Bool) (a : Nat) (s : State) : State :=
  let r := readReg .spi secure a s
  noteResult 0 a (drive [statusWord s, r.1] (some (crc16 (wordsBytes [r.1.toNat]))) 112 r.2)

theorem goodRead_open (hl : linkUp s = true) (ha : OpenReg a) (hn : (notReadyAddr a && !s.sys.fwReady) = false) :
    goodRead cs false a 1 true s = readsOne (cs == .s) a s :=
  goodRead_one hl (deniedAddr_open ha) (isQdata_open ha) hn

theorem readsOne_same : Same 64 s (readsOne secure a s) := by simp [readsOne]

theorem frameAddrs_one (ha : a < 64) : frameAddrs a inc 1 = [a] := by
  simp [frameAddrs, Nat.mod_eq_of_lt ha]

theorem readWords_one (n : Nat) :
    readWords secure rpt inc ([a].take n) 0 s = readWords secure rpt false ([a].take n) 0 s := by
  cases n <;> simp [readWords]

/-- In a burst of one word nothing comes after the word, so that an incrementing one is as any other. -/
theorem carryRead_inc (ha : a < 64) : carryRead cs rpt a inc 1 bits s = carryRead cs rpt a false 1 bits s := by
  simp only [carryRead, readOut, frameAddrs_one ha, readWords_one (inc := inc)]

theorem carryRead_open (hl : linkUp s = true) (ha : OpenReg a) (hn : (notReadyAddr a && !s.sys.fwReady) = false) :
    carryRead cs false a inc 1 112 s = readsOne (cs == .s) a s := by
  rw [carryRead_inc ha.1, ← goodRead_open hl ha hn]
  simp [goodRead, hl]

theorem readReg_reserved (h : 0x37 ≤ a) (ha : a < 0x40) : readReg .spi secure a s = (0, s) := by
  interval_cases a <;> rfl

theorem zeroWord_bytes : wordsBytes [(0 : Word).toNat] = [0, 0, 0, 0] := by decide

theorem readsOne_reserved (h : 0x37 ≤ a) (ha : a < 0x40) : readsOne secure a s = { s with link := { s.link with
    result := 0, miso := [statusWord s, 0], misoCrc := some (crc16 [0, 0, 0, 0]), misoBits := 112 } } := by
  rw [readsOne, readReg_reserved h ha]
  dsimp only
  rw [zeroWord_bytes]
  rfl

theorem writeReg_reserved (h : 0x37 ≤ a) (ha : a < 0x40) : writeReg secure a v w s = s := by
  interval_cases a <;> rfl

/-- The word that a read of H_LOCK returns (R82). -/
def lockCode : Option Reader → Word
  | none => 0
  | some .spi => 1
  | some .bridge => 2

theorem readLock_eq (r : Reader) (s : State) :
    readLock r s = (lockCode s.link.lock, { s with link := { s.link with lock := some (s.link.lock.getD r) } }) := by
  have keep : ∀ x, s.link.lock = x → s = { s with link := { s.link with lock := x } } := by
    rintro _ rfl
    rfl
  rw [readLock]
  match h : s.link.lock with
  | none => rfl
  | some .spi => exact congrArg (Prod.mk 1) (keep _ h)
  | some .bridge => exact congrArg (Prod.mk 2) (keep _ h)

theorem releaseLock_eq (r : Reader) (v : Word) (s : State) :
    releaseLock r v s = { s with link := { s.link with
      lock := if v.field 0 8 = 0 ∧ s.link.lock = some r then none else s.link.lock } } := by
  rw [releaseLock]
  split <;> rfl

theorem readReg_optimeL (h : s.sys.fwReady = true) : readReg r secure 0x0E s = readOptimeL s := by
  simp [readReg, h]

theorem readReg_optimeH (h : s.sys.fwReady = true) : readReg r secure 0x0F s = readOptimeH s := by
  simp [readReg, h]

/-- A frame may read the words of OPTIME once the firmware is ready (R79). -/
theorem ready_reads (h : s.sys.fwReady = true) : (notReadyAddr a && !s.sys.fwReady) = false := by simp [h]

theorem readBy_spi (hl : linkUp s = true) (ha : OpenReg a) (hn : (notReadyAddr a && !s.sys.fwReady) = false) :
    readBy .spi a s = readsOne false a s := goodRead_open hl ha hn

theorem readBy_bridge (h : bridgeUp s = true) : readBy .bridge a s = bridgeReg a s := if_pos h

theorem bridgeReg_lock : bridgeReg 0x06 s = { s with link := { s.link with
    lock := some (s.link.lock.getD .bridge), bridgeWord := lockCode s.link.lock } } := by
  show (let r := readLock .bridge s; { r.2 with link := { r.2.link with bridgeWord := r.1 } }) = _
  rw [readLock_eq]

/-- The frame in which the SPI reads H_LOCK. -/
theorem readsOne_lock : (readsOne false 0x06 s).link.lock = some (s.link.lock.getD .spi) ∧
    (readsOne false 0x06 s).link.miso = [statusWord s, lockCode s.link.lock] := by
  have h : readReg .spi false 0x06 s = _ := readLock_eq .spi s
  rw [readsOne, h]
  exact ⟨rfl, rfl⟩

/-- Both interfaces read the free lock in one core cycle: the bridge's read does not see the SPI's (R83). -/
theorem readLockBoth_free (hl : linkUp s = true) (hb : bridgeUp s = true) (h : s.link.lock = none) :
    readLockBoth s = { readsOne false 0x06 s with link := { (readsOne false 0x06 s).link with bridgeWord := 0 } } := by
  simp [readLockBoth, hb, hl, h, readBy_spi hl (a := 6) (by decide) rfl]

/-- Settles O3, register by register. -/
theorem lockAndReadsWithASideEffect : Obligations.LockAndReadsWithASideEffect := by
  refine ⟨fun s v hl => ⟨?_, fun hb => ?_, fun hb hfree => ?_, ?_, fun hb => ?_⟩,
    fun s hl => ⟨?_, fun hb => ?_, fun hf => ?_, fun hf => ?_, fun hf hb => ⟨?_, ?_⟩⟩⟩
  · obtain ⟨hlock, hmiso⟩ := readsOne_lock (s := s)
    exact ⟨_, congrArg Host.Outcome.next (readBy_spi hl (by decide) rfl), sameBut_link readsOne_same, hlock, hmiso⟩
  · exact ⟨_, congrArg Host.Outcome.next ((readBy_bridge hb).trans bridgeReg_lock), rfl⟩
  · obtain ⟨hlock, hmiso⟩ := readsOne_lock (s := s)
    rw [hfree] at hlock hmiso
    refine ⟨_, congrArg Host.Outcome.next (readLockBoth_free hl hb hfree), sameBut_link ?_, hlock, hmiso, rfl⟩
    exact (same_link rfl).2 readsOne_same
  · exact ⟨_, next_goodWrite hl (by decide), sameBut_link (by simp [writeReg]), congrArg (·.link.lock) (releaseLock_eq .spi v _)⟩
  · exact ⟨_, congrArg Host.Outcome.next ((if_pos hb).trans (releaseLock_eq .bridge v s)), rfl⟩
  · exact ⟨_, congrArg Host.Outcome.next (readBy_spi hl (by decide) rfl), sameBut_link readsOne_same, rfl, rfl, rfl, rfl, rfl⟩
  · exact congrArg Host.Outcome.next (readBy_bridge hb)
  · refine ⟨_, congrArg Host.Outcome.next (readBy_spi hl (by decide) (ready_reads hf)), sameBut_link readsOne_same, ?_⟩
    rw [readsOne, readReg_optimeL hf]
    exact ⟨rfl, rfl⟩
  · refine ⟨_, congrArg Host.Outcome.next (readBy_spi hl (by decide) (ready_reads hf)), sameBut_link readsOne_same, ?_⟩
    rw [readsOne, readReg_optimeH hf]
    exact ⟨rfl, rfl⟩
  · refine ⟨_, congrArg Host.Outcome.next (readBy_bridge hb), sameBut_link (by simp), ?_⟩
    rw [bridgeReg, readReg_optimeL hf]
    exact ⟨rfl, rfl⟩
  · refine ⟨_, congrArg Host.Outcome.next (readBy_bridge hb), sameBut_link (by simp), ?_⟩
    rw [bridgeReg, readReg_optimeH hf]
    exact ⟨rfl, rfl⟩

/-! ### Frames as they are clocked in -/

/-- A read frame of one word with a good header that ends after its CRC. -/
structure ReadsWord (f : SpiRead) (a : Nat) : Prop where
  mode : f.mode12 = false
  crc : headerBad f.header false = false
  reads : f.header.bit 31 = true
  fresh : f.header.bit 30 = false
  addr : f.header.field 24 6 = a
  len : f.header.field 16 7 = 0
  bits : f.bits = 112

theorem spiReadFrame_open {f : SpiRead} (hl : linkUp s = true) (hf : ReadsWord f a) (ha : OpenReg a)
    (hn : (notReadyAddr a && !s.sys.fwReady) = false) : exec (.spiReadFrame f) s = .next (readsOne (f.cs == .s) a s) := by
  show execSpiReadFrame f s = _
  simp [execSpiReadFrame, readFrame, hl, hf.mode, hf.crc, hf.reads, hf.fresh, hf.addr, hf.len, hf.bits, carryRead_open hl ha hn]

/-- Settles O2, the read and the write. -/
theorem reservedAddressesReadZero : Obligations.ReservedAddressesReadZero := by
  intro s cs a hl h
  have ha : OpenReg a.val := ⟨a.isLt, by omega, by omega⟩
  refine ⟨fun f _ hmode hcrc hdir hrpt haddr hlen hbits => ?_, fun v => ?_⟩
  · refine (spiReadFrame_open hl ⟨hmode, hcrc, hdir, hrpt, haddr, hlen, hbits⟩ ha ?_).trans ?_
    · simp [notReadyAddr]
      omega
    · rw [readsOne_reserved h a.isLt]
  · refine (next_goodWrite hl ha).trans ?_
    rw [writeReg_reserved h a.isLt]
    rfl

/-- A write frame of one word with a good header that ends at its last bit. -/
structure WritesWord (f : SpiWrite) (v : Word) : Prop where
  mode : f.mode12 = false
  crc : headerBad f.header false = false
  writes : f.header.bit 31 = false
  fresh : f.header.bit 30 = false
  fixed : f.header.bit 23 = false
  len : f.header.field 16 7 = 0
  bits : f.bits = 80
  words : f.words = [v]

/-- The data CRC alone decides whether such a frame is carried out (R67). -/
theorem spiWriteFrame_one {f : SpiWrite} (hl : linkUp s = true) (hf : WritesWord f v) :
    exec (.spiWriteFrame f) s = .next
      (if crc16 (wordsBytes [v.toNat]) = f.dcrc.toNat then goodWrite f.cs (f.header.field 24 6) [v] 0 s
        else noteResult Res.DATA_CRC (f.header.field 24 6) (driven s)) := by
  show execSpiWriteFrame f s = _
  simp [execSpiWriteFrame, writeFrame, goodWrite, hl, hf.mode, hf.crc, hf.writes, hf.fresh, hf.fixed, hf.len, hf.bits, hf.words]
  rfl

/-- The key of H_RESET is denied to CS_NS (R72, R77). -/
theorem hReset_denied (hl : linkUp s = true) (k : ResetKey) :
    exec (.hReset .ns k) s = .next (noteResult Res.DENIED 0x07 (driven s)) := by
  show Host.Outcome.next (goodWrite .ns 0x07 [k.word] 0 (if _ then _ else s)) = _
  rw [if_neg (by simp), goodWrite_denied hl rfl]

/-- Another word than the key changes nothing (R77). -/
theorem hReset_otherWord (hl : linkUp s = true) {k : ResetKey} (hk : k.word ≠ 0x0000A5C3) :
    exec (.hReset .s k) s = .next (noteResult 0 0x07 (driven s)) := by
  show Host.Outcome.next (goodWrite .s 0x07 [k.word] 0 (if _ then _ else s)) = _
  rw [if_neg fun ⟨_, _, h⟩ => hk h, goodWrite_one hl rfl rfl (by decide)]
  exact congrArg _ (congrArg _ (if_pos (.inl hk)))

/-- Settles O5, frame by frame. -/
theorem spiFramesCommitWholeOrNotAtAll : Obligations.SpiFramesCommitWholeOrNotAtAll := by
  refine fun s hl => ⟨fun f hmode hcrc hdir hrpt hinc hlen hbits v hwords => ⟨fun hgood => ?_, fun hbad => ?_⟩,
    fun f hmode hcrc hdir hrpt haddr hlen hbits => ?_, fun h => ?_, fun v b => ?_, fun v b hv => ?_⟩
  · exact (spiWriteFrame_one hl ⟨hmode, hcrc, hdir, hrpt, hinc, hlen, hbits, hwords⟩).trans (congrArg _ (if_pos hgood))
  · rw [spiWriteFrame_one hl ⟨hmode, hcrc, hdir, hrpt, hinc, hlen, hbits, hwords⟩, if_neg hbad]
    exact ⟨_, rfl, sameBut_link (by simp), rfl, rfl, rfl, rfl⟩
  · have hf : ReadsWord f 0x36 := ⟨hmode, hcrc, hdir, hrpt, haddr, hlen, hbits⟩
    exact ⟨_, spiReadFrame_open hl hf (by decide) rfl, sameBut_link readsOne_same, rfl⟩
  · exact ⟨_, if_neg (by simp [hl]), sameBut_link (by simp), rfl, rfl⟩
  · exact ⟨_, hReset_denied hl _, sameBut_link (by simp), rfl⟩
  · exact ⟨_, hReset_otherWord hl hv, sameBut_link (by simp), rfl⟩

end Sys2Proof.Machine
end

section
/-! The data windows: what a write appends and what a read takes. -/

namespace Sys2Proof.Machine

variable {s : State} {cs : Cs} {secure rpt clean : Bool} {n : Mb} {a c k bits : Nat} {v w : Word} {l ws : List Word}

/-! ### Windows -/

/-- A data window that a select may reach and whose domain is powered (R72, R73). -/
structure OpenWindow (cs : Cs) (n : Mb) (s : State) : Prop where
  up : linkUp s = true
  powered : domainDown s n = false
  reached : cs = .s ∨ n.val < 10
  noService : n.val ≠ 14
  noSupervisor : n.val ≠ 15

/-- The address of a data window. -/
abbrev windowAddr (n : Mb) : Nat := 0x20 + n.val

theorem frameAddrs_window (n : Mb) (c : Nat) : frameAddrs (windowAddr n) false c = List.replicate c (windowAddr n) := by
  simp [frameAddrs, List.map_const']

theorem isQdata_window (n : Mb) : isQdata (windowAddr n) = true := by
  simp [isQdata, windowAddr]
  omega

theorem window_box (n : Mb) (h : windowAddr n % 16 < 16) : (⟨windowAddr n % 16, h⟩ : Mb) = n := by
  apply Fin.ext
  show (0x20 + n.val) % 16 = n.val
  omega

theorem notDenied_window (h : OpenWindow cs n s) (read : Bool) : deniedAddr (cs == .s) read (windowAddr n) = false := by
  have h14 := h.noService
  have h15 := h.noSupervisor
  rcases h.reached with rfl | h10
  · simp [deniedAddr, windowAddr]
    omega
  · simp [deniedAddr, windowAddr]
    omega

theorem notReady_window (n : Mb) : notReadyAddr (windowAddr n) = false := by
  simp [notReadyAddr, windowAddr]
  omega

theorem notDown_window (h : OpenWindow cs n s) : downAddr s (windowAddr n) = false := by
  simp [downAddr, window_box, h.powered]

/-- What holds of no address of a burst on one window. -/
theorem any_frameAddrs_window {p : Nat → Bool} (h : p (windowAddr n) = false) (c : Nat) :
    (frameAddrs (windowAddr n) false c).any p = false := by
  simp [frameAddrs_window, List.any_replicate, h]

/-! ### Writes (R67, R87) -/

theorem writeReg_window : writeReg secure (windowAddr n) v w s = appendIn n s v := by
  fin_cases n <;> rfl

theorem forEach_zip_replicate (f : Nat × Word → State → State) (a : Nat) (ws : List Word) (s : State) :
    forEach ((List.replicate ws.length a).zip ws) f s = forEach ws (fun v => f (a, v)) s := by
  induction ws generalizing s with
  | nil => rfl
  | cons v ws ih => simp [List.replicate_succ, forEach, ih]

theorem goodWrite_window (h : OpenWindow cs n s) (h1 : 1 ≤ ws.length) (h64 : ws.length ≤ 64) :
    goodWrite cs (windowAddr n) ws 0 s = noteResult 0 (windowAddr n)
      (forEach ws (fun v s => appendIn n s v) (drive [statusWord s] none (writeBits ws.length) s)) := by
  have hne : ws.isEmpty = false := by
    cases ws
    · exact absurd h1 (by decide)
    · rfl
  rw [goodWrite, hne, h.up, if_neg (by decide), if_neg (by omega), carryWrite,
    any_frameAddrs_window (notDenied_window h false), any_frameAddrs_window (notDown_window h), frameAddrs_window,
    forEach_zip_replicate]
  simp [writeReg_window]

theorem appendIn_fits (h : (s.inq.get n).words.length < 64) :
    appendIn n s v = { s with inq := vput s.inq n { s.inq.get n with words := (s.inq.get n).words ++ [v] } } := if_pos h

theorem vput_vput {α : Type} {m : Nat} (u : Vector α m) (i : Fin m) (x y : α) : vput (vput u i x) i y = vput u i y :=
  Vector.set_set x i.isLt

theorem vput_get_self {α : Type} {m : Nat} (u : Vector α m) (i : Fin m) : vput u i (u.get i) = u :=
  Vector.set_getElem_self i.isLt

/-- A burst that fits is appended whole, and nothing else changes. -/
theorem forEach_appendIn (ws : List Word) (s : State) (h : (s.inq.get n).words.length + ws.length ≤ 64) :
    forEach ws (fun v s => appendIn n s v) s =
      { s with inq := vput s.inq n { s.inq.get n with words := (s.inq.get n).words ++ ws } } := by
  induction ws generalizing s with
  | nil =>
    rw [List.append_nil]
    show s = { s with inq := vput s.inq n (s.inq.get n) }
    rw [vput_get_self]
  | cons v ws ih =>
    rw [List.length_cons] at h
    rw [forEach, appendIn_fits (by omega), ih _ (by simp; omega)]
    simp [vput_vput]

/-! ### Reads (R71) -/

/-- The words `l` that a read of outbound queue `n` takes, or that a repeat gives again. -/
def Gives (rpt : Bool) (n : Mb) (s : State) (l : List Word) : Prop :=
  if rpt then (s.outq.get n).burst = some l else (s.outq.get n).words = l

theorem wordOr_listed (hk : k < l.length) : wordOr l k s = (l[k], s) := by
  simp [wordOr, hk]

theorem readWord_window (hg : Gives rpt n s l) (hk : k < l.length) : readWord secure rpt k (windowAddr n) s = (l[k], s) := by
  rw [← wordOr_listed hk, readWord, if_pos (isQdata_window n)]
  dsimp only
  rw [window_box]
  cases rpt
  · rw [if_neg (by decide), show (s.outq.get n).words = l from hg]
  · rw [if_pos rfl, show (s.outq.get n).burst = some l from hg]

/-- The words of a burst in order, with nothing consumed. -/
theorem readWords_window (hg : Gives rpt n s l) (hk : k + c ≤ l.length) :
    readWords secure rpt false (List.replicate c (windowAddr n)) k s = ((l.drop k).take c, s) := by
  induction c generalizing k with
  | zero => simp [readWords]
  | succ c ih =>
    rw [List.replicate_succ, readWords, readWord_window hg (by omega)]
    dsimp only
    rw [if_neg (by decide), ih (by omega), List.drop_eq_getElem_cons (by omega : k < l.length), List.take_succ_cons]

/-- Only the window's own queue is named by a burst on it. -/
theorem boxes_window (h1 : 1 ≤ c) :
    (List.finRange 16).filter (fun m : Mb => (List.replicate c (windowAddr n)).contains (0x20 + m.val)) = [n] := by
  have one : ∀ n : Mb, (List.finRange 16).filter (fun m => m == n) = [n] := by decide
  rw [← one n]
  refine List.filter_congr fun m _ => ?_
  rw [List.contains_replicate, Bool.eq_iff_iff]
  simp [windowAddr, Fin.ext_iff]
  omega

theorem consumeRead_window (h1 : 1 ≤ c) (h : c ≤ (s.outq.get n).words.length) :
    consumeRead (List.replicate c (windowAddr n)) s = consumeOut n c s := by
  have hk : min ((List.replicate c (windowAddr n)).filter (· == 0x20 + n.val)).length (s.outq.get n).words.length = c := by
    simp [h]
  rw [consumeRead, boxes_window h1]
  show (if _ = 0 then s else consumeOut n _ s) = _
  rw [hk, if_neg (by omega)]

theorem begunWords_all (h : 64 + 32 * c ≤ bits) : begunWords c bits = c := Nat.min_eq_left (by omega)

theorem wholeWords_all (h : 64 + 32 * c ≤ bits) : wholeWords c bits = c := Nat.min_eq_left (by omega)

/-- The CRC of a read frame's words. -/
abbrev wordsCrc (l : List Word) : Nat := crc16 (wordsBytes (l.map BitVec.toNat))

/-- A frame long enough for its words drives them, and the reads alone change nothing. -/
theorem readOut_window (h : OpenWindow cs n s) (hg : Gives rpt n s l) (hc : c ≤ l.length) (hb : 64 + 32 * c ≤ bits) :
    readOut cs rpt (windowAddr n) false c bits s = (l.take c, wordsCrc (l.take c), 0, s) := by
  have hwords : readWords (cs == .s) rpt false (List.replicate c (windowAddr n)) 0 s = (l.take c, s) :=
    readWords_window hg (by omega)
  rw [readOut]
  dsimp only
  rw [begunWords_all hb, wholeWords_all hb, any_frameAddrs_window (notDenied_window h true),
    any_frameAddrs_window (notDown_window h), any_frameAddrs_window (notReady_window n), frameAddrs_window, List.take_replicate,
    Nat.min_self, hwords]
  simp [isQdata_window, wordsCrc]

/-- A read of words that the window gives; one that ends clean and is no repeat consumes them. -/
theorem carryRead_window (h : OpenWindow cs n s) (hg : Gives rpt n s l) (h1 : 1 ≤ c) (hc : c ≤ l.length) (h16 : bits % 32 = 16)
    (hb : 64 + 32 * c < bits) :
    carryRead cs rpt (windowAddr n) false c bits s = noteResult 0 (windowAddr n)
      (drive (statusWord s :: l.take c) (some (wordsCrc (l.take c))) bits
        (if bits = 80 + 32 * c ∧ rpt = false then consumeOut n c s else s)) := by
  rw [carryRead, readOut_window h hg hc hb.le]
  dsimp only
  rw [if_neg (by omega), crcWithin, if_pos hb, frameAddrs_window]
  cases rpt with
  | false =>
    have hwords : (s.outq.get n).words = l := hg
    rw [consumeRead_window h1 (hwords ▸ hc)]
    simp [show 64 + 32 * c + 16 = 80 + 32 * c by omega]
  | true => simp

theorem goodRead_window (h : OpenWindow cs n s) (hg : Gives rpt n s l) (h1 : 1 ≤ c) (h64 : c ≤ 64) (hc : c ≤ l.length) :
    goodRead cs rpt (windowAddr n) c clean s = noteResult 0 (windowAddr n)
      (drive (statusWord s :: l.take c) (some (wordsCrc (l.take c))) (if clean then 80 + 32 * c else 112 + 32 * c)
        (if clean = true ∧ rpt = false then consumeOut n c s else s)) := by
  have hclean : (if clean then 80 + 32 * c else 112 + 32 * c) = 80 + 32 * c ↔ clean = true := by
    cases clean <;> simp
  rw [goodRead, h.up, if_neg (by simp; omega), if_neg (by omega),
    carryRead_window h hg h1 hc (by split <;> omega) (by split <;> omega)]
  simp only [hclean]

/-- Settles O4: the write, the two ends of a read, and the repeat. -/
theorem mailboxWindowsMoveWords : Obligations.MailboxWindowsMoveWords := by
  intro s cs n hl hdown hcs h14 h15
  have hwin : OpenWindow cs n s := ⟨hl, hdown, hcs, h14, h15⟩
  refine ⟨fun ws h1 h64 hfit => ?_, fun c h1 h64 hc => ⟨?_, ?_⟩, fun b hb h1 h64 => ?_⟩
  · have happend := forEach_appendIn ws (drive [statusWord s] none (writeBits ws.length) s) hfit
    refine ⟨_, congrArg Host.Outcome.next (goodWrite_window hwin h1 h64), ?_⟩
    rw [happend]
    exact ⟨sameBut_link_inq (by simp), rfl⟩
  · have hread := goodRead_window (clean := true) hwin (show Gives false n s _ from rfl) h1 h64 hc
    exact ⟨_, congrArg Host.Outcome.next hread, Same.sameBut (k := 832) (by simp) rfl, rfl, rfl⟩
  · have hread := goodRead_window (clean := false) hwin (show Gives false n s _ from rfl) h1 h64 hc
    exact ⟨_, congrArg Host.Outcome.next hread, sameBut_link (by simp)⟩
  · have hread := goodRead_window (clean := true) hwin (show Gives true n s b from hb) h1 h64 le_rfl
    rw [List.take_length] at hread
    exact ⟨_, congrArg Host.Outcome.next hread, sameBut_link (by simp), rfl⟩

end Sys2Proof.Machine
end

section
/-! What telling the host leaves of the firmware's Deolo registers. A notification changes the count and the held messages of
the session it goes to, and HIF.NTF_DROPPED; every other register of the chapter stands. One law for each operation that may
tell the host. -/

namespace Sys2Proof.Machine

variable {s t u : State} {n : Mb} {x y : Session}

/-- A session without what its notifications change: their count, those dropped, and those held (R112, R113). -/
def Session.untold (x : Session) : Session := { x with ntf := 0, lost := 0, lostMap := 0, heldMode := none, heldCh := none }

/-- The Deolo registers without what notifications change. -/
def Deolo.untold (d : Deolo) : Deolo := { d with ses := d.ses.map (Option.map Session.untold), ntfDropped := 0 }

/-- A component put into a vector does not show under a map that does not tell it from the one that stood. -/
theorem map_vput {α β : Type} {k : Nat} {f : α → β} {v : Vector α k} {i : Fin k} {a : α} (h : f a = f (v.get i)) :
    (vput v i a).map f = v.map f := by
  ext j hj
  simp only [vput, Vector.getElem_map, Vector.getElem_set]
  split
  · next e =>
    subst e
    exact h
  · rfl

theorem untold_of_same (h : Same (2 ^ 33 - 1 - 2 ^ 9) t u) : u.deolo.untold = t.deolo.untold :=
  congrArg Deolo.untold (h.part .deolo rfl)

theorem putSes_untold (h : session? u n = some x) (hy : y.untold = x.untold) :
    (putSes n (some y) u).deolo.untold = u.deolo.untold := by
  have hses : (putSes n (some y) u).deolo.ses.map (Option.map Session.untold) = u.deolo.ses.map (Option.map Session.untold) := by
    refine map_vput ?_
    rw [show u.deolo.ses.get n = some x from h]
    exact congrArg some hy
  exact congrArg (fun v => { u.deolo with ses := v, ntfDropped := 0 : Deolo }) hses

theorem forEach_untold {α : Type} {f : α → State → State} (l : List α)
    (k : ∀ a v, (f a v).deolo.untold = v.deolo.untold) : (forEach l f u).deolo.untold = u.deolo.untold := by
  induction l generalizing u with
  | nil => rfl
  | cons a l ih => exact ih.trans (k a u)

/-! ### Notifications (R112, R113) -/

@[simp] theorem putMsg_deolo (n : Mb) (msg : List Word) (u : State) : (putMsg n msg u).deolo = u.deolo :=
  (show Same 67109184 u (putMsg n msg u) by simp).part .deolo rfl

@[simp] theorem placeLost_untold (n : Mb) (u : State) : (placeLost n u).deolo.untold = u.deolo.untold := by
  unfold placeLost
  split
  · rfl
  · next x hx =>
    split
    · rfl
    · rw [putMsg_deolo]
      exact putSes_untold hx rfl

@[simp] theorem placeHeldMode_untold (n : Mb) (u : State) : (placeHeldMode n u).deolo.untold = u.deolo.untold := by
  unfold placeHeldMode
  split
  · rfl
  · next x hx =>
    split
    · rfl
    · split
      · rfl
      · rw [putMsg_deolo]
        exact putSes_untold hx rfl

@[simp] theorem placeHeldCh_untold (n : Mb) (u : State) : (placeHeldCh n u).deolo.untold = u.deolo.untold := by
  unfold placeHeldCh
  split
  · rfl
  · next x hx =>
    split
    · rfl
    · split
      · rfl
      · rw [putMsg_deolo]
        exact putSes_untold hx rfl

@[simp] theorem ntfFlush_untold (n : Mb) (u : State) : (ntfFlush n u).deolo.untold = u.deolo.untold := by simp [ntfFlush]

theorem ntfMiss_untold {op : Nat} {msg : List Word} (h : session? u n = some x) (hy : y.untold = x.untold) :
    (ntfMiss n op msg y u).deolo.untold = u.deolo.untold := by
  have hc : (setCollide (16 + n.val) u).deolo = u.deolo := setCollide_deolo
  have hs : session? (setCollide (16 + n.val) u) n = some x := by
    rw [session?, hc]
    exact h
  have hput : ∀ z : Session, z.untold = x.untold →
      (putSes n (some z) (setCollide (16 + n.val) u)).deolo.untold = u.deolo.untold :=
    fun z hz => (putSes_untold hs hz).trans (congrArg Deolo.untold hc)
  unfold ntfMiss
  extract_lets v w
  split
  · exact hput _ hy
  · split
    · exact hput _ hy
    · split <;> exact hput _ hy

@[simp] theorem notifyTo_untold (op : Nat) (body : List Word) (n : Mb) (u : State) :
    (notifyTo op body n u).deolo.untold = u.deolo.untold := by
  unfold notifyTo
  split
  · rfl
  · extract_lets v
    have hv : v.deolo.untold = u.deolo.untold := ntfFlush_untold n u
    split
    · exact hv
    · next x hx =>
      split
      · exact hv
      · extract_lets msg y
        split
        · rw [putMsg_deolo]
          exact (putSes_untold (y := y) hx rfl).trans hv
        · exact (ntfMiss_untold (y := y) hx rfl).trans hv

@[simp] theorem notifyAll_untold (op : Nat) (body : List Word) (u : State) :
    (notifyAll op body u).deolo.untold = u.deolo.untold := forEach_untold _ fun _ _ => notifyTo_untold _ _ _ _

/-! ### Event records, and the passing of time (R492 to R499, R396) -/

@[simp] theorem makeRoom_untold (sev need fuel : Nat) (u : State) : (makeRoom sev need fuel u).deolo.untold = u.deolo.untold :=
  untold_of_same (by simp)

@[simp] theorem dropRecord_untold (code obj sev : Nat) (data : List Nat) (u : State) :
    (dropRecord code obj sev data u).deolo.untold = u.deolo.untold := untold_of_same (by simp)

@[simp] theorem collect_untold (code obj sev reason : Nat) (data : List Nat) (u : State) :
    (collect code obj sev reason data u).deolo.untold = u.deolo.untold := untold_of_same (by simp)

@[simp] theorem countPair_untold (code obj : Nat) (u : State) : (countPair code obj u).deolo.untold = u.deolo.untold :=
  untold_of_same (by simp)

@[simp] theorem setIrq_untold (k : Nat) (u : State) : (setIrq k u).deolo.untold = u.deolo.untold := rfl

@[simp] theorem appendFrame_untold (code sev obj : Nat) (data : List Nat) (u : State) :
    (appendFrame code sev obj data u).deolo.untold = u.deolo.untold := by
  unfold appendFrame
  extract_lets f v w x
  have hx : x.deolo.untold = u.deolo.untold := by
    unfold x
    split <;> rfl
  split
  · rw [notifyAll_untold, hx]
  · exact hx

@[simp] theorem enterRecord_untold (code sev obj : Nat) (data : List Nat) (u : State) :
    (enterRecord code sev obj data u).deolo.untold = u.deolo.untold := by
  unfold enterRecord
  extract_lets need gain
  split
  · simp
  · split <;> simp

@[simp] theorem enterSummary_untold (x : Summ) (u : State) : (enterSummary x u).deolo.untold = u.deolo.untold := by
  unfold enterSummary
  split <;> simp

@[simp] theorem endWindow_untold (u : State) : (endWindow u).deolo.untold = u.deolo.untold :=
  forEach_untold _ enterSummary_untold

@[simp] theorem syncWindow_untold (u : State) : (syncWindow u).deolo.untold = u.deolo.untold := by
  unfold syncWindow
  split <;> simp

@[simp] theorem logEvent_untold (code sev obj : Nat) (data : List Nat) (u : State) :
    (logEvent code sev obj data u).deolo.untold = u.deolo.untold := by
  unfold logEvent
  split
  · rfl
  · split
    · rfl
    · extract_lets v
      have hv : v.deolo.untold = u.deolo.untold := syncWindow_untold u
      split
      · rw [enterRecord_untold, hv]
      · split
        · rw [collect_untold]
          exact hv
        · rw [enterRecord_untold, countPair_untold, hv]

@[simp] theorem settleLine_untold (l : Line) (u : State) : (settleLine l u).deolo.untold = u.deolo.untold := by
  unfold settleLine
  extract_lets f now reached flag v
  split
  · rfl
  · split
    · exact logEvent_untold _ _ _ _ v
    · rfl

@[simp] theorem passTo_untold (d : Nat) (u : State) : (passTo d u).deolo.untold = u.deolo.untold :=
  (forEach_untold _ settleLine_untold).trans (congrArg Deolo.untold elapse_deolo)

/-! ### What the other registers show of that -/

theorem inboundLost_of_untold (h : t.deolo.untold = s.deolo.untold) : t.deolo.inboundLost = s.deolo.inboundLost :=
  (congrArg (fun d : Deolo => d.inboundLost) h :)

theorem authFails_of_untold (h : t.deolo.untold = s.deolo.untold) : t.deolo.authFails = s.deolo.authFails :=
  (congrArg (fun d : Deolo => d.authFails) h :)

theorem tags_of_untold (h : t.deolo.untold = s.deolo.untold) : t.deolo.tags = s.deolo.tags :=
  (congrArg (fun d : Deolo => d.tags) h :)

theorem sesDue_of_untold (h : t.deolo.untold = s.deolo.untold) : t.deolo.sesDue = s.deolo.sesDue :=
  (congrArg (fun d : Deolo => d.sesDue) h :)

/-- The session of a channel stands after a notification, but for what notifications change of it. -/
theorem session_of_untold (h : t.deolo.untold = s.deolo.untold) (n : Mb) :
    (session? t n).map Session.untold = (session? s n).map Session.untold := by
  have hget : ∀ v : State, (v.deolo.untold.ses).get n = (session? v n).map Session.untold := by
    intro v
    show (v.deolo.ses.map (Option.map Session.untold))[n.val] = _
    rw [Vector.getElem_map]
    rfl
  rw [← hget, ← hget, h]

end Sys2Proof.Machine
end

section
/-! How what waits in the tag table is placed, and what a completion leaves of the Deolo registers. -/

namespace Sys2Proof.Machine

variable {s t u : State} {n k : Mb} {e : TagEnt} {id st : Nat} {body : List Word} {l : List (List Word)}

/-! ### Placement (R94, R97) -/

/-- Messages for which there is room are placed in their order. -/
theorem placeAll_fits (hn : n.val < 14) (hfit : (u.outq.get n).words.length + l.flatten.length ≤ 64) :
    ∃ v, placeAll n l u = ([], v) ∧ (v.outq.get n).words = (u.outq.get n).words ++ l.flatten ∧ Same (2 ^ 6 + 2 ^ 8) u v := by
  induction l generalizing u with
  | nil => exact ⟨u, rfl, by simp, same_refl _ _⟩
  | cons m l ih =>
    rw [List.flatten_cons, List.length_append] at hfit
    have hroom : m.length ≤ roomOut u n := by
      unfold roomOut
      omega
    obtain ⟨v, hv, hw, hs⟩ := ih (u := putMsg n m u) (by rw [putMsg_words hn, List.length_append]; omega)
    refine ⟨v, ?_, ?_, (putMsg_frame hn).trans hs⟩
    · rw [placeAll, if_pos hroom, hv]
    · rw [hw, putMsg_words hn, List.flatten_cons, List.append_assoc]

/-- On a channel below 14 nothing goes out on the service port's line (R518). -/
theorem placeAll_frame (hn : n.val < 14) : Same (2 ^ 6 + 2 ^ 8) u (placeAll n l u).2 := by
  induction l generalizing u with
  | nil => exact same_refl _ _
  | cons m l ih =>
    unfold placeAll
    split
    · exact (putMsg_frame hn).trans ih
    · exact same_refl _ _

theorem flushTags_frame {ord : Bool} {tags : List TagEnt} (hn : n.val < 14) :
    Same (2 ^ 6 + 2 ^ 8) u (flushTags n ord tags u).2 := by
  induction tags generalizing u with
  | nil => exact same_refl _ _
  | cons e tags ih =>
    have hplace : Same (2 ^ 6 + 2 ^ 8) u (placeAll n e.out u).2 := placeAll_frame hn
    unfold flushTags
    dsimp only
    split_ifs
    · exact ih
    · exact hplace
    · exact hplace.trans ih
    · exact hplace.trans ih
    · exact hplace
    · exact hplace.trans ih

theorem flushOut_frame_below (hn : n.val < 14) : Same (2 ^ 6 + 2 ^ 8 + 2 ^ 9) u (flushOut n u) :=
  (same_deolo rfl).2 ((flushTags_frame hn).mono rfl)

/-- The only entry of the table, done, with messages that all fit: they are placed, and the entry waits for the host to consume
them. -/
theorem flushOut_done (ht : s.deolo.tags = [e]) (hd : e.done = true) (hl : e.left = none) (hn : e.chan.val < 14)
    (hfit : (s.outq.get e.chan).words.length + e.out.flatten.length ≤ 64) :
    ((flushOut e.chan s).outq.get e.chan).words = (s.outq.get e.chan).words ++ e.out.flatten := by
  obtain ⟨v, hv, hw, -⟩ := placeAll_fits hn hfit
  have hflush : (flushTags e.chan (ordered s e.chan) [e] s).2 = v := by
    rw [flushTags]
    simp only [hl, hv, hd, flushTags]
    simp [show e.chan.val ≠ 14 by omega]
  rw [flushOut, ht]
  show (((flushTags e.chan (ordered s e.chan) [e] s).2).outq.get e.chan).words = _
  rw [hflush, hw]

/-! ### What a completion leaves of the Deolo registers (R98) -/

theorem flushOut_deolo (n : Mb) (u : State) : ∃ tags, (flushOut n u).deolo = { u.deolo with tags := tags } := by
  have h : (flushTags n (ordered u n) u.deolo.tags u).2.deolo = u.deolo :=
    (show Same 67109184 u (flushTags n (ordered u n) u.deolo.tags u).2 by simp).part .deolo rfl
  exact ⟨_, congrArg (fun d : Deolo => { d with tags := (flushTags n (ordered u n) u.deolo.tags u).1 }) h⟩

theorem finish_deolo (e : TagEnt) (st : Nat) (body : List Word) (u : State) :
    ∃ tags, (finish e st body u).deolo = { u.deolo with tags := tags } := by
  obtain ⟨tags, h⟩ := flushOut_deolo e.chan
    (modTag e.id (fun e => { e with done := true, out := e.out ++ [message e.op e.tag 1 st body] }) u)
  exact ⟨tags, h⟩

theorem settleSession_idle (h : u.deolo.sesDue.get n = none) : settleSession n u = u := by rw [settleSession, h]

/-- A completion, where no SESSION_OPEN or SESSION_CLOSE waits, is its message alone. -/
theorem complete_cases (id st : Nat) (body : List Word) (h : ∀ e ∈ u.deolo.tags, u.deolo.sesDue.get e.chan = none) :
    complete id st body u = u ∨ ∃ e, complete id st body u = finish e st body u := by
  unfold complete
  split
  · exact .inl rfl
  · next e he =>
    split
    · exact .inl rfl
    · obtain ⟨tags, hd⟩ := finish_deolo e st body u
      exact .inr ⟨e, settleSession_idle (by rw [hd]; exact h e (List.mem_of_find?_eq_some he))⟩

/-- A message of a flush goes out for an entry that stood in the table. -/
theorem flushTags_begun {ord : Bool} {tags : List TagEnt} (h : ∀ e ∈ tags, e.begun = true) :
    ∀ e ∈ (flushTags n ord tags u).1, e.begun = true := by
  induction tags generalizing u with
  | nil => exact h
  | cons e tags ih =>
    obtain ⟨he, ht⟩ := List.forall_mem_cons.1 h
    unfold flushTags
    dsimp only
    split_ifs
    · exact List.forall_mem_cons.2 ⟨he, ih ht⟩
    · exact List.forall_mem_cons.2 ⟨he, ht⟩
    · exact ih ht
    · exact List.forall_mem_cons.2 ⟨he, ih ht⟩
    · exact List.forall_mem_cons.2 ⟨he, ht⟩
    · exact List.forall_mem_cons.2 ⟨he, ih ht⟩

theorem finish_begun (h : ∀ e ∈ u.deolo.tags, e.begun = true) :
    ∀ f ∈ (finish e st body u).deolo.tags, f.begun = true := by
  refine flushTags_begun fun f hf => ?_
  obtain ⟨g, hg, rfl⟩ := List.mem_map.1 hf
  split <;> exact h g hg

theorem notBegun_nil (h : ∀ e ∈ u.deolo.tags, e.begun = true) (n : Mb) : notBegun u n = [] := by
  rw [notBegun, List.filter_eq_nil_iff.2 fun e he => by simp [h e he], List.map_nil]

/-! ### A command in hand -/

theorem inHand_begin (h : InHand e s) : InHand { e with begun := true } (begin_ e.id s) where
  tags := by
    show s.deolo.tags.map _ = _
    simp [h.tags]
  done := h.done
  out := h.out
  left := h.left
  chan := h.chan
  up := h.up
  idle := h.idle
  empty := h.empty

/-- Below channel 14 a power domain depends on the modes and the processors alone. -/
theorem domainDown_below (hn : n.val < 14) (hs : t.sys = s.sys) : domainDown t n = domainDown s n := by
  simp [domainDown, supervisionDown, anyPup, hs, show n.val ≠ 14 by omega]

/-- A command in hand stays so under a change of what its completion does not look at. -/
theorem InHand.congr (h : InHand e s) (ht : t.deolo.tags = s.deolo.tags) (hd : t.deolo.sesDue = s.deolo.sesDue)
    (ho : t.outq = s.outq) (hy : t.sys = s.sys) : InHand e t where
  tags := ht.trans h.tags
  done := h.done
  out := h.out
  left := h.left
  chan := h.chan
  up := (domainDown_below h.chan hy).trans h.up
  idle := by rw [hd, h.idle]
  empty := by rw [ho, h.empty]

/-- What a stream in hand leaves: its segments and its completion in the queue of its channel when there is room for all of
them, and no other part of the machine touched (R116). -/
theorem streamOut_inHand {segs : List (List Word)} (h : InHand e s) :
    let t := streamOut e.id segs st body s
    (∃ tags, t.deolo = { s.deolo with tags := tags }) ∧ Same (2 ^ 6 + 2 ^ 8 + 2 ^ 9) s t ∧
      ∀ m, m = segments e.op e.tag 0 segs ++ [message e.op e.tag 1 st body] → m.flatten.length ≤ 64 →
        (t.outq.get e.chan).words = m.flatten := by
  intro t
  let f := fun (e : TagEnt) => { e with
    done := true, out := e.out ++ segments e.op e.tag 0 segs ++ [message e.op e.tag 1 st body] }
  let u := modTag e.id f s
  have hentry : entry? s e.id = some e := by simp [entry?, h.tags]
  have ht : t = flushOut e.chan u := by
    unfold t streamOut
    rw [hentry]
    simp only [h.done, h.up]
    rfl
  have htags : u.deolo.tags = [f e] := by
    show s.deolo.tags.map _ = _
    simp [h.tags]
  refine ⟨?_, ?_, fun m hm hfit => ?_⟩
  · rw [ht]
    exact flushOut_deolo e.chan u
  · rw [ht]
    exact ((modTag_same rfl).2 (same_refl _ _)).trans (flushOut_frame_below h.chan)
  · have hout : (f e).out = m := by
      show e.out ++ _ ++ _ = m
      rw [h.out, hm]
      rfl
    have hwords := flushOut_done (s := u) (e := f e) htags rfl h.left h.chan (by
      rw [hout, show (u.outq.get (f e).chan).words = [] from h.empty]
      simpa using hfit)
    rw [ht]
    refine hwords.trans ?_
    rw [hout, show (u.outq.get (f e).chan).words = [] from h.empty]
    rfl

end Sys2Proof.Machine
end

section
/-! The obligation on what is damaged in the inbound queues, and on what waits for room in the outbound ones. -/

namespace Sys2Proof.Machine

variable {s u : State} {n : Mb} {h : Word} {l body : List Word}

/-! ### NTF_INBOUND_LOST (R92, R93, R96) -/

theorem inboundLost_frame (n : Mb) (reason : Nat) (h : Word) (u : State) : Same 67109696 u (inboundLost n reason h u) :=
  (notifyTo_same rfl).2 ((same_deolo rfl).2 (same_refl _ _))

/-- What is dropped is counted once, and the words that stay are those that stood (R92). -/
theorem inboundLost_counts (n : Mb) (reason : Nat) (h : Word) (u : State) :
    (inboundLost n reason h u).deolo.inboundLost = sat32 (u.deolo.inboundLost + 1) :=
  inboundLost_of_untold (notifyTo_untold _ _ _ _)

theorem inboundLost_inq (n : Mb) (reason : Nat) (h : Word) (u : State) : (inboundLost n reason h u).inq = u.inq :=
  (inboundLost_frame n reason h u).part .inq rfl

theorem dequeue_words (n : Mb) (k : Nat) (u : State) : ((dequeue n k u).inq.get n).words = (u.inq.get n).words.drop k :=
  congrArg InQ.words (vmod_get_same _ _ _)

/-! ### The three ways in which words are lost -/

theorem fragmentTimeout_drops (hf : firmwareTakes s = true) (hd : domainDown s n = false) (hn : n ≠ 15)
    (hq : (s.inq.get n).words = h :: l) (ha : (s.inq.get n).fragAt ≠ none) (h0 : 0 < takeable (s.inq.get n))
    (hlen : takeable (s.inq.get n) < h.field 10 5 + 1) :
    ∃ t, exec (.fragmentTimeout n) s = .next t ∧ SameBut (.inq :: passing) s t ∧
      (t.inq.get n).words = (h :: l).drop (takeable (s.inq.get n)) ∧
      t.deolo.inboundLost = sat32 (s.deolo.inboundLost + 1) := by
  obtain ⟨at_, hat⟩ := Option.ne_none_iff_exists'.1 ha
  let k := takeable (s.inq.get n)
  let u := passTo (at_ + pn s Prm.HIF_FRAG_TIMEOUT_MS * clkMs) s
  let v := { u with inq := vmod u.inq n fun q => { q with fragAt := none } }
  have hx : exec (.fragmentTimeout n) s = .next (inboundLost n 3 h (dequeue n k v)) := by
    show execFragmentTimeout n s = _
    unfold execFragmentTimeout
    dsimp only
    rw [if_neg (by simp [hf, hd, hn]), hq, hat]
    exact if_pos ⟨h0, hlen⟩
  have hu : u.inq = s.inq := passTo_inq
  refine ⟨_, hx, ?_, ?_, ?_⟩
  · refine Same.sameBut (k := 109708098 ||| 128) ?_ rfl
    exact (((passTo_frame).mono rfl).trans ((same_inq rfl).2 ((same_inq rfl).2 (same_refl _ _)))).trans
      ((inboundLost_frame n 3 h (dequeue n k v)).mono rfl)
  · rw [inboundLost_inq, dequeue_words]
    show ((vmod u.inq n _).get n).words.drop k = _
    rw [vmod_get_same, hu]
    exact congrArg (List.drop k) hq
  · rw [inboundLost_counts]
    show sat32 (u.deolo.inboundLost + 1) = _
    rw [inboundLost_of_untold (passTo_untold _ s)]

theorem inboundCollision_drops {before : Nat} (hf : firmwareTakes s = true) (hd : domainDown s n = false) (hn : n ≠ 15)
    (hdam : (s.inq.get n).damaged = true) (hc : s.link.collide.testBit n.val = true)
    (hm : messageAt 64 (s.inq.get n).words 0 (s.inq.get n).sound = some (h, before)) :
    ∃ t, exec (.inboundCollision n) s = .next t ∧ SameBut (.inq :: telling) s t ∧
      (t.inq.get n).words = (s.inq.get n).words.take before ∧ (t.inq.get n).damaged = false ∧
      t.deolo.inboundLost = sat32 (s.deolo.inboundLost + 1) := by
  let v := { s with inq := vmod s.inq n fun q => { q with
    words := q.words.take before, offered := min q.offered before, damaged := false, sound := 0, fragAt := none
    cons := (q.cons + (q.words.length - before)) % 64 } }
  have hx : exec (.inboundCollision n) s = .next (inboundLost n 1 h v) := by
    show execInboundCollision n s = _
    unfold execInboundCollision
    dsimp only
    rw [if_neg (by simp [hf, hd, hn, hdam, hc]), hm]
  refine ⟨_, hx, ?_, ?_, ?_, ?_⟩
  · refine Same.sameBut (k := 67109696 ||| 128) ?_ rfl
    exact ((same_inq rfl).2 (same_refl _ _)).trans ((inboundLost_frame n 1 h v).mono rfl)
  · rw [inboundLost_inq]
    exact congrArg InQ.words (vmod_get_same _ _ _)
  · rw [inboundLost_inq]
    exact congrArg InQ.damaged (vmod_get_same _ _ _)
  · exact inboundLost_counts n 1 h v

theorem inboundMalformed_drops (hf : firmwareTakes s = true) (hd : domainDown s n = false) (hn : n ≠ 15)
    (hm : headMsg s n = some (h, body)) (hbad : h.field 8 2 ≠ 0 ∨ h.field 0 8 ≠ 0) :
    ∃ t, exec (.inboundMalformed n) s = .next t ∧ SameBut (.inq :: telling) s t ∧
      (t.inq.get n).words = (s.inq.get n).words.drop (body.length + 1) ∧
      t.deolo.inboundLost = sat32 (s.deolo.inboundLost + 1) := by
  have hx : exec (.inboundMalformed n) s = .next (inboundLost n 2 h (dequeue n (body.length + 1) s)) := by
    show execInboundMalformed n s = _
    unfold execInboundMalformed
    rw [if_neg (by simp [hf, hd, hn]), hm]
    exact if_neg fun hok => hbad.elim (· hok.1) (· hok.2)
  refine ⟨_, hx, ?_, ?_, inboundLost_counts n 2 h _⟩
  · refine Same.sameBut (k := 67109696 ||| 128) ?_ rfl
    exact ((same_inq rfl).2 (same_refl _ _)).trans ((inboundLost_frame n 2 h _).mono rfl)
  · rw [inboundLost_inq, dequeue_words]

/-! ### Room appears (R97, R113) -/

/-- On a channel without a session no notification waits. -/
theorem ntfFlush_noSession (hs : session? s n = none) : ntfFlush n s = s := by
  have h1 : placeLost n s = s := by rw [placeLost, hs]
  have h2 : placeHeldMode n s = s := by rw [placeHeldMode, hs]
  have h3 : placeHeldCh n s = s := by rw [placeHeldCh, hs]
  rw [ntfFlush, h1, h2, h3]

theorem outboundPlace_places {e : TagEnt} {m : List Word} (hf : firmwareTakes s = true) (hd : domainDown s n = false)
    (hn : n ≠ 15) (ht : s.deolo.tags = [e]) (hc : e.chan = n) (hl : e.left = none) (hdone : e.done = true)
    (ho : e.out = [m]) (hs : session? s n = none) (h14 : n ≠ 14) (hroom : m.length + (s.outq.get n).words.length ≤ 64) :
    ∃ t, exec (.outboundPlace n) s = .next t ∧ SameBut [.link, .outq, .deolo] s t ∧
      (t.outq.get n).words = (s.outq.get n).words ++ m := by
  subst hc
  have hlow : e.chan.val < 14 := by
    have h1 : e.chan.val ≠ 14 := fun h => h14 (Fin.ext h)
    have h2 : e.chan.val ≠ 15 := fun h => hn (Fin.ext h)
    omega
  have hx : exec (.outboundPlace e.chan) s = .next (flushOut e.chan s) := by
    show execOutboundPlace e.chan s = _
    unfold execOutboundPlace
    rw [if_neg (by simp [hf, hd]), ntfFlush_noSession hs]
  refine ⟨_, hx, (flushOut_frame_below hlow).sameBut rfl, ?_⟩
  rw [flushOut_done ht hdone hl hlow (by rw [ho]; simp; omega), ho]
  simp

/-- Settles O15, event by event. -/
theorem damagedInboundWordsAreDroppedAndReported : Obligations.DamagedInboundWordsAreDroppedAndReported := by
  intro s n hf hd hn
  exact ⟨fun _ _ hq ha h0 hlen => fragmentTimeout_drops hf hd hn hq ha h0 hlen,
    fun _ _ hdam hc hm => inboundCollision_drops hf hd hn hdam hc hm, fun _ _ hm hbad => inboundMalformed_drops hf hd hn hm hbad,
    fun _ _ ht hc hl hdone ho hs h14 hroom => outboundPlace_places hf hd hn ht hc hl hdone ho hs h14 hroom⟩

end Sys2Proof.Machine
end

section
/-! A read of a field line's statistics that tells the host before its own completion. -/

namespace Sys2Proof.Machine

/-- The session of the channel that reads: open, at version 2.03, and subscribed to every notification. -/
def subscribed : Session :=
  { ver := 0x0203, secure := false, nonce := none, isOpen := true, mask := 0xFFFF, ntf := 0, lost := 0, lostMap := 0
    heldMode := none, heldCh := none, cursor := 0, since := 0, key := none }

/-- A PARAM_READ of TMR.FL0_STAT with tag 5 waits alone on channel 2 in ONLINE. The line has rejected ten pulses in the second
that has just ended, and LOG.NTF_SEV lets records of severity 1 through (R396, R497). -/
def lineStatAsked : State :=
  { State.reset with
    pf := [(Prm.LOG_NTF_SEV, 1)], pw := [(Prm.LOG_NTF_SEV, 1)]
    sys := { Sys.reset with phase := .run, mode := .online, fwReady := true, pupA := { Pupp.reset with up := true } }
    log := { Rec.reset with ready := true }
    tmr := { Timers.reset with kt := vput Timers.reset.kt 0 1024 }
    fl := vput State.reset.fl 0 { FLine.reset with rejSec := 10 }
    deolo := { Deolo.reset with ses := vput Deolo.reset.ses 2 (some subscribed) }
    inq := vput State.reset.inq 2 { InQ.reset with words := [0x10028400, 0x08B00000], offered := 2 } }

theorem lineStatAsked_calm : Calm 2 0x10 5 [0x08B00000] lineStatAsked where
  chan := by decide
  head := ⟨0x10028400, by decide +kernel⟩
  up := by decide +kernel
  takes := by decide +kernel
  mode := by decide
  free := rfl
  idle := by decide +kernel
  empty := by decide +kernel
  range := by decide +kernel

theorem lineStatAsked_gate : sessionGate lineStatAsked 2 0x10 = none := by decide +kernel

theorem lineStat_row : paramRow ((0x08B00000 : Word).field 16 16) = some (prow .u32 0 0 0xffffffff 0 .ro .imm) := by
  decide +kernel

/-- The read settles the line, whose overspeed is recorded: NTF_EVENT enters the outbound queue in front of the completion. -/
theorem lineStatAsked_tells : ((runOp 2 0x10 paramReadOp lineStatAsked).outq.get 2).words.length = 5 := by decide +kernel

theorem exec_paramRead (n : Mb) (s : State) : exec (.paramRead n) s = .next (runOp n 0x10 paramReadOp s) := rfl

/-- Refutes O14: reading a field line's statistics settles the line (R396), and the record of its overspeed sends a notification
to the session that reads, so that the outbound queue holds more than the completion. -/
theorem not_queriesAndBadCommandsAreAnsweredAtOnce : ¬ Obligations.QueriesAndBadCommandsAreAnsweredAtOnce := by
  unfold Obligations.QueriesAndBadCommandsAreAnsweredAtOnce
  intro h
  obtain ⟨-, -, -, hread, -⟩ := h lineStatAsked 2 5 [0x08B00000]
  obtain ⟨-, hknown⟩ := hread 0x08B00000 rfl (by decide) lineStatAsked_calm lineStatAsked_gate
  obtain ⟨t, ht, hwords⟩ := hknown _ lineStat_row
  rw [exec_paramRead] at ht
  have hlen := congrArg List.length hwords
  rw [← Host.Outcome.next.inj ht, lineStatAsked_tells] at hlen
  exact absurd hlen (by decide)

end Sys2Proof.Machine
end

section
/-! The obligation on sessions: how they open, are proved, and end, and how a command is cancelled. -/

namespace Sys2Proof.Machine

variable {s t u v : State} {n : Mb} {tag st : Nat} {w : Word} {e : TagEnt} {c : Cmd} {body nonce : List Word} {x y : Session}

/-! ### The sessions of the channels -/

theorem session_putSes (n : Mb) (x : Option Session) (s : State) : session? (putSes n x s) n = x := vput_get_same _ _ _

theorem session_congr (h : t.deolo.ses = s.deolo.ses) (n : Mb) : session? t n = session? s n :=
  congrArg (fun v : Vector (Option Session) 16 => v.get n) h

theorem session_finish (e : TagEnt) (st : Nat) (body : List Word) (s : State) (n : Mb) :
    session? (finish e st body s) n = session? s n := by
  obtain ⟨tags, h⟩ := finish_deolo e st body s
  exact session_congr (by rw [h]) n

/-- Where what notifications change is all that has changed, a channel keeps its session but for that. -/
theorem session_some_of_untold (h : t.deolo.untold = s.deolo.untold) (hs : session? s n = some x) :
    ∃ y, session? t n = some y ∧ y.untold = x.untold :=
  Option.map_eq_some_iff.1 ((session_of_untold h n).trans (congrArg _ hs))

/-! ### A completion in hand, as the placement of its message -/

theorem complete_inHand_finish (h : InHand e s) : complete e.id st body s = finish e st body s := by
  have hentry : entry? s e.id = some e := by simp [entry?, h.tags]
  obtain ⟨tags, hd⟩ := finish_deolo e st body s
  rw [complete, hentry]
  simp only [h.done, h.up]
  exact settleSession_idle (by rw [hd]; exact h.idle)

theorem session_complete (h : InHand e s) (n : Mb) : session? (complete e.id st body s) n = session? s n := by
  rw [complete_inHand_finish h, session_finish]

theorem notBegun_inHand (h : InHand e s) (hb : e.begun = true) (n : Mb) : notBegun s n = [] :=
  notBegun_nil (by simp [h.tags, hb]) n

/-- With its own command begun and no other in flight, the end of a session is only that. -/
theorem closeSession_nil (h : notBegun s n = []) : closeSession n s = putSes n none s := by rw [closeSession, h, forEach]

theorem inHand_putSes (h : InHand e s) (n : Mb) (x : Option Session) : InHand e (putSes n x s) :=
  h.congr rfl rfl rfl rfl

theorem inHand_begun_calm {op : Nat} (h : Calm n op tag body s) :
    InHand { calmEntry n op tag s with begun := true } (begin_ s.deolo.nextId (calmTaken n op tag body s)) :=
  inHand_begin (inHand_calmTaken h)

/-! ### The turn from one session to the next (R103) -/

/-- The state in which a turn of sessions completes: the new session, or none, in place, and nothing due. -/
def turnedSession (n : Mb) (new : Option Session) (due : SesDue) (s : State) : State :=
  putSes n new { s with deolo := { s.deolo with
    ses := vput s.deolo.ses n ((session? s n).map fun x => { x with isOpen := false })
    sesDue := vput (vput s.deolo.sesDue n (some due)) n none } }

/-- NTF_METER tells a session that has opened, from version 2.1 on (R112). -/
def meterNotice (n : Mb) (new : Option Session) (s : State) : State :=
  match new with
  | some x => if 0x0201 ≤ x.ver then notifyTo Opc.NTF_METER (meterBody s) n s else s
  | none => s

theorem meterNotice_untold (new : Option Session) : (meterNotice n new s).deolo.untold = s.deolo.untold := by
  unfold meterNotice
  split
  · split
    · exact notifyTo_untold _ _ _ _
    · rfl
  · rfl

/-- A due turn of sessions that no begun command holds up ends (R103). -/
theorem settleSession_now {d : SesDue} (hdue : s.deolo.sesDue.get n = some d) (hno : begunBefore s n d.id = false)
    (he : entry? s d.id = some e) :
    settleSession n s = meterNotice n d.new (finish e St.OK d.body
      (putSes n d.new { s with deolo := { s.deolo with sesDue := vput s.deolo.sesDue n none } })) := by
  have he' : entry? (putSes n d.new { s with deolo := { s.deolo with sesDue := vput s.deolo.sesDue n none } }) d.id = some e := he
  unfold settleSession
  rw [hdue]
  dsimp only
  rw [if_neg (by simp [hno]), he']
  rfl

/-- A turn of sessions whose own command has begun, with no other in flight, ends at once. -/
theorem turnSession_now {new : Option Session} (ht : s.deolo.tags = [e]) (hb : e.begun = true) :
    turnSession { id := e.id, chan := e.chan, tag := tag, tagOk := true, body := body } new nonce s =
      meterNotice e.chan new
        (finish e St.OK nonce (turnedSession e.chan new { id := e.id, new := new, body := nonce } s)) := by
  have hnb : notBegun s e.chan = [] := notBegun_nil (by simp [ht, hb]) _
  unfold turnSession
  dsimp only
  rw [hnb, forEach]
  refine (settleSession_now (e := e) (vput_get_same _ _ _) ?_ ?_).trans rfl
  · show (s.deolo.tags.any _) = false
    simp [ht]
  · show s.deolo.tags.find? _ = some e
    simp [ht]

theorem turnedSession_inHand {new : Option Session} {due : SesDue} (h : InHand e s) :
    InHand e (turnedSession e.chan new due s) where
  tags := h.tags
  done := h.done
  out := h.out
  left := h.left
  chan := h.chan
  up := (domainDown_congr rfl rfl).trans h.up
  idle := vput_get_same _ _ _
  empty := h.empty

/-! ### SESSION_OPEN (R103, R104, R106 to R109) -/

/-- The agreed version is the highest of those that both have (R104). -/
theorem agreed_highest {v : Nat} (hv : v ∈ versions) (hlo : w.field 16 16 ≤ v) (hhi : v ≤ w.field 0 16)
    (hmax : ∀ u ∈ versions, w.field 16 16 ≤ u → u ≤ w.field 0 16 → u ≤ v) : agreed w = some v := by
  obtain ⟨l, r, hl⟩ := List.append_of_mem hv
  refine List.find?_eq_some_iff_append.2 ⟨by simp [hlo, hhi], l, r, hl, fun a ha => ?_⟩
  have hdesc : versions.Pairwise (· > ·) := by decide
  rw [hl] at hdesc
  have hgt : v < a := (List.pairwise_append.1 hdesc).2.2 a ha v (by simp)
  have hmem : a ∈ versions := by rw [hl]; exact List.mem_append_left _ ha
  simp only [Bool.not_eq_true', decide_eq_false_iff_not]
  exact fun hboth => absurd (hmax a hmem hboth.1 hboth.2) (by omega)

theorem agreed_none (h : ∀ u ∈ versions, w.field 16 16 ≤ u → w.field 0 16 < u) : agreed w = none :=
  List.find?_eq_none.2 fun u hu => by
    have := h u hu
    simp only [decide_eq_true_eq]
    omega

theorem agreed_some {v : Nat} (hv : v ∈ versions) (hlo : w.field 16 16 ≤ v) (hhi : v ≤ w.field 0 16) : (agreed w).isSome :=
  List.find?_isSome.2 ⟨v, hv, by simp [hlo, hhi]⟩

theorem drawWords_length (k : Nat) (s : State) : (drawWords k s).1.length = k := by
  induction k generalizing s with
  | zero => rfl
  | succ k ih => exact congrArg (· + 1) (ih _)

theorem drawWords_deolo (k : Nat) (s : State) : (drawWords k s).2.deolo = s.deolo :=
  (show Same 4 s (drawWords k s).2 by simp).part .deolo rfl

/-- What SESSION_OPEN draws: the nonce of a session that is to be proved. -/
def openDraw (n : Mb) (s : State) : List Word × State := if 10 ≤ n.val ∧ n.val ≤ 14 then drawWords 4 s else ([], s)

theorem openDraw_deolo (n : Mb) (s : State) : (openDraw n s).2.deolo = s.deolo := by
  unfold openDraw
  split
  · exact drawWords_deolo 4 s
  · rfl

theorem openSession_opens {v : Nat} (ht : t.deolo.tags = [e]) (hb : e.begun = true) (hn : e.chan.val < 14)
    (hkey : e.chan.val < 10 ∨ t.deolo.keySet = true) :
    ∃ x, session? (openSession { id := e.id, chan := e.chan, tag := tag, tagOk := true, body := body } v t) e.chan = some x ∧
      x.ver = v ∧ x.secure = false ∧ x.isOpen = decide (e.chan.val < 10) ∧ x.mask = 0xFFFF ∧
      (10 ≤ e.chan.val → ∃ k, x.nonce = some k ∧ k.length = 4) := by
  unfold openSession
  extract_lets n keyed r sure x answer
  have hr : r = openDraw n t := by simp [r, keyed, openDraw]
  have hrt : r.2.deolo.tags = [e] := by rw [hr, openDraw_deolo, ht]
  rw [show turnSession _ (some x) answer r.2 = _ from turnSession_now hrt hb]
  obtain ⟨y, hy, hyx⟩ := session_some_of_untold (meterNotice_untold (some x))
    ((session_finish e St.OK answer _ e.chan).trans (session_putSes e.chan (some x) _))
  have hsure : sure = false := by
    rcases hkey with hlow | hset
    · simp [sure, keyed, n, show ¬ 10 ≤ e.chan.val by omega]
    · simp [sure, hset]
  refine ⟨y, hy, ?_⟩
  refine ⟨(congrArg Session.ver hyx :), (congrArg Session.secure hyx).trans hsure, ?_, (congrArg Session.mask hyx :), fun h10 => ?_⟩
  · refine (congrArg Session.isOpen hyx).trans ?_
    simp only [Session.untold, x, hsure, n, Bool.false_or]
    exact decide_eq_decide.2 (by omega)
  · have hk : keyed = true := by simp [keyed, n]; omega
    refine ⟨r.1, (congrArg Session.nonce hyx).trans ?_, ?_⟩
    · simp [Session.untold, x, hk]
    · rw [show r = drawWords 4 t by simp [r, hk], drawWords_length]

theorem sessionOpen_calm (h : Calm n 0x01 tag [w] s) (hg : sessionGate s n 0x01 = none) :
    exec (.sessionOpen n) s = .next (sessionOpenOp (calmCmd n tag [w] s) (calmTaken n 0x01 tag [w] s)) :=
  congrArg Host.Outcome.next (runOp_calm h hg)

/-- The session before a SESSION_OPEN is told of its end (R103). -/
theorem sessionOpenOp_opens {v : Nat} (hv : agreed w = some v)
    (hr : openRefused (begin_ s.deolo.nextId (calmTaken n 0x01 tag [w] s)) n = false) :
    ∃ t, t.deolo.untold = (begin_ s.deolo.nextId (calmTaken n 0x01 tag [w] s)).deolo.untold ∧
      sessionOpenOp (calmCmd n tag [w] s) (calmTaken n 0x01 tag [w] s) = openSession (calmCmd n tag [w] s) v t := by
  unfold sessionOpenOp
  extract_lets u t
  have ht : t.deolo.untold = u.deolo.untold := by
    unfold t
    split
    · exact notifyTo_untold _ _ _ _
    · rfl
  have hf : openFault (calmCmd n tag [w] s) u = none := by
    unfold openFault
    rw [if_neg (by simp [calmCmd, Cmd.w, hv]), if_neg (by rw [show openRefused u (calmCmd n tag [w] s).chan = false from hr]; decide),
      if_neg (by simp [Cmd.lenOk, calmCmd])]
  rw [hf]
  refine ⟨t, ht, ?_⟩
  rw [show agreed ((calmCmd n tag [w] s).w 0) = some v from hv]
  rfl

theorem openRefused_free (hl : s.deolo.lockout.get n = false) (hn : n.val < 14) (hk : n.val < 10 ∨ s.deolo.keySet = true) :
    openRefused s n = false := by
  unfold openRefused
  rw [hl]
  rcases hk with hlow | hset
  · simp [show ¬ 10 ≤ n.val by omega]
  · simp [hset]

theorem keySet_of_untold (h : t.deolo.untold = s.deolo.untold) : t.deolo.keySet = s.deolo.keySet :=
  (congrArg (fun d : Deolo => d.keySet) h :)

theorem sessionOpen_opens {v : Nat} (h : Calm n 0x01 tag [w] s) (hg : sessionGate s n 0x01 = none) (hv : agreed w = some v)
    (hl : s.deolo.lockout.get n = false) (hk : n.val < 10 ∨ s.deolo.keySet = true) :
    ∃ t x, exec (.sessionOpen n) s = .next t ∧ session? t n = some x ∧ x.ver = v ∧ x.secure = false ∧
      x.isOpen = decide (n.val < 10) ∧ x.mask = 0xFFFF ∧ (10 ≤ n.val → ∃ k, x.nonce = some k ∧ k.length = 4) := by
  obtain ⟨t, ht, hopen⟩ := sessionOpenOp_opens (n := n) (tag := tag) (s := s) hv (openRefused_free hl h.chan hk)
  have htags := (tags_of_untold ht).trans (inHand_begun_calm h).tags
  obtain ⟨x, hx⟩ := openSession_opens (v := v) (tag := tag) (body := [w]) htags rfl h.chan
    (hk.imp id fun hset => (keySet_of_untold ht).trans hset)
  exact ⟨_, x, (sessionOpen_calm h hg).trans (congrArg Host.Outcome.next hopen), hx⟩

/-- A SESSION_OPEN that is refused leaves the channel without a session. -/
theorem sessionOpen_refused (h : Calm n 0x01 tag [w] s) (hg : sessionGate s n 0x01 = none) (hs : session? s n = none)
    (hf : openFault (calmCmd n tag [w] s) (begin_ s.deolo.nextId (calmTaken n 0x01 tag [w] s)) = some st) :
    ∃ t, exec (.sessionOpen n) s = .next t ∧ session? t n = none ∧
      (t.outq.get n).words = message 0x01 tag 1 st (if st = St.VERSION then [0x01000203] else []) := by
  have hhand := inHand_begun_calm h
  have hput := inHand_putSes hhand n none
  have hop : sessionOpenOp (calmCmd n tag [w] s) (calmTaken n 0x01 tag [w] s) =
      complete s.deolo.nextId st (if st = St.VERSION then [0x01000203] else [])
        (putSes n none (begin_ s.deolo.nextId (calmTaken n 0x01 tag [w] s))) := by
    unfold sessionOpenOp
    extract_lets u t
    have ht : t = u := if_neg (by
      rw [show session? u (calmCmd n tag [w] s).chan = none from hs]
      simp)
    rw [show openFault (calmCmd n tag [w] s) u = some st from hf, ht, if_pos (by simp [Cmd.lenOk, calmCmd])]
    exact congrArg (complete _ _ _) (closeSession_nil (notBegun_inHand hhand rfl n))
  have hlen : (if st = St.VERSION then [0x01000203] else [] : List Word).length < 64 := by split <;> decide
  exact ⟨_, (sessionOpen_calm h hg).trans (congrArg Host.Outcome.next hop),
    (session_complete hput n).trans (session_putSes n none _), (complete_inHand hput hlen).1⟩

theorem openFault_version (hv : agreed w = none) (u : State) : openFault (calmCmd n tag [w] s) u = some St.VERSION :=
  if_pos ⟨by simp [calmCmd], hv⟩

theorem openFault_locked (hv : (agreed w).isSome) (hl : u.deolo.lockout.get n = true) :
    openFault (calmCmd n tag [w] s) u = some St.AUTH := by
  unfold openFault
  rw [if_neg (by rintro ⟨-, h⟩; rw [show agreed w = none from h] at hv; cases hv),
    if_pos (by simp [openRefused, calmCmd, hl])]

/-! ### SESSION_AUTH (R106, R109) -/

theorem sessionAuth_calm (h : Calm n 0x02 tag body s) (hg : sessionGate s n 0x02 = none) :
    exec (.sessionAuth n) s = .next (sessionAuthOp (calmCmd n tag body s) (calmTaken n 0x02 tag body s)) :=
  congrArg Host.Outcome.next (runOp_calm h hg)

/-- A SESSION_AUTH of the right length in a session that has a nonce and a key is judged by its MAC. -/
theorem sessionAuthOp_judged {key : List Nat} (hlen : body.length = 8) (hx : session? s n = some x) (hnonce : x.nonce = some nonce)
    (hkey : x.key = some key) :
    sessionAuthOp (calmCmd n tag body s) (calmTaken n 0x02 tag body s) =
      if wordsBytes (body.map BitVec.toNat) = authMac key n nonce x.ver then
        complete s.deolo.nextId St.OK [] (putSes n (some { x with secure := true, isOpen := true }) (calmTaken n 0x02 tag body s))
      else endSession n 1 (complete s.deolo.nextId St.AUTH []
        (countAuthFail n (begin_ s.deolo.nextId (calmTaken n 0x02 tag body s)))) := by
  have hx' : session? (calmTaken n 0x02 tag body s) (calmCmd n tag body s).chan = some x := hx
  unfold sessionAuthOp
  dsimp only
  rw [hx']
  cases x
  obtain rfl := hnonce
  obtain rfl := hkey
  exact if_neg (by simp [Cmd.lenOk, calmCmd, hlen])

theorem sessionAuth_proves {key : List Nat} (h : Calm n 0x02 tag body s) (hg : sessionGate s n 0x02 = none) (hlen : body.length = 8)
    (hx : session? s n = some x) (hnonce : x.nonce = some nonce) (hkey : x.key = some key)
    (hmac : wordsBytes (body.map BitVec.toNat) = authMac key n nonce x.ver) :
    ∃ t, exec (.sessionAuth n) s = .next t ∧ session? t n = some { x with secure := true, isOpen := true } ∧
      (t.outq.get n).words = message 0x02 tag 1 St.OK [] := by
  have hput := inHand_putSes (inHand_calmTaken h) n (some { x with secure := true, isOpen := true })
  exact ⟨_, (sessionAuth_calm h hg).trans (congrArg Host.Outcome.next ((sessionAuthOp_judged hlen hx hnonce hkey).trans (if_pos hmac))),
    (session_complete hput n).trans (session_putSes n _ _), (complete_inHand hput (by simp)).1⟩

/-- What a failed proof leaves of the Deolo registers: the count, and what the lockout looks at (R109). -/
theorem countAuthFail_deolo (n : Mb) (s : State) : ∃ u : State, (countAuthFail n s).deolo.untold = u.deolo.untold ∧
    u.deolo.authFails = sat32 (s.deolo.authFails + 1) ∧ u.deolo.tags = s.deolo.tags ∧ u.deolo.sesDue = s.deolo.sesDue := by
  unfold countAuthFail
  extract_lets times d u
  split
  · exact ⟨_, logEvent_untold _ _ _ _ _, rfl, rfl, rfl⟩
  · exact ⟨u, rfl, rfl, rfl, rfl⟩

/-- The end of a session whose commands in flight have all begun: the channel has none, and no failure is counted. -/
theorem endSession_begun (reason : Nat) (h : ∀ e ∈ s.deolo.tags, e.begun = true) :
    session? (endSession n reason s) n = none ∧ (endSession n reason s).deolo.authFails = s.deolo.authFails := by
  unfold endSession
  split
  · next hx => exact ⟨hx, rfl⟩
  · have htold := notifyTo_untold Opc.NTF_SESSION_END [wd reason] n s
    rw [closeSession_nil (notBegun_nil (by rw [tags_of_untold htold]; exact h) n)]
    exact ⟨session_putSes n none _, (authFails_of_untold htold :)⟩

theorem sessionAuth_fails {key : List Nat} (h : Calm n 0x02 tag body s) (hg : sessionGate s n 0x02 = none) (hlen : body.length = 8)
    (hx : session? s n = some x) (hnonce : x.nonce = some nonce) (hkey : x.key = some key)
    (hmac : wordsBytes (body.map BitVec.toNat) ≠ authMac key n nonce x.ver) :
    ∃ t, exec (.sessionAuth n) s = .next t ∧ session? t n = none ∧ t.deolo.authFails = sat32 (s.deolo.authFails + 1) := by
  let b := begin_ s.deolo.nextId (calmTaken n 0x02 tag body s)
  let f := countAuthFail n b
  have hhand : InHand { calmEntry n 0x02 tag s with begun := true } b := inHand_begun_calm h
  obtain ⟨u, hfu, hfails, htags, hdue⟩ := countAuthFail_deolo n b
  have hftags : f.deolo.tags = [{ calmEntry n 0x02 tag s with begun := true }] :=
    (tags_of_untold hfu).trans (htags.trans hhand.tags)
  have hfdue : f.deolo.sesDue.get n = none := by
    rw [sesDue_of_untold hfu, hdue]
    exact hhand.idle
  have hbegun : ∀ e ∈ f.deolo.tags, e.begun = true := by simp [hftags]
  have hcompl : (∀ e ∈ (complete s.deolo.nextId St.AUTH [] f).deolo.tags, e.begun = true) ∧
      (complete s.deolo.nextId St.AUTH [] f).deolo.authFails = f.deolo.authFails := by
    rcases complete_cases s.deolo.nextId St.AUTH [] (u := f) (by rw [hftags]; simpa [calmEntry] using hfdue) with he | ⟨e, he⟩
    · rw [he]
      exact ⟨hbegun, rfl⟩
    · rw [he]
      obtain ⟨tags, hd⟩ := finish_deolo e St.AUTH [] f
      exact ⟨finish_begun hbegun, by rw [hd]⟩
  obtain ⟨hend, hcount⟩ := endSession_begun (n := n) 1 hcompl.1
  refine ⟨_, (sessionAuth_calm h hg).trans
    (congrArg Host.Outcome.next ((sessionAuthOp_judged hlen hx hnonce hkey).trans (if_neg hmac))), hend, ?_⟩
  rw [hcount, hcompl.2, authFails_of_untold hfu, hfails]
  rfl

/-! ### SESSION_CLOSE and NTF_SUBSCRIBE (R103, R112) -/

theorem sessionClose_ends (h : Calm n 0x03 tag [] s) (hg : sessionGate s n 0x03 = none) :
    ∃ t, exec (.sessionClose n) s = .next t ∧ session? t n = none ∧ (t.outq.get n).words = message 0x03 tag 1 St.OK [] := by
  let b := begin_ s.deolo.nextId (calmTaken n 0x03 tag [] s)
  let due : SesDue := { id := s.deolo.nextId, new := none, body := [] }
  have hhand : InHand { calmEntry n 0x03 tag s with begun := true } b := inHand_begun_calm h
  have hturn : InHand _ (turnedSession n none due b) := turnedSession_inHand hhand
  have hop : sessionCloseOp (calmCmd n tag [] s) (calmTaken n 0x03 tag [] s) =
      complete s.deolo.nextId St.OK [] (turnedSession n none due b) := by
    unfold sessionCloseOp
    rw [if_neg (by simp [Cmd.lenOk, calmCmd])]
    exact (turnSession_now hhand.tags rfl).trans (complete_inHand_finish hturn).symm
  exact ⟨_, congrArg Host.Outcome.next ((runOp_calm h hg).trans hop),
    (session_complete hturn n).trans (session_putSes n none _), (complete_inHand hturn (by simp)).1⟩

theorem ntfSubscribe_puts (h : Calm n 0x06 tag [w] s) (hg : sessionGate s n 0x06 = none) (hx : session? s n = some x) :
    ∃ t, exec (.ntfSubscribe n) s = .next t ∧ session? t n = some { x with mask := w.field 0 16 } ∧
      (t.outq.get n).words = message 0x06 tag 1 St.OK [wd x.mask] := by
  have hput := inHand_putSes (inHand_calmTaken h) n (some { x with mask := w.field 0 16 })
  have hop : subscribeOp (calmCmd n tag [w] s) (calmTaken n 0x06 tag [w] s) =
      complete s.deolo.nextId St.OK [wd x.mask]
        (putSes n (some { x with mask := w.field 0 16 }) (calmTaken n 0x06 tag [w] s)) := by
    unfold subscribeOp
    rw [if_neg (by simp [Cmd.lenOk, calmCmd]),
      show session? (calmTaken n 0x06 tag [w] s) (calmCmd n tag [w] s).chan = some x from hx]
    rfl
  exact ⟨_, congrArg Host.Outcome.next ((runOp_calm h hg).trans hop),
    (session_complete hput n).trans (session_putSes n _ _), (complete_inHand hput (by simp)).1⟩

/-! ### CANCEL (Table 4.6) -/

/-- An entry of channel n in flight, with nothing to place. -/
structure Unanswered (n : Mb) (e : TagEnt) : Prop where
  chan : e.chan = n
  done : e.done = false
  out : e.out = []
  left : e.left = none

/-- An entry with its final completion to place. -/
def TagEnt.completed (st : Nat) (body : List Word) (e : TagEnt) : TagEnt :=
  { e with done := true, out := e.out ++ [message e.op e.tag 1 st body] }

/-- An entry whose completion is placed is passed over. -/
theorem flushTags_left {ord : Bool} {tags : List TagEnt} (h : e.left.isSome) :
    flushTags n ord (e :: tags) s = (e :: (flushTags n ord tags s).1, (flushTags n ord tags s).2) := by
  rw [flushTags, if_pos (.inr h)]

theorem flushTags_unanswered {ord : Bool} (h : Unanswered n e) : flushTags n ord [e] s = ([e], s) := by
  obtain ⟨id, chan, etag, op, heldBack, begun, done, out, left⟩ := e
  obtain ⟨rfl, rfl, rfl, rfl⟩ := h
  simp [flushTags, placeAll]

/-- The completion of an entry, for which there is room, is placed, and what stands behind it comes after. -/
theorem flushTags_completed {ord : Bool} {tags : List TagEnt} (h : Unanswered n e) (hn : n.val < 14)
    (hfit : body.length + 1 ≤ roomOut s n) :
    ∃ k, flushTags n ord (e.completed st body :: tags) s =
      ({ e.completed st body with out := [], left := some k } ::
        (flushTags n ord tags (putMsg n (message e.op e.tag 1 st body) s)).1,
        (flushTags n ord tags (putMsg n (message e.op e.tag 1 st body) s)).2) := by
  obtain ⟨id, chan, etag, op, heldBack, begun, done, out, left⟩ := e
  obtain ⟨rfl, rfl, rfl, rfl⟩ := h
  have hplace : placeAll chan [message op etag 1 st body] s = ([], putMsg chan (message op etag 1 st body) s) := by
    rw [placeAll, if_pos (show (message op etag 1 st body).length ≤ roomOut s chan from hfit), placeAll]
  have hlow : chan.val ≠ 14 := Nat.ne_of_lt hn
  refine ⟨((putMsg chan (message op etag 1 st body) s).outq.get chan).words.length, ?_⟩
  rw [flushTags]
  simp [TagEnt.completed, hplace, hlow]

/-- A completion on a channel where no turn of sessions waits is the placement of its message. -/
theorem complete_unanswered (hentry : entry? s e.id = some e) (h : Unanswered n e) (hup : domainDown s n = false)
    (hidle : s.deolo.sesDue.get n = none) : complete e.id st body s = flushOut n (modTag e.id (TagEnt.completed st body) s) := by
  obtain ⟨tags, hd⟩ := finish_deolo e st body s
  rw [complete, hentry]
  simp only [h.done, h.chan, hup]
  refine (settleSession_idle ?_).trans ?_
  · rw [hd]
    exact hidle
  · rw [finish, h.chan]
    rfl

/-- The first of two commands in flight completes: its message is placed, and the second stays in flight. -/
theorem complete_first {o : TagEnt} (ht : s.deolo.tags = [e, o]) (he : Unanswered n e) (ho : Unanswered n o) (hid : e.id ≠ o.id)
    (hn : n.val < 14) (hup : domainDown s n = false) (hidle : s.deolo.sesDue.get n = none) (hfit : body.length + 1 ≤ roomOut s n) :
    let t := complete e.id st body s
    (∃ f, t.deolo = { s.deolo with tags := [f, o] } ∧ f.left.isSome ∧ f.id = e.id) ∧ t.sys = s.sys ∧
      (t.outq.get n).words = (s.outq.get n).words ++ message e.op e.tag 1 st body := by
  intro t
  let u := modTag e.id (TagEnt.completed st body) s
  have htags : u.deolo.tags = [e.completed st body, o] := by
    show s.deolo.tags.map _ = _
    simp [ht, Ne.symm hid]
  obtain ⟨k, hk⟩ := flushTags_completed (s := u) (ord := ordered u n) (st := st) (tags := [o]) he hn hfit
  rw [flushTags_unanswered ho] at hk
  have hput := putMsg_frame (s := u) (msg := message e.op e.tag 1 st body) hn
  have htu : t = { putMsg n (message e.op e.tag 1 st body) u with
      deolo := { u.deolo with tags := [{ e.completed st body with out := [], left := some k }, o] } } := by
    unfold t
    rw [complete_unanswered (by simp [entry?, ht]) he hup hidle, flushOut, htags, hk]
    exact congrArg (fun d : Deolo => ({ putMsg n (message e.op e.tag 1 st body) u with
      deolo := { d with tags := [{ e.completed st body with out := [], left := some k }, o] } } : State)) (putMsg_deolo _ _ _)
  rw [htu]
  exact ⟨⟨_, rfl, rfl, rfl⟩, hput.part .sys rfl, putMsg_words hn⟩

/-- The second of two commands in flight completes behind the first, whose message stands in the queue. -/
theorem complete_second {f o : TagEnt} (ht : s.deolo.tags = [f, o]) (hf : f.left.isSome) (ho : Unanswered n o) (hid : f.id ≠ o.id)
    (hn : n.val < 14) (hup : domainDown s n = false) (hidle : s.deolo.sesDue.get n = none) (hfit : body.length + 1 ≤ roomOut s n) :
    ((complete o.id st body s).outq.get n).words = (s.outq.get n).words ++ message o.op o.tag 1 st body := by
  let u := modTag o.id (TagEnt.completed st body) s
  have htags : u.deolo.tags = [f, o.completed st body] := by
    show s.deolo.tags.map _ = _
    simp [ht, hid]
  obtain ⟨k, hk⟩ := flushTags_completed (s := u) (ord := ordered u n) (st := st) (tags := []) ho hn hfit
  rw [complete_unanswered (by simp [entry?, ht, hid]) ho hup hidle, flushOut, htags, flushTags_left hf, hk]
  exact putMsg_words hn

/-- A command that nothing waits for at the arbiter ends with ST_ABORTED alone. -/
theorem abortTag_waitless {id : Nat} (h : ∀ o ∈ s.adm.queue, o.tag ≠ some id) :
    ∃ acc met mb, abortTag id s = complete id St.ABORTED [] { s with acc := acc, met := met, mb := mb } := by
  unfold abortTag
  rw [List.find?_eq_none.2 (by simpa using h)]
  exact ⟨_, _, _, rfl⟩

/-- A command other than the one in flight is taken beside it (R99, R100). -/
theorem runOp_beside {act : Cmd → State → State} {op : Nat} (h : Calm n op tag body { s with deolo := { s.deolo with tags := [] } })
    (hg : sessionGate s n op = none) (hx : session? s n = some x) (hver : 0x0200 ≤ x.ver) (ht : s.deolo.tags = [e])
    (hne : e.tag ≠ tag) : runOp n op act s = act (calmCmd n tag body s) (calmTaken n op tag body s) := by
  obtain ⟨w, hw, hop, htag, hcls, hst⟩ := h.head
  have hold : oldSession s n = false := by simp [oldSession, hx]; omega
  have hroom : tagRoom s n = some false := by
    have hmax : 48 ≤ inflightMax s - 16 := by unfold inflightMax; split <;> decide
    have hone : (s.deolo.tags.filter fun e => !e.heldBack).length ≤ 1 := by
      rw [ht]
      exact List.length_filter_le _ _
    unfold tagRoom
    dsimp only
    rw [hold, if_neg (by simp), if_pos (by omega)]
  have hfree : tagInFlight s n tag = false := by simp [tagInFlight, hx, ht, hne]
  have hrec : recoveryAnswers s = false := recoveryAnswers_no (s := s) h.mode
  have hn : n ≠ 15 := fun e => absurd (e ▸ h.chan) (by decide)
  have hhead : headMsg s n = some (w, body) := hw
  have hup : domainDown s n = false := h.up
  have htakes : firmwareTakes s = true := h.takes
  have hidle : s.deolo.sesDue.get n = none := h.idle
  unfold runOp runCmd
  rw [hhead]
  simp only [hop, htag, hcls, hst, hn, hrec, hup, htakes, hidle, hroom, hfree, hg, hold]
  simp [calmCmd, calmTaken]

theorem cancel_aborts (h : Calm n 0x05 tag [w] { s with deolo := { s.deolo with tags := [] } }) (hg : sessionGate s n 0x05 = none)
    (hx : session? s n = some x) (hver : 0x0200 ≤ x.ver) (ht : s.deolo.tags = [e]) (he : Unanswered n e) (hb : e.begun = false)
    (htag : e.tag = w.field 0 9) (hne : e.tag ≠ tag) (hsince : x.since ≤ e.id) (hid : e.id < s.deolo.nextId)
    (hq : ∀ o ∈ s.adm.queue, o.tag ≠ some e.id) :
    ∃ t, exec (.cancel n) s = .next t ∧
      (t.outq.get n).words = message e.op e.tag 1 St.ABORTED [] ++ message 0x05 tag 1 St.OK [] := by
  let o := calmEntry n 0x05 tag s
  let u := calmTaken n 0x05 tag [w] s
  have hutags : u.deolo.tags = [e, o] := by
    show s.deolo.tags ++ [_] = _
    rw [ht]
    rfl
  have hio : e.id ≠ o.id := Nat.ne_of_lt hid
  have ho : Unanswered n o := ⟨rfl, rfl, rfl, rfl⟩
  have hempty : (u.outq.get n).words = [] := h.empty
  let c := calmCmd n tag [w] s
  have hfind : u.deolo.tags.find? (fun f => f.chan == c.chan && f.tag == (c.w 0).field 0 9 && f.id != c.id &&
      decide (x.since ≤ f.id)) = some e := by
    rw [hutags, List.find?_cons_of_pos]
    have hcid : e.id ≠ c.id := hio
    simp [he.chan, htag, hcid, hsince, show c.chan = n from rfl, show c.w 0 = w from rfl]
  have hop : cancelOp c u = complete o.id St.OK [] (abortTag e.id u) := by
    unfold cancelOp
    dsimp only
    rw [if_neg (by simp [Cmd.lenOk, c, calmCmd]), show session? u c.chan = some x from hx]
    dsimp only
    rw [hfind]
    dsimp only
    rw [if_neg (by simp [he.done]), if_pos (by simp [hb])]
    rfl
  obtain ⟨acc, met, mb, habort⟩ := abortTag_waitless (s := u) hq
  let v : State := { u with acc := acc, met := met, mb := mb }
  have hup : domainDown v n = false := h.up
  have hroom : roomOut v n = 64 := by rw [roomOut, show (v.outq.get n).words = [] from hempty]; rfl
  obtain ⟨⟨f, hd, hleft, hfid⟩, hsys, hwords⟩ := complete_first (s := v) (st := St.ABORTED) (body := []) hutags he ho hio h.chan hup
    h.idle (by rw [hroom]; decide)
  let z := complete e.id St.ABORTED [] v
  have hzwords : (z.outq.get n).words = message e.op e.tag 1 St.ABORTED [] := by
    rw [hwords, show (v.outq.get n).words = [] from hempty, List.nil_append]
  have hsecond := complete_second (s := z) (st := St.OK) (body := []) (by rw [hd]) hleft ho (by rw [hfid]; exact hio) h.chan
    ((domainDown_below h.chan hsys).trans hup) (by rw [hd]; exact h.idle) (by rw [roomOut, hzwords]; simp [message])
  refine ⟨_, congrArg Host.Outcome.next ((runOp_beside h hg hx hver ht hne).trans (hop.trans (by rw [habort]))), ?_⟩
  rw [hsecond, hzwords]
  rfl

/-! ### The end of a lockout (R109) -/

theorem authLockoutEnd_forgets (h : s.deolo.lockout.get n = true) :
    ∃ t, exec (.authLockoutEnd n) s = .next t ∧ t.deolo.lockout.get n = false ∧ t.deolo.authTimes.get n = [] := by
  have hx : exec (.authLockoutEnd n) s = _ := if_neg (by simp [h])
  exact ⟨_, hx, vput_get_same _ _ _, vput_get_same _ _ _⟩

/-- Settles O13, command by command. -/
theorem sessionsOpenAreProvedAndEnd : Obligations.SessionsOpenAreProvedAndEnd := by
  intro s n tag
  refine ⟨fun w h hg => ⟨?_, ?_, ?_⟩, ?_, fun h hg => sessionClose_ends h hg, fun w x h hg hx => ntfSubscribe_puts h hg hx, ?_,
    fun h => authLockoutEnd_forgets h⟩
  · intro v hv hlo hhi hmax hl hk
    exact sessionOpen_opens h hg (agreed_highest hv hlo hhi hmax) hl hk
  · intro hs hno
    exact sessionOpen_refused h hg hs (openFault_version (agreed_none hno) _)
  · intro hs ⟨u, hu, hlo, hhi⟩ hl
    exact sessionOpen_refused h hg hs (openFault_locked (agreed_some hu hlo hhi) hl)
  · intro body nonce key x h hg hlen hx hnonce hkey
    exact ⟨sessionAuth_proves h hg hlen hx hnonce hkey, sessionAuth_fails h hg hlen hx hnonce hkey⟩
  · intro e w x h hg hx hver ht hc htag hne hsince hid hb hd ho hl hq
    exact cancel_aborts h hg hx hver ht ⟨hc, hd, ho, hl⟩ hb htag hne hsince hid hq

end Sys2Proof.Machine
end

section
/-! What entering a record leaves of the recorder: the watermark, the counts of the window and the window itself; and the
reasons of the summaries that stand (R495, R496, R499). -/

namespace Sys2Proof.Machine

variable {s t u : State} {x : Summ}

/-- The recorder without what the entering of a record changes. -/
def Rec.unentered (r : Rec) : Rec := { r with full := false, buf := [], nextSeq := 0, dropped := 0, summs := [], catchAll := none }

/-- No summary of the rate limit stands (R499). -/
def NoRateSummary (s : State) : Prop := ∀ x ∈ s.log.summs, x.reason ≠ 1

theorem watermark_of_unentered (h : t.log.unentered = s.log.unentered) : t.log.watermark = s.log.watermark :=
  (congrArg (fun r : Rec => r.watermark) h :)

theorem counts_of_unentered (h : t.log.unentered = s.log.unentered) : t.log.counts = s.log.counts :=
  (congrArg (fun r : Rec => r.counts) h :)

theorem window_of_unentered (h : t.log.unentered = s.log.unentered) : t.log.window = s.log.window :=
  (congrArg (fun r : Rec => r.window) h :)

@[simp] theorem collect_unentered (code obj sev reason : Nat) (data : List Nat) (s : State) :
    (collect code obj sev reason data s).log.unentered = s.log.unentered := by
  unfold collect
  extract_lets now
  split
  · rfl
  · split <;> rfl

@[simp] theorem dropRecord_unentered (code obj sev : Nat) (data : List Nat) (s : State) :
    (dropRecord code obj sev data s).log.unentered = s.log.unentered :=
  collect_unentered _ _ _ _ _ _

@[simp] theorem displaceOne_unentered (sev : Nat) (s : State) : (displaceOne sev s).log.unentered = s.log.unentered := by
  unfold displaceOne
  extract_lets low r
  split
  · rfl
  · exact dropRecord_unentered _ _ _ _ _

@[simp] theorem makeRoom_unentered (sev need fuel : Nat) (s : State) : (makeRoom sev need fuel s).log.unentered = s.log.unentered := by
  induction fuel generalizing s with
  | zero => rfl
  | succ fuel ih =>
    unfold makeRoom
    split
    · rfl
    · rw [ih, displaceOne_unentered]

/-- A record that enters stands at the end of the buffer under the next SEQ (R493, R495). -/
theorem appendFrame_log (code sev obj : Nat) (data : List Nat) (s : State) :
    (appendFrame code sev obj data s).log = { s.log with
      buf := s.log.buf ++ [{ seq := s.log.nextSeq, code := code, sev := sev, obj := obj, time := optime s, data := data }]
      nextSeq := (s.log.nextSeq + 1) % 2 ^ 24 } := by
  unfold appendFrame
  extract_lets f u v w
  have hw : w.log = v.log := by
    unfold w
    split <;> rfl
  split
  · rw [notifyAll_log, hw]
  · exact hw

@[simp] theorem enterRecord_unentered (code sev obj : Nat) (data : List Nat) (s : State) :
    (enterRecord code sev obj data s).log.unentered = s.log.unentered := by
  unfold enterRecord
  extract_lets need gain
  split
  · rw [appendFrame_log]
    rfl
  · split
    · rw [appendFrame_log]
      exact makeRoom_unentered _ _ _ _
    · exact dropRecord_unentered _ _ _ _ _

@[simp] theorem enterSummary_unentered (x : Summ) (s : State) : (enterSummary x s).log.unentered = s.log.unentered := by
  unfold enterSummary
  split
  · rfl
  · exact enterRecord_unentered _ _ _ _ _

theorem enterSummaries_unentered (l : List Summ) (s : State) : (forEach l enterSummary s).log.unentered = s.log.unentered := by
  induction l generalizing s with
  | nil => rfl
  | cons x l ih => exact (ih _).trans (enterSummary_unentered x s)

/-- A record offered leaves the watermark (R504). -/
theorem logEvent_watermark (code sev obj : Nat) (data : List Nat) (s : State) :
    (logEvent code sev obj data s).log.watermark = s.log.watermark := by
  unfold logEvent
  split
  · rfl
  · split
    · rfl
    · extract_lets u
      have hu : u.log.watermark = s.log.watermark := by
        unfold u syncWindow
        split
        · rfl
        · exact (watermark_of_unentered (enterSummaries_unentered _ _) :)
      rw [← hu]
      split
      · exact watermark_of_unentered (enterRecord_unentered _ _ _ _ _)
      · split
        · exact (watermark_of_unentered (collect_unentered _ _ _ _ _ _) :)
        · exact (watermark_of_unentered (enterRecord_unentered _ _ _ _ _) :)

/-! ### The reasons of the summaries -/

/-- What is collected as dropped is no summary of the rate limit. -/
theorem collect_noRate {code obj sev reason : Nat} {data : List Nat} (hr : reason ≠ 1) (h : NoRateSummary s) :
    NoRateSummary (collect code obj sev reason data s) := by
  unfold collect
  extract_lets now
  split
  · intro y hy
    obtain ⟨z, hz, rfl⟩ := List.mem_map.1 hy
    have hz1 := h z hz
    split <;> exact hz1
  · split
    · intro y hy
      rcases List.mem_append.1 hy with hy | hy
      · exact h y hy
      · rw [List.mem_singleton.1 hy]
        exact hr
    · exact h

theorem dropRecord_noRate {code obj sev : Nat} {data : List Nat} (h : NoRateSummary s) :
    NoRateSummary (dropRecord code obj sev data s) :=
  collect_noRate (s := { s with log := { s.log with dropped := _, full := true } }) (by decide) h

theorem displaceOne_noRate {sev : Nat} (h : NoRateSummary s) : NoRateSummary (displaceOne sev s) := by
  unfold displaceOne
  extract_lets low r
  split
  · exact h
  · exact dropRecord_noRate (s := { s with log := { s.log with buf := _ } }) h

theorem makeRoom_noRate {sev need fuel : Nat} (h : NoRateSummary s) : NoRateSummary (makeRoom sev need fuel s) := by
  induction fuel generalizing s with
  | zero => exact h
  | succ fuel ih =>
    unfold makeRoom
    split
    · exact h
    · exact ih (displaceOne_noRate h)

theorem appendFrame_noRate {code sev obj : Nat} {data : List Nat} (h : NoRateSummary s) :
    NoRateSummary (appendFrame code sev obj data s) := by
  unfold NoRateSummary
  rw [appendFrame_log]
  exact h

theorem enterSummary_noRate (h : NoRateSummary s) : NoRateSummary (enterSummary x s) := by
  unfold enterSummary
  split
  · exact h
  · unfold enterRecord
    extract_lets need gain
    split
    · exact appendFrame_noRate h
    · split
      · exact appendFrame_noRate (makeRoom_noRate h)
      · exact dropRecord_noRate h

theorem enterSummaries_noRate {l : List Summ} (h : NoRateSummary s) : NoRateSummary (forEach l enterSummary s) := by
  induction l generalizing s with
  | nil => exact h
  | cons x l ih => exact ih (enterSummary_noRate h)

end Sys2Proof.Machine
end

section
/-! The obligation on the event log, its writes and summaries, and the snapshots. -/

namespace Sys2Proof.Machine

variable {s t u : State} {n : Mb} {tag : Nat} {w a b : Word} {x : Session}

/-! ### EVT_READ and EVT_CLEAR (R503, R504) -/

theorem session_putCursor (v : Nat) (hx : session? s n = some x) : putCursor n v s = putSes n (some { x with cursor := v }) s := by
  rw [putCursor, hx]

theorem evtReadOp_streams (hx : session? s n = some x) (hw : w.field 0 16 ≠ 0) :
    let fs := framesAfter s x.cursor (w.field 0 16)
    evtReadOp (calmCmd n tag [w] s) (calmTaken n 0x40 tag [w] s) =
      streamOut s.deolo.nextId (packSegs (fs.map Frame.words) []) St.OK [wd fs.length]
        (putSes n (some { x with cursor := match fs.getLast? with | some f => f.seq | none => x.cursor })
          (calmTaken n 0x40 tag [w] s)) := by
  intro fs
  let u := calmTaken n 0x40 tag [w] s
  have hxu : session? u n = some x := hx
  have hcur : cursorOf u n = x.cursor := by rw [cursorOf, hxu]
  unfold evtReadOp
  extract_lets most gs v
  have hgs : gs = fs := by
    show framesAfter u (cursorOf u n) _ = _
    rw [hcur]
    rfl
  have hv : v = putSes n (some { x with cursor := match fs.getLast? with | some f => f.seq | none => x.cursor }) u := by
    unfold v
    rw [hgs]
    cases fs.getLast? with
    | some f => exact session_putCursor f.seq hxu
    | none =>
      show u = putSes n (some x) u
      rw [← hxu]
      exact (congrArg (fun d => { u with deolo := { u.deolo with ses := d } }) (vput_get_self u.deolo.ses n)).symm
  rw [if_neg (by simp [Cmd.lenOk, calmCmd, most, Cmd.w, hw]), hv, hgs]
  rfl

theorem evtRead_sends (h : Calm n 0x40 tag [w] s) (hg : sessionGate s n 0x40 = none) (hx : session? s n = some x)
    (hw : w.field 0 16 ≠ 0) :
    ∃ t, exec (.evtRead n) s = .next t ∧ SameBut [.inq, .outq, .deolo, .link] s t ∧
      session? t n = some { x with
        cursor := match (framesAfter s x.cursor (w.field 0 16)).getLast? with | some f => f.seq | none => x.cursor } ∧
      ∀ m, m = segments 0x40 tag 0 (packSegs ((framesAfter s x.cursor (w.field 0 16)).map Frame.words) []) ++
          [message 0x40 tag 1 St.OK [wd (framesAfter s x.cursor (w.field 0 16)).length]] →
        m.flatten.length ≤ 64 → (t.outq.get n).words = m.flatten := by
  let fs := framesAfter s x.cursor (w.field 0 16)
  let u := calmTaken n 0x40 tag [w] s
  let y : Session := { x with cursor := match fs.getLast? with | some f => f.seq | none => x.cursor }
  obtain ⟨⟨tags, hd⟩, hsame, hwords⟩ := streamOut_inHand (st := St.OK) (body := [wd fs.length])
    (segs := packSegs (fs.map Frame.words) []) (inHand_putSes (inHand_calmTaken h) n (some y))
  refine ⟨_, congrArg Host.Outcome.next ((runOp_calm h hg).trans (evtReadOp_streams hx hw)), ?_, ?_, hwords⟩
  · refine Same.sameBut (k := 960) (((calmTaken_frame n 0x40 tag [w] s).mono rfl).trans ?_) rfl
    exact ((same_deolo (t := u) rfl).2 (same_refl _ _)).trans (hsame.mono rfl)
  · exact (session_congr (congrArg (fun d : Deolo => d.ses) hd :) n).trans (session_putSes n (some y) u)

theorem evtClear_calm (h : Calm n 0x41 tag [w] s) (hg : sessionGate s n 0x41 = none) :
    exec (.evtClear n) s = .next (evtClearOp (calmCmd n tag [w] s) (calmTaken n 0x41 tag [w] s)) :=
  congrArg Host.Outcome.next (runOp_calm h hg)

theorem evtClear_refused (h : Calm n 0x41 tag [w] s) (hg : sessionGate s n 0x41 = none)
    (hnew : newer (w.field 0 24) (lastSeq s) = true) :
    ∃ t, exec (.evtClear n) s = .next t ∧ SameBut [.inq, .outq, .deolo, .link] s t ∧
      (t.outq.get n).words = message 0x41 tag 1 St.RANGE [wd (evtPend s)] := by
  have hop : evtClearOp (calmCmd n tag [w] s) (calmTaken n 0x41 tag [w] s) =
      complete s.deolo.nextId St.RANGE [wd (evtPend s)] (calmTaken n 0x41 tag [w] s) := by
    unfold evtClearOp
    extract_lets v fail r u
    have hfail : fail = true := by
      have : newer v (lastSeq (calmTaken n 0x41 tag [w] s)) = true := hnew
      simp [fail, this]
    have hu : u = calmTaken n 0x41 tag [w] s := if_neg (by simp [hfail])
    rw [hu, hfail]
    rfl
  obtain ⟨hsame, hwords⟩ := complete_calm (st := St.RANGE) (l := [wd (evtPend s)]) h (by simp)
  exact ⟨_, (evtClear_calm h hg).trans (congrArg Host.Outcome.next hop), hsame, hwords⟩

/-- What an EVT_CLEAR within range does before its completion: it moves the watermark, never back (R504). -/
def clearTo (v : Nat) (s : State) : State :=
  if newer v s.log.watermark = true then logEvent Evt.LOG_CLEARED 0 objNone [v] { s with log := { s.log with watermark := v } }
  else s

theorem clearTo_frame (v : Nat) (s : State) : Same 100664128 s (clearTo v s) := by
  unfold clearTo
  split
  · exact (logEvent_same rfl).2 ((same_log rfl).2 (same_refl _ _))
  · exact same_refl _ _

theorem clearTo_watermark (v : Nat) (s : State) :
    (clearTo v s).log.watermark = if newer v s.log.watermark = true then v else s.log.watermark := by
  unfold clearTo
  split
  · exact logEvent_watermark _ _ _ _ _
  · rfl

theorem evtClearOp_moves (hnew : newer (w.field 0 24) (lastSeq s) = false) :
    ∃ l, evtClearOp (calmCmd n tag [w] s) (calmTaken n 0x41 tag [w] s) =
      complete s.deolo.nextId St.OK l (clearTo (w.field 0 24) (calmTaken n 0x41 tag [w] s)) := by
  unfold evtClearOp
  extract_lets v fail r z
  have hv : v = w.field 0 24 := rfl
  have hfail : fail = false := by
    have hsame : newer v (lastSeq (calmTaken n 0x41 tag [w] s)) = false := hnew
    simp [fail, Cmd.lenOk, calmCmd, hsame]
  have hz : z = clearTo (w.field 0 24) (calmTaken n 0x41 tag [w] s) := by
    unfold z clearTo
    simp only [hfail, hv, Bool.not_false, Bool.true_and]
    rfl
  rw [hz, hfail]
  exact ⟨_, rfl⟩

theorem evtClear_moves (h : Calm n 0x41 tag [w] s) (hg : sessionGate s n 0x41 = none)
    (hnew : newer (w.field 0 24) (lastSeq s) = false) :
    ∃ t, exec (.evtClear n) s = .next t ∧ SameBut (.inq :: logging) s t ∧
      t.log.watermark = if newer (w.field 0 24) s.log.watermark = true then w.field 0 24 else s.log.watermark := by
  obtain ⟨l, hl⟩ := evtClearOp_moves (n := n) (tag := tag) hnew
  refine ⟨_, (evtClear_calm h hg).trans (congrArg Host.Outcome.next hl), ?_, ?_⟩
  · refine Same.sameBut (k := 100664128 ||| 128) (((calmTaken_frame n 0x41 tag [w] s).mono rfl).trans ?_) rfl
    exact ((clearTo_frame _ _).mono rfl).trans (complete_frame.mono rfl)
  · rw [complete_log]
    exact clearTo_watermark _ _

/-! ### SNAP_READ (R333 to R335) -/

/-- The components that a conditional change along a list has reached. -/
theorem foldl_vmod_get {α : Type} {k : Nat} {p : Fin k → Prop} [DecidablePred p] {f : α → α} {l : List (Fin k)} (hl : l.Nodup)
    (v : Vector α k) (j : Fin k) :
    (l.foldl (fun v i => if p i then vmod v i f else v) v).get j = if j ∈ l ∧ p j then f (v.get j) else v.get j := by
  induction l generalizing v with
  | nil => simp
  | cons i l ih =>
    obtain ⟨hi, hl⟩ := List.nodup_cons.1 hl
    rw [List.foldl_cons, ih hl]
    by_cases hji : j = i
    · subst hji
      by_cases hp : p j <;> simp [hi, hp]
    · have hget : (if p i then vmod v i f else v).get j = v.get j := by
        split
        · exact vmod_get_ne _ _ _ _ hji
        · rfl
      rw [hget]
      simp [hji]

theorem clearItems_slot (first count : Nat) (s : State) (i : Fin 192) :
    (clearItems false first count s).acc.slot.get i =
      if first ≤ i.val ∧ i.val < first + count then (s.acc.slot.get i).clear else s.acc.slot.get i := by
  refine (foldl_vmod_get (List.nodup_finRange 192) s.acc.slot i).trans ?_
  simp

theorem accRecord_length (s : State) (i : Fin 192) : (accRecord s i).length = 7 := rfl

theorem trkRecord_length (s : State) (i : Fin 96) : (trkRecord s i).length = 9 := rfl

/-- Records of m words in groups of k make groups of at most k * m words. -/
theorem groupRecs_length {k m : Nat} {fuel : Nat} {l : List (List Word)} (h : ∀ r ∈ l, r.length = m) :
    ∀ g ∈ groupRecs k fuel l, g.length ≤ k * m := by
  induction fuel generalizing l with
  | zero => simp [groupRecs]
  | succ fuel ih =>
    cases l with
    | nil => simp [groupRecs]
    | cons r l =>
      intro g hg
      rcases List.mem_cons.1 hg with rfl | hg
      · have hlen : ∀ l' : List (List Word), (∀ r ∈ l', r.length = m) → l'.flatten.length = l'.length * m := by
          intro l' hl'
          rw [List.length_flatten, List.map_congr_left hl', List.map_const', List.sum_replicate, smul_eq_mul]
        rw [hlen _ fun r hr => h r (List.mem_of_mem_take hr)]
        exact Nat.mul_le_mul_right m (List.length_take_le _ _)
      · exact ih (fun r hr => h r (List.mem_of_mem_drop hr)) g hg

/-- A snapshot of one segment fits a queue with its completion (R116). -/
theorem snapSegs_single {source first count : Nat} {g : List Word} (h : snapSegs s source first count = [g]) : g.length ≤ 30 := by
  unfold snapSegs at h
  extract_lets segs at h
  have hmost : ∀ r ∈ segs, r.length ≤ 28 := by
    unfold segs
    split
    · exact groupRecs_length (k := 4) (m := 7) fun r hr => by
        obtain ⟨i, -, rfl⟩ := List.mem_map.1 hr
        exact accRecord_length s i
    · intro r hr
      refine (groupRecs_length (k := 3) (m := 9) (fun r hr => ?_) r hr).trans (by decide)
      obtain ⟨i, -, rfl⟩ := List.mem_map.1 hr
      exact trkRecord_length s i
  clear_value segs
  cases segs with
  | nil => cases h
  | cons r l =>
    obtain ⟨rfl, -⟩ := List.cons.inj h
    have hr := hmost r (by simp)
    simp only [List.length_cons]
    omega

/-- A SNAP_READ as it waits or latches. -/
def snapWait (source : Nat) (a b : Word) (id : Nat) : SnapWait :=
  { tag := id, source := source, first := a.field 0 24, count := b.field 0 8, clr := b.bit 31 }

theorem snapArgsOk_calm {source most : Nat} (hb : b.field 0 8 ≠ 0) (hr : a.field 0 24 + b.field 0 8 ≤ most)
    (hclr : source = 2 → b.bit 31 = false) : snapArgsOk source most (calmCmd n tag [a, b] s) = true := by
  unfold snapArgsOk
  have hs : (source == 2 && b.bit 31) = false := by
    by_cases h2 : source = 2
    · simp [hclr h2]
    · simp [h2]
  show (true && decide (b.field 0 8 ≠ 0 ∧ a.field 0 24 + b.field 0 8 ≤ most) && !(source == 2 && b.bit 31)) = true
  rw [hs, decide_eq_true ⟨hb, hr⟩]
  rfl

theorem snapReadOp_latches {source most : Nat} (hok : snapArgsOk source most (calmCmd n tag [a, b] s) = true) (hw : b.bit 30 = false) :
    snapReadOp source most (calmCmd n tag [a, b] s) u = snapLatch (snapWait source a b s.deolo.nextId) u := by
  unfold snapReadOp
  rw [hok]
  exact if_neg (show ¬ b.bit 30 = true by rw [hw]; decide)

theorem snapReadOp_waits {source most : Nat} (hok : snapArgsOk source most (calmCmd n tag [a, b] s) = true) (hw : b.bit 30 = true) :
    snapReadOp source most (calmCmd n tag [a, b] s) u =
      { u with acc := { u.acc with snaps := u.acc.snaps ++ [snapWait source a b s.deolo.nextId] } } := by
  unfold snapReadOp
  rw [hok]
  exact if_pos hw

/-- The latch of a SNAP_READ in hand: the stream, and the slots cleared that it names. -/
theorem snapLatch_calm {source : Nat} (h : Calm n 0x50 tag [a, b] s) :
    let t := snapLatch (snapWait source a b s.deolo.nextId) (calmTaken n 0x50 tag [a, b] s)
    (b.bit 31 = false → SameBut [.inq, .outq, .deolo, .link] s t) ∧ SameBut [.inq, .outq, .deolo, .link, .acc] s t ∧
      (∀ i : Fin 192, t.acc.slot.get i =
        if b.bit 31 = true ∧ a.field 0 24 ≤ i.val ∧ i.val < a.field 0 24 + b.field 0 8 then (s.acc.slot.get i).clear
        else s.acc.slot.get i) ∧
      ∀ g, snapSegs s source (a.field 0 24) (b.field 0 8) = [g] →
        (t.outq.get n).words = message 0x50 tag 3 0 g ++ message 0x50 tag 1 St.OK [wd g.length] := by
  intro t
  let u := calmTaken n 0x50 tag [a, b] s
  let v := if b.bit 31 = true then clearItems false (a.field 0 24) (b.field 0 8) u else u
  have hv : Same 65536 u v ∧ ∀ i, v.acc.slot.get i =
      if b.bit 31 = true ∧ a.field 0 24 ≤ i.val ∧ i.val < a.field 0 24 + b.field 0 8 then (s.acc.slot.get i).clear
      else s.acc.slot.get i := by
    unfold v
    by_cases hb : b.bit 31 = true
    · rw [if_pos hb]
      refine ⟨(clearItems_same rfl).2 (same_refl _ _), fun i => (clearItems_slot _ _ u i).trans ?_⟩
      simp only [hb, true_and]
      rfl
    · rw [if_neg hb]
      refine ⟨same_refl _ _, fun i => ?_⟩
      simp only [hb]
      rfl
  have hhand : InHand (calmEntry n 0x50 tag s) v :=
    (inHand_calmTaken h).congr (congrArg Deolo.tags (hv.1.part .deolo rfl)) (congrArg Deolo.sesDue (hv.1.part .deolo rfl))
      (hv.1.part .outq rfl) (hv.1.part .sys rfl)
  let segs := snapSegs s source (a.field 0 24) (b.field 0 8)
  obtain ⟨-, hsame, hwords⟩ := streamOut_inHand (st := St.OK) (segs := segs)
    (body := [wd (segs.foldl (fun n g => n + g.length) 0)]) hhand
  have ht : t = streamOut (calmEntry n 0x50 tag s).id segs St.OK [wd (segs.foldl (fun n g => n + g.length) 0)] v := rfl
  have htaken : Same 640 s u := calmTaken_frame n 0x50 tag [a, b] s
  rw [ht]
  refine ⟨fun hb => ?_, ?_, fun i => ?_, fun g hseg => ?_⟩
  · have huv : v = u := if_neg (by simp [hb])
    rw [huv] at hsame ⊢
    exact ((htaken.mono (m := 960) rfl).trans (hsame.mono rfl)).sameBut rfl
  · exact (((htaken.mono (m := 960 + 65536) rfl).trans (hv.1.mono rfl)).trans (hsame.mono rfl)).sameBut rfl
  · rw [hsame.part .acc rfl]
    exact hv.2 i
  · have hlen := snapSegs_single hseg
    have hone : segs = [g] := hseg
    rw [hone] at hwords ⊢
    have htotal : [g].foldl (fun n g => n + g.length) 0 = g.length := Nat.zero_add _
    rw [htotal] at hwords ⊢
    have hflat : (segments 0x50 tag 0 [g] ++ [message 0x50 tag 1 St.OK [wd g.length]]).flatten =
        message 0x50 tag 3 0 g ++ message 0x50 tag 1 St.OK [wd g.length] := by simp [segments]
    refine (hwords _ rfl ?_).trans hflat
    refine (congrArg List.length hflat).trans_le ?_
    simp [message]
    omega

theorem snapReadAcc_calm (h : Calm n 0x50 tag [a, b] s) (hg : sessionGate s n 0x50 = none)
    (hsrc : a.field 24 8 = 1) :
    exec (.snapReadAcc n) s = .next (snapReadOp 1 192 (calmCmd n tag [a, b] s) (calmTaken n 0x50 tag [a, b] s)) := by
  refine congrArg Host.Outcome.next ((runCmd_calm h hg ?_).trans ?_)
  · show (0x50 == 0x50 && a.field 24 8 != 2 && a.field 24 8 != 3) = true
    rw [hsrc]
    rfl
  · exact if_pos hsrc

theorem snapReadTrk_calm (h : Calm n 0x50 tag [a, b] s) (hg : sessionGate s n 0x50 = none) (hsrc : a.field 24 8 = 2) :
    exec (.snapReadTrk n) s = .next (snapReadOp 2 96 (calmCmd n tag [a, b] s) (calmTaken n 0x50 tag [a, b] s)) := by
  refine congrArg Host.Outcome.next (runCmd_calm h hg ?_)
  show (0x50 == 0x50 && a.field 24 8 == 2) = true
  rw [hsrc]
  rfl

/-- A SNAP_READ that waits for its clock leaves only its wait. -/
theorem snapWait_frame (x : SnapWait) (s : State) :
    SameBut [.inq, .deolo, .acc] s { calmTaken n 0x50 tag [a, b] s with acc := { s.acc with snaps := s.acc.snaps ++ [x] } } :=
  Same.sameBut (k := 640 + 65536)
    (((calmTaken_frame n 0x50 tag [a, b] s).mono rfl).trans ((same_acc rfl).2 (same_refl _ _))) rfl

theorem snapReadAcc_answers (h : Calm n 0x50 tag [a, b] s) (hg : sessionGate s n 0x50 = none) (hcount : b.field 0 8 ≠ 0)
    (hsrc : a.field 24 8 = 1) (hr : a.field 0 24 + b.field 0 8 ≤ 192) :
    (b.bit 30 = false → ∃ t, exec (.snapReadAcc n) s = .next t ∧ SameBut [.inq, .outq, .deolo, .link, .acc] s t ∧
      (∀ i : Fin 192, t.acc.slot.get i =
        if b.bit 31 = true ∧ a.field 0 24 ≤ i.val ∧ i.val < a.field 0 24 + b.field 0 8 then (s.acc.slot.get i).clear
        else s.acc.slot.get i) ∧
      ∀ g, snapSegs s 1 (a.field 0 24) (b.field 0 8) = [g] →
        (t.outq.get n).words = message 0x50 tag 3 0 g ++ message 0x50 tag 1 St.OK [wd g.length]) ∧
    (b.bit 30 = true → ∃ t, exec (.snapReadAcc n) s = .next t ∧ SameBut [.inq, .deolo, .acc] s t ∧
      ∃ id, t.acc.snaps = s.acc.snaps ++ [SnapWait.mk id 1 (a.field 0 24) (b.field 0 8) (b.bit 31)]) := by
  have hok := snapArgsOk_calm (n := n) (tag := tag) (s := s) (source := 1) hcount hr fun h1 => absurd h1 (by decide)
  have hx := snapReadAcc_calm h hg hsrc
  refine ⟨fun hw => ?_, fun hw => ?_⟩
  · obtain ⟨-, hsame, hslot, hwords⟩ := snapLatch_calm (source := 1) h
    exact ⟨_, hx.trans (congrArg Host.Outcome.next (snapReadOp_latches hok hw)), hsame, hslot, hwords⟩
  · exact ⟨_, hx.trans (congrArg Host.Outcome.next (snapReadOp_waits hok hw)), snapWait_frame _ s, _, rfl⟩

theorem snapReadTrk_answers (h : Calm n 0x50 tag [a, b] s) (hg : sessionGate s n 0x50 = none) (hcount : b.field 0 8 ≠ 0)
    (hsrc : a.field 24 8 = 2) (hr : a.field 0 24 + b.field 0 8 ≤ 96) (hclr : b.bit 31 = false) :
    (b.bit 30 = false → ∃ t, exec (.snapReadTrk n) s = .next t ∧ SameBut [.inq, .outq, .deolo, .link] s t ∧
      ∀ g, snapSegs s 2 (a.field 0 24) (b.field 0 8) = [g] →
        (t.outq.get n).words = message 0x50 tag 3 0 g ++ message 0x50 tag 1 St.OK [wd g.length]) ∧
    (b.bit 30 = true → ∃ t, exec (.snapReadTrk n) s = .next t ∧ SameBut [.inq, .deolo, .acc] s t ∧
      ∃ id, t.acc.snaps = s.acc.snaps ++ [SnapWait.mk id 2 (a.field 0 24) (b.field 0 8) false]) := by
  have hok := snapArgsOk_calm (n := n) (tag := tag) (s := s) (source := 2) hcount hr fun _ => hclr
  have hx := snapReadTrk_calm h hg hsrc
  refine ⟨fun hw => ?_, fun hw => ?_⟩
  · obtain ⟨hsame, -, -, hwords⟩ := snapLatch_calm (source := 2) h
    exact ⟨_, hx.trans (congrArg Host.Outcome.next (snapReadOp_latches hok hw)), hsame hclr, hwords⟩
  · refine ⟨_, hx.trans (congrArg Host.Outcome.next (snapReadOp_waits hok hw)), snapWait_frame _ s, s.deolo.nextId, ?_⟩
    rw [← hclr]
    rfl

/-! ### The log write (R497, R500, R501) -/

variable {f : Frame}

/-- The pool of the store that a page of a pool goes to: critical frames without room go to the fault pool (R501). -/
def pageGoes (s : State) (pool : Nat) : Fin 4 :=
  if (pool == 3 && !critRoom s) = true then 2 else ⟨pool % 4, Nat.mod_lt _ (by decide)⟩

theorem pageGoes_val {pool : Nat} (h : pool < 4) :
    (pageGoes s pool).val = if pool = 3 ∧ critRoom s = false then 2 else pool := by
  unfold pageGoes
  by_cases hs : pool = 3 ∧ critRoom s = false
  · rw [if_pos hs, if_pos (by simp [hs])]
    rfl
  · rw [if_neg hs, if_neg (by simpa using hs)]
    exact Nat.mod_eq_of_lt h

/-- A page is written with the next PSEQ at the end of its pool. -/
theorem writePage_page (pool : Nat) (fs : List Frame) (s : State) :
    ((writePage pool fs s).log.pools.get (pageGoes s pool)).getLast? =
      some { pseq := (s.log.pseq + 1) % 2 ^ 32, frames := fs } := by
  have hpools : (writePage pool fs s).log.pools.get (pageGoes s pool) = _ := vput_get_same _ _ _
  rw [hpools]
  exact List.getLast?_concat

theorem writePage_rest (pool : Nat) (fs : List Frame) (s : State) :
    (writePage pool fs s).log.buf = s.log.buf ∧ (writePage pool fs s).log.held = s.log.held ∧ Same 33554432 s (writePage pool fs s) :=
  ⟨rfl, rfl, (writePage_same rfl).2 (same_refl _ _)⟩

/-- A buffer of one frame makes one page, of the frame's pool. -/
theorem packPages_one (p : Nat) (hb : f.bytes ≤ 1000) :
    packPages ([f].filter fun f => f.pool == p) [] 0 = if f.pool = p then [[f]] else [] := by
  by_cases hp : f.pool = p <;> simp [hp, packPages, hb]

/-- What is done for the pool of the frame alone is done once. -/
theorem forEach_pools {g : Nat → State → State} {k : Nat} (hk : k < 4) (h : ∀ p, p ≠ k → ∀ u, g p u = u) (s : State) :
    forEach [0, 1, 2, 3] g s = g k s := by
  have hcases : k = 0 ∨ k = 1 ∨ k = 2 ∨ k = 3 := by omega
  rcases hcases with rfl | rfl | rfl | rfl <;> simp [forEach, h]

theorem Frame.pool_lt (h : f.sev < 4) : f.pool < 4 := by
  unfold Frame.pool
  split
  · decide
  · exact h

/-- The recorder with its mark of a spill put. -/
def putSpill (spill : Bool) (s : State) : State := { s with log := { s.log with spill := spill } }

theorem writeLog_one (hbuf : s.log.buf = [f]) (hsev : f.sev < 4) (hb : f.bytes ≤ 1000) :
    ∃ spill, writeLog s = putSpill spill (writePage f.pool [f] { s with log := { s.log with buf := [], held := false } }) := by
  unfold writeLog
  extract_lets buf r u v
  have hv : v = writePage f.pool [f] u := by
    unfold v buf
    rw [hbuf]
    refine (forEach_pools (Frame.pool_lt hsev) (fun p hp u => ?_) u).trans ?_
    · rw [packPages_one p hb, if_neg hp.symm]
      rfl
    · rw [packPages_one _ hb, if_pos rfl]
      rfl
  rw [← hv]
  exact ⟨v.log.spill && !critRoom v, rfl⟩

theorem bufUsed_one (hbuf : s.log.buf = [f]) : bufUsed s = f.bytes := by
  rw [bufUsed, hbuf]
  exact Nat.zero_add _

theorem logWrite_due (hready : s.log.ready = true) (hpup : anyPup s = true) (hbuf : s.log.buf = [f]) (hdue : writeDue s = true) :
    exec .logWrite s = .next (offerLog s) := by
  show execLogWrite s = _
  unfold execLogWrite
  rw [if_neg (by simp [hready, hpup, hbuf]), if_pos hdue]

theorem logWrite_writes (hready : s.log.ready = true) (hpup : anyPup s = true) (hbuf : s.log.buf = [f]) (hsev : f.sev < 4)
    (hb : f.bytes ≤ 1000) (hdue : writeDue s = true) (hhold : holdOk s (tw50 f.bytes) = true) :
    ∃ t, exec .logWrite s = .next t ∧ SameBut [.log] s t ∧ t.log.buf = [] ∧ t.log.held = false ∧
      ∃ p : Fin 4, p.val = (if f.pool = 3 ∧ critRoom s = false then 2 else f.pool) ∧
        (t.log.pools.get p).getLast? = some { pseq := (s.log.pseq + 1) % 2 ^ 32, frames := [f] } := by
  obtain ⟨spill, hw⟩ := writeLog_one hbuf hsev hb
  have hoffer : offerLog s = writeLog s := by rw [offerLog, bufUsed_one hbuf, if_pos hhold]
  let u : State := { s with log := { s.log with buf := [], held := false } }
  obtain ⟨hempty, hheld, hsame⟩ := writePage_rest f.pool [f] u
  refine ⟨_, (logWrite_due hready hpup hbuf hdue).trans (congrArg Host.Outcome.next (hoffer.trans hw)), ?_, hempty, hheld,
    pageGoes u f.pool, pageGoes_val (Frame.pool_lt hsev), writePage_page f.pool [f] u⟩
  exact Same.sameBut (k := 33554432) ((same_log rfl).2 (((same_log rfl).2 (same_refl _ s)).trans hsame)) rfl

theorem logWrite_held (hready : s.log.ready = true) (hpup : anyPup s = true) (hbuf : s.log.buf = [f]) (hdue : writeDue s = true)
    (hhold : holdOk s (tw50 f.bytes) = false) :
    exec .logWrite s = .next { s with log := { s.log with held := true } } := by
  rw [logWrite_due hready hpup hbuf hdue, offerLog, bufUsed_one hbuf, if_neg (by simp [hhold])]

/-! ### The ends of windows and the drop summaries (R499) -/

theorem endWindow_counts (s : State) :
    (endWindow s).log.counts = [] ∧ (endWindow s).log.window = optime (endWindow s) / 10240 ∧ NoRateSummary (endWindow s) := by
  have htmr : (endWindow s).tmr = s.tmr := (show Same 100664128 s (endWindow s) from (endWindow_same rfl).2 (same_refl _ _)).part .tmr rfl
  refine ⟨(counts_of_unentered (enterSummaries_unentered _ _) :), ?_, enterSummaries_noRate fun x hx => ?_⟩
  · rw [optime, htmr]
    exact (window_of_unentered (enterSummaries_unentered _ _) :)
  · simpa using (List.mem_filter.1 hx).2

theorem rateWindowEnd_restarts (hready : s.log.ready = true) (hpup : anyPup s = true) :
    ∃ t, exec .rateWindowEnd s = .next t ∧ t.log.counts = [] ∧ t.log.window = optime t / 10240 ∧ ∀ x ∈ t.log.summs, x.reason ≠ 1 :=
  ⟨_, if_neg (by simp [hready, hpup]), endWindow_counts _⟩

theorem Summ.words_length (x : Summ) : x.words.length = 8 := rfl

/-- A summary for which the buffer has room enters it. -/
theorem enterSummary_fits {x : Summ} (hroom : bufUsed s + 44 ≤ 65536) (hsev : x.sev ≠ 0 ∨ pb s Prm.LOG_TRACE_EN = true) :
    enterSummary x s = appendFrame Evt.SUMMARY x.sev x.obj x.words s := by
  unfold enterSummary
  rw [if_neg (by rintro ⟨h1, h2⟩; rcases hsev with h | h; exacts [h h1, by simp [h] at h2])]
  unfold enterRecord
  rw [Summ.words_length]
  exact if_pos hroom

theorem dropSummary_enters {x : Summ} (hready : s.log.ready = true) (hpup : anyPup s = true)
    (hx : (s.log.summs.filter fun y => y.reason == 2) = [x]) (hroom : bufUsed s + 44 ≤ 65536)
    (hsev : x.sev ≠ 0 ∨ pb s Prm.LOG_TRACE_EN = true) :
    ∃ t, exec .dropSummary s = .next t ∧ SameBut logging s t ∧ x ∉ t.log.summs ∧
      t.log.buf = s.log.buf ++ [Frame.mk s.log.nextSeq Evt.SUMMARY x.sev x.obj (optime s) x.words] := by
  let u : State := { s with log := { s.log with summs := s.log.summs.filter fun y => !(y == x) } }
  have hu : enterDrops [x] s = appendFrame Evt.SUMMARY x.sev x.obj x.words u := by
    rw [enterDrops, if_pos hroom, enterDrops]
    exact enterSummary_fits (s := u) hroom hsev
  have hexec : exec .dropSummary s = .next (enterDrops [x] s) := by
    show execDropSummary s = _
    unfold execDropSummary
    rw [if_neg (by simp [hready, hpup]), hx]
  have hlog := appendFrame_log Evt.SUMMARY x.sev x.obj x.words u
  refine ⟨_, hexec.trans (congrArg Host.Outcome.next hu), ?_, ?_, ?_⟩
  · exact Same.sameBut (k := 100664128) ((appendFrame_same rfl).2 ((same_log rfl).2 (same_refl _ _))) rfl
  · rw [hlog]
    simp [u]
  · rw [hlog]
    rfl

/-- Settles O22, command by command and event by event. -/
theorem theEventLogIsReadClearedWrittenAndSummed : Obligations.TheEventLogIsReadClearedWrittenAndSummed := by
  intro s
  refine ⟨fun n tag w x h hg hx hw => evtRead_sends h hg hx hw, fun n tag w h hg => ⟨evtClear_refused h hg, evtClear_moves h hg⟩,
    fun n tag a b h hg hcount => ⟨snapReadAcc_answers h hg hcount, snapReadTrk_answers h hg hcount⟩, fun hready hpup => ⟨?_, ?_, ?_⟩⟩
  · intro f hbuf hsev hb hdue
    exact ⟨logWrite_writes hready hpup hbuf hsev hb hdue, logWrite_held hready hpup hbuf hdue⟩
  · exact rateWindowEnd_restarts hready hpup
  · exact fun x hx hroom hsev => dropSummary_enters hready hpup hx hroom hsev

end Sys2Proof.Machine
end

section
/-! The obligation on the service port's pin, its frames and its bridge. -/

namespace Sys2Proof.Machine

variable {s t u : State} {o : Op} {q type : Byte} {a n seq : Nat} {w : Word} {ws : List Word} {pin : Bool}

/-! ### What the withdrawing of a request leaves of the port's registers (R415, R528) -/

/-- The service port's registers without the frames that wait on its line and without what the end of a takeover's request writes. -/
def Svc.port (v : Svc) : Svc := { v with tx := [], op := none, asker := none, lastType := 0, lastResult := 0, lastBudget := 0 }

theorem port_of_quiet (h : Quiet false s t) : t.svc.port = s.svc.port := (congrArg Svc.port h.svc :)

theorem rejudge_port (s : State) : (rejudge s).svc.port = s.svc.port := port_of_quiet (by simp)

theorem complete_port (id st : Nat) (body : List Word) (s : State) : (complete id st body s).svc.port = s.svc.port :=
  port_of_quiet (by simp)

theorem answerTakeover_port (st result budget : Nat) (s : State) : (answerTakeover st result budget s).svc.port = s.svc.port := by
  unfold answerTakeover
  split
  · rfl
  · extract_lets v
    split
    · split <;> rfl
    · rfl

theorem opComplete_port (o : Op) (st budget : Nat) (more : List Word) (s : State) :
    (opComplete o st budget more s).svc.port = s.svc.port := by
  unfold opComplete
  extract_lets v
  have hv : v.svc.port = s.svc.port := by
    unfold v
    split
    · exact answerTakeover_port _ _ _ _
    · rfl
  split
  · exact (complete_port _ _ _ _).trans hv
  · exact hv

theorem withdrawOp_port (o : Op) (dec : Nat) (s : State) : (withdrawOp o dec s).svc.port = s.svc.port := by
  unfold withdrawOp
  extract_lets _ u v d f
  have hf : Quiet false s f := by
    have hd : Quiet false s d := by
      unfold d
      split <;> simp [v, u]
    unfold f
    split <;> simp [hd]
  exact (opComplete_port _ _ _ _ _).trans (port_of_quiet (show Quiet false s (dropOp o f) by simp [hf]))

theorem abortTag_port (id : Nat) (s : State) : (abortTag id s).svc.port = s.svc.port := by
  unfold abortTag
  extract_lets v m a x z
  have hv : v.svc.port = s.svc.port := by
    unfold v
    split
    · exact (rejudge_port _).trans (withdrawOp_port _ 5 s)
    · rfl
  exact (complete_port _ _ _ z).trans hv

theorem forEach_abortTag_port (l : List Nat) (s : State) : (forEach l abortTag s).svc.port = s.svc.port := by
  induction l generalizing s with
  | nil => rfl
  | cons id l ih => exact (ih _).trans (abortTag_port id s)

theorem dropAsked_port (s : State) : (dropAsked s).svc.port = s.svc.port := by
  unfold dropAsked
  split
  · exact (rejudge_port _).trans (withdrawOp_port _ 5 s)
  · rfl
  · rfl
  · rfl

/-! ### The pin SVC_EN and the rate (R512, R515, R535) -/

/-- The port disabled: its rate forgotten, and what waits on it. -/
def portOff (s : State) : State :=
  { s with svc := { s.svc with
    en := false, baud := 0, baudNew := false, wear := none, loading := none
    phase := if s.svc.phase = 1 then 0 else s.svc.phase } }

/-- The fall of SVC_EN, before the tags of channel 14 go. -/
def portClosed (s : State) : State :=
  let t := lockDebug (dropAsked (portOff s))
  putSes 14 none (forEach (notBegun t 14) abortTag t)

theorem svcEnFall_closes (h : s.svc.en = true) : exec .svcEnFall s = .next { portClosed s with
    deolo := { (portClosed s).deolo with
      tags := (portClosed s).deolo.tags.filter fun e => e.chan != 14
      sesDue := vput (portClosed s).deolo.sesDue 14 none } } :=
  if_neg (by simp [h])

theorem portClosed_port (s : State) :
    (portClosed s).svc.port = { (portOff s).svc with debug := 0, halted := false, nonce := none, localA := [], localB := [], sram := [] : Svc }.port := by
  unfold portClosed
  extract_lets t
  have hdrop : (dropAsked (portOff s)).svc.port = (portOff s).svc.port := dropAsked_port _
  refine (forEach_abortTag_port _ t).trans ?_
  exact congrArg (fun v : Svc => { v with debug := 0, halted := false, nonce := none, localA := [], localB := [], sram := [] }) hdrop

theorem portClosed_sys (s : State) : (portClosed s).sys = s.sys := by
  have hoff : (portOff s).sys = s.sys := rfl
  unfold portClosed
  extract_lets t
  have ht : t.sys = s.sys := ((show Same 339040064 (portOff s) t by simp [t]).part .sys rfl).trans hoff
  refine Eq.trans ?_ ht
  exact (show Same 339040064 t (putSes 14 none (forEach (notBegun t 14) abortTag t)) by simp).part .sys rfl

theorem svcEnFall_ends (h : s.svc.en = true) :
    ∃ t, exec .svcEnFall s = .next t ∧ t.svc.en = false ∧ t.svc.baud = 0 ∧ t.svc.loading = none ∧ t.svc.debug = 0 ∧
      t.svc.halted = false ∧ t.svc.bankA = s.svc.bankA ∧ t.svc.bankB = s.svc.bankB ∧ session? t 14 = none ∧
      (∀ e ∈ t.deolo.tags, e.chan ≠ 14) ∧ t.sys = s.sys := by
  have hp := portClosed_port s
  refine ⟨_, svcEnFall_closes h, (congrArg Svc.en hp :), (congrArg Svc.baud hp :), (congrArg Svc.loading hp :),
    (congrArg Svc.debug hp :), (congrArg Svc.halted hp :), (congrArg Svc.bankA hp :), (congrArg Svc.bankB hp :),
    session_putSes 14 none _, fun e he => ?_, portClosed_sys s⟩
  simpa using (List.mem_filter.1 he).2

/-- A change of the service port's registers that leaves the fuses and the images. -/
theorem svc_frame {v : Svc} (hf : v.fuses = u.svc.fuses) (hi : v.images = u.svc.images) : Same 67108864 u { u with svc := v } :=
  (same_svc rfl (.inr hf) (.inr hi)).2 (same_refl _ _)

theorem baudFallback_falls (he : s.svc.en = true) (hb : s.svc.baudNew = true) :
    ∃ t, exec .baudFallback s = .next t ∧ SameBut passing s t ∧ t.clock = max s.clock (s.svc.baudAt + 2 * clkS) ∧
      t.svc.baud = 0 ∧ t.svc.baudNew = false := by
  let u := passTo (s.svc.baudAt + 2 * clkS) s
  have hframe : Same 67108864 u { u with svc := { u.svc with baud := 0, baudNew := false } } := svc_frame rfl rfl
  exact ⟨_, if_pos (by simp [he, hb]), Same.sameBut (k := 109708098) (passTo_frame.trans (hframe.mono rfl)) rfl,
    passTo_clock _ s, rfl, rfl⟩

/-! ### Requests that the port serves (R514) -/

/-- A request of no secure set, marked for RECOVERY, is served by whoever answers. -/
theorem serve_open {act : State → State} {type seq : Nat} (ha : jackAnswers s = true ∨ firmAnswers s = true)
    (hb : svcBusy s = false) : serve type seq false true act s = act (svcHeard s) := by
  have hbusy : svcBusy (svcHeard s) = false := hb
  have hn : ¬(!jackAnswers s && !firmAnswers s) = true := by rcases ha with h | h <;> simp [h]
  rw [serve, if_neg hn]
  simp [hbusy]

theorem firm_not_jack (h : firmAnswers s = true) : jackAnswers s = false := by
  simp only [firmAnswers, Bool.and_eq_true] at h
  obtain ⟨⟨-, hpup⟩, -⟩ := h
  simp [jackAnswers, hpup]

/-- A request of no secure set is served by the firmware. -/
theorem serve_firm {act : State → State} {type seq : Nat} (hf : firmAnswers s = true) (hb : svcBusy s = false) :
    serve type seq false false act s = act (svcHeard s) := by
  have hbusy : svcBusy (svcHeard s) = false := hb
  have hjack : jackAnswers (svcHeard s) = false := firm_not_jack (s := svcHeard s) hf
  rw [serve, if_neg (by simp [hf])]
  simp [hbusy, hjack]

section
variable (ha : jackAnswers s = true ∨ firmAnswers s = true) (hb : svcBusy s = false)
include ha hb

theorem svcRestart_unkeyed (hw : w ≠ 0x0000A5C3) :
    exec (.svcRestart q ⟨w, pin⟩) s = .next (svcReply 0x03 q.toNat St.RANGE [] (svcHeard s)) :=
  congrArg Host.Outcome.next ((serve_open ha hb).trans (if_pos hw))

theorem svcRestart_imageless (hm : s.sys.mode = .recovery) (hi : imageAccepted s = false) :
    exec (.svcRestart q ⟨0x0000A5C3, pin⟩) s = .next (svcReply 0x03 q.toNat St.MODE [] (svcHeard s)) := by
  have himage : imageAccepted (svcHeard s) = false := hi
  refine congrArg Host.Outcome.next ((serve_open ha hb).trans ?_)
  rw [if_neg (not_not_intro rfl), if_pos ⟨hm, by simp [himage]⟩]

theorem svcUndefinedType_refused (ht : type.toNat ∉ svcTypes) :
    exec (.svcUndefinedType q type) s = .next (svcReply (type.toNat % 128) q.toNat St.MODE [] (svcHeard s)) := by
  show execSvcUndefinedType q type s = _
  unfold execSvcUndefinedType
  rw [if_neg (by simpa using ht)]
  exact congrArg Host.Outcome.next (serve_open ha hb)

theorem ping_answers : exec (.ping q) s = .next (svcReply 0x01 q.toNat St.OK [hId s, hVersion s,
    s.sys.prevMode.code * 256 + s.sys.mode.code, s.svc.bankB.st * 256 + s.svc.bankA.st, s.svc.bankA.ver, s.svc.bankB.ver,
    Config.jackVersion] (svcHeard s)) :=
  congrArg Host.Outcome.next (serve_open ha hb)

theorem setBaud_takes (hn : n ≤ 6) : ∃ t, exec (.setBaud q n) s = .next t ∧ SameBut [.svc] s t ∧
    t.svc = { s.svc with baud := n, baudNew := true, baudAt := s.clock, tx := s.svc.tx ++ [SvcFrame.mk 0x82 q.toNat St.OK []] } := by
  refine ⟨_, congrArg Host.Outcome.next ((serve_open ha hb).trans (if_neg (by omega))), ?_, rfl⟩
  exact Same.sameBut (k := 67108864) (svc_frame rfl rfl) rfl

theorem setBaud_refused (hn : 6 < n) : exec (.setBaud q n) s = .next (svcReply 0x02 q.toNat St.RANGE [] (svcHeard s)) :=
  congrArg Host.Outcome.next ((serve_open ha hb).trans (if_pos hn))

end

/-! ### The register bridge (R517) -/

theorem bridgeRead_length (a n : Nat) (s : State) : (bridgeRead a n s).1.length = n := by
  induction n generalizing a s with
  | zero => rfl
  | succ n ih => exact congrArg (· + 1) (ih _ _)

/-- No register but the bridge's own word has changed. -/
def BridgeWordOnly (s t : State) : Prop := t.link = { s.link with bridgeWord := t.link.bridgeWord }

/-- A register that a read does not latch reads without effect; H_LINK_ERR keeps its counts under the bridge. -/
theorem bridgeReg_plain (ha : a ∉ [6, 0x0E, 0x0F]) : BridgeWordOnly s (bridgeReg a s) := by
  simp only [List.mem_cons, List.not_mem_nil, or_false, not_or] at ha
  obtain ⟨hlock, hlow, hhigh⟩ := ha
  have hread : (readReg .bridge true a s).2 = s := by
    unfold readReg
    rw [if_neg hlock, if_neg hlow, if_neg hhigh]
    split
    · rfl
    · split <;> rfl
  unfold BridgeWordOnly bridgeReg
  dsimp only
  rw [hread]

theorem bridgeRead_plain (h : ∀ x ∈ [6, 0x0E, 0x0F], ¬(a ≤ x ∧ x < a + n)) : BridgeWordOnly s (bridgeRead a n s).2 := by
  induction n generalizing a s with
  | zero => rfl
  | succ n ih =>
    have hfirst : BridgeWordOnly s (bridgeReg a s) := bridgeReg_plain fun hm => h a hm ⟨le_rfl, by omega⟩
    have hrest : BridgeWordOnly (bridgeReg a s) (bridgeRead (a + 1) n (bridgeReg a s)).2 :=
      ih fun x hx hin => h x hx ⟨by omega, by omega⟩
    unfold BridgeWordOnly at hfirst hrest ⊢
    rw [hfirst] at hrest
    exact hrest

section
variable (hf : firmAnswers s = true) (hb : svcBusy s = false)
include hf hb

theorem regRead_answers (hr : bridgeRange a n = true) :
    ∃ t ws, exec (.regRead q a n) s = .next t ∧ SameBut [.link, .svc] s t ∧ ws.length = n ∧
      t.svc.tx = s.svc.tx ++ [SvcFrame.mk 0x90 q.toNat St.OK ws] ∧
      ((∀ x ∈ [6, 0x0E, 0x0F], ¬(a ≤ x ∧ x < a + n)) → t.link = { s.link with bridgeWord := t.link.bridgeWord }) := by
  let u := (bridgeRead a n (svcHeard s)).2
  have hframe : Same 64 (svcHeard s) u := (bridgeRead_same rfl).2 (same_refl _ _)
  have hsvc : u.svc = (svcHeard s).svc := hframe.part .svc rfl
  have hx : exec (.regRead q a n) s = .next (svcReply 0x10 q.toNat St.OK (bridgeRead a n (svcHeard s)).1 u) :=
    congrArg Host.Outcome.next ((serve_firm hf hb).trans (if_neg (by simp [hr])))
  refine ⟨_, _, hx, ?_, bridgeRead_length a n (svcHeard s), ?_, fun h => (bridgeRead_plain (s := svcHeard s) h :)⟩
  · refine Same.sameBut (k := 64 + 67108864) ((svcReply_same rfl).2 ?_) rfl
    exact ((svcHeard_same rfl).2 (same_refl _ s)).trans (hframe.mono rfl)
  · exact (congrArg (fun v : Svc => v.tx ++ [SvcFrame.mk 0x90 q.toNat St.OK (bridgeRead a n (svcHeard s)).1]) hsvc :)

theorem regRead_refused (hr : bridgeRange a n = false) :
    exec (.regRead q a n) s = .next (svcReply 0x10 q.toNat St.RANGE [] (svcHeard s)) :=
  congrArg Host.Outcome.next ((serve_firm hf hb).trans (if_pos (by simp [hr])))

theorem regWrite_refused (ha : a ≠ 6) : exec (.regWrite q a w) s = .next (svcReply 0x11 q.toNat St.REFUSED [] (svcHeard s)) :=
  congrArg Host.Outcome.next ((serve_firm hf hb).trans (if_pos ha))

theorem regWrite_lock : ∃ t, exec (.regWrite q 6 w) s = .next t ∧ SameBut [.link, .svc] s t ∧
    t.link = { s.link with lock := if w.field 0 8 = 0 ∧ s.link.lock = some .bridge then none else s.link.lock } := by
  refine ⟨_, congrArg Host.Outcome.next ((serve_firm hf hb).trans (if_neg (not_not_intro rfl))), ?_, ?_⟩
  · refine Same.sameBut (k := 64 + 67108864) ((svcReply_same rfl).2 ((releaseLock_same rfl).2 ?_)) rfl
    exact (svcHeard_same rfl).2 (same_refl _ s)
  · exact congrArg State.link (releaseLock_eq .bridge w (svcHeard s))

/-! ### Channel 14 (R518) -/

omit hf hb in
theorem foldl_appendIn (m : Mb) (ws : List Word) (s : State) : ws.foldl (appendIn m) s = forEach ws (fun v s => appendIn m s v) s := by
  induction ws generalizing s with
  | nil => rfl
  | cons v ws ih => exact ih _

theorem mbox_appends (hne : ws ≠ []) (hfit : (s.inq.get 14).words.length + ws.length ≤ 64) :
    ∃ t, exec (.mbox q ws) s = .next t ∧ SameBut [.inq, .svc] s t ∧
      (t.inq.get 14).words = (s.inq.get 14).words ++ ws ∧ (t.inq.get 14).offered = (s.inq.get 14).words.length + ws.length ∧
      (∀ n, n ≠ 14 → t.inq.get n = s.inq.get n) ∧
      t.svc.tx = s.svc.tx ++ [SvcFrame.mk 0xA0 q.toNat St.OK [(s.inq.get 14).words.length + ws.length]] := by
  let u : State := { svcHeard s with inq := vput s.inq 14 { s.inq.get 14 with words := (s.inq.get 14).words ++ ws } }
  have hu : ws.foldl (appendIn 14) (svcHeard s) = u := (foldl_appendIn 14 ws _).trans (forEach_appendIn ws (svcHeard s) hfit)
  have hwords : ((offerIn 14 u).inq.get 14).words = (s.inq.get 14).words ++ ws := by
    rw [offerIn_words]
    exact congrArg InQ.words (vput_get_same _ _ _)
  have hx : exec (.mbox q ws) s = .next (svcReply 0x20 q.toNat St.OK [((offerIn 14 u).inq.get 14).words.length] (offerIn 14 u)) := by
    refine congrArg Host.Outcome.next ((serve_firm hf hb).trans ?_)
    rw [if_neg (by simp [hne]; omega), hu]
  refine ⟨_, hx, ?_, hwords, ?_, fun m hm => ?_, ?_⟩
  · refine Same.sameBut (k := 128 + 67108864) ((svcReply_same rfl).2 ((offerIn_same rfl).2 ((same_inq rfl).2 ?_))) rfl
    exact (svcHeard_same rfl).2 (same_refl _ s)
  · refine (offerIn_offered 14 14).trans ?_
    rw [if_pos rfl, ← offerIn_words 14 14, hwords, List.length_append]
  · exact (vmod_get_ne _ _ _ _ hm).trans (vput_get_ne _ _ _ _ hm)
  · rw [hwords, List.length_append]
    rfl

end

/-- Settles O48, clause by clause. -/
theorem thePinTheFramesAndTheBridge : Obligations.ThePinTheFramesAndTheBridge := by
  refine fun s q pin => ⟨rfl, rfl, fun he => ⟨if_pos he, svcEnFall_ends he⟩, fun he => ⟨if_pos (by simp [he]), if_neg (by simp [he])⟩,
    baudFallback_falls, fun h => if_neg (by rcases h with e | e <;> simp [e]), fun ha hb => ?_, fun hf hb => ?_⟩
  · exact ⟨fun w hw => svcRestart_unkeyed ha hb hw, svcRestart_imageless ha hb, fun type ht => svcUndefinedType_refused ha hb ht,
      ping_answers ha hb, fun n hn => setBaud_takes ha hb hn, fun n hn => setBaud_refused ha hb hn⟩
  · exact ⟨fun a n hr => regRead_answers hf hb hr, fun a n hr => regRead_refused hf hb hr, fun a v ha => regWrite_refused hf hb ha,
      fun v => regWrite_lock hf hb, fun ws hne hfit => mbox_appends hf hb hne hfit⟩

end Sys2Proof.Machine
end

section
/-! The rules of the commands to one channel: what a CH_CTRL that acts at once leaves of the channels, and what the arbiter's
answer to an OP_START leaves of its registers, of the channel and of the battery test. -/

namespace Sys2Proof.Machine

variable {s t u v : State} {c : Ch} {n : Mb} {tag act : Nat} {w : Word} {o : Op}

/-! ### Actions on a channel that stands still (R157, R158) -/

theorem chan_congr (h : t.ch = s.ch) (d : Ch) : t.chan d = s.chan d := congrArg (fun v : Vector Chan 24 => v.get d) h

/-- What changes nothing for any member of a list changes nothing along it. -/
theorem forEach_fixed {α : Type} {f : α → State → State} {l : List α} (h : ∀ a ∈ l, f a s = s) : forEach l f s = s := by
  induction l with
  | nil => rfl
  | cons a l ih =>
    rw [forEach, h a List.mem_cons_self]
    exact ih fun b hb => h b (List.mem_cons_of_mem a hb)

/-- The channels stand as an action left them when the one that it acted on calls for no automatic request (R171) or kept
its state. -/
theorem afterCtrl_ch (hne : ∀ d, d ≠ c → u.chan d = s.chan d)
    (ha : autoReady u c = false ∨ (u.chan c).st = (s.chan c).st) : (afterCtrl s u).ch = u.ch := by
  have hfixed : ∀ d ∈ allCh.filter (fun d => (s.chan d).st != (u.chan d).st), autoFile d u = u := by
    intro d hd
    have hmoved : (s.chan d).st ≠ (u.chan d).st := by simpa using (List.mem_filter.1 hd).2
    have hdc : d = c := by
      by_contra h
      exact hmoved (congrArg Chan.st (hne d h)).symm
    subst hdc
    rcases ha with e | e
    · rw [autoFile, if_neg (by simp [e])]
    · exact absurd e.symm hmoved
  unfold afterCtrl
  dsimp only
  rw [forEach_fixed hfixed, reportCh_ch]

theorem settleRun_ch (r : SwRun) (s : State) : (settleRun r s).ch = s.ch :=
  ((settleRun_same rfl).2 (same_refl 67126080 s)).part .ch rfl

theorem ctrlHolds_still (h : Still c s) (act : Nat) : ctrlHolds s act c = false := by
  unfold ctrlHolds
  rw [h.sync, h.reload]
  simp

theorem ctrlNamed_still (h : Still c s) (r : SwRun) (id : Nat) : ctrlNamed id act c (r, s) = ctrlOne act c (r, s) := by
  unfold ctrlNamed
  exact if_neg (by simp [ctrlHolds_still h])

/-- One channel that may take the action: it is carried out. -/
theorem ctrlOne_acts {p : SwRun × State} (h : ctrlJudge p.2 act c = none) : (ctrlOne act c p).2 = ctrlAct act c p.2 := by
  unfold ctrlOne
  rw [h]
  dsimp only
  split <;> rfl

theorem still_calmTaken {op : Nat} {body : List Word} (h : Still c s) : Still c (calmTaken n op tag body s) :=
  ⟨h.inr, h.walk, h.queue, h.test, h.reload, h.held, h.sync⟩

/-- The run of a CH_CTRL as it begins. -/
def freshRun (id : Nat) : SwRun := { tag := id, done := 0, bad := none, rising := [] }

section
variable (h : Calm n 0x60 tag [w] s) (hg : sessionGate s n 0x60 = none) (hact : w.field 24 8 = act)
  (hc : chNamed (chWord w) = [c]) (hiso : isolated s c = false) (hm : ctrlModes act s.sys.mode = true) (hs : Still c s)
  (hsec : act = Act.OPEN → classEff s c ≠ 0 ∨ secureOn s n = true)
include h hg hact hc hiso hm hs hsec

/-- A CH_CTRL of one channel that stands still judges and carries out its action at once. -/
theorem chCtrl_calm :
    let u := calmTaken n 0x60 tag [w] s
    let r := ctrlOne act c (freshRun s.deolo.nextId, u)
    runCmd n (isCtrl act) (chCtrlOp act) s = settleRun r.1 (afterCtrl u r.2) := by
  intro u r
  have hrun := runCmd_calm (sel := isCtrl act) (act := chCtrlOp act) h hg (by
    show (0x60 == 0x60 && w.field 24 8 == act) = true
    simp [hact])
  have hnamed : chNamed (chWord ((calmCmd n tag [w] s).w 0)) = [c] := hc
  have hsecure : (ctrlSecure u act [c] && !secureOn u n) = false := by
    have hu : classEff u c = classEff s c ∧ secureOn u n = secureOn s n := ⟨rfl, rfl⟩
    unfold ctrlSecure
    rw [hu.2]
    by_cases ho : act = Act.OPEN
    · rcases hsec ho with e | e
      · simp [hu.1, e]
      · simp [e]
    · simp [ho]
  rw [hrun]
  unfold chCtrlOp
  dsimp only
  rw [hnamed, show (calmCmd n tag [w] s).chan = n from rfl, hsecure, if_neg (by decide),
    if_neg (by rw [show ctrlModes act (calmTaken n 0x60 tag [w] s).sys.mode = true from hm]; decide),
    if_neg (by rw [List.any_cons, show isolated (calmTaken n 0x60 tag [w] s) c = false from hiso]; simp),
    if_neg (by simp [Cmd.lenOk, calmCmd])]
  have hfold : [c].foldl (fun p ch => ctrlNamed (calmCmd n tag [w] s).id act ch p)
      (({ tag := (calmCmd n tag [w] s).id, done := 0, bad := none, rising := [] } : SwRun), calmTaken n 0x60 tag [w] s) = r :=
    ctrlNamed_still (still_calmTaken hs) _ _
  rw [hfold]

/-- The channels after a CH_CTRL whose one channel may take its action. -/
theorem chCtrl_ch (hj : ctrlJudge s act c = none)
    (hne : ∀ d, d ≠ c → (ctrlAct act c (calmTaken n 0x60 tag [w] s)).chan d = s.chan d)
    (ha : autoReady (ctrlAct act c (calmTaken n 0x60 tag [w] s)) c = false ∨
      ((ctrlAct act c (calmTaken n 0x60 tag [w] s)).chan c).st = (s.chan c).st) :
    (runCmd n (isCtrl act) (chCtrlOp act) s).ch = (ctrlAct act c (calmTaken n 0x60 tag [w] s)).ch := by
  have hacts : (ctrlOne act c (freshRun s.deolo.nextId, calmTaken n 0x60 tag [w] s)).2 = ctrlAct act c (calmTaken n 0x60 tag [w] s) :=
    ctrlOne_acts hj
  rw [chCtrl_calm h hg hact hc hiso hm hs hsec, settleRun_ch, hacts]
  exact afterCtrl_ch hne ha

end

/-! ### The actions, one by one (Table 5.8) -/

/-- A channel that stands still opens alone (R128). -/
theorem openTo_still (h : Still c s) (st : ChSt) (g : Gate) : openTo c st g s = setProbe c (modCh c (fun x => x.toLow st g) s) := by
  have hend : endInrush c false s = s := by rw [endInrush, h.inr]
  have hleave : leaveSet c (modCh c (fun x => x.toLow st g) s) = modCh c (fun x => x.toLow st g) s := if_pos h.walk
  unfold openTo
  rw [hend]
  exact congrArg (setProbe c) hleave

theorem setProbe_chan (c : Ch) (s : State) : ∃ b, (setProbe c s).chan c = { s.chan c with probe := b } := ⟨_, chan_modCh _ _ _⟩

theorem setProbe_chan_ne (s : State) {d : Ch} (h : d ≠ c) : (setProbe c s).chan d = s.chan d := chan_modCh_ne _ _ _ _ h

/-- An automatic request calls for INRUSH_AUTO, and for the state OPEN (R171). -/
theorem autoReady_not (h : chn u c Chp.INRUSH_AUTO ≠ 1 ∨ (u.chan c).st ≠ .opened) : autoReady u c = false := by
  unfold autoReady
  rcases h with h | h <;> simp [h]

theorem chn_congr (h : u.pf = s.pf) (c : Ch) (off : Nat) : chn u c off = chn s c off := by
  simp only [chn, chp, pget, h]

theorem openGate_low (s : State) (c : Ch) : (openGate s c).isLow = true := by
  unfold openGate
  split <;> rfl

theorem ctrlAct_open (h : Still c s) (hst : (s.chan c).st.conducts = true) :
    ctrlAct Act.OPEN c s = setProbe c (modCh c (fun x => x.toLow .opened (openGate s c)) s) := by
  have hdone : ctrlDone Act.OPEN (s.chan c) = false := by
    cases e : (s.chan c).st <;> simp_all [ctrlDone, ChSt.conducts]
  have hwait : (s.chan c).st ≠ .wait := fun e => by simp [e, ChSt.conducts] at hst
  have htest : endTestOf c s = s := by rw [endTestOf, h.test]
  unfold ctrlAct
  dsimp only
  rw [hdone, if_neg (by decide), if_pos rfl, if_neg hwait, htest, openTo_still h]

/-- Both gates of a channel that is opened are low. -/
theorem ctrlAct_open_chan (h : Still c s) (hst : (s.chan c).st.conducts = true) :
    ((ctrlAct Act.OPEN c s).chan c).st = .opened ∧ ((ctrlAct Act.OPEN c s).chan c).low = true ∧
      (ctrlAct Act.OPEN c s).pf = s.pf ∧ ∀ d, d ≠ c → (ctrlAct Act.OPEN c s).chan d = s.chan d := by
  rw [ctrlAct_open h hst]
  obtain ⟨b, hb⟩ := setProbe_chan c (modCh c (fun x => x.toLow .opened (openGate s c)) s)
  rw [hb, chan_modCh]
  refine ⟨rfl, ?_, setProbe_pf, fun d hd => (setProbe_chan_ne _ hd).trans (chan_modCh_ne _ _ _ _ hd)⟩
  simp [Chan.low, Chan.toLow, openGate_low]

theorem closedState_cases (s : State) (c : Ch) : closedState s c = .on ∨ closedState s c = .diode ∨ closedState s c = .armed := by
  unfold closedState
  split
  · split <;> simp
  · split <;> simp
  · exact .inl rfl
  · exact .inl rfl
  · exact .inl rfl

/-- A channel that is no SOURCE closes alone, into its role's closed state, and counts its closure (R157, R162). -/
theorem ctrlAct_close_chan (hst : (s.chan c).st = .opened) (hrole : roleOf s c ≠ .source) :
    ((ctrlAct Act.CLOSE c s).chan c).st = closedState s c ∧
      ((ctrlAct Act.CLOSE c s).chan c).closures = sat32 ((s.chan c).closures + 1) ∧
      ∀ d, d ≠ c → (ctrlAct Act.CLOSE c s).chan d = s.chan d := by
  let u := closeCh c (closedState s c) s
  have hdone : ctrlDone Act.CLOSE (s.chan c) = false := by simp [ctrlDone, closedNow, hst]
  have hafter : afterClose c u = u := if_neg hrole
  have hu : ctrlAct Act.CLOSE c s = u := by
    unfold ctrlAct
    dsimp only
    rw [hdone, if_neg (by decide), if_neg (by decide), if_pos rfl]
    exact hafter
  have hchan : u.chan c = _ := chan_modCh c _ s
  rw [hu, hchan]
  exact ⟨rfl, rfl, fun d hd => chan_modCh_ne c d _ s hd⟩

theorem ctrlAct_arm (hst : (s.chan c).st = .on) :
    ctrlAct Act.ARM c s = modCh c (fun x => { x with st := .armed, gateA := chargeReg s c }) s := by
  have hdone : ctrlDone Act.ARM (s.chan c) = false := by simp [ctrlDone, hst]
  unfold ctrlAct
  dsimp only
  rw [hdone, if_neg (by decide), if_neg (by decide), if_neg (by decide), if_pos rfl, armNow, if_pos hst]

theorem ctrlAct_disarm (hst : (s.chan c).st = .armed) :
    ctrlAct Act.DISARM c s = modCh c (fun x => { x with st := .on, gateA := riseGate s c x.gateA }) s := by
  have hdone : ctrlDone Act.DISARM (s.chan c) = false := by simp [ctrlDone, hst]
  unfold ctrlAct
  dsimp only
  rw [hdone, if_neg (by decide), if_neg (by decide), if_neg (by decide), if_neg (by decide), if_pos rfl, disarmNow, if_pos hst]

/-- An accepted latch ends: the channel stands OPEN, its attempts forgotten (R214). -/
theorem ctrlAct_clear_chan (hst : (s.chan c).st = .latched) :
    ((ctrlAct Act.CLEAR c s).chan c).st = .opened ∧ ((ctrlAct Act.CLEAR c s).chan c).attempts = 0 ∧
      (ctrlAct Act.CLEAR c s).pf = s.pf ∧ ∀ d, d ≠ c → (ctrlAct Act.CLEAR c s).chan d = s.chan d := by
  let u := modCh c (fun x => { x with st := .opened, attempts := 0, yoyo := .idle, delayLen := 0 }) s
  have hdone : ctrlDone Act.CLEAR (s.chan c) = false := by simp [ctrlDone, hst]
  have hu : ctrlAct Act.CLEAR c s = queueWrite RT.LATCH 0 (setProbe c u) := by
    unfold ctrlAct
    dsimp only
    rw [hdone, if_neg (by decide), if_neg (by decide), if_neg (by decide), if_neg (by decide), if_neg (by decide), if_pos rfl]
  have hch : (ctrlAct Act.CLEAR c s).ch = (setProbe c u).ch := by rw [hu, queueWrite_ch]
  obtain ⟨b, hb⟩ := setProbe_chan c u
  rw [chan_congr hch c, hb, show u.chan c = _ from chan_modCh c _ s]
  refine ⟨rfl, rfl, ?_, fun d hd => ?_⟩
  · rw [hu, queueWrite_pf, setProbe_pf]
    rfl
  · rw [chan_congr hch d, setProbe_chan_ne _ hd]
    exact chan_modCh_ne c d _ s hd

theorem ctrlAct_presence_chan :
    ((ctrlAct Act.PRESENCE c s).chan c).presRestart = true ∧ ((ctrlAct Act.PRESENCE c s).chan c).st = (s.chan c).st ∧
      ∀ d, d ≠ c → (ctrlAct Act.PRESENCE c s).chan d = s.chan d := by
  have hu : ctrlAct Act.PRESENCE c s = setProbe c (modCh c (fun x => { x with presRestart := true }) s) := rfl
  obtain ⟨b, hb⟩ := setProbe_chan c (modCh c (fun x => { x with presRestart := true }) s)
  rw [hu, hb, chan_modCh]
  exact ⟨rfl, rfl, fun d hd => (setProbe_chan_ne _ hd).trans (chan_modCh_ne _ _ _ _ hd)⟩

/-! ### The arbiter's answers (R408 to R413) -/

/-- A refusal is counted and told, and its decision is 3. -/
theorem refuseOp_adm (o : Op) (b : Nat) (s : State) : (refuseOp o b s).adm.lastOp = o.code ∧
    (refuseOp o b s).adm.lastDecision = 3 ∧ (refuseOp o b s).adm.refusals = sat32 (s.adm.refusals + 1) := by
  unfold refuseOp
  extract_lets r u v f
  obtain ⟨g, hg⟩ := dropOp_adm o u
  have hu : u.adm = _ := decide_adm o b 3 _
  have hf : f.adm = v.adm := ((failEvent_same rfl).2 (same_refl 100664128 v)).part .adm rfl
  have ht : (opComplete o St.REFUSED b [] f).adm = f.adm :=
    ((opComplete_same rfl).2 (same_refl 67109696 f)).part .adm rfl
  rw [ht, hf, hg, hu]
  exact ⟨rfl, rfl, rfl⟩

theorem refuseOp_ch (o : Op) (b : Nat) (s : State) : ∃ u, (refuseOp o b s).ch = (dropOp o u).ch ∧ u.ch = s.ch ∧ u.grp = s.grp := by
  unfold refuseOp
  extract_lets r u v f
  have hf : f.ch = v.ch := ((failEvent_same rfl).2 (same_refl 100664128 v)).part .ch rfl
  have ht : (opComplete o St.REFUSED b [] f).ch = f.ch := ((opComplete_same rfl).2 (same_refl 67109696 f)).part .ch rfl
  exact ⟨u, ht.trans hf, (decide_frame _ _ _ _).part .ch rfl, (decide_frame _ _ _ _).part .grp rfl⟩

/-- A request that is queued has decision 2, and the channels stand. -/
theorem queueOp_decides (o : Op) (b : Nat) (s : State) :
    (queueOp o b s).adm.lastOp = o.code ∧ (queueOp o b s).adm.lastDecision = 2 ∧ (queueOp o b s).ch = s.ch := by
  unfold queueOp
  extract_lets p r u d
  have hadm : d.adm = _ := decide_adm p b 2 u
  have hch : d.ch = s.ch := (decide_frame p b 2 u).part .ch rfl
  split
  · rw [interim_adm, interim_ch, hadm, hch]
    exact ⟨rfl, rfl, rfl⟩
  · rw [hadm, hch]
    exact ⟨rfl, rfl, rfl⟩

/-- A request that is granted at once has decision 1; its start follows on a state with the same channels. -/
theorem grantOp_decides (o : Op) (mc : Nat) (s : State) : ∃ u, grantOp o mc false s = startOp { o with bus := mc } mc u ∧
    (grantOp o mc false s).adm.lastOp = o.code ∧ (grantOp o mc false s).adm.lastDecision = 1 ∧ u.ch = s.ch := by
  unfold grantOp
  extract_lets p r u d e f
  have hadm : d.adm = _ := decide_adm p 0 1 u
  have hch : d.ch = s.ch := (decide_frame p 0 1 u).part .ch rfl
  have he : e.adm = d.adm ∧ e.ch = d.ch := by
    unfold e
    split
    · next id _ =>
      rw [interim_adm, interim_ch]
      exact ⟨rfl, rfl⟩
    · exact ⟨rfl, rfl⟩
  have hstart : (startOp p mc f).adm = f.adm := ((startOp_same rfl).2 (same_refl 337646592 f)).part .adm rfl
  have hf : f = e := if_neg (by decide)
  refine ⟨f, rfl, ?_, ?_, ?_⟩
  · rw [hstart, hf, he.1, hadm]
  · rw [hstart, hf, he.1, hadm]
  · rw [hf, he.2, hch]

/-- What the arbiter decides of a request stands in ADM.LAST (R413). -/
theorem fileOp_decides (o : Op) (s : State) :
    (fileOp o s).adm.lastOp = o.code ∧ (fileOp o s).adm.lastDecision ∈ [1, 2, 3] := by
  rcases fileOp_judged o s with ⟨mc, h⟩ | ⟨b, h⟩ | ⟨b, h⟩
  · obtain ⟨-, -, hop, hdec, -⟩ := grantOp_decides (o.filed s) mc (numbered s)
    rw [h, hop, hdec]
    exact ⟨rfl, by simp⟩
  · obtain ⟨hop, hdec, -⟩ := queueOp_decides (o.filed s) b (numbered s)
    rw [h, hop, hdec]
    exact ⟨rfl, by simp⟩
  · obtain ⟨hop, hdec, -⟩ := refuseOp_adm (o.filed s) b (numbered s)
    rw [h, hop, hdec]
    exact ⟨rfl, by simp⟩

/-! ### What a grant starts (R408, R438) -/

/-- The token of an inrush or of a FET_TEST stands in its channel's register. -/
theorem startOp_token {mc : Nat} (hcode : o.code = Opn.INRUSH ∨ o.code = Opn.FET_TEST) (hch : o.ch = some c) :
    startOp o mc s = putGrant c (some (o.code, mc)) s := by
  unfold startOp
  rcases hcode with e | e
  all_goals
    rw [e]
    show (match o.ch with | some c => _ | none => s) = _
    rw [hch]

theorem disarmCh_test (c : Ch) (s : State) : (disarmCh c s).bat = s.bat := by
  unfold disarmCh disarmNow
  split
  · rfl
  · split <;> rfl

theorem forEach_test {α : Type} {f : α → State → State} (l : List α) (k : ∀ a v, (f a v).bat.test = v.bat.test) :
    (forEach l f s).bat.test = s.bat.test := by
  induction l generalizing s with
  | nil => rfl
  | cons a l ih => exact ih.trans (k a s)

/-- A battery test that begins stands as the test in hand. -/
theorem beginTest_runs (o : Op) (s : State) : (beginTest o s).bat.test ≠ none := by
  unfold beginTest
  extract_lets w1 w2 cap part soc cf four run r u v
  have hv : v.bat.test = some run := forEach_test _ fun _ _ => rfl
  refine fun h => Option.some_ne_none run (hv.symm.trans (Eq.trans (forEach_test _ fun k z => ?_).symm h))
  split
  · rw [disarmCh_test]
  · rfl

theorem startOp_test {mc : Nat} (hcode : o.code = Opn.CAP_TEST ∨ o.code = Opn.DUR_TEST) : startOp o mc s = beginTest o s := by
  unfold startOp
  rcases hcode with e | e
  · rw [e]
    rfl
  · rw [e]
    rfl

/-! ### What the decision leaves of the channel (Table 5.7, R172, R407) -/

/-- A refused inrush leaves its waiting channel OPEN (R172). -/
theorem refuseOp_inrush (hcode : o.code = Opn.INRUSH) (hch : o.ch = some c) (hre : reloads s c = false)
    (hst : (s.chan c).st = .wait) (b : Nat) : ((refuseOp o b s).chan c).st = .opened := by
  obtain ⟨u, hdrop, huch, hugrp⟩ := refuseOp_ch o b s
  have hre' : reloads u c = false := (congrArg (fun v => ({ u with grp := v }.group (groupOf c)).reloading) hugrp).trans hre
  have hst' : (u.chan c).st = .wait := by rw [chan_congr huch]; exact hst
  have hun : unwait c u = modCh c (fun x => { x with st := .opened, retryWait := false, freeTry := false, yoyo := .idle }) u := by
    rw [unwait, if_neg (by simp [hre']), unwaitNow, if_pos hst']
  have hd : (dropOp o u).ch = (unwait c u).ch := by
    unfold dropOp
    rw [hcode, hch]
    rfl
  rw [chan_congr (hdrop.trans (hd.trans (congrArg State.ch hun))), chan_modCh]

/-- A refused FET_TEST leaves the channels as they stand. -/
theorem refuseOp_fetTest (hcode : o.code = Opn.FET_TEST) (b : Nat) (s : State) : (refuseOp o b s).ch = s.ch := by
  obtain ⟨u, hdrop, huch, -⟩ := refuseOp_ch o b s
  have hd : dropOp o u = u := by
    unfold dropOp
    rw [hcode]
    rfl
  rw [hdrop, hd, huch]

/-- A token in a channel's register keeps the channel's state. -/
theorem grantOp_token {mc : Nat} (hcode : o.code = Opn.INRUSH ∨ o.code = Opn.FET_TEST) (hch : o.ch = some c) :
    ((grantOp o mc false s).chan c).grant ≠ none ∧ ((grantOp o mc false s).chan c).st = (s.chan c).st := by
  obtain ⟨u, hstart, -, -, huch⟩ := grantOp_decides o mc s
  rw [hstart, startOp_token (o := { o with bus := mc }) hcode hch, putGrant, chan_modCh, chan_congr huch]
  exact ⟨Option.some_ne_none _, rfl⟩

/-- How the request of an inrush is decided: its channel waits with a token or in the queue, or stands OPEN with the refusal
counted (R172, R413). -/
def InrushDecided (c : Ch) (s t : State) : Prop :=
  (t.adm.lastDecision = 1 ∧ (t.chan c).grant ≠ none ∧ (t.chan c).st = .wait) ∨
    (t.adm.lastDecision = 2 ∧ (t.chan c).st = .wait) ∨
    (t.adm.lastDecision = 3 ∧ (t.chan c).st = .opened ∧ t.adm.refusals = sat32 (s.adm.refusals + 1))

theorem fileOp_inrush (hcode : o.code = Opn.INRUSH) (hch : o.ch = some c) (hre : reloads s c = false)
    (hst : (s.chan c).st = .wait) : InrushDecided c s (fileOp o s) := by
  rcases fileOp_judged o s with ⟨mc, h⟩ | ⟨b, h⟩ | ⟨b, h⟩
  · obtain ⟨-, -, -, hdec, -⟩ := grantOp_decides (o.filed s) mc (numbered s)
    obtain ⟨hgrant, hwait⟩ := grantOp_token (s := numbered s) (mc := mc) (o := o.filed s) (.inl hcode) hch
    rw [h]
    exact .inl ⟨hdec, hgrant, hwait.trans hst⟩
  · obtain ⟨-, hdec, hsame⟩ := queueOp_decides (o.filed s) b (numbered s)
    rw [h]
    exact .inr (.inl ⟨hdec, by rw [chan_congr hsame]; exact hst⟩)
  · obtain ⟨-, hdec, hcount⟩ := refuseOp_adm (o.filed s) b (numbered s)
    rw [h]
    exact .inr (.inr ⟨hdec, refuseOp_inrush (o := o.filed s) (s := numbered s) hcode hch hre hst b, hcount⟩)

/-- An inrush filed for a channel whose group does not reload: refused by the firmware, or decided by the arbiter (R172,
R207). -/
theorem fileInrush_decided (f : Filer) (id : Option Nat) (hre : reloads s c = false) :
    (fileInrush c f id s).adm.lastOp = Opn.INRUSH ∧ InrushDecided c s (fileInrush c f id s) := by
  unfold fileInrush
  extract_lets o u
  have hu : u = waitNow c s := if_neg (by simp [hre])
  have hbar : ∀ b, ((modCh c (fun x => { x with barred := b }) u).chan c).st = .wait := by
    intro b
    rw [chan_modCh, hu, waitNow, chan_modCh]
  have hreb : ∀ b, reloads (modCh c (fun x => { x with barred := b }) u) c = false := by
    intro b
    rw [hu]
    exact hre
  have hadm : u.adm = s.adm := by rw [hu]; rfl
  split
  · obtain ⟨hop, hdec, hcount⟩ := refuseOp_adm o 0 (modCh c (fun x => { x with barred := true }) u)
    exact ⟨hop, .inr (.inr ⟨hdec, refuseOp_inrush rfl rfl (hreb true) (hbar true) 0, hcount.trans (by rw [← hadm]; rfl)⟩)⟩
  · refine ⟨(fileOp_decides o _).1, ?_⟩
    have := fileOp_inrush (o := o) rfl rfl (hreb false) (hbar false)
    unfold InrushDecided at this ⊢
    rwa [← hadm]

/-- A FET_TEST that is granted has its token, and its channel's state stands until it begins (R407). -/
theorem fileOp_fetTest (hcode : o.code = Opn.FET_TEST) (hch : o.ch = some c) (s : State) :
    ((fileOp o s).adm.lastDecision = 1 → ((fileOp o s).chan c).grant ≠ none) ∧ ((fileOp o s).chan c).st = (s.chan c).st := by
  rcases fileOp_judged o s with ⟨mc, h⟩ | ⟨b, h⟩ | ⟨b, h⟩
  · obtain ⟨hgrant, hst⟩ := grantOp_token (s := numbered s) (mc := mc) (o := o.filed s) (.inr hcode) hch
    rw [h]
    exact ⟨fun _ => hgrant, hst⟩
  · obtain ⟨-, hdec, hsame⟩ := queueOp_decides (o.filed s) b (numbered s)
    rw [h, hdec, chan_congr hsame]
    exact ⟨fun e => absurd e (by decide), rfl⟩
  · obtain ⟨-, hdec, -⟩ := refuseOp_adm (o.filed s) b (numbered s)
    rw [h, hdec, chan_congr (refuseOp_fetTest (o := o.filed s) hcode b (numbered s))]
    exact ⟨fun e => absurd e (by decide), rfl⟩

/-- A battery test that is granted begins at once (R438). -/
theorem fileOp_test (hcode : o.code = Opn.CAP_TEST ∨ o.code = Opn.DUR_TEST) (s : State) :
    (fileOp o s).adm.lastDecision = 1 → (fileOp o s).bat.test ≠ none := by
  rcases fileOp_judged o s with ⟨mc, h⟩ | ⟨b, h⟩ | ⟨b, h⟩
  · obtain ⟨u, hstart, -⟩ := grantOp_decides (o.filed s) mc (numbered s)
    rw [h, hstart, startOp_test (o := { o.filed s with bus := mc }) hcode]
    exact fun _ => beginTest_runs _ u
  · obtain ⟨-, hdec, -⟩ := queueOp_decides (o.filed s) b (numbered s)
    rw [h, hdec]
    exact fun e => absurd e (by decide)
  · obtain ⟨-, hdec, -⟩ := refuseOp_adm (o.filed s) b (numbered s)
    rw [h, hdec]
    exact fun e => absurd e (by decide)

/-! ### OP_START (R118) -/

/-- An OP_START that its checks pass files its request, and the change of the channels is told. -/
theorem opStart_calm {code : Nat} {body : List Word} {argsOk : Cmd → State → Bool} {file : Cmd → State → State}
    (h : Calm n 0x30 tag body s) (hg : sessionGate s n 0x30 = none) (hcode : (body.getD 0 0).field 24 8 = code)
    (hmode : opStartMode s (calmCmd n tag body s) code = true)
    (hiso : ∀ k ∈ chNamed (chWord (body.getD 0 0)), isolated s k = false)
    (hargs : argsOk (calmCmd n tag body s) (calmTaken n 0x30 tag body s) = true) :
    runCmd n (isOpStart code) (opStartOp code argsOk file) s =
      reportCh (calmTaken n 0x30 tag body s) (file (calmCmd n tag body s) (calmTaken n 0x30 tag body s)) := by
  have hany : (chNamed (chWord ((calmCmd n tag body s).w 0))).any (isolated (calmTaken n 0x30 tag body s)) = false :=
    List.any_eq_false.2 fun k hk => by rw [show isolated (calmTaken n 0x30 tag body s) k = false from hiso k hk]; decide
  have hsel : isOpStart code 0x30 body = true := by
    unfold isOpStart
    rw [hcode]
    simp
  rw [runCmd_calm h hg hsel]
  unfold opStartOp
  rw [if_neg (by rw [show opStartMode (calmTaken n 0x30 tag body s) (calmCmd n tag body s) code = true from hmode]; decide),
    if_neg (by rw [hany]; decide), if_neg (by rw [hargs]; exact Bool.false_ne_true)]

/-- The one channel that an OP_START names. -/
theorem soleCh_named {body : List Word} (hc : chNamed (chWord (body.getD 0 0)) = [c]) :
    soleCh (calmCmd n tag body s) = some c := by
  unfold soleCh
  rw [show chNamed (chWord ((calmCmd n tag body s).w 0)) = [c] from hc]

end Sys2Proof.Machine
end

section
/-! The obligation on CH_CTRL and OP_START. -/

namespace Sys2Proof.Machine

variable {s t u : State} {c : Ch} {n : Mb} {tag act code : Nat} {w m a b : Word} {l : List Word}

/-! ### CH_CTRL (R157 to R160, R214) -/

theorem judge_open (hst : (s.chan c).st.conducts = true) : ctrlJudge s Act.OPEN c = none := by
  simp [ctrlJudge, ctrlRole, ctrlFrom, hst, Act.OPEN, Act.ARM, Act.DISARM]

theorem judge_close (hst : (s.chan c).st = .opened) (hp : (s.chan c).present = true) (he : (s.chan c).equal = true)
    (hshed : (s.chan c).shed = false) (hw : shedWaits s c = false) : ctrlJudge s Act.CLOSE c = none := by
  simp [ctrlJudge, ctrlRole, ctrlFrom, hst, hp, he, hshed, hw, Act.OPEN, Act.CLOSE, Act.ARM, Act.DISARM]

theorem judge_arm (hrole : roleOf s c = .battery) (hst : (s.chan c).st = .on) : ctrlJudge s Act.ARM c = none := by
  simp [ctrlJudge, ctrlRole, ctrlFrom, hrole, hst, Act.OPEN, Act.CLOSE, Act.ARM]

theorem judge_disarm (hrole : roleOf s c = .battery) (hst : (s.chan c).st = .armed) : ctrlJudge s Act.DISARM c = none := by
  simp [ctrlJudge, ctrlRole, ctrlFrom, hrole, hst, Act.OPEN, Act.CLOSE, Act.ARM, Act.DISARM]

theorem judge_clear (hst : (s.chan c).st = .latched) :
    ctrlJudge s Act.CLEAR c = if clearAccepted s c = true then none else some St.REFUSED := by
  simp [ctrlJudge, ctrlRole, ctrlFrom, ctrlDone, hst, Act.OPEN, Act.CLOSE, Act.ARM, Act.DISARM, Act.CLEAR]

theorem judge_presence : ctrlJudge s Act.PRESENCE c = none := by
  simp [ctrlJudge, ctrlRole, ctrlFrom, Act.OPEN, Act.CLOSE, Act.ARM, Act.DISARM, Act.CLEAR, Act.PRESENCE]

section
variable (h : Calm n 0x60 tag [w] s) (hg : sessionGate s n 0x60 = none) (hact : w.field 24 8 = act)
  (hc : chNamed (chWord w) = [c]) (hiso : isolated s c = false) (hm : ctrlModes act s.sys.mode = true) (hs : Still c s)
include h hg hact hc hiso hm hs

theorem chCtrlOpen_opens (ho : act = Act.OPEN) (hsec : classEff s c ≠ 0 ∨ secureOn s n = true)
    (hst : (s.chan c).st.conducts = true) (ha : chn s c Chp.INRUSH_AUTO ≠ 1) :
    ∃ t, exec (.chCtrlOpen n) s = .next t ∧ (t.chan c).st = .opened ∧ (t.chan c).low = true := by
  subst ho
  obtain ⟨hopen, hlow, hpf, hne⟩ := ctrlAct_open_chan (still_calmTaken (n := n) (tag := tag) (op := 0x60) (body := [w]) hs) hst
  have hch := chan_congr (chCtrl_ch h hg hact hc hiso hm hs (fun _ => hsec) (judge_open hst) hne
    (.inl <| autoReady_not (.inl (by rw [chn_congr hpf]; exact ha)))) c
  exact ⟨_, rfl, by rw [hch]; exact hopen, by rw [hch]; exact hlow⟩

theorem chCtrlClose_closes (ho : act = Act.CLOSE) (hst : (s.chan c).st = .opened) (hp : (s.chan c).present = true)
    (he : (s.chan c).equal = true) (hshed : (s.chan c).shed = false) (hw : shedWaits s c = false) (hrole : roleOf s c ≠ .source) :
    ∃ t, exec (.chCtrlClose n) s = .next t ∧ (t.chan c).st = closedState s c ∧
      (t.chan c).closures = sat32 ((s.chan c).closures + 1) := by
  subst ho
  obtain ⟨hclosed, hcount, hne⟩ := ctrlAct_close_chan (s := calmTaken n 0x60 tag [w] s) hst hrole
  have hauto : ((ctrlAct Act.CLOSE c (calmTaken n 0x60 tag [w] s)).chan c).st ≠ .opened := by
    rw [hclosed]
    rcases closedState_cases (calmTaken n 0x60 tag [w] s) c with e | e | e <;> rw [e] <;> decide
  have hch := chan_congr (chCtrl_ch h hg hact hc hiso hm hs (fun e => absurd e (by decide)) (judge_close hst hp he hshed hw) hne
    (.inl <| autoReady_not (.inr hauto))) c
  exact ⟨_, rfl, by rw [hch]; exact hclosed, by rw [hch]; exact hcount⟩

theorem chCtrlArm_arms (ho : act = Act.ARM) (hrole : roleOf s c = .battery) (hst : (s.chan c).st = .on) :
    ∃ t, exec (.chCtrlArm n) s = .next t ∧ (t.chan c).st = .armed ∧ (t.chan c).gateA = chargeReg s c ∧
      (t.chan c).gateB = (s.chan c).gateB := by
  subst ho
  let u := calmTaken n 0x60 tag [w] s
  have hu := ctrlAct_arm (s := u) hst
  have hchan : (ctrlAct Act.ARM c u).chan c = { s.chan c with st := .armed, gateA := chargeReg s c } := by
    rw [hu]
    exact chan_modCh _ _ _
  have hch := chan_congr (chCtrl_ch h hg hact hc hiso hm hs (fun e => absurd e (by decide)) (judge_arm hrole hst)
    (fun d hd => by rw [hu]; exact chan_modCh_ne _ _ _ _ hd) (.inl <| autoReady_not (.inr (by rw [hchan]; exact fun e => nomatch e)))) c
  exact ⟨_, rfl, by rw [hch, hchan], by rw [hch, hchan], by rw [hch, hchan]⟩

theorem chCtrlDisarm_disarms (ho : act = Act.DISARM) (hrole : roleOf s c = .battery) (hst : (s.chan c).st = .armed) :
    ∃ t, exec (.chCtrlDisarm n) s = .next t ∧ (t.chan c).st = .on ∧
      (t.chan c).gateA = if (s.chan c).gateA = .full then .full else .rise (gateUa s c) := by
  subst ho
  let u := calmTaken n 0x60 tag [w] s
  have hu := ctrlAct_disarm (s := u) hst
  have hchan : (ctrlAct Act.DISARM c u).chan c = { s.chan c with st := .on, gateA := riseGate s c (s.chan c).gateA } := by
    rw [hu]
    exact chan_modCh _ _ _
  have hch := chan_congr (chCtrl_ch h hg hact hc hiso hm hs (fun e => absurd e (by decide)) (judge_disarm hrole hst)
    (fun d hd => by rw [hu]; exact chan_modCh_ne _ _ _ _ hd) (.inl <| autoReady_not (.inr (by rw [hchan]; exact fun e => nomatch e)))) c
  exact ⟨_, rfl, by rw [hch, hchan], by rw [hch, hchan]; rfl⟩

theorem chCtrlClear_clears (ho : act = Act.CLEAR) (hst : (s.chan c).st = .latched) (hok : clearAccepted s c = true)
    (ha : chn s c Chp.INRUSH_AUTO ≠ 1) :
    ∃ t, exec (.chCtrlClear n) s = .next t ∧ (t.chan c).st = .opened ∧ (t.chan c).attempts = 0 := by
  subst ho
  obtain ⟨hopen, hatt, hpf, hne⟩ := ctrlAct_clear_chan (s := calmTaken n 0x60 tag [w] s) hst
  have hch := chan_congr (chCtrl_ch h hg hact hc hiso hm hs (fun e => absurd e (by decide)) ((judge_clear hst).trans (if_pos hok)) hne
    (.inl <| autoReady_not (.inl (by rw [chn_congr hpf]; exact ha)))) c
  exact ⟨_, rfl, by rw [hch]; exact hopen, by rw [hch]; exact hatt⟩

theorem chCtrlClear_refused (ho : act = Act.CLEAR) (hst : (s.chan c).st = .latched) (hno : clearAccepted s c = false) :
    ∃ t, exec (.chCtrlClear n) s = .next t ∧ SameBut [.inq, .outq, .deolo, .link, .mb] s t ∧
      (t.outq.get n).words = message 0x60 tag 1 St.REFUSED [0] := by
  subst ho
  let u := calmTaken n 0x60 tag [w] s
  let v : State := { u with mb := { u.mb with runs := u.mb.runs.filter fun q => q.tag != s.deolo.nextId } }
  have hjudge : ctrlJudge u Act.CLEAR c = some St.REFUSED := (judge_clear (s := u) hst).trans (if_neg (by rw [show clearAccepted u c = false from hno]; decide))
  have hone : ctrlOne Act.CLEAR c (freshRun s.deolo.nextId, u) = ({ freshRun s.deolo.nextId with bad := some (c.val, St.REFUSED) }, u) := by
    unfold ctrlOne
    rw [hjudge]
    rfl
  have hafter : afterCtrl u u = u := by
    unfold afterCtrl
    dsimp only
    rw [forEach_fixed (by simp), reportCh_unchanged rfl]
  have hrun : runCmd n (isCtrl Act.CLEAR) (chCtrlOp Act.CLEAR) s = complete s.deolo.nextId St.REFUSED [0] v := by
    rw [chCtrl_calm h hg hact hc hiso hm hs fun e => absurd e (by decide), hone, hafter]
    unfold settleRun
    dsimp only
    rw [if_neg (by rw [show u.mb.held = [] from hs.held]; simp [freshRun])]
    rfl
  have hhand : InHand (calmEntry n 0x60 tag s) v := (inHand_calmTaken h).congr rfl rfl rfl rfl
  obtain ⟨hwords, hsame⟩ := complete_inHand (st := St.REFUSED) (body := [0]) hhand (by decide)
  refine ⟨_, congrArg Host.Outcome.next hrun, ?_, hwords⟩
  refine Same.sameBut (k := 960 + 16384) (((calmTaken_frame n 0x60 tag [w] s).mono rfl).trans ?_) rfl
  exact ((same_mb rfl).2 (same_refl _ u)).trans (hsame.mono rfl)

theorem chCtrlPresence_restarts (ho : act = Act.PRESENCE) :
    ∃ t, exec (.chCtrlPresence n) s = .next t ∧ (t.chan c).presRestart = true ∧ (t.chan c).st = (s.chan c).st := by
  subst ho
  obtain ⟨hpres, hst, hne⟩ := ctrlAct_presence_chan (s := calmTaken n 0x60 tag [w] s) (c := c)
  have hch := chan_congr (chCtrl_ch h hg hact hc hiso hm hs (fun e => absurd e (by decide)) judge_presence hne (.inr hst)) c
  exact ⟨_, rfl, by rw [hch]; exact hpres, by rw [hch]; exact hst⟩

end

/-! ### OP_START (R172, R407, R437) -/

section
variable (h : Calm n 0x30 tag (w :: l) s) (hg : sessionGate s n 0x30 = none) (hc : chNamed (chWord w) = [c])
  (hiso : isolated s c = false) (hdebug : s.svc.debug = 0) (hst : (s.chan c).st = .opened)
include h hg hc hiso hdebug hst

theorem opStartInrush_decided (hcode : w.field 24 8 = Opn.INRUSH) (hl : l = []) (hre : (s.group (groupOf c)).reloading = false)
    (hm : ∀ id, inrushModes s c (.host id) = true) :
    ∃ t, exec (.opStartInrush n) s = .next t ∧ t.adm.lastOp = Opn.INRUSH ∧ InrushDecided c s t := by
  subst hl
  let u := calmTaken n 0x30 tag [w] s
  have hsole : soleCh (calmCmd n tag [w] s) = some c := soleCh_named hc
  have hmode : opStartMode s (calmCmd n tag [w] s) Opn.INRUSH = true := by
    simp [opStartMode, hdebug, hsole, hm]
  have hrun := opStart_calm (file := fileHostInrush) (argsOk := fun c _ => c.body.length == 1 && (soleCh c).isSome)
    h hg hcode hmode (by simpa [hc] using hiso) (by rw [hsole]; rfl)
  have hfile : fileHostInrush (calmCmd n tag [w] s) u = fileInrush c (.host s.deolo.nextId) (some s.deolo.nextId) u := by
    unfold fileHostInrush
    rw [hsole]
    exact if_pos hst
  obtain ⟨hop, hdec⟩ := fileInrush_decided (c := c) (s := u) (.host s.deolo.nextId) (some s.deolo.nextId) hre
  rw [hfile] at hrun
  refine ⟨_, congrArg Host.Outcome.next hrun, by rw [reportCh_adm]; exact hop, ?_⟩
  unfold InrushDecided at hdec ⊢
  rw [reportCh_adm, chan_congr reportCh_ch]
  exact hdec

theorem opStartFetTest_decided (hcode : w.field 24 8 = Opn.FET_TEST) (hl : l = [a])
    (hm : opModes Opn.FET_TEST s.sys.mode = true) (hi : 1 ≤ a.field 16 16) (hi' : a.field 16 16 ≤ 1000)
    (ht : 10 ≤ a.field 0 16) (ht' : a.field 0 16 ≤ 1000) (hq : chQueued s c = none) (hgr : (s.chan c).grant = none) :
    ∃ t, exec (.opStartFetTest n) s = .next t ∧ t.adm.lastOp = Opn.FET_TEST ∧ t.adm.lastDecision ∈ [1, 2, 3] ∧
      (t.adm.lastDecision = 1 → (t.chan c).grant ≠ none) ∧ (t.chan c).st = .opened := by
  subst hl
  let u := calmTaken n 0x30 tag [w, a] s
  have hsole : soleCh (calmCmd n tag [w, a] s) = some c := soleCh_named hc
  have hmode : opStartMode s (calmCmd n tag [w, a] s) Opn.FET_TEST = true := by
    simp [opStartMode, hdebug, hm, Opn.FET_TEST, Opn.INRUSH]
  have hargs : fetArgsOk (calmCmd n tag [w, a] s) = true := by
    have hlen : (calmCmd n tag [w, a] s).body.length = 2 ∧ (calmCmd n tag [w, a] s).w 1 = a := ⟨rfl, rfl⟩
    simp [fetArgsOk, hsole, hlen, hi, hi', ht, ht']
  have hrun := opStart_calm (file := fileFet) (argsOk := fun c _ => fetArgsOk c)
    h hg hcode hmode (by simpa [hc] using hiso) hargs
  have hfile : fileFet (calmCmd n tag [w, a] s) u = fileOp (fetOp c a s.deolo.nextId) u := by
    unfold fileFet
    rw [hsole]
    exact if_pos ⟨hst, by rw [show chQueued u c = none from hq]; rfl, by rw [show (u.chan c).grant = none from hgr]; rfl⟩
  obtain ⟨hop, hdec⟩ := fileOp_decides (fetOp c a s.deolo.nextId) u
  obtain ⟨hgrant, hkeep⟩ := fileOp_fetTest (o := fetOp c a s.deolo.nextId) (c := c) rfl rfl u
  rw [hfile] at hrun
  refine ⟨_, congrArg Host.Outcome.next hrun, ?_⟩
  rw [reportCh_adm, chan_congr reportCh_ch]
  exact ⟨hop, hdec, hgrant, hkeep.trans hst⟩

end

section
variable (h : Calm n 0x30 tag [m, a, b] s) (hg : sessionGate s n 0x30 = none)
  (hiso : ∀ k ∈ chNamed (chWord m), isolated s k = false) (hmap : testMapOk s (chWord m) = true)
include h hg hiso hmap

/-- A battery test that its checks pass is decided, and one that is granted runs. -/
theorem opStartTest_decided (hbat : code = Opn.CAP_TEST ∨ code = Opn.DUR_TEST) (hcode : m.field 24 8 = code)
    (hm : opModes code s.sys.mode = true) (hargs : testArgsOk code a.toNat b.toNat = true) :
    let t := runCmd n (isOpStart code) (opStartOp code (batArgsOk code) (fileTest code)) s
    t.adm.lastOp = code ∧ t.adm.lastDecision ∈ [1, 2, 3] ∧ (t.adm.lastDecision = 1 → t.bat.test ≠ none) := by
  intro t
  let u := calmTaken n 0x30 tag [m, a, b] s
  let o := testOp u code (chWord m) a.toNat b.toNat (some s.deolo.nextId)
  have hnot : code ≠ Opn.INRUSH ∧ code ≠ Opn.FET_TEST := by
    rcases hbat with e | e <;> rw [e] <;> decide
  have hmode : opStartMode s (calmCmd n tag [m, a, b] s) code = true := by
    simp [opStartMode, hm, hnot]
  have hok : batArgsOk code (calmCmd n tag [m, a, b] s) u = true := by
    have hmap' : testMapOk u (chWord m) = true := hmap
    simp [batArgsOk, calmCmd, Cmd.w, hargs, hmap']
  have ht : t = reportCh u (fileOp o u) := opStart_calm (file := fileTest code) h hg hcode hmode hiso hok
  rw [ht, reportCh_adm, reportCh_bat]
  exact ⟨(fileOp_decides o u).1, (fileOp_decides o u).2, fileOp_test hbat u⟩

end

/-- Settles O17: CH_CTRL by `chCtrl_ch` and the rule of each action, OP_START by what the arbiter's answer leaves. -/
theorem channelsActOnlyFromTheStatesOfTheirRow : Obligations.ChannelsActOnlyFromTheStatesOfTheirRow := by
  intro s n tag w c hc hiso
  refine ⟨fun h hg hm hs => ⟨?_, ?_, ?_, ?_, ?_, ?_, ?_⟩, fun l h hg hdebug hst => ⟨?_, ?_⟩,
    fun m a b h hg hiso hm hmap => ⟨fun hcode hargs => ?_, fun hcode hargs => ?_⟩⟩
  · exact fun ho => chCtrlOpen_opens h hg rfl hc hiso hm hs ho
  · exact fun ho => chCtrlClose_closes h hg rfl hc hiso hm hs ho
  · exact fun ho => chCtrlArm_arms h hg rfl hc hiso hm hs ho
  · exact fun ho => chCtrlDisarm_disarms h hg rfl hc hiso hm hs ho
  · exact fun ho => chCtrlClear_clears h hg rfl hc hiso hm hs ho
  · exact fun ho => chCtrlClear_refused h hg rfl hc hiso hm hs ho
  · exact fun ho => chCtrlPresence_restarts h hg rfl hc hiso hm hs ho
  · exact opStartInrush_decided h hg hc hiso hdebug hst
  · exact fun a => opStartFetTest_decided h hg hc hiso hdebug hst
  · exact ⟨_, rfl, opStartTest_decided h hg hiso hmap (.inl rfl) hcode hm hargs⟩
  · exact ⟨_, rfl, opStartTest_decided h hg hiso hmap (.inr rfl) hcode hm hargs⟩

end Sys2Proof.Machine
end

section
/-! The obligation on WEAR_RESET: the wear record that it clears, and the write that brings the cleared one into force. -/

namespace Sys2Proof.Machine

variable {s t : State} {c : Ch} {q : Byte} {n a b : Nat} {p : Pending} {r : Record} {x : Slot}

/-! ### What is offered to the store waits in it (R477, R481) -/

theorem mem_enqueue (p : Pending) (l : List Pending) : p ∈ enqueue p l := by
  unfold enqueue
  split
  · next h =>
    obtain ⟨k, hk, hsame⟩ := List.any_eq_true.1 h
    exact List.mem_map.2 ⟨k, hk, if_pos hsame⟩
  · exact List.mem_append_right l (List.mem_singleton_self p)

theorem mem_offer (p : Pending) (s : State) : p ∈ (offer p s).nvs.queue ++ (offer p s).nvs.held := by
  unfold offer
  split
  · exact List.mem_append_left _ (mem_enqueue p _)
  · exact List.mem_append_right _ (List.mem_append_right _ (List.mem_singleton_self p))

/-! ### The frame WEAR_RESET (R536) -/

/-- A wear reset that the port has taken up: the record cleared and offered, its answer still owed. -/
def wearCleared (q : Byte) (c : Ch) (s : State) : State :=
  let t := modCh c clearWear (svcHeard s)
  queueWrite RT.WEAR c.val { t with svc := { t.svc with wear := some (q.toNat, c) } }

theorem wearCleared_offers (q : Byte) (c : Ch) (s : State) : ∃ p ∈ (wearCleared q c s).nvs.queue ++ (wearCleared q c s).nvs.held,
    p.rtype = RT.WEAR ∧ p.inst = c.val ∧ p.toJournal = false :=
  ⟨_, mem_offer _ _, rfl, rfl, rfl⟩

theorem wearCleared_chan (q : Byte) (c : Ch) (s : State) : (wearCleared q c s).chan c = clearWear (s.chan c) := by
  rw [wearCleared, chan_congr queueWrite_ch]
  exact chan_modCh c clearWear (svcHeard s)

theorem wearCleared_chan_ne {d : Ch} (q : Byte) (s : State) (h : d ≠ c) : (wearCleared q c s).chan d = s.chan d := by
  rw [wearCleared, chan_congr queueWrite_ch]
  exact chan_modCh_ne c d clearWear (svcHeard s) h

section
variable (hj : jackAnswers s = false) (hf : firmAnswers s = true) (hb : svcBusy s = false) (hs : secureOn s 14 = true)
include hj hf hb hs

theorem wearReset_taken (h : wearFree s c = true) : exec (.wearReset q c.val) s = .next (wearCleared q c s) := by
  show Host.Outcome.next (serve _ _ _ _ _ s) = _
  rw [serve_served hj hf hb hs, dif_pos c.isLt, if_neg (by rw [show wearFree (svcHeard s) c = true from h]; decide)]
  rfl

theorem wearReset_refused (h : wearFree s c = false) :
    exec (.wearReset q c.val) s = .next (svcReply 0x50 q.toNat St.REFUSED [] (svcHeard s)) := by
  show Host.Outcome.next (serve _ _ _ _ _ s) = _
  rw [serve_served hj hf hb hs, dif_pos c.isLt, if_pos (by rw [show wearFree (svcHeard s) c = false from h]; rfl)]

theorem wearReset_above (h : 24 ≤ n) :
    exec (.wearReset q n) s = .next (svcReply 0x50 q.toNat St.RANGE [] (svcHeard s)) := by
  show Host.Outcome.next (serve _ _ _ _ _ s) = _
  rw [serve_served hj hf hb hs, dif_neg (by omega)]

/-- A wear reset clears the bins, DAMAGE and DAY_RING, keeps the counts, and its answer is owed (R486, R536). -/
theorem wearReset_clears (h : wearFree s c = true) :
    ∃ t, exec (.wearReset q c.val) s = .next t ∧ SameBut [.ch, .nvs, .svc] s t ∧
      t.svc.wear = some (q.toNat, c) ∧ svcBusy t = true ∧ (t.chan c).damage = 0 ∧ (t.chan c).days = [] ∧
      (∀ i, (t.chan c).bins.get i = 0) ∧ (t.chan c).closures = (s.chan c).closures ∧
      (t.chan c).tripCount = (s.chan c).tripCount ∧ (∀ d, d ≠ c → t.chan d = s.chan d) ∧
      ∃ p ∈ t.nvs.queue ++ t.nvs.held, p.rtype = RT.WEAR ∧ p.inst = c.val ∧ p.toJournal = false := by
  have hrun := wearReset_taken (q := q) hj hf hb hs h
  have hwear : (wearCleared q c s).svc.wear = some (q.toNat, c) := congrArg Svc.wear queueWrite_svc
  refine ⟨_, hrun, aCommandChangesOnlyTheParts _ _ _ hrun, hwear, ?_, ?_⟩
  · rw [svcBusy, hwear]
    rfl
  · rw [wearCleared_chan]
    exact ⟨rfl, rfl, fun i => Vector.getElem_replicate i.isLt, rfl, rfl, fun d hd => wearCleared_chan_ne q s hd,
      wearCleared_offers q c s⟩

end

/-! ### The slots of a record (R475, R476) -/

/-- A slot with the next SEQ is newer, and the one before it is not. -/
theorem seqNewer_succ {a b : Nat} (h : b = (a + 1) % 2 ^ 32) : seqNewer b a = true ∧ seqNewer a b = false := by
  simp only [seqNewer, decide_eq_true_eq, decide_eq_false_iff_not]
  omega

section
variable {ty i : Nat} {l u : Slot}

theorem inForce_newer (h : seqNewer u.seq l.seq = true) : Record.inForce ⟨ty, i, some l, some u⟩ = some u := if_pos h

theorem inForce_older (h : seqNewer u.seq l.seq = false) : Record.inForce ⟨ty, i, some l, some u⟩ = some l :=
  if_neg (by rw [h]; decide)

/-- With both slots valid a write takes the one that is not in force. -/
theorem write_both (x : Slot) : Record.write ⟨ty, i, some l, some u⟩ x =
    if seqNewer u.seq l.seq = true then ⟨ty, i, some x, some u⟩ else ⟨ty, i, some l, some x⟩ := by
  rw [Record.write, if_neg (by simp), if_neg (by simp)]
  rfl

/-- With both slots valid a failed write spoils the one that is not in force. -/
theorem spoil_both : Record.spoil ⟨ty, i, some l, some u⟩ =
    if seqNewer u.seq l.seq = true then ⟨ty, i, none, some u⟩ else ⟨ty, i, some l, none⟩ := by
  rw [Record.spoil, if_neg (by simp)]
  rfl

end

/-- A slot that is written with the next SEQ is the one in force. -/
theorem inForce_write (h : ∀ y, r.inForce = some y → x.seq = (y.seq + 1) % 2 ^ 32) : (r.write x).inForce = some x := by
  obtain ⟨rtype, inst, lo, hi⟩ := r
  cases lo with
  | none =>
    rw [Record.write, if_pos rfl]
    cases hi with
    | none => rfl
    | some u => exact inForce_older (seqNewer_succ (h u rfl)).2
  | some l =>
    cases hi with
    | none =>
      rw [Record.write, if_neg (by simp), if_pos rfl]
      exact inForce_newer (seqNewer_succ (h l rfl)).1
    | some u =>
      cases hn : seqNewer u.seq l.seq with
      | true =>
        rw [write_both, if_pos hn]
        exact inForce_older (seqNewer_succ (h u (inForce_newer hn))).2
      | false =>
        rw [write_both, if_neg (by rw [hn]; decide)]
        exact inForce_newer (seqNewer_succ (h l (inForce_older hn))).1

/-- What a failed write spoils is not in force. -/
theorem inForce_spoil (r : Record) : r.spoil.inForce = r.inForce := by
  obtain ⟨rtype, inst, lo, hi⟩ := r
  cases lo with
  | none => rw [Record.spoil, if_pos (.inl rfl)]
  | some l =>
    cases hi with
    | none => rw [Record.spoil, if_pos (.inr rfl)]
    | some u =>
      cases hn : seqNewer u.seq l.seq with
      | true =>
        rw [spoil_both, if_pos hn, inForce_newer hn]
        rfl
      | false =>
        rw [spoil_both, if_neg (by rw [hn]; decide), inForce_older hn]
        rfl

theorem inForce_putRec (h : ∀ y, inForce s a b = some y → x.seq = (y.seq + 1) % 2 ^ 32) :
    ((putRec a b x s.nvs.recs).find? fun r => r.rtype == a && r.inst == b).bind Record.inForce = some x := by
  unfold inForce findRec at h
  generalize s.nvs.recs = l at h ⊢
  induction l with
  | nil => simp [putRec, Record.inForce]
  | cons r l ih =>
    by_cases hr : r.rtype = a ∧ r.inst = b
    · have hw : (r.write x).rtype = a ∧ (r.write x).inst = b := by
        unfold Record.write
        split_ifs <;> exact hr
      have hx : (r.write x).inForce = some x := inForce_write fun y hy => h y (by simp [hr, hy])
      simp [putRec, hr, hw, hx]
    · have hne : (r.rtype == a && r.inst == b) = false := by simpa using hr
      simp only [putRec, if_neg hr, List.find?_cons, hne] at h ⊢
      exact ih h

theorem commitRec_inForce (a b : Nat) (body : Body) (s : State) :
    ∃ x, inForce (commitRec a b body s) a b = some x ∧ x.body = body := by
  refine ⟨_, inForce_putRec (s := s) fun y hy => ?_, rfl⟩
  simp [nextSlotSeq, hy]

theorem spoilRec_inForce (a b : Nat) (s : State) : inForce (spoilRec a b s) a b = inForce s a b := by
  unfold inForce findRec spoilRec
  generalize s.nvs.recs = l
  induction l with
  | nil => rfl
  | cons r l ih =>
    by_cases hr : r.rtype = a ∧ r.inst = b
    · have hw : r.spoil.rtype = a ∧ r.spoil.inst = b := by
        unfold Record.spoil
        split_ifs <;> exact hr
      simp [hr, hw, inForce_spoil]
    · have hne : (r.rtype == a && r.inst == b) = false := by simpa using hr
      simpa [if_neg hr, hne] using ih

theorem inForce_congr (h : t.nvs.recs = s.nvs.recs) (a b : Nat) : inForce t a b = inForce s a b := by
  rw [inForce, inForce, findRec, findRec, h]

/-! ### The write that answers the frame (R476, R486, R536) -/

/-- A write of a record of another type than CAL ends in the answer that a wear reset waits for. -/
theorem recordWrite_wear (hw : writesBegin s = true) (hp : nextWrite s = some p) (hr : p.rtype = RT.WEAR) :
    exec (.recordWrite n) s = .next (wearStored p (decide (n < 2)) (runWrite p n s)) := by
  have hmine : (p.rtype == RT.CAL && !p.toJournal && s.cnv.cal.storing.map (fun x => x.1) == some p.inst) = false := by
    simp [hr]
  show execRecordWrite n s = _
  rw [execRecordWrite, hp]
  dsimp only
  rw [if_pos hw, finishWrite, hmine, if_neg (by decide)]

/-- The answer to a wear reset whose record's write has ended. -/
theorem wearStored_answers {ok : Bool} {seq : Nat} (hw : s.svc.wear = some (seq, c)) (he : s.svc.en = true)
    (hr : p.rtype = RT.WEAR) (hi : p.inst = c.val) :
    wearStored p ok s =
      svcReply 0x50 seq (if ok then St.OK else St.REFUSED) [] { s with svc := { s.svc with wear := none } } := by
  unfold wearStored
  rw [hw]
  dsimp only
  rw [if_pos ⟨hr, hi⟩, if_pos he]

section
variable (hw : writesBegin s = true) (hwear : s.svc.wear = some (q.toNat, c)) (he : s.svc.en = true)
  (hp : nextWrite s = some p) (hr : p.rtype = RT.WEAR) (hi : p.inst = c.val) (hjour : p.toJournal = false)
include hw hwear he hp hr hi hjour

theorem recordWrite_wear_stored (hn : n < 2) : ∃ t, exec (.recordWrite n) s = .next t ∧ t.svc.wear = none ∧
    t.svc.tx = s.svc.tx ++ [SvcFrame.mk 0xD0 q.toNat St.OK []] ∧
    ∃ x, inForce t RT.WEAR c.val = some x ∧ x.body = p.body := by
  obtain ⟨hintent, hclears⟩ : p.intent = false ∧ p.clears = none := by simpa [Pending.toJournal] using hjour
  have hrun : runWrite p n s = commitRec p.rtype p.inst p.body (dropWrite p s) := by
    unfold runWrite
    rw [hclears]
    dsimp only
    rw [hintent, if_neg (by decide), if_neg (by omega), if_neg (by rw [hr]; decide)]
  refine ⟨_, recordWrite_wear hw hp hr, ?_⟩
  rw [hrun, wearStored_answers (s := commitRec p.rtype p.inst p.body (dropWrite p s)) hwear he hr hi, decide_eq_true hn, hr, hi]
  exact ⟨rfl, rfl, commitRec_inForce RT.WEAR c.val p.body (dropWrite p s)⟩

theorem recordWrite_wear_failed (hn : 2 ≤ n) : ∃ t, exec (.recordWrite n) s = .next t ∧ t.svc.wear = none ∧
    t.svc.tx.getLast? = some (SvcFrame.mk 0xD0 q.toNat St.REFUSED []) ∧
    inForce t RT.WEAR c.val = inForce s RT.WEAR c.val := by
  obtain ⟨hintent, hclears⟩ : p.intent = false ∧ p.clears = none := by simpa [Pending.toJournal] using hjour
  let d := { dropWrite p s with nvs := { (dropWrite p s).nvs with writeFail := true } }
  let u := logEvent Evt.NVS_WRITE_FAIL 2 objNone [recWord p.rtype p.inst] (spoilRec p.rtype p.inst d)
  have hrun : runWrite p n s = u := by
    unfold runWrite
    rw [hclears]
    dsimp only
    rw [hintent, if_neg (by decide), if_pos hn]
  have hq : Quiet true (spoilRec p.rtype p.inst d) u := by simp [u]
  have huwear : u.svc.wear = some (q.toNat, c) := (hq.eq Svc.wear fun _ => rfl).trans hwear
  have huen : u.svc.en = true := (hq.eq Svc.en fun _ => rfl).trans he
  have hrecs : inForce u p.rtype p.inst = inForce s p.rtype p.inst :=
    (inForce_congr (congrArg Store.recs logEvent_nvs) _ _).trans (spoilRec_inForce p.rtype p.inst d)
  refine ⟨_, recordWrite_wear hw hp hr, ?_⟩
  rw [hrun, wearStored_answers huwear huen hr hi, decide_eq_false (by omega)]
  rw [hr, hi] at hrecs
  exact ⟨rfl, List.getLast?_concat, hrecs⟩

end

/-- Settles O50: the frame by `serve_served`, its answer by the ends of the record's write. -/
theorem aWearResetClearsAndIsAnswered : Obligations.AWearResetClearsAndIsAnswered := fun _ _ =>
  ⟨fun hj hf hb hs => ⟨fun _ => wearReset_clears hj hf hb hs, fun _ => wearReset_refused hj hf hb hs,
      fun _ => wearReset_above hj hf hb hs⟩,
    fun _ _ _ hw hwear he hp hr hi hj => ⟨recordWrite_wear_stored hw hwear he hp hr hi hj,
      recordWrite_wear_failed hw hwear he hp hr hi hj⟩⟩

end Sys2Proof.Machine
end

section
/-! What happens to a channel that nothing else waits on: the end of its inrush, its closing, its trip and the end of its WAIT,
each within the channel's own record and what tells of it; and that no other step follows. -/

namespace Sys2Proof.Machine

variable {s t u v : State} {c : Ch} {o : Op} {r : Inr} {k a : Nat} {ok : Bool}

/-! ### Nothing follows by itself (R171, R411, R529, R585) -/

/-- Nothing follows by itself what happens to channel c: no request waits at the arbiter, the channel is in no walk-in, no
battery test runs, and no black start and no takeover is under way. -/
structure Lone (c : Ch) (s : State) : Prop where
  queue : s.adm.queue = []
  walk : s.bus.walk.get c = .out
  test : s.bat.test = none
  black : s.sys.blackStart = false
  takeover : s.svc.op = none

theorem Alone.lone (h : Alone c s) : Lone c s := ⟨h.queue, h.walk, h.test, h.black, h.takeover⟩

/-- The channels stand as an event of one channel left them, when that channel calls for no automatic request (R171). -/
theorem afterEvents_ch (hb : u.sys.blackStart = false) (ho : u.svc.op = none) (hne : ∀ d, d ≠ c → u.chan d = s.chan d)
    (ha : autoReady u c = false) : (afterEvents s u).ch = u.ch := by
  have hblack : blackNext 24 u = u := if_pos (by simp [hb])
  have hfixed : ∀ d ∈ allCh.filter (fun d => (s.chan d).st != (u.chan d).st || (s.chan d).present != (u.chan d).present),
      autoFile d u = u := by
    intro d hd
    by_cases hdc : d = c
    · rw [hdc, autoFile, if_neg (by simp [ha])]
    · have hmoved := (List.mem_filter.1 hd).2
      rw [hne d hdc] at hmoved
      simp at hmoved
  have hdrive : (driveOutputs u).ch = u.ch := ((driveOutputs_same rfl).2 (same_refl 8388608 u)).part .ch rfl
  unfold afterEvents
  dsimp only
  rw [hblack, forEach_fixed hfixed, handoverEntry_none ho, reportCh_ch, hdrive]

/-! ### Changes within one channel -/

/-- Between two states differ only channel c, the arbiter's grants and its last decision, the clock and what runs with it, the
store, and what tells the host. -/
structure Within (c : Ch) (s t : State) : Prop where
  others : ∀ d, d ≠ c → t.chan d = s.chan d
  frame : Same 387581762 s t
  queue : t.adm.queue = s.adm.queue
  takeover : t.svc.op = s.svc.op

theorem Within.refl (c : Ch) (s : State) : Within c s s := ⟨fun _ _ => rfl, same_refl _ s, rfl, rfl⟩

theorem Within.trans (h : Within c s t) (k : Within c t u) : Within c s u :=
  ⟨fun d hd => (k.others d hd).trans (h.others d hd), h.frame.trans k.frame, k.queue.trans h.queue,
    k.takeover.trans h.takeover⟩

theorem Within.pf (h : Within c s t) : t.pf = s.pf := h.frame.part .pf rfl
theorem Within.sys (h : Within c s t) : t.sys = s.sys := h.frame.part .sys rfl
theorem Within.grp (h : Within c s t) : t.grp = s.grp := h.frame.part .grp rfl
theorem Within.tin (h : Within c s t) : t.tin = s.tin := h.frame.part .tin rfl

theorem Within.lone (h : Within c s t) (l : Lone c s) : Lone c t where
  queue := h.queue.trans l.queue
  walk := by rw [show t.bus = s.bus from h.frame.part .bus rfl, l.walk]
  test := by rw [show t.bat = s.bat from h.frame.part .bat rfl, l.test]
  black := by rw [h.sys, l.black]
  takeover := h.takeover.trans l.takeover

theorem Within.reloads (h : Within c s t) : reloads t c = reloads s c := by
  simp only [Machine.reloads, State.group, h.grp]

theorem Within.roleOf (h : Within c s t) : roleOf t c = roleOf s c := by
  simp only [Machine.roleOf, chp, pget, h.pf]

/-- An event of one channel ends with the channels as it left them. -/
theorem Within.afterEvents_ch (h : Within c s u) (l : Lone c s) (ha : autoReady u c = false) : (afterEvents s u).ch = u.ch :=
  Machine.afterEvents_ch (h.lone l).black (h.lone l).takeover h.others ha

/-- A change of the parts that tell the host, of the store and of the time. -/
theorem within_of_same (h : Same 118096706 s t) (hop : t.svc.op = s.svc.op) : Within c s t :=
  ⟨fun d _ => chan_congr (h.part .ch rfl) d, h.mono rfl, by rw [show t.adm = s.adm from h.part .adm rfl], hop⟩

theorem modCh_within (c : Ch) (f : Chan → Chan) (s : State) : Within c s (modCh c f s) :=
  ⟨fun _ hd => chan_modCh_ne _ _ _ _ hd, by simp, rfl, rfl⟩

theorem setProbe_within (c : Ch) (s : State) : Within c s (setProbe c s) := modCh_within c _ s

theorem elapse_within (c : Ch) (n : Nat) (s : State) : Within c s (elapse n s) :=
  within_of_same (elapse_frame.mono rfl) (by rw [elapse_svc])

theorem Quiet.op (h : Quiet true s t) : t.svc.op = s.svc.op := h.eq Svc.op fun _ => rfl

theorem logEvent_within (c : Ch) (code sev obj : Nat) (data : List Nat) (s : State) :
    Within c s (logEvent code sev obj data s) :=
  within_of_same (logEvent_frame.mono rfl) (Quiet.op (by simp))

theorem complete_within (c : Ch) (id st : Nat) (body : List Word) (s : State) : Within c s (complete id st body s) :=
  within_of_same (complete_frame.mono rfl) (Quiet.op (by simp))

theorem queueWrite_within (c : Ch) (rtype inst : Nat) (s : State) : Within c s (queueWrite rtype inst s) :=
  within_of_same (queueWrite_frame.mono rfl) (by rw [queueWrite_svc])

/-- The arbiter's grants and its last decision change. -/
theorem grants_within (c : Ch) {x : Adm} (h : x.queue = s.adm.queue) : Within c s { s with adm := x } :=
  ⟨fun _ _ => rfl, by simp, h, rfl⟩

theorem latchRecords_within (c : Ch) (s : State) : Within c s (latchRecords c s) :=
  (logEvent_within c _ _ _ _ s).trans (queueWrite_within c _ _ _)

theorem latchRecords_ch (c : Ch) (s : State) : (latchRecords c s).ch = s.ch :=
  ((latchRecords_same rfl).2 (same_refl 117441344 s)).part .ch rfl

/-! ### The end of an inrush (R172, R177, R402) -/

theorem endRestores_nil (h : s.adm.queue = []) : ∃ g, endRestores s = { s with adm := { s.adm with grants := g } } := by
  unfold endRestores
  split
  · exact ⟨_, returnOp_nil h⟩
  · exact ⟨s.adm.grants, rfl⟩

/-- The record of a channel whose inrush has ended. -/
def Chan.offInrush (far : Nat) (x : Chan) : Chan :=
  { x with inr := none, grant := none, farC := far, retryWait := false, freeTry := false }

/-- With nothing queued the end of an inrush stays within its channel. -/
theorem endInrush_ends (hr : (s.chan c).inr = some r) (hq : s.adm.queue = []) (ok : Bool) :
    Within c s (endInrush c ok s) ∧ ∃ far, (endInrush c ok s).chan c = (s.chan c).offInrush far := by
  unfold endInrush
  split
  · next h => exact absurd (h.symm.trans hr) (by simp)
  · next r' h =>
    extract_lets x w far op v drop id _ v1 st v2
    have h1 : Within c s v1 := (modCh_within c _ s).trans (grants_within c rfl)
    have h2 : Within c v1 v2 ∧ v2.ch = v1.ch := by
      unfold v2
      split
      · exact ⟨complete_within c _ _ _ v1, complete_ch⟩
      · exact ⟨logEvent_within c _ _ _ _ v1, logEvent_ch⟩
    have hq2 : v2.adm.queue = [] := (h1.trans h2.1).queue.trans hq
    obtain ⟨g, hg⟩ := endRestores_nil hq2
    rw [rejudge_nil hq2, hg]
    refine ⟨(h1.trans h2.1).trans (grants_within c rfl), if ok && far != 0 then far else x.farC, ?_⟩
    show v2.chan c = _
    rw [chan_congr h2.2]
    exact chan_modCh c _ s

/-- A channel in its inrush opens alone (R128). -/
theorem openTo_inrush (l : Lone c s) (hr : (s.chan c).inr = some r) (st : ChSt) (g : Gate) :
    Within c s (openTo c st g s) ∧
      ∃ far b, (openTo c st g s).chan c = { ((s.chan c).offInrush far).toLow st g with probe := b } := by
  obtain ⟨hend, far, hfar⟩ := endInrush_ends hr l.queue false
  have hlow := hend.trans (modCh_within c (fun x => x.toLow st g) _)
  have hopen : openTo c st g s = setProbe c (modCh c (fun x => x.toLow st g) (endInrush c false s)) :=
    congrArg (setProbe c) (if_pos (hlow.lone l).walk)
  rw [hopen]
  refine ⟨hlow.trans (setProbe_within c _), far, ?_⟩
  obtain ⟨b, hb⟩ := setProbe_chan c (modCh c (fun x => x.toLow st g) (endInrush c false s))
  exact ⟨b, by rw [hb, chan_modCh, hfar]⟩

/-! ### The close of an inrush (R174, R182, R238) -/

/-- What a grant writes before its operation starts leaves the channels and the takeover's request. -/
theorem grantOp_starts (o : Op) (mc : Nat) (s : State) : ∃ p u, grantOp o mc false s = startOp p mc u ∧
    p.code = o.code ∧ u.ch = s.ch ∧ u.svc.op = s.svc.op := by
  unfold grantOp
  extract_lets p r u d e f
  have hd : Quiet true s d := by simp [d, u]
  have he : Quiet true s e ∧ e.ch = s.ch := by
    have hch : d.ch = s.ch := (decide_frame p 0 1 u).part .ch rfl
    unfold e
    split
    · next id _ => exact ⟨by simp [hd], by rw [interim_ch]; exact hch⟩
    · exact ⟨hd, hch⟩
  have hf : f = e := if_neg (by decide)
  exact ⟨p, f, rfl, rfl, by rw [hf, he.2], by rw [hf, he.1.op]⟩

/-- A request that waits leaves the takeover's request. -/
theorem queueOp_op (o : Op) (b : Nat) (s : State) : (queueOp o b s).svc.op = s.svc.op := by
  refine Quiet.op ?_
  unfold queueOp
  extract_lets p r u d
  have hd : Quiet true s d := by simp [d, u]
  split
  · simp [hd]
  · exact hd

/-- A walk-in changes only its channel's place in the sharing set as it starts or falls (R238). -/
theorem startOp_walkin_keeps {mc : Nat} (hcode : o.code = Opn.WALKIN) :
    (startOp o mc s).ch = s.ch ∧ (startOp o mc s).svc.op = s.svc.op := by
  unfold startOp
  rw [hcode]
  show (match o.ch with | some c => _ | none => s).ch = _ ∧ (match o.ch with | some c => _ | none => s).svc.op = _
  cases o.ch with
  | none => exact ⟨rfl, rfl⟩
  | some d => exact ⟨rfl, rfl⟩

theorem dropOp_walkin_keeps (hcode : o.code = Opn.WALKIN) : (dropOp o s).ch = s.ch ∧ (dropOp o s).svc.op = s.svc.op := by
  unfold dropOp
  rw [hcode]
  show (match o.ch with | some c => _ | none => s).ch = _ ∧ (match o.ch with | some c => _ | none => s).svc.op = _
  cases o.ch with
  | none => exact ⟨rfl, rfl⟩
  | some d => exact ⟨rfl, rfl⟩

theorem refuseOp_walkin_keeps (hcode : o.code = Opn.WALKIN) (htag : o.tag = none) (b : Nat) (s : State) :
    (refuseOp o b s).ch = s.ch ∧ (refuseOp o b s).svc.op = s.svc.op := by
  obtain ⟨u, hdrop, hch, -⟩ := refuseOp_ch o b s
  refine ⟨hdrop.trans ((dropOp_walkin_keeps hcode).1.trans hch), ?_⟩
  unfold refuseOp
  extract_lets r d v f
  have hd : Quiet true s d := by simp [d]
  have hf : Quiet true v f := by simp [f]
  have hlast : opComplete o St.REFUSED b [] f = f := by
    rw [opComplete, if_neg (by rw [hcode]; decide), htag]
  rw [hlast, hf.op, (dropOp_walkin_keeps hcode).2, hd.op]

theorem fileOp_walkin_keeps (hcode : o.code = Opn.WALKIN) (htag : o.tag = none) (s : State) :
    (fileOp o s).ch = s.ch ∧ (fileOp o s).svc.op = s.svc.op := by
  rcases fileOp_judged o s with ⟨mc, h⟩ | ⟨b, h⟩ | ⟨b, h⟩
  · obtain ⟨p, u, hu, hp, hch, hop⟩ := grantOp_starts (o.filed s) mc (numbered s)
    have hstart := startOp_walkin_keeps (mc := mc) (s := u) (hp.trans hcode)
    rw [h, hu]
    exact ⟨hstart.1.trans hch, hstart.2.trans hop⟩
  · rw [h]
    exact ⟨(queueOp_decides _ b (numbered s)).2.2, queueOp_op _ b (numbered s)⟩
  · rw [h]
    exact refuseOp_walkin_keeps (o := o.filed s) hcode htag b (numbered s)

/-- The request of a walk-in starts only on the bus what it asks for, whatever the arbiter decides (R238). -/
theorem fileWalkin_keeps (c : Ch) (s : State) : (fileWalkin c s).ch = s.ch ∧ (fileWalkin c s).svc.op = s.svc.op := by
  unfold fileWalkin
  split
  · exact fileOp_walkin_keeps rfl rfl s
  · exact ⟨rfl, rfl⟩

/-- In a mode of mains no closing changes the mode, and the walk-in that a rectifier asks for changes no channel (R225, R238). -/
theorem afterClose_keeps (h : roleOf s c = .source → s.sys.mode ≠ .bridge ∧ s.sys.mode ≠ .cutoff) :
    (afterClose c s).ch = s.ch ∧ (afterClose c s).svc.op = s.svc.op ∧ (afterClose c s).sys = s.sys := by
  unfold afterClose
  split
  case isFalse => exact ⟨rfl, rfl, rfl⟩
  next hrole =>
  obtain ⟨hbridge, hcutoff⟩ := h hrole
  extract_lets b u b' v
  have hu : u.ch = s.ch ∧ u.svc = s.svc ∧ u.sys = s.sys := by
    unfold u
    split <;> exact ⟨rfl, rfl, rfl⟩
  obtain ⟨huch, husvc, husys⟩ := hu
  have hmode : ¬(u.sys.mode = .bridge ∨ u.sys.mode = .cutoff) := by
    rw [husys]
    simp [hbridge, hcutoff]
  have hv : v = u := if_neg hmode
  have hidle : tryRecharge v = u := by
    rw [hv]
    exact if_neg fun h => hmode h.1
  obtain ⟨hch, hop⟩ := fileWalkin_keeps c u
  rw [hidle, hch, hop, huch, husvc]
  exact ⟨rfl, rfl, ((fileWalkin_same rfl).2 (same_refl 372250432 u) |>.part .sys rfl).trans husys⟩

/-- An inrush whose sides are equal leaves its channel alone in its closed state (R174 phase 3). -/
theorem closeInrush_closes (l : Lone c s) (hr : (s.chan c).inr = some r)
    (hm : roleOf s c = .source → s.sys.mode ≠ .bridge ∧ s.sys.mode ≠ .cutoff) :
    ∃ far u b, (closeInrush c s).chan c =
        closedGates u c (closedState s c) { (s.chan c).offInrush far with st := closedState s c, testClosed := b } ∧
      (∀ d, d ≠ c → (closeInrush c s).chan d = s.chan d) ∧ (closeInrush c s).sys.blackStart = false ∧
      (closeInrush c s).svc.op = none := by
  unfold closeInrush
  extract_lets st v w
  obtain ⟨hend, far, hfar⟩ := endInrush_ends hr l.queue true
  have hw : Within c s w := hend.trans (modCh_within c _ v)
  have hmark : markBlack c w = w := if_neg (by simp [(hw.lone l).black])
  obtain ⟨hch, hop, hsys⟩ := afterClose_keeps (c := c) (s := w) (by rw [hw.roleOf, hw.sys]; exact hm)
  rw [hmark, hop, hsys]
  refine ⟨far, v, v.sys.mode == Mode.commission, ?_, fun d hd => ?_, (hw.lone l).black, (hw.lone l).takeover⟩
  · rw [chan_congr hch, chan_modCh, hfar]
  · rw [chan_congr hch, hw.others d hd]

/-- INRUSH_COMPLETE (R174, R177, R182). -/
theorem inrushComplete_closes (l : Lone c s) (hr : (s.chan c).inr = some r) (hrun : runs s c = true) (hphase : r.phase = 2)
    (hfet : r.fet = none) (hst : (s.chan c).st = .inrush)
    (hm : roleOf s c = .source → s.sys.mode ≠ .bridge ∧ s.sys.mode ≠ .cutoff) :
    ∃ t, exec (.inrushComplete c) s = .next t ∧ (t.chan c).st = closedState s c ∧ (t.chan c).inr = none ∧
      (t.chan c).grant = none ∧ (t.chan c).equal = true := by
  let v := modCh c (fun x => { x with equal := true }) s
  have hv : Within c s v := modCh_within c _ s
  have hvc : v.chan c = { s.chan c with equal := true } := chan_modCh c _ s
  obtain ⟨far, u, b, hchan, hne, hblack, hop⟩ :=
    closeInrush_closes (s := v) (r := r) (hv.lone l) (by rw [hvc]; exact hr) hm
  have hexec : exec (.inrushComplete c) s = .next (afterEvents s (closeInrush c v)) := by
    show execInrushComplete c s = _
    unfold execInrushComplete
    rw [hr]
    exact if_pos (by simp [hrun, hphase, hfet, hst])
  have hst : ((closeInrush c v).chan c).st = closedState s c := by rw [hchan]; rfl
  have hclosed : ((closeInrush c v).chan c).st ≠ .opened := by
    rw [hst]
    rcases closedState_cases s c with e | e | e <;> simp [e]
  have hch := afterEvents_ch (s := s) hblack hop (fun d hd => (hne d hd).trans (hv.others d hd)) (autoReady_not (.inr hclosed))
  refine ⟨_, hexec, ?_⟩
  rw [chan_congr hch]
  refine ⟨hst, ?_⟩
  rw [hchan, hvc]
  exact ⟨rfl, rfl, rfl⟩

/-! ### The trip of an inrush (R176, R192, R200 to R204) -/

/-- With no test running no opening ends one. -/
theorem endTestOf_none (h : s.bat.test = none) : endTestOf c s = s := by rw [endTestOf, h]

/-- One cause that acts trips a channel out of its inrush. -/
theorem tripIn_inrush (l : Lone c s) (hr : (s.chan c).inr = some r) (hk : k ≤ 15) (ha : actionOf s c k = some a) (h0 : a ≠ 0) :
    Within c s (tripIn (rulesNow s c) [k] c [k] s) ∧ TrippedBy c k a s (tripIn (rulesNow s c) [k] c [k] s) ∧
      ((tripIn (rulesNow s c) [k] c [k] s).chan c).inr = none ∧ ((tripIn (rulesNow s c) [k] c [k] s).chan c).grant = none := by
  unfold tripIn
  extract_lets acts top n latch act len yo st u v w x
  have hacts : acts = [(k, a)] := by
    have h : actionIn (roleOf s c) (rulesNow s c) k = some a := ha
    simp [acts, actionsIn, h]
  have htop : top = a := by simp [top, hacts, strongest]
  rw [if_neg (by simp [hacts]), if_neg (by rw [htop]; exact h0)]
  obtain ⟨hopen, far, b, hchan⟩ := openTo_inrush l hr st .lowFull
  have hx : Within c u x ∧ x.ch = v.ch := by
    have hw : Within c u w ∧ w.ch = v.ch :=
      ⟨(modCh_within c _ u).trans (logEvent_within c _ _ _ _ v), logEvent_ch⟩
    unfold x
    split
    · exact ⟨hw.1.trans (latchRecords_within c w), (latchRecords_ch c w).trans hw.2⟩
    · exact hw
  have hs : Within c s x := hopen.trans hx.1
  have hlatch : latch = true ↔ a = 3 ∨ a = 1 ∧ chn s c Chp.RETRY_MAX ≤ (s.chan c).attempts := by simp [latch, htop, n]
  rw [endTestOf_none (hs.lone l).test, TrippedBy, chan_congr hx.2, chan_modCh, hchan]
  refine ⟨hs, ⟨?_, rfl, rfl, ?_, ?_, ?_, rfl, ?_, hs.others⟩, rfl, rfl⟩
  · show st = _
    simp only [st, hlatch]
  · show causeBits (acts.map Prod.fst) = _
    simp [hacts, causeBits]
  · show firstWith acts top = k
    simp [hacts, htop, firstWith, hk]
  · show act = _
    simp only [act, hlatch, htop]
  · show yo = _
    simp only [yo, hlatch, htop, len, n]

/-- What a trip leaves is told of the channels alone. -/
theorem TrippedBy.congr (h : TrippedBy c k a s t) (hch : u.ch = t.ch) : TrippedBy c k a s u := by
  unfold TrippedBy
  simp only [chan_congr hch]
  exact h

/-- A trip may be told from an earlier state that differs within the channel. -/
theorem TrippedBy.of_within (hw : Within c s u) (hn : (u.chan c).attempts = (s.chan c).attempts)
    (hc : (u.chan c).tripCount = (s.chan c).tripCount) (h : TrippedBy c k a u t) : TrippedBy c k a s t := by
  obtain ⟨hst, hA, hB, hcauses, hfirst, hact, hcount, hyo, hne⟩ := h
  simp only [hn, hc, chn_congr hw.pf, retryDelay] at hst hact hcount hyo
  exact ⟨hst, hA, hB, hcauses, hfirst, hact, hcount, hyo, fun d hd => (hne d hd).trans (hw.others d hd)⟩

/-- A trip leaves the channel in no state of OPEN or WAIT. -/
theorem TrippedBy.st_ne (h : TrippedBy c k a s t) : (t.chan c).st ≠ .opened ∧ (t.chan c).st ≠ .wait := by
  rw [h.1]
  split <;> simp

/-- A cause that acts reaches a channel in its inrush: it trips at once. -/
theorem meetCauses_inrush (hst : (s.chan c).st = .inrush) (hre : reloads s c = false) (ho : s.tin.override = false)
    (h : ((tripIn (rulesNow s c) [k] c [k] s).chan c).st ≠ .wait) :
    meetCauses c [k] s = tripIn (rulesNow s c) [k] c [k] s := by
  have hconducts : conducts s c = true := by simp [conducts, hst, ChSt.conducts]
  have hmeet : meetIn (rulesNow s c) [k] c [k] s = tripIn (rulesNow s c) [k] c [k] s := by
    rw [meetIn, if_neg (by simp), if_neg (by simp [hre]), if_pos hconducts, if_neg (by simp [ho])]
  have hretry : retryCauses c [k] (tripIn (rulesNow s c) [k] c [k] s) = tripIn (rulesNow s c) [k] c [k] s := if_pos (.inl h)
  rw [meetCauses, hmeet]
  rw [hretry, ite_self]

/-- The Marionette of a channel runs. -/
theorem runs_iff : runs s c = true ↔ s.cnv.on = true ∧ reloads s c = false ∧ s.tin.override = false := by
  simp [runs, reloads, and_assoc]

/-- Time passes, and the channel's inrush stands at a later tick. -/
theorem inrushTick_within (n ticks : Nat) (r : Inr) (c : Ch) (s : State) :
    let u := modCh c (fun x => { x with inr := some { r with ticks := ticks } }) (elapse n s)
    Within c s u ∧ u.chan c = { s.chan c with inr := some { r with ticks := ticks } } := by
  refine ⟨(elapse_within c n s).trans (modCh_within c _ _), ?_⟩
  rw [chan_modCh, chan_congr elapse_ch]

/-- INRUSH_TIMEOUT (R176). -/
theorem inrushTimeout_trips (l : Lone c s) (hr : (s.chan c).inr = some r) (hrun : runs s c = true) (hfet : r.fet = none)
    (hst : (s.chan c).st = .inrush) (h0 : a ≠ 0) (ha : actionOf s c 7 = some a) :
    ∃ t, exec (.inrushTimeout c) s = .next t ∧ TrippedBy c 7 a s t ∧ (t.chan c).inr = none ∧ (t.chan c).grant = none := by
  obtain ⟨hon, hre, ho⟩ := runs_iff.1 hrun
  let due := chn s c Chp.INRUSH_MAX_MS * 1000
  let u := modCh c (fun x => { x with inr := some { r with ticks := max r.ticks due } }) (elapse ((due - r.ticks) * clkUs) s)
  obtain ⟨hw, hchan⟩ : Within c s u ∧ u.chan c = _ := inrushTick_within _ _ _ _ _
  have hactu : actionOf u c 7 = some a := by rw [← ha, actionOf, hw.roleOf, chn_congr hw.pf, actionOf]
  obtain ⟨hin, htrip, hinr, hgrant⟩ := tripIn_inrush (hw.lone l) (by rw [hchan]) (by decide) hactu h0
  have hmeet := meetCauses_inrush (k := 7) (by rw [hchan]; exact hst) (hw.reloads.trans hre) (by rw [hw.tin]; exact ho)
    htrip.st_ne.2
  have hexec : exec (.inrushTimeout c) s = .next (afterEvents s (tripIn (rulesNow u c) [7] c [7] u)) := by
    rw [← hmeet]
    show execInrushTimeout c s = _
    unfold execInrushTimeout
    rw [hr]
    exact if_pos (by simp [hon, hfet, hst, ho])
  have hch := (hw.trans hin).afterEvents_ch l (autoReady_not (.inr htrip.st_ne.1))
  have htold := htrip.of_within hw (by rw [hchan]) (by rw [hchan])
  refine ⟨_, hexec, htold.congr hch, ?_⟩
  rw [chan_congr hch]
  exact ⟨hinr, hgrant⟩

/-- FET_TEST_END (R407). -/
theorem fetTestEnd_opens (l : Lone c s) (hr : (s.chan c).inr = some r) (hrun : runs s c = true) (hfet : r.fet ≠ none)
    (hauto : chn s c Chp.INRUSH_AUTO ≠ 1) :
    ∃ t, exec (.fetTestEnd c) s = .next t ∧ (t.chan c).st = .opened ∧ (t.chan c).inr = none ∧ (t.chan c).grant = none ∧
      (t.chan c).low = true := by
  obtain ⟨f, hf⟩ := Option.ne_none_iff_exists'.1 hfet
  let u := modCh c (fun x => { x with inr := some { r with ticks := max r.ticks f.tp } }) (elapse ((f.tp - r.ticks) * clkUs) s)
  obtain ⟨hw, hchan⟩ : Within c s u ∧ u.chan c = _ := inrushTick_within _ _ _ _ _
  obtain ⟨hend, far, hfar⟩ := endInrush_ends (s := u) (by rw [hchan]) (hw.lone l).queue true
  let v := modCh c (fun x => x.toLow .opened .lowFull) (endInrush c true u)
  have hv : Within c s (setProbe c v) := ((hw.trans hend).trans (modCh_within c _ _)).trans (setProbe_within c v)
  have hend : endFet c u = setProbe c v := rfl
  have hexec : exec (.fetTestEnd c) s = .next (afterEvents s (setProbe c v)) := by
    rw [← hend]
    show execFetTestEnd c s = _
    unfold execFetTestEnd
    rw [hr]
    dsimp only
    split
    · next g hg =>
      obtain rfl : f = g := Option.some.inj (hf.symm.trans hg)
      exact if_pos hrun
    · next hg => exact absurd (hf.symm.trans hg) (by simp)
  have hch := hv.afterEvents_ch l (autoReady_not (.inl (by rw [chn_congr hv.pf]; exact hauto)))
  obtain ⟨b, hb⟩ := setProbe_chan c v
  refine ⟨_, hexec, ?_⟩
  rw [chan_congr hch, hb, chan_modCh, hfar]
  exact ⟨rfl, rfl, rfl, rfl⟩

/-! ### The servo (R174, R178) -/

/-- The inrush in its phase 2, as the follower's report leaves it. -/
def Inr.followedUp (r : Inr) (x : Chan) : Inr := { r with phase := 2, followed := true, dv0 := sideDiff x, sum16 := 0 }

/-- Phase 2 begins with the servo's law on one gate and the other one full. -/
theorem beginServo_chan (hr : (s.chan c).inr = some r) (hphase : r.phase = 1) :
    let r' := r.followedUp (s.chan c)
    let x := { s.chan c with inr := some r' }
    (beginServo c s).chan c = r'.drive (.servo (servoU (servoTarget s c x r') (s.chan c).i16)) .full x ∧
      ∀ d, d ≠ c → (beginServo c s).chan d = s.chan d := by
  intro r' x
  let u := modCh c (fun x => { x with inr := some { r with phase := 2, followed := true, dv0 := sideDiff x, sum16 := 0 } }) s
  have hu : u.chan c = x := chan_modCh c _ s
  have hbegin : beginServo c s = driveServo c u := by
    unfold beginServo
    rw [hr]
    exact if_pos hphase
  rw [hbegin]
  refine ⟨?_, fun d hd => (chan_modCh_ne c d _ u hd).trans (chan_modCh_ne c d _ s hd)⟩
  rw [driveServo, chan_modCh, hu]
  rfl

/-- INRUSH_FOLLOW_DONE (R174). -/
theorem inrushFollowDone_servos (hr : (s.chan c).inr = some r) (hrun : runs s c = true) (hphase : r.phase = 1) {r' : Inr}
    {p : Int} (hr' : r' = r.followedUp (s.chan c))
    (hp : p = servoU (servoTarget s c { s.chan c with inr := some r' } r') (s.chan c).i16) :
    ∃ t, exec (.inrushFollowDone c) s = .next t ∧ SameBut [.ch, .gates] s t ∧ (t.chan c).inr = some r' ∧
      (r.outward = true → (t.chan c).gateA = .servo p ∧ (t.chan c).gateB = .full) ∧
      (r.outward = false → (t.chan c).gateA = .full ∧ (t.chan c).gateB = .servo p) ∧ ∀ d, d ≠ c → t.chan d = s.chan d := by
  have hexec : exec (.inrushFollowDone c) s = .next (beginServo c s) := if_pos hrun
  obtain ⟨hchan, hne⟩ := beginServo_chan hr hphase
  have hout : r'.outward = r.outward := by rw [hr']; rfl
  rw [← hr', ← hp] at hchan
  refine ⟨_, hexec, exec_sameBut hexec, ?_⟩
  rw [hchan]
  refine ⟨?_, fun h => ?_, fun h => ?_, hne⟩
  · unfold Inr.drive
    split <;> rfl
  · rw [Inr.drive, if_pos (hout.trans h)]
    exact ⟨rfl, rfl⟩
  · rw [Inr.drive, if_neg (by rw [hout, h]; decide)]
    exact ⟨rfl, rfl⟩

/-! ### Presence (R148, R149) -/

/-- Between two states a channel at most leaves its WAIT. -/
structure Unwaits (c : Ch) (s t : State) : Prop where
  within : Within c s t
  present : (t.chan c).present = (s.chan c).present
  restart : (t.chan c).presRestart = (s.chan c).presRestart
  st : (t.chan c).st = (s.chan c).st ∨ (t.chan c).st = .opened

theorem Unwaits.trans (h : Unwaits c s t) (k : Unwaits c t u) : Unwaits c s u where
  within := h.within.trans k.within
  present := k.present.trans h.present
  restart := k.restart.trans h.restart
  st := k.st.elim (fun e => e ▸ h.st) .inr

/-- What keeps the channels ends no wait. -/
theorem Within.unwaits (h : Within c s t) (hch : t.ch = s.ch) : Unwaits c s t := by
  refine ⟨h, ?_, ?_, .inl ?_⟩ <;> rw [chan_congr hch]

/-- A change of a channel's record that keeps presence and state. -/
theorem modCh_unwaits {f : Chan → Chan} (hp : ∀ x, (f x).present = x.present) (hr : ∀ x, (f x).presRestart = x.presRestart)
    (hst : ∀ x, (f x).st = x.st ∨ (f x).st = .opened) : Unwaits c s (modCh c f s) := by
  refine ⟨modCh_within c f s, ?_, ?_, ?_⟩
  all_goals rw [chan_modCh]
  exacts [hp _, hr _, hst _]

theorem grants_unwaits (c : Ch) {x : Adm} (h : x.queue = s.adm.queue) : Unwaits c s { s with adm := x } :=
  (grants_within c h).unwaits rfl

theorem decide_unwaits (c : Ch) (o : Op) (b d : Nat) (s : State) : Unwaits c s (decide_ o b d s) := by
  have hframe := decide_frame o b d s
  refine Within.unwaits ⟨fun e _ => chan_congr (hframe.part .ch rfl) e, hframe.mono rfl, ?_, ?_⟩ (hframe.part .ch rfl)
  · rw [decide_adm]
  · rw [show (decide_ o b d s).svc = s.svc from hframe.part .svc rfl]

theorem ntfAdmit_unwaits (c : Ch) (o : Op) (b : Nat) (s : State) : Unwaits c s (ntfAdmit o b s) :=
  have h : Same 67109696 s (ntfAdmit o b s) := (ntfAdmit_same rfl).2 (same_refl 67109696 s)
  (within_of_same (h.mono rfl) (Quiet.op (by simp))).unwaits (h.part .ch rfl)

theorem opComplete_unwaits (c : Ch) (hcode : o.code ≠ Opn.HANDOVER) (st b : Nat) (more : List Word) (s : State) :
    Unwaits c s (opComplete o st b more s) := by
  unfold opComplete
  rw [if_neg hcode]
  split
  · exact (complete_within c _ _ _ s).unwaits complete_ch
  · exact (Within.refl c s).unwaits rfl

theorem unwaitNow_unwaits (c : Ch) (s : State) : Unwaits c s (unwaitNow c s) := by
  unfold unwaitNow
  split
  · exact modCh_unwaits (fun _ => rfl) (fun _ => rfl) fun _ => .inr rfl
  · exact (Within.refl c s).unwaits rfl

theorem dropOp_inrush (hcode : o.code = Opn.INRUSH) (hch : o.ch = some c) (s : State) :
    ∃ g, dropOp o s = { unwait c s with adm := { (unwait c s).adm with grants := g } } := by
  unfold dropOp
  rw [hcode, hch]
  exact ⟨_, rfl⟩

/-- The end of a channel's own request at most ends its wait. -/
theorem dropOp_unwaits (hcode : o.code = Opn.INRUSH ∨ o.code = Opn.FET_TEST) (hch : o.ch = some c) (hre : reloads s c = false) :
    Unwaits c s (dropOp o s) := by
  rcases hcode with e | e
  · obtain ⟨g, hg⟩ := dropOp_inrush e hch s
    have hun : unwait c s = unwaitNow c s := if_neg (by simp [hre])
    rw [hg, hun]
    exact (unwaitNow_unwaits c s).trans (grants_unwaits c rfl)
  · have h : dropOp o s = s := by
      unfold dropOp
      rw [e]
      rfl
    rw [h]
    exact (Within.refl c s).unwaits rfl

theorem withdrawOp_unwaits (hcode : o.code = Opn.INRUSH ∨ o.code = Opn.FET_TEST) (hch : o.ch = some c)
    (hq : s.adm.queue = []) (hre : reloads s c = false) (dec : Nat) : Unwaits c s (withdrawOp o dec s) := by
  unfold withdrawOp
  extract_lets a u v w x
  have hu : Unwaits c s u := grants_unwaits c (by simp [hq])
  have hw : Unwaits c s w := by
    have hv : Unwaits c s v := hu.trans (decide_unwaits c o _ dec u)
    unfold w
    split
    · exact hv.trans (ntfAdmit_unwaits c o _ v)
    · exact hv
  have hx : Unwaits c s x := by
    unfold x
    rw [hch]
    exact hw.trans (modCh_unwaits (fun _ => rfl) (fun _ => rfl) fun _ => .inl rfl)
  have hnot : o.code ≠ Opn.HANDOVER := by
    rcases hcode with e | e <;> rw [e] <;> decide
  exact (hx.trans (dropOp_unwaits hcode hch (hx.within.reloads.trans hre))).trans (opComplete_unwaits c hnot _ _ _ _)

/-- What a channel holds and has not begun is withdrawn. -/
theorem withdrawCh_unwaits (hq : s.adm.queue = []) (hinr : (s.chan c).inr = none) (hre : reloads s c = false) (dec : Nat) :
    Unwaits c s (withdrawCh c dec s) := by
  have hqueued : chQueued s c = none := by rw [chQueued, hq]; rfl
  unfold withdrawCh
  rw [hqueued]
  dsimp only
  rw [hinr]
  cases h : chGrant s c with
  | none => exact (Within.refl c s).unwaits rfl
  | some o =>
    have hsome := List.find?_some h
    simp only [Bool.and_eq_true, Bool.or_eq_true, beq_iff_eq] at hsome
    have hun := withdrawOp_unwaits hsome.2 hsome.1 hq hre dec
    dsimp only
    rw [rejudge_nil (hun.within.queue.trans hq)]
    exact hun

/-- A WAIT that is cancelled ends with the channel OPEN (Table 5.7). -/
theorem cancelWait_opens (hq : s.adm.queue = []) (hinr : (s.chan c).inr = none) (hre : reloads s c = false)
    (hst : (s.chan c).st = .wait) (dec : Nat) :
    Unwaits c s (cancelWait c dec s) ∧ ((cancelWait c dec s).chan c).st = .opened := by
  let u := withdrawCh c dec s
  have hu : Unwaits c s u := withdrawCh_unwaits hq hinr hre dec
  have hun : unwait c u = unwaitNow c u := if_neg (by simp [hu.within.reloads, hre])
  have hprobe : Unwaits c (unwaitNow c u) (setProbe c (unwaitNow c u)) :=
    modCh_unwaits (fun _ => rfl) (fun _ => rfl) fun _ => .inl rfl
  have hopen : ((unwaitNow c u).chan c).st = .opened := by
    unfold unwaitNow
    split
    · rw [chan_modCh]
    · next h => exact (hu.st.resolve_left fun e => h (e.trans hst))
  have hcancel : cancelWait c dec s = setProbe c (unwaitNow c u) := by rw [cancelWait, hun]
  rw [hcancel]
  refine ⟨(hu.trans (unwaitNow_unwaits c u)).trans hprobe, ?_⟩
  exact hprobe.st.elim (fun e => e.trans hopen) id

/-- The filter's new result in the channel's record. -/
def Chan.presTaken (vs : Int) (x : Chan) : Chan :=
  { x with present := !x.present, presRun := 0, presRestart := false, vs := vs }

section
variable (hon : s.cnv.on = true) (hlow : (s.chan c).low = true)
  (hmode : chn s c Chp.PRES_MODE = 1 ∨ chn s c Chp.PRES_MODE = 3 ∧ (s.chan c).probe = true) (l : Alone c s) {vsMv : Int}
include hon hlow hmode l

/-- PRESENCE_FILTER acts on a level other than the present result, and on nothing else. -/
theorem presenceFilter_exec : exec (.presenceFilter c vsMv) s =
    if presLevel s c (16 * vsMv) = some (!(s.chan c).present) then
      let run := if (s.chan c).presRestart then 0 else (s.chan c).presRun
      let u := modCh c (Chan.presTaken (16 * vsMv)) (elapse ((presTicks s c - run) * clkUs) s)
      .next (afterEvents s (if ((s.chan c).present && (s.chan c).st == .wait) = true then cancelWait c 5 u else u))
    else .next s := by
  have hre : reloads s c = false := l.reload
  have hprobing : (chn s c Chp.PRES_MODE == 1 || (chn s c Chp.PRES_MODE == 3 && (s.chan c).probe)) = true := by
    rcases hmode with e | ⟨e, hp⟩
    · simp [e]
    · simp [e, hp]
  show execPresenceFilter c vsMv s = _
  unfold execPresenceFilter
  extract_lets x m probing run u
  split
  · next h =>
    rw [if_pos (by simpa using ((Bool.and_eq_true _ _).mp h).2)]
    rfl
  · next h =>
    have hlevel : ¬ presLevel s c (16 * vsMv) = some (!(s.chan c).present) := fun e =>
      h (by simp [hon, hre, x, hlow, probing, m, hprobing, e])
    rw [if_neg hlevel]

/-- A new result is taken, and its loss ends a wait (R148, R149, Table 5.7). -/
theorem presenceFilter_takes (hauto : chn s c Chp.INRUSH_AUTO ≠ 1)
    (hlevel : presLevel s c (16 * vsMv) = some (!(s.chan c).present)) :
    ∃ t, exec (.presenceFilter c vsMv) s = .next t ∧ (t.chan c).present = !(s.chan c).present ∧
      (t.chan c).presRestart = false ∧
      (t.chan c).st = if (s.chan c).st = .wait ∧ (s.chan c).present = true then .opened else (s.chan c).st := by
  let n := (presTicks s c - if (s.chan c).presRestart then 0 else (s.chan c).presRun) * clkUs
  let u := modCh c (Chan.presTaken (16 * vsMv)) (elapse n s)
  let v := if ((s.chan c).present && (s.chan c).st == .wait) = true then cancelWait c 5 u else u
  have hexec : exec (.presenceFilter c vsMv) s = .next (afterEvents s v) := by
    rw [presenceFilter_exec hon hlow hmode l, if_pos hlevel]
  have hu : Within c s u := (elapse_within c n s).trans (modCh_within c _ _)
  have huc : u.chan c = (s.chan c).presTaken (16 * vsMv) := by rw [chan_modCh, chan_congr elapse_ch]
  have hv : Unwaits c u v ∧ (v.chan c).st = if (s.chan c).st = .wait ∧ (s.chan c).present = true then .opened else (s.chan c).st := by
    unfold v
    split
    · next h =>
      simp only [Bool.and_eq_true, beq_iff_eq] at h
      obtain ⟨hun, hst⟩ := cancelWait_opens (c := c) (s := u) (hu.queue.trans l.queue) (by rw [huc]; exact l.inr)
        (hu.reloads.trans l.reload) (by rw [huc]; exact h.2) 5
      exact ⟨hun, hst.trans (if_pos h.symm).symm⟩
    · next h =>
      simp only [Bool.and_eq_true, beq_iff_eq] at h
      refine ⟨(Within.refl c u).unwaits rfl, ?_⟩
      rw [if_neg fun e => h e.symm, huc]
      rfl
  obtain ⟨hun, hst⟩ := hv
  have hw := hu.trans hun.within
  have hch := hw.afterEvents_ch l.lone (autoReady_not (.inl (by rw [chn_congr hw.pf]; exact hauto)))
  refine ⟨_, hexec, ?_⟩
  rw [chan_congr hch, hun.present, hun.restart, huc]
  exact ⟨rfl, rfl, hst⟩

end

/-! ### The automatic request (R171) -/

theorem reportCh_self (s : State) : reportCh s s = s := by
  have hnone : (allCh.any fun c => (s.chan c).st == .latched && !((s.chan c).st == .latched)) = false := by simp
  unfold reportCh
  rw [hnone, if_neg Bool.false_ne_true, if_pos ⟨rfl, rfl⟩]

/-- AUTO_INRUSH_FILE (R171, R172). -/
theorem autoInrushFile_idle (h : autoReady s c = false) : exec (.autoInrushFile c) s = .next s := by
  show execAutoInrushFile c s = _
  rw [execAutoInrushFile, autoFile, if_neg (by simp [h]), reportCh_self]

theorem autoInrushFile_files (h : autoReady s c = true) (hre : reloads s c = false) :
    ∃ t, exec (.autoInrushFile c) s = .next t ∧ SameBut switching s t ∧ Filed c s t := by
  let u := fileInrush c .auto none s
  have hexec : exec (.autoInrushFile c) s = .next (reportCh s u) := by
    show execAutoInrushFile c s = _
    rw [execAutoInrushFile, autoFile, if_pos h]
  have hdec : u.adm.lastOp = Opn.INRUSH ∧ InrushDecided c s u := fileInrush_decided .auto none hre
  refine ⟨_, hexec, exec_sameBut hexec, ?_⟩
  unfold Filed
  rw [reportCh_adm, chan_congr reportCh_ch]
  exact hdec

/-! ### The day of OPTIME (R188) -/

/-- Between two states a channel's day stands as it was counted, whatever has been told of it. -/
structure Counted (c : Ch) (s t : State) : Prop where
  others : ∀ d, d ≠ c → t.chan d = s.chan d
  left : (t.chan c).lifeLeft = (s.chan c).lifeLeft
  days : (t.chan c).days = (s.chan c).days
  st : (t.chan c).st = (s.chan c).st

theorem Counted.trans (h : Counted c s t) (k : Counted c t u) : Counted c s u :=
  ⟨fun d hd => (k.others d hd).trans (h.others d hd), k.left.trans h.left, k.days.trans h.days, k.st.trans h.st⟩

/-- The day of one channel (R188). -/
theorem lifeDay_counts (c : Ch) (s : State) :
    Counted c (modCh c (fun x => { x with lifeLeft := lifeLeftOf (s.chan c), days := (x.damage :: x.days).take 30 }) s)
      (lifeDay c s) := by
  unfold lifeDay
  extract_lets left u told tell
  have htell : ∀ bit days sev hit v, Counted c v (tell bit days sev hit v) := by
    intro bit days sev hit v
    unfold tell
    split
    · have hlog {w : State} : Counted c w (logEvent Evt.LIFE sev c.val [wearUsed (v.chan c), days] w) := by
        constructor <;> intros <;> rw [chan_congr logEvent_ch]
      refine Counted.trans ⟨fun d hd => chan_modCh_ne c d _ v hd, ?_, ?_, ?_⟩ hlog <;> rw [chan_modCh]
    · exact ⟨fun _ _ => rfl, rfl, rfl, rfl⟩
  exact ((htell _ _ _ _ _).trans (htell _ _ _ _ _)).trans (htell _ _ _ _ _)

theorem lifeDay_chan_ne (s : State) {d : Ch} (h : d ≠ c) : (lifeDay c s).chan d = s.chan d :=
  ((lifeDay_counts c s).others d h).trans (chan_modCh_ne c d _ s h)

theorem lifeDay_chan (c : Ch) (s : State) : ((lifeDay c s).chan c).lifeLeft = lifeLeftOf (s.chan c) ∧
    ((lifeDay c s).chan c).days = ((s.chan c).damage :: (s.chan c).days).take 30 ∧
    ((lifeDay c s).chan c).st = (s.chan c).st := by
  have h := lifeDay_counts c s
  rw [h.left, h.days, h.st, chan_modCh]
  exact ⟨rfl, rfl, rfl⟩

/-- What acts on each channel alone, and keeps what it looks at besides, acts once on each of them. -/
theorem forEach_chan {f : Ch → State → State} {p : State → Prop} (hf : ∀ e v d, d ≠ e → (f e v).chan d = v.chan d)
    (hp : ∀ e v, p v → p (f e v)) {l : List Ch} (hl : l.Nodup) (hs : p s) : (c ∉ l → (forEach l f s).chan c = s.chan c) ∧
      (c ∈ l → ∃ u, p u ∧ u.chan c = s.chan c ∧ (forEach l f s).chan c = (f c u).chan c) := by
  induction l generalizing s with
  | nil => exact ⟨fun _ => rfl, fun h => absurd h List.not_mem_nil⟩
  | cons e l ih =>
    obtain ⟨hnot, hl⟩ := List.nodup_cons.1 hl
    obtain ⟨hout, hin⟩ := ih hl (hp e s hs)
    by_cases hce : c = e
    · subst hce
      exact ⟨fun h => absurd List.mem_cons_self h, fun _ => ⟨s, hs, rfl, hout hnot⟩⟩
    · refine ⟨fun h => (hout fun hm => h (List.mem_cons_of_mem e hm)).trans (hf e s c hce), fun h => ?_⟩
      obtain ⟨u, hpu, hu, hc⟩ := hin ((List.mem_cons.1 h).resolve_left hce)
      exact ⟨u, hpu, hu.trans (hf e s c hce), hc⟩

/-- The same for every channel. -/
theorem forEach_allCh_chan {f : Ch → State → State} (p : State → Prop) (hf : ∀ e v d, d ≠ e → (f e v).chan d = v.chan d)
    (hp : ∀ e v, p v → p (f e v)) (hs : p s) (c : Ch) :
    ∃ u, p u ∧ u.chan c = s.chan c ∧ (forEach allCh f s).chan c = (f c u).chan c :=
  (forEach_chan hf hp (List.nodup_finRange 24) hs).2 (List.mem_finRange c)

/-- LIFE_LEFT_DAILY (R188). -/
theorem lifeLeftDaily_counts (hphase : s.sys.phase = .run) (hp : anyPup s = true) :
    ∃ t, exec .lifeLeftDaily s = .next t ∧ SameBut (.ch :: passing) s t ∧
      t.tmr.lifeDays = max (s.tmr.lifeDays + 1) (optime s / dayKt) ∧
      ∀ c, (t.chan c).lifeLeft = lifeLeftOf (s.chan c) ∧
        (t.chan c).days = ((s.chan c).damage :: (s.chan c).days).take 30 ∧ (t.chan c).st = (s.chan c).st := by
  let day := max (s.tmr.lifeDays + 1) (optime s / dayKt)
  let v := elapse ((day * dayKt - optime s) * clkKt) s
  let w : State := { v with tmr := { v.tmr with lifeDays := day } }
  have hexec : exec .lifeLeftDaily s = .next (forEach allCh lifeDay w) := by
    show execLifeLeftDaily s = _
    rw [execLifeLeftDaily, if_pos (by simp [hphase, hp])]
  have hpassing : ∀ p ∈ Instr.touches .lifeLeftDaily, p ∈ Part.ch :: passing := by decide
  have htmr : (forEach allCh lifeDay w).tmr = w.tmr :=
    ((forEach_same fun _ v => (lifeDay_same rfl).2 (same_refl 100665152 v)).2 (same_refl 100665152 w)).part .tmr rfl
  refine ⟨_, hexec, fun p hp => exec_sameBut hexec p fun hm => hp (hpassing p hm), congrArg Timers.lifeDays htmr, fun c => ?_⟩
  obtain ⟨u, -, hu, hc⟩ := forEach_allCh_chan (s := w) (f := lifeDay) (fun _ => True) (fun _ v _ h => lifeDay_chan_ne v h)
    (fun _ _ h => h) trivial c
  have hv : v.ch = s.ch := elapse_ch
  have hw : w.chan c = s.chan c := chan_congr (t := w) hv c
  rw [hc, ← hw, ← hu]
  exact lifeDay_chan c u

/-! ### The obligation -/

/-- Settles O24, event by event: with nothing else in hand each of them stays within its own channel. -/
theorem channelsInrushTestAndWear : Obligations.ChannelsInrushTestAndWear := by
  intro s
  refine ⟨fun c r hr hq hwalk htest hblack hop hrun => ?_, fun c vsMv hon hlow hmode hauto h => ?_, fun c => ?_,
    lifeLeftDaily_counts⟩
  · have l : Lone c s := ⟨hq, hwalk, htest, hblack, hop⟩
    exact ⟨fun hphase r' p hr' hp => inrushFollowDone_servos hr hrun hphase hr' hp,
      fun hphase hfet hst hm => inrushComplete_closes l hr hrun hphase hfet hst hm,
      fun a hfet hst h0 ha => inrushTimeout_trips l hr hrun hfet hst h0 ha,
      fun hfet hauto => fetTestEnd_opens l hr hrun hfet hauto⟩
  · refine ⟨presenceFilter_takes hon hlow hmode h hauto, fun hlevel => ?_⟩
    rw [presenceFilter_exec hon hlow hmode h, if_neg hlevel]
  · exact ⟨autoInrushFile_idle, fun h _ hre _ => autoInrushFile_files h hre⟩

end Sys2Proof.Machine
end

section
/-! What a cycle boundary has taken stands: the means of the cycle that ended, the bus reading, the converters' results, the
virtual cycle, and the requests for its start. Neither the drum, nor the arbiter, nor a channel's opening, nor a change of mode
touches them. One law for each operation, of the shape of the laws of `Same` and `Quiet`. -/

namespace Sys2Proof.Machine

variable {s t u : State} {keep : Bool}

/-- The readings of a channel over the last cycle (R131, R299). -/
@[simp] abbrev Chan.reading (x : Chan) : Int × Int × Int × Int := (x.iMa, x.vfar, x.drop, x.csn)

/-- What the converters have measured, and how their references were judged (R299, R303). -/
@[simp] abbrev Cnv.reading (x : Cnv) : Bool × Vector Int 4 × Int × Vector Nat 4 × Vector Nat 4 × Vector Bool 4 × Nat × Int :=
  (x.on, x.busMv, x.dieT, x.refUv, x.refBad, x.refFail, x.senseN, x.senseSum)

/-- The virtual cycle, its lock and its references, and with `keep` whether a new source waits for the boundary (R270 to R279). -/
@[simp] abbrev MusicBox.beat (keep : Bool) (x : MusicBox) : MusicBox :=
  { x with pat := Vector.replicate 4 0, notes := 0, skip := [], held := [], pairNew := [], runs := [], nextKey := 0,
           srcNew := keep && x.srcNew }

/-- What waits for the boundary clock (R328, R334). -/
@[simp] abbrev Acc.asked (x : Acc) : List (Bool × Nat × Nat) × List SnapWait := (x.clears, x.snaps)

/-- Two states agree in what a boundary takes. -/
structure Reads (keep : Bool) (s t : State) : Prop where
  ch : ∀ c, (t.ch.get c).reading = (s.ch.get c).reading
  bus : t.bus.vMv = s.bus.vMv
  cnv : t.cnv.reading = s.cnv.reading
  acc : t.acc.asked = s.acc.asked
  mb : t.mb.beat keep = s.mb.beat keep

@[simp] theorem reads_refl (s : State) : Reads keep s s := ⟨fun _ => rfl, rfl, rfl, rfl, rfl⟩

theorem Reads.trans (h : Reads keep s t) (k : Reads keep t u) : Reads keep s u :=
  ⟨fun c => (k.ch c).trans (h.ch c), k.bus.trans h.bus, k.cnv.trans h.cnv, k.acc.trans h.acc, k.mb.trans h.mb⟩

theorem Reads.symm (h : Reads keep s t) : Reads keep t s :=
  ⟨fun c => (h.ch c).symm, h.bus.symm, h.cnv.symm, h.acc.symm, h.mb.symm⟩

/-- The form in which `simp` peels an operation off. -/
theorem Reads.peel (h : Reads keep t u) : Reads keep s u ↔ Reads keep s t := ⟨fun x => x.trans h.symm, fun x => x.trans h⟩

/-- Other parts change: all but the channels, the bus, the Music Box, the converters and the accumulators. -/
theorem reads_of_same (h : Same 8589814783 t u) : Reads keep s u ↔ Reads keep s t := by
  refine Reads.peel ⟨fun c => ?_, ?_, ?_, ?_, ?_⟩
  · rw [show u.ch = t.ch from h.part .ch rfl]
  · rw [show u.bus = t.bus from h.part .bus rfl]
  · rw [show u.cnv = t.cnv from h.part .cnv rfl]
  · rw [show u.acc = t.acc from h.part .acc rfl]
  · rw [show u.mb = t.mb from h.part .mb rfl]

/-- An update that keeps each reading. -/
@[simp ↓] theorem reads_mk {b c d e f g h i j k r n o p q v w x y z a' b'} {ch : Vector Chan 24} {bus : Bus}
    {mb : MusicBox} {cnv : Cnv} {acc : Acc} (hch : ∀ c, (ch.get c).reading = (u.ch.get c).reading) (hbus : bus.vMv = u.bus.vMv)
    (hmb : mb.beat keep = u.mb.beat keep) (hcnv : cnv.reading = u.cnv.reading) (hacc : acc.asked = u.acc.asked) :
    Reads keep s ⟨u.pending, b, c, d, e, f, g, h, i, j, ch, k, bus, r, mb, cnv, acc, n, o, p, q, v, w, x, y, z, a', b'⟩ ↔
      Reads keep s u := Reads.peel ⟨hch, hbus, hcnv, hacc, hmb⟩

@[simp ↓] theorem reads_ite {c : Prop} [Decidable c] {a b : State} :
    Reads keep s (if c then a else b) ↔ if c then Reads keep s a else Reads keep s b := by split <;> rfl

@[simp ↓] theorem forEach_reads {α : Type} {f : α → State → State} (l : List α) (k : ∀ a v, Reads keep s (f a v) ↔ Reads keep s v) :
    Reads keep s (forEach l f u) ↔ Reads keep s u := by
  induction l generalizing u with
  | nil => rfl
  | cons a l ih => rw [forEach, ih, k]

@[simp ↓] theorem modCh_reads {c : Ch} {f : Chan → Chan} (h : ∀ x, (f x).reading = x.reading) :
    Reads keep s (modCh c f u) ↔ Reads keep s u := by
  refine Reads.peel ⟨fun d => ?_, rfl, rfl, rfl, rfl⟩
  by_cases hd : d = c
  · subst hd
    exact (congrArg Chan.reading (chan_modCh d f u)).trans (h _)
  · exact congrArg Chan.reading (chan_modCh_ne c d f u hd)

/-! ### Operations on other parts -/

@[simp ↓] theorem setIrq_reads (k : Nat) (u : State) : Reads keep s (setIrq k u) ↔ Reads keep s u := reads_of_same (by simp)
@[simp ↓] theorem complete_reads (id st : Nat) (body : List Word) (u : State) :
    Reads keep s (complete id st body u) ↔ Reads keep s u := reads_of_same (by simp)
@[simp ↓] theorem interim_reads (id st : Nat) (body : List Word) (u : State) :
    Reads keep s (interim id st body u) ↔ Reads keep s u := reads_of_same (by simp)
@[simp ↓] theorem begin_reads (id : Nat) (u : State) : Reads keep s (begin_ id u) ↔ Reads keep s u := reads_of_same (by simp)
@[simp ↓] theorem logEvent_reads (code sev obj : Nat) (data : List Nat) (u : State) :
    Reads keep s (logEvent code sev obj data u) ↔ Reads keep s u := reads_of_same (by simp)
@[simp ↓] theorem offerWrite_reads (rtype inst : Nat) (b : Body) (u : State) :
    Reads keep s (offerWrite rtype inst b u) ↔ Reads keep s u := reads_of_same (by simp)
@[simp ↓] theorem queueWrite_reads (rtype inst : Nat) (u : State) :
    Reads keep s (queueWrite rtype inst u) ↔ Reads keep s u := reads_of_same (by simp)
@[simp ↓] theorem putF_reads (id : Nat) (v : Int) (u : State) :
    Reads keep s (putF id v u) ↔ Reads keep s u := reads_of_same (by simp)
@[simp ↓] theorem notifyAll_reads (op : Nat) (body : List Word) (u : State) :
    Reads keep s (notifyAll op body u) ↔ Reads keep s u := reads_of_same (by simp)
@[simp ↓] theorem ntfAdmit_reads (o : Op) (budget : Nat) (u : State) :
    Reads keep s (ntfAdmit o budget u) ↔ Reads keep s u := reads_of_same (by simp)
@[simp ↓] theorem opComplete_reads (o : Op) (st budget : Nat) (more : List Word) (u : State) :
    Reads keep s (opComplete o st budget more u) ↔ Reads keep s u := reads_of_same (by simp)
@[simp ↓] theorem decide_reads (o : Op) (budget dec : Nat) (u : State) :
    Reads keep s (decide_ o budget dec u) ↔ Reads keep s u := reads_of_same (by simp)
@[simp ↓] theorem failEvent_reads (o : Op) (budget : Nat) (u : State) :
    Reads keep s (failEvent o budget u) ↔ Reads keep s u := reads_of_same (by simp)
@[simp ↓] theorem reportCh_reads (old u : State) : Reads keep s (reportCh old u) ↔ Reads keep s u := reads_of_same (by simp)
@[simp ↓] theorem driveOutputs_reads (u : State) : Reads keep s (driveOutputs u) ↔ Reads keep s u := reads_of_same (by simp)
@[simp ↓] theorem sendStatus_reads (u : State) : Reads keep s (sendStatus u) ↔ Reads keep s u := reads_of_same (by simp)
@[simp ↓] theorem sendAnnounce_reads (u : State) : Reads keep s (sendAnnounce u) ↔ Reads keep s u := reads_of_same (by simp)
@[simp ↓] theorem gainDiff_reads (u : State) : Reads keep s (gainDiff u) ↔ Reads keep s u := reads_of_same (by simp)
@[simp ↓] theorem bindHook_reads (c : Ch) (u : State) : Reads keep s (bindHook c u) ↔ Reads keep s u := reads_of_same (by simp)
@[simp ↓] theorem modHook_reads (k : Str) (u : State) : Reads keep s (modHook k u) ↔ Reads keep s u := reads_of_same (by simp)
@[simp ↓] theorem chemHook_reads (k : Str) (u : State) : Reads keep s (chemHook k u) ↔ Reads keep s u := reads_of_same (by simp)
@[simp ↓] theorem noteLowDev_reads (c : Ch) (u : State) :
    Reads keep s (noteLowDev c u) ↔ Reads keep s u := reads_of_same (by simp)
@[simp ↓] theorem dropDormant_reads (m : Mode) (u : State) :
    Reads keep s (dropDormant m u) ↔ Reads keep s u := reads_of_same (by simp)
@[simp ↓] theorem dropStandby_reads (m : Mode) (u : State) :
    Reads keep s (dropStandby m u) ↔ Reads keep s u := reads_of_same (by simp)
@[simp ↓] theorem modStr_reads (k : Str) (f : Strg → Strg) (u : State) :
    Reads keep s (modStr k f u) ↔ Reads keep s u := reads_of_same (by simp)
@[simp ↓] theorem sendRectSet_reads (c : Ch) (mv : Int) (limit : Option Nat) (cmd : Nat) (u : State) :
    Reads keep s (sendRectSet c mv limit cmd u) ↔ Reads keep s u := reads_of_same (by simp)

/-! ### The arbiter (R402, R408 to R415) -/

@[simp ↓] theorem setProbe_reads (c : Ch) (u : State) : Reads keep s (setProbe c u) ↔ Reads keep s u := by simp [setProbe]

@[simp ↓] theorem putGrant_reads (c : Ch) (g : Option (Nat × Nat)) (u : State) :
    Reads keep s (putGrant c g u) ↔ Reads keep s u := by simp [putGrant]

@[simp ↓] theorem putOff_reads (a : ChAct) (c : Ch) (u : State) :
    Reads keep s (putOff a c u) ↔ Reads keep s u := by simp [putOff]

@[simp ↓] theorem waitNow_reads (c : Ch) (u : State) : Reads keep s (waitNow c u) ↔ Reads keep s u := by simp [waitNow]

@[simp ↓] theorem unwait_reads (c : Ch) (u : State) : Reads keep s (unwait c u) ↔ Reads keep s u := by simp [unwait, unwaitNow]

@[simp ↓] theorem disarmCh_reads (c : Ch) (u : State) :
    Reads keep s (disarmCh c u) ↔ Reads keep s u := by simp [disarmCh, disarmNow]

@[simp ↓] theorem beginTest_reads (o : Op) (u : State) : Reads keep s (beginTest o u) ↔ Reads keep s u := by
  unfold beginTest
  extract_lets w1 w2 cap part soc cf four run _ v w
  rw [forEach_reads _ fun k z => by split <;> simp]
  simp [w, v]

@[simp ↓] theorem startOp_reads (o : Op) (mc : Nat) (u : State) : Reads keep s (startOp o mc u) ↔ Reads keep s u := by
  unfold startOp
  split
  · split <;> simp
  · split <;> simp
  · simp
  · simp
  · split <;> simp
  · simp
  · simp
  · simp
  · rfl

@[simp ↓] theorem grantOp_reads (o : Op) (mc : Nat) (queued : Bool) (u : State) :
    Reads keep s (grantOp o mc queued u) ↔ Reads keep s u := by
  unfold grantOp
  extract_lets p _ v d e f
  have he : Reads keep s e ↔ Reads keep s u := by
    unfold e
    split <;> simp [d, v]
  simp [f, he]

@[simp ↓] theorem dropOp_reads (o : Op) (u : State) : Reads keep s (dropOp o u) ↔ Reads keep s u := by
  unfold dropOp
  split
  · split <;> simp
  · split <;> simp
  · simp
  · rfl

@[simp ↓] theorem refuseOp_reads (o : Op) (budget : Nat) (u : State) :
    Reads keep s (refuseOp o budget u) ↔ Reads keep s u := by simp [refuseOp]

@[simp ↓] theorem queueOp_reads (o : Op) (budget : Nat) (u : State) : Reads keep s (queueOp o budget u) ↔ Reads keep s u := by
  unfold queueOp
  extract_lets p _ v d
  have hd : Reads keep s d ↔ Reads keep s u := by simp [d, v]
  split <;> simp [hd]

@[simp ↓] theorem fileOp_reads (o : Op) (u : State) : Reads keep s (fileOp o u) ↔ Reads keep s u := by
  unfold fileOp
  extract_lets p _ v
  split <;> simp [v]

@[simp ↓] theorem rejudgeList_reads (l : List Op) (blocked : List Nat) (u : State) :
    Reads keep s (rejudgeList l blocked u) ↔ Reads keep s u := by
  induction l generalizing blocked u with
  | nil => rfl
  | cons o l ih =>
    unfold rejudgeList
    split
    · split <;> simp [ih]
    · rw [ih]

@[simp ↓] theorem rejudge_reads (u : State) : Reads keep s (rejudge u) ↔ Reads keep s u := by simp [rejudge]

@[simp ↓] theorem returnOp_reads (id : Nat) (u : State) : Reads keep s (returnOp id u) ↔ Reads keep s u := by simp [returnOp]

@[simp ↓] theorem withdrawOp_reads (o : Op) (dec : Nat) (u : State) : Reads keep s (withdrawOp o dec u) ↔ Reads keep s u := by
  unfold withdrawOp
  extract_lets _ v d e f
  have hf : Reads keep s f ↔ Reads keep s u := by
    unfold f
    split <;> simp [e, d, v]
  simp [hf]

/-! ### The channels (R128, R171, R172) -/

@[simp ↓] theorem withdrawCh_reads (c : Ch) (dec : Nat) (u : State) : Reads keep s (withdrawCh c dec u) ↔ Reads keep s u := by
  unfold withdrawCh
  extract_lets v
  have hv : Reads keep s v ↔ Reads keep s u := by
    unfold v
    split <;> simp
  split <;> simp [hv]

@[simp ↓] theorem fileInrush_reads (c : Ch) (f : Filer) (tag : Option Nat) (u : State) :
    Reads keep s (fileInrush c f tag u) ↔ Reads keep s u := by
  unfold fileInrush
  simp

@[simp ↓] theorem autoFile_reads (c : Ch) (u : State) : Reads keep s (autoFile c u) ↔ Reads keep s u := by simp [autoFile]

@[simp ↓] theorem autoFileAll_reads (u : State) : Reads keep s (autoFileAll u) ↔ Reads keep s u := by simp [autoFileAll]

@[simp ↓] theorem putLimit_reads (c : Ch) (new : Option Nat) (u : State) :
    Reads keep s (putLimit c new u) ↔ Reads keep s u := by
  unfold putLimit sendSet
  simp

@[simp ↓] theorem liftAll_reads (u : State) : Reads keep s (liftAll u) ↔ Reads keep s u := by simp [liftAll]

@[simp ↓] theorem endTest_reads (outcome learned : Nat) (u : State) :
    Reads keep s (endTest outcome learned u) ↔ Reads keep s u := by
  unfold endTest
  split
  · rfl
  · extract_lets w st sev obj _ v v1 v2 v3 v4 v5
    have h3 : Reads keep s v3 ↔ Reads keep s u := by
      unfold v3
      split <;> simp [v2, v1, v]
    simp [v5, v4, h3]

@[simp ↓] theorem leaveSet_reads (c : Ch) (u : State) : Reads keep s (leaveSet c u) ↔ Reads keep s u := by
  unfold leaveSet
  split
  · rfl
  · extract_lets ops b v
    split <;> simp [v, b]

@[simp ↓] theorem endRestores_reads (u : State) : Reads keep s (endRestores u) ↔ Reads keep s u := by
  unfold endRestores
  split <;> simp

@[simp ↓] theorem endInrush_reads (c : Ch) (ok : Bool) (u : State) : Reads keep s (endInrush c ok u) ↔ Reads keep s u := by
  unfold endInrush
  split
  · rfl
  · extract_lets x w far op v drop id _ v1 st v2
    have h2 : Reads keep s v2 ↔ Reads keep s u := by
      unfold v2
      split <;> simp [v1, v]
    simp [h2]

@[simp ↓] theorem openTo_reads (c : Ch) (st : ChSt) (g : Gate) (u : State) :
    Reads keep s (openTo c st g u) ↔ Reads keep s u := by simp [openTo, Chan.toLow]

@[simp ↓] theorem shutCh_reads (c : Ch) (st : ChSt) (g : Gate) (u : State) :
    Reads keep s (shutCh c st g u) ↔ Reads keep s u := by simp [shutCh]

@[simp ↓] theorem cancelWait_reads (c : Ch) (dec : Nat) (u : State) :
    Reads keep s (cancelWait c dec u) ↔ Reads keep s u := by simp [cancelWait]

@[simp ↓] theorem sheetDiff_reads (u : State) : Reads keep s (sheetDiff u) ↔ Reads keep s u := by simp [sheetDiff]

@[simp ↓] theorem lpExit_reads (g : Grp) (u : State) : Reads keep s (lpExit g u) ↔ Reads keep s u := by simp [lpExit]

@[simp ↓] theorem closeCh_reads (c : Ch) (st : ChSt) (u : State) :
    Reads keep s (closeCh c st u) ↔ Reads keep s u := by simp [closeCh, closedGates, Chan.countClosure]

/-! ### Parameters that come into force, and the modes (R12, R33 to R38) -/

@[simp ↓] theorem seqHook_reads (k : Grp) (e : Fin 32) (w : Nat) (u : State) :
    Reads keep s (seqHook k e w u) ↔ Reads keep s u := by simp [seqHook]

@[simp ↓] theorem slotsHook_reads (g : Fin 48) (w : Nat) (u : State) : Reads keep s (slotsHook g w u) ↔ Reads keep s u := by
  simp [slotsHook, slotHook]

@[simp ↓] theorem dropCoef_reads (c : Ch) (u : State) : Reads keep s (dropCoef c u) ↔ Reads keep s u := by simp [dropCoef]

@[simp ↓] theorem ntcEnable_reads (old new : Nat) (u : State) :
    Reads keep s (ntcEnable old new u) ↔ Reads keep s u := by simp [ntcEnable]

@[simp ↓] theorem trefHook_reads (c : Ch) (u : State) : Reads keep s (trefHook c u) ↔ Reads keep s u := by
  unfold trefHook
  split <;> simp

@[simp ↓] theorem roleNow_reads (c : Ch) (u : State) : Reads keep s (roleNow c u) ↔ Reads keep s u := by
  unfold roleNow
  simp

@[simp ↓] theorem roleHook_reads (c : Ch) (u : State) : Reads keep s (roleHook c u) ↔ Reads keep s u := by simp [roleHook]

@[simp] theorem sharePoles_reading (s : State) (c : Ch) (x : Chan) : (sharePoles s c x).reading = x.reading := by
  unfold sharePoles
  dsimp only
  split <;> rfl

@[simp ↓] theorem chHook_reads (c : Ch) (off : Nat) (u : State) : Reads keep s (chHook c off u) ↔ Reads keep s u := by
  unfold chHook
  simp

/-- Only a new source makes something wait for the boundary (R272). -/
@[simp ↓] theorem forceHook_reads (id : Nat) (u : State) : Reads false s (forceHook id u) ↔ Reads false s u := by
  unfold forceHook
  split
  · simp
  · split_ifs <;> simp

@[simp ↓] theorem takeForce_reads (id : Nat) (u : State) : Reads false s (takeForce id u) ↔ Reads false s u := by
  unfold takeForce
  simp

@[simp ↓] theorem forceAll_reads (e : PEff) (u : State) : Reads false s (forceAll e u) ↔ Reads false s u := by
  unfold forceAll
  simp

@[simp ↓] theorem liftLimits_reads (u : State) : Reads keep s (liftLimits u) ↔ Reads keep s u := by simp [liftLimits]

@[simp ↓] theorem endPeak_reads (withdrawn : Bool) (u : State) : Reads keep s (endPeak withdrawn u) ↔ Reads keep s u := by
  unfold endPeak
  split
  · rfl
  · extract_lets op b v
    clear_value op
    cases op <;> simp [v, b]

@[simp ↓] theorem withdrawPeak_reads (u : State) : Reads keep s (withdrawPeak u) ↔ Reads keep s u := by simp [withdrawPeak]

@[simp ↓] theorem openAll_reads (u : State) : Reads keep s (openAll u) ↔ Reads keep s u := by simp [openAll]

@[simp ↓] theorem openTests_reads (u : State) : Reads keep s (openTests u) ↔ Reads keep s u := by simp [openTests]

@[simp ↓] theorem fileWalkin_reads (c : Ch) (u : State) : Reads keep s (fileWalkin c u) ↔ Reads keep s u := by simp [fileWalkin]

@[simp ↓] theorem fileWalkins_reads (u : State) : Reads keep s (fileWalkins u) ↔ Reads keep s u := by simp [fileWalkins]

@[simp ↓] theorem calCaptureLost_reads (u : State) :
    Reads keep s (calCaptureLost u) ↔ Reads keep s u := by simp [calCaptureLost, calFail, modCal]

@[simp ↓] theorem changeMode_reads (m : Mode) (cause : Nat) (u : State) :
    Reads false s (changeMode m cause u) ↔ Reads false s u := by
  unfold changeMode
  simp

@[simp ↓] theorem beforeMode_reads (m : Mode) (u : State) :
    Reads keep s (beforeMode m u) ↔ Reads keep s u := by simp [beforeMode]

@[simp ↓] theorem leaveMode_reads (old m : Mode) (u : State) : Reads keep s (leaveMode old m u) ↔ Reads keep s u := by
  unfold leaveMode
  simp

@[simp ↓] theorem enterMode_reads (m : Mode) (cause : Nat) (u : State) :
    Reads false s (enterMode m cause u) ↔ Reads false s u := by
  simp [enterMode]

/-! ### The drum (R282 to R292) -/

@[simp ↓] theorem startBy_reads (src : Nat) (rising : Bool) (u : State) :
    Reads keep s (startBy src rising u) ↔ Reads keep s u := reads_of_same (by simp)
@[simp ↓] theorem passTo_reads (t : Nat) (u : State) : Reads keep s (passTo t u) ↔ Reads keep s u := reads_of_same (by simp)
@[simp ↓] theorem streamOut_reads (id : Nat) (segs : List (List Word)) (st : Nat) (body : List Word) (u : State) :
    Reads keep s (streamOut id segs st body u) ↔ Reads keep s u := reads_of_same (by simp)
@[simp ↓] theorem modGrp_reads (g : Grp) (f : Group → Group) (u : State) :
    Reads keep s (modGrp g f u) ↔ Reads keep s u := reads_of_same (by simp)
@[simp ↓] theorem modPup_reads (p : Pup) (f : Pupp → Pupp) (u : State) :
    Reads keep s (modPup p f u) ↔ Reads keep s u := reads_of_same (by simp)
@[simp ↓] theorem beginReloads_reads (gs : List Grp) (u : State) :
    Reads keep s (beginReloads gs u) ↔ Reads keep s u := reads_of_same (by simp)

@[simp ↓] theorem sendSet_reads (c : Ch) (u : State) : Reads keep s (sendSet c u) ↔ Reads keep s u := by simp [sendSet]

@[simp ↓] theorem sendSets_reads (u : State) : Reads keep s (sendSets u) ↔ Reads keep s u := by simp [sendSets]

@[simp ↓] theorem shareCorrect_reads (u : State) : Reads keep s (shareCorrect u) ↔ Reads keep s u := by simp [shareCorrect]

@[simp ↓] theorem requestStart_reads (k : Grp) (e : Fin 32) (u : State) :
    Reads keep s (requestStart k e u) ↔ Reads keep s u := by simp [requestStart, modSeq]

@[simp ↓] theorem convertEntry_reads (arg : Nat) (u : State) :
    Reads keep s (convertEntry arg u) ↔ Reads keep s u := by simp [convertEntry]

@[simp ↓] theorem closeBank_reads (b : Fin 12) (u : State) :
    Reads keep s (closeBank b u) ↔ Reads keep s u := by simp [closeBank]

@[simp ↓] theorem drawWord_reads (u : State) : Reads keep s (drawWord u).2 ↔ Reads keep s u := reads_of_same (by simp)

@[simp ↓] theorem probeEntry_reads (arg : Nat) (u : State) : Reads keep s (probeEntry arg u) ↔ Reads keep s u := by
  unfold probeEntry
  extract_lets k op
  split
  next free v h =>
  have hv : Reads keep s v ↔ Reads keep s u := by
    rw [show v = _ from (congrArg Prod.snd h).symm]
    split <;> simp
  simp [hv]

@[simp ↓] theorem carryStep_reads (u : State) : Reads keep s (carryStep u) ↔ Reads keep s u := by simp [carryStep]

@[simp ↓] theorem latchRestore_reads (u : State) : Reads keep s (latchRestore u) ↔ Reads keep s u := by simp [latchRestore]

@[simp ↓] theorem shedEntry_reads (arg : Nat) (u : State) :
    Reads keep s (shedEntry arg u) ↔ Reads keep s u := by simp [shedEntry]

@[simp ↓] theorem heldMoment_reads (c : Ch) (u : State) : Reads keep s (heldMoment c u) ↔ Reads keep s u := by simp [heldMoment]

@[simp ↓] theorem switchEntry_reads (arg : Nat) (u : State) : Reads keep s (switchEntry arg u) ↔ Reads keep s u := by
  unfold switchEntry
  split <;> simp

@[simp ↓] theorem setNote_reads (k : Nat) (u : State) : Reads keep s (setNote k u) ↔ Reads keep s u := by simp [setNote]

@[simp ↓] theorem entryHw_reads (w : Nat) (u : State) : Reads keep s (entryHw w u) ↔ Reads keep s u := by
  unfold entryHw
  split <;> simp

@[simp ↓] theorem pinMessage_reads (e : Fin 256) (u : State) : Reads keep s (pinMessage e u) ↔ Reads keep s u := by
  unfold pinMessage
  simp

@[simp ↓] theorem runEntry_reads (e : Fin 256) (u : State) : Reads keep s (runEntry e u) ↔ Reads keep s u := by simp [runEntry]

@[simp ↓] theorem dispatchTo_reads (key : Nat) (u : State) :
    Reads keep s (dispatchTo key u) ↔ Reads keep s u := by simp [dispatchTo]

@[simp ↓] theorem dispatchZero_reads (u : State) : Reads keep s (dispatchZero u) ↔ Reads keep s u := by simp [dispatchZero]

@[simp ↓] theorem messageZero_reads (u : State) : Reads keep s (messageZero u) ↔ Reads keep s u := by
  unfold messageZero
  split
  · rfl
  · split <;> simp

@[simp ↓] theorem releaseHeld_reads (u : State) : Reads keep s (releaseHeld u) ↔ Reads keep s u := by simp [releaseHeld]

/-! ### What the firmware does at a boundary (chapters 8, 10, 15 and 16) -/

@[simp ↓] theorem countMiss_reads (c : Ch) (u : State) :
    Reads keep s (countMiss c u) ↔ Reads keep s u := reads_of_same (by simp)
@[simp ↓] theorem sumModules_reads (u : State) : Reads keep s (sumModules u) ↔ Reads keep s u := reads_of_same (by simp)
@[simp ↓] theorem crossSums_reads (u : State) : Reads keep s (crossSums u) ↔ Reads keep s u := reads_of_same (by simp)
@[simp ↓] theorem holdCycle_reads (u : State) : Reads keep s (holdCycle u) ↔ Reads keep s u := reads_of_same (by simp)
@[simp ↓] theorem xinReturn_reads (u : State) : Reads keep s (xinReturn u) ↔ Reads keep s u := reads_of_same (by simp)
@[simp ↓] theorem noteMeans_reads (u : State) : Reads keep s (noteMeans u) ↔ Reads keep s u := reads_of_same (by simp)
@[simp ↓] theorem orderSent_reads (n : Nat) (u : State) :
    Reads keep s (orderSent n u) ↔ Reads keep s u := reads_of_same (by simp)
@[simp ↓] theorem trackFloat_reads (u : State) : Reads keep s (trackFloat u) ↔ Reads keep s u := reads_of_same (by simp)
@[simp ↓] theorem trackRest_reads (u : State) : Reads keep s (trackRest u) ↔ Reads keep s u := reads_of_same (by simp)
@[simp ↓] theorem trackEod_reads (u : State) : Reads keep s (trackEod u) ↔ Reads keep s u := reads_of_same (by simp)
@[simp ↓] theorem fullRefs_reads (u : State) : Reads keep s (fullRefs u) ↔ Reads keep s u := reads_of_same (by simp)
@[simp ↓] theorem evalPhases_reads (u : State) : Reads keep s (evalPhases u) ↔ Reads keep s u := reads_of_same (by simp)
@[simp ↓] theorem blackEnded_reads (u : State) : Reads keep s (blackEnded u) ↔ Reads keep s u := reads_of_same (by simp)
@[simp ↓] theorem writeTargets_reads (u : State) : Reads keep s (writeTargets u) ↔ Reads keep s u := reads_of_same (by simp)
@[simp ↓] theorem countCharge_reads (sec : Rat) (u : State) :
    Reads keep s (countCharge sec u) ↔ Reads keep s u := reads_of_same (by simp)
@[simp ↓] theorem countTest_reads (sec : Rat) (u : State) :
    Reads keep s (countTest sec u) ↔ Reads keep s u := reads_of_same (by simp)
@[simp ↓] theorem measureZ_reads (slots : List AccSlot) (u : State) :
    Reads keep s (measureZ slots u) ↔ Reads keep s u := reads_of_same (by simp)

@[simp ↓] theorem stepTo_reads (k : Nat) (u : State) : Reads keep s (stepTo k u) ↔ Reads keep s u := by simp [stepTo]

@[simp ↓] theorem enterCutoff_reads (u : State) : Reads false s (enterCutoff u) ↔ Reads false s u := by
  unfold enterCutoff
  split
  · extract_lets v _
    have hv : Reads false s v ↔ Reads false s u := by simp [v]
    simp [hv]
  · rfl

@[simp ↓] theorem tryRecharge_reads (u : State) : Reads false s (tryRecharge u) ↔ Reads false s u := by
  simp [tryRecharge]

@[simp ↓] theorem tryFloatEnd_reads (u : State) : Reads false s (tryFloatEnd u) ↔ Reads false s u := by
  simp [tryFloatEnd]

@[simp ↓] theorem isoMode_reads (u : State) : Reads false s (isoMode u) ↔ Reads false s u := by
  simp [isoMode]

@[simp ↓] theorem handoverEntry_reads (u : State) : Reads false s (handoverEntry u) ↔ Reads false s u := by
  simp [handoverEntry]

@[simp ↓] theorem takeoverCycle_reads (u : State) : Reads false s (takeoverCycle u) ↔ Reads false s u := by
  simp [takeoverCycle]

@[simp ↓] theorem condCheck_reads (u : State) : Reads keep s (condCheck u) ↔ Reads keep s u := by simp [condCheck]

@[simp ↓] theorem refreshAdm_reads (u : State) : Reads keep s (refreshAdm u) ↔ Reads keep s u := by simp [refreshAdm]

@[simp ↓] theorem disarmPeak_reads (u : State) : Reads keep s (disarmPeak u) ↔ Reads keep s u := by simp [disarmPeak]

@[simp ↓] theorem capStart_reads (u : State) : Reads keep s (capStart u) ↔ Reads keep s u := by simp [capStart]

@[simp ↓] theorem capEnd_reads (u : State) : Reads keep s (capEnd u) ↔ Reads keep s u := by simp [capEnd]

@[simp ↓] theorem capCycle_reads (u : State) : Reads keep s (capCycle u) ↔ Reads keep s u := by simp [capCycle]

@[simp ↓] theorem fileRestore_reads (u : State) : Reads keep s (fileRestore u) ↔ Reads keep s u := by
  unfold fileRestore
  dsimp only
  split_ifs
  · rfl
  · simp
  · split <;> simp
  · rfl

@[simp ↓] theorem shedCycle_reads (u : State) : Reads keep s (shedCycle u) ↔ Reads keep s u := by simp [shedCycle]

@[simp ↓] theorem overvoltage_reads (u : State) : Reads keep s (overvoltage u) ↔ Reads keep s u := by
  unfold overvoltage
  extract_lets l worst b
  clear_value worst
  split
  · rfl
  · cases worst <;> simp [b]

@[simp ↓] theorem setLimits_reads (u : State) : Reads keep s (setLimits u) ↔ Reads keep s u := by simp [setLimits]

@[simp ↓] theorem shareCycle_reads (u : State) : Reads keep s (shareCycle u) ↔ Reads keep s u := by simp [shareCycle]

@[simp ↓] theorem rectCycle_reads (u : State) : Reads keep s (rectCycle u) ↔ Reads keep s u := by simp [rectCycle]

@[simp ↓] theorem firmCycle_reads (u : State) : Reads false s (firmCycle u) ↔ Reads false s u := by
  simp [firmCycle]

/-! ### The batteries (chapter 16) -/

@[simp ↓] theorem forStrings_reads {f : Str → Ch → State → State} (k : ∀ j c v, Reads keep s (f j c v) ↔ Reads keep s v) :
    Reads keep s (forStrings f u) ↔ Reads keep s u :=
  forEach_reads _ fun j v => by
    split
    · exact k _ _ v
    · rfl

@[simp ↓] theorem endString_reads (k : Str) (c : Ch) (u : State) :
    Reads keep s (endString k c u) ↔ Reads keep s u := by simp [endString]

@[simp ↓] theorem moduleOpens_reads (u : State) : Reads false s (moduleOpens u) ↔ Reads false s u := by
  simp [moduleOpens]

@[simp ↓] theorem enterLow_reads (k : Str) (c : Ch) (u : State) :
    Reads keep s (enterLow k c u) ↔ Reads keep s u := by simp [enterLow]

@[simp ↓] theorem tryRejoin_reads (k : Str) (c : Ch) (u : State) : Reads keep s (tryRejoin k c u) ↔ Reads keep s u := by
  unfold tryRejoin
  simp

@[simp ↓] theorem rejoinStep_reads (u : State) : Reads keep s (rejoinStep u) ↔ Reads keep s u := by
  unfold rejoinStep
  split
  · simp
  · split
    · rfl
    · split <;> simp

@[simp ↓] theorem blackFollow_reads (u : State) : Reads keep s (blackFollow u) ↔ Reads keep s u := by simp [blackFollow]

theorem emptyRef_reads (t : TestRun) (k : Str) (u : State) : Reads keep s (emptyRef t k u).1 ↔ Reads keep s u := by
  unfold emptyRef
  extract_lets v
  have hv : Reads keep s v ↔ Reads keep s u := reads_of_same (by simp [v])
  split
  · exact (reads_of_same (by simp)).trans hv
  · exact hv

/-- The references that the strings below their end take (R431). -/
theorem emptyRefs_reads (t : TestRun) (l : List Str) (p : State × List Str) :
    Reads keep s (l.foldl (fun (p : State × List Str) k =>
      let q := emptyRef t k p.1
      (q.1, if q.2 then p.2 ++ [k] else p.2)) p).1 ↔ Reads keep s p.1 := by
  induction l generalizing p with
  | nil => rfl
  | cons k l ih =>
    rw [List.foldl_cons, ih]
    exact emptyRef_reads t k p.1

@[simp ↓] theorem testLow_reads (k : List Str) (t : TestRun) (u : State) : Reads keep s (testLow k t u) ↔ Reads keep s u := by
  unfold testLow
  split
  · simp
  · simp [emptyRefs_reads]

@[simp ↓] theorem testOutcome_reads (u : State) : Reads keep s (testOutcome u) ↔ Reads keep s u := by
  unfold testOutcome
  split
  · rfl
  · simp

@[simp ↓] theorem countPeak_reads (sec : Rat) (u : State) : Reads keep s (countPeak sec u) ↔ Reads keep s u := by
  unfold countPeak
  split <;> simp

@[simp ↓] theorem batCycle_reads (slots : List AccSlot) (sec : Rat) (u : State) :
    Reads false s (batCycle slots sec u) ↔ Reads false s u := by
  simp [batCycle]

/-! ### The measurements and the start of the cycle (chapters 10 to 12) -/

@[simp ↓] theorem ntcInvalid_reads (k : Ntc) (u : State) :
    Reads keep s (ntcInvalid k u) ↔ Reads keep s u := by simp [ntcInvalid]

@[simp ↓] theorem ntcCycle_reads (inp : BoundaryIn) (k : Ntc) (u : State) :
    Reads keep s (ntcCycle inp k u) ↔ Reads keep s u := by
  unfold ntcCycle
  simp

@[simp ↓] theorem trefCycle_reads (c : Ch) (u : State) : Reads keep s (trefCycle c u) ↔ Reads keep s u := by simp [trefCycle]

@[simp ↓] theorem rejCycle_reads (c : Ch) (u : State) : Reads keep s (rejCycle c u) ↔ Reads keep s u := by simp [rejCycle]

@[simp ↓] theorem lastCycle_reads (c : Ch) (u : State) : Reads keep s (lastCycle c u) ↔ Reads keep s u := by
  unfold lastCycle
  extract_lets on
  refine modCh_reads fun x => ?_
  split <;> rfl

@[simp ↓] theorem cnvCycle_reads (u : State) : Reads keep s (cnvCycle u) ↔ Reads keep s u := by simp [cnvCycle, modSeq, modCal]

@[simp ↓] theorem takeCoef_reads (p : Nat × Option (Int × Nat)) (u : State) :
    Reads keep s (takeCoef p u) ↔ Reads keep s u := by simp [takeCoef]

@[simp ↓] theorem clearItems_reads (trackers : Bool) (first count : Nat) (u : State) :
    Reads keep s (clearItems trackers first count u) ↔ Reads keep s u := by simp [clearItems]

@[simp ↓] theorem snapLatch_reads (w : SnapWait) (u : State) :
    Reads keep s (snapLatch w u) ↔ Reads keep s u := by simp [snapLatch]

@[simp ↓] theorem cycEffects_reads (u : State) : Reads false s (cycEffects u) ↔ Reads false s u := by
  unfold cycEffects
  extract_lets v w
  have hw : Reads false s w ↔ Reads false s u := by simp [w, v]
  refine Iff.trans (Reads.peel (t := w) ⟨fun _ => rfl, rfl, rfl, rfl, ?_⟩) hw
  dsimp only
  split <;> rfl

end Sys2Proof.Machine
end


section
/-! CYCLE_BOUNDARY: what each part of the boundary takes or counts, and that the parts after it let it stand. -/

namespace Sys2Proof.Machine

variable {s t u : State} {keep : Bool} {inp : BoundaryIn}

theorem Reads.chan (h : Reads keep s t) (c : Ch) : (t.chan c).reading = (s.chan c).reading := h.ch c

/-- A field of the Music Box that a boundary takes stands. -/
theorem Reads.beat_eq {α : Type} (h : Reads keep s t) (π : MusicBox → α) (hπ : ∀ x, π (x.beat keep) = π x) : π t.mb = π s.mb := by
  rw [← hπ t.mb, h.mb, hπ]

theorem Reads.boundaryDue (h : Reads keep s t) : boundaryDue t = boundaryDue s := by
  unfold Machine.boundaryDue
  rw [h.beat_eq (·.boundaryAt) fun _ => rfl, h.beat_eq (·.cur) fun _ => rfl]

theorem cnv_reading_iff {x y : Cnv} : x.reading = y.reading ↔ x.on = y.on ∧ x.busMv = y.busMv ∧ x.dieT = y.dieT ∧
    x.refUv = y.refUv ∧ x.refBad = y.refBad ∧ x.refFail = y.refFail ∧ x.senseN = y.senseN ∧ x.senseSum = y.senseSum := by
  simp

/-! ### What the old cycle's drum still holds (R287) -/

/-- No pin of the drum lies beyond the end of the cycle. -/
theorem pinClock_le_boundaryDue (s : State) (w : Nat) : pinClock s (drumPin w) ≤ boundaryDue s := by
  have hpin : drumPin w ≤ 4096 := (Nat.mod_lt _ (by decide)).le
  have hdiv : drumPin w * 400000000000 / (4096 * max 1 s.mb.cur) ≤ 400000000000 / max 1 s.mb.cur :=
    calc drumPin w * 400000000000 / (4096 * max 1 s.mb.cur)
        ≤ 4096 * 400000000000 / (4096 * max 1 s.mb.cur) := Nat.div_le_div_right (Nat.mul_le_mul_right _ hpin)
      _ = 400000000000 / max 1 s.mb.cur := Nat.mul_div_mul_left _ _ (by decide)
  exact Nat.add_le_add_left hdiv _

theorem runEntry_clock (e : Fin 256) (s : State) :
    (runEntry e s).clock = max s.clock (pinClock s (drumPin (drumWord s e.val))) := by
  unfold runEntry
  extract_lets w key t
  let u := passTo (pinClock s (drumPin w)) s
  have ht : Same 8589934589 u t := by simp [t, u]
  exact (ht.part .clock rfl).trans (passTo_clock _ s)

/-- The entries that are dispatched carry the clock no further than the end of the cycle. -/
theorem forEach_runEntry_clock (l : List (Fin 256)) (s : State) :
    s.clock ≤ (forEach l runEntry s).clock ∧ (forEach l runEntry s).clock ≤ max s.clock (boundaryDue s) := by
  induction l generalizing s with
  | nil => exact ⟨Nat.le_refl _, Nat.le_max_left _ _⟩
  | cons e l ih =>
    obtain ⟨hlow, hhigh⟩ := ih (runEntry e s)
    have hdue : boundaryDue (runEntry e s) = boundaryDue s :=
      Reads.boundaryDue (keep := true) ((runEntry_reads e s).2 (reads_refl s))
    have hpin := pinClock_le_boundaryDue s (drumWord s e.val)
    rw [runEntry_clock] at hlow
    rw [runEntry_clock, hdue] at hhigh
    rw [forEach]
    exact ⟨le_trans (Nat.le_max_left _ _) hlow, by omega⟩

theorem dispatchTo_clock (key : Nat) (s : State) :
    s.clock ≤ (dispatchTo key s).clock ∧ (dispatchTo key s).clock ≤ max s.clock (boundaryDue s) := by
  unfold dispatchTo
  split
  · exact forEach_runEntry_clock _ s
  · exact ⟨Nat.le_refl _, Nat.le_max_left _ _⟩

theorem dispatchTo_boundaryDue (key : Nat) (s : State) : boundaryDue (dispatchTo key s) = boundaryDue s :=
  Reads.boundaryDue ((dispatchTo_reads (keep := true) key s).2 (reads_refl s))

/-- The end of the old cycle: its drum is dispatched, and the clock stands where the cycle ends. -/
def cycleEnd (s : State) : State := passTo (boundaryDue (dispatchTo (4096 * 256) s)) (dispatchTo (4096 * 256) s)

theorem cycleEnd_reads (s : State) : Reads true s (cycleEnd s) := by simp [cycleEnd]

theorem cycleEnd_same (s : State) : Same 116118342 s (cycleEnd s) := by simp [cycleEnd]

theorem cycleEnd_clock (s : State) : (cycleEnd s).clock = max s.clock (boundaryDue s) := by
  obtain ⟨hlow, hhigh⟩ := dispatchTo_clock (4096 * 256) s
  rw [cycleEnd, passTo_clock, dispatchTo_boundaryDue]
  omega

/-! ### The means of the cycle (R130, R131, R299) -/

/-- The old cycle at its end, with its frequency as the one measured, and the counts of the calibration and of the gates. -/
def cycleCounted (s : State) : State :=
  cnvCycle { cycleEnd s with mb := { (cycleEnd s).mb with freq := (cycleEnd s).mb.cur } }

theorem cycleCounted_same (s : State) : Same 116118342 s (cycleCounted s) := by
  rw [cycleCounted, cnvCycle_same rfl]
  exact (cycleEnd_same s).trans (by simp)

theorem cycleCounted_reads (s : State) :
    Reads true { cycleEnd s with mb := { (cycleEnd s).mb with freq := (cycleEnd s).mb.cur } } (cycleCounted s) :=
  (cnvCycle_reads _).2 (reads_refl _)

/-- What the converters and the bus read stands up to the means, and so does the Music Box but for DRM.FREQ. -/
theorem cycleCounted_readings (s : State) : (cycleCounted s).cnv.reading = s.cnv.reading ∧
    (cycleCounted s).bus.vMv = s.bus.vMv ∧
    (cycleCounted s).mb.beat true = ({ s.mb with freq := s.mb.cur } : MusicBox).beat true := by
  have h := cycleCounted_reads s
  have k := cycleEnd_reads s
  refine ⟨h.cnv.trans k.cnv, h.bus.trans k.bus, h.mb.trans ?_⟩
  have hcur : (cycleEnd s).mb.cur = s.mb.cur := k.beat_eq (·.cur) fun _ => rfl
  show MusicBox.beat true { (cycleEnd s).mb with freq := (cycleEnd s).mb.cur } = _
  rw [hcur]
  exact congrArg (fun x : MusicBox => { x with freq := s.mb.cur }) k.mb

theorem fullScale_congr (h : t.pf = s.pf) (c : Ch) : fullScale t c = fullScale s c := by
  simp only [fullScale, chn_congr h]

/-- The means of a channel over the samples of its ticks and of the boundary. -/
def Chan.means (full : Int) (m : ChMeans) (x : Chan) : Int × Int × Int × Int :=
  (clampI (-full) full (meanOf (joinMean m.i x.sumI x.guardN) x.iMa), meanOf (joinMean m.vs x.sumVs x.guardN) x.vfar,
    meanOf (joinMean m.drop x.sumDrop x.guardN) x.drop, meanOf (joinMean m.csn x.sumCsn x.guardN) x.csn)

theorem meanCh_chan (inp : BoundaryIn) (c : Ch) (s : State) :
    ((meanCh inp c s).chan c).reading = (s.chan c).means (fullScale s c) (inp.ch.get c) :=
  congrArg Chan.reading (chan_modCh c _ s)

/-- Each channel reads its means (R130, R131). -/
theorem cycleMeans_chan (inp : BoundaryIn) (s : State) (c : Ch) :
    ((cycleMeans inp s).chan c).reading = (s.chan c).means (fullScale s c) (inp.ch.get c) := by
  obtain ⟨u, hpf, hu, hc⟩ := forEach_allCh_chan (s := s) (f := meanCh inp) (fun v => v.pf = s.pf)
    (fun _ v _ h => chan_modCh_ne _ _ _ v h) (fun _ _ h => h) rfl c
  let v := meanBus inp (forEach allCh (meanCh inp) s)
  have hlast : Reads true v (cycleMeans inp s) := (forEach_reads _ fun e w => lastCycle_reads e w).2 (reads_refl v)
  have hv : v.chan c = (meanCh inp c u).chan c := hc
  rw [hlast.chan c, hv, meanCh_chan, hu, fullScale_congr hpf]

/-- The bus, the converters and the supply read the means over the samples of the bus, and the Music Box and the accumulators
stand (R299, R303, R544). -/
theorem cycleMeans_parts (inp : BoundaryIn) (s : State) : (cycleMeans inp s).cnv = (meanBus inp s).cnv ∧
    (cycleMeans inp s).bus = (meanBus inp s).bus ∧ (cycleMeans inp s).pwr = (meanBus inp s).pwr ∧ (cycleMeans inp s).mb = s.mb := by
  let v := forEach allCh (meanCh inp) s
  have hv : Same 1024 s v := by simp [v]
  have hlast : Same 1024 (meanBus inp v) (cycleMeans inp s) := by
    rw [cycleMeans]
    exact (forEach_same fun _ w => (lastCycle_same rfl).2 (same_refl 1024 w)).2 (same_refl 1024 _)
  have hcnv : v.cnv = s.cnv := hv.part .cnv rfl
  have hbus : v.bus = s.bus := hv.part .bus rfl
  have hpwr : v.pwr = s.pwr := hv.part .pwr rfl
  have hmb : v.mb = s.mb := hv.part .mb rfl
  refine ⟨(hlast.part .cnv rfl).trans ?_, (hlast.part .bus rfl).trans ?_, (hlast.part .pwr rfl).trans ?_,
    (hlast.part .mb rfl).trans hmb⟩
  · simp only [meanBus, hcnv]
  · simp only [meanBus, hcnv, hbus]
  · simp only [meanBus, hpwr]

theorem meanBus_busMv (inp : BoundaryIn) (s : State) (k : Fin 4) :
    (meanBus inp s).cnv.busMv.get k = meanOf (inp.bus.get k) (s.cnv.busMv.get k) := by
  show (vmod (vmod (vmod (vmod s.cnv.busMv 0 _) 1 _) 2 _) 3 _).get k = _
  fin_cases k <;> simp [vmod_get_ne]

/-! ### The new cycle (R271, R272, R277 to R279) -/

/-- No parameter waits for the boundary: none comes into force (R12). -/
theorem forceAll_idle {e : PEff} (h : dueIds e s = []) (he : e ≠ .mode) : forceAll e s = s := by
  unfold forceAll
  rw [h, List.filter_nil]
  simp only [forEach, if_neg he, if_true]

/-- With no parameter waiting, no new source waits either unless one waited before. -/
theorem cycEffects_idle (h : dueIds .cyc s = []) : Reads true s (cycEffects s) ∧ (cycEffects s).pf = s.pf := by
  unfold cycEffects
  have hforce : (if s.tin.override then s else forceAll .cyc s) = s := by rw [forceAll_idle h (by decide), ite_self]
  rw [hforce]
  extract_lets v w
  have hw : Reads true s w := by simp [w, v]
  have hpf : w.pf = s.pf := (show Same 32768 s w by simp [w, v]).part .pf rfl
  refine ⟨hw.trans ?_, hpf⟩
  refine ⟨fun _ => rfl, rfl, rfl, rfl, ?_⟩
  dsimp only
  split <;> rfl

theorem takeSource_idle (h : s.mb.srcNew = false) : takeSource s = s := if_pos (by simp [h])

/-- The update of the lock moves neither the count of the cycles nor the frequency measured. -/
theorem lockUpdate_counts (g : Int) (newOfs : Bool) (s : State) :
    (lockUpdate g newOfs s).mb.cycle = s.mb.cycle ∧ (lockUpdate g newOfs s).mb.freq = s.mb.freq := by
  have htake : (takeSource s).mb.cycle = s.mb.cycle ∧ (takeSource s).mb.freq = s.mb.freq := by
    unfold takeSource enterSlew
    split
    · exact ⟨rfl, rfl⟩
    · dsimp only
      split <;> exact ⟨rfl, rfl⟩
  rw [← htake.1, ← htake.2]
  unfold lockUpdate
  dsimp only
  split
  · exact ⟨rfl, rfl⟩
  · split <;> exact ⟨rfl, rfl⟩
  · exact ⟨rfl, rfl⟩
  · exact ⟨rfl, rfl⟩

/-- The snapshots of the boundary clock, and then the clears. -/
theorem askedDone_reads (snaps : List SnapWait) (clears : List (Bool × Nat × Nat)) (u : State) :
    Reads keep s (forEach clears (fun p s => clearItems p.1 p.2.1 p.2.2 s) (forEach snaps snapLatch u)) ↔ Reads keep s u := by
  simp

theorem askedDone_mb (snaps : List SnapWait) (clears : List (Bool × Nat × Nat)) (u : State) :
    (forEach clears (fun p s => clearItems p.1 p.2.1 p.2.2 s) (forEach snaps snapLatch u)).mb = u.mb :=
  (show Same 67175232 u (forEach clears (fun p s => clearItems p.1 p.2.1 p.2.2 s) (forEach snaps snapLatch u)) by
    simp).part .mb rfl

/-- The new cycle, with the lock updated where the Music Box runs; what was asked for the boundary is done. -/
theorem newCycle_mb (at_ : Nat) (newOfs : Bool) (s : State) :
    (newCycle at_ newOfs s).mb =
        { (if mbRuns s then lockUpdate (refGap (takeSource s) at_) newOfs s else s).mb with
          cycle := (s.mb.cycle + 1) % 2 ^ 32, boundaryAt := at_ } ∧
      (newCycle at_ newOfs s).acc.asked = ([], []) := by
  unfold newCycle
  extract_lets v _ w snaps clears _ x
  have hv : v.mb.cycle = s.mb.cycle := by
    unfold v
    split
    · exact (lockUpdate_counts _ _ s).1
    · rfl
  refine ⟨(askedDone_mb snaps clears _).trans ?_, ((askedDone_reads (keep := true) snaps clears _).2 (reads_refl _)).acc⟩
  show w.mb = _
  rw [← hv]

theorem newCycle_rest (at_ : Nat) (newOfs : Bool) (s : State) : (newCycle at_ newOfs s).ch = s.ch ∧
    (newCycle at_ newOfs s).bus = s.bus ∧ (newCycle at_ newOfs s).cnv = s.cnv ∧ (newCycle at_ newOfs s).pwr = s.pwr ∧
    (newCycle at_ newOfs s).clock = s.clock := by
  have h : Same 67191616 s (newCycle at_ newOfs s) := by simp
  exact ⟨h.part .ch rfl, h.part .bus rfl, h.part .cnv rfl, h.part .pwr rfl, h.part .clock rfl⟩

/-- How the lock moves at a boundary on which neither a new source nor a new offset takes effect (R277 to R279): `x` is the Music
Box before, `y` after it. -/
def Moved (s : State) (g step : Int) (x y : MusicBox) : Prop :=
  (x.lock = .free → y.lock = .free ∧ y.cur = nominal s) ∧
    (x.lock = .holdover → x.holdCnt = 0 → x.lastRef ≠ 0 → y.lock = .holdover ∧ y.cur = x.lastRef) ∧
    (x.lock = .holdover → x.holdCnt ≠ 0 → y.lock = .free ∧ y.cur = nominal s) ∧
    (x.lock = .slew → y.phaseErr = g ∧ y.cur = slewFreq x.refFreq step ∧ y.lock = if g.natAbs ≤ 2 then .locked else .slew) ∧
    (x.lock = .locked → y.phaseErr = g ∧ y.cur = slewFreq x.refFreq step ∧ y.lock = if 16 < g.natAbs then .slew else .locked)

theorem lockUpdate_moves (h : s.mb.srcNew = false) (d : Int) :
    Moved s (wrapPin d) (clampI (-(pget s Prm.DRM_SLEW_PINS)) (pget s Prm.DRM_SLEW_PINS) (wrapPin d)) s.mb
      (lockUpdate d false s).mb := by
  unfold lockUpdate
  rw [takeSource_idle h]
  dsimp only
  refine ⟨fun e => ?_, fun e h0 h1 => ?_, fun e h0 => ?_, fun e => ?_, fun e => ?_⟩
  · rw [e]
    exact ⟨rfl, rfl⟩
  · rw [e]
    dsimp only
    rw [if_pos h0, if_neg h1]
    exact ⟨rfl, rfl⟩
  · rw [e]
    dsimp only
    rw [if_neg h0]
    exact ⟨rfl, rfl⟩
  · rw [e]
    dsimp only
    exact ⟨rfl, rfl, by simp⟩
  · rw [e]
    dsimp only
    exact ⟨rfl, rfl, by simp⟩

/-! ### The checks of the converters (R303, R559) -/

/-- What the check of a reference looks at. -/
def Cnv.watch (k : Grp) (x : Cnv) : Nat × Bool := (x.refBad.get k, x.refFail.get k)

/-- What no check of a reference writes. -/
def Cnv.taken (x : Cnv) : Vector Int 4 × Int × Vector Nat 4 := (x.busMv, x.dieT, x.refUv)

theorem taken_iff {x y : Cnv} : x.taken = y.taken ↔ x.busMv = y.busMv ∧ x.dieT = y.dieT ∧ x.refUv = y.refUv := by
  simp [Cnv.taken]

theorem refCheck_taken (k : Grp) (s : State) : (refCheck k s).cnv.taken = s.cnv.taken := by
  unfold refCheck
  extract_lets uv ok bad good put was c v
  split
  · rw [logEvent_cnv]
    rfl
  · split <;> rfl

theorem refCheck_watch_ne {j k : Grp} (h : j ≠ k) (s : State) : (refCheck k s).cnv.watch j = s.cnv.watch j := by
  unfold refCheck
  extract_lets uv ok bad good put was c v
  split
  · rw [logEvent_cnv]
    simp [Cnv.watch, put, v, c, vput_get_ne _ _ _ _ h]
  · split <;> simp [Cnv.watch, put, v, c, vput_get_ne _ _ _ _ h]

/-- A second cycle outside the window sets REF_FAIL (R303). -/
theorem refCheck_fails {k : Grp} (hout : refIn (s.cnv.refUv.get k) = false) (hbad : 1 ≤ s.cnv.refBad.get k) :
    (refCheck k s).cnv.refFail.get k = true := by
  unfold refCheck
  extract_lets uv ok bad good put was c v
  have hok : ok = false := hout
  have h2 : bad = 2 := by
    simp only [bad, hok, Bool.false_eq_true, if_false]
    omega
  split
  · rw [logEvent_cnv]
    simp [put]
  · next h =>
    have hwas : was = true := by simpa [h2] using h
    rw [if_neg (by simp [good, hok])]
    exact hwas

/-- A second cycle outside the window sets REF_FAIL of each converter, whatever the checks of the others find. -/
theorem forEach_refCheck_fails {k : Grp} {l : List Grp} (hl : l.Nodup) (hout : refIn (s.cnv.refUv.get k) = false) :
    (k ∉ l → (forEach l refCheck s).cnv.watch k = s.cnv.watch k) ∧
      (k ∈ l → 1 ≤ s.cnv.refBad.get k → (forEach l refCheck s).cnv.refFail.get k = true) := by
  induction l generalizing s with
  | nil => exact ⟨fun _ => rfl, fun h => absurd h List.not_mem_nil⟩
  | cons j l ih =>
    obtain ⟨hnot, hl⟩ := List.nodup_cons.1 hl
    have huv : (refCheck j s).cnv.refUv = s.cnv.refUv := congrArg (·.2.2) (refCheck_taken j s)
    obtain ⟨hstay, hfail⟩ := ih hl (s := refCheck j s) (by rw [huv]; exact hout)
    by_cases hkj : k = j
    · subst hkj
      refine ⟨fun h => absurd List.mem_cons_self h, fun _ hbad => ?_⟩
      exact (congrArg Prod.snd (hstay hnot)).trans (refCheck_fails hout hbad)
    · have hw := refCheck_watch_ne hkj s
      refine ⟨fun h => (hstay fun hm => h (List.mem_cons_of_mem j hm)).trans hw, fun h hbad => ?_⟩
      exact hfail ((List.mem_cons.1 h).resolve_left hkj) (by rw [show (refCheck j s).cnv.refBad.get k = _ from congrArg Prod.fst hw]; exact hbad)

/-- The same for all four. -/
theorem allGrp_refCheck_fails (s : State) (k : Grp) (hout : refIn (s.cnv.refUv.get k) = false) (hbad : 1 ≤ s.cnv.refBad.get k) :
    (forEach allGrp refCheck s).cnv.refFail.get k = true := by
  have hnodup : allGrp.Nodup := List.nodup_finRange 4
  have hmem : k ∈ allGrp := List.mem_finRange k
  exact (forEach_refCheck_fails hnodup hout).2 hmem hbad

theorem forEach_refCheck_taken (l : List Grp) (s : State) : (forEach l refCheck s).cnv.taken = s.cnv.taken := by
  induction l generalizing s with
  | nil => rfl
  | cons j l ih => exact (ih _).trans (refCheck_taken j s)

/-- The thermistors and the references of the junction model leave what a boundary has taken. -/
theorem thermistors_reads (inp : BoundaryIn) (s : State) :
    Reads false s (forEach allCh trefCycle (forEach (List.finRange 8) (ntcCycle inp) s)) ∧
      (forEach allCh trefCycle (forEach (List.finRange 8) (ntcCycle inp) s)).pwr = s.pwr :=
  have h : Same 100697920 s (forEach allCh trefCycle (forEach (List.finRange 8) (ntcCycle inp) s)) :=
    (forEach_same fun _ v => (trefCycle_same rfl).2 (same_refl _ v)).2
      ((forEach_same fun _ v => (ntcCycle_same rfl).2 (same_refl _ v)).2 (same_refl _ s))
  ⟨by simp, h.part .pwr rfl⟩

/-- The die test and the rejected pulses leave what a boundary has taken (R195, R559). -/
theorem dieAndPulses_reads (s : State) : Reads false s (forEach allCh rejCycle (dieCheck s)) ∧
    (forEach allCh rejCycle (dieCheck s)).pwr = (dieCheck s).pwr :=
  have h : Same 100665152 (dieCheck s) (forEach allCh rejCycle (dieCheck s)) :=
    (forEach_same fun _ v => (rejCycle_same rfl).2 (same_refl _ v)).2 (same_refl _ _)
  have hdie : Reads false s (dieCheck s) := (reads_of_same ((dieCheck_same rfl).2 (same_refl _ s))).2 (reads_refl s)
  ⟨(forEach_reads _ fun c v => rejCycle_reads c v).2 hdie, h.part .pwr rfl⟩

theorem refChecks_same (s : State) : Same 100698944 s (forEach allGrp refCheck s) :=
  (forEach_same fun _ v => (refCheck_same rfl).2 (same_refl _ v)).2 (same_refl _ s)

/-- What the checks leave of what a boundary has taken, and what they find (R303, R559). -/
structure Checked (s t : State) : Prop where
  ch : ∀ c, (t.chan c).reading = (s.chan c).reading
  bus : t.bus.vMv = s.bus.vMv
  acc : t.acc.asked = s.acc.asked
  mb : t.mb.beat false = s.mb.beat false
  busMv : t.cnv.busMv = s.cnv.busMv
  hold : t.pwr.holdMv = s.pwr.holdMv
  hot : t.pwr.dieHot = (s.pwr.dieHot || decide (8320 ≤ s.cnv.dieT))
  fails : ∀ k : Grp, refIn (s.cnv.refUv.get k) = false → 1 ≤ s.cnv.refBad.get k → t.cnv.refFail.get k = true

theorem cycleChecks_checked (inp : BoundaryIn) (s : State) : Checked s (cycleChecks inp s) := by
  unfold cycleChecks
  extract_lets u v
  obtain ⟨hv, hvpwr⟩ : Reads false s v ∧ v.pwr = s.pwr := thermistors_reads inp s
  clear_value v
  have hw := refChecks_same v
  have htaken := forEach_refCheck_taken allGrp v
  have hfail := allGrp_refCheck_fails v
  generalize forEach allGrp refCheck v = w at *
  obtain ⟨hy, hypwr⟩ := dieAndPulses_reads w
  generalize forEach allCh rejCycle (dieCheck w) = y at *
  obtain ⟨-, hvbus, hvdie, hvuv, hvbad, -, -, -⟩ := cnv_reading_iff.1 hv.cnv
  obtain ⟨hwbus, hwdie, -⟩ := taken_iff.1 htaken
  obtain ⟨-, hybus, -, -, -, hyfail, -, -⟩ := cnv_reading_iff.1 hy.cnv
  have hwpwr : w.pwr = s.pwr := (hw.part .pwr rfl).trans hvpwr
  refine ⟨fun c => ?_, ?_, ?_, ?_, ?_, ?_, ?_, fun k hout hbad => ?_⟩
  · rw [hy.chan c, chan_congr (hw.part .ch rfl) c, hv.chan c]
  · rw [hy.bus, show w.bus = v.bus from hw.part .bus rfl, hv.bus]
  · rw [hy.acc, show w.acc = v.acc from hw.part .acc rfl, hv.acc]
  · rw [hy.mb, show w.mb = v.mb from hw.part .mb rfl, hv.mb]
  · rw [hybus, hwbus, hvbus]
  · rw [hypwr, ← hwpwr]
    rfl
  · rw [hypwr, ← hvdie, ← hwdie, ← hwpwr]
    rfl
  · rw [hyfail]
    exact hfail k (by rw [hvuv]; exact hout) (by rw [hvbad]; exact hbad)

/-! ### The parts of the boundary together (R287) -/

/-- The measurements of the cycle that ends, up to what takes effect at the boundary. -/
def cycleTaken (inp : BoundaryIn) (s : State) : State := noteMeans (cycleMeans inp (cycleCounted s))

/-- The new cycle has begun, with what takes effect at the boundary in force. -/
def cycleBegun (inp : BoundaryIn) (s : State) : State :=
  newCycle (boundaryDue (dispatchTo (4096 * 256) s))
    (decide (pget (cycEffects (cycleTaken inp s)) Prm.DRM_PHASE_OFS ≠ pget (dispatchTo (4096 * 256) s) Prm.DRM_PHASE_OFS))
    (cycEffects (cycleTaken inp s))

/-- The entries of pin 0 have acted, and the measurements are checked. -/
def cycleJudged (inp : BoundaryIn) (s : State) : State :=
  cycleChecks inp (releaseHeld (dispatchZero (xinReturn (cycleBegun inp s))))

/-- What the firmware does at a boundary, for a cycle of `sec` seconds. -/
def firmBoundary (slots : List AccSlot) (sec : Rat) (s : State) : State :=
  let s := if batActs s then condCheck (batCycle slots sec (if s.xam.fitted then crossSums s else s)) else s
  let s := if fwActs s then takeoverCycle (messageZero (firmCycle s)) else s
  if batActs s then holdCycle s else s

theorem boundary_parts (inp : BoundaryIn) (s : State) :
    ∃ slots sec sent, boundary inp s = reportCh s (orderSent sent (firmBoundary slots sec (cycleJudged inp s))) := by
  unfold boundary
  extract_lets s1 due sec ofs v1 sent _ taken v6 slots begun v8 judged
  have htaken : taken = cycleTaken inp s := rfl
  have hbegun : begun = cycleBegun inp s := rfl
  have hjudged : judged = cycleJudged inp s := rfl
  refine ⟨slots, sec, sent, ?_⟩
  rw [← hjudged]
  rfl

theorem firmBoundary_reads (slots : List AccSlot) (sec : Rat) (u : State) :
    Reads false s (firmBoundary slots sec u) ↔ Reads false s u := by
  simp [firmBoundary]

/-- Nothing that follows the checks touches what the boundary has taken, the supply, or the clock. -/
theorem boundary_keeps (inp : BoundaryIn) (s : State) : Reads false (cycleJudged inp s) (boundary inp s) ∧
    (boundary inp s).pwr = (cycleJudged inp s).pwr ∧ (boundary inp s).clock = (cycleJudged inp s).clock := by
  obtain ⟨slots, sec, sent, h⟩ := boundary_parts inp s
  have hsame : Same 8455716861 (cycleJudged inp s) (boundary inp s) := by
    rw [h]
    simp [firmBoundary]
  refine ⟨?_, hsame.part .pwr rfl, hsame.part .clock rfl⟩
  rw [h]
  simp [firmBoundary_reads]

/-! ### What has been taken, part by part -/

theorem cycleCounted_ch (s : State) : (cycleCounted s).ch = s.ch := (cycleCounted_same s).part .ch rfl
theorem cycleCounted_pf (s : State) : (cycleCounted s).pf = s.pf := (cycleCounted_same s).part .pf rfl

theorem cycleTaken_same (inp : BoundaryIn) (s : State) : Same 250337126 s (cycleTaken inp s) := by
  simp only [cycleTaken]
  rw [noteMeans_same rfl, cycleMeans_same rfl]
  exact (cycleCounted_same s).mono rfl

/-- The note of the first means is no reading. -/
theorem cycleTaken_reads (inp : BoundaryIn) (s : State) : Reads true (cycleMeans inp (cycleCounted s)) (cycleTaken inp s) :=
  (noteMeans_reads _).2 (reads_refl _)

theorem cycleTaken_chan (inp : BoundaryIn) (s : State) (c : Ch) :
    ((cycleTaken inp s).chan c).reading = (s.chan c).means (fullScale s c) (inp.ch.get c) := by
  rw [(cycleTaken_reads inp s).chan c, cycleMeans_chan, chan_congr (cycleCounted_ch s), fullScale_congr (cycleCounted_pf s)]

/-- The bus and the converters, as the boundary takes them. -/
theorem cycleTaken_bus (inp : BoundaryIn) (s : State) :
    (cycleTaken inp s).bus.vMv = meanOf (joinMean inp.sense s.cnv.senseSum s.cnv.senseN) s.bus.vMv ∧
      (∀ k, (cycleTaken inp s).cnv.busMv.get k = meanOf (inp.bus.get k) (s.cnv.busMv.get k)) ∧
      (cycleTaken inp s).cnv.dieT = meanOf inp.die16 s.cnv.dieT ∧ (cycleTaken inp s).cnv.refUv = inp.refUv ∧
      (cycleTaken inp s).cnv.refBad = s.cnv.refBad ∧ (cycleTaken inp s).cnv.on = s.cnv.on := by
  obtain ⟨hon, hbus, hdie, huv, hbad, -, -, -⟩ := cnv_reading_iff.1 (cycleTaken_reads inp s).cnv
  obtain ⟨hcnv, hbusMeans, -, -⟩ := cycleMeans_parts inp (cycleCounted s)
  obtain ⟨hcounted, hv, -⟩ := cycleCounted_readings s
  obtain ⟨hon', hbus', hdie', -, hbad', -, hn, hsum⟩ := cnv_reading_iff.1 hcounted
  rw [(cycleTaken_reads inp s).bus, hbus, hdie, huv, hbad, hon, hcnv, hbusMeans]
  refine ⟨?_, fun k => ?_, ?_, rfl, hbad', hon'⟩
  · rw [← hn, ← hsum, ← hv]
    rfl
  · rw [meanBus_busMv, hbus']
  · rw [← hdie']
    rfl

theorem cycleTaken_pwr (inp : BoundaryIn) (s : State) :
    (cycleTaken inp s).pwr.holdMv = inp.holdMv ∧ (cycleTaken inp s).pwr.dieHot = s.pwr.dieHot := by
  obtain ⟨-, -, hpwr, -⟩ := cycleMeans_parts inp (cycleCounted s)
  have h : Same 32 (cycleMeans inp (cycleCounted s)) (cycleTaken inp s) := (noteMeans_same rfl).2 (same_refl _ _)
  have hcounted : (cycleCounted s).pwr = s.pwr := (cycleCounted_same s).part .pwr rfl
  rw [show (cycleTaken inp s).pwr = _ from (h.part .pwr rfl).trans hpwr, ← hcounted]
  exact ⟨rfl, rfl⟩

theorem cycleTaken_mb (inp : BoundaryIn) (s : State) :
    (cycleTaken inp s).mb.beat true = ({ s.mb with freq := s.mb.cur } : MusicBox).beat true := by
  obtain ⟨-, -, -, hmb⟩ := cycleMeans_parts inp (cycleCounted s)
  obtain ⟨-, -, hcounted⟩ := cycleCounted_readings s
  rw [(cycleTaken_reads inp s).mb, hmb, hcounted]

theorem cycleTaken_sys (inp : BoundaryIn) (s : State) : (cycleTaken inp s).sys.mode = s.sys.mode ∧
    (cycleTaken inp s).sys.pupA = s.sys.pupA ∧ (cycleTaken inp s).sys.pupB = s.sys.pupB := by
  have hmeans : (cycleMeans inp (cycleCounted s)).sys = s.sys :=
    (((cycleMeans_same rfl).2 (same_refl 134255616 _)).part .sys rfl).trans ((cycleCounted_same s).part .sys rfl)
  unfold cycleTaken noteMeans
  rw [← hmeans]
  split <;> exact ⟨rfl, rfl, rfl⟩

theorem cycleTaken_clock (inp : BoundaryIn) (s : State) : (cycleTaken inp s).clock = max s.clock (boundaryDue s) := by
  have h : Same 134272032 (cycleEnd s) (cycleTaken inp s) := by
    simp only [cycleTaken, cycleCounted]
    rw [noteMeans_same rfl, cycleMeans_same rfl, cnvCycle_same rfl]
    simp
  rw [show (cycleTaken inp s).clock = _ from h.part .clock rfl, cycleEnd_clock]

/-! ### The boundary as a whole -/

/-- Nothing waits for the boundary any more (R328, R334). -/
theorem cycleBegun_asked (inp : BoundaryIn) (s : State) : (cycleBegun inp s).acc.asked = ([], []) := by
  rw [cycleBegun, (newCycle_mb _ _ _).2]

/-- Between the measurements and the end of the boundary only the checks judge the readings, and only the new cycle moves the
Music Box. -/
theorem boundary_rest (inp : BoundaryIn) (s : State) :
    let v := cycleTaken inp s
    let t := boundary inp s
    (∀ c, (t.chan c).reading = (v.chan c).reading) ∧ t.bus.vMv = v.bus.vMv ∧ t.cnv.busMv = v.cnv.busMv ∧
      t.pwr.holdMv = v.pwr.holdMv ∧ t.pwr.dieHot = (v.pwr.dieHot || decide (8320 ≤ v.cnv.dieT)) ∧
      (∀ k : Grp, refIn (v.cnv.refUv.get k) = false → 1 ≤ v.cnv.refBad.get k → t.cnv.refFail.get k = true) ∧
      t.acc.asked = ([], []) ∧ t.mb.beat false = (cycleBegun inp s).mb.beat false ∧ t.clock = v.clock := by
  intro v t
  let e := cycEffects v
  let b := cycleBegun inp s
  let z := releaseHeld (dispatchZero (xinReturn b))
  have he : Reads false v e := (cycEffects_reads v).2 (reads_refl v)
  have hesame : Same 393344856 v e := (cycEffects_same rfl).2 (same_refl _ v)
  obtain ⟨hbch, hbbus, hbcnv, hbpwr, hbclock⟩ : b.ch = e.ch ∧ b.bus = e.bus ∧ b.cnv = e.cnv ∧ b.pwr = e.pwr ∧ b.clock = e.clock :=
    newCycle_rest _ _ e
  have hbacc : b.acc.asked = ([], []) := cycleBegun_asked inp s
  have hz : Reads false b z := by simp [z]
  have hzsame : Same 8455716861 b z := by simp [z]
  have hj : Checked z (cycleJudged inp s) := cycleChecks_checked inp z
  have hjclock : (cycleJudged inp s).clock = z.clock := ((cycleChecks_same rfl).2 (same_refl 234917696 z)).part .clock rfl
  obtain ⟨ht, htpwr, htclock⟩ : Reads false (cycleJudged inp s) t ∧ t.pwr = _ ∧ t.clock = _ := boundary_keeps inp s
  obtain ⟨-, htbus, -, -, -, htfail, -, -⟩ := cnv_reading_iff.1 ht.cnv
  obtain ⟨-, hzbus, hzdie, hzuv, hzbad, -, -, -⟩ := cnv_reading_iff.1 hz.cnv
  obtain ⟨-, hebus, hedie, heuv, hebad, -, -, -⟩ := cnv_reading_iff.1 he.cnv
  have hpwr : z.pwr = v.pwr := (hzsame.part .pwr rfl).trans (hbpwr.trans (hesame.part .pwr rfl))
  refine ⟨fun c => ?_, ?_, ?_, ?_, ?_, fun k hout hbad => ?_, ?_, ?_, ?_⟩
  · rw [ht.chan c, hj.ch c, hz.chan c, chan_congr hbch, he.chan c]
  · rw [ht.bus, hj.bus, hz.bus, hbbus, he.bus]
  · rw [htbus, hj.busMv, hzbus, hbcnv, hebus]
  · rw [htpwr, hj.hold, hpwr]
  · rw [htpwr, hj.hot, hpwr, hzdie, hbcnv, hedie]
  · rw [htfail]
    exact hj.fails k (by rw [hzuv, hbcnv, heuv]; exact hout) (by rw [hzbad, hbcnv, hebad]; exact hbad)
  · rw [ht.acc, hj.acc, hz.acc, hbacc]
  · rw [ht.mb, hj.mb, hz.mb]
  · rw [htclock, hjclock, show z.clock = b.clock from hzsame.part .clock rfl, hbclock, show e.clock = v.clock from hesame.part .clock rfl]

/-- The place of the new cycle: where the old one was due to end (R271). -/
theorem cycleBegun_mb (inp : BoundaryIn) (s : State) : (cycleBegun inp s).mb.cycle = (s.mb.cycle + 1) % 2 ^ 32 ∧
    (cycleBegun inp s).mb.boundaryAt = boundaryDue s ∧ (cycleBegun inp s).mb.freq = s.mb.cur := by
  let e := cycEffects (cycleTaken inp s)
  have he : Reads false (cycleTaken inp s) e := (cycEffects_reads _).2 (reads_refl _)
  have hbeat := cycleTaken_mb inp s
  have hcycle : e.mb.cycle = s.mb.cycle := (he.beat_eq (·.cycle) fun _ => rfl).trans (congrArg MusicBox.cycle hbeat :)
  have hfreq : e.mb.freq = s.mb.cur := (he.beat_eq (·.freq) fun _ => rfl).trans (congrArg MusicBox.freq hbeat :)
  rw [cycleBegun, dispatchTo_boundaryDue, (newCycle_mb _ _ e).1]
  refine ⟨by rw [← hcycle], rfl, ?_⟩
  rw [← hfreq]
  dsimp only
  split
  · exact (lockUpdate_counts _ _ e).2
  · rfl

theorem dueIds_congr {e : PEff} (hw : t.pw = s.pw) (hf : t.pf = s.pf) : dueIds e t = dueIds e s := by
  simp only [dueIds, pget, pgetW, hw, hf]

/-- What moves the lock is told of the references and of the parameters in force. -/
theorem refGap_congr (hf : t.pf = s.pf) (hmb : t.mb.ref = s.mb.ref ∧ t.mb.refFreq = s.mb.refFreq ∧ t.mb.ac = s.mb.ac ∧ t.mb.sync = s.mb.sync)
    (n : Nat) : refGap t n = refGap s n := by
  obtain ⟨href, hfreq, hac, hsync⟩ := hmb
  simp only [refGap, refQual, pget, hf, href, hfreq, hac, hsync]

/-- The lock of a cycle that begins in `e`, where the Music Box stands as in `s` and nothing new takes effect (R277 to R279). -/
theorem newCycle_moves {e : State} {f at_ : Nat} (hrun : mbRuns e = true) (hsrc : s.mb.srcNew = false) (hpf : e.pf = s.pf)
    (hbeat : e.mb.beat true = ({ s.mb with freq := f } : MusicBox).beat true) :
    Moved s (wrapPin (refGap s at_))
      (clampI (-(pget s Prm.DRM_SLEW_PINS)) (pget s Prm.DRM_SLEW_PINS) (wrapPin (refGap s at_))) s.mb
      (newCycle at_ false e).mb := by
  have hesrc : e.mb.srcNew = false := (congrArg MusicBox.srcNew hbeat :).trans hsrc
  have hlock : e.mb.lock = s.mb.lock := (congrArg MusicBox.lock hbeat :)
  have hcnt : e.mb.holdCnt = s.mb.holdCnt := (congrArg MusicBox.holdCnt hbeat :)
  have hlast : e.mb.lastRef = s.mb.lastRef := (congrArg MusicBox.lastRef hbeat :)
  have hfreq : e.mb.refFreq = s.mb.refFreq := (congrArg MusicBox.refFreq hbeat :)
  have href : e.mb.ref = s.mb.ref := (congrArg MusicBox.ref hbeat :)
  have hac : e.mb.ac = s.mb.ac := (congrArg MusicBox.ac hbeat :)
  have hsync : e.mb.sync = s.mb.sync := (congrArg MusicBox.sync hbeat :)
  have hmove := lockUpdate_moves hesrc (refGap s at_)
  rw [(newCycle_mb at_ false e).1, takeSource_idle hesrc, refGap_congr hpf ⟨href, hfreq, hac, hsync⟩, if_pos hrun]
  simp only [Moved, pget, nominal, pn, hpf, hlock, hcnt, hlast, hfreq] at hmove ⊢
  exact hmove

theorem mbRuns_congr (hmode : t.sys.mode = s.sys.mode) (hA : t.sys.pupA = s.sys.pupA) (hB : t.sys.pupB = s.sys.pupB)
    (hon : t.cnv.on = s.cnv.on) : mbRuns t = mbRuns s := by
  simp only [mbRuns, inSafeKeep, anyPup, hon, hmode, hA, hB]

/-- The Music Box runs on through the measurements and what takes effect at the boundary. -/
theorem cycEffects_cycleTaken_runs (inp : BoundaryIn) (s : State) : mbRuns (cycEffects (cycleTaken inp s)) = mbRuns s := by
  have he : Reads false (cycleTaken inp s) (cycEffects (cycleTaken inp s)) := (cycEffects_reads _).2 (reads_refl _)
  have hsys : (cycEffects (cycleTaken inp s)).sys = (cycleTaken inp s).sys :=
    ((cycEffects_same rfl).2 (same_refl 393344856 _)).part .sys rfl
  obtain ⟨hmode, hA, hB⟩ := cycleTaken_sys inp s
  obtain ⟨-, -, -, -, -, hvon⟩ := cycleTaken_bus inp s
  obtain ⟨hon, -⟩ := cnv_reading_iff.1 he.cnv
  rw [← hsys] at hmode hA hB
  exact mbRuns_congr hmode hA hB (hon.trans hvon)

/-- The lock of the new cycle, when nothing new takes effect at the boundary. -/
theorem cycleBegun_moves (inp : BoundaryIn) (hrun : mbRuns s = true) (hsrc : s.mb.srcNew = false) (hdue : dueIds .cyc s = []) :
    Moved s (wrapPin (refGap s (boundaryDue s)))
      (clampI (-(pget s Prm.DRM_SLEW_PINS)) (pget s Prm.DRM_SLEW_PINS) (wrapPin (refGap s (boundaryDue s)))) s.mb
      (cycleBegun inp s).mb := by
  have hv := cycleTaken_same inp s
  have hvpf : (cycleTaken inp s).pf = s.pf := hv.part .pf rfl
  obtain ⟨he, hepf⟩ := cycEffects_idle ((dueIds_congr (hv.part .pw rfl) hvpf).trans hdue)
  have hd : Same 116118342 s (dispatchTo (4096 * 256) s) := (dispatchTo_same rfl).2 (same_refl _ s)
  have hdpf : (dispatchTo (4096 * 256) s).pf = s.pf := hd.part .pf rfl
  have hrune := (cycEffects_cycleTaken_runs inp s).trans hrun
  have hbeat := he.mb.trans (cycleTaken_mb inp s)
  rw [cycleBegun, dispatchTo_boundaryDue]
  generalize cycEffects (cycleTaken inp s) = e at *
  have hofs : decide (pget e Prm.DRM_PHASE_OFS ≠ pget (dispatchTo (4096 * 256) s) Prm.DRM_PHASE_OFS) = false := by
    simp [pget, hepf, hvpf, hdpf]
  rw [hofs]
  exact newCycle_moves hrune hsrc (hepf.trans hvpf) hbeat

/-- Settles O26, part by part: what the boundary takes, what it judges, and how the lock moves, with all that follows keeping it. -/
theorem aCycleBoundaryEndsOneCycleAndBeginsTheNext : Obligations.ACycleBoundaryEndsOneCycleAndBeginsTheNext := by
  intro s inp hscan
  obtain ⟨hch, hbus, hbusMv, hhold, hhot, hfail, hacc, hmb, hclock⟩ := boundary_rest inp s
  obtain ⟨hv, hvbusMv, hvdie, hvuv, hvbad, -⟩ := cycleTaken_bus inp s
  obtain ⟨hvhold, hvhot⟩ := cycleTaken_pwr inp s
  obtain ⟨hcycle, hat, hfreq⟩ := cycleBegun_mb inp s
  obtain ⟨hclears, hsnaps⟩ := Prod.mk.inj hacc
  have hexec : exec (.cycleBoundary inp) s = .next (boundary inp s) := if_pos hscan
  refine ⟨_, hexec, hclock.trans (cycleTaken_clock inp s), (congrArg MusicBox.cycle hmb :).trans hcycle,
    (congrArg MusicBox.boundaryAt hmb :).trans hat, (congrArg MusicBox.freq hmb :).trans hfreq, fun c => ?_, fun k => ?_,
    hbus.trans hv, hhold.trans hvhold, ?_, fun k hout hbad => ?_, hsnaps, hclears, fun g step hrun hsrc hdue hg hstep => ?_⟩
  · simpa only [Chan.reading, Chan.means, Prod.mk.injEq] using (hch c).trans (cycleTaken_chan inp s c)
  · rw [hbusMv, hvbusMv]
  · rw [hhot, hvhot, hvdie]
  · exact hfail k (by rw [hvuv]; exact hout) (by rw [hvbad]; exact hbad)
  · have hmove := cycleBegun_moves inp hrun hsrc hdue
    have hlock : (boundary inp s).mb.lock = (cycleBegun inp s).mb.lock := (congrArg MusicBox.lock hmb :)
    have hcur : (boundary inp s).mb.cur = (cycleBegun inp s).mb.cur := (congrArg MusicBox.cur hmb :)
    have herr : (boundary inp s).mb.phaseErr = (cycleBegun inp s).mb.phaseErr := (congrArg MusicBox.phaseErr hmb :)
    rw [← hg, ← hstep] at hmove
    rw [hlock, hcur, herr]
    exact hmove

end Sys2Proof.Machine
end

section
/-! The trip rules and the yo-yo of a channel that stands alone: a cause that acts opens it at once, an attempt files its
inrush, and nothing else follows by itself. -/

namespace Sys2Proof.Machine

variable {s t u : State} {c : Ch} {o : Op} {k a n : Nat} {f : Chan → Chan}

/-! ### A channel that goes on standing alone -/

theorem Within.symm (h : Within c s t) : Within c t s :=
  ⟨fun d hd => (h.others d hd).symm, h.frame.symm, h.queue.symm, h.takeover.symm⟩

theorem Within.chp_eq (h : Within c s t) : chp t c = chp s c := by
  funext off
  rw [chp, pget, h.pf, chp, pget]

theorem Within.chn_eq (h : Within c s t) : chn t c = chn s c := funext fun off => chn_congr h.pf c off

/-- What stays within a channel, and begins no inrush on it, leaves it alone. -/
theorem Within.alone (h : Within c s t) (l : Alone c s) (hinr : (t.chan c).inr = none) : Alone c t where
  inr := hinr
  walk := (h.lone l.lone).walk
  queue := (h.lone l.lone).queue
  test := (h.lone l.lone).test
  reload := h.reloads.trans l.reload
  held := by rw [show t.mb = s.mb from h.frame.part .mb rfl, l.held]
  sync := by simpa only [pn, pget, h.pf] using l.sync
  override := by rw [h.tin, l.override]
  black := (h.lone l.lone).black
  takeover := (h.lone l.lone).takeover

theorem Alone.runs (l : Alone c s) (hon : s.cnv.on = true) : runs s c = true := runs_iff.2 ⟨hon, l.reload, l.override⟩

/-- Time passes, and one channel's record is rewritten. -/
theorem modCh_elapse_within (n : Nat) (f : Chan → Chan) (c : Ch) (s : State) :
    Within c s (modCh c f (elapse n s)) ∧ (modCh c f (elapse n s)).chan c = f (s.chan c) :=
  ⟨(elapse_within c n s).trans (modCh_within c f _), by rw [chan_modCh, chan_congr elapse_ch]⟩

/-! ### The trip (R192, R200 to R203) -/

/-- A channel that stands alone opens within its own record (R128). -/
theorem openTo_alone (l : Alone c s) (st : ChSt) (g : Gate) : Within c s (openTo c st g s) ∧
    ∃ b, (openTo c st g s).chan c = { (s.chan c).toLow st g with probe := b } := by
  rw [openTo_still l.toStill]
  obtain ⟨b, hb⟩ := setProbe_chan c (modCh c (fun x => x.toLow st g) s)
  exact ⟨(modCh_within c _ s).trans (setProbe_within c _), b, by rw [hb, chan_modCh]⟩

/-- One cause that acts trips a channel that stands alone. -/
theorem tripIn_alone (l : Alone c s) (hk : k ≤ 15) (ha : actionOf s c k = some a) (h0 : a ≠ 0) :
    Within c s (tripIn (rulesNow s c) [k] c [k] s) ∧ TrippedBy c k a s (tripIn (rulesNow s c) [k] c [k] s) := by
  unfold tripIn
  extract_lets acts top n latch act len yo st opened marked told latched
  have hacts : acts = [(k, a)] := by
    have h : actionIn (roleOf s c) (rulesNow s c) k = some a := ha
    simp [acts, actionsIn, h]
  have htop : top = a := by simp [top, hacts, strongest]
  have hlatch : latch = true ↔ a = 3 ∨ a = 1 ∧ chn s c Chp.RETRY_MAX ≤ (s.chan c).attempts := by simp [latch, htop, n]
  rw [if_neg (by simp [hacts]), if_neg (by rw [htop]; exact h0)]
  obtain ⟨hopen, b, hchan⟩ : Within c s opened ∧ ∃ b, opened.chan c = _ := openTo_alone l st .lowFull
  have htold : Within c s told := (hopen.trans (modCh_within c _ opened)).trans (logEvent_within c _ _ _ _ marked)
  have hlatched : Within c s latched ∧ latched.ch = marked.ch := by
    have hch : told.ch = marked.ch := logEvent_ch
    unfold latched
    split
    · exact ⟨htold.trans (latchRecords_within c told), (latchRecords_ch c told).trans hch⟩
    · exact ⟨htold, hch⟩
  obtain ⟨hw, hch⟩ := hlatched
  rw [endTestOf_none (hw.lone l.lone).test, TrippedBy, chan_congr hch, chan_modCh, hchan]
  refine ⟨hw, ?_, rfl, rfl, ?_, ?_, ?_, rfl, ?_, hw.others⟩
  · show st = _
    simp only [st, hlatch]
  · show causeBits (acts.map Prod.fst) = _
    simp [hacts, causeBits]
  · show firstWith acts top = k
    simp [hacts, htop, firstWith, hk]
  · show act = _
    simp only [act, hlatch, htop]
  · show yo = _
    simp only [yo, hlatch, htop, len, n]

/-- A cause that acts reaches a conducting channel: it trips, and the yo-yo waits for nothing yet (R198). -/
theorem meetCauses_trips (l : Alone c s) (hst : (s.chan c).st.conducts = true) (hk : k ≤ 15) (ha : actionOf s c k = some a)
    (h0 : a ≠ 0) : Within c s (meetCauses c [k] s) ∧ TrippedBy c k a s (meetCauses c [k] s) := by
  obtain ⟨hw, htrip⟩ := tripIn_alone l hk ha h0
  have hmeet : meetIn (rulesNow s c) [k] c [k] s = tripIn (rulesNow s c) [k] c [k] s := by
    have hre : reloads s c = false := l.reload
    have hconducts : conducts s c = true := hst
    rw [meetIn, if_neg (by simp), if_neg (by simp [hre]), if_pos hconducts, if_neg (by simp [l.override])]
  have hretry : retryCauses c [k] (tripIn (rulesNow s c) [k] c [k] s) = tripIn (rulesNow s c) [k] c [k] s :=
    if_pos (.inl htrip.st_ne.2)
  rw [meetCauses, hmeet, hretry, ite_self]
  exact ⟨hw, htrip⟩

/-- A count of the trip rules moves on, and nothing that a trip starts from. -/
structure Chan.Counts (x y : Chan) : Prop where
  inr : y.inr = x.inr
  st : y.st = x.st
  attempts : y.attempts = x.attempts
  trips : y.tripCount = x.tripCount

/-- The event that completes a count trips its channel by the cause of the count. -/
theorem countDone_trips (l : Alone c s) (hst : (s.chan c).st.conducts = true) (hf : (s.chan c).Counts (f (s.chan c)))
    (hk : k ≤ 15) (ha : actionOf s c k = some a) (h0 : a ≠ 0) (n : Nat) :
    TrippedBy c k a s (afterEvents s (meetCauses c [k] (modCh c f (elapse n s)))) := by
  obtain ⟨hw, hchan⟩ := modCh_elapse_within n f c s
  generalize modCh c f (elapse n s) = u at hw hchan ⊢
  rw [← hchan] at hf
  have hact : actionOf u c k = some a := by rw [← ha, actionOf, hw.roleOf, chn_congr hw.pf, actionOf]
  obtain ⟨hin, htrip⟩ := meetCauses_trips (hw.alone l (hf.inr.trans l.inr)) (by rw [hf.st]; exact hst) hk hact h0
  have hch := (hw.trans hin).afterEvents_ch l.lone (autoReady_not (.inr htrip.st_ne.1))
  exact (htrip.of_within hw hf.attempts hf.trips).congr hch

theorem uvCause_le (s : State) (c : Ch) : uvCause s c ≤ 15 := by
  unfold uvCause
  split <;> decide

/-- Every role in use latches on a drive fault (R197, Table 7.2). -/
theorem actionOf_drive (hrole : roleOf s c ≠ .disabled) : actionOf s c 9 = some 3 := by
  unfold actionOf actionIn
  cases hr : roleOf s c with
  | disabled => exact absurd hr hrole
  | source | battery | load | tie => rfl

section
variable (l : Alone c s) (hon : s.cnv.on = true) (hrole : roleOf s c ≠ .disabled) (hst : (s.chan c).st.conducts = true)
include l hon hrole hst

/-- UV_FILTER_EXPIRY (R195). -/
theorem uvFilterExpiry_trips (hmv : chn s c Chp.UV_MV / 50 ≠ 0) (h0 : a ≠ 0) (ha : actionOf s c (uvCause s c) = some a) :
    ∃ t, exec (.uvFilterExpiry c) s = .next t ∧ TrippedBy c (uvCause s c) a s t :=
  ⟨_, if_pos (by simp [hon, hrole, hmv]), countDone_trips l hst ⟨rfl, rfl, rfl, rfl⟩ (uvCause_le s c) ha h0 _⟩

/-- OVERLOAD_EXPIRY (R196). -/
theorem overloadExpiry_trips (hma : chn s c Chp.OL_MA ≠ 0) (h0 : a ≠ 0) (ha : actionOf s c 5 = some a) :
    ∃ t, exec (.overloadExpiry c) s = .next t ∧ TrippedBy c 5 a s t :=
  ⟨_, if_pos (by simp [hon, hrole, hma]), countDone_trips l hst ⟨rfl, rfl, rfl, rfl⟩ (by decide) ha h0 _⟩

/-- DRIVE_FAULT (R197). -/
theorem driveFault_trips {why : DriveWhy} (hleft : driveLeft (s.chan c) why ≠ none) :
    ∃ t, exec (.driveFault ⟨c, why⟩) s = .next t ∧ TrippedBy c 9 3 s t := by
  obtain ⟨n, hn⟩ := Option.ne_none_iff_exists'.1 hleft
  have hexec : exec (.driveFault ⟨c, why⟩) s =
      .next (afterEvents s (meetCauses c [9] (modCh c (driveDone why) (elapse (n * clkUs) s)))) := by
    show execDriveFault ⟨c, why⟩ s = _
    unfold execDriveFault
    dsimp only
    rw [if_pos (by simp [hon, hrole]), hn]
  have hcounts : (s.chan c).Counts (driveDone why (s.chan c)) := by
    cases why <;> exact ⟨rfl, rfl, rfl, rfl⟩
  exact ⟨_, hexec, countDone_trips l hst hcounts (by decide) (actionOf_drive hrole) (by decide) _⟩

end

/-! ### The request of an attempt (R202, R207) -/

/-- A step changes no channel but one, and starts no takeover. -/
structure Spares (c : Ch) (s t : State) : Prop where
  others : ∀ d, d ≠ c → t.chan d = s.chan d
  takeover : t.svc.op = s.svc.op

theorem Spares.trans (h : Spares c s t) (k : Spares c t u) : Spares c s u :=
  ⟨fun d hd => (k.others d hd).trans (h.others d hd), k.takeover.trans h.takeover⟩

theorem Within.spares (h : Within c s t) : Spares c s t := ⟨h.others, h.takeover⟩

section
variable (hcode : o.code = Opn.INRUSH) (hch : o.ch = some c)
include hcode hch

/-- The grant of an inrush writes its channel's token. -/
theorem grantOp_inrush_spares (mc : Nat) (s : State) : Spares c s (grantOp o mc false s) := by
  unfold grantOp
  extract_lets p adm granted told begun asked
  have htold : Quiet true s told ∧ told.ch = s.ch := ⟨by simp [told, granted], (decide_frame p 0 1 granted).part .ch rfl⟩
  have hbegun : Quiet true s begun ∧ begun.ch = s.ch := by
    unfold begun
    split
    · exact ⟨by simp [htold.1], interim_ch.trans htold.2⟩
    · exact htold
  have hasked : asked = begun := if_neg (by decide)
  rw [startOp_token (o := p) (.inl hcode) hch, hasked]
  exact Spares.trans ⟨fun d _ => chan_congr hbegun.2 d, hbegun.1.op⟩ (modCh_within c _ begun).spares

/-- The refusal of an inrush at most ends its channel's wait. -/
theorem refuseOp_inrush_spares (hre : reloads s c = false) (b : Nat) : Spares c s (refuseOp o b s) := by
  unfold refuseOp
  extract_lets adm told dropped failed
  have hcounted : Within c s { s with adm := { adm with refusals := sat32 (s.adm.refusals + 1) } } := grants_within c rfl
  have htold : Within c s told := hcounted.trans (decide_unwaits c o b 3 _).within
  have hdropped : Within c s dropped :=
    htold.trans (dropOp_unwaits (.inl hcode) hch (htold.reloads.trans hre)).within
  have hfailed : Within c s failed :=
    hdropped.trans (within_of_same ((failEvent_same rfl).2 (same_refl _ dropped)) (Quiet.op (by simp [failed])))
  exact (hfailed.trans (opComplete_unwaits c (by rw [hcode]; decide) St.REFUSED b [] failed).within).spares

/-- However the arbiter decides the request of an inrush, the other channels stand. -/
theorem fileOp_inrush_spares (hre : reloads s c = false) : Spares c s (fileOp o s) := by
  have hnumbered : Spares c s (numbered s) := ⟨fun _ _ => rfl, rfl⟩
  rcases fileOp_judged o s with ⟨mc, h⟩ | ⟨b, h⟩ | ⟨b, h⟩
  · rw [h]
    exact hnumbered.trans (grantOp_inrush_spares (o := o.filed s) hcode hch mc (numbered s))
  · rw [h]
    exact ⟨fun d _ => chan_congr (queueOp_decides (o.filed s) b (numbered s)).2.2 d, queueOp_op _ b (numbered s)⟩
  · rw [h]
    exact hnumbered.trans (refuseOp_inrush_spares (o := o.filed s) (s := numbered s) hcode hch hre b)

end

/-- An inrush filed for a channel whose group does not reload leaves the other channels as they stand. -/
theorem fileInrush_spares (filer : Filer) (id : Option Nat) (hre : reloads s c = false) :
    Spares c s (fileInrush c filer id s) := by
  unfold fileInrush
  extract_lets o u
  have hu : Within c s u := by
    rw [show u = waitNow c s from if_neg (by simp [hre])]
    exact modCh_within c _ s
  have hbar : ∀ b, Within c s (modCh c (fun x => { x with barred := b }) u) := fun b => hu.trans (modCh_within c _ u)
  split
  · exact (hbar true).spares.trans (refuseOp_inrush_spares rfl rfl ((hbar true).reloads.trans hre) 0)
  · exact (hbar false).spares.trans (fileOp_inrush_spares rfl rfl ((hbar false).reloads.trans hre))

/-- Where no channel calls for a request by itself, what follows an event drives the outputs and tells the host. -/
theorem afterEvents_frame (hs : Spares c s u) (hb : u.sys.blackStart = false) (ho : u.svc.op = none)
    (ha : autoReady u c = false) : Same 75498304 u (afterEvents s u) := by
  have hblack : blackNext 24 u = u := if_pos (by simp [hb])
  have hfixed : ∀ d ∈ allCh.filter (fun d => (s.chan d).st != (u.chan d).st || (s.chan d).present != (u.chan d).present),
      autoFile d u = u := by
    intro d hd
    by_cases hdc : d = c
    · rw [hdc, autoFile, if_neg (by simp [ha])]
    · have hmoved := (List.mem_filter.1 hd).2
      simp [hs.others d hdc] at hmoved
  unfold afterEvents
  dsimp only
  rw [hblack, forEach_fixed hfixed, handoverEntry_none ho]
  simp

/-- An attempt that begins has filed its inrush, and the arbiter or the firmware has decided it (R202, R207). -/
theorem beginAttempt_files (l : Alone c s) (hauto : chn s c Chp.INRUSH_AUTO ≠ 1) (hw : Within c s u)
    (hrefused : u.adm.refusals = s.adm.refusals) (free : Bool) :
    Filed c s (afterEvents s (beginAttempt free c u)) := by
  let v := modCh c (fun x => { x with retryWait := true, freeTry := free, yoyo := .idle }) u
  have hv : Within c s v := hw.trans (modCh_within c _ u)
  have hre : reloads v c = false := hv.reloads.trans l.reload
  obtain ⟨hop, hdec⟩ := fileInrush_decided (c := c) (s := v) .retry none hre
  have hspares := hv.spares.trans (fileInrush_spares .retry none hre)
  have hsame : Same 372250432 v (fileInrush c .retry none v) := (fileInrush_same rfl).2 (same_refl _ v)
  have hpf : (fileInrush c .retry none v).pf = s.pf := (hsame.part .pf rfl).trans hv.pf
  have hsys : (fileInrush c .retry none v).sys = s.sys := (hsame.part .sys rfl).trans hv.sys
  have hafter := afterEvents_frame hspares (by rw [hsys, l.black]) (hspares.takeover.trans l.takeover)
    (autoReady_not (.inl (by rw [chn_congr hpf]; exact hauto)))
  have hadm : (afterEvents s (beginAttempt free c u)).adm = (fileInrush c .retry none v).adm := hafter.part .adm rfl
  have hch : (afterEvents s (beginAttempt free c u)).ch = (fileInrush c .retry none v).ch := hafter.part .ch rfl
  rw [Filed, hadm, chan_congr hch, ← hrefused]
  exact ⟨hop, hdec⟩

/-! ### The yo-yo (R201, R202, R205) -/

theorem extMet_congr (hpf : t.pf = s.pf) (hfl : t.fl = s.fl) : extMet t c = extMet s c := by
  have hactive : flActive t = flActive s := by
    funext line
    simp only [flActive, flIsOut, flCfg, pn, pget, hpf, hfl]
  simp only [extMet, hactive, linesOf, flFunc, flArg, flCfg, pn, pget, hpf]

theorem inrushModes_congr (hpf : t.pf = s.pf) (hsys : t.sys = s.sys) (filer : Filer) :
    inrushModes t c filer = inrushModes s c filer := by
  simp only [inrushModes, roleOf, chp, pget, hpf, hsys]

/-- Neither the clock nor the yo-yo tells which causes are met, nor whether an attempt may begin. -/
theorem metCauses_congr (hw : Within c s t) {y : Yoyo} (hx : t.chan c = { s.chan c with yoyo := y }) :
    metCauses t c = metCauses s c := by
  have hext : extMet t c = extMet s c := extMet_congr hw.pf (hw.frame.part .fl rfl)
  have huv : uvCause t c = uvCause s c := by rw [uvCause, hw.roleOf, uvCause]
  unfold metCauses uvMet
  rw [hx, hext, huv, hw.chn_eq, hw.chp_eq]

theorem attemptReady_congr (hw : Within c s t) {y : Yoyo} (hx : t.chan c = { s.chan c with yoyo := y }) :
    attemptReady t c = attemptReady s c := by
  have hwait : waitMet t c = waitMet s c := by
    simp only [waitMet, actionOf, metCauses_congr hw hx, hw.roleOf, hw.chn_eq]
  rw [attemptReady, hwait, hx, hw.chp_eq, inrushModes_congr hw.pf hw.sys]
  rfl

theorem waitClear_congr (hw : Within c s t) (hx : t.chan c = s.chan c) : waitClear t c = waitClear s c := by
  have hext : extMet t c = extMet s c := extMet_congr hw.pf (hw.frame.part .fl rfl)
  simp only [waitClear, actionOf, hx, hext, hw.roleOf, hw.chn_eq]

/-- The UV comparator has read inactive for the whole filter `filt` (R205). -/
def Chan.cleared (filt : Nat) (x : Chan) : Chan := { x with fUv := false, uvRun := 0, clearRun := max x.clearRun filt }

section
variable (l : Alone c s) (hon : s.cnv.on = true) (hst : (s.chan c).st = .tripped) (hauto : chn s c Chp.INRUSH_AUTO ≠ 1)
include l hon hst

theorem retryAttempt_exec (hyo : (s.chan c).yoyo = .delay n) :
    let u := modCh c (fun x => { x with yoyo := .ready }) (elapse (n * clkUs) s)
    exec (.retryAttempt c) s = .next (afterEvents s (if attemptReady s c then beginAttempt false c u else u)) := by
  intro u
  obtain ⟨hw, hchan⟩ : Within c s u ∧ u.chan c = _ := modCh_elapse_within _ _ c s
  rw [← attemptReady_congr hw hchan]
  show execRetryAttempt c s = _
  unfold execRetryAttempt
  extract_lets x go
  rw [if_pos (by simp [x, hst, l.runs hon]), show x.yoyo = .delay n from hyo]

/-- WAIT_CLEARED judges the channel as the run of its filter leaves it; the time that the run takes tells nothing. -/
theorem waitCleared_exec (hyo : (s.chan c).yoyo = .waiting) :
    let filt := chn s c Chp.UV_FILT_US
    let u := modCh c (Chan.cleared filt) s
    let t := modCh c (Chan.cleared filt) (elapse ((filt - (s.chan c).clearRun) * clkUs) s)
    exec (.waitCleared c) s =
      .next (afterEvents s (if (waitClear u c && attemptReady u c) = true then beginAttempt true c t else t)) := by
  intro filt u t
  obtain ⟨hw, hchan⟩ : Within c s t ∧ t.chan c = _ := modCh_elapse_within _ _ c s
  have hu : Within c u t := (modCh_within c _ s).symm.trans hw
  have hx : t.chan c = u.chan c := hchan.trans (chan_modCh c _ s).symm
  rw [← waitClear_congr hu hx, ← attemptReady_congr hu (y := (u.chan c).yoyo) hx]
  exact if_pos (by simp [hst, hyo, l.runs hon])

include hauto

/-- RETRY_ATTEMPT with a condition of R202 still open. -/
theorem retryAttempt_stands (hyo : (s.chan c).yoyo = .delay n) (hready : attemptReady s c = false) :
    ∃ t, exec (.retryAttempt c) s = .next t ∧ (t.chan c).st = .tripped ∧ (t.chan c).yoyo = .ready := by
  obtain ⟨hw, hchan⟩ := modCh_elapse_within (n * clkUs) (fun x => { x with yoyo := .ready }) c s
  have hch := hw.afterEvents_ch l.lone (autoReady_not (.inl (by rw [chn_congr hw.pf]; exact hauto)))
  refine ⟨_, (retryAttempt_exec l hon hst hyo).trans (by rw [if_neg (by simp [hready])]), ?_⟩
  rw [chan_congr hch, hchan]
  exact ⟨hst, rfl⟩

/-- RETRY_ATTEMPT with the conditions of R202. -/
theorem retryAttempt_files (hyo : (s.chan c).yoyo = .delay n) (hready : attemptReady s c = true) :
    ∃ t, exec (.retryAttempt c) s = .next t ∧ Filed c s t :=
  ⟨_, (retryAttempt_exec l hon hst hyo).trans (by rw [if_pos hready]),
    beginAttempt_files l hauto (modCh_elapse_within _ _ c s).1 (congrArg Adm.refusals elapse_adm) false⟩

section
variable (hyo : (s.chan c).yoyo = .waiting) (hu : u = modCh c (Chan.cleared (chn s c Chp.UV_FILT_US)) s)
include hyo hu

/-- WAIT_CLEARED with the cause cleared and the conditions of R202. -/
theorem waitCleared_files (hclear : waitClear u c = true) (hready : attemptReady u c = true) :
    ∃ t, exec (.waitCleared c) s = .next t ∧ Filed c s t := by
  subst hu
  exact ⟨_, (waitCleared_exec l hon hst hyo).trans (by rw [if_pos (by simp [hclear, hready])]),
    beginAttempt_files l hauto (modCh_elapse_within _ _ c s).1 (congrArg Adm.refusals elapse_adm) true⟩

/-- WAIT_CLEARED with the cause still met, or with a condition of R202 still open. -/
theorem waitCleared_stands (hnot : waitClear u c = false ∨ attemptReady u c = false) :
    ∃ t, exec (.waitCleared c) s = .next t ∧ (t.chan c).st = .tripped ∧ (t.chan c).yoyo = .waiting := by
  subst hu
  let filt := chn s c Chp.UV_FILT_US
  obtain ⟨hw, hchan⟩ := modCh_elapse_within ((filt - (s.chan c).clearRun) * clkUs) (Chan.cleared filt) c s
  have hch := hw.afterEvents_ch l.lone (autoReady_not (.inl (by rw [chn_congr hw.pf]; exact hauto)))
  refine ⟨_, (waitCleared_exec l hon hst hyo).trans (by rw [if_neg (by rcases hnot with h | h <;> simp [h])]), ?_⟩
  rw [chan_congr hch, hchan]
  exact ⟨hst, hyo⟩

end

end

/-- RETRY_COUNT_RESET (R204). -/
theorem retryCountReset_resets (hst : (s.chan c).st ∈ [ChSt.on, .diode, .armed]) :
    ∃ t, exec (.retryCountReset c) s = .next t ∧ SameBut (.ch :: passing) s t ∧ (t.chan c).attempts = 0 ∧
      t.clock = max s.clock ((s.chan c).closedAt.getD s.clock + chn s c Chp.RETRY_RESET_S * clkS) ∧
      ∀ d, d ≠ c → t.chan d = s.chan d := by
  let due := (s.chan c).closedAt.getD s.clock + chn s c Chp.RETRY_RESET_S * clkS
  obtain ⟨hw, hchan⟩ := modCh_elapse_within (due - s.clock) (fun x => { x with attempts := 0 }) c s
  have hexec : exec (.retryCountReset c) s = .next (modCh c (fun x => { x with attempts := 0 }) (elapseTo due s)) :=
    if_pos (by simpa [or_assoc] using hst)
  have htouches : ∀ p ∈ [Part.clock, .ch, .xam, .tmr], p ∈ Part.ch :: passing := by decide
  have hframe : SameBut (.ch :: passing) s _ := fun p hp => exec_sameBut hexec p fun hm => hp (htouches p hm)
  refine ⟨_, hexec, hframe, congrArg Chan.attempts hchan, ?_, hw.others⟩
  show (elapse (due - s.clock) s).clock = max s.clock due
  rw [elapse_clock]
  omega

/-! ### The obligation -/

/-- Settles O25: each count that is completed trips its channel, each attempt files its inrush once it is ready. -/
theorem tripsAndRetriesOfAChannel : Obligations.TripsAndRetriesOfAChannel := by
  intro s c
  refine ⟨fun l hon hrole => ⟨fun hst => ?_, fun hst hauto => ?_⟩, retryCountReset_resets⟩
  · exact ⟨fun a hmv h0 ha => uvFilterExpiry_trips l hon hrole hst hmv h0 ha,
      fun a hma h0 ha => overloadExpiry_trips l hon hrole hst hma h0 ha,
      fun why hleft => driveFault_trips l hon hrole hst hleft⟩
  · exact ⟨fun n hyo => ⟨fun hready => retryAttempt_stands l hon hst hauto hyo hready,
        fun hready _ => retryAttempt_files l hon hst hauto hyo hready⟩,
      fun u hyo hu => ⟨fun hclear hready _ => waitCleared_files l hon hst hauto hyo hu hclear hready,
        waitCleared_stands l hon hst hauto hyo hu⟩⟩

end Sys2Proof.Machine
end

section
/-! The references of the Music Box: crossings and edges that qualify the AC input and SYNC, and their losses. -/

namespace Sys2Proof.Machine

variable {s u : State} {keep : Bool}

/-! ### The reference follows the qualifications (R272, R274, R279) -/

/-- What following a reference leaves in the Music Box: the qualifications, the mains, their losses and the cycle. -/
def MusicBox.inputs (x : MusicBox) : Qual × Qual × Bool × Nat × Nat := (x.ac, x.sync, x.mains, x.lossCount, x.cycle)

theorem inputs_iff {x y : MusicBox} : x.inputs = y.inputs ↔
    x.ac = y.ac ∧ x.sync = y.sync ∧ x.mains = y.mains ∧ x.lossCount = y.lossCount ∧ x.cycle = y.cycle := by
  simp [MusicBox.inputs]

theorem followRef_inputs (s : State) : (followRef s).mb.inputs = s.mb.inputs := by
  unfold followRef
  extract_lets r0 r1 v
  have hv : v.mb.inputs = s.mb.inputs := by
    unfold v
    split_ifs <;> rfl
  split
  · exact hv
  · exact hv

theorem firstError_inputs (old s : State) : (firstError old s).mb.inputs = s.mb.inputs := by
  unfold firstError
  split <;> rfl

/-- No qualified source is left: the reference in use is lost, and the cycle goes on in HOLDOVER (R279). -/
theorem followRef_lost (hr : s.mb.ref ≠ 0) (ha : s.mb.ac.ok = false) (hs : s.mb.sync.ok = false) :
    (followRef s).mb.ref = 0 ∧ (followRef s).mb.lock = .holdover ∧ (followRef s).mb.holdCnt = 0 := by
  have hq : (refQual s s.mb.ref).ok = false := by
    unfold refQual
    split <;> assumption
  have hsel : selRef s = 0 := by
    unfold selRef
    split <;> simp [ha, hs]
  have hf : followRef s = enterHoldover s := by
    unfold followRef
    simp [hq, hsel, hr, enterHoldover]
  rw [hf]
  exact ⟨rfl, rfl, rfl⟩

/-- The clock comes to an instant at which the Music Box has taken something up, and the reference follows (R272). -/
def followed (at_ : Nat) (x : MusicBox) (s : State) : State :=
  firstError (passTo at_ s) (followRef { passTo at_ s with mb := x })

theorem followed_inputs (at_ : Nat) (x : MusicBox) (s : State) : (followed at_ x s).mb.inputs = x.inputs := by
  rw [followed, firstError_inputs, followRef_inputs]

theorem followed_frame (at_ : Nat) (x : MusicBox) (s : State) : Same 109724482 s (followed at_ x s) := by
  unfold followed
  simp

theorem followed_clock (at_ : Nat) (x : MusicBox) (s : State) : (followed at_ x s).clock = max s.clock at_ := by
  have h : Same 16384 (passTo at_ s) (followed at_ x s) := by
    unfold followed
    simp
  rw [show (followed at_ x s).clock = (passTo at_ s).clock from h.part .clock rfl, passTo_clock]

/-! ### The mains come and go (R232, R275, Table 2.2) -/

theorem setMains_true (s : State) : (setMains true s).mb = { s.mb with mains := true } := by
  simp [setMains]

theorem setMains_false (s : State) : (setMains false s).mb =
    { s.mb with mains := false, lossCount := sat32 (s.mb.lossCount + 1), lostAt := s.clock, ac := s.mb.ac.lose } := by
  simp [setMains]

theorem setMains_clock (up : Bool) (s : State) : (setMains up s).clock = s.clock :=
  (show Same 109069120 s (setMains up s) by simp).part .clock rfl

@[simp ↓] theorem enterBridge_reads (u : State) : Reads false s (enterBridge u) ↔ Reads false s u := by
  simp [enterBridge]

@[simp ↓] theorem answerTakeover_reads (st result budget : Nat) (u : State) :
    Reads keep s (answerTakeover st result budget u) ↔ Reads keep s u := reads_of_same (by simp)

@[simp ↓] theorem leaveHandover_reads (u : State) : Reads false s (leaveHandover u) ↔ Reads false s u := by
  unfold leaveHandover
  extract_lets op v w x
  have hx : Reads false s x ↔ Reads false s u := by simp [x, w]
  clear_value op
  cases op <;> simp [hx]

@[simp ↓] theorem abortTakeover_reads (result : Nat) (u : State) : Reads false s (abortTakeover result u) ↔ Reads false s u := by
  unfold abortTakeover
  split
  · rfl
  · simp [restartPup]

@[simp ↓] theorem loseMains_reads (u : State) : Reads false s (loseMains u) ↔ Reads false s u := by
  simp [loseMains]

theorem enterBridge_modes (hm : s.sys.mode ∈ [Mode.online, .recharge, .maintain]) :
    (enterBridge s).sys.modes = (.bridge, s.sys.mode) := by
  simp only [List.mem_cons, List.not_mem_nil, or_false] at hm
  have hne : s.sys.mode ≠ .bridge := by rcases hm with h | h | h <;> simp [h]
  have hrow : s.sys.mode = .online ∨ s.sys.mode = .maintain ∨ s.sys.mode = .recharge ∨ s.sys.mode = .handover := by tauto
  rw [enterBridge, if_pos hrow]
  extract_lets strobe t
  have ht : t.sys.modes = (.bridge, s.sys.mode) := enterMode_modes hne
  split
  · exact ht
  · exact ((show Same 4096 t (stepTo t.bus.stageEff t) by simp).part .mode rfl).trans ht

theorem loseMains_modes (hm : s.sys.mode ∈ [Mode.online, .recharge, .maintain]) :
    (loseMains s).sys.modes = (.bridge, s.sys.mode) := by
  have hb : (enterBridge s).sys.modes = (.bridge, s.sys.mode) := enterBridge_modes hm
  have hbm : (enterBridge s).sys.mode = .bridge := congrArg Prod.fst hb
  rw [loseMains, if_pos hbm, abortTakeover_modes (by simp [hbm]), hb]

/-- A loss declared in a mode that the mains feed (R232, R275). -/
theorem declareLost_bridges (hm : s.sys.mode ∈ [Mode.online, .recharge, .maintain]) :
    (declareLost s).mb.mains = false ∧ (declareLost s).mb.lossCount = sat32 (s.mb.lossCount + 1) ∧
      (declareLost s).mb.ac.ok = false ∧ (declareLost s).sys.modes = (.bridge, s.sys.mode) := by
  let u := followRef (setMains false s)
  have hsys : u.sys = s.sys := (show Same 109069120 s u by simp [u]).part .sys rfl
  have hreads : Reads false u (declareLost s) := by simp [declareLost, u]
  have hin := followRef_inputs (setMains false s)
  rw [setMains_false, inputs_iff] at hin
  obtain ⟨hac, -, hmains, hcount, -⟩ := hin
  refine ⟨?_, ?_, ?_, ?_⟩
  · exact (hreads.beat_eq (·.mains) fun _ => rfl).trans hmains
  · exact (hreads.beat_eq (·.lossCount) fun _ => rfl).trans hcount
  · rw [hreads.beat_eq (·.ac) fun _ => rfl, hac]
    rfl
  · rw [← hsys]
    exact loseMains_modes (hsys ▸ hm)

/-! ### Crossings of the AC input (R273 to R275) -/

theorem acCrossing_invalid {ns : Nat} {a b : Int} (hv : crossingValid s a b = false) :
    exec (.acCrossing ⟨ns, a, b⟩) s = .next s :=
  if_pos (by simp [hv])

section
variable {ns : Nat} {a b : Int} {q : Qual} (hr : scanRuns s = true)
  (hq : q = s.mb.ac.edge (pn s Prm.DRM_LOCK_CYC) ns (edgeTime s s.mb.ac ns)) (hv : crossingValid s a b = true)
include hr hq hv

/-- A valid crossing: the reference follows the qualification, and then the mains are judged. -/
theorem acCrossing_valid {t : State} (ht : t = followed (edgeTime s s.mb.ac ns) { s.mb with ac := q } s) :
    exec (.acCrossing ⟨ns, a, b⟩) s = .next (if s.mb.mains && decide (pn s Prm.DRM_LOCK_CYC ≤ q.bad) then declareLost t
      else if q.ok && !s.mb.mains then setMains true t else t) := by
  obtain ⟨-, -, hmains, -, -⟩ := inputs_iff.1 (followed_inputs (edgeTime s s.mb.ac ns) { s.mb with ac := q } s)
  rw [← ht] at hmains
  have hmains : t.mb.mains = s.mb.mains := hmains
  rw [← hmains]
  subst hq ht
  show execAcCrossing _ s = _
  unfold execAcCrossing followed
  rw [if_neg (by simp [hr, hv])]
  simp only [passTo_mb]

theorem acCrossing_qualifies (hkept : s.mb.mains = false ∨ q.bad < pn s Prm.DRM_LOCK_CYC) :
    ∃ t, exec (.acCrossing ⟨ns, a, b⟩) s = .next t ∧ SameBut (.mb :: passing) s t ∧ t.mb.ac = q ∧ t.mb.sync = s.mb.sync ∧
      t.mb.cycle = s.mb.cycle ∧ t.mb.mains = (s.mb.mains || q.ok) ∧ t.clock = max s.clock (edgeTime s s.mb.ac ns) := by
  let t := followed (edgeTime s s.mb.ac ns) { s.mb with ac := q } s
  have hno : ¬(s.mb.mains && decide (pn s Prm.DRM_LOCK_CYC ≤ q.bad)) = true := by
    rcases hkept with h | h <;> simp [h]
  obtain ⟨hac, hsync, hmains, -, hcycle⟩ := inputs_iff.1 (followed_inputs (edgeTime s s.mb.ac ns) { s.mb with ac := q } s)
  have hframe : Same 109724482 s t := followed_frame _ _ _
  have hclock : t.clock = max s.clock (edgeTime s s.mb.ac ns) := followed_clock _ _ _
  refine ⟨_, (acCrossing_valid hr hq hv rfl).trans (by rw [if_neg hno]), ?_⟩
  split
  · next hup =>
    obtain ⟨hok, -⟩ := Bool.and_eq_true_iff.1 hup
    refine ⟨?_, ?_⟩
    · exact (show Same 109724482 s (setMains true t) by simp [hframe]).sameBut rfl
    · rw [setMains_true, setMains_clock]
      exact ⟨hac, hsync, hcycle, by simp [hok], hclock⟩
  · next hup =>
    have hor : s.mb.mains = (s.mb.mains || q.ok) := by
      revert hup
      cases s.mb.mains <;> simp
    exact ⟨hframe.sameBut rfl, hac, hsync, hcycle, hmains.trans hor, hclock⟩

theorem acCrossing_loses (hup : s.mb.mains = true) (hbad : pn s Prm.DRM_LOCK_CYC ≤ q.bad)
    (hm : s.sys.mode ∈ [Mode.online, .recharge, .maintain]) :
    ∃ t, exec (.acCrossing ⟨ns, a, b⟩) s = .next t ∧ t.mb.mains = false ∧ t.mb.ac.ok = false ∧
      t.sys.modes = (.bridge, s.sys.mode) := by
  let t := followed (edgeTime s s.mb.ac ns) { s.mb with ac := q } s
  have hsys : t.sys = s.sys := (followed_frame _ _ _).part .sys rfl
  obtain ⟨hmains, -, hok, hmodes⟩ := declareLost_bridges (s := t) (hsys ▸ hm)
  exact ⟨_, (acCrossing_valid hr hq hv rfl).trans (by rw [if_pos (by simp [hup, hbad])]), hmains, hok, by rw [hmodes, hsys]⟩

end

/-! ### Edges of SYNC_IN (R273, R274, R279) -/

theorem syncEdge_invalid {ns lo hi : Nat} (hv : edgeValid s lo hi = false) : exec (.syncEdge ⟨ns, lo, hi⟩) s = .next s :=
  if_pos (by simp [hv])

theorem syncEdge_qualifies {ns lo hi : Nat} {q : Qual} (hr : scanRuns s = true)
    (hq : q = s.mb.sync.edge (pn s Prm.DRM_LOCK_CYC) ns (edgeTime s s.mb.sync ns)) (hv : edgeValid s lo hi = true) :
    ∃ t, exec (.syncEdge ⟨ns, lo, hi⟩) s = .next t ∧ SameBut (.mb :: passing) s t ∧
      t.mb.mains = s.mb.mains ∧ t.mb.ac = s.mb.ac ∧ t.clock = max s.clock (edgeTime s s.mb.sync ns) ∧
      t.mb.sync = if q.ok = true ∧ pn s Prm.DRM_LOCK_CYC ≤ q.bad then q.lose else q := by
  let p := if q.ok = true ∧ pn s Prm.DRM_LOCK_CYC ≤ q.bad then q.lose else q
  let t := followed (edgeTime s s.mb.sync ns) { s.mb with sync := p } s
  obtain ⟨hac, hsync, hmains, -, -⟩ := inputs_iff.1 (followed_inputs (edgeTime s s.mb.sync ns) { s.mb with sync := p } s)
  have hexec : exec (.syncEdge ⟨ns, lo, hi⟩) s = .next t := by
    subst hq
    show execSyncEdge _ s = _
    unfold execSyncEdge t followed
    rw [if_neg (by simp [hr, hv])]
    simp only [passTo_mb, p]
  exact ⟨t, hexec, (followed_frame _ _ _).sameBut rfl, hmains, hac, followed_clock _ _ _, hsync⟩

/-! ### Losses that are declared (R275, R279) -/

theorem mainsLost_declared (hr : scanRuns s = true) (hup : s.mb.mains = true) {cause : LossCause}
    (hf : cause = .frequency → pn s Prm.DRM_LOCK_CYC ≤ s.mb.ac.bad) (ha : ∀ pins, cause = .amplitude pins → 4096 ≤ pins) :
    ∃ v, exec (.mainsLost cause) s = .next (declareLost v) ∧ v.mb = s.mb ∧ v.sys = s.sys := by
  show ∃ v, execMainsLost cause s = _ ∧ _
  unfold execMainsLost
  rw [if_neg (by simp [hr, hup])]
  cases cause with
  | frequency => exact ⟨s, congrArg _ (if_pos (hf rfl)), rfl, rfl⟩
  | amplitude pins => exact ⟨s, congrArg _ (if_pos (ha pins rfl)), rfl, rfl⟩
  | crossings => exact ⟨_, rfl, passTo_mb, passTo_sys⟩

theorem mainsLost_bridges (hr : scanRuns s = true) (hup : s.mb.mains = true)
    (hm : s.sys.mode ∈ [Mode.online, .recharge, .maintain]) {cause : LossCause}
    (hf : cause = .frequency → pn s Prm.DRM_LOCK_CYC ≤ s.mb.ac.bad) (ha : ∀ pins, cause = .amplitude pins → 4096 ≤ pins) :
    ∃ t, exec (.mainsLost cause) s = .next t ∧ t.mb.mains = false ∧ t.mb.lossCount = sat32 (s.mb.lossCount + 1) ∧
      t.mb.ac.ok = false ∧ t.sys.modes = (.bridge, s.sys.mode) := by
  obtain ⟨v, hexec, hmb, hsys⟩ := mainsLost_declared hr hup hf ha
  have hlost := declareLost_bridges (s := v) (hsys ▸ hm)
  rw [hmb, hsys] at hlost
  exact ⟨_, hexec, hlost⟩

theorem mainsLost_already (hup : s.mb.mains = false) (cause : LossCause) : exec (.mainsLost cause) s = .next s :=
  if_pos (by simp [hup])

/-- A criterion of R275 that is not met declares nothing. -/
theorem mainsLost_unmet {cause : LossCause} (h : cause = .frequency ∧ s.mb.ac.bad < pn s Prm.DRM_LOCK_CYC ∨
    ∃ pins < 4096, cause = .amplitude pins) : exec (.mainsLost cause) s = .next s := by
  show execMainsLost cause s = _
  unfold execMainsLost
  split
  · rfl
  · rcases h with ⟨rfl, hlt⟩ | ⟨pins, hlt, rfl⟩
    · exact congrArg _ (if_neg (by omega))
    · exact congrArg _ (if_neg (by omega))

theorem syncLost_loses (hr : scanRuns s = true) (hok : s.mb.sync.ok = true) :
    ∃ t, exec .syncLost s = .next t ∧ SameBut (.mb :: passing) s t ∧ t.mb.sync.ok = false ∧
      (s.mb.ref = 2 → s.mb.ac.ok = false → t.mb.ref = 0 ∧ t.mb.lock = .holdover ∧ t.mb.holdCnt = 0) := by
  let v := passTo (s.mb.sync.edgeAt.getD s.clock + pinSpan s 6144) s
  let w := { v with mb := { v.mb with sync := v.mb.sync.lose } }
  have hmb : v.mb = s.mb := passTo_mb
  obtain ⟨-, hsync, -, -, -⟩ := inputs_iff.1 (followRef_inputs w)
  refine ⟨followRef w, if_neg (by simp [hr, hok]), ?_, ?_, fun href hac => ?_⟩
  · exact (show Same 109724482 s (followRef w) by simp [w, v]).sameBut rfl
  · rw [hsync]
    rfl
  · have hwref : w.mb.ref = 2 := (congrArg MusicBox.ref hmb).trans href
    exact followRef_lost (by rw [hwref]; decide) ((congrArg (·.ac.ok) hmb).trans hac) rfl

/-- Settles O31: each crossing, edge and loss changes the qualification that it names, and the mains follow the AC input. -/
theorem theReferencesQualifyAndAreLost : Obligations.TheReferencesQualifyAndAreLost := by
  intro s hr
  refine ⟨fun ns a b q hq => ⟨acCrossing_invalid, fun hv => acCrossing_qualifies hr hq hv, fun hv hup hbad _ hm => ?_⟩,
    fun ns lo hi q hq => ⟨syncEdge_invalid, syncEdge_qualifies hr hq⟩,
    fun cause hup hm _ hf ha => mainsLost_bridges hr hup hm hf ha, mainsLost_already, fun hlt => ?_, fun pins hlt => ?_,
    syncLost_loses hr⟩
  · exact acCrossing_loses hr hq hv hup hbad hm
  · exact mainsLost_unmet (.inl ⟨rfl, hlt⟩)
  · exact mainsLost_unmet (.inr ⟨pins, hlt, rfl⟩)

end Sys2Proof.Machine
end

section
/-! The dispatch of the drum: when an entry acts, and what each action leaves (R282 to R292, Table 10.5). -/

namespace Sys2Proof.Machine

variable {s u : State} {e x : Fin 256} {key a : Nat}

/-! ### The entries of a cycle, in order (R282, R287) -/

theorem mem_putInOrder {l : List (Fin 256)} : x ∈ putInOrder s e l ↔ x = e ∨ x ∈ l := by
  induction l with
  | nil => simp [putInOrder]
  | cons y l ih =>
    rw [putInOrder]
    split
    · simp
    · simp only [List.mem_cons, ih]
      tauto

theorem mem_foldr_putInOrder {l : List (Fin 256)} : x ∈ l.foldr (putInOrder s) [] ↔ x ∈ l := by
  induction l with
  | nil => simp
  | cons y l ih => rw [List.foldr_cons, mem_putInOrder, ih, List.mem_cons]

/-- The entries dispatched up to a place: those that act, not yet dispatched, up to it. -/
theorem mem_entriesTo : x ∈ entriesTo s key ↔ (s.mb.nextKey ≤ entryKey s x ∧ entryKey s x ≤ key) ∧ entryActs s x = true := by
  rw [entriesTo, mem_foldr_putInOrder]
  simp

/-- An entry whose turn it is not, or that has been dispatched with all in front of it, does nothing (R282, R287). -/
theorem atEntry_idle (h : entryActs s e = false ∨ entriesTo s (entryKey s e) = []) (a : Nat) : atEntry e a s = s := by
  unfold atEntry dispatchTo
  rcases h with h | h
  · simp [h]
  · simp [h, forEach]

section
variable (hrun : mbRuns s = true) (hnext : entriesTo s (entryKey s e) = [e]) (ha : drumAction (drumWord s e.val) = a)
include hrun hnext ha

/-- The next entry of the cycle is dispatched alone. -/
theorem atEntry_next : atEntry e a s = runEntry e s := by
  have hacts : entryActs s e = true := (mem_entriesTo.1 (by rw [hnext]; exact List.mem_singleton_self e)).2
  rw [atEntry, if_pos (by simp [ha, hacts]), dispatchTo, if_pos hrun, hnext]
  rfl

end

/-! ### The pin of an entry (R270, R285 to R287) -/

/-- Its clock is reached. -/
def reached (e : Fin 256) (s : State) : State := passTo (pinClock s (drumPin (drumWord s e.val))) s

/-- The entry has been dispatched: those after it follow. -/
def passedBy (s : State) (e : Fin 256) (u : State) : State := { u with mb := { u.mb with nextKey := entryKey s e + 1 } }

theorem runEntry_eq (e : Fin 256) (s : State) :
    runEntry e s = passedBy s e (pinMessage e (entryHw (drumWord s e.val) (reached e s))) := rfl

theorem drumWord_congr (h : u.pf = s.pf) (n : Nat) : drumWord u n = drumWord s n := by
  rw [drumWord, drumPairs, h, drumWord, drumPairs]

theorem pinEntries_congr (hpf : u.pf = s.pf) (hmb : u.mb = s.mb) (pin : Nat) : pinEntries u pin = pinEntries s pin := by
  unfold pinEntries entryActs drumTurn
  simp only [drumWord_congr hpf, hmb]

theorem entryHw_pf (w : Nat) (s : State) : (entryHw w s).pf = s.pf :=
  (show Same 643076 s (entryHw w s) by simp).part .pf rfl

/-- Only PROBE and SETPOINT bear on the message of their pin. -/
theorem pinMessage_mute (h3 : drumAction (drumWord u e.val) ≠ 3) (h4 : drumAction (drumWord u e.val) ≠ 4) : pinMessage e u = u := by
  refine if_pos (.inl fun hlast => ?_)
  have hmem := List.mem_of_getLast? hlast
  simp [pinEntries, h3, h4] at hmem

end Sys2Proof.Machine
end

section
/-! What each action of the drum does at its pin, as the next entry of the cycle (Table 10.5). -/

namespace Sys2Proof.Machine

variable {s u : State} {e : Fin 256} {w arg : Nat}

/-- An entry that is neither PROBE nor SETPOINT carries no message. -/
theorem runEntry_mute (hw : w = drumWord s e.val) (h3 : drumAction w ≠ 3) (h4 : drumAction w ≠ 4) :
    runEntry e s = passedBy s e (entryHw w (reached e s)) := by
  subst hw
  have hpf : (entryHw (drumWord s e.val) (reached e s)).pf = s.pf := (entryHw_pf _ _).trans passTo_pf
  rw [runEntry_eq, pinMessage_mute] <;> rwa [drumWord_congr hpf]

/-! ### CONVERT -/

/-- A start request reaches an idle sequencer (R309). -/
theorem convertEntry_starts (hrun : mbRuns u = true) {k : Grp} {n : Fin 32} (hk : k.val = arg / 32 % 4) (hn : n.val = arg % 32)
    (hidle : (u.cnv.seq.get k).run = none) (hurg : (u.cnv.seq.get k).urgent = false) :
    ((convertEntry arg u).cnv.seq.get k).run = some (startRun (u.cnv.seq.get k) n n) := by
  obtain ⟨k, hk4⟩ := k
  obtain ⟨n, hn32⟩ := n
  dsimp only at hk hn
  subst hk hn
  have hruns : (u.cnv.on && !seqHalted u) = true := by
    simp only [mbRuns, Bool.and_eq_true] at hrun
    simp [seqHalted, hrun]
  rw [convertEntry, requestStart, if_pos hruns]
  simp [modSeq, startReq, hidle, hurg]

theorem drumConvert_starts (hrun : mbRuns s = true) (hw : w = drumWord s e.val) (hnext : entriesTo s (entryKey s e) = [e])
    (ha : drumAction w = 1) {k : Grp} {n : Fin 32} (hk : k.val = drumArg w / 32 % 4) (hn : n.val = drumArg w % 32)
    (hidle : (s.cnv.seq.get k).run = none) (hurg : (s.cnv.seq.get k).urgent = false) :
    ∃ t, exec (.drumConvert e) s = .next t ∧ SameBut ([.cnv, .mb] ++ passing) s t ∧
      t.clock = max s.clock (pinClock s (drumPin w)) ∧ t.mb = { s.mb with nextKey := entryKey s e + 1 } ∧
      (t.cnv.seq.get k).run = some (startRun (s.cnv.seq.get k) n n) := by
  have hcnv : (reached e s).cnv = s.cnv := passTo_cnv
  have hrun' : mbRuns (reached e s) = true :=
    (mbRuns_congr (by simp [reached]) (by simp [reached]) (by simp [reached]) (by rw [hcnv])).trans hrun
  have heq : runEntry e s = passedBy s e (convertEntry (drumArg w) (reached e s)) := by
    rw [runEntry_mute hw (by simp [ha]) (by simp [ha]), entryHw, ha]
    rfl
  have hmb : (convertEntry (drumArg w) (reached e s)).mb = s.mb :=
    ((show Same 32768 (reached e s) _ by simp).part .mb rfl).trans passTo_mb
  have hstart := convertEntry_starts hrun' hk hn (by rwa [hcnv]) (by rwa [hcnv])
  rw [hcnv] at hstart
  refine ⟨runEntry e s, congrArg _ (atEntry_next hrun hnext (hw ▸ ha)), ?_, by rw [hw, runEntry_clock], ?_, ?_⟩
  · rw [heq]
    exact (show Same 109757250 s _ by simp [passedBy, reached]).sameBut rfl
  · rw [heq, passedBy, hmb]
  · rw [heq]
    exact hstart

/-! ### TRACK (R330) -/

/-- The windows of one bank close and open anew. -/
theorem closeBank_trk (b : Fin 12) (u : State) (i : Fin 96) : (closeBank b u).acc.trk.get i =
    if bankOfTrk i = b ∧ (u.acc.bank.get b).frozen = false ∧ (u.acc.bank.get b).post = false then
      { live := TrkWin.empty, closed := (u.acc.trk.get i).live }
    else u.acc.trk.get i := by
  unfold closeBank
  split
  · next h =>
    have h : ((u.acc.bank.get b).frozen || (u.acc.bank.get b).post) = true := h
    rw [if_neg fun ⟨_, hf, hp⟩ => by simp [hf, hp] at h]
  · next h =>
    have h : ¬((u.acc.bank.get b).frozen || (u.acc.bank.get b).post) = true := h
    obtain ⟨hf, hp⟩ : (u.acc.bank.get b).frozen = false ∧ (u.acc.bank.get b).post = false := by simpa using h
    show (List.foldl _ u.acc.trk _).get i = _
    rw [foldl_vmod_get (p := fun i => bankOfTrk i = b) (List.nodup_finRange 96)]
    simp [hf, hp]

theorem closeBank_bank (b : Fin 12) (u : State) : (closeBank b u).acc.bank = u.acc.bank := by
  unfold closeBank
  split <;> rfl

theorem forEach_closeBank_trk {l : List (Fin 12)} (hl : l.Nodup) (u : State) (i : Fin 96) :
    (forEach l closeBank u).acc.trk.get i =
      if bankOfTrk i ∈ l ∧ (u.acc.bank.get (bankOfTrk i)).frozen = false ∧ (u.acc.bank.get (bankOfTrk i)).post = false then
        { live := TrkWin.empty, closed := (u.acc.trk.get i).live }
      else u.acc.trk.get i := by
  induction l generalizing u with
  | nil => simp [forEach]
  | cons b l ih =>
    obtain ⟨hb, hl⟩ := List.nodup_cons.1 hl
    rw [forEach, ih hl, closeBank_bank, closeBank_trk]
    by_cases hi : bankOfTrk i = b
    · subst hi
      simp [hb]
    · simp [hi]

theorem drumTrack_closes (hrun : mbRuns s = true) (hw : w = drumWord s e.val) (hnext : entriesTo s (entryKey s e) = [e])
    (ha : drumAction w = 2) :
    ∃ t, exec (.drumTrack e) s = .next t ∧ SameBut ([.acc, .mb] ++ passing) s t ∧
      ∀ i : Fin 96, t.acc.trk.get i =
        if bankOfTrk i ∈ trackBanks (drumArg w) ∧ (s.acc.bank.get (bankOfTrk i)).frozen = false ∧
            (s.acc.bank.get (bankOfTrk i)).post = false then
          { live := TrkWin.empty, closed := (s.acc.trk.get i).live }
        else s.acc.trk.get i := by
  have hacc : (reached e s).acc = s.acc := passTo_acc
  have heq : runEntry e s = passedBy s e (forEach (trackBanks (drumArg w)) closeBank (reached e s)) := by
    rw [runEntry_mute hw (by simp [ha]) (by simp [ha]), entryHw, ha]
    rfl
  have hnodup : (trackBanks (drumArg w)).Nodup := (List.nodup_finRange 12).filter _
  refine ⟨runEntry e s, congrArg _ (atEntry_next hrun hnext (hw ▸ ha)), ?_, fun i => ?_⟩
  · rw [heq]
    exact (show Same 109790018 s _ by simp [passedBy, reached]).sameBut rfl
  · rw [heq]
    exact (forEach_closeBank_trk hnodup (reached e s) i).trans (by rw [hacc])

/-! ### PROBE (R283, R284, R286) -/

/-- The pattern that a PROBE names takes the sign of its operation, and nothing else of the Music Box changes. -/
theorem probeEntry_mb (arg : Nat) (u : State) : ∃ up : Bool, (probeEntry arg u).mb = { u.mb with
    pat := vmod u.mb.pat ⟨arg % 4, Nat.mod_lt _ (by decide)⟩ (patternOp (fieldOf arg 2 2) up) } := by
  unfold probeEntry
  dsimp only
  split <;> exact ⟨_, rfl⟩

theorem pinMessage_mb (e : Fin 256) (u : State) : (pinMessage e u).mb = u.mb :=
  (show Same 6295552 u (pinMessage e u) by simp).part .mb rfl

/-- From 0 a toggle goes to one sign or the other (the model's choice, log 76). -/
theorem patternOp_toggle_zero (up : Bool) : patternOp 0 up 0 = 1 ∨ patternOp 0 up 0 = -1 := by
  cases up <;> decide

theorem patternOp_toggle {v : Int} (h : v ≠ 0) (up : Bool) : patternOp 0 up v = -v := if_neg h

theorem drumProbe_signs (hrun : mbRuns s = true) (hw : w = drumWord s e.val) (hnext : entriesTo s (entryKey s e) = [e])
    (ha : drumAction w = 3) {k : Fin 4} (hk : k.val = drumArg w % 4) :
    ∃ t, exec (.drumProbe e) s = .next t ∧ SameBut ([.mb, .freeCtr, .bus, .bat, .shb] ++ passing) s t ∧
      t.mb.notes = s.mb.notes ∧
      (fieldOf (drumArg w) 2 2 = 1 → t.mb.pat.get k = 1) ∧ (fieldOf (drumArg w) 2 2 = 2 → t.mb.pat.get k = -1) ∧
      (fieldOf (drumArg w) 2 2 = 3 → t.mb.pat.get k = 0) ∧
      (fieldOf (drumArg w) 2 2 = 0 → s.mb.pat.get k ≠ 0 → t.mb.pat.get k = -(s.mb.pat.get k)) ∧
      (fieldOf (drumArg w) 2 2 = 0 → s.mb.pat.get k = 0 → t.mb.pat.get k = 1 ∨ t.mb.pat.get k = -1) ∧
      ∀ j, j ≠ k → t.mb.pat.get j = s.mb.pat.get j := by
  obtain ⟨up, hmb⟩ := probeEntry_mb (drumArg w) (reached e s)
  obtain rfl : k = ⟨drumArg w % 4, Nat.mod_lt _ (by decide)⟩ := Fin.ext hk
  rw [show (reached e s).mb = s.mb from passTo_mb] at hmb
  have heq : runEntry e s = passedBy s e (pinMessage e (probeEntry (drumArg w) (reached e s))) := by
    rw [runEntry_eq, ← hw, entryHw, ha]
    rfl
  have hpat : (runEntry e s).mb.pat = vmod s.mb.pat ⟨drumArg w % 4, Nat.mod_lt _ (by decide)⟩
      (patternOp (fieldOf (drumArg w) 2 2) up) := by
    rw [heq, passedBy, pinMessage_mb, hmb]
  have hget : (runEntry e s).mb.pat.get ⟨drumArg w % 4, Nat.mod_lt _ (by decide)⟩ =
      patternOp (fieldOf (drumArg w) 2 2) up (s.mb.pat.get ⟨drumArg w % 4, Nat.mod_lt _ (by decide)⟩) := by
    rw [hpat, vmod_get_same]
  refine ⟨runEntry e s, congrArg _ (atEntry_next hrun hnext (hw ▸ ha)), ?_, ?_, ?_⟩
  · rw [heq]
    exact (show Same 116020038 s _ by simp [passedBy, reached]).sameBut rfl
  · rw [heq, passedBy, pinMessage_mb, hmb]
  · rw [hget]
    refine ⟨fun h => by rw [h]; rfl, fun h => by rw [h]; rfl, fun h => by rw [h]; rfl,
      fun h hne => by rw [h, patternOp_toggle hne], fun h hz => ?_, fun j hj => ?_⟩
    · rw [h, hz]
      exact patternOp_toggle_zero up
    · rw [hpat, vmod_get_ne _ _ _ _ hj]

/-! ### SETPOINT (R235, R283, R286) -/

theorem foldl_vput_get {α β : Type} {n : Nat} {key : β → Fin n} {val : β → α} {l : List β} {c : Fin n} (h : ∀ p ∈ l, key p ≠ c)
    (v : Vector α n) : (l.foldl (fun v p => vput v (key p) (val p)) v).get c = v.get c := by
  induction l generalizing v with
  | nil => rfl
  | cons p l ih =>
    rw [List.foldl_cons, ih fun q hq => h q (List.mem_cons_of_mem _ hq)]
    exact vput_get_ne _ _ _ _ (h p (List.mem_cons_self ..)).symm

/-- A correction is no longer due once it is made, and it leaves the trims outside S. -/
theorem shareCorrect_trims (u : State) : (shareCorrect u).bus.shareDue = false ∧
    ∀ c : Ch, c ∉ shareSet u → (shareCorrect u).bus.trim.get c = u.bus.trim.get c := by
  unfold shareCorrect
  extract_lets l worst raw m trim
  split
  · exact ⟨rfl, fun _ _ => rfl⟩
  · refine ⟨rfl, fun c hc => foldl_vput_get (key := Prod.fst) (fun p hp => ?_) _⟩
    obtain ⟨d, hd, rfl⟩ := List.mem_map.1 hp
    exact fun h => hc (h ▸ hd)

theorem sendSets_bus (u : State) : ∃ r, (sendSets u).bus = { u.bus with rectOff := r } := by
  unfold sendSets
  generalize allCh = l
  induction l generalizing u with
  | nil => exact ⟨u.bus.rectOff, rfl⟩
  | cons c l ih =>
    obtain ⟨r, hr⟩ := sendSet_bus c u
    obtain ⟨r', hr'⟩ := ih (sendSet c u)
    exact ⟨r', by rw [forEach, hr', hr]⟩

theorem fwActs_passTo (at_ : Nat) (s : State) : fwActs (passTo at_ s) = fwActs s := by
  have hq : Quiet true s (passTo at_ s) := by simp
  unfold fwActs anyPup
  rw [passTo_sys, passTo_tin, hq.eq Svc.halted fun _ => rfl]

theorem shareSet_passTo (at_ : Nat) (s : State) : shareSet (passTo at_ s) = shareSet s := by
  unfold shareSet inSet
  simp [roleOf, chp, pget, State.chan, shareW, pn, devAnswers, devBound, devAddr, devLow, ownGenLo]

/-- The only entry of its pin is a SETPOINT with SHARE: the correction that is due is made and sent. -/
theorem pinMessage_shares (hpin : pinEntries u (drumPin (drumWord u e.val)) = [e]) (ha : drumAction (drumWord u e.val) = 4)
    (hfw : fwActs u = true) (hshare : (drumArg (drumWord u e.val)).testBit 0 = true) (hdue : u.bus.shareDue = true) :
    pinMessage e u = sendSets (shareCorrect u) := by
  have hodd : drumArg (drumWord u e.val) % 2 = 1 := by simpa using hshare
  unfold pinMessage
  simp [hpin, ha, hfw, hodd, hdue]

theorem drumSetpoint_corrects (hrun : mbRuns s = true) (hw : w = drumWord s e.val) (hnext : entriesTo s (entryKey s e) = [e])
    (ha : drumAction w = 4) (hpin : pinEntries s (drumPin w) = [e]) (hfw : fwActs s = true)
    (hshare : (drumArg w).testBit 0 = true) (hdue : s.bus.shareDue = true) :
    ∃ t, exec (.drumSetpoint e) s = .next t ∧ SameBut ([.bus, .shb, .bat, .mb] ++ passing) s t ∧ t.bus.shareDue = false ∧
      ∀ c : Ch, c ∉ shareSet s → t.bus.trim.get c = s.bus.trim.get c := by
  let u := reached e s
  have hpf : u.pf = s.pf := passTo_pf
  have hbus : u.bus = s.bus := passTo_bus
  have hword : drumWord u e.val = w := (drumWord_congr hpf _).trans hw.symm
  have heq : runEntry e s = passedBy s e (sendSets (shareCorrect u)) := by
    have hhw : entryHw w u = u := by
      rw [entryHw, ha]
      rfl
    rw [runEntry_eq, ← hw, show entryHw w (reached e s) = u from hhw]
    refine congrArg (passedBy s e) (pinMessage_shares ?_ (hword ▸ ha) ((fwActs_passTo _ s).trans hfw) (hword ▸ hshare) (hbus ▸ hdue))
    rw [hword, pinEntries_congr hpf passTo_mb, hpin]
  obtain ⟨hdone, htrim⟩ := shareCorrect_trims u
  obtain ⟨r, hr⟩ := sendSets_bus (shareCorrect u)
  refine ⟨runEntry e s, congrArg _ (atEntry_next hrun hnext (hw ▸ ha)), ?_, ?_, fun c hc => ?_⟩
  · rw [heq]
    exact (show Same 116020034 s _ by simp [passedBy, u, reached]).sameBut rfl
  · rw [heq, passedBy, hr]
    exact hdone
  · rw [heq, passedBy, hr, ← hbus]
    exact htrim c (by rwa [show shareSet u = shareSet s from shareSet_passTo _ s])

/-! ### SHED (R231, R283) -/

theorem shedEntry_latches (h0 : arg.testBit 0 = true) (h1 : arg.testBit 1 = false) (hpend : u.bus.stepPending = true)
    (hat : u.bus.stepAt = none) (hnow : u.bus.stepNow = none) (hstage : u.bus.stage < 4) :
    shedEntry arg u = { u with bus := { u.bus with stepPending := false, stepNow := some (u.bus.stage + 1) } } := by
  have hgo : ¬(!u.bus.stepPending || !stepGapOver u || decide (4 ≤ u.bus.stage)) = true := by
    simp [hpend, stepGapOver, hat, hstage]
  unfold shedEntry carryStep
  rw [if_pos h0, if_neg hgo, if_neg (by simp [h1]), hnow]
  rfl

theorem drumShed_latches (hrun : mbRuns s = true) (hw : w = drumWord s e.val) (hnext : entriesTo s (entryKey s e) = [e])
    (ha : drumAction w = 5) (h0 : (drumArg w).testBit 0 = true) (h1 : (drumArg w).testBit 1 = false)
    (hpend : s.bus.stepPending = true) (hat : s.bus.stepAt = none) (hnow : s.bus.stepNow = none) (hstage : s.bus.stage < 4) :
    ∃ t, exec (.drumShed e) s = .next t ∧ SameBut ([.bus, .mb] ++ passing) s t ∧
      t.bus = { s.bus with stepPending := false, stepNow := some (s.bus.stage + 1) } := by
  have hbus : (reached e s).bus = s.bus := passTo_bus
  have heq : runEntry e s = passedBy s e (shedEntry (drumArg w) (reached e s)) := by
    rw [runEntry_mute hw (by simp [ha]) (by simp [ha]), entryHw, ha]
    rfl
  refine ⟨runEntry e s, congrArg _ (atEntry_next hrun hnext (hw ▸ ha)), ?_, ?_⟩
  · rw [heq]
    exact (show Same 109728578 s _ by simp [passedBy, reached]).sameBut rfl
  · rw [← hbus] at hpend hat hnow hstage ⊢
    rw [heq, shedEntry_latches h0 h1 hpend hat hnow hstage]
    rfl

/-! ### SWITCH (R290) -/

theorem switchEntry_due (h : arg % 32 < 24) (u : State) : (switchEntry arg u).mb.held =
    u.mb.held.map fun x => if x.ch.val = arg % 32 then { x with due := true } else x := by
  rw [switchEntry, dif_pos h]
  simp [heldMoment, Fin.ext_iff]

theorem drumSwitch_due (hrun : mbRuns s = true) (hw : w = drumWord s e.val) (hnext : entriesTo s (entryKey s e) = [e])
    (ha : drumAction w = 6) (hch : drumArg w % 32 < 24) :
    ∃ t, exec (.drumSwitch e) s = .next t ∧ SameBut (.mb :: passing) s t ∧
      t.mb.held = s.mb.held.map fun h => if h.ch.val = drumArg w % 32 then { h with due := true } else h := by
  have hmb : (reached e s).mb = s.mb := passTo_mb
  have heq : runEntry e s = passedBy s e (switchEntry (drumArg w) (reached e s)) := by
    rw [runEntry_mute hw (by simp [ha]) (by simp [ha]), entryHw, ha]
    rfl
  refine ⟨runEntry e s, congrArg _ (atEntry_next hrun hnext (hw ▸ ha)), ?_, ?_⟩
  · rw [heq]
    exact (show Same 109724482 s _ by simp [passedBy, reached]).sameBut rfl
  · rw [heq, ← hmb]
    exact switchEntry_due hch (reached e s)

/-! ### NOTIFY (R292) -/

theorem setNote_notes (k : Nat) (u : State) : (setNote k u).mb.notes = u.mb.notes ||| 2 ^ k := by
  unfold setNote
  split
  · next h =>
    refine Nat.eq_of_testBit_eq fun j => ?_
    rw [Nat.testBit_or, Nat.testBit_two_pow]
    by_cases hj : k = j
    · subst hj
      simp [h]
    · simp [hj]
  · let v := { u with mb := { u.mb with notes := u.mb.notes ||| 2 ^ k } }
    exact congrArg MusicBox.notes ((show Same 524288 v (startBy (16 + k) true v) by simp).part .mb rfl)

theorem drumNotify_notes (hrun : mbRuns s = true) (hw : w = drumWord s e.val) (hnext : entriesTo s (entryKey s e) = [e])
    (ha : drumAction w = 7) :
    ∃ t, exec (.drumNotify e) s = .next t ∧ SameBut ([.mb, .tmr] ++ passing) s t ∧
      t.mb.notes = s.mb.notes ||| 2 ^ (drumArg w % 16) := by
  have hmb : (reached e s).mb = s.mb := passTo_mb
  have heq : runEntry e s = passedBy s e (setNote (drumArg w % 16) (reached e s)) := by
    rw [runEntry_mute hw (by simp [ha]) (by simp [ha]), entryHw, ha]
    rfl
  refine ⟨runEntry e s, congrArg _ (atEntry_next hrun hnext (hw ▸ ha)), ?_, ?_⟩
  · rw [heq]
    exact (show Same 109724482 s _ by simp [passedBy, reached]).sameBut rfl
  · rw [heq, ← hmb]
    exact setNote_notes _ (reached e s)

end Sys2Proof.Machine
end

section
/-! What a shedding step waits on stands through a tick: the stage, the step and the restoration that the next tick carries out,
the moment of the last step, and the overrides. Neither the arbiter, nor a channel, nor a change of mode touches them. One law for each
operation, of the shape of the laws of `Same`, `Quiet` and `Reads`. -/

namespace Sys2Proof.Machine

variable {s t u : State}

/-- The stage of shedding, the step and the restoration that wait for a tick, and the moment of the last step (R231, R233). -/
@[simp] abbrev Bus.pace (x : Bus) : Nat × Option Nat × Option Nat × Bool := (x.stage, x.stepNow, x.stepAt, x.restoreNow)

/-- Two states agree in what a shedding step waits on. -/
structure Paced (s t : State) : Prop where
  bus : t.bus.pace = s.bus.pace
  override : t.tin.override = s.tin.override

@[simp] theorem paced_refl (s : State) : Paced s s := ⟨rfl, rfl⟩

theorem Paced.trans (h : Paced s t) (k : Paced t u) : Paced s u := ⟨k.bus.trans h.bus, k.override.trans h.override⟩

theorem Paced.symm (h : Paced s t) : Paced t s := ⟨h.bus.symm, h.override.symm⟩

/-- The form in which `simp` peels an operation off. -/
theorem Paced.peel (h : Paced t u) : Paced s u ↔ Paced s t := ⟨fun x => x.trans h.symm, fun x => x.trans h⟩

/-- Other parts change: all but the bus and the Tin Soldier. -/
theorem paced_of_same (h : Same 8589922303 t u) : Paced s u ↔ Paced s t :=
  Paced.peel ⟨congrArg Bus.pace (h.part .bus rfl), congrArg Tin.override (h.part .tin rfl)⟩

/-- An update that keeps the pace. -/
@[simp ↓] theorem paced_mk {b c d e f g h i j k l m n o p q r v w x y z a' b' c'} {bus : Bus} {tin : Tin}
    (hbus : bus.pace = u.bus.pace) (htin : tin.override = u.tin.override) :
    Paced s ⟨u.pending, b, c, d, e, f, g, h, i, j, k, l, bus, tin, m, n, o, p, q, r, v, w, x, y, z, a', b', c'⟩ ↔ Paced s u :=
  Paced.peel ⟨hbus, htin⟩

@[simp ↓] theorem paced_ite {c : Prop} [Decidable c] {a b : State} :
    Paced s (if c then a else b) ↔ if c then Paced s a else Paced s b := by split <;> rfl

@[simp ↓] theorem forEach_paced {α : Type} {f : α → State → State} (l : List α) (k : ∀ a v, Paced s (f a v) ↔ Paced s v) :
    Paced s (forEach l f u) ↔ Paced s u := by
  induction l generalizing u with
  | nil => rfl
  | cons a l ih => rw [forEach, ih, k]

/-! ### Operations on other parts -/

@[simp ↓] theorem setIrq_paced (k : Nat) (u : State) : Paced s (setIrq k u) ↔ Paced s u := paced_of_same (by simp)
@[simp ↓] theorem complete_paced (id st : Nat) (body : List Word) (u : State) :
    Paced s (complete id st body u) ↔ Paced s u := paced_of_same (by simp)
@[simp ↓] theorem interim_paced (id st : Nat) (body : List Word) (u : State) :
    Paced s (interim id st body u) ↔ Paced s u := paced_of_same (by simp)
@[simp ↓] theorem begin_paced (id : Nat) (u : State) : Paced s (begin_ id u) ↔ Paced s u := paced_of_same (by simp)
@[simp ↓] theorem logEvent_paced (code sev obj : Nat) (data : List Nat) (u : State) :
    Paced s (logEvent code sev obj data u) ↔ Paced s u := paced_of_same (by simp)
@[simp ↓] theorem queueWrite_paced (rtype inst : Nat) (u : State) :
    Paced s (queueWrite rtype inst u) ↔ Paced s u := paced_of_same (by simp)
@[simp ↓] theorem putF_paced (id : Nat) (v : Int) (u : State) : Paced s (putF id v u) ↔ Paced s u := paced_of_same (by simp)
@[simp ↓] theorem notifyAll_paced (op : Nat) (body : List Word) (u : State) :
    Paced s (notifyAll op body u) ↔ Paced s u := paced_of_same (by simp)
@[simp ↓] theorem ntfAdmit_paced (o : Op) (budget : Nat) (u : State) :
    Paced s (ntfAdmit o budget u) ↔ Paced s u := paced_of_same (by simp)
@[simp ↓] theorem opComplete_paced (o : Op) (st budget : Nat) (more : List Word) (u : State) :
    Paced s (opComplete o st budget more u) ↔ Paced s u := paced_of_same (by simp)
@[simp ↓] theorem decide_paced (o : Op) (budget dec : Nat) (u : State) :
    Paced s (decide_ o budget dec u) ↔ Paced s u := paced_of_same (by simp)
@[simp ↓] theorem failEvent_paced (o : Op) (budget : Nat) (u : State) :
    Paced s (failEvent o budget u) ↔ Paced s u := paced_of_same (by simp)
@[simp ↓] theorem modCh_paced (c : Ch) (f : Chan → Chan) (u : State) :
    Paced s (modCh c f u) ↔ Paced s u := paced_of_same (by simp)
@[simp ↓] theorem modPup_paced (p : Pup) (f : Pupp → Pupp) (u : State) :
    Paced s (modPup p f u) ↔ Paced s u := paced_of_same (by simp)
@[simp ↓] theorem setProbe_paced (c : Ch) (u : State) : Paced s (setProbe c u) ↔ Paced s u := paced_of_same (by simp)
@[simp ↓] theorem putGrant_paced (c : Ch) (g : Option (Nat × Nat)) (u : State) :
    Paced s (putGrant c g u) ↔ Paced s u := paced_of_same (by simp)
@[simp ↓] theorem putOff_paced (a : ChAct) (c : Ch) (u : State) :
    Paced s (putOff a c u) ↔ Paced s u := paced_of_same (by simp)
@[simp ↓] theorem setOpen_paced (id : Nat) (f : List Ch → List Ch) (u : State) :
    Paced s (setOpen id f u) ↔ Paced s u := paced_of_same (by simp)
@[simp ↓] theorem waitNow_paced (c : Ch) (u : State) : Paced s (waitNow c u) ↔ Paced s u := paced_of_same (by simp)
@[simp ↓] theorem unwait_paced (c : Ch) (u : State) : Paced s (unwait c u) ↔ Paced s u := paced_of_same (by simp)
@[simp ↓] theorem unwaitNow_paced (c : Ch) (u : State) : Paced s (unwaitNow c u) ↔ Paced s u := paced_of_same (by simp)
@[simp ↓] theorem armNow_paced (c : Ch) (u : State) : Paced s (armNow c u) ↔ Paced s u := paced_of_same (by simp)
@[simp ↓] theorem disarmNow_paced (c : Ch) (u : State) : Paced s (disarmNow c u) ↔ Paced s u := paced_of_same (by simp)
@[simp ↓] theorem beginTest_paced (o : Op) (u : State) : Paced s (beginTest o u) ↔ Paced s u := paced_of_same (by simp)
@[simp ↓] theorem queueOp_paced (o : Op) (budget : Nat) (u : State) :
    Paced s (queueOp o budget u) ↔ Paced s u := paced_of_same (by simp)
@[simp ↓] theorem sendRectSet_paced (c : Ch) (mv : Int) (limit : Option Nat) (cmd : Nat) (u : State) :
    Paced s (sendRectSet c mv limit cmd u) ↔ Paced s u := paced_of_same (by simp)
@[simp ↓] theorem latchRecords_paced (c : Ch) (u : State) : Paced s (latchRecords c u) ↔ Paced s u := paced_of_same (by simp)
@[simp ↓] theorem recordCh_paced (c : Ch) (met : List Nat) (u : State) :
    Paced s (recordCh c met u) ↔ Paced s u := paced_of_same (by simp)
@[simp ↓] theorem joinTrip_paced (c : Ch) (met : List Nat) (u : State) :
    Paced s (joinTrip c met u) ↔ Paced s u := paced_of_same (by simp)
@[simp ↓] theorem lpExit_paced (g : Grp) (u : State) : Paced s (lpExit g u) ↔ Paced s u := paced_of_same (by simp)
@[simp ↓] theorem closeCh_paced (c : Ch) (st : ChSt) (u : State) :
    Paced s (closeCh c st u) ↔ Paced s u := paced_of_same (by simp)
@[simp ↓] theorem markBlack_paced (c : Ch) (u : State) : Paced s (markBlack c u) ↔ Paced s u := paced_of_same (by simp)
@[simp ↓] theorem beginServo_paced (c : Ch) (u : State) : Paced s (beginServo c u) ↔ Paced s u := paced_of_same (by simp)
@[simp ↓] theorem driveServo_paced (c : Ch) (u : State) : Paced s (driveServo c u) ↔ Paced s u := paced_of_same (by simp)
@[simp ↓] theorem boostTick_paced (c : Ch) (u : State) : Paced s (boostTick c u) ↔ Paced s u := paced_of_same (by simp)
@[simp ↓] theorem settleRun_paced (r : SwRun) (u : State) : Paced s (settleRun r u) ↔ Paced s u := paced_of_same (by simp)
@[simp ↓] theorem sheetDiff_paced (u : State) : Paced s (sheetDiff u) ↔ Paced s u := paced_of_same (by simp)
@[simp ↓] theorem dropCoef_paced (c : Ch) (u : State) : Paced s (dropCoef c u) ↔ Paced s u := paced_of_same (by simp)
@[simp ↓] theorem trefHook_paced (c : Ch) (u : State) : Paced s (trefHook c u) ↔ Paced s u := paced_of_same (by simp)
@[simp ↓] theorem seqHook_paced (k : Grp) (e : Fin 32) (w : Nat) (u : State) :
    Paced s (seqHook k e w u) ↔ Paced s u := paced_of_same (by simp)
@[simp ↓] theorem slotsHook_paced (g : Fin 48) (w : Nat) (u : State) :
    Paced s (slotsHook g w u) ↔ Paced s u := paced_of_same (by simp)
@[simp ↓] theorem bindHook_paced (c : Ch) (u : State) : Paced s (bindHook c u) ↔ Paced s u := paced_of_same (by simp)
@[simp ↓] theorem modHook_paced (k : Str) (u : State) : Paced s (modHook k u) ↔ Paced s u := paced_of_same (by simp)
@[simp ↓] theorem noteLowDev_paced (c : Ch) (u : State) : Paced s (noteLowDev c u) ↔ Paced s u := paced_of_same (by simp)
@[simp ↓] theorem ntcEnable_paced (old new : Nat) (u : State) :
    Paced s (ntcEnable old new u) ↔ Paced s u := paced_of_same (by simp)
@[simp ↓] theorem chemHook_paced (k : Str) (u : State) : Paced s (chemHook k u) ↔ Paced s u := paced_of_same (by simp)
@[simp ↓] theorem calCaptureLost_paced (u : State) : Paced s (calCaptureLost u) ↔ Paced s u := paced_of_same (by simp)
@[simp ↓] theorem dropDormant_paced (m : Mode) (u : State) : Paced s (dropDormant m u) ↔ Paced s u := paced_of_same (by simp)
@[simp ↓] theorem dropStandby_paced (m : Mode) (u : State) : Paced s (dropStandby m u) ↔ Paced s u := paced_of_same (by simp)
@[simp ↓] theorem driveOutputs_paced (u : State) : Paced s (driveOutputs u) ↔ Paced s u := paced_of_same (by simp)
@[simp ↓] theorem sendStatus_paced (u : State) : Paced s (sendStatus u) ↔ Paced s u := paced_of_same (by simp)
@[simp ↓] theorem sendAnnounce_paced (u : State) : Paced s (sendAnnounce u) ↔ Paced s u := paced_of_same (by simp)
@[simp ↓] theorem reportCh_paced (old : State) (u : State) : Paced s (reportCh old u) ↔ Paced s u := paced_of_same (by simp)
@[simp ↓] theorem lowTick_paced (u : State) : Paced s (lowTick u) ↔ Paced s u := paced_of_same (by simp)
@[simp ↓] theorem riseTick_paced (u : State) : Paced s (riseTick u) ↔ Paced s u := paced_of_same (by simp)
@[simp ↓] theorem modelTick_paced (inp : TickIn) (c : Ch) (u : State) :
    Paced s (modelTick inp c u) ↔ Paced s u := paced_of_same (by simp)

/-! ### The arbiter (R402, R408 to R415) -/

@[simp ↓] theorem startOp_paced (o : Op) (mc : Nat) (u : State) : Paced s (startOp o mc u) ↔ Paced s u := by
  unfold startOp
  split
  · split <;> simp
  · split <;> simp
  · simp
  · simp
  · split <;> simp
  · simp
  · simp
  · simp
  · rfl

@[simp ↓] theorem grantOp_paced (o : Op) (mc : Nat) (queued : Bool) (u : State) :
    Paced s (grantOp o mc queued u) ↔ Paced s u := by
  unfold grantOp
  extract_lets p _ v d e f
  have he : Paced s e ↔ Paced s u := by
    unfold e
    split <;> simp [d, v]
  simp [f, he]

@[simp ↓] theorem dropOp_paced (o : Op) (u : State) : Paced s (dropOp o u) ↔ Paced s u := by
  unfold dropOp
  split
  · split <;> simp
  · split <;> simp
  · simp
  · rfl

@[simp ↓] theorem refuseOp_paced (o : Op) (budget : Nat) (u : State) :
    Paced s (refuseOp o budget u) ↔ Paced s u := by simp [refuseOp]

@[simp ↓] theorem fileOp_paced (o : Op) (u : State) : Paced s (fileOp o u) ↔ Paced s u := by
  unfold fileOp
  extract_lets p _ v
  split <;> simp [v]

@[simp ↓] theorem rejudgeList_paced (l : List Op) (blocked : List Nat) (u : State) :
    Paced s (rejudgeList l blocked u) ↔ Paced s u := by
  induction l generalizing blocked u with
  | nil => rfl
  | cons o l ih =>
    unfold rejudgeList
    split
    · split <;> simp [ih]
    · rw [ih]

@[simp ↓] theorem rejudge_paced (u : State) : Paced s (rejudge u) ↔ Paced s u := by simp [rejudge]

@[simp ↓] theorem returnOp_paced (id : Nat) (u : State) : Paced s (returnOp id u) ↔ Paced s u := by simp [returnOp]

@[simp ↓] theorem withdrawOp_paced (o : Op) (dec : Nat) (u : State) : Paced s (withdrawOp o dec u) ↔ Paced s u := by
  unfold withdrawOp
  extract_lets _ v d e f
  have hf : Paced s f ↔ Paced s u := by
    unfold f
    split <;> simp [e, d, v]
  simp [hf]

@[simp ↓] theorem withdrawCh_paced (c : Ch) (dec : Nat) (u : State) : Paced s (withdrawCh c dec u) ↔ Paced s u := by
  unfold withdrawCh
  extract_lets v
  have hv : Paced s v ↔ Paced s u := by
    unfold v
    split <;> simp
  split <;> simp [hv]

@[simp ↓] theorem fileInrush_paced (c : Ch) (f : Filer) (tag : Option Nat) (u : State) :
    Paced s (fileInrush c f tag u) ↔ Paced s u := by
  unfold fileInrush
  simp

@[simp ↓] theorem autoFile_paced (c : Ch) (u : State) : Paced s (autoFile c u) ↔ Paced s u := by simp [autoFile]

@[simp ↓] theorem autoFileAll_paced (u : State) : Paced s (autoFileAll u) ↔ Paced s u := by simp [autoFileAll]

@[simp ↓] theorem fileWalkin_paced (c : Ch) (u : State) : Paced s (fileWalkin c u) ↔ Paced s u := by simp [fileWalkin]

@[simp ↓] theorem fileWalkins_paced (u : State) : Paced s (fileWalkins u) ↔ Paced s u := by simp [fileWalkins]

/-! ### Limits, tests and openings (R128, R238, R243, R438) -/

@[simp ↓] theorem putLimit_paced (c : Ch) (l : Option Nat) (u : State) : Paced s (putLimit c l u) ↔ Paced s u := by
  unfold putLimit sendSet
  simp

@[simp ↓] theorem liftAll_paced (u : State) : Paced s (liftAll u) ↔ Paced s u := by simp [liftAll]

@[simp ↓] theorem liftLimits_paced (u : State) : Paced s (liftLimits u) ↔ Paced s u := by simp [liftLimits]

@[simp ↓] theorem endTest_paced (outcome learned : Nat) (u : State) : Paced s (endTest outcome learned u) ↔ Paced s u := by
  unfold endTest
  split
  · rfl
  · extract_lets w st sev obj _ v v1 v2 v3 v4 v5
    have h3 : Paced s v3 ↔ Paced s u := by
      unfold v3
      split <;> simp [v2, v1, v]
    simp [v5, v4, h3]

@[simp ↓] theorem endTestOf_paced (c : Ch) (u : State) : Paced s (endTestOf c u) ↔ Paced s u := by
  unfold endTestOf
  split <;> simp

@[simp ↓] theorem leaveSet_paced (c : Ch) (u : State) : Paced s (leaveSet c u) ↔ Paced s u := by
  unfold leaveSet
  split
  · rfl
  · extract_lets ops b v
    split <;> simp [v, b]

@[simp ↓] theorem endRestores_paced (u : State) : Paced s (endRestores u) ↔ Paced s u := by
  unfold endRestores
  split <;> simp

@[simp ↓] theorem endInrush_paced (c : Ch) (ok : Bool) (u : State) : Paced s (endInrush c ok u) ↔ Paced s u := by
  unfold endInrush
  split
  · rfl
  · extract_lets x w far op v drop id _ v1 st v2
    have h2 : Paced s v2 ↔ Paced s u := by
      unfold v2
      split <;> simp [v1, v]
    simp [h2]

@[simp ↓] theorem openTo_paced (c : Ch) (st : ChSt) (g : Gate) (u : State) : Paced s (openTo c st g u) ↔ Paced s u := by
  simp [openTo]

@[simp ↓] theorem shutCh_paced (c : Ch) (st : ChSt) (g : Gate) (u : State) : Paced s (shutCh c st g u) ↔ Paced s u := by
  simp [shutCh]

@[simp ↓] theorem cancelWait_paced (c : Ch) (dec : Nat) (u : State) : Paced s (cancelWait c dec u) ↔ Paced s u := by
  simp [cancelWait]

@[simp ↓] theorem openAll_paced (u : State) : Paced s (openAll u) ↔ Paced s u := by simp [openAll]

@[simp ↓] theorem shedCh_paced (c : Ch) (u : State) : Paced s (shedCh c u) ↔ Paced s u := by
  unfold shedCh
  extract_lets v
  split <;> simp [v]

@[simp ↓] theorem shedBy_paced (j : Nat) (c : Ch) (u : State) : Paced s (shedBy j c u) ↔ Paced s u := by simp [shedBy]

/-! ### Parameters that come into force, and the modes (R12, R33 to R38) -/

@[simp ↓] theorem gainDiff_paced (u : State) : Paced s (gainDiff u) ↔ Paced s u := by simp [gainDiff]

@[simp ↓] theorem roleNow_paced (c : Ch) (u : State) : Paced s (roleNow c u) ↔ Paced s u := by
  unfold roleNow
  simp

@[simp ↓] theorem chHook_paced (c : Ch) (off : Nat) (u : State) : Paced s (chHook c off u) ↔ Paced s u := by
  simp [chHook, roleHook]

@[simp ↓] theorem forceHook_paced (id : Nat) (u : State) : Paced s (forceHook id u) ↔ Paced s u := by
  unfold forceHook
  split
  · simp
  · split_ifs <;> simp

@[simp ↓] theorem takeForce_paced (id : Nat) (u : State) : Paced s (takeForce id u) ↔ Paced s u := by
  unfold takeForce
  simp

@[simp ↓] theorem forceAll_paced (e : PEff) (u : State) : Paced s (forceAll e u) ↔ Paced s u := by
  unfold forceAll
  simp

@[simp ↓] theorem endPeak_paced (withdrawn : Bool) (u : State) : Paced s (endPeak withdrawn u) ↔ Paced s u := by
  unfold endPeak
  split
  · rfl
  · extract_lets op b v
    clear_value op
    cases op <;> simp [v, b]

@[simp ↓] theorem changeMode_paced (m : Mode) (cause : Nat) (u : State) : Paced s (changeMode m cause u) ↔ Paced s u := by
  unfold changeMode
  simp

@[simp ↓] theorem beforeMode_paced (m : Mode) (u : State) : Paced s (beforeMode m u) ↔ Paced s u := by
  simp [beforeMode, openTests]

@[simp ↓] theorem leaveMode_paced (old m : Mode) (u : State) : Paced s (leaveMode old m u) ↔ Paced s u := by
  unfold leaveMode
  simp

@[simp ↓] theorem enterMode_paced (m : Mode) (cause : Nat) (u : State) : Paced s (enterMode m cause u) ↔ Paced s u := by
  simp [enterMode]

@[simp ↓] theorem tryRecharge_paced (u : State) : Paced s (tryRecharge u) ↔ Paced s u := by simp [tryRecharge]

@[simp ↓] theorem handoverEntry_paced (u : State) : Paced s (handoverEntry u) ↔ Paced s u := by simp [handoverEntry]

@[simp ↓] theorem enterStandby_paced (tag : Option Nat) (u : State) : Paced s (enterStandby tag u) ↔ Paced s u := by
  unfold enterStandby
  split
  · simp
  · cases tag <;> simp

@[simp ↓] theorem standbyTick_paced (u : State) : Paced s (standbyTick u) ↔ Paced s u := by simp [standbyTick]

/-! ### Trips and attempts (R192 to R209) -/

@[simp ↓] theorem tripIn_paced (rules : Nat) (told : List Nat) (c : Ch) (met : List Nat) (u : State) :
    Paced s (tripIn rules told c met u) ↔ Paced s u := by
  unfold tripIn
  simp

@[simp ↓] theorem retryCauses_paced (c : Ch) (met : List Nat) (u : State) : Paced s (retryCauses c met u) ↔ Paced s u := by
  unfold retryCauses
  simp

@[simp ↓] theorem meetIn_paced (rules : Nat) (told : List Nat) (c : Ch) (met : List Nat) (u : State) :
    Paced s (meetIn rules told c met u) ↔ Paced s u := by
  unfold meetIn
  simp

@[simp ↓] theorem meetCauses_paced (c : Ch) (met : List Nat) (u : State) : Paced s (meetCauses c met u) ↔ Paced s u := by
  simp [meetCauses]

@[simp ↓] theorem beginAttempt_paced (free : Bool) (c : Ch) (u : State) : Paced s (beginAttempt free c u) ↔ Paced s u := by
  simp [beginAttempt]

@[simp ↓] theorem yoyoTick_paced (c : Ch) (u : State) : Paced s (yoyoTick c u) ↔ Paced s u := by
  unfold yoyoTick
  dsimp only
  split
  · simp
  · split
    · rfl
    · split <;> simp

/-! ### Inrushes (R171 to R184) -/

@[simp ↓] theorem afterClose_paced (c : Ch) (u : State) : Paced s (afterClose c u) ↔ Paced s u := by
  unfold afterClose
  simp

@[simp ↓] theorem closeInrush_paced (c : Ch) (u : State) : Paced s (closeInrush c u) ↔ Paced s u := by simp [closeInrush]

@[simp ↓] theorem endFet_paced (c : Ch) (u : State) : Paced s (endFet c u) ↔ Paced s u := by simp [endFet]

@[simp ↓] theorem enterInrush_paced (c : Ch) (u : State) : Paced s (enterInrush c u) ↔ Paced s u := by
  unfold enterInrush
  extract_lets x
  split
  · rfl
  · simp

@[simp ↓] theorem inrushTick_paced (c : Ch) (mv : Nat) (u : State) : Paced s (inrushTick c mv u) ↔ Paced s u := by
  unfold inrushTick
  split
  · rfl
  · simp

/-! ### Actions and restorations of a channel (Table 5.8, R290, R588) -/

@[simp ↓] theorem ctrlAct_paced (act : Nat) (c : Ch) (u : State) : Paced s (ctrlAct act c u) ↔ Paced s u := by
  unfold ctrlAct
  simp

@[simp ↓] theorem ctrlOne_paced (act : Nat) (c : Ch) (p : SwRun × State) : Paced s (ctrlOne act c p).2 ↔ Paced s p.2 := by
  unfold ctrlOne
  split
  · rfl
  · split <;> simp

@[simp ↓] theorem carryHeld_paced (h : HeldSw) (u : State) : Paced s (carryHeld h u) ↔ Paced s u := by
  unfold carryHeld
  simp

@[simp ↓] theorem switchTick_paced (u : State) : Paced s (switchTick u) ↔ Paced s u := by simp [switchTick]

@[simp ↓] theorem returnCh_paced (id : Nat) (c : Ch) (u : State) : Paced s (returnCh id c u) ↔ Paced s u := by
  unfold returnCh
  simp

@[simp ↓] theorem backNow_paced (id : Nat) (c : Ch) (u : State) : Paced s (backNow id c u) ↔ Paced s u := by simp [backNow]

/-! ### The parts of a tick (R24, R46, R149, R317) -/

@[simp ↓] theorem busTick_paced (mv16 : Int) (u : State) : Paced s (busTick mv16 u) ↔ Paced s u := by
  unfold busTick
  simp

@[simp ↓] theorem presenceTick_paced (c : Ch) (vs16 : Int) (u : State) : Paced s (presenceTick c vs16 u) ↔ Paced s u := by
  unfold presenceTick
  simp

@[simp ↓] theorem countTick_paced (x : ChSense) (c : Ch) (u : State) : Paced s (countTick x c u) ↔ Paced s u := by
  simp [countTick]

@[simp ↓] theorem causeTick_paced (c : Ch) (u : State) : Paced s (causeTick c u) ↔ Paced s u := by
  simp [causeTick, meetTick]

@[simp ↓] theorem doAct_paced (c : Ch) (a : ChAct) (u : State) : Paced s (doAct c a u) ↔ Paced s u := by
  cases a <;> simp [doAct]

@[simp ↓] theorem heldTick_paced (c : Ch) (u : State) : Paced s (heldTick c u) ↔ Paced s u := by
  unfold heldTick heldMeet
  simp

@[simp ↓] theorem fieldOpen_paced (c : Ch) (u : State) : Paced s (fieldOpen c u) ↔ Paced s u := by simp [fieldOpen]

@[simp ↓] theorem tokenTick_paced (c : Ch) (u : State) : Paced s (tokenTick c u) ↔ Paced s u := by simp [tokenTick]

@[simp ↓] theorem moveTick_paced (x : ChSense) (c : Ch) (u : State) : Paced s (moveTick x c u) ↔ Paced s u := by
  unfold moveTick
  simp [retryTick]

end Sys2Proof.Machine
end

section
/-! A black start is never begun by what a tick carries out (R585): it begins at the host's request alone. -/

namespace Sys2Proof.Machine

variable {s t u : State}

/-- Where no black start is under way before, none is after. -/
def Unlit (s t : State) : Prop := s.sys.blackStart = false → t.sys.blackStart = false

theorem Unlit.trans (h : Unlit s t) (k : Unlit t u) : Unlit s u := fun hs => k (h hs)

theorem unlit_of_same (h : Same 8589934559 s t) : Unlit s t := fun hs => (congrArg Sys.blackStart (h.part .sys rfl)).trans hs

theorem unlit_ite {p : Prop} [Decidable p] (ht : p → Unlit s t) (hu : ¬p → Unlit s u) : Unlit s (if p then t else u) := by
  split
  · exact ht ‹_›
  · exact hu ‹_›

theorem forEach_unlit {α : Type} {f : α → State → State} (h : ∀ a t, Unlit t (f a t)) (l : List α) (s : State) :
    Unlit s (forEach l f s) := by
  induction l generalizing s with
  | nil => exact fun hs => hs
  | cons a l ih => exact (h a s).trans (ih _)

theorem entered_blackStart {m : Mode} {y : Sys} (h : y.blackStart = false) : (y.entered m).blackStart = false := by
  unfold Sys.entered
  split
  · rfl
  · exact h

theorem enterMode_unlit (m : Mode) (c : Nat) (s : State) : Unlit s (enterMode m c s) := fun hs => by
  by_cases h : s.sys.mode = m
  · rwa [enterMode, if_pos h]
  · rw [enterMode_sys h]
    exact entered_blackStart hs

theorem enterStandby_unlit (tag : Option Nat) (s : State) : Unlit s (enterStandby tag s) := by
  unfold enterStandby
  refine unlit_ite (fun _ hs => hs) fun _ => ?_
  have h : Unlit s (enterMode .standby Cause.host (openAll s)) :=
    (unlit_of_same (by simp)).trans (enterMode_unlit _ _ _)
  cases tag with
  | none => exact h
  | some id => exact h.trans (unlit_of_same (by simp))

theorem standbyTick_unlit (s : State) : Unlit s (standbyTick s) := by
  unfold standbyTick
  refine unlit_ite (fun _ hs => hs) fun _ hs => enterStandby_unlit _ _ ?_
  exact hs

/-! ### A channel that closes (R174, R238, Table 2.2) -/

theorem tryRecharge_unlit (s : State) : Unlit s (tryRecharge s) :=
  unlit_ite (fun _ => enterMode_unlit _ _ s) fun _ hs => hs

theorem afterClose_unlit (c : Ch) (s : State) : Unlit s (afterClose c s) := by
  unfold afterClose
  refine unlit_ite (fun _ => ?_) fun _ hs => hs
  extract_lets _ v _ w
  have hw : Unlit s w := unlit_of_same (by simp [w, v])
  exact (hw.trans (tryRecharge_unlit w)).trans (unlit_of_same (by simp))

theorem markBlack_unlit (c : Ch) (s : State) : Unlit s (markBlack c s) := unlit_ite (fun _ hs => hs) fun _ hs => hs

theorem closeInrush_unlit (c : Ch) (s : State) : Unlit s (closeInrush c s) := by
  unfold closeInrush
  extract_lets st v w
  have hw : Unlit s w := unlit_of_same (by simp [w, v])
  exact (hw.trans (markBlack_unlit c w)).trans (afterClose_unlit c _)

theorem enterInrush_unlit (c : Ch) (s : State) : Unlit s (enterInrush c s) := by
  unfold enterInrush
  extract_lets x
  split
  · exact fun hs => hs
  · extract_lets fet f r v
    have hv : Unlit s v := unlit_of_same (by simp [v])
    refine unlit_ite (fun _ hs => hs) fun _ => unlit_ite (fun _ => unlit_of_same (by simp)) fun _ => ?_
    exact unlit_ite (fun _ => hv.trans (closeInrush_unlit c v)) fun _ => hv

theorem tokenTick_unlit (c : Ch) (s : State) : Unlit s (tokenTick c s) :=
  unlit_ite (fun _ hs => hs) fun _ => unlit_ite (fun _ => unlit_of_same (by simp)) fun _ => enterInrush_unlit c s

theorem inrushTick_unlit (c : Ch) (mv : Nat) (s : State) : Unlit s (inrushTick c mv s) := by
  unfold inrushTick
  split
  · exact fun hs => hs
  · refine unlit_ite (fun _ => unlit_of_same (by simp)) fun _ => unlit_ite (fun _ => unlit_of_same (by simp)) fun _ => ?_
    exact unlit_ite (fun _ => closeInrush_unlit c s) fun _ => unlit_of_same (by simp)

/-! ### The parts of a tick that may close a channel -/

theorem moveTick_unlit (x : ChSense) (c : Ch) (s : State) : Unlit s (moveTick x c s) := by
  unfold moveTick
  refine unlit_ite (fun _ hs => hs) fun _ => unlit_ite (fun _ hs => hs) fun _ => unlit_ite (fun _ hs => hs) fun _ => ?_
  extract_lets v was w follow z z1 z2
  have hv : Unlit s v := unlit_of_same (by simp [v])
  have hw : Unlit s w := (hv.trans (tokenTick_unlit c v)).trans (unlit_of_same (by simp [w]))
  have hz : Unlit s z := unlit_ite (fun _ => hw.trans (inrushTick_unlit c follow w)) fun _ => hw
  exact hz.trans (unlit_of_same (by simp [z2, z1]))

theorem ctrlAct_unlit (act : Nat) (c : Ch) (s : State) : Unlit s (ctrlAct act c s) := by
  unfold ctrlAct
  refine unlit_ite (fun _ hs => hs) fun _ => unlit_ite (fun _ => unlit_of_same (by simp)) fun _ => ?_
  refine unlit_ite (fun _ => (unlit_of_same (by simp)).trans (afterClose_unlit c _)) fun _ => unlit_of_same (by simp)

theorem ctrlOne_unlit (act : Nat) (c : Ch) (p : SwRun × State) : Unlit p.2 (ctrlOne act c p).2 := by
  unfold ctrlOne
  split
  · exact fun hs => hs
  · split <;> exact ctrlAct_unlit act c p.2

theorem carryHeld_unlit (h : HeldSw) (s : State) : Unlit s (carryHeld h s) := by
  unfold carryHeld
  extract_lets rest run _ p
  have hp : Unlit s p.2 := fun hs => ctrlOne_unlit h.act h.ch _ hs
  exact hp.trans (unlit_of_same (by simp))

theorem switchTick_unlit (s : State) : Unlit s (switchTick s) := forEach_unlit carryHeld_unlit _ s

theorem returnCh_unlit (id : Nat) (c : Ch) (s : State) : Unlit s (returnCh id c s) := by
  unfold returnCh
  dsimp only
  refine unlit_ite (fun _ => unlit_ite (fun _ => ?_) fun _ => unlit_of_same (by simp)) fun _ => unlit_of_same (by simp)
  exact (unlit_of_same (by simp)).trans (afterClose_unlit c _)

theorem doAct_unlit (c : Ch) (a : ChAct) (s : State) : Unlit s (doAct c a s) := by
  cases a with
  | back id =>
    let v := setOpen id (·.filter (· != c)) s
    have hv : Unlit s v := unlit_of_same (by simp [v])
    have hend : Unlit (returnCh id c v) (endRestores (returnCh id c v)) := unlit_of_same (by simp)
    exact (hv.trans (returnCh_unlit id c v)).trans hend
  | _ => exact unlit_of_same (by simp [doAct])

theorem heldTick_unlit (c : Ch) (s : State) : Unlit s (heldTick c s) := by
  unfold heldTick
  refine unlit_ite (fun _ hs => hs) fun _ => ?_
  extract_lets v w todo
  have hv : Unlit s v := unlit_of_same (by simp [v])
  have hw : Unlit s w := hv.trans (unlit_of_same (by simp [w]))
  refine unlit_ite (fun _ => hv) fun _ => unlit_ite (fun _ => hw) fun _ => ?_
  exact (hw.trans (unlit_of_same (by simp))).trans (forEach_unlit (doAct_unlit c) todo _)

end Sys2Proof.Machine
end

section
/-! A shedding step that a tick carries out, a restoration, and the obligation on the drum. -/

namespace Sys2Proof.Machine

variable {s u : State} {inp : TickIn} {k : Nat}

/-! ### The Marionettes' tick (R24, R231, R283) -/

/-- A tick up to the strobe and the steps: what is measured, counted and met. -/
def tickMet (inp : TickIn) (s : State) : State :=
  forEach allCh causeTick (forEach allCh heldTick (forEach allCh (fun c => countTick (inp.ch.get c) c)
    (forEach allCh (modelTick inp) (busTick inp.busMv16 { s with tin := { s.tin with watch := s.tin.watch % 32 } }))))

/-- A tick after the steps: the held actions, the channels' transitions, and the commands that wait for them. -/
def tickMoved (inp : TickIn) (s : State) : State :=
  lowTick (standbyTick (riseTick (forEach allCh (fun c => moveTick (inp.ch.get c) c) (switchTick s))))

theorem tick_eq (hon : s.cnv.on = true) {v : State} (hv : v = settleLines (elapse clkUs s)) :
    tick inp s =
      afterEvents v (tickMoved inp (restoreTick (stepTick (forEach allGrp strobeGroup (tickMet inp v))))) := by
  subst hv
  unfold tick
  exact if_neg (by simp [hon])

theorem tickMet_paced (inp : TickIn) (s : State) : Paced s (tickMet inp s) := by
  unfold tickMet
  simp

theorem tickMet_unlit (inp : TickIn) (s : State) : Unlit s (tickMet inp s) := by
  unfold tickMet
  generalize hu : forEach allCh (fun c => countTick (inp.ch.get c) c) _ = u
  have h : Unlit s u := unlit_of_same (by simp [← hu])
  exact (h.trans (forEach_unlit heldTick_unlit allCh u)).trans (unlit_of_same (by simp))

theorem tickMet_grp (inp : TickIn) (s : State) : (tickMet inp s).grp = s.grp := by
  have h : Same (8589934591 - 2 ^ 11) s (tickMet inp s) := by
    unfold tickMet
    simp
  exact h.part .grp rfl

/-- Without a strobe the Marionettes have none to meet (R140). -/
theorem strobeGroups_idle (h : ∀ g, (s.group g).strobe = false) : forEach allGrp strobeGroup s = s :=
  forEach_fixed fun g _ => if_pos (by simp [h g])

/-- The stages up to a step's are shed, and the gap of R231 starts. -/
theorem shedTo_takes (h : s.bus.stage < k) :
    Paced { s with bus := { s.bus with stage := k, stepAt := some s.clock } } (shedTo k s) := by
  unfold shedTo
  rw [if_neg (Nat.not_le.2 h)]
  simp

theorem stepTick_takes (hnow : s.bus.stepNow = some k) (ho : s.tin.override = false) :
    stepTick s = shedTo k { s with bus := { s.bus with stepNow := none } } := by
  rw [stepTick, hnow]
  exact if_neg (by simp [ho])

theorem stepTick_unlit (s : State) : Unlit s (stepTick s) := unlit_of_same (by simp)

theorem tickMoved_paced (inp : TickIn) (s : State) : Paced s (tickMoved inp s) := by
  unfold tickMoved
  simp

theorem tickMoved_unlit (inp : TickIn) (s : State) : Unlit s (tickMoved inp s) := by
  unfold tickMoved
  have hmove : Unlit s (forEach allCh (fun c => moveTick (inp.ch.get c) c) (switchTick s)) :=
    (switchTick_unlit s).trans (forEach_unlit (fun c t => moveTick_unlit _ c t) _ _)
  generalize forEach allCh (fun c => moveTick (inp.ch.get c) c) (switchTick s) = u at hmove ⊢
  have hrise : Unlit u (riseTick u) := unlit_of_same (by simp)
  exact ((hmove.trans hrise).trans (standbyTick_unlit _)).trans (unlit_of_same (by simp))

/-- Without a black start nothing that follows a tick asks for a step. -/
theorem afterEvents_paced (h : u.sys.blackStart = false) (old : State) : Paced u (afterEvents old u) := by
  have hnext : blackNext 24 u = u := if_pos (by simp [h])
  unfold afterEvents
  rw [hnext]
  simp

theorem afterEvents_clock (old u : State) : (afterEvents old u).clock = u.clock :=
  (show Same 2549217144 u (afterEvents old u) by simp).part .clock rfl

/-- What a tick does from the steps on, with one that waits: it sheds, and nothing that follows asks for another. -/
theorem ticked_sheds (old : State) (hnow : s.bus.stepNow = some k) (hstage : s.bus.stage < k)
    (hres : s.bus.restoreNow = false) (ho : s.tin.override = false) (hblack : s.sys.blackStart = false)
    (hu : u = afterEvents old (tickMoved inp (restoreTick (stepTick s)))) :
    u.bus.stage = k ∧ u.bus.stepNow = none ∧ u.bus.stepAt = some u.clock := by
  let w := { s with bus := { s.bus with stepNow := none } }
  have hd : Paced { w with bus := { w.bus with stage := k, stepAt := some w.clock } } (shedTo k w) := shedTo_takes hstage
  have hdbus := hd.bus
  simp only [Bus.pace, Prod.mk.injEq] at hdbus
  obtain ⟨-, -, -, hdres⟩ := hdbus
  have hnone : (shedTo k w).bus.restoreNow = false := hdres.trans hres
  have hstep : stepTick s = shedTo k w := stepTick_takes hnow ho
  have hdblack : (shedTo k w).sys.blackStart = false := by
    rw [← hstep]
    exact stepTick_unlit s hblack
  rw [hstep, restoreTick, if_neg (by simp [hnone])] at hu
  have hz : Paced (shedTo k w) u :=
    hu ▸ (tickMoved_paced inp _).trans (afterEvents_paced (tickMoved_unlit inp _ hdblack) old)
  have hclock : u.clock = w.clock := by
    have h : Same 8589934589 w (tickMoved inp (shedTo k w)) := by
      unfold tickMoved
      simp
    rw [hu, afterEvents_clock]
    exact h.part .clock rfl
  have ht := (hd.trans hz).bus
  simp only [Bus.pace, Prod.mk.injEq] at ht
  obtain ⟨htstage, htnow, htat, -⟩ := ht
  exact ⟨htstage, htnow, htat.trans (congrArg some hclock.symm)⟩

theorem marionetteTick_sheds (hrun : mbRuns s = true) (hnow : s.bus.stepNow = some k) (hstage : s.bus.stage < k)
    (hres : s.bus.restoreNow = false) (ho : s.tin.override = false) (hblack : s.sys.blackStart = false)
    (hstrobe : ∀ g, (s.group g).strobe = false) :
    ∃ t, exec (.marionetteTick inp) s = .next t ∧ t.bus.stage = k ∧ t.bus.stepNow = none ∧ t.bus.stepAt = some t.clock := by
  have hon : s.cnv.on = true := by
    simp only [mbRuns, Bool.and_eq_true] at hrun
    simp [hrun]
  generalize hv : settleLines (elapse clkUs s) = v
  have hvs : Paced s v := hv ▸ ⟨by simp, by simp⟩
  have hvblack : v.sys.blackStart = false := by simpa [← hv] using hblack
  have hvgrp : v.grp = s.grp := by simp [← hv]
  generalize hm : tickMet inp v = m
  have hms : Paced s m := hm ▸ hvs.trans (tickMet_paced inp v)
  have hmblack : m.sys.blackStart = false := hm ▸ tickMet_unlit inp v hvblack
  have hmgrp : m.grp = s.grp := hm ▸ (tickMet_grp inp v).trans hvgrp
  have hmbus := hms.bus
  simp only [Bus.pace, Prod.mk.injEq] at hmbus
  obtain ⟨hmstage, hmnow, -, hmres⟩ := hmbus
  have hstrobes : forEach allGrp strobeGroup m = m := strobeGroups_idle fun g => by
    rw [State.group, hmgrp]
    exact hstrobe g
  have htick : tick inp s = afterEvents v (tickMoved inp (restoreTick (stepTick m))) := by
    rw [tick_eq hon hv.symm, hm, hstrobes]
  exact ⟨_, congrArg Host.Outcome.next htick, ticked_sheds v (hmnow.trans hnow) (by rwa [hmstage]) (hmres.trans hres)
    (hms.override.trans ho) hmblack rfl⟩

/-! ### Restorations (R233, R588) -/

theorem shedRestore_idle (h : s.bus.restore = none) : exec .shedRestore s = .next s := by
  have hcarry : carryRestore s = s := by rw [carryRestore, h]
  show Host.Outcome.next (reportCh s (carryRestore s)) = _
  rw [hcarry, reportCh_unchanged rfl]

/-- A granted restoration of a stage that holds no channel lowers the stage alone. -/
theorem shedRestore_lowers {id : Nat} (hr : s.bus.restore = some id) (ho : s.tin.override = false)
    (hl : stageChs s s.bus.stage = []) (hg : s.adm.grants = []) :
    ∃ t, exec .shedRestore s = .next t ∧ t.bus.stage = s.bus.stage - 1 ∧ t.bus.restore = none ∧
      t.bus.restoreAt = some s.clock ∧ t.ch = s.ch := by
  let t := { s with bus := { s.bus with
    restore := none, restoreNow := false, restoreAt := some s.clock, stage := s.bus.stage - 1 } }
  have hend : endRestores t = t := by
    unfold endRestores
    rw [show t.adm.grants = [] from hg]
    rfl
  have hcarry : carryRestore s = t := by
    rw [carryRestore, hr]
    dsimp only
    rw [if_neg (by simp [ho]), hl]
    exact hend
  refine ⟨t, ?_, rfl, rfl, rfl, rfl⟩
  show Host.Outcome.next (reportCh s (carryRestore s)) = _
  rw [hcarry, reportCh_unchanged (s := s) (t := t) rfl]

/-! ### The obligation -/

/-- Settles O30: an entry acts once, in its turn, and each action leaves at its pin what Table 10.5 says. -/
theorem theDrumsEntriesActAtTheirPins : Obligations.TheDrumsEntriesActAtTheirPins := by
  intro s e w hw hrun
  refine ⟨fun h i hi => ?_, fun hnext => ⟨fun ha k n => drumConvert_starts hrun hw hnext ha, drumTrack_closes hrun hw hnext,
    fun ha k => drumProbe_signs hrun hw hnext ha, drumSetpoint_corrects hrun hw hnext, drumShed_latches hrun hw hnext,
    drumSwitch_due hrun hw hnext, drumNotify_notes hrun hw hnext⟩,
    fun k inp hnow hstage hres ho hblack _ hstrobe _ => marionetteTick_sheds hrun hnow hstage hres ho hblack hstrobe,
    shedRestore_idle, fun id => shedRestore_lowers⟩
  simp only [List.mem_cons, List.not_mem_nil, or_false] at hi
  rcases hi with rfl | rfl | rfl | rfl | rfl | rfl | rfl <;> exact congrArg _ (atEntry_idle h _)

end Sys2Proof.Machine
end
